-- ==== Sys2Proof/Word.lean ====
section
/-! DEFINITION. The word types of the device: every register is 32 bits wide (R10), a Tamane register and a control and
status register of a core 64 bits (R100, R108), a line 64 B and a sector 16 B (spec/00_scope.md, Terms). -/

namespace Sys2Proof

/-- A register word (R10). -/
abbrev Word := BitVec 32

/-- A 64-bit value of a core, an entry of the tier map, a tide. -/
abbrev DWord := BitVec 64

/-- One byte. -/
abbrev Byte := BitVec 8

/-- One line of 64 B; byte n stands in bits [8n + 7 : 8n] (R9). -/
abbrev Line := BitVec 512

/-- One sector of 16 B. -/
abbrev Sector := BitVec 128

end Sys2Proof
end

