-- ==== Sys2Proof/Machine/Bits.lean ====
section
/-! DEFINITION. Bit fields of registers, entries and frames (R8: bit 0 is the least significant bit, a range includes
both ends), byte order (R9: little-endian) and sign extension. -/

namespace Sys2Proof.Machine

/-- Bits [hi:lo] of a number. -/
def nfld (n hi lo : Nat) : Nat := n / 2 ^ lo % 2 ^ (hi + 1 - lo)

/-- The number with bits [hi:lo] set to `v`, which is cut to the field. -/
def nset (n hi lo v : Nat) : Nat :=
  let m := 2 ^ (hi + 1 - lo)
  n - nfld n hi lo * 2 ^ lo + v % m * 2 ^ lo

/-- Bits [hi:lo] of a word. -/
def fld {w : Nat} (x : BitVec w) (hi lo : Nat) : Nat := nfld x.toNat hi lo

/-- A word with bits [hi:lo] set to `v`. -/
def setFld {w : Nat} (x : BitVec w) (hi lo v : Nat) : BitVec w := BitVec.ofNat w (nset x.toNat hi lo v)

/-- Bit `i` of a word. -/
def bit {w : Nat} (x : BitVec w) (i : Nat) : Bool := x.toNat.testBit i

/-- A word with bit `i` set to `b`. -/
def setBit {w : Nat} (x : BitVec w) (i : Nat) (b : Bool) : BitVec w := setFld x i i (if b then 1 else 0)

/-- The number of a truth value. -/
def b2n (b : Bool) : Nat := if b then 1 else 0

/-- A 16-bit field sign-extended to 64 bits (R110). -/
def sext16 (x : BitVec 16) : BitVec 64 := x.signExtend 64

/-- Bytes, lowest address first, of a number of `n` bytes (R9). -/
def toBytes : Nat → Nat → List (BitVec 8)
  | 0, _ => []
  | n + 1, v => BitVec.ofNat 8 v :: toBytes n (v / 256)

/-- The number that bytes spell, lowest address first (R9). -/
def ofBytes : List (BitVec 8) → Nat
  | [] => 0
  | b :: r => b.toNat + 256 * ofBytes r

/-- The exclusive-OR of the first `n` 2-bit fields of a number. -/
def xor2 : Nat → Nat → Nat
  | 0, _ => 0
  | n + 1, v => (v % 4) ^^^ xor2 n (v / 4)

/-- The number of 1 bits among the first `n` bits. -/
def popCount : Nat → Nat → Nat
  | 0, _ => 0
  | n + 1, v => v % 2 + popCount n (v / 2)

/-- The lowest 1 bit among the first `n` bits; `n` when there is none. -/
def lowBit : Nat → Nat → Nat
  | 0, _ => 0
  | n + 1, v => if v % 2 = 1 then 0 else 1 + lowBit n (v / 2)

/-- The positions of the 1 bits among bits `k` to `k + n - 1`, ascending. -/
def bitsOf : Nat → Nat → Nat → List Nat
  | 0, _, _ => []
  | n + 1, k, v => if v.testBit k then k :: bitsOf n (k + 1) v else bitsOf n (k + 1) v

/-- A count that saturates. -/
def satAdd (max a b : Nat) : Nat := min max (a + b)

end Sys2Proof.Machine
end

