-- ==== Sys2Proof/Machine/Crc.lean ====
section
/-! DEFINITION. The CRC-32C of line checks, burst checks and stored records (R538): reflected polynomial 0x82F6_3B78,
initial value and final XOR 0xFFFF_FFFF; and bytes of numbers. -/

namespace Sys2Proof.Machine

def crcStep (c : Nat) : Nat := if c % 2 = 1 then (c / 2) ^^^ 0x82F63B78 else c / 2

def crcBits : Nat → Nat → Nat
  | 0, c => c
  | n + 1, c => crcBits n (crcStep c)

def crcBytes (c : Nat) : List Nat → Nat
  | [] => c
  | b :: r => crcBytes (crcBits 8 (c ^^^ b)) r

/-- CRC-32C of a byte string. -/
def crc32c (l : List Nat) : Nat := crcBytes 0xFFFFFFFF l ^^^ 0xFFFFFFFF

/-- The low `n` bytes of a number, lowest first (R9). -/
def natBytes : Nat → Nat → List Nat
  | 0, _ => []
  | n + 1, v => v % 256 :: natBytes n (v / 256)

/-- The number that bytes spell, lowest first. -/
def bytesNat : List Nat → Nat
  | [] => 0
  | b :: r => b % 256 + 256 * bytesNat r

/-- Words of `w` bytes of a byte string, for `n` words. -/
def words (w : Nat) : Nat → List Nat → List Nat
  | 0, _ => []
  | n + 1, l => bytesNat (l.take w) :: words w n (l.drop w)

/-- The 64 bytes of a line. -/
def lineBytes (l : Line) : List Nat := natBytes 64 l.toNat

/-- The line that 64 bytes spell. -/
def lineOf (b : List Nat) : Line := BitVec.ofNat 512 (bytesNat b)

/-- The line check of a line (R38, R542). -/
def lineCheck (l : Line) : Nat := crc32c (lineBytes l)

/-- Exact division, rounded up. -/
def ceilDiv (a b : Nat) : Nat := (a + b - 1) / b

end Sys2Proof.Machine
end

