-- ==== Sys2Proof/Config.lean ====
section
/-! DEFINITION. What the spec leaves open: values it calls random, values of external standards it does not spell out
(AES, AES key wrap, SHA-384, P-384, LMS, certificates, SPDM), measured quantities, and values it does not fix. Each is a constant without a
body, so that nothing can be proved of it beyond its type. -/

namespace Sys2Proof.Config

/-- The `n`th 32-bit value of the random bit generator (R323, R610, R617). -/
opaque random : Nat → BitVec 32

/-- The `n`th choice that the spec leaves open between the two named outcomes. -/
opaque choice : Nat → Bool

/-- The `n`th value that the spec leaves open, of a word's width. -/
opaque freeWord : Nat → BitVec 32

/-- The `n`th value that the spec leaves open, as a number. -/
opaque freeNat : Nat → Nat

/-- The SHA-384 digest of a byte string, as 48 bytes (R167). -/
opaque sha384 : List Byte → List Byte

/-- Whether an ECDSA P-384 signature verifies: the 160 B key record, message, signature (R168, R609). -/
opaque ecdsaOk : List Byte → List Byte → List Byte → Bool

/-- Whether an LMS signature verifies: the 160 B key record, message, signature (R168, R609). -/
opaque lmsOk : List Byte → List Byte → List Byte → Bool

/-- What the RFC 3394 unwrap of wrapped bytes gives under an AES-256 key; none: its integrity check fails (R333, R612). -/
opaque unwrap : List Byte → List Byte → Option (List Byte)

/-- The unique device secret, 48 B, as Galaux wrote it (R590). -/
opaque uds : List Byte

/-- The boot ROM's bytes (R601, R606). -/
opaque bootRom : List Byte

/-- The P-384 public key of a private scalar, 97 B uncompressed SEC1 (R601). -/
opaque p384 : Nat → List Byte

/-- The ECDH secret of a P-384 private scalar and a public key (R612). -/
opaque ecdh : Nat → List Byte → List Byte

/-- An ECDSA P-384 signature by a private scalar over a message; the last operand numbers the draw it takes (R602). -/
opaque ecdsaSign : Nat → List Byte → Nat → List Byte

/-- The public key that the DeviceID certificate of certificate slot 0 carries (R603). -/
opaque idCertKey : List Byte → List Byte

/-- The Alias certificate that a DeviceID key signs over an Alias public key (R602, R603). -/
opaque aliasCert : Nat → List Byte → List Byte

/-- The public key in which a certificate chain ends (R605). -/
opaque chainKey : List Byte → List Byte

/-- AES-256 encipherment of a block under a 256-bit key (R316). Byte `k` of a key or a block stands at bits 8k to 8k + 7. -/
opaque aes : Nat → BitVec 128 → BitVec 128

/-- The bytes that an SPDM message of the standard answers with: message code and a counter of the exchange (R604). -/
opaque spdm : Nat → Nat → List Nat

/-- A mailbox payload that the CXL specification lays out and spec/ does not: opcode and issuer. -/
opaque cxlPayload : Nat → Nat → List Nat

/-- The value of a target word of an indirect window whose contents the spec does not give: target, word address, and
the number of the read (R63). -/
opaque targetWord : Nat → Nat → Nat → BitVec 32

/-- The way that pseudo-LRU names among a number of candidates (R350, R361), by the number of the choice. -/
opaque lru : Nat → Nat → Nat

/-- Whether a write of the boot header by FIRMWARE_CONFIRM fails in the NOR (PAL_FWSTAT.RESULT 6; no rule says when). -/
opaque norFails : Nat → Bool
/-- A byte of the SPI NOR as it was attached (R592). -/
opaque norByte : Nat → BitVec 8

/-- The SHA-384 digest that OTP holds of Galaux key record `n` (R590). -/
opaque galauxHash : Nat → List Byte

/-- The tides that a slot takes from a device to the next on a launch course: device, link (R496, R501). -/
opaque hopTides : Nat → Nat → Nat

/-- Whether a master that reaches exactly half of the members keeps serving: R519 says both. -/
opaque halfServes : Bool

/-- A word of the OTP package characterisation: node capacitances and edge conductances, by word (R655). -/
opaque pkgWord : Nat → Nat

/-- Whether a word of an indirect target is one of the controls of a PHY or a SerDes that are GK (R65): target, word. -/
opaque targetGk : Nat → Nat → Bool

/-- The entries of a bifurcated port's response buffer, and of a quadrant's conveyor launch buffer (R431). -/
opaque respDepth : Nat
opaque launchDepth : Nat

end Sys2Proof.Config
end

