-- ==== Sys2Proof/Machine/RegMap.lean ====
section
/-! DEFINITION. The register map of the UM9624: the byte offset of every register of the register tables of
spec/02 to spec/21 (R10, R12, R41), and one descriptor per table: where its copies stand, its reset value, which
bits a write sets, clears or turns on, its guard, its reset domain, and whether it is set-held (R176). -/

namespace Sys2Proof.Machine

namespace Reg

/-! Registers of spec/02_register_conventions.md. -/

def IDX_ADDR (n : Nat) : Nat := 0x3F00000 + 16 * n
def IDX_DATA (n : Nat) : Nat := 0x3F00004 + 16 * n
def IDX_STAT (n : Nat) : Nat := 0x3F00008 + 16 * n
def GRD_KEY : Nat := 0x200000
def GRD_STAT : Nat := 0x200004
def GRD_FAILOFF : Nat := 0x200008
def GRD_TESTG (n : Nat) : Nat := 0x200010 + 4 * n
def GEN_ID : Nat := 0
def GEN_MODE : Nat := 4
def GEN_MODEREQ : Nat := 8
def GEN_HOSTACC : Nat := 0xC
def RDY_0 : Nat := 0x100000
def RDY_1 : Nat := 0x100004
def RDY_2 : Nat := 0x100008
def RDY_3 : Nat := 0x10000C
def RDY_4 : Nat := 0x100010
def RDY_5 : Nat := 0x100014
def RDY_6 : Nat := 0x100018
def RDY_7 : Nat := 0x10001C
def RDY_CHG (n : Nat) : Nat := 0x100100 + 4 * n

/-! Registers of spec/03_modes_and_bringup.md. -/

def GEN_RST : Nat := 0x10
def GEN_RSTCAUSE : Nat := 0x14
def GEN_MODEX : Nat := 0x18
def GEN_HOLDLIM : Nat := 0x1C
def GEN_WIPE : Nat := 0x20
def GEN_WIPECH : Nat := 0x24
def GEN_SETSRV : Nat := 0x28

/-! Registers of spec/05_programs_and_config_sets.md. -/

def PAL_SETSTAT : Nat := 0x2800000
def PAL_SETCMD : Nat := 0x2800004
def PAL_COMMITLO : Nat := 0x2800008
def PAL_COMMITHI : Nat := 0x280000C
def PAL_ARMERR : Nat := 0x2800010
def PAL_SETVIEW : Nat := 0x2800014
def PAL_LOADSTAT : Nat := 0x2800020
def PAL_HMTO : Nat := 0x2800024
def PAL_HMSTAT : Nat := 0x2800028
def PAL_CORECTL (n : Nat) : Nat := 0x2800100 + 4 * n

/-! Registers of spec/06_host_ports.md. -/

def HPX_STAT (u : Nat) : Nat := 0x400000 + 0x10000 * u
def HPX_BIF (u : Nat) : Nat := 0x400004 + 0x10000 * u
def HPX_LDCNT (u : Nat) : Nat := 0x400008 + 0x10000 * u
def HPX_ERRSUB (u : Nat) : Nat := 0x40000C + 0x10000 * u
def HPX_TMO (u : Nat) : Nat := 0x400010 + 0x10000 * u
def HPX_ERRCTL (u : Nat) : Nat := 0x400014 + 0x10000 * u
def HPX_L0P (u : Nat) : Nat := 0x400018 + 0x10000 * u
def HPX_OUTST (u : Nat) : Nat := 0x40001C + 0x10000 * u
def HPX_LDMAP (u n : Nat) : Nat := 0x400040 + 0x10000 * u + 4 * n

/-! Registers of spec/07_placement_and_tiers.md. -/

def TIER_CTL : Nat := 0xC00000
def TIER_STAT : Nat := 0xC00004
def TIER_RSVLOW : Nat := 0xC00008
def TIER_FREELOW : Nat := 0xC0000C
def TIER_SETOFF : Nat := 0xC00010
def TIER_ERRPAGE_LO : Nat := 0xC00018
def TIER_ERRPAGE_HI : Nat := 0xC0001C
def TIER_PMSET (n : Nat) : Nat := 0xC00040 + 4 * n
def TIER_MAPCELLS (n : Nat) : Nat := 0xC00100 + 4 * n

/-! Registers of spec/08_compression.md. -/

def CRY_GCTL : Nat := 0x1000000
def CRY_HCTL : Nat := 0x1000004
def CRY_UNITEN : Nat := 0x1000008
def CRY_TEST : Nat := 0x100000C
def CRY_ERRLN_LO : Nat := 0x1000010
def CRY_ERRLN_HI : Nat := 0x1000014
def CRY_PBFLUSH : Nat := 0x1000018

/-! Registers of spec/09_encryption.md. -/

def KEYS_CMD : Nat := 0x1400000
def KEYS_STAT : Nat := 0x1400004
def KEYS_LASTSEQ : Nat := 0x1400008
def KEYS_WRAP (n : Nat) : Nat := 0x1400040 + 4 * n
def KEYS_SLOT (n : Nat) : Nat := 0x1401000 + 4 * n
def KEYS_GEN (n : Nat) : Nat := 0x1405000 + 4 * n
def CRY_XEEN : Nat := 0x1000020
def CRY_XEERR : Nat := 0x1000024

/-! Registers of spec/10_coherence.md. -/

def HOME_CTL : Nat := 0x800000
def HOME_STAT (n : Nat) : Nat := 0x800010 + 4 * n
def HOME_PCSTAT (n : Nat) : Nat := 0x800020 + 4 * n
def HOME_PCFLUSH : Nat := 0x800030
def HOME_SWEEP : Nat := 0x800034
def HOME_DQADDRLO : Nat := 0x800040
def HOME_DQADDRHI : Nat := 0x800044
def HOME_DQDATLO : Nat := 0x800048
def HOME_DQDATHI : Nat := 0x80004C
def HOME_ERR_LO : Nat := 0x800050
def HOME_ERR_HI : Nat := 0x800054

/-! Registers of spec/11_dram_controller.md. -/

def DMC_CTL (u : Nat) : Nat := 0x1800000 + 0x10000 * u
def DMC_STAT (u : Nat) : Nat := 0x1800004 + 0x10000 * u
def DMC_GEOM (u : Nat) : Nat := 0x1800008 + 0x10000 * u
def DMC_TSET (u n : Nat) : Nat := 0x1800010 + 0x10000 * u + 4 * n
def DMC_TRAIN (u : Nat) : Nat := 0x1800020 + 0x10000 * u
def DMC_SCHED (u : Nat) : Nat := 0x1800024 + 0x10000 * u
def DMC_REF (u : Nat) : Nat := 0x1800028 + 0x10000 * u
def DMC_RFM (u : Nat) : Nat := 0x180002C + 0x10000 * u
def DMC_RDT (u : Nat) : Nat := 0x1800030 + 0x10000 * u
def DMC_RDTLOG (u : Nat) : Nat := 0x1800034 + 0x10000 * u
def DMC_CECNT (u : Nat) : Nat := 0x1800038 + 0x10000 * u
def DMC_ERRADDR_LO (u : Nat) : Nat := 0x1800040 + 0x10000 * u
def DMC_ERRADDR_HI (u : Nat) : Nat := 0x1800044 + 0x10000 * u
def DMC_DOWN (u : Nat) : Nat := 0x1800048 + 0x10000 * u
def DMC_PARREB (u : Nat) : Nat := 0x180004C + 0x10000 * u
def DMC_FCHG : Nat := 0x180F000
def DMC_FSTAT : Nat := 0x180F004

/-! Registers of spec/12_bandwidth_regulation.md. -/

def SLU_CTL : Nat := 0xA00000
def SLU_CTL2 : Nat := 0xA00004
def SLU_DELIV : Nat := 0xA00008
def SLU_BOOK : Nat := 0xA0000C
def SLU_SCALE : Nat := 0xA00010
def SLU_URG : Nat := 0xA00014
def SLU_ERR : Nat := 0xA00018
def SLU_STAT (n : Nat) : Nat := 0xA01000 + 4 * n

/-! Registers of spec/13_conveyor_link.md. -/

def CNV_CTL (u : Nat) : Nat := 0x2000000 + 0x10000 * u
def CNV_STAT (u : Nat) : Nat := 0x2000004 + 0x10000 * u
def CNV_PEER (u : Nat) : Nat := 0x2000008 + 0x10000 * u
def CNV_LANEMAP (u : Nat) : Nat := 0x200000C + 0x10000 * u
def CNV_REPLAY (u : Nat) : Nat := 0x2000010 + 0x10000 * u
def CNV_SEQA (u : Nat) : Nat := 0x2000014 + 0x10000 * u
def CNV_SEQB (u : Nat) : Nat := 0x2000018 + 0x10000 * u
def CNV_LAYBY (u : Nat) : Nat := 0x200001C + 0x10000 * u
def CNV_DELAY (u : Nat) : Nat := 0x2000020 + 0x10000 * u
def CNV_LHEALTH (u : Nat) : Nat := 0x2000024 + 0x10000 * u
def CNV_CNT (u : Nat) : Nat := 0x2000028 + 0x10000 * u
def CNV_FEC (u : Nat) : Nat := 0x200002C + 0x10000 * u
def CNV_TRAIN (u : Nat) : Nat := 0x2000030 + 0x10000 * u
def CNV_DOWN (u : Nat) : Nat := 0x2000034 + 0x10000 * u
def CNV_ERR (u : Nat) : Nat := 0x2000038 + 0x10000 * u
def CNV_LANEERR (u n : Nat) : Nat := 0x2000040 + 0x10000 * u + 4 * n

/-! Registers of spec/14_conveyor_pool.md. -/

def POOL_CFG : Nat := 0x2200000
def POOL_STAT : Nat := 0x2200004
def POOL_TOPO : Nat := 0x2200008
def POOL_CIRC : Nat := 0x220000C
def POOL_E2E : Nat := 0x2200010
def POOL_TIDEERR : Nat := 0x2200014
def TIDE_NOW_LO : Nat := 0x2200018
def TIDE_NOW_HI : Nat := 0x220001C
def TIDE_AT_LO : Nat := 0x2200020
def TIDE_AT_HI : Nat := 0x2200024
def POOL_COURSE : Nat := 0x2200030
def POOL_FOLD : Nat := 0x2200034
def POOL_CNT0 : Nat := 0x2200040
def POOL_CNT1 : Nat := 0x2200044
def POOL_ERR : Nat := 0x2200048
def POOL_PAD (n : Nat) : Nat := 0x2200050 + 4 * n
def POOL_MEMB (n : Nat) : Nat := 0x2200100 + 4 * n
def POOL_SKEW (n : Nat) : Nat := 0x2200200 + 4 * n

/-! Registers of spec/15_stored_data_protection.md. -/

def DMC_MARKCFG (u : Nat) : Nat := 0x1800050 + 0x10000 * u
def DMC_MARK (u n : Nat) : Nat := 0x1800080 + 0x10000 * u + 4 * n
def DMC_PPR (u : Nat) : Nat := 0x1800054 + 0x10000 * u
def DMC_PPRSTAT (u : Nat) : Nat := 0x1800058 + 0x10000 * u
def DMC_TESTCTL (u : Nat) : Nat := 0x180005C + 0x10000 * u
def DMC_TESTADDR_LO (u : Nat) : Nat := 0x1800060 + 0x10000 * u
def DMC_TESTADDR_HI (u : Nat) : Nat := 0x1800064 + 0x10000 * u
def DMC_TESTSTAT (u : Nat) : Nat := 0x1800068 + 0x10000 * u
def DMC_TESTDATA (u n : Nat) : Nat := 0x1800100 + 0x10000 * u + 4 * n
def DMC_TESTCHK (u n : Nat) : Nat := 0x1800140 + 0x10000 * u + 4 * n
def RAKE_CTL : Nat := 0x180F010
def RAKE_FIRST_LO : Nat := 0x180F014
def RAKE_FIRST_HI : Nat := 0x180F018
def RAKE_LAST_LO : Nat := 0x180F01C
def RAKE_LAST_HI : Nat := 0x180F020
def RAKE_STAT : Nat := 0x180F024
def RAKE_READ_LO : Nat := 0x180F028
def RAKE_READ_HI : Nat := 0x180F02C
def RAKE_CORR : Nat := 0x180F030
def RAKE_UNC : Nat := 0x180F034
def RAKE_POIS : Nat := 0x180F038
def RAKE_SKIP : Nat := 0x180F03C
def RAKE_UE_LO (n : Nat) : Nat := 0x180F040 + 8 * n
def RAKE_UE_HI (n : Nat) : Nat := 0x180F044 + 8 * n
def GEN_SRAMREP : Nat := 0x100
def GEN_FUSEPROG (n : Nat) : Nat := 0x108 + 4 * n
def GEN_FUSESTAT : Nat := 0x110

/-! Registers of spec/16_fault_collection.md. -/

def FLT_STICKY (n : Nat) : Nat := 0x2C00000 + 4 * n
def FLT_FORCE (n : Nat) : Nat := 0x2C00100 + 4 * n
def FLT_SUM0 : Nat := 0x2C00200
def FLT_SUM1 : Nat := 0x2C00204
def FLT_CLSUM : Nat := 0x2C00208
def FLT_CTL : Nat := 0x2C00210
def FLT_CAP : Nat := 0x2C00220
def FLT_CAPREC (n : Nat) : Nat := 0x2C00230 + 4 * n
def FLT_CAPPOP : Nat := 0x2C00248
def FLT_SELF : Nat := 0x2C00250
def FLT_CLASS (n : Nat) : Nat := 0x2C00400 + 4 * n
def EVT_HOSTEN (n : Nat) : Nat := 0x3000000 + 4 * n
def EVT_CTL : Nat := 0x3000100
def EVT_STAT : Nat := 0x3000104
def EVT_LINEHIT : Nat := 0x3000108

/-! Registers of spec/17_security_lifecycle.md. -/

def SEC_STATE : Nat := 0x3400000
def SEC_BOOTSTAT : Nat := 0x3400004
def SEC_KEYSTAT : Nat := 0x3400008
def SEC_ARBCNT : Nat := 0x340000C
def SEC_NONCE (n : Nat) : Nat := 0x3400020 + 4 * n
def SEC_TOKADDR : Nat := 0x3400040
def SEC_TOKDATA : Nat := 0x3400044
def SEC_TOKCMD (n : Nat) : Nat := 0x3400048 + 4 * n
def SEC_TOKSTAT : Nat := 0x3400050
def SEC_ARB (n : Nat) : Nat := 0x3400058 + 4 * n
def SEC_EPHEM : Nat := 0x3400060
def SEC_FLADDR : Nat := 0x3400070
def SEC_FLDATA : Nat := 0x3400074

/-! Registers of spec/18_slot_power.md. -/

def SLOT_MIR (n : Nat) : Nat := 0x3800000 + 4 * n

/-! Registers of spec/19_thermal_housekeeping.md. -/

def HK_CTL : Nat := 0x3C00000
def HK_STAT : Nat := 0x3C00004
def HK_LIM : Nat := 0x3C00008
def HK_PLIM : Nat := 0x3C0000C
def HK_POWER : Nat := 0x3C00010
def HK_TEMP (n : Nat) : Nat := 0x3C00040 + 4 * n
def HK_TSINK : Nat := 0x3C00090
def HK_TAVG : Nat := 0x3C00094
def HK_ERR : Nat := 0x3C000A0
def HK_CH (n : Nat) : Nat := 0x3C01000 + 4 * n

/-! Registers of spec/20_telemetry.md. -/

def TEL_CTL : Nat := 0x3E00000
def TEL_SNAPAT_LO : Nat := 0x3E00008
def TEL_SNAPAT_HI : Nat := 0x3E0000C
def TEL_SNAPCTL : Nat := 0x3E00010
def TEL_SNAPSTAT : Nat := 0x3E00014
def TEL_SNAPTIDE_LO : Nat := 0x3E00018
def TEL_SNAPTIDE_HI : Nat := 0x3E0001C
def TEL_SMPCTL (n : Nat) : Nat := 0x3E00100 + 8 * n
def TEL_SMPPER (n : Nat) : Nat := 0x3E00104 + 8 * n
def TEL_SMPSTAT : Nat := 0x3E00180
def TEL_SMPREC (n : Nat) : Nat := 0x3E00190 + 4 * n
def TEL_SMPPOP : Nat := 0x3E001B0
def TEL_ERR : Nat := 0x3E001C0
def TEL_CNT (n : Nat) : Nat := 0x3E10000 + 4 * n
def TEL_SNP (n : Nat) : Nat := 0x3E20000 + 4 * n

/-! Registers of spec/21_in_service_repair.md. -/

def PAL_FWCTL : Nat := 0x2800200
def PAL_FWSTAT : Nat := 0x2800204

/-! Registers of spec/02_register_conventions.md. -/

def GEN_PARAM (n : Nat) : Nat := 0x40 + 4 * n

end Reg

/-- The guard of a register table (R10): none, the key guard GK (R58 to R61) or the complement pair GP (R53 to R57). -/
inductive Guard where
  | none | gk | gp
  deriving DecidableEq, Repr

/-- One register table: `count` copies `stride` bytes apart in each of `units` unit windows `ustride` bytes apart. -/
structure RegDesc where
  base : Nat
  count : Nat
  stride : Nat
  units : Nat
  ustride : Nat
  reset : Nat
  rw : Nat
  w1c : Nat
  w1s : Nat
  guard : Guard
  warm : Bool
  setHeld : Bool
  deriving DecidableEq, Repr

/-- The descriptor's table holds the register at byte offset `off`. -/
def RegDesc.holds (d : RegDesc) (off : Nat) : Bool :=
  decide (d.base ≤ off) &&
    (let r := off - d.base
     decide (r / d.ustride < d.units) &&
       (let q := r % d.ustride
        decide (q / d.stride < d.count) && decide (q % d.stride = 0)))

/-- The register tables of spec/02_register_conventions.md. -/
def regs02 : List RegDesc := [
  ⟨0x3F00000, 4, 16, 1, 0x40, 0, 0xFCFFFFFF, 0, 0, .none, false, false⟩, -- IDX_ADDR
  ⟨0x3F00004, 4, 16, 1, 0x40, 0, 0xFFFFFFFF, 0, 0, .none, false, false⟩, -- IDX_DATA
  ⟨0x3F00008, 4, 16, 1, 0x40, 0, 0, 6, 0, .none, false, false⟩, -- IDX_STAT
  ⟨0x200000, 1, 4, 1, 4, 0, 0xFFFFFFFF, 0, 0, .none, false, false⟩, -- GRD_KEY
  ⟨0x200004, 1, 4, 1, 4, 0, 0, 0x80400000, 0, .none, false, false⟩, -- GRD_STAT
  ⟨0x200008, 1, 4, 1, 4, 0, 0, 0, 0, .none, false, false⟩, -- GRD_FAILOFF
  ⟨0x200010, 2, 4, 1, 8, 0, 0xFFFFFFFF, 0, 0, .gp, false, false⟩, -- GRD_TESTG
  ⟨0, 1, 4, 1, 4, 0x96241100, 0, 0, 0, .none, false, false⟩, -- GEN_ID
  ⟨4, 1, 4, 1, 4, 0, 0, 0, 0, .none, true, false⟩, -- GEN_MODE
  ⟨8, 1, 4, 1, 4, 0, 7, 0, 0, .gk, true, false⟩, -- GEN_MODEREQ
  ⟨0xC, 1, 4, 1, 4, 0xFFFF, 0xFFFF, 0, 0, .gk, false, false⟩, -- GEN_HOSTACC
  ⟨0x100000, 1, 4, 1, 4, 0, 0, 0, 0, .none, true, false⟩, -- RDY_0
  ⟨0x100004, 1, 4, 1, 4, 0, 0, 0, 0, .none, true, false⟩, -- RDY_1
  ⟨0x100008, 1, 4, 1, 4, 0, 0, 0, 0, .none, true, false⟩, -- RDY_2
  ⟨0x10000C, 1, 4, 1, 4, 0, 0, 0, 0, .none, true, false⟩, -- RDY_3
  ⟨0x100010, 1, 4, 1, 4, 0, 0, 0, 0, .none, true, false⟩, -- RDY_4
  ⟨0x100014, 1, 4, 1, 4, 0, 0, 0, 0, .none, true, false⟩, -- RDY_5
  ⟨0x100018, 1, 4, 1, 4, 0, 0, 0, 0, .none, true, false⟩, -- RDY_6
  ⟨0x10001C, 1, 4, 1, 4, 0, 0, 0, 0, .none, true, false⟩, -- RDY_7
  ⟨0x100100, 8, 4, 1, 0x20, 0, 0, 0xFFFFFFFF, 0, .none, true, false⟩, -- RDY_CHG
  ⟨0x40, 8, 4, 1, 0x20, 0, 0, 0, 0, .none, false, false⟩ -- GEN_PARAM
  ]

/-- The register tables of spec/03_modes_and_bringup.md. -/
def regs03 : List RegDesc := [
  ⟨0x10, 1, 4, 1, 4, 0, 3, 0, 0, .gk, true, false⟩, -- GEN_RST
  ⟨0x14, 1, 4, 1, 4, 0, 0, 0, 0, .none, false, false⟩, -- GEN_RSTCAUSE
  ⟨0x18, 1, 4, 1, 4, 0, 0, 0x80, 0, .none, true, false⟩, -- GEN_MODEX
  ⟨0x1C, 1, 4, 1, 4, 0x3E8, 0xFFFF, 0, 0, .none, true, false⟩, -- GEN_HOLDLIM
  ⟨0x20, 1, 4, 1, 4, 0x90000000, 0, 0, 0, .none, true, false⟩, -- GEN_WIPE
  ⟨0x24, 1, 4, 1, 4, 0, 0, 0, 0, .none, true, false⟩, -- GEN_WIPECH
  ⟨0x28, 1, 4, 1, 4, 0, 0, 0, 0, .none, true, false⟩ -- GEN_SETSRV
  ]

/-- The register tables of spec/05_programs_and_config_sets.md. -/
def regs05 : List RegDesc := [
  ⟨0x2800000, 1, 4, 1, 4, 0, 0, 0, 0, .none, true, false⟩, -- PAL_SETSTAT
  ⟨0x2800004, 1, 4, 1, 4, 0, 3, 0, 0, .gk, true, false⟩, -- PAL_SETCMD
  ⟨0x2800008, 1, 4, 1, 4, 0, 0xFFFFFFFF, 0, 0, .none, true, false⟩, -- PAL_COMMITLO
  ⟨0x280000C, 1, 4, 1, 4, 0, 0xFFFFFFFF, 0, 0, .none, true, false⟩, -- PAL_COMMITHI
  ⟨0x2800010, 1, 4, 1, 4, 0, 0, 0x80000000, 0, .none, true, false⟩, -- PAL_ARMERR
  ⟨0x2800014, 1, 4, 1, 4, 0, 1, 0, 0, .none, true, false⟩, -- PAL_SETVIEW
  ⟨0x2800020, 1, 4, 1, 4, 0, 0, 0, 0, .none, true, false⟩, -- PAL_LOADSTAT
  ⟨0x2800024, 1, 4, 1, 4, 0x3E8, 0xFFFF, 0, 0, .none, true, false⟩, -- PAL_HMTO
  ⟨0x2800028, 1, 4, 1, 4, 0, 0, 0, 0, .none, true, false⟩, -- PAL_HMSTAT
  ⟨0x2800100, 16, 4, 1, 0x40, 0, 1, 0, 0, .gk, true, false⟩ -- PAL_CORECTL
  ]

/-- The register tables of spec/06_host_ports.md. -/
def regs06 : List RegDesc := [
  ⟨0x400000, 1, 4, 16, 0x10000, 0, 0, 0, 0, .none, true, false⟩, -- HPX_STAT
  ⟨0x400004, 1, 4, 16, 0x10000, 1, 0xC, 0, 0, .gk, false, false⟩, -- HPX_BIF
  ⟨0x400008, 1, 4, 16, 0x10000, 0x10, 0x1F1F1F1F, 0, 0, .none, false, false⟩, -- HPX_LDCNT
  ⟨0x40000C, 1, 4, 16, 0x10000, 0, 0, 0xC0000000, 0, .none, true, false⟩, -- HPX_ERRSUB
  ⟨0x400010, 1, 4, 16, 0x10000, 0x3E80032, 0xFFFFFFFF, 0, 0, .none, true, false⟩, -- HPX_TMO
  ⟨0x400014, 1, 4, 16, 0x10000, 4, 4, 0, 0, .none, true, false⟩, -- HPX_ERRCTL
  ⟨0x400018, 1, 4, 16, 0x10000, 9, 0xF, 0, 0, .gk, true, false⟩, -- HPX_L0P
  ⟨0x40001C, 1, 4, 16, 0x10000, 0, 0, 0, 0, .none, true, false⟩, -- HPX_OUTST
  ⟨0x400040, 16, 4, 16, 0x10000, 0, 0, 0, 0, .none, true, false⟩ -- HPX_LDMAP
  ]

/-- The register tables of spec/07_placement_and_tiers.md. -/
def regs07 : List RegDesc := [
  ⟨0xC00000, 1, 4, 1, 4, 0x1000, 0x1F01, 0, 0, .none, true, true⟩, -- TIER_CTL
  ⟨0xC00004, 1, 4, 1, 4, 0, 0, 0, 0, .none, true, false⟩, -- TIER_STAT
  ⟨0xC00008, 1, 4, 1, 4, 0, 0, 0, 0, .none, true, false⟩, -- TIER_RSVLOW
  ⟨0xC0000C, 1, 4, 1, 4, 0, 0, 0, 0, .none, true, false⟩, -- TIER_FREELOW
  ⟨0xC00010, 1, 4, 1, 4, 0, 0, 0, 0, .none, true, false⟩, -- TIER_SETOFF
  ⟨0xC00018, 1, 4, 1, 4, 0, 0, 0, 0, .none, true, false⟩, -- TIER_ERRPAGE_LO
  ⟨0xC0001C, 1, 4, 1, 4, 0, 0, 0xC0000000, 0, .none, true, false⟩, -- TIER_ERRPAGE_HI
  ⟨0xC00040, 16, 4, 1, 0x40, 0x1F, 0x1F, 0, 0, .none, true, false⟩, -- TIER_PMSET
  ⟨0xC00100, 24, 4, 1, 0x60, 0, 0, 0, 0, .none, true, false⟩ -- TIER_MAPCELLS
  ]

/-- The register tables of spec/08_compression.md. -/
def regs08 : List RegDesc := [
  ⟨0x1000000, 1, 4, 1, 4, 7, 7, 0, 0, .none, true, true⟩, -- CRY_GCTL
  ⟨0x1000004, 1, 4, 1, 4, 0x43, 0x73, 0, 0, .none, true, true⟩, -- CRY_HCTL
  ⟨0x1000008, 1, 4, 1, 4, 0xFFF, 0xFFF, 0, 0, .none, true, false⟩, -- CRY_UNITEN
  ⟨0x100000C, 1, 4, 1, 4, 0, 0x1F, 0, 0, .gk, true, false⟩, -- CRY_TEST
  ⟨0x1000010, 1, 4, 1, 4, 0, 0, 0, 0, .none, true, false⟩, -- CRY_ERRLN_LO
  ⟨0x1000014, 1, 4, 1, 4, 0, 0, 0xC0000000, 0, .none, true, false⟩, -- CRY_ERRLN_HI
  ⟨0x1000018, 1, 4, 1, 4, 0, 0, 0, 0xF, .none, true, false⟩ -- CRY_PBFLUSH
  ]

/-- The register tables of spec/09_encryption.md. -/
def regs09 : List RegDesc := [
  ⟨0x1400000, 1, 4, 1, 4, 0, 0xC0000FFF, 0, 0, .gk, true, false⟩, -- KEYS_CMD
  ⟨0x1400004, 1, 4, 1, 4, 0, 0, 0, 0, .none, true, false⟩, -- KEYS_STAT
  ⟨0x1400008, 1, 4, 1, 4, 0, 0, 0, 0, .none, true, false⟩, -- KEYS_LASTSEQ
  ⟨0x1400040, 20, 4, 1, 0x50, 0, 0xFFFFFFFF, 0, 0, .none, true, false⟩, -- KEYS_WRAP
  ⟨0x1401000, 4096, 4, 1, 0x4000, 0, 0, 0, 0, .none, true, false⟩, -- KEYS_SLOT
  ⟨0x1405000, 4096, 4, 1, 0x4000, 0, 0, 0, 0, .none, true, false⟩, -- KEYS_GEN
  ⟨0x1000020, 1, 4, 1, 4, 0xFF, 0xFF, 0, 0, .none, true, false⟩, -- CRY_XEEN
  ⟨0x1000024, 1, 4, 1, 4, 0, 0, 0xC0000000, 0, .none, true, false⟩ -- CRY_XEERR
  ]

/-- The register tables of spec/10_coherence.md. -/
def regs10 : List RegDesc := [
  ⟨0x800000, 1, 4, 1, 4, 3, 3, 0, 0, .none, true, true⟩, -- HOME_CTL
  ⟨0x800010, 4, 4, 1, 0x10, 0, 0, 0, 0, .none, true, false⟩, -- HOME_STAT
  ⟨0x800020, 4, 4, 1, 0x10, 0, 0, 0, 0, .none, true, false⟩, -- HOME_PCSTAT
  ⟨0x800030, 1, 4, 1, 4, 0, 0, 0, 0xF, .none, true, false⟩, -- HOME_PCFLUSH
  ⟨0x800034, 1, 4, 1, 4, 0, 0, 0, 0, .none, true, false⟩, -- HOME_SWEEP
  ⟨0x800040, 1, 4, 1, 4, 0, 0xFFFFFFC0, 0, 0, .none, true, false⟩, -- HOME_DQADDRLO
  ⟨0x800044, 1, 4, 1, 4, 0, 0x3FFF, 0, 0, .none, true, false⟩, -- HOME_DQADDRHI
  ⟨0x800048, 1, 4, 1, 4, 0xFFFFFFFF, 0, 0, 0, .none, true, false⟩, -- HOME_DQDATLO
  ⟨0x80004C, 1, 4, 1, 4, 0xFFFFFFFF, 0, 0, 0, .none, true, false⟩, -- HOME_DQDATHI
  ⟨0x800050, 1, 4, 1, 4, 0, 0, 0, 0, .none, true, false⟩, -- HOME_ERR_LO
  ⟨0x800054, 1, 4, 1, 4, 0, 0, 0xC0000000, 0, .none, true, false⟩ -- HOME_ERR_HI
  ]

/-- The register tables of spec/11_dram_controller.md. -/
def regs11 : List RegDesc := [
  ⟨0x1800000, 1, 4, 24, 0x10000, 0, 1, 0, 2, .none, true, false⟩, -- DMC_CTL
  ⟨0x1800004, 1, 4, 24, 0x10000, 0, 0, 0, 0, .none, true, false⟩, -- DMC_STAT
  ⟨0x1800008, 1, 4, 24, 0x10000, 0x10, 0x79F, 0, 0, .none, true, false⟩, -- DMC_GEOM
  ⟨0x1800010, 4, 4, 24, 0x10000, 0, 0xBFFFFFC0, 0, 0, .none, true, false⟩, -- DMC_TSET
  ⟨0x1800020, 1, 4, 24, 0x10000, 0, 7, 0, 0, .gk, true, false⟩, -- DMC_TRAIN
  ⟨0x1800024, 1, 4, 24, 0x10000, 0x7D01030, 0xFFFFFFF, 0, 0, .none, true, true⟩, -- DMC_SCHED
  ⟨0x1800028, 1, 4, 24, 0x10000, 1, 0xFFFF0001, 0, 0, .none, true, false⟩, -- DMC_REF
  ⟨0x180002C, 1, 4, 24, 0x10000, 0x1C020, 0x1FFFF, 0, 0, .none, true, false⟩, -- DMC_RFM
  ⟨0x1800030, 1, 4, 24, 0x10000, 0x110040, 0x1FFFFF, 0, 0, .none, true, false⟩, -- DMC_RDT
  ⟨0x1800034, 1, 4, 24, 0x10000, 0, 0, 0xC0000000, 0, .none, true, false⟩, -- DMC_RDTLOG
  ⟨0x1800038, 1, 4, 24, 0x10000, 0x4000000, 0xFFFF0000, 0, 0, .none, true, false⟩, -- DMC_CECNT
  ⟨0x1800040, 1, 4, 24, 0x10000, 0, 0, 0, 0, .none, true, false⟩, -- DMC_ERRADDR_LO
  ⟨0x1800044, 1, 4, 24, 0x10000, 0, 0, 0xC0000000, 0, .none, true, false⟩, -- DMC_ERRADDR_HI
  ⟨0x1800048, 1, 4, 24, 0x10000, 0, 0, 0x80000000, 0, .none, true, false⟩, -- DMC_DOWN
  ⟨0x180004C, 1, 4, 24, 0x10000, 0, 0, 0, 0x80000000, .none, true, false⟩, -- DMC_PARREB
  ⟨0x180F000, 1, 4, 1, 4, 0, 0x3FFFFFF, 0, 0, .gk, true, false⟩, -- DMC_FCHG
  ⟨0x180F004, 1, 4, 1, 4, 0, 0, 0, 0, .none, true, false⟩ -- DMC_FSTAT
  ]

/-- The register tables of spec/12_bandwidth_regulation.md. -/
def regs12 : List RegDesc := [
  ⟨0xA00000, 1, 4, 1, 4, 0xE608B32A, 0xFFFFFF7F, 0, 0, .none, true, true⟩, -- SLU_CTL
  ⟨0xA00004, 1, 4, 1, 4, 0x40, 0xFFFFFFFF, 0, 0, .none, true, false⟩, -- SLU_CTL2
  ⟨0xA00008, 1, 4, 1, 4, 0, 0, 0, 0, .none, true, false⟩, -- SLU_DELIV
  ⟨0xA0000C, 1, 4, 1, 4, 0, 0, 0, 0, .none, true, false⟩, -- SLU_BOOK
  ⟨0xA00010, 1, 4, 1, 4, 0x100, 0, 0, 0, .none, true, false⟩, -- SLU_SCALE
  ⟨0xA00014, 1, 4, 1, 4, 0, 0, 0, 0, .none, true, false⟩, -- SLU_URG
  ⟨0xA00018, 1, 4, 1, 4, 0, 0, 0xC0000000, 0, .none, true, false⟩, -- SLU_ERR
  ⟨0xA01000, 256, 4, 1, 0x400, 0, 0, 0, 0, .none, true, false⟩ -- SLU_STAT
  ]

/-- The register tables of spec/13_conveyor_link.md. -/
def regs13 : List RegDesc := [
  ⟨0x2000000, 1, 4, 32, 0x10000, 0xE0000, 0xF0001, 0, 0, .gk, true, false⟩, -- CNV_CTL
  ⟨0x2000004, 1, 4, 32, 0x10000, 0, 0, 0, 0, .none, true, false⟩, -- CNV_STAT
  ⟨0x2000008, 1, 4, 32, 0x10000, 0, 0, 0, 0, .none, true, false⟩, -- CNV_PEER
  ⟨0x200000C, 1, 4, 32, 0x10000, 0x76543210, 0, 0, 0, .none, true, false⟩, -- CNV_LANEMAP
  ⟨0x2000010, 1, 4, 32, 0x10000, 0x4000400, 0xF001FFF, 0, 0, .none, true, false⟩, -- CNV_REPLAY
  ⟨0x2000014, 1, 4, 32, 0x10000, 0, 0, 0, 0, .none, true, false⟩, -- CNV_SEQA
  ⟨0x2000018, 1, 4, 32, 0x10000, 0, 0, 0, 0, .none, true, false⟩, -- CNV_SEQB
  ⟨0x200001C, 1, 4, 32, 0x10000, 0, 0, 0, 0x80000000, .none, true, false⟩, -- CNV_LAYBY
  ⟨0x2000020, 1, 4, 32, 0x10000, 0, 0, 0, 0, .none, true, false⟩, -- CNV_DELAY
  ⟨0x2000024, 1, 4, 32, 0x10000, 0x10, 0xFFFF, 0, 0, .none, true, false⟩, -- CNV_LHEALTH
  ⟨0x2000028, 1, 4, 32, 0x10000, 0, 0, 0, 0, .none, true, false⟩, -- CNV_CNT
  ⟨0x200002C, 1, 4, 32, 0x10000, 0, 0, 0, 0, .none, true, false⟩, -- CNV_FEC
  ⟨0x2000030, 1, 4, 32, 0x10000, 0xC, 0x1D, 0, 0, .gk, true, false⟩, -- CNV_TRAIN
  ⟨0x2000034, 1, 4, 32, 0x10000, 0, 0, 0x80000000, 0, .none, true, false⟩, -- CNV_DOWN
  ⟨0x2000038, 1, 4, 32, 0x10000, 0xF000, 0, 0xC0000000, 0, .none, true, false⟩, -- CNV_ERR
  ⟨0x2000040, 9, 4, 32, 0x10000, 0x30000, 0, 0, 0, .none, true, false⟩ -- CNV_LANEERR
  ]

/-- The register tables of spec/14_conveyor_pool.md. -/
def regs14 : List RegDesc := [
  ⟨0x2200000, 1, 4, 1, 4, 0, 0x3FFF1F, 0, 0, .gk, false, false⟩, -- POOL_CFG
  ⟨0x2200004, 1, 4, 1, 4, 0, 0, 0, 0, .none, true, false⟩, -- POOL_STAT
  ⟨0x2200008, 1, 4, 1, 4, 0, 0, 0, 0, .none, true, false⟩, -- POOL_TOPO
  ⟨0x220000C, 1, 4, 1, 4, 0x70000, 0x70000, 0, 0, .none, true, true⟩, -- POOL_CIRC
  ⟨0x2200010, 1, 4, 1, 4, 0x64, 0xFFFF, 0, 0, .none, true, false⟩, -- POOL_E2E
  ⟨0x2200014, 1, 4, 1, 4, 0, 0, 0x80000000, 0, .none, true, false⟩, -- POOL_TIDEERR
  ⟨0x2200018, 1, 4, 1, 4, 0, 0, 0, 0, .none, true, false⟩, -- TIDE_NOW_LO
  ⟨0x220001C, 1, 4, 1, 4, 0, 0, 0, 0, .none, true, false⟩, -- TIDE_NOW_HI
  ⟨0x2200020, 1, 4, 1, 4, 0xFFFFFFFF, 0xFFFFFFFF, 0, 0, .none, true, false⟩, -- TIDE_AT_LO
  ⟨0x2200024, 1, 4, 1, 4, 0xFFFFFFFF, 0xFFFFFFFF, 0, 0, .none, true, false⟩, -- TIDE_AT_HI
  ⟨0x2200030, 1, 4, 1, 4, 0, 0, 0, 0, .none, true, false⟩, -- POOL_COURSE
  ⟨0x2200034, 1, 4, 1, 4, 0, 0, 0, 0, .none, true, false⟩, -- POOL_FOLD
  ⟨0x2200040, 1, 4, 1, 4, 0, 0, 0, 0, .none, true, false⟩, -- POOL_CNT0
  ⟨0x2200044, 1, 4, 1, 4, 0, 0, 0, 0, .none, true, false⟩, -- POOL_CNT1
  ⟨0x2200048, 1, 4, 1, 4, 0, 0, 0xC0000000, 0, .none, true, false⟩, -- POOL_ERR
  ⟨0x2200050, 4, 4, 1, 0x10, 0, 0, 0, 0, .none, true, false⟩, -- POOL_PAD
  ⟨0x2200100, 32, 4, 1, 0x80, 0, 0, 0, 0, .none, true, false⟩, -- POOL_MEMB
  ⟨0x2200200, 32, 4, 1, 0x80, 0, 0xFFFF, 0, 0, .none, false, false⟩ -- POOL_SKEW
  ]

/-- The register tables of spec/15_stored_data_protection.md. -/
def regs15 : List RegDesc := [
  ⟨0x1800050, 1, 4, 24, 0x10000, 0x108, 0x1FF, 0, 0, .none, true, false⟩, -- DMC_MARKCFG
  ⟨0x1800080, 32, 4, 24, 0x10000, 0, 0x8000000F, 0, 0, .none, true, false⟩, -- DMC_MARK
  ⟨0x1800054, 1, 4, 24, 0x10000, 0, 0xFFF1FFFF, 0, 0, .gk, true, false⟩, -- DMC_PPR
  ⟨0x1800058, 1, 4, 24, 0x10000, 0, 0, 0, 0, .none, true, false⟩, -- DMC_PPRSTAT
  ⟨0x180005C, 1, 4, 24, 0x10000, 0, 7, 0, 0, .gk, true, false⟩, -- DMC_TESTCTL
  ⟨0x1800060, 1, 4, 24, 0x10000, 0, 0xFFFFFFC0, 0, 0, .none, true, false⟩, -- DMC_TESTADDR_LO
  ⟨0x1800064, 1, 4, 24, 0x10000, 0, 0xFF, 0, 0, .none, true, false⟩, -- DMC_TESTADDR_HI
  ⟨0x1800068, 1, 4, 24, 0x10000, 0xF, 0, 0, 0, .none, true, false⟩, -- DMC_TESTSTAT
  ⟨0x1800100, 16, 4, 24, 0x10000, 0, 0xFFFFFFFF, 0, 0, .none, true, false⟩, -- DMC_TESTDATA
  ⟨0x1800140, 4, 4, 24, 0x10000, 0, 0xFFFFFFFF, 0, 0, .none, true, false⟩, -- DMC_TESTCHK
  ⟨0x180F010, 1, 4, 1, 4, 2, 0xE, 0, 1, .none, true, false⟩, -- RAKE_CTL
  ⟨0x180F014, 1, 4, 1, 4, 0, 0xFFFFF000, 0, 0, .none, true, false⟩, -- RAKE_FIRST_LO
  ⟨0x180F018, 1, 4, 1, 4, 0, 0x3FFF, 0, 0, .none, true, false⟩, -- RAKE_FIRST_HI
  ⟨0x180F01C, 1, 4, 1, 4, 0, 0xFFFFF000, 0, 0, .none, true, false⟩, -- RAKE_LAST_LO
  ⟨0x180F020, 1, 4, 1, 4, 0, 0x3FFF, 0, 0, .none, true, false⟩, -- RAKE_LAST_HI
  ⟨0x180F024, 1, 4, 1, 4, 0, 0, 0, 0, .none, true, false⟩, -- RAKE_STAT
  ⟨0x180F028, 1, 4, 1, 4, 0, 0, 0, 0, .none, true, false⟩, -- RAKE_READ_LO
  ⟨0x180F02C, 1, 4, 1, 4, 0, 0, 0, 0, .none, true, false⟩, -- RAKE_READ_HI
  ⟨0x180F030, 1, 4, 1, 4, 0, 0, 0, 0, .none, true, false⟩, -- RAKE_CORR
  ⟨0x180F034, 1, 4, 1, 4, 0, 0, 0, 0, .none, true, false⟩, -- RAKE_UNC
  ⟨0x180F038, 1, 4, 1, 4, 0, 0, 0, 0, .none, true, false⟩, -- RAKE_POIS
  ⟨0x180F03C, 1, 4, 1, 4, 0, 0, 0, 0, .none, true, false⟩, -- RAKE_SKIP
  ⟨0x180F040, 16, 8, 1, 0x80, 0, 0, 0, 0, .none, true, false⟩, -- RAKE_UE_LO
  ⟨0x180F044, 16, 8, 1, 0x80, 0, 0, 0, 0, .none, true, false⟩, -- RAKE_UE_HI
  ⟨0x100, 1, 4, 1, 4, 0, 0, 0x80000000, 0, .none, true, false⟩, -- GEN_SRAMREP
  ⟨0x108, 2, 4, 1, 8, 0, 0xFFFFFFFF, 0, 0, .gp, false, false⟩, -- GEN_FUSEPROG
  ⟨0x110, 1, 4, 1, 4, 0, 0, 0, 0, .none, false, false⟩ -- GEN_FUSESTAT
  ]

/-- The register tables of spec/16_fault_collection.md. -/
def regs16 : List RegDesc := [
  ⟨0x2C00000, 48, 4, 1, 0xC0, 0, 0, 0xFFFFFFFF, 0, .none, true, false⟩, -- FLT_STICKY
  ⟨0x2C00100, 48, 4, 1, 0xC0, 0, 0xFFFFFFFF, 0, 0, .gk, true, false⟩, -- FLT_FORCE
  ⟨0x2C00200, 1, 4, 1, 4, 0, 0, 0, 0, .none, true, false⟩, -- FLT_SUM0
  ⟨0x2C00204, 1, 4, 1, 4, 0, 0, 0, 0, .none, true, false⟩, -- FLT_SUM1
  ⟨0x2C00208, 1, 4, 1, 4, 0, 0, 0, 0, .none, true, false⟩, -- FLT_CLSUM
  ⟨0x2C00210, 1, 4, 1, 4, 3, 7, 0, 0, .none, true, false⟩, -- FLT_CTL
  ⟨0x2C00220, 1, 4, 1, 4, 0, 0, 0, 0, .none, false, false⟩, -- FLT_CAP
  ⟨0x2C00230, 6, 4, 1, 0x18, 0, 0, 0, 0, .none, false, false⟩, -- FLT_CAPREC
  ⟨0x2C00248, 1, 4, 1, 4, 0, 0, 0, 3, .none, false, false⟩, -- FLT_CAPPOP
  ⟨0x2C00250, 1, 4, 1, 4, 0, 0, 0x80000000, 0, .none, true, false⟩, -- FLT_SELF
  ⟨0x2C00400, 192, 4, 1, 0x300, 0, 0x77777777, 0, 0, .none, true, true⟩, -- FLT_CLASS
  ⟨0x3000000, 48, 4, 1, 0xC0, 0xFFFFFFFF, 0xFFFFFFFF, 0, 0, .none, true, false⟩, -- EVT_HOSTEN
  ⟨0x3000100, 1, 4, 1, 4, 0x20000000, 0xF0000000, 0, 0, .none, true, false⟩, -- EVT_CTL
  ⟨0x3000104, 1, 4, 1, 4, 0, 0, 0, 0, .none, true, false⟩, -- EVT_STAT
  ⟨0x3000108, 1, 4, 1, 4, 0, 0, 0xFFFFFFFF, 0, .none, true, false⟩ -- EVT_LINEHIT
  ]

/-- The register tables of spec/17_security_lifecycle.md. -/
def regs17 : List RegDesc := [
  ⟨0x3400000, 1, 4, 1, 4, 0, 0, 0, 0, .none, false, false⟩, -- SEC_STATE
  ⟨0x3400004, 1, 4, 1, 4, 0, 0, 0, 0, .none, true, false⟩, -- SEC_BOOTSTAT
  ⟨0x3400008, 1, 4, 1, 4, 0, 0, 0, 0, .none, true, false⟩, -- SEC_KEYSTAT
  ⟨0x340000C, 1, 4, 1, 4, 0, 0, 0, 0, .none, true, false⟩, -- SEC_ARBCNT
  ⟨0x3400020, 8, 4, 1, 0x20, 0, 0, 0, 0, .none, true, false⟩, -- SEC_NONCE
  ⟨0x3400040, 1, 4, 1, 4, 0, 0x3FF, 0, 0, .none, true, false⟩, -- SEC_TOKADDR
  ⟨0x3400044, 1, 4, 1, 4, 0, 0xFFFFFFFF, 0, 0, .none, true, false⟩, -- SEC_TOKDATA
  ⟨0x3400048, 2, 4, 1, 8, 0, 0xC0000000, 0, 0, .gp, true, false⟩, -- SEC_TOKCMD
  ⟨0x3400050, 1, 4, 1, 4, 0, 0, 0, 0, .none, true, false⟩, -- SEC_TOKSTAT
  ⟨0x3400058, 2, 4, 1, 8, 0, 0x30001FF, 0, 0, .gp, true, false⟩, -- SEC_ARB
  ⟨0x3400060, 1, 4, 1, 4, 0, 0xFFF, 0, 0, .gk, true, false⟩, -- SEC_EPHEM
  ⟨0x3400070, 1, 4, 1, 4, 0, 0xFFFFFF, 0, 0x80000000, .none, true, false⟩, -- SEC_FLADDR
  ⟨0x3400074, 1, 4, 1, 4, 0, 0xFFFFFFFF, 0, 0, .none, true, false⟩ -- SEC_FLDATA
  ]

/-- The register tables of spec/18_slot_power.md. -/
def regs18 : List RegDesc := [
  ⟨0x3800000, 48, 4, 1, 0xC0, 0, 0, 0, 0, .none, false, false⟩ -- SLOT_MIR
  ]

/-- The register tables of spec/19_thermal_housekeeping.md. -/
def regs19 : List RegDesc := [
  ⟨0x3C00000, 1, 4, 1, 4, 0x13, 0x3F3F, 0, 0, .none, true, false⟩, -- HK_CTL
  ⟨0x3C00004, 1, 4, 1, 4, 0, 0, 0, 0, .none, true, false⟩, -- HK_STAT
  ⟨0x3C00008, 1, 4, 1, 4, 0x6E69645F, 0xFFFFFF, 0, 0, .gk, true, false⟩, -- HK_LIM
  ⟨0x3C0000C, 1, 4, 1, 4, 0x80D48, 0xFFFFFF, 0, 0, .gk, true, false⟩, -- HK_PLIM
  ⟨0x3C00010, 1, 4, 1, 4, 0, 0, 0, 0, .none, true, false⟩, -- HK_POWER
  ⟨0x3C00040, 17, 4, 1, 0x44, 0, 0, 0, 0, .none, true, false⟩, -- HK_TEMP
  ⟨0x3C00090, 1, 4, 1, 4, 0, 0, 0, 0, .none, true, false⟩, -- HK_TSINK
  ⟨0x3C00094, 1, 4, 1, 4, 0, 0, 0, 0, .none, true, false⟩, -- HK_TAVG
  ⟨0x3C000A0, 1, 4, 1, 4, 0, 0, 0xC0000000, 0, .none, true, false⟩, -- HK_ERR
  ⟨0x3C01000, 384, 4, 1, 0x600, 0, 0, 0, 0, .none, true, false⟩ -- HK_CH
  ]

/-- The register tables of spec/20_telemetry.md. -/
def regs20 : List RegDesc := [
  ⟨0x3E00000, 1, 4, 1, 4, 0, 0, 0, 1, .none, true, false⟩, -- TEL_CTL
  ⟨0x3E00008, 1, 4, 1, 4, 0, 0xFFFFFFFF, 0, 0, .none, true, false⟩, -- TEL_SNAPAT_LO
  ⟨0x3E0000C, 1, 4, 1, 4, 0, 0xFFFFFFFF, 0, 0, .none, true, false⟩, -- TEL_SNAPAT_HI
  ⟨0x3E00010, 1, 4, 1, 4, 0, 0xC000003F, 0, 0, .none, true, false⟩, -- TEL_SNAPCTL
  ⟨0x3E00014, 1, 4, 1, 4, 0, 0, 0x3000000, 0, .none, true, false⟩, -- TEL_SNAPSTAT
  ⟨0x3E00018, 1, 4, 1, 4, 0, 0, 0, 0, .none, true, false⟩, -- TEL_SNAPTIDE_LO
  ⟨0x3E0001C, 1, 4, 1, 4, 0, 0, 0, 0, .none, true, false⟩, -- TEL_SNAPTIDE_HI
  ⟨0x3E00100, 8, 8, 1, 0x40, 0, 0x800007FF, 0, 0, .none, true, false⟩, -- TEL_SMPCTL
  ⟨0x3E00104, 8, 8, 1, 0x40, 0x10000, 0xFFFFFFFF, 0, 0, .none, true, false⟩, -- TEL_SMPPER
  ⟨0x3E00180, 1, 4, 1, 4, 0, 0, 0, 0, .none, true, false⟩, -- TEL_SMPSTAT
  ⟨0x3E00190, 8, 4, 1, 0x20, 0, 0, 0, 0, .none, true, false⟩, -- TEL_SMPREC
  ⟨0x3E001B0, 1, 4, 1, 4, 0, 0, 0, 3, .none, true, false⟩, -- TEL_SMPPOP
  ⟨0x3E001C0, 1, 4, 1, 4, 0, 0, 0xC0000000, 0, .none, true, false⟩, -- TEL_ERR
  ⟨0x3E10000, 2272, 4, 1, 0x2380, 0, 0, 0, 0, .none, true, false⟩, -- TEL_CNT
  ⟨0x3E20000, 2272, 4, 1, 0x2380, 0, 0, 0, 0, .none, true, false⟩ -- TEL_SNP
  ]

/-- The register tables of spec/21_in_service_repair.md. -/
def regs21 : List RegDesc := [
  ⟨0x2800200, 1, 4, 1, 4, 0, 3, 0, 0, .gk, true, false⟩, -- PAL_FWCTL
  ⟨0x2800204, 1, 4, 1, 4, 0, 0, 0, 0, .none, true, false⟩ -- PAL_FWSTAT
  ]

/-- Every register table of the device. -/
def regTable : List RegDesc :=
  regs02 ++ regs03 ++ regs05 ++ regs06 ++ regs07 ++ regs08 ++ regs09 ++ regs10 ++ regs11 ++ regs12 ++ regs13 ++ regs14 ++ regs15 ++ regs16 ++ regs17 ++ regs18 ++ regs19 ++ regs20 ++ regs21

/-- The first descriptor of a list that holds an offset. -/
def findReg (off : Nat) : List RegDesc → Option RegDesc
  | [] => .none
  | d :: r => if d.holds off then some d else findReg off r

/-- The register table of an offset; none for a reserved range or an unassigned offset (R42). -/
def regDesc (off : Nat) : Option RegDesc := findReg off regTable

end Sys2Proof.Machine
end

