-- ==== Sys2Proof/Machine/Sources.lean ====
section
/-! DEFINITION. The 1,536 fault and event sources (R557 to R560): their numbers and their default classes, from the
source tables of spec/04 to spec/20. -/

namespace Sys2Proof.Machine

/-- The default classes of the local sources of one unit; none: reserved, never asserts. -/
abbrev ClassList := List (Option Nat)

/-- Host port sources (R233). -/
def hostClasses : ClassList :=
  [some 1, some 1, some 0, some 1, some 2, some 0, some 0, some 2, some 2, some 2, some 3, some 3,
   some 1, some 3, some 1, some 0, some 1, some 2, some 0, some 2, some 1, some 2, some 0, .none]

/-- DRAM channel sources (R419). -/
def chanClasses : ClassList :=
  [some 4, some 0, some 2, some 0, some 0, some 1, some 0, some 4, some 1, some 1, some 3, some 1,
   some 1, some 1, some 1, .none]

/-- Conveyor link sources (R482). -/
def linkClasses : ClassList := [some 3, some 0, some 1, some 1, some 1, some 2, some 1, some 2]

/-- Slot sources (R648). -/
def slotClasses : ClassList := [some 1, some 3, some 1, some 0]

/-- Sources 1,216 to 1,279 (R380, R279, R313, R339, R556). -/
def pathClasses : ClassList :=
  [some 1, some 5, some 0, some 2, some 5, some 5, some 2, some 2, some 1, some 0, some 0, some 0, some 0, some 0,
   .none, .none,
   some 2, some 2, some 2, some 2, some 1, some 2, some 0, some 1, some 1, some 2, some 5, some 1,
   some 0, some 2, some 0, some 2, some 3, some 0, some 0, some 2, some 3, some 2, some 0, some 4,
   .none, .none, .none, .none,
   some 3, some 2, some 2, some 2, some 2, some 1, some 3, some 4, .none, .none, .none, .none,
   some 0, some 2, some 1, some 1, some 1, some 1, some 1, some 1]

/-- Core sources (R160). -/
def coreClasses : ClassList := [some 3, some 1, some 1, some 1]

/-- Sources 1,344 to 1,361 (R559, R619). -/
def secClasses : ClassList :=
  [some 0, some 1, some 1, some 1, some 1, some 5, some 5, some 1, some 1, some 1, some 1, some 5, some 1, some 5,
   some 1, some 1, some 1, some 5]

/-- Sources 1,408 to 1,420 (R648, R662). -/
def hkClasses : ClassList :=
  [some 5, some 5, some 0, some 1, some 1, some 5, some 1, some 1, some 1, some 5, some 0, some 1, some 5]

/-- Sources 1,472 to 1,535 (R559, R442, R533, R676). -/
def selfClasses : ClassList :=
  [some 5, some 1, some 1, some 0, some 4, some 4, some 3, some 3, some 5, some 0, some 2, some 1, some 1, some 1,
   .none, .none,
   some 4, some 1, some 1, some 0, some 0, some 1, some 1, .none,
   some 0, some 2, some 2, some 0, some 1, some 4, some 0, some 1, some 1, some 1, some 1, some 5, some 1, some 1,
   some 1, some 2, some 1, .none,
   some 0, some 1, some 1, some 1, some 0, some 0, some 1, .none]

/-- Entry `n` of a class list; none beyond its end. -/
def classAt : ClassList → Nat → Option Nat
  | [], _ => .none
  | c :: _, 0 => c
  | _ :: r, n + 1 => classAt r n

/-- The default class of a source; none for a reserved source (R560, R564). -/
def defaultClass (src : Nat) : Option Nat :=
  if src < 384 then classAt hostClasses (src % 24)
  else if src < 768 then classAt chanClasses ((src - 384) % 16)
  else if src < 1024 then classAt linkClasses ((src - 768) % 8)
  else if src < 1216 then classAt slotClasses ((src - 1024) % 4)
  else if src < 1280 then classAt pathClasses (src - 1216)
  else if src < 1344 then classAt coreClasses ((src - 1280) % 4)
  else if src < 1408 then classAt secClasses (src - 1344)
  else if src < 1472 then classAt hkClasses (src - 1408)
  else classAt selfClasses (src - 1472)

/-- A source that can assert (R560). -/
def srcPresent (src : Nat) : Bool := (defaultClass src).isSome

namespace Src

/-- Source `l` of host port `n` (R233). -/
def host (n l : Nat) : Nat := 24 * n + l
/-- Source `l` of channel `c` (R419). -/
def chan (c l : Nat) : Nat := 384 + 16 * c + l
/-- Source `l` of conveyor link `n` (R482). -/
def link (n l : Nat) : Nat := 768 + 8 * n + l
/-- Source `l` of slot `n` (R648). -/
def slot (n l : Nat) : Nat := 1024 + 4 * n + l
/-- Source `l` of core `n` (R160). -/
def core (n l : Nat) : Nat := 1280 + 4 * n + l

def dirParity : Nat := 1216
def dirTagParity : Nat := 1217
def pcClean : Nat := 1218
def pcDirty : Nat := 1219
def peerTimeout : Nat := 1222
def exclusiveLost : Nat := 1223
def unmatchedFrame : Nat := 1224
def unexpectedHost : Nat := 1225
def setPinned : Nat := 1226
def waitFull : Nat := 1227
def coarse : Nat := 1228
def poisonDelivered : Nat := 1229
def mapUnread : Nat := 1233
def malformedEntry : Nat := 1234
def sizeVector : Nat := 1235
def reserveLow : Nat := 1236
def reserveExhausted : Nat := 1237
def freeRingLow : Nat := 1238
def releaseFull : Nat := 1239
def ringInvalid : Nat := 1240
def reframeFailed : Nat := 1241
def peerMoveTimeout : Nat := 1243
def grainVerify : Nat := 1244
def encodeCheck : Nat := 1245
def grainDecode : Nat := 1246
def grainTwice : Nat := 1247
def grainRepeated : Nat := 1248
def heapVerify : Nat := 1249
def heapDecode : Nat := 1250
def heapTwice : Nat := 1251
def heapRepeated : Nat := 1252
def heapUnavailable : Nat := 1253
def grainBoth : Nat := 1255
def engineParity : Nat := 1261
def keyArrayParity : Nat := 1262
def keyEmpty : Nat := 1263
def noKeySelection : Nat := 1264
def keyLoadRefused : Nat := 1265
def engineRepeated : Nat := 1266
def engineBoth : Nat := 1267
def lineCheckRecovered : Nat := 1272
def lineCheckTwice : Nat := 1273
def rakeUncorrectable : Nat := 1274
def rakeDone : Nat := 1275
def deviceMarked : Nat := 1276
def pprFailed : Nat := 1277
def sramRepair : Nat := 1278
def fuseFailed : Nat := 1279
def misaligned : Nat := 1344
def accessRefused : Nat := 1345
def guardFailed : Nat := 1346
def keyGuardRefused : Nat := 1347
def imageRejected : Nat := 1348
def swapMissed : Nat := 1349
def noImage : Nat := 1350
def bootRejected : Nat := 1351
def tokenRejected : Nat := 1352
def lcStarted : Nat := 1353
def lcDamaged : Nat := 1354
def otpRead : Nat := 1355
def otpProgram : Nat := 1356
def rbgHealth : Nat := 1357
def certMismatch : Nat := 1358
def arbAdvanced : Nat := 1359
def spdmSideband : Nat := 1360
def slotParity : Nat := 1408
def chargePump : Nat := 1409
def slotRefused : Nat := 1410
def collectorParity : Nat := 1472
def readiness : Nat := 1473
def modeChanged : Nat := 1474
def captureOverflow : Nat := 1475
def setServable : Nat := 1484
def holdLimit : Nat := 1485
def shed : Nat := 1488
def restored : Nat := 1489
def beCut : Nat := 1490
def capExceeded : Nat := 1492
def urgency : Nat := 1493
def belowDwarn : Nat := 1494

end Src

end Sys2Proof.Machine
end

