-- ==== Sys2Proof/Machine/SMap.lean ====
section
/-! DEFINITION. Sparse data by key: a list of (key, value) pairs in one canonical form, keys strictly rising and no
entry equal to what an unlisted key reads as. Registers, memories, cores, links and pages of the state are held so. -/

namespace Sys2Proof.Machine

/-- Sparse data by key. -/
abbrev SMap (α : Type) := List (Nat × α)

/-- The value of key `k`; `d` is what an unlisted key reads as. -/
def smGet {α : Type} (d : α) : SMap α → Nat → α
  | [], _ => d
  | (k', v) :: r, k => if k = k' then v else smGet d r k

/-- The list without its entries of key `k`. -/
def smErase {α : Type} : SMap α → Nat → SMap α
  | [], _ => []
  | (k', v) :: r, k => if k = k' then smErase r k else (k', v) :: smErase r k

/-- The list with an entry put before the first greater key. -/
def smInsert {α : Type} : SMap α → Nat → α → SMap α
  | [], k, v => [(k, v)]
  | (k', v') :: r, k, v => if k < k' then (k, v) :: (k', v') :: r else (k', v') :: smInsert r k v

/-- The list with key `k` at value `v`; writing what an unlisted key reads as removes the entry. -/
def smSet {α : Type} [DecidableEq α] (d : α) (m : SMap α) (k : Nat) (v : α) : SMap α :=
  if v = d then smErase m k else smInsert (smErase m k) k v

/-- Keys rise strictly from above a bound. -/
def smRising {α : Type} : Option Nat → SMap α → Bool
  | _, [] => true
  | .none, (k, _) :: r => smRising (some k) r
  | some b, (k, _) :: r => decide (b < k) && smRising (some k) r

/-- The canonical form for a reading `d` of unlisted keys: keys strictly rising, no entry equal to its unlisted reading. -/
def smWf {α : Type} [DecidableEq α] (d : Nat → α) (m : SMap α) : Bool :=
  smRising .none m && m.all (fun e => decide (e.2 ≠ d e.1))

end Sys2Proof.Machine
end

