-- ==== Sys2Proof/Syntax.lean ====
section
/-! DEFINITION. The commands of the UM9624: one constructor per row of spec/opcode_table.json, with the operands that the
rows' rules give them, and the small data types those operands are made of. -/

namespace Sys2Proof

/-- A path to the register space (R48, R62, R107): a host port, the sideband path, or a core at supervisor level
(`owner = false`, firmware) or at owner level. -/
inductive Path where
  | host (p : Fin 16)
  | sideband
  | core (n : Fin 16) (owner : Bool)
  deriving DecidableEq, Repr

/-- One operation of a sideband register message (R48, R714): its code (0 read, 1 write, others reserved: the numbers are the
model's, DESIGN CHOICE, log entry 202), the byte offset and the value. -/
structure SbOp where
  code : Nat
  off : Nat
  val : Word
  deriving DecidableEq, Repr

/-- What a fault source reports with its assertion (R574 to R577, R233, R565, R566): the fields of a capture entry, the
bifurcated port and the logical device that the assertion names, and the engine of a data-path source. -/
structure Info where
  atype : Nat := 0
  akind : Nat := 0
  addr : Nat := 0
  mkind : Nat := 0
  mdev : Nat := 0
  mid : Nat := 0
  forced : Bool := false
  sub : Option Nat := none
  ld : Option Nat := none
  unit : Option Nat := none
  deriving DecidableEq, Repr

/-- What a port reset resets (R84): every logical device of bifurcated port `k` of HPn by its PERST_N, or one logical
device by a CXL reset or a Function Level Reset. -/
inductive PortReset where
  | perst (n : Fin 16) (k : Fin 4)
  | ld (l : Fin 256)
  deriving DecidableEq, Repr

/-- Who issues a mailbox command or an SPDM message (R206, R222, R223): a logical device, the FM-owned LD of a
bifurcated port, or the sideband path. -/
inductive Issuer where
  | ld (l : Fin 256)
  | fm (port : Fin 64)
  | sideband
  deriving DecidableEq, Repr

/-- The snoop type of a MemRd (R353). -/
inductive Snoop where
  | inv | data | cur
  deriving DecidableEq, Repr

/-- How a host link comes to its width and rate (R196, R197): trained in 68 B or in 256 B flit mode, or an L0p width change. -/
inductive LinkChange where
  | flit68
  | flit256
  | l0p
  deriving DecidableEq, Repr

/-- A configuration request to a logical device's function (R70, R199, R206, R207): a read, the read of the CDAT, of a decoder or of
the BI decoder, the enumeration of the function, the commit or removal of HDM decoder `i`, and that of the BI decoder. -/
inductive CfgReq where
  | read (off : Nat)
  | cdat
  | readDecoder (i : Fin 4)
  | readBi
  | enumerate
  | commit (i : Fin 4) (base size skip : Nat) (ways gran : Nat) (hdmh : Bool)
  | uncommit (i : Fin 4)
  | bi (on : Bool)
  deriving DecidableEq, Repr

/-- What an IDE_KM message programs (R197): CXL IDE in containment or skid mode, or the Link IDE stream of CXL.io. -/
inductive IdeStream where
  | containment
  | skid
  | link
  deriving DecidableEq, Repr

/-- A conveyor frame (R448): its header fields and its payload. -/
structure Frame where
  ty : Nat := 0
  dest : Nat := 0
  src : Nat := 0
  lap : Nat := 0
  seq : Nat := 0
  ack : Nat := 0
  tag : Nat := 0
  txid : Nat := 0
  opcode : Nat := 0
  line : Nat := 0
  data : Line := 0
  deriving DecidableEq, Repr

/-- The payload of a LM frame (R466). -/
structure LmMsg where
  reqw : Fin 4
  dev : Nat
  link : Nat
  rxok : Nat
  txmap : Word
  rxmap : Word
  width : Fin 4
  mapgen : Bool
  deriving DecidableEq, Repr

/-- The fields of a training block (R473). -/
structure TrainBlock where
  dev : Nat
  link : Nat
  mode : Bool
  maxw : Fin 4
  rxok : Nat
  spare : Bool
  req : Bool
  stamp : Nat
  turn : Nat
  deriving DecidableEq, Repr

/-- The commands the device takes and the events that come to it, one constructor for each row of
spec/opcode_table.json. -/
inductive Instr where
  /-- REGISTER_WRITE (R10). A write of a register that has no row of its own takes effect according to its
      field types. -/
  | registerWrite (p : Path) (width : Nat) (off : Nat) (val : Nat)
  /-- REGISTER_PAIR_LOW_READ (R44). A read of the low word of a 64-bit register pair latches the high word for
      the reading path. -/
  | registerPairLowRead (p : Path) (width : Nat) (off : Nat)
  /-- SIDEBAND_REGISTER_MESSAGE (R48). A sideband MCTP message of 1 to 16 register operations is carried out
      in order and answered with values and per-operation status. -/
  | sidebandRegisterMessage (ops : List SbOp)
  /-- GP_V_WRITE (R53). A write to the _V address of a GP register opens a complement-pair sequence, aborting
      any open one. -/
  | gpVWrite (p : Path) (off : Nat) (v : Word)
  /-- GP_C_WRITE (R55). A write to a _C address completes, fails or aborts the open complement-pair sequence. -/
  | gpCWrite (p : Path) (off : Nat) (v : Word)
  /-- GP_SEQUENCE_TIMEOUT (R54). An open GP sequence with no completing _C write closes in clock 65 as a CAUSE
      2 failure. -/
  | gpSequenceTimeout
  /-- KEY_ARM (R58). A write to GRD_KEY arms or disarms the writing path's key. -/
  | keyArm (p : Path) (v : Word)
  /-- KEY_EXPIRY (R60). An armed key not consumed within 65,536 core clocks disarms itself. -/
  | keyExpiry (p : Path)
  /-- IDX_ADDR_WRITE (R63). A write of IDXn_ADDR sets target and address for later accesses and discards a
      held pair word. -/
  | idxAddrWrite (p : Path) (n : Fin 4) (v : Word)
  /-- IDX_DATA_READ (R63). A read of IDXn_DATA reads the target word, waiting for BUSY, and advances the
      address with AINC. -/
  | idxDataRead (p : Path) (n : Fin 4)
  /-- IDX_DATA_WRITE (R63). A write of IDXn_DATA is posted to the target word, or held and sent as a
      complement pair. -/
  | idxDataWrite (p : Path) (n : Fin 4) (v : Word)
  /-- IDX_TARGET_DONE (R63). The target takes a posted window write and BUSY clears, releasing any waiting
      access. -/
  | idxTargetDone (n : Fin 4)
  /-- IDX_PAIR_TIMEOUT (R65). A held first pair word with no second write within 65,536 core clocks is
      discarded and recorded. -/
  | idxPairTimeout (n : Fin 4)
  /-- MODE_REQUEST_RISE (R72). A request for RISE leaves SAFE when no SAFE-class sticky bit is set and SECB is
      READY. -/
  | modeRequestRise (p : Path)
  /-- MODE_REQUEST_RUN (R72). A request for RUN moves the device to RUN or TRIM, or leaves HOLD or DRAIN, or
      is refused. -/
  | modeRequestRun (p : Path)
  /-- MODE_REQUEST_DRAIN (R72). A request for DRAIN records the return mode and enters DRAIN, or leaves HOLD
      for DRAIN. -/
  | modeRequestDrain (p : Path)
  /-- MODE_REQUEST_HOLD (R72). A request for HOLD records the return mode and starts the HOLD entry steps. -/
  | modeRequestHold (p : Path)
  /-- MODE_REQUEST_TEST (R72). A request for TEST enters TEST when every extent is FREE and the device is not
      a pool member. -/
  | modeRequestTest (p : Path)
  /-- MODE_REQUEST_OTHER (R72). A request for BOOT, TRIM or SAFE is refused as illegal, or exits TEST by warm
      reset. -/
  | modeRequestOther (p : Path) (target : Fin 8)
  /-- MODE_TRANSITION_END (R73). A mode transition in progress ends, clearing CHANGING and applying any
      deferred TRIM-class reaction. -/
  | modeTransitionEnd
  /-- HOLD_ENTRY_COMPLETE (R80). Outstanding transactions finish and all channels enter self-refresh,
      completing HOLD entry. -/
  | holdEntryComplete
  /-- HOLD_EXIT_COMPLETE (R79). Self-refresh exit and first refresh complete and ingress resumes on leaving
      HOLD. -/
  | holdExitComplete
  /-- HOLD_LIMIT_EXPIRY (R80). The hold limit expires and the device leaves HOLD as for a request RUN. -/
  | holdLimitExpiry
  /-- HOLD_LIMIT_WRITE (R80). A write of GEN_HOLDLIM changes the limit of a HOLD in progress, counted from its
      first clock. -/
  | holdLimitWrite (p : Path) (v : Word)
  /-- SAFECAP_EXPIRY (R575). The full-capture window ends 10 s after the device leaves SAFE. -/
  | safecapExpiry
  /-- COLD_RESET (R84). A cold reset resets every register and unit and starts the bittern. -/
  | coldReset (cause : Fin 8)
  /-- WARM_RESET (R84). A warm reset resets warm- and port-reset registers and every unit except the power
      die. -/
  | warmReset (cause : Fin 8)
  /-- GEN_RST_WARM (R84). A key-guarded write of GEN_RST.KIND 1 starts a warm reset. -/
  | genRstWarm (p : Path)
  /-- GEN_RST_COLD (R84). A key-guarded write of GEN_RST.KIND 2 starts a cold reset. -/
  | genRstCold (p : Path)
  /-- RESET_N_LOW (R705). RESET_N held low for 10 us or longer starts a cold reset. -/
  | resetNLow (clocks : Nat)
  /-- RESET_N_RELEASE (R705). The rising edge of RESET_N starts the boot sequence. -/
  | resetNRelease
  /-- SUPPLY_UNDERVOLTAGE (R697). A rail below its undervoltage threshold for 2 us causes a cold reset with
      cause 0. -/
  | supplyUndervoltage (clocks : Nat)
  /-- POWER_DIE_SUPPLY_LOSS (R701). VPD or V12S below its threshold pulls every slot gate and ORing drive off
      within 1 us. -/
  | powerDieSupplyLoss
  /-- PORT_RESET (R86). PERST_N, CXL reset or FLR resets the port or logical device, discards requests, marks
      its capacity TU and destroys its keys. -/
  | portReset (what : PortReset)
  /-- PERST_RELEASE (R87). Release of a port's PERST_N applies bifurcation and LD counts and starts link
      training within 20 ms. -/
  | perstRelease (n : Fin 16) (k : Fin 4)
  /-- BITTERN_KEYS_DONE (R88). Bittern phase 1 ends with every key slot destroyed. -/
  | bitternKeysDone
  /-- BITTERN_SRAM_DONE (R88). Bittern phase 2 ends with every on-die SRAM array zeroised. -/
  | bitternSramDone
  /-- BITTERN_MAP_BLOCK_WRITTEN (R90). Phase 3 writes one map block of a set with TU entries and sets its
      bitmap bit. -/
  | bitternMapBlockWritten (set : Fin 24) (block : Nat)
  /-- BITTERN_MAP_PHASE_END (R89). Phase 3 of a set ends and its phase 4 starts in the same clock. -/
  | bitternMapPhaseEnd (set : Fin 24)
  /-- BITTERN_CELLS_ZEROISED (R91). Phase 4 zeroises cells of a set and advances its frontier. -/
  | bitternCellsZeroised (set : Fin 24) (cells : Nat)
  /-- BITTERN_DATA_PHASE_END (R89). Phase 4 of a set ends and its channels' DONE bits are set. -/
  | bitternDataPhaseEnd (set : Fin 24)
  /-- SET_SERVABLE (R97). An interleave set becomes servable once its last need is met, setting GEN_SETSRV and
      raising set servable. -/
  | setServable (set : Fin 24)
  /-- ADD (R113). ADD writes rs1 + rs2 to rd. -/
  | add (c : Fin 16) (rd rs1 rs2 : Fin 32)
  /-- SUB (R113). SUB writes rs1 - rs2 to rd. -/
  | sub (c : Fin 16) (rd rs1 rs2 : Fin 32)
  /-- AND (R113). AND writes the bitwise AND of rs1 and rs2 to rd. -/
  | and (c : Fin 16) (rd rs1 rs2 : Fin 32)
  /-- OR (R113). OR writes the bitwise OR of rs1 and rs2 to rd. -/
  | or (c : Fin 16) (rd rs1 rs2 : Fin 32)
  /-- XOR (R113). XOR writes the bitwise XOR of rs1 and rs2 to rd. -/
  | xor (c : Fin 16) (rd rs1 rs2 : Fin 32)
  /-- SLL (R113). SLL shifts rs1 left by rs2[5:0]. -/
  | sll (c : Fin 16) (rd rs1 rs2 : Fin 32)
  /-- SRL (R113). SRL shifts rs1 right by rs2[5:0] with zero fill. -/
  | srl (c : Fin 16) (rd rs1 rs2 : Fin 32)
  /-- SRA (R113). SRA shifts rs1 right by rs2[5:0] with sign fill. -/
  | sra (c : Fin 16) (rd rs1 rs2 : Fin 32)
  /-- SLT (R113). SLT sets rd to 1 if rs1 < rs2 signed. -/
  | slt (c : Fin 16) (rd rs1 rs2 : Fin 32)
  /-- SLTU (R113). SLTU sets rd to 1 if rs1 < rs2 unsigned. -/
  | sltu (c : Fin 16) (rd rs1 rs2 : Fin 32)
  /-- MIN (R113). MIN writes the signed minimum of rs1 and rs2. -/
  | min (c : Fin 16) (rd rs1 rs2 : Fin 32)
  /-- MAX (R113). MAX writes the signed maximum of rs1 and rs2. -/
  | max (c : Fin 16) (rd rs1 rs2 : Fin 32)
  /-- MINU (R113). MINU writes the unsigned minimum of rs1 and rs2. -/
  | minu (c : Fin 16) (rd rs1 rs2 : Fin 32)
  /-- MAXU (R113). MAXU writes the unsigned maximum of rs1 and rs2. -/
  | maxu (c : Fin 16) (rd rs1 rs2 : Fin 32)
  /-- MUL (R113). MUL writes the low 64 bits of rs1 x rs2. -/
  | mul (c : Fin 16) (rd rs1 rs2 : Fin 32)
  /-- MULH (R113). MULH writes the high 64 bits of the signed product. -/
  | mulh (c : Fin 16) (rd rs1 rs2 : Fin 32)
  /-- MULHU (R113). MULHU writes the high 64 bits of the unsigned product. -/
  | mulhu (c : Fin 16) (rd rs1 rs2 : Fin 32)
  /-- DIV (R114). DIV writes the signed quotient, with fixed results for zero divisor and overflow. -/
  | div (c : Fin 16) (rd rs1 rs2 : Fin 32)
  /-- DIVU (R114). DIVU writes the unsigned quotient, all ones for a zero divisor. -/
  | divu (c : Fin 16) (rd rs1 rs2 : Fin 32)
  /-- REM (R114). REM writes the signed remainder, rs1 for a zero divisor. -/
  | rem (c : Fin 16) (rd rs1 rs2 : Fin 32)
  /-- REMU (R114). REMU writes the unsigned remainder, rs1 for a zero divisor. -/
  | remu (c : Fin 16) (rd rs1 rs2 : Fin 32)
  /-- POPC (R113). POPC writes the count of 1 bits in rs1. -/
  | popc (c : Fin 16) (rd rs1 : Fin 32)
  /-- CLZ (R113). CLZ writes the leading zero count of rs1. -/
  | clz (c : Fin 16) (rd rs1 : Fin 32)
  /-- CTZ (R113). CTZ writes the trailing zero count of rs1. -/
  | ctz (c : Fin 16) (rd rs1 : Fin 32)
  /-- ADDI (R113). ADDI writes rs1 plus the sign-extended immediate. -/
  | addi (c : Fin 16) (rd rs1 : Fin 32) (imm : BitVec 16)
  /-- ANDI (R113). ANDI ANDs rs1 with the zero-extended immediate. -/
  | andi (c : Fin 16) (rd rs1 : Fin 32) (imm : BitVec 16)
  /-- ORI (R113). ORI ORs rs1 with the zero-extended immediate. -/
  | ori (c : Fin 16) (rd rs1 : Fin 32) (imm : BitVec 16)
  /-- XORI (R113). XORI XORs rs1 with the zero-extended immediate. -/
  | xori (c : Fin 16) (rd rs1 : Fin 32) (imm : BitVec 16)
  /-- SLTI (R113). SLTI sets rd if rs1 is below the sign-extended immediate, signed. -/
  | slti (c : Fin 16) (rd rs1 : Fin 32) (imm : BitVec 16)
  /-- SLTIU (R113). SLTIU sets rd if rs1 is below the sign-extended immediate, unsigned. -/
  | sltiu (c : Fin 16) (rd rs1 : Fin 32) (imm : BitVec 16)
  /-- SLLI (R113). SLLI shifts rs1 left by imm16[5:0]. -/
  | slli (c : Fin 16) (rd rs1 : Fin 32) (sh : Fin 64)
  /-- SRLI (R113). SRLI shifts rs1 right by imm16[5:0] with zero fill. -/
  | srli (c : Fin 16) (rd rs1 : Fin 32) (sh : Fin 64)
  /-- SRAI (R113). SRAI shifts rs1 right by imm16[5:0] with sign fill. -/
  | srai (c : Fin 16) (rd rs1 : Fin 32) (sh : Fin 64)
  /-- LUI (R113). LUI writes the sign-extended immediate shifted left by 16. -/
  | lui (c : Fin 16) (rd : Fin 32) (imm : BitVec 16)
  /-- SHORI (R113). SHORI shifts rs1 left by 16 and ORs in the immediate. -/
  | shori (c : Fin 16) (rd rs1 : Fin 32) (imm : BitVec 16)
  /-- JALR (R115). JALR jumps to rs1 plus offset with bits [1:0] cleared and links pc + 4. -/
  | jalr (c : Fin 16) (rd rs1 : Fin 32) (imm : BitVec 16)
  /-- LB (R113). LB loads a sign-extended byte. -/
  | lb (c : Fin 16) (rd rs1 : Fin 32) (off : BitVec 16)
  /-- LH (R113). LH loads a sign-extended 2-byte value. -/
  | lh (c : Fin 16) (rd rs1 : Fin 32) (off : BitVec 16)
  /-- LW (R113). LW loads a sign-extended 4-byte value. -/
  | lw (c : Fin 16) (rd rs1 : Fin 32) (off : BitVec 16)
  /-- LD (R113). LD loads an 8-byte value. -/
  | ld (c : Fin 16) (rd rs1 : Fin 32) (off : BitVec 16)
  /-- LBU (R113). LBU loads a zero-extended byte. -/
  | lbu (c : Fin 16) (rd rs1 : Fin 32) (off : BitVec 16)
  /-- LHU (R113). LHU loads a zero-extended 2-byte value. -/
  | lhu (c : Fin 16) (rd rs1 : Fin 32) (off : BitVec 16)
  /-- LWU (R113). LWU loads a zero-extended 4-byte value. -/
  | lwu (c : Fin 16) (rd rs1 : Fin 32) (off : BitVec 16)
  /-- SB (R113). SB stores the low byte of rs2. -/
  | sb (c : Fin 16) (rs2 rs1 : Fin 32) (off : BitVec 16)
  /-- SH (R113). SH stores the low 2 bytes of rs2. -/
  | sh (c : Fin 16) (rs2 rs1 : Fin 32) (off : BitVec 16)
  /-- SW (R113). SW stores the low 4 bytes of rs2. -/
  | sw (c : Fin 16) (rs2 rs1 : Fin 32) (off : BitVec 16)
  /-- SD (R113). SD stores all 8 bytes of rs2. -/
  | sd (c : Fin 16) (rs2 rs1 : Fin 32) (off : BitVec 16)
  /-- BEQ (R111). BEQ branches if rs1 equals rs2. -/
  | beq (c : Fin 16) (rs1 rs2 : Fin 32) (off : BitVec 16)
  /-- BNE (R111). BNE branches if rs1 differs from rs2. -/
  | bne (c : Fin 16) (rs1 rs2 : Fin 32) (off : BitVec 16)
  /-- BLT (R111). BLT branches if rs1 < rs2 signed. -/
  | blt (c : Fin 16) (rs1 rs2 : Fin 32) (off : BitVec 16)
  /-- BGE (R111). BGE branches if rs1 >= rs2 signed. -/
  | bge (c : Fin 16) (rs1 rs2 : Fin 32) (off : BitVec 16)
  /-- BLTU (R111). BLTU branches if rs1 < rs2 unsigned. -/
  | bltu (c : Fin 16) (rs1 rs2 : Fin 32) (off : BitVec 16)
  /-- BGEU (R111). BGEU branches if rs1 >= rs2 unsigned. -/
  | bgeu (c : Fin 16) (rs1 rs2 : Fin 32) (off : BitVec 16)
  /-- JAL (R113). JAL links pc + 4 in rd and jumps to the B-format target. -/
  | jal (c : Fin 16) (rd : Fin 32) (off : BitVec 16)
  /-- AMO_ADD (R146). AMO.ADD atomically adds rs2 to the pool-memory operand and returns the old value. -/
  | amoAdd (c : Fin 16) (rd rs1 rs2 : Fin 32) (w : Bool)
  /-- AMO_SWP (R146). AMO.SWP atomically swaps rs2 into the pool-memory operand. -/
  | amoSwp (c : Fin 16) (rd rs1 rs2 : Fin 32) (w : Bool)
  /-- AMO_CAS (R146). AMO.CAS writes rs2 to the pool-memory operand only if it equals rd. -/
  | amoCas (c : Fin 16) (rd rs1 rs2 : Fin 32) (w : Bool)
  /-- AMO_MAX (R146). AMO.MAX writes the larger of the operand and rs2, signed or unsigned. -/
  | amoMax (c : Fin 16) (rd rs1 rs2 : Fin 32) (w u : Bool)
  /-- FENCE (R153). FENCE waits until the selected posted RGW, SEND and page-move work is done. -/
  | fence (c : Fin 16) (sel : Fin 8)
  /-- FENCE_RELEASE (R153). The posted work a FENCE waits for is done and the core resumes issue. -/
  | fenceRelease (c : Fin 16)
  /-- TRAP (R154). TRAP takes the service trap with its CODE; an unassigned code returns all ones. -/
  | trap (c : Fin 16) (code : BitVec 10)
  /-- HALT (R155). HALT stops the core at supervisor level, or takes the HALT trap at owner level. -/
  | halt (c : Fin 16)
  /-- ERET (R156). ERET returns to EPC at the saved privilege level. -/
  | eret (c : Fin 16)
  /-- CSRR (R108). CSRR reads a control and status register into rd. -/
  | csrr (c : Fin 16) (rd : Fin 32) (csr : Fin 32)
  /-- CSRW (R108). CSRW writes rs1 to a control and status register, with special effects for EVPEND and WDOG. -/
  | csrw (c : Fin 16) (rs1 : Fin 32) (csr : Fin 32)
  /-- TMR (R121). TMR returns the tier map entry of a page. -/
  | tmr (c : Fin 16) (rd rs1 : Fin 32)
  /-- TMW (R122). TMW compares and swaps an allowed tier map entry. -/
  | tmw (c : Fin 16) (rd rs1 rs2 : Fin 32)
  /-- PMOV (R125). PMOV starts a page move in a move slot and returns the slot or an error. -/
  | pmov (c : Fin 16) (rd rs1 rs2 : Fin 32)
  /-- PZERO (R123). PZERO recalls the page's lines and makes it TZ, returning the old entry. -/
  | pzero (c : Fin 16) (rd rs1 : Fin 32)
  /-- PPROBE (R130). PPROBE reports the page's compressibility without storing. -/
  | pprobe (c : Fin 16) (rd rs1 : Fin 32)
  /-- DQRY (R132). DQRY returns the directory entry of a line. -/
  | dqry (c : Fin 16) (rd rs1 : Fin 32)
  /-- SEND (R134). SEND copies 64 B to a local core queue or an outbound message frame. -/
  | send (c : Fin 16) (rd rs1 rs2 : Fin 32)
  /-- SEND_STALL_RELEASE (R135). A stalled SEND completes once its destination queue or outbound buffer has
      room. -/
  | sendStallRelease (c : Fin 16)
  /-- RECV (R138). RECV takes the oldest inbound queue entry and returns its descriptor. -/
  | recv (c : Fin 16) (rd rs1 : Fin 32)
  /-- WAIT (R140). WAIT waits for selected events or a clock count. -/
  | wait (c : Fin 16) (rd rs1 rs2 : Fin 32)
  /-- WAIT_EVENT_WAKE (R140). A selected event latches and a waiting WAIT returns and clears it. -/
  | waitEventWake (c : Fin 16)
  /-- WAIT_TIMEOUT (R140). A WAIT's clock count expires with no event and it returns 0. -/
  | waitTimeout (c : Fin 16)
  /-- WAITT (R141). WAITT waits for a tide or selected events. -/
  | waitt (c : Fin 16) (rd rs1 rs2 : Fin 32)
  /-- WAITT_EVENT_WAKE (R141). A selected event latches and a waiting WAITT returns it. -/
  | waittEventWake (c : Fin 16)
  /-- WAITT_TIDE_REACHED (R141). TIDE_NOW reaches the WAITT tide and it returns 0. -/
  | waittTideReached (c : Fin 16)
  /-- TIDE (R143). TIDE returns TIDE_NOW. -/
  | tide (c : Fin 16) (rd : Fin 32)
  /-- CNTR (R144). CNTR returns a live or snapshot telemetry counter. -/
  | cntr (c : Fin 16) (rd rs1 : Fin 32) (snap : Bool)
  /-- RGR (R150). RGR reads a register after earlier RGWs of the core are applied. -/
  | rgr (c : Fin 16) (rd rs1 : Fin 32)
  /-- RGW (R151). RGW posts a register write from a core. -/
  | rgw (c : Fin 16) (rs1 rs2 : Fin 32)
  /-- RGW_APPLIED (R151). A posted RGW reaches the register fabric and is applied. -/
  | rgwApplied (c : Fin 16)
  /-- SETARM (R157). SETARM checks and arms the shadow configuration set. -/
  | setarm (c : Fin 16) (rd : Fin 32)
  /-- WATCHDOG_EXPIRY (R109). The core watchdog counts down to 0, raises its source and reloads. -/
  | watchdogExpiry (c : Fin 16)
  /-- PAGE_MOVE_COMPLETE (R128). A page move ends, writes its new entry or fails, frees its slot and posts a
      completion record. -/
  | pageMoveComplete (c : Fin 16) (slot : Fin 8) (errs : List (List (Nat × Word)))
  /-- CORE_RESTART (R182). A write of PAL_CORECTLn.RESTART applies the core reset and restarts firmware. -/
  | coreRestart (p : Path) (c : Fin 16)
  /-- CORE_RESTART_DEFERRED (R183). A restart held for busy move slots proceeds once every slot is free. -/
  | coreRestartDeferred (c : Fin 16)
  /-- GLX_LOAD_IMAGE_START (R224). A Load Image start chunk claims the staging region for the path. -/
  | glxLoadImageStart (m : Issuer) (data : List Byte)
  /-- GLX_LOAD_IMAGE_DATA (R224). A Load Image data chunk appends to the staged image in order. -/
  | glxLoadImageData (m : Issuer) (off : Nat) (data : List Byte)
  /-- GLX_LOAD_IMAGE_END (R225). A Load Image data-and-end chunk starts the background load of R171. -/
  | glxLoadImageEnd (m : Issuer) (off : Nat) (data : List Byte)
  /-- IMAGE_LOAD_COMPLETE (R171). A staged image's checks finish and it is written to the shadow set or
      rejected. -/
  | imageLoadComplete
  /-- STAGING_CLAIM_LAPSE (R224). A staging claim with no chunk for 10 s lapses. -/
  | stagingClaimLapse
  /-- GLX_PROGRAM_MESSAGE (R226). A host message is placed in a core's inbound queue and waits for a reply. -/
  | glxProgramMessage (m : Issuer) (c : Fin 16) (msg : Line)
  /-- HOST_MESSAGE_TIMEOUT (R179). PAL_HMTO.LIMIT elapses with no reply and the mailbox command fails. -/
  | hostMessageTimeout (c : Fin 16) (seq : Fin 65536)
  /-- GLX_GET_LOAD_STATUS (R225). Get Load Status returns the load result. -/
  | glxGetLoadStatus (m : Issuer)
  /-- GLX_GET_ALIAS_LAYOUT (R227). Get Alias Layout returns the 16 TAGRES entries of the requesting logical
      device. -/
  | glxGetAliasLayout (m : Issuer)
  /-- GLX_GET_READINESS (R227). Get Readiness returns RDY_0 to RDY_7, GEN_SETSRV and GEN_WIPE. -/
  | glxGetReadiness (m : Issuer)
  /-- HOSTREPLY (R181). The HOSTREPLY service completes an open host message with the program's reply. -/
  | hostreply (c : Fin 16)
  /-- ARMREQ (R181). The ARMREQ service executes SETARM on the owner's behalf. -/
  | armreq (c : Fin 16)
  /-- ABORTREQ (R181). The ABORTREQ service aborts an armed shadow set. -/
  | abortreq (c : Fin 16)
  /-- DCDADD (R217). The DCDADD service offers an extent to a logical device with an Add Capacity event
      record. -/
  | dcdadd (c : Fin 16)
  /-- DCDREL (R217). The DCDREL service asks the host to release an accepted extent. -/
  | dcdrel (c : Fin 16)
  /-- LOG (R181). The LOG service records a 64 B record. -/
  | log (c : Fin 16)
  /-- SETINFO (R181). The SETINFO service returns PAL_SETSTAT. -/
  | setinfo (c : Fin 16)
  /-- SET_ARM (R184). PAL_SETCMD.CMD 1 checks and arms the shadow set. -/
  | setArm (p : Path)
  /-- SET_ABORT (R187). PAL_SETCMD.CMD 2 aborts the armed shadow set. -/
  | setAbort (p : Path)
  /-- LOCAL_COMMIT (R194). PAL_SETCMD.CMD 3 commits a standalone device's armed set at the written tide. -/
  | localCommit (p : Path)
  /-- ARM_WAIT_TIMEOUT (R187). The master's 10 ms wait for ARMED ends with a missing participant and it sends
      ABORT. -/
  | armWaitTimeout
  /-- FINAL_SEND (R187). At tide T - 10,000 the master sends FINAL naming unacknowledged participants. -/
  | finalSend
  /-- CONFIG_SET_SWAP (R188). At tide T a committed device swaps its configuration sets, or enters SAFE
      without swapping. -/
  | configSetSwap
  /-- MEM_RD (R353). A host MemRd is checked, tagged, ordered and served from the tier map location. -/
  | memRd (ld : Fin 256) (mtag : Nat) (hpa : Nat) (snp : Snoop)
  /-- MEM_RD_DATA (R353). A host MemRdData reads a line and records the host shared or exclusive. -/
  | memRdData (ld : Fin 256) (mtag : Nat) (hpa : Nat)
  /-- MEM_INV (R353). A host MemInv invalidates other holders and records the requester HE. -/
  | memInv (ld : Fin 256) (mtag : Nat) (hpa : Nat)
  /-- MEM_INV_NT (R353). A host MemInvNT invalidates every other holder without recording the requester. -/
  | memInvNt (ld : Fin 256) (mtag : Nat) (hpa : Nat)
  /-- MEM_SPEC_RD (R353). A host MemSpecRd reads without changing holders. -/
  | memSpecRd (ld : Fin 256) (mtag : Nat) (hpa : Nat)
  /-- MEM_CLN_EVCT (R353). A host MemClnEvct clears the evicting logical device's HE record. -/
  | memClnEvct (ld : Fin 256) (mtag : Nat) (hpa : Nat)
  /-- MEM_WR (R33). A host MemWr invalidates other holders, encodes, enciphers and queues the line, completing
      on queue acceptance. -/
  | memWr (ld : Fin 256) (mtag : Nat) (hpa : Nat) (data : Line) (poison : Bool)
  /-- MEM_WR_PTL (R393). A host MemWrPtl writes the masked bytes, merging with a queued write or by a merge
      read. -/
  | memWrPtl (ld : Fin 256) (mtag : Nat) (hpa : Nat) (data : Line) (mask : BitVec 64) (poison : Bool)
  /-- BI_CONFLICT (R356). A host BIConflict is answered with BIConflictAck in the order of R356. -/
  | biConflict (ld : Fin 256) (line : Nat)
  /-- BIRSP (R354). A BIRsp from a BI target is combined into the home's open transaction. -/
  | birsp (ld : Fin 256) (line : Nat) (keeps : Bool)
  /-- BISNP_TIMEOUT (R215). A BISnp response limit expires and the port raises BISnp timeout. -/
  | bisnpTimeout (ld : Fin 256) (line : Nat)
  /-- HOME_SLICE_ADMISSION (R429). A home slice admits waiting requests into its lanes by urgency, colour and
      sluice round-robin. -/
  | homeSliceAdmission (h : Fin 4)
  /-- CHANNEL_WRITE_ACCEPT (R390). A channel write queue accepts a waiting write, which completes the write. -/
  | channelWriteAccept (ch : Fin 24)
  /-- READ_DATA_RETURN (R539). DRAM read data returns, is decoded, checked and deciphered, and is re-read on
      mismatch. -/
  | readDataReturn (txn : Nat) (errs : List (List (Nat × Word)))
  /-- HOST_LINK_TRAINED (R87). A host link finishes training and CXL initialisation and its port becomes
      READY. `rate` comes with how the link got to it. -/
  | hostLinkTrained (n : Fin 16) (k : Fin 4) (width : Fin 5) (rate : Fin 6 × LinkChange)
  /-- HOST_LINK_DOWN (R233). A host link goes down unexpectedly. -/
  | hostLinkDown (n : Fin 16) (k : Fin 4)
  /-- VIRAL_RECEIVED (R230). Viral received from a host raises its source and isolates the bifurcated port. -/
  | viralReceived (n : Fin 16) (k : Fin 4)
  /-- CXL_IO_CONFIG_REQUEST (R70). A configuration request is served, or answered with retry status in BOOT. -/
  | cxlIoConfigRequest (ld : Fin 256) (req : CfgReq)
  /-- HPX_LDCNT_WRITE (R204). A write of HPX_LDCNT sets LD counts or is ignored when it breaks the limit. -/
  | hpxLdcntWrite (p : Path) (n : Fin 16) (v : Word)
  /-- ADD_DC_RESPONSE (R217). The host's Add Dynamic Capacity Response accepts, declines or wrongly names an
      offered extent. -/
  | addDcResponse (ld : Fin 256) (start : Nat) (blocks : Nat) (accept : Bool)
  /-- RELEASE_DC (R217). The host's Release Dynamic Capacity frees an accepted or releasing extent. -/
  | releaseDc (ld : Fin 256) (start : Nat) (blocks : Nat)
  /-- DCD_RESPONSE_TIMEOUT (R217). The DCD response timer expires and the extent returns to FREE or ACCEPTED. -/
  | dcdResponseTimeout (e : Fin 4096)
  /-- GET_EVENT_RECORDS (R222). Get Event Records returns event records of the logical device. -/
  | getEventRecords (m : Issuer) (log : Fin 4)
  /-- CLEAR_EVENT_RECORDS (R222). Clear Event Records removes event records. -/
  | clearEventRecords (m : Issuer) (log : Fin 4) (count : Nat)
  /-- GET_EVENT_INTERRUPT_POLICY (R222). Get Event Interrupt Policy returns the interrupt policy. -/
  | getEventInterruptPolicy (m : Issuer)
  /-- SET_EVENT_INTERRUPT_POLICY (R222). Set Event Interrupt Policy sets the interrupt policy. -/
  | setEventInterruptPolicy (m : Issuer) (policy : Nat)
  /-- GET_FW_INFO (R222). Get FW Info reports the two firmware slots. -/
  | getFwInfo (m : Issuer)
  /-- TRANSFER_FW (R222). Transfer FW writes a firmware image into the inactive NOR slot. -/
  | transferFw (m : Issuer) (slot : Bool) (off : Nat) (data : List Byte)
  /-- ACTIVATE_FW (R690). Activate FW stages and swaps firmware online, or stages it for the next boot. -/
  | activateFw (m : Issuer) (slot : Bool) (online : Bool)
  /-- GET_TIMESTAMP (R222). Get Timestamp returns the device timestamp. -/
  | getTimestamp (m : Issuer)
  /-- SET_TIMESTAMP (R222). Set Timestamp sets the device timestamp. -/
  | setTimestamp (m : Issuer) (ns : Nat)
  /-- GET_SUPPORTED_LOGS (R222). Get Supported Logs lists the CEL and vendor debug log. -/
  | getSupportedLogs (m : Issuer)
  /-- GET_LOG (R222). Get Log returns a log. -/
  | getLog (m : Issuer) (vendor : Bool)
  /-- IDENTIFY_MEMORY_DEVICE (R222). Identify Memory Device reports zero volatile and the dynamic capacity. -/
  | identifyMemoryDevice (m : Issuer)
  /-- GET_POISON_LIST (R549). Get Poison List returns the poisoned lines found by the rake. -/
  | getPoisonList (m : Issuer)
  /-- CLEAR_POISON (R222). Clear Poison clears a poisoned line. -/
  | clearPoison (m : Issuer) (line : Nat) (data : Line)
  /-- INJECT_POISON (R222). Inject Poison poisons a line, in TEST only. -/
  | injectPoison (m : Issuer) (line : Nat)
  /-- GET_SCAN_MEDIA_CAPABILITIES (R222). Get Scan Media Capabilities reports the scan capability. -/
  | getScanMediaCapabilities (m : Issuer)
  /-- SCAN_MEDIA (R546). Scan Media starts the rake over a range. -/
  | scanMedia (m : Issuer) (first : Nat) (last : Nat)
  /-- GET_SCAN_MEDIA_RESULTS (R222). Get Scan Media Results returns the rake results. -/
  | getScanMediaResults (m : Issuer)
  /-- GET_DC_CONFIGURATION (R222). Get DC Configuration reports the dynamic capacity region. -/
  | getDcConfiguration (m : Issuer)
  /-- GET_DC_EXTENT_LIST (R222). Get DC Extent List returns the logical device's extents. -/
  | getDcExtentList (m : Issuer)
  /-- GET_LD_INFO (R222). Get LD Info returns logical device information to the FM-owned LD or sideband. -/
  | getLdInfo (m : Issuer)
  /-- GET_LD_ALLOCATIONS (R222). Get LD Allocations reports extents as allocations. -/
  | getLdAllocations (m : Issuer)
  /-- MAILBOX_UNSUPPORTED (R222). Any other mailbox command returns Unsupported. -/
  | mailboxUnsupported (m : Issuer) (opcode : Nat)
  /-- SPDM_GET_VERSION (R604). GET_VERSION is answered. -/
  | spdmGetVersion (m : Issuer)
  /-- SPDM_GET_CAPABILITIES (R604). GET_CAPABILITIES is answered. -/
  | spdmGetCapabilities (m : Issuer)
  /-- SPDM_NEGOTIATE_ALGORITHMS (R604). NEGOTIATE_ALGORITHMS is answered with the one supported set. -/
  | spdmNegotiateAlgorithms (m : Issuer)
  /-- SPDM_GET_DIGESTS (R604). GET_DIGESTS returns certificate chain digests. -/
  | spdmGetDigests (m : Issuer)
  /-- SPDM_GET_CERTIFICATE (R603). GET_CERTIFICATE returns a certificate slot's chain. -/
  | spdmGetCertificate (m : Issuer) (slot : Fin 4)
  /-- SPDM_CHALLENGE (R604). CHALLENGE is answered with an Alias-key signature. -/
  | spdmChallenge (m : Issuer)
  /-- SPDM_GET_MEASUREMENTS (R606). GET_MEASUREMENTS returns the measurement blocks as they stand. -/
  | spdmGetMeasurements (m : Issuer)
  /-- SPDM_KEY_EXCHANGE (R604). KEY_EXCHANGE opens a secured session. -/
  | spdmKeyExchange (m : Issuer)
  /-- SPDM_FINISH (R604). FINISH completes session establishment. -/
  | spdmFinish (m : Issuer)
  /-- SPDM_HEARTBEAT (R604). HEARTBEAT keeps a session alive. -/
  | spdmHeartbeat (m : Issuer)
  /-- SPDM_KEY_UPDATE (R604). KEY_UPDATE updates session keys. -/
  | spdmKeyUpdate (m : Issuer)
  /-- SPDM_END_SESSION (R604). END_SESSION closes a session. -/
  | spdmEndSession (m : Issuer)
  /-- SPDM_GET_CSR (R605). GET_CSR returns a certificate signing request inside a secured session. -/
  | spdmGetCsr (m : Issuer)
  /-- SPDM_SET_CERTIFICATE (R605). SET_CERTIFICATE stores an owner chain in slots 1 to 3. -/
  | spdmSetCertificate (m : Issuer) (slot : Fin 4) (chain : List Byte)
  /-- SPDM_CHUNK_SEND (R604). CHUNK_SEND carries a chunk of a large request. -/
  | spdmChunkSend (m : Issuer)
  /-- SPDM_CHUNK_GET (R604). CHUNK_GET returns a chunk of a large response. -/
  | spdmChunkGet (m : Issuer)
  /-- RELEASE_PUSH_RESUME (R255). A device operation waiting on a full or invalid release ring pushes its run
      once the ring has room. -/
  | releasePushResume
  /-- HEAP_DECODE_COMPLETE (R308). A heap page decode finishes and serves every read admitted while it ran. -/
  | heapDecodeComplete (q : Fin 4) (errs : List (List (Nat × Word)))
  /-- HEAP_JOB_START (R309). A heap crystallizer takes the next queued page job. -/
  | heapJobStart (q : Fin 4)
  /-- CRY_INJECT (R314). A CRY_TEST.INJ write arms a one-bit corruption of the next encode in TEST. -/
  | cryInject (p : Path) (v : Word)
  /-- PAGE_BUFFER_FLUSH (R308). A CRY_PBFLUSH bit empties a heap crystallizer's page buffer. -/
  | pageBufferFlush (p : Path) (v : Word)
  /-- ENGINE_ENABLE_WRITE (R567). A write of CRY_UNITEN or CRY_XEEN enables or disables crystallizers and
      crypto engines. -/
  | engineEnableWrite (p : Path) (xe : Bool) (v : Word)
  /-- KEY_LOAD (R333). KEYS_CMD OP 1 checks a wrapped key record and makes the slot CHANGING. -/
  | keyLoad (p : Path) (slot : BitVec 12)
  /-- KEY_DESTROY (R334). KEYS_CMD OP 2 makes a slot CHANGING for destruction. -/
  | keyDestroy (p : Path) (slot : BitVec 12)
  /-- KEY_SLOT_CHANGE_COMPLETE (R334). Once INFLT reaches 0 the slot is written or cleared, GEN advances and
      waiting requests go on. -/
  | keySlotChangeComplete
  /-- EPHEMERAL_KEY_LOAD (R617). A write of SEC_EPHEM fills a slot with a random key. -/
  | ephemeralKeyLoad (p : Path) (slot : BitVec 12)
  /-- RDS (R364). A taken RDS requests a line shared from its home. -/
  | rds (f : Frame)
  /-- RDO (R364). A taken RDO requests a line for ownership. -/
  | rdo (f : Frame)
  /-- UPG (R364). A taken UPG upgrades a shared holder to exclusive. -/
  | upg (f : Frame)
  /-- RDC (R369). A taken RDC requests current data without caching. -/
  | rdc (f : Frame)
  /-- WBM (R374). A taken WBM writes back a modified line to its home. -/
  | wbm (f : Frame)
  /-- EVC (R374). A taken EVC records a clean eviction at the home. -/
  | evc (f : Frame)
  /-- SNPI (R362). A taken SNPI invalidates the pool cache's copy and answers the home. -/
  | snpi (f : Frame)
  /-- SNPS (R362). A taken SNPS downgrades the pool cache's copy to shared and answers. -/
  | snps (f : Frame)
  /-- FWDS (R369). A taken FWDS sends shared data to the requester and acknowledges the home. -/
  | fwds (f : Frame)
  /-- FWDO (R369). A taken FWDO passes ownership to the requester and acknowledges the home. -/
  | fwdo (f : Frame)
  /-- RSPI (R362). A taken RSPI reports an invalid holder to the home's transaction. -/
  | rspi (f : Frame)
  /-- RSPS (R362). A taken RSPS reports a shared holder to the home's transaction. -/
  | rsps (f : Frame)
  /-- RSPD (R362). A taken RSPD carries modified data to the home. -/
  | rspd (f : Frame)
  /-- RSPWB (R374). A taken RSPWB reports a writeback in flight and makes the home wait for it. -/
  | rspwb (f : Frame)
  /-- FACK (R370). A taken FACK closes the home's forward transaction. -/
  | fack (f : Frame)
  /-- FACKD (R370). A taken FACKD carries data home and closes the forward once stored. -/
  | fackd (f : Frame)
  /-- DATS (R364). A taken DATS grants the requester a shared line. -/
  | dats (f : Frame)
  /-- DATE (R364). A taken DATE grants the requester an exclusive clean line. -/
  | date (f : Frame)
  /-- DATM (R364). A taken DATM grants the requester an exclusive modified line. -/
  | datm (f : Frame)
  /-- GNTE (R364). A taken GNTE grants an upgrade without data. -/
  | gnte (f : Frame)
  /-- DATC (R369). A taken DATC returns current data to the requester. -/
  | datc (f : Frame)
  /-- WBACK (R361). A taken WBACK ends a pool cache writeback in flight. -/
  | wback (f : Frame)
  /-- DIRECTORY_SWEEP_END (R357). The directory and pool cache sweep after isolation or port reset finishes. -/
  | directorySweepEnd
  /-- POOL_CACHE_FLUSH (R361). A HOME_PCFLUSH bit recalls, writes back and invalidates a quadrant's pool
      cache. -/
  | poolCacheFlush (p : Path) (v : Word)
  /-- POOL_CACHE_FLUSH_COMPLETE (R361). A pool cache flush finishes and its bit clears. -/
  | poolCacheFlushComplete (q : Fin 4)
  /-- DIRECTORY_QUERY_REGISTER (R132). A write of HOME_DQADDRHI starts a directory query with the effect of
      DQRY. -/
  | directoryQueryRegister (p : Path) (v : Word)
  /-- REFRESH_WINDOW_START (R398). A refresh window begins at its tide and its bank refreshes fall due. -/
  | refreshWindowStart (c : Fin 24)
  /-- DRAM_COMMAND_ISSUE (R395). A subchannel issues the first command its timing allows in scheduling order. -/
  | dramCommandIssue (c : Fin 24) (sub : Fin 2) (skip : Nat)
  /-- RDT_THROTTLE_EXPIRY (R404). A row-disturbance throttle ends after TWIN refresh windows. -/
  | rdtThrottleExpiry (c : Fin 24) (x : Fin 256)
  /-- ZQ_CALIBRATION (R407). ZQ calibration runs every 128 ms in a refresh slot. -/
  | zqCalibration (c : Fin 24)
  /-- DQS_TRACKING (R407). DQS-oscillator tracking runs every 1 ms and stops the channel if out of range. -/
  | dqsTracking (c : Fin 24) (out : Bool)
  /-- TRAINING_START (R406). DMC_TRAIN.START begins training of the enabled timing sets. -/
  | trainingStart (p : Path) (c : Fin 24) (tset : Fin 4)
  /-- TRAINING_COMPLETE (R409). Training ends and the channel becomes READY on its named set or fails. -/
  | trainingComplete (c : Fin 24) (ok : BitVec 4) (differ : Bool)
  /-- DMC_CTL_EN_WRITE (R408). A write of DMC_CTL.EN enables a channel or takes a serving channel down. -/
  | dmcCtlEnWrite (p : Path) (c : Fin 24) (en : Bool)
  /-- DMC_CECLR (R419). DMC_CTL.CECLR sets the correctable error count to 0. -/
  | dmcCeclr (p : Path) (c : Fin 24)
  /-- PARITY_REBUILD_START (R413). DMC_PARREB.START starts rebuilding a replaced parity-set channel. -/
  | parityRebuildStart (p : Path) (c : Fin 24)
  /-- PARITY_REBUILD_COMPLETE (R413). A parity rebuild reaches the channel end and the set leaves degraded
      form. -/
  | parityRebuildComplete (c : Fin 24)
  /-- FREQUENCY_CHANGE (R415). A DMC_FCHG write starts moving the masked channels to a timing set in HOLD, or
      is refused. -/
  | frequencyChange (p : Path) (tset : Fin 4) (mask : BitVec 24)
  /-- FREQUENCY_CHANGE_COMPLETE (R417). A frequency change finishes, with any failed channels lost. -/
  | frequencyChangeComplete (failed : BitVec 24)
  /-- SPPR (R554). DMC_PPR OP 1 applies soft post-package repair to a row of a serving channel. -/
  | sppr (p : Path) (c : Fin 24) (lrank : Fin 16) (sub : Fin 2) (bank : Fin 32) (row : BitVec 17)
  /-- HPPR (R555). DMC_PPR OP 2 applies hard post-package repair on a down channel. -/
  | hppr (p : Path) (c : Fin 24) (lrank : Fin 16) (sub : Fin 2) (bank : Fin 32) (row : BitVec 17)
  /-- PPR_COMPLETE (R555). A post-package repair ends and DMC_PPRSTAT reports its result. -/
  | pprComplete (c : Fin 24) (res : Fin 4) (lost : List Nat)
  /-- TEST_WRITE_RAW (R550). DMC_TESTCTL OP 1 writes a burst's data and all four check words. -/
  | testWriteRaw (p : Path) (c : Fin 24)
  /-- TEST_WRITE_BC (R550). DMC_TESTCTL OP 2 writes data and BC with computed check symbols. -/
  | testWriteBc (p : Path) (c : Fin 24)
  /-- TEST_READ_RAW (R550). DMC_TESTCTL OP 3 reads a burst without decoding. -/
  | testReadRaw (p : Path) (c : Fin 24)
  /-- TEST_READ_DECODE (R550). DMC_TESTCTL OP 4 reads a burst through the decoder and reports the result. -/
  | testReadDecode (p : Path) (c : Fin 24)
  /-- SLUICE_WINDOW_OPEN (R425). A sluice window opens, USED counts reset and the shedding comparison runs. -/
  | sluiceWindowOpen
  /-- DELIVERABLE_RECOMPUTE (R433). D is recomputed after a change of its inputs. -/
  | deliverableRecompute
  /-- URGENCY_PERSISTENT (R430). URGC asserted without a break for 100 us raises urgency persistent. -/
  | urgencyPersistent
  /-- FRAME_RECEIVE (R452). A link receives a frame, checks parity and order, uses its ACK and passes, takes,
      turns or discards it. `gen` comes with the symbols that the code of an Ihlo-F link corrected (R479). -/
  | frameReceive (l : Fin 32) (f : Frame) (bad : List (Fin 9)) (disagree fallow : Bool) (gen : Bool × Fin 3)
  /-- SLOT_TRANSMIT (R461). A link direction sends a replay, lay-by, pass-through, launched or EMPTY frame in
      a slot. -/
  | slotTransmit (l : Fin 32)
  /-- REPLAY_TIMEOUT (R457). The replay timer expires and go-back-N replay starts. -/
  | replayTimeout (l : Fin 32)
  /-- LANE_ERROR_WINDOW_END (R465). A 1 ms lane error window ends, marking lanes over threshold failed. -/
  | laneErrorWindowEnd (l : Fin 32)
  /-- LM_REQUEST (R467). A received REQUEST opens a renegotiation or decides its leader. -/
  | lmRequest (l : Fin 32) (m : LmMsg)
  /-- LM_GRANT (R468). A received GRANT lets the leader choose the new width and map. -/
  | lmGrant (l : Fin 32) (m : LmMsg)
  /-- LM_SWITCH (R470). A received SWITCH changes the follower to the new lane map. -/
  | lmSwitch (l : Fin 32) (m : LmMsg)
  /-- LM_ABORT (R472). A received ABORT ends a renegotiation. -/
  | lmAbort (l : Fin 32)
  /-- RENEG_TIMEOUT (R472). No answer to REQUEST or SWITCH within 100 us sends ABORT and retries. -/
  | renegTimeout (l : Fin 32)
  /-- LANE_TRAINING_COMPLETE (R469). An idle lane brought into a map locks, or fails within 20 us. -/
  | laneTrainingComplete (l : Fin 32) (p : Fin 9) (rx ok : Bool)
  /-- RENEGOTIATE (R467). CNV_TRAIN.RENEG starts a renegotiation with REQW. -/
  | renegotiate (p : Path) (l : Fin 32) (w : Fin 4)
  /-- RETRAIN (R476). CNV_TRAIN.RETRAIN starts a full retrain from LOCK. -/
  | retrain (p : Path) (l : Fin 32)
  /-- CNV_CTL_WRITE (R476). A key-guarded CNV_CTL write enables, disables or reconfigures a link. -/
  | cnvCtlWrite (p : Path) (l : Fin 32) (v : Word)
  /-- LINK_COUNTER_CLEAR (R465). CNV_LAYBY.CLR clears the link's peak, counters and lane error counts. -/
  | linkCounterClear (p : Path) (l : Fin 32)
  /-- TB_DETECT (R476). Peer DETECT training blocks move the link to LOCK or to FAILED on a mode mismatch. -/
  | tbDetect (l : Fin 32) (b : TrainBlock)
  /-- TB_LOCK (R476). Lanes lock and deskew and the link sends CONFIG. -/
  | tbLock (l : Fin 32) (locked : BitVec 9) (b : TrainBlock)
  /-- TB_CONFIG (R474). A received CONFIG block gives the peer's identity and width. -/
  | tbConfig (l : Fin 32) (b : TrainBlock)
  /-- TB_CONFIG_ACK (R476). A received CONFIG-ACK with the ECHO-REPLY completes configuration to ACTIVE. -/
  | tbConfigAck (l : Fin 32)
  /-- TB_ECHO (R475). A received ECHO is answered with ECHO-REPLY carrying TURN. -/
  | tbEcho (l : Fin 32) (b : TrainBlock)
  /-- TB_ECHO_REPLY (R475). A received ECHO-REPLY gives RTT and ONEWAY. -/
  | tbEchoReply (l : Fin 32) (b : TrainBlock)
  /-- TB_GO (R476). A received GO starts sequenced traffic. -/
  | tbGo (l : Fin 32)
  /-- LOCK_TIMEOUT (R476). 20 ms in LOCK without a locked lane fails the link. -/
  | lockTimeout (l : Fin 32)
  /-- LANE_LOCK_LOST (R476). Lock lost on every lane starts a full retrain. -/
  | laneLockLost (l : Fin 32)
  /-- MSG_FRAME (R504). A taken MSG frame enters the destination core's inbound queue. -/
  | msgFrame (f : Frame)
  /-- MVREQ (R271). A taken MVREQ asks the peer to accept a page moved to TR. -/
  | mvreq (f : Frame)
  /-- MVGO (R505). A taken MVGO lets the source send the page's lines. -/
  | mvgo (f : Frame)
  /-- MVREF (R271). A taken MVREF refuses a move and fails it with STAT 2. -/
  | mvref (f : Frame)
  /-- MVDATA (R505). A taken MVDATA carries one line of a moved page. -/
  | mvdata (f : Frame)
  /-- MVDONE (R505). A taken MVDONE ends a page move. -/
  | mvdone (f : Frame)
  /-- MVGET (R272). A taken MVGET makes the peer send a page back from TR. -/
  | mvget (f : Frame)
  /-- MVCLR (R272). A taken MVCLR makes the peer's page TZ and release its run. -/
  | mvclr (f : Frame)
  /-- MVABT (R505). A taken MVABT fails the move and the peer page keeps its entry. -/
  | mvabt (f : Frame)
  /-- TIDE_FRAME (R510). A taken TIDE frame measures the tide error and slews or steps TIDE_NOW. -/
  | tideFrame (l : Fin 32) (f : Frame) (arrival : Nat) (fine : Fin 16)
  /-- TIDE_FRAME_SEND (R509). Each member sends TIDE frames to its children and BEACONs at each 2^20 tides. -/
  | tideFrameSend
  /-- TIDE_ERROR_LIMIT (R511). A tide error above 2 core clocks persisting 2^21 tides raises its source. -/
  | tideErrorLimit
  /-- TIDE_PARENT_LOST (R513). The tide parent link fails and the PLL holds over while the unit moves link. -/
  | tideParentLost
  /-- TIDE_ALARM (R515). TIDE_NOW reaches TIDE_AT and the tide alarm asserts. -/
  | tideAlarm
  /-- MASTER_ELECTION (R516). A candidate unbeaten for 4 TIDE periods becomes master and sets the pool epoch. -/
  | masterElection (topo : Word)
  /-- JOIN (R522). The master checks a JOIN and answers WELCOME or REFUSE. -/
  | join (f : Frame)
  /-- WELCOME (R522). A taken WELCOME sets the set generation and the admission tide. -/
  | welcome (f : Frame)
  /-- REFUSE (R522). A taken REFUSE ends a join attempt. -/
  | refuse (f : Frame)
  /-- LEAVE (R523). The master removes a leaving device by a MEMB ahead. -/
  | leave (f : Frame)
  /-- HBEAT (R517). A taken HBEAT is answered with HBACK. -/
  | hbeat (f : Frame)
  /-- HBACK (R517). A taken HBACK records a member as alive. -/
  | hback (f : Frame)
  /-- HEARTBEAT_SEND (R517). The master sends HBEAT to every member every 2^14 tides. -/
  | heartbeatSend
  /-- HEARTBEAT_MISS_LIMIT (R517). A member missing 4 HBEATs is excluded by the master. -/
  | heartbeatMissLimit
  /-- STANDBY_PROBE_START (R518). A standby missing 4 HBEATs probes every member. -/
  | standbyProbeStart
  /-- STANDBY_PROBE_END (R518). After 4 periods the standby takes over with a majority or enters SAFE. -/
  | standbyProbeEnd
  /-- HEARTBEAT_LOSS (R519). A member with neither HBEAT nor TAKEOVER for 16 periods enters SAFE. -/
  | heartbeatLoss
  /-- MEMB (R521). A taken MEMB schedules a membership change. -/
  | memb (f : Frame)
  /-- MEMBERSHIP_APPLY (R521). A scheduled membership change applies at its tide. -/
  | membershipApply
  /-- ROUTE (R526). A taken ROUTE withdraws, restores or folds courses. -/
  | route (f : Frame)
  /-- LINKREP (R525). The master receives a link report and reroutes by ROUTE. -/
  | linkrep (f : Frame)
  /-- ARMED (R186). The master records a participant's ARMED report. -/
  | armed (f : Frame)
  /-- COMMIT (R187). A taken COMMIT marks the device committed or sends it to SAFE. -/
  | commit (f : Frame)
  /-- CMACK (R187). The master and standby record a COMMIT acknowledgement. -/
  | cmack (f : Frame)
  /-- FINAL (R191). A taken FINAL sends a named device to SAFE or excludes the named devices. -/
  | final (f : Frame)
  /-- POOL_ABORT (R187). A taken ABORT drops an arm on a device without COMMIT. -/
  | poolAbort (f : Frame)
  /-- CALSEG (R501). A taken CALSEG writes a segment of the launch calendar. -/
  | calseg (f : Frame)
  /-- PROBE (R496). A returning PROBE gives the course length. -/
  | probe (f : Frame)
  /-- COURSE_SEED (R497). The origin seeds fallow slots over the next L slots of a course. -/
  | courseSeed (l : Fin 32)
  /-- TAKEOVER (R518). A taken TAKEOVER names the new master. -/
  | takeover (f : Frame)
  /-- SNAP (R671). A taken SNAP replaces the pending snapshot schedule. -/
  | snap (f : Frame)
  /-- RESERVED_CREDIT_LAPSE (R503). An unspent reserved-launch credit lapses after 4,096 tides. -/
  | reservedCreditLapse
  /-- E2E_TIMEOUT (R530). The end-to-end timer expires and the request is poisoned or the move fails. -/
  | e2eTimeout (dev line : Nat)
  /-- POOL_LEAVE (R523). POOL_CFG.LEAVE sends LEAVE to the master. -/
  | poolLeave (p : Path)
  /-- POOL_CFG_WRITE (R522). A key-guarded POOL_CFG write sets identity and enables joining or forming. -/
  | poolCfgWrite (p : Path) (v : Word)
  /-- RAKE_START (R546). RAKE_CTL.START clears the rake counters and starts it over the range. -/
  | rakeStart (p : Path) (v : Word)
  /-- RAKE_PAGE (R547). The rake reads every burst of one admitted page, fixing or marking as set. -/
  | rakePage (errs : List (List (Nat × Word)))
  /-- RAKE_DONE (R549). The rake finishes its range and raises rake done. -/
  | rakeDone
  /-- FUSE_REPAIR (R553). A completed GEN_FUSEPROG sequence starts an SRAM field repair in HOLD. -/
  | fuseRepair (p : Path) (v : Word)
  /-- FUSE_REPAIR_COMPLETE (R553). An SRAM repair ends and GEN_FUSESTAT reports its result. -/
  | fuseRepairComplete (ok : Bool)
  /-- FAULT_ASSERTION (R562). A source assertion reaches the collector, sets its sticky bit and applies its
      class reaction. -/
  | faultAssertion (src : Fin 1536) (info : Info) (place : Option (Nat × Bool × Nat))
  /-- FAULT_FORCE (R572). A key-guarded FLT_FORCE write makes a source assert once. -/
  | faultForce (p : Path) (n : Fin 48) (v : Word)
  /-- STICKY_CLEAR (R567). A W1C write of FLT_STICKY clears sticky bits and updates FAULT_N. -/
  | stickyClear (p : Path) (n : Fin 48) (v : Word)
  /-- CAPTURE_POP (R576). FLT_CAPPOP.POP removes the oldest capture entry. -/
  | capturePop (p : Path)
  /-- CAPTURE_CLEAR (R576). FLT_CAPPOP.CLR empties the capture FIFO and clears the overflow count. -/
  | captureClear (p : Path)
  /-- EVENT_RECORD_DELIVERY (R585). A held host event record and its MSI-X are delivered once the function is
      enumerated. -/
  | eventRecordDelivery (ld : Fin 320) (log : Fin 4)
  /-- SIDEBAND_EVENT_SEND (R586). A queued sideband event message is sent when the transport is ready. -/
  | sidebandEventSend
  /-- BOOT_IMAGE_CHECK (R598). The boot ROM checks a firmware image and boots it, tries the next or enters
      recovery. -/
  | bootImageCheck
  /-- TOKEN_BUFFER_WRITE (R609). A write of SEC_TOKDATA stores a token word and advances the address. -/
  | tokenBufferWrite (p : Path) (v : Word)
  /-- TOKEN_COMMAND (R609). SEC_TOKCMD OP 1 checks the token in the buffer and starts its life-cycle action. -/
  | tokenCommand (p : Path)
  /-- END_WITHOUT_TOKEN (R611). SEC_TOKCMD OP 2 moves RAW or MANUF to END. -/
  | endWithoutToken (p : Path)
  /-- TOKEN_COMMAND_COMPLETE (R613). An accepted life-cycle change finishes its writes and destructions and
      applies a warm reset. -/
  | tokenCommandComplete (ok : Bool)
  /-- ANTI_ROLLBACK_ADVANCE (R597). A completed SEC_ARB sequence advances a security version counter or is
      refused. -/
  | antiRollbackAdvance (p : Path) (kind : Fin 4) (value : Fin 512) (ok : Bool)
  /-- FLASH_ERASE (R599). SEC_FLADDR.ERASE erases a NOR sector during recovery. -/
  | flashErase (p : Path) (addr : BitVec 24)
  /-- FLASH_PROGRAM (R599). A write of SEC_FLDATA programs 4 B of NOR during recovery. -/
  | flashProgram (p : Path) (v : Word)
  /-- SLOT_ENABLE (R640). A completed SLOT_EN sequence with EN 1 starts a ramp or waits for input. -/
  | slotEnable (n : Fin 48)
  /-- SLOT_DISABLE (R640). A completed SLOT_EN sequence with EN 0 turns the slot off or is refused. -/
  | slotDisable (n : Fin 48)
  /-- SLOT_POWER_GOOD (R628). A ramp meets the PG condition and the slot becomes ON and READY. -/
  | slotPowerGood (n : Fin 48)
  /-- FAULT_TIMER_EXPIRY (R630). The slot fault timer expires while limiting and the gate turns off. -/
  | faultTimerExpiry (n : Fin 48)
  /-- FAST_TRIP (R635). Slot current reaching 2 x IMAX pulls the gate off. -/
  | fastTrip (n : Fin 48)
  /-- POWER_LIMIT_TRIP (R637). The slot power-limit count reaches 2,500 and the gate turns off. -/
  | powerLimitTrip (n : Fin 48)
  /-- INPUT_COLLAPSE (R640). Slot V_in below 8.0 V turns the gate off and waits for input. -/
  | inputCollapse (n : Fin 48)
  /-- INPUT_GOOD (R625). A feed or input held at or above UVTH for 10 ms becomes good. -/
  | inputGood (n : Fin 48) (w : Fin 3)
  /-- FEED_LOST (R625). A feed falling below UVTH is lost at once and the slot warning asserts. -/
  | feedLost (n : Fin 48) (w : Fin 3)
  /-- REVERSE_CURRENT_TURNOFF (R624). Reverse current into a feed pulls its ORing gate off. -/
  | reverseCurrentTurnoff (n : Fin 48) (b : Bool)
  /-- RETRY_DELAY_END (R639). The slot retry delay ends and the slot retries or latches off. -/
  | retryDelayEnd (n : Fin 48)
  /-- HOUSEKEEPING_ROUND (R650). A housekeeping round reads every channel, updates the thermal model and sets
      the pause step. -/
  | housekeepingRound (rd : List (Option (BitVec 16)))
  /-- PAUSE_STEP_APPLY (R660). A new pause step takes effect at the first 64-clock run 50 us after the round. -/
  | pauseStepApply
  /-- COUNTER_CLEAR (R666). TEL_CTL.CLR sets every live counter to 0 and restarts samplers. -/
  | counterClear (p : Path)
  /-- SNAPSHOT_SCHEDULE_LOCAL (R671). TEL_SNAPCTL.CMD 1 schedules a local snapshot. -/
  | snapshotScheduleLocal (p : Path) (period : Fin 64)
  /-- SNAPSHOT_SCHEDULE_POOL (R671). TEL_SNAPCTL.CMD 2 on the master sends SNAP to every member. -/
  | snapshotSchedulePool (p : Path) (period : Fin 64)
  /-- SNAPSHOT_CANCEL (R671). TEL_SNAPCTL.CMD 3 cancels the pending schedule. -/
  | snapshotCancel (p : Path)
  /-- SNAPSHOT_LATCH (R670). At the snapshot tide every block latches its counters, or the snapshot is
      skipped. -/
  | snapshotLatch
  /-- SNAPSHOT_COPY_COMPLETE (R670). The central reader finishes copying the latches and the snapshot becomes
      readable. -/
  | snapshotCopyComplete
  /-- SAMPLER_CROSSING (R674). A watched counter advances by PER and the sampler writes a record. -/
  | samplerCrossing (n : Fin 8)
  /-- SAMPLE_NO_REQUEST_TIMEOUT (R675). No request admitted within 4,096 core clocks gives a pipeline record
      KIND 3. -/
  | sampleNoRequestTimeout (n : Fin 8)
  /-- SAMPLE_POP (R676). TEL_SMPPOP.POP removes the oldest sample record. -/
  | samplePop (p : Path)
  /-- SAMPLE_CLEAR (R676). TEL_SMPPOP.CLR empties the sample FIFO and clears DROP. -/
  | sampleClear (p : Path)
  /-- SAMPLER_CONFIG_WRITE (R674). A write of TEL_SMPCTLs sets the watched counter and restarts its count. -/
  | samplerConfigWrite (p : Path) (n : Fin 8) (v : Word)
  /-- FIRMWARE_STAGE (R687). PAL_FWCTL.CMD 1 checks and stages the inactive firmware image. -/
  | firmwareStage (p : Path)
  /-- FIRMWARE_STAGE_COMPLETE (R687). Staging ends and the boot header names the staged image on trial. -/
  | firmwareStageComplete (ok : Bool)
  /-- FIRMWARE_SWAP (R688). PAL_FWCTL.CMD 2 holds every core and writes the staged firmware in HOLD. -/
  | firmwareSwap (p : Path)
  /-- FIRMWARE_SWAP_COMPLETE (R688). The firmware swap restarts every core and sets TRIAL. -/
  | firmwareSwapComplete
  /-- FIRMWARE_CONFIRM (R690). PAL_FWCTL.CMD 3 writes TRY 0x00 to confirm the running image. -/
  | firmwareConfirm (p : Path)
  /-- ILLEGAL_INSTRUCTION (R112). A fetched word with a reserved opcode, func, xfn, non-zero MBZ field or
      undefined xarg bit takes the illegal-instruction trap. -/
  | illegalInstruction (c : Fin 16) (word : Word)
  /-- FAULT_TIMER_START (R630). Slot current reaches the fold-back limit, the slot fault timer starts and the
      early warning asserts, sending the channel to self-refresh. -/
  | faultTimerStart (n : Fin 48)
  /-- FAULT_TIMER_STOP (R630). Slot current leaves current limit, the fault timer stops and the early warning
      clears, so the channel leaves self-refresh. -/
  | faultTimerStop (n : Fin 48)
  /-- INPUT_ABOVE_UVTH (R644). V_in returns above UVTH, the slot warning clears and the channel leaves
      self-refresh within 2 us. -/
  | inputAboveUvth (n : Fin 48)
  /-- SUPPLY_RESTORED (R697). Every rail is back within its range, ending a cold reset held by undervoltage
      when RESET_N is already high. -/
  | supplyRestored
  /-- PLL_LOCK (R715). The conveyor clock PLL locks to CVREF after a reset, TIDE_NOW starts to advance and the
      device may leave its PLL wait in BOOT. -/
  | pllLock
  /-- D2D_TRAINING_COMPLETE (R68). A die-to-die link finishes training and its RDY_4.D2D bit becomes 1. -/
  | d2dTrainingComplete (d : Fin 3)
  /-- D2D_MODULE_LOST (R21). A die-to-die module fails, reducing bandwidth, isolating a link die's ports and
      links, or sending the device to SAFE for D2D-P. -/
  | d2dModuleLost (d : Fin 3)
  /-- HOLDOVER_END (R513). The PLL leaves holdover once it tracks the new tide parent link, clearing HOLDOVER
      and resuming slews. -/
  | holdoverEnd
  /-- PHY_LOCK_LOST (R410). A DDR5 PHY loses lock, the channel is lost with cause 3 and its set is covered by
      parity or withdrawn. -/
  | phyLockLost (c : Fin 24)
  /-- CA_PARITY_OR_WRITE_CRC_ERROR (R407). A DIMM reports a CA parity or write CRC error, the command is
      retried, and 16 retries in 1 ms stop the channel. -/
  | caParityOrWriteCrcError (c : Fin 24) (crc again : Bool)
  /-- HEAP_ENCODE_COMPLETE (R306). A heap page encode and its verify end, and the stream or stored form is
      written for a T2 write, move or fallback. -/
  | heapEncodeComplete (q : Fin 4) (bad : Bool)
  /-- IDE_KM_MESSAGE (R197). An IDE_KM message over a secured SPDM session on DOE programs CXL or PCIe IDE
      keys, raising an error source on failure. -/
  | ideKmMessage (m : Issuer) (ok : IdeStream × Bool)
  /-- FLASH_OPERATION_COMPLETE (R599). A NOR erase or program started through SEC_FLADDR or SEC_FLDATA
      finishes and BUSY clears. -/
  | flashOperationComplete
  /-- BOUNDARY_SCAN_INSTRUCTION (R708). A JTAG instruction takes effect as boundary scan in TEST or BOOT, and
      as BYPASS in other modes. -/
  | boundaryScanInstruction (scan : Bool)
  deriving DecidableEq, Repr

end Sys2Proof
end

