-- ==== Sys2Proof/Machine/State.lean ====
section
/-! DEFINITION. The state of the UM9624 as plain data: every register, table, queue, buffer, counter and mode that spec/
gives the device, the queue of the commands that are waiting, the reset state, and the reasons a step can stop. -/

namespace Sys2Proof.Machine

/-- Why a step stops with a fault. -/
inductive Fault where
  /-- Raised by no command: every command of the table has an effect that the spec gives. Safe. -/
  | none
  deriving DecidableEq, Repr

/-- Why a command is refused. -/
inductive Refusal where
  /-- Raised by the arm of a command that the model gives no meaning. Safe: nothing can be proved of such a step. -/
  | notModelled (mnemonic : String)
  deriving DecidableEq, Repr

/-! ### Register access (spec/02) -/

/-- The open complement-pair sequence (R53 to R55): its path, its _V offset, its value and the clock of the _V write. -/
structure GpSeq where
  path : Path
  off : Nat
  val : Word
  clock : Nat
  deriving DecidableEq, Repr

/-- An access to IDXn_DATA as it arrived (R63): the path, the target, the word address, whether PAIR was set, and for a
write the word, or both words of a complement pair; for a read of a core its rd. -/
structure WinAcc where
  path : Path
  target : Nat
  waddr : Nat
  pair : Bool
  write : Bool
  val : Word
  pairC : Option Word
  rd : Option (Fin 32)
  deriving DecidableEq, Repr

/-- One indirect window (R62 to R65): the held first word of a pair with its path and clock, the posted write in progress,
and the accesses that wait for it. -/
structure Window where
  held : Option (Path × Word × Nat) := none
  busy : Option WinAcc := none
  waiting : List WinAcc := []
  deriving DecidableEq, Repr

/-- What the register fabric holds beside the registers. -/
structure Access where
  /-- The high word that each path's read of a low word latched, with its offset (R44). -/
  hi : List (Path × Nat × Word) := []
  /-- The one open complement-pair sequence (R55). -/
  gp : Option GpSeq := none
  /-- The paths whose key is armed, with the clock it was armed in (R58 to R60). -/
  keys : List (Path × Nat) := []
  /-- The paths whose set-held reads return the shadow copy (R176). -/
  view : List Path := []
  win : SMap Window := []
  /-- Write-1-to-clear bits that hardware set in the present clock, and fields that software wrote in it, by register (R47). -/
  hwSet : SMap Word := []
  swSet : SMap Word := []
  deriving DecidableEq, Repr

/-! ### Modes, resets, the bittern (spec/03) -/

/-- A mode transition in progress (R72, R73): the mode it reaches, whether a request began it, whether it is a HOLD
entry (1) or a HOLD exit (2), and the clock by which it has ended. -/
structure Trans where
  goal : Nat
  req : Bool
  kind : Nat
  ends : Nat
  /-- The clock in which it began, and whether a fault reaction began it (R74). -/
  since : Nat := 0
  react : Bool := false
  deriving DecidableEq, Repr

/-- The last mode request (R74): its clock and target, what GEN_MODE, GEN_MODEX and the transition were before it, and the
transition after it. -/
structure Asked where
  clock : Nat
  target : Nat
  mode : Word
  modex : Word
  trans : Option Trans
  holdFrom : Option Nat
  limitOwed : Bool
  after : Option Trans
  deriving DecidableEq, Repr

structure ModeS where
  trans : Option Trans := none
  /-- A TRIM-class reaction waits for the end of the transition (R717). -/
  trimOwed : Bool := false
  /-- The first clock of HOLD entry, from which the hold limit counts (R80). -/
  holdFrom : Option Nat := none
  /-- The hold limit expired during HOLD entry or a HOLD step (R77, R80). -/
  limitOwed : Bool := false
  /-- The HOLD step in progress (R77): 0 frequency change, 1 fuse programming, 2 firmware image swap. -/
  step : Option Nat := none
  /-- A SAFE-class reaction took the device from BOOT to SAFE while the boot ROM checked images (R72). -/
  bootSafe : Bool := false
  /-- The clock in which SAFECAP falls (R575). -/
  safecapEnd : Option Nat := none
  /-- RESET_N is low, and since when (R705). -/
  resetLow : Option Nat := none
  /-- A rail is below its undervoltage threshold (R697). -/
  supplyLow : Bool := false
  /-- The cause that the reset in progress records when it ends (GEN_RSTCAUSE). -/
  cause : Nat := 0
  /-- Boot has reached the image check: the boot ROM is in step 3 or later (R598). -/
  imageCheck : Bool := false
  asked : Option Asked := none
  /-- The clock of the last write of GEN_HOLDLIM (R80), and that of the last cold or warm reset. -/
  limitAt : Nat := 0
  resetAt : Nat := 0
  deriving DecidableEq, Repr

/-- The bittern on one interleave set (R88 to R91): 0 owed, 3 map, 4 data, 5 done; the map blocks written; the frontier
cell. -/
structure SetWipe where
  phase : Nat := 0
  blocks : List Nat := []
  front : Nat := 0
  deriving DecidableEq, Repr

structure Bittern where
  keysDone : Bool := false
  sramDone : Bool := false
  sets : SMap SetWipe := []
  deriving DecidableEq, Repr

/-! ### The fault collector and the event router (spec/16) -/

/-- One entry of the capture FIFO (R574 to R577): its six words. -/
abbrev CapRec := List Word

/-- A reaction that a class of ISOLATE, TRIM or SAFE owes (R564). -/
structure React where
  cls : Nat
  src : Nat
  info : Info
  deriving DecidableEq, Repr

structure Collector where
  fifo : List CapRec := []
  ovf : Nat := 0
  /-- How many entries of the FIFO were captured in this clock, and the captures that this clock has lost (R576). -/
  now : Nat := 0
  lostNow : List CapRec := []
  /-- Assertions latched in their units before bittern phase 2 has ended, with their tide (R588). -/
  early : List (Nat × Info × Nat) := []
  /-- The reactions that this clock's assertions owe. -/
  react : List React := []
  /-- Isolated units, each with the source whose ISOLATE took it out of service (R566, R567). -/
  isolated : List (Nat × Nat) := []
  /-- The clocks of the assertions that the repeated-failure sources count, by engine key (R313, R339). -/
  fails : SMap (List Nat) := []
  deriving DecidableEq, Repr

/-- A host event record (R584). -/
structure EvRec where
  src : Nat
  cls : Nat
  tide : Nat
  cap : CapRec
  /-- Set once the record and its interrupt have been delivered (R585, R588). -/
  sent : Bool
  deriving DecidableEq, Repr

structure EventS where
  /-- Event logs, keyed 4 × logical device + log; logical devices 256 to 319 are the FM-owned LDs (R584, R585). -/
  logs : SMap (List EvRec) := []
  /-- Logs whose overflow indication is set (R584). -/
  full : List Nat := []
  /-- The Event Interrupt Policy of each logical device (R585). -/
  policy : SMap Nat := []
  /-- The sideband transmit queue of 32 messages (R586). -/
  sbq : List EvRec := []
  deriving DecidableEq, Repr

/-! ### Paludier cores (spec/04) -/

/-- An entry of a core's inbound queue (R133, R138): 64 B, its kind, and its sender. -/
structure QEntry where
  /-- The paludier clock in which it entered, and its sender in the order of R137: P0 to P15, 16 the pool layer, 17 the host
  message path. -/
  at_ : Nat := 0
  snd : Nat := 0
  kind : Nat
  sdev : Nat
  score : Nat
  spl : Bool
  data : Line
  deriving DecidableEq, Repr

/-- What an instruction that holds issue waits for (R102). -/
inductive CoreWait where
  /-- WAIT: selected events, and the paludier clock of expiry when it has one (R140). -/
  | events (rd : Fin 32) (mask : DWord) (until_ : Option Nat)
  /-- WAITT: a tide or selected events (R141). -/
  | tide (rd : Fin 32) (tide : Nat) (mask : DWord)
  /-- FENCE: the posted work that xarg selects (R153). -/
  | fence (sel : Nat)
  /-- SEND whose destination queue or outbound buffer is full (R135). -/
  | send (rd : Fin 32) (dev core : Nat) (data : Line)
  /-- RGR behind earlier RGWs of the core (R151). -/
  | rgr (rd : Fin 32) (off : Nat)
  /-- RGR of IDXn_DATA while the target word is read or BUSY is 1 (R63). -/
  | window (rd : Fin 32) (n : Nat)
  /-- A device operation that waits for HOLD exit (R161): the instruction, re-issued at the exit. -/
  | hold (i : Instr)
  /-- An atomic whose line is recalled, fetched or read (R147). -/
  | atomic (rd : Fin 32) (txn : Nat)
  /-- A page operation that waits for recalls of the page's lines (R123). -/
  | page (rd : Fin 32) (txn : Nat)
  /-- A DCDADD, DCDREL or HOSTREPLY service in progress in firmware (R181). -/
  | service (code : Nat)
  deriving DecidableEq, Repr

/-- The header (128 B) and the signatures of an image (R167). -/
structure Image where
  hdr : List Byte
  sigs : List Byte
  deriving DecidableEq, Repr

/-- One core: its registers and control and status registers (R100, R108), local memory (R164, R166), inbound queue
(R133), posted register writes (R151), and what holds its issue. -/
structure Core where
  t : SMap DWord := []
  pc : DWord := 0
  status : DWord := 1
  epc : DWord := 0
  cause : DWord := 0
  tval : DWord := 0
  tvec : DWord := 0
  evpend : DWord := 0
  /-- Level events cleared in the paludier clock given, in which their condition does not set them again (R139). -/
  evOff : Nat × DWord := (0, 0)
  ptag : DWord := 0
  wdog : DWord := 0
  scratch : DWord := 0
  /-- The clock of the last watchdog reload (R109). -/
  wdogAt : Nat := 0
  /-- The clock of the last core reset, from which CYCLE counts. -/
  since : Nat := 0
  instret : Nat := 0
  /-- Stopped by HALT or a double trap (PAL_CORECTLn.HALTED). -/
  halted : Bool := false
  /-- Held for a restart until every move slot is free (R183). -/
  restartHeld : Bool := false
  /-- The restart of a swap, which waits for the end of the instruction in progress too (R190). -/
  atBoundary : Bool := false
  wait : Option CoreWait := none
  queue : List QEntry := []
  /-- The last paludier clock in which several messages entered the queue, the sender that entered first in it, and the one that
  entered first in the contended clock before it (R137). -/
  rrClock : Nat := 0
  rrFirst : Nat := 17
  rrLast : Nat := 17
  /-- Messages and notices of the host message path that wait for room in the queue. -/
  inwait : List QEntry := []
  /-- Local memory 0x0000 to 0xFFFF: firmware, keep and exchange areas. -/
  lmem : SMap Byte := []
  bankA : SMap Byte := []
  bankB : SMap Byte := []
  /-- Words of local memory whose parity is wrong (R117); banks A and B stand at 0x1_0000 and 0x2_8000. -/
  bad : List Nat := []
  /-- Posted register writes not yet applied: offset and value, oldest first (R151). -/
  posted : List (Nat × Word × Bool) := []
  /-- The header and the signatures of the owner image in each bank; its payload stands in the bank (R167, R169). -/
  imgA : Option Image := none
  imgB : Option Image := none
  deriving DecidableEq, Repr

/-! ### Programs and configuration sets (spec/05) -/

/-- A staging claim (R224): the path, the bytes received, the clock of the last chunk. -/
structure Staging where
  path : Nat
  bytes : List Byte
  clock : Nat
  /-- The last chunk has ended the image and its load is being checked (R225). -/
  ended : Bool
  deriving DecidableEq, Repr

/-- A host message (R178 to R180): where the reply goes, when the limit elapses, and whether it has, so that a reply is
late. -/
structure HostMsg where
  core : Nat
  port : Nat
  ld : Nat
  seq : Nat
  until_ : Nat
  timedOut : Bool := false
  deriving DecidableEq, Repr

/-- A configuration set that is no longer active and under which earlier requests still complete (R188): its number, its tables and
its registers. -/
structure OldSet where
  num : Nat
  tables : SMap Byte
  regs : List (Nat × Word)
  deriving DecidableEq, Repr

structure SetS where
  /-- Set-held tables, active and shadow copy, and live tables: byte n of table ID at key ID × 0x100_0000 + n (R165). -/
  active : SMap Byte := []
  shadow : SMap Byte := []
  live : SMap Byte := []
  staging : Option Staging := none
  msgs : List HostMsg := []
  /-- FINAL received before T names this device, or a COMMIT came too late (R191). -/
  missed : Bool := false
  /-- Devices that a FINAL excludes from tide T (R192). -/
  excludeAt : List Nat := []
  /-- An armed set was lost to a warm reset after COMMIT (R191). -/
  lostArm : Bool := false
  /-- Tables that a table image has filled since the last swap (R184). -/
  filled : List Nat := []
  /-- SVN of the table image that the active and the shadow contents of a set-held table came from, by table (R597). -/
  imgTab : SMap (Option Nat) := []
  imgTabSh : SMap (Option Nat) := []
  /-- The commit tide T in force. -/
  commitTide : Nat := 0
  /-- Swaps so far, which number the active set, and the older sets still in use (R188). -/
  swaps : Nat := 0
  olds : List OldSet := []
  /-- The records of the LOG service, oldest first (R181). -/
  log : List Line := []
  deriving DecidableEq, Repr

/-! ### Host ports (spec/06) -/

/-- An HDM decoder of a logical device (R197, R207): base, size and skip of the DPA, interleave ways and granularity,
and whether it decodes HDM-H (R213). -/
structure Decoder where
  base : Nat
  size : Nat
  skip : Nat
  ways : Nat
  gran : Nat
  hdmh : Bool
  deriving DecidableEq, Repr

/-- One logical device: whether its function is enumerated, its committed decoders, its BI decoder (R197), its mailbox
timestamp as set and when (R222), and the page of a Transfer FW in progress. -/
structure LogDev where
  enumerated : Bool := false
  decs : SMap (Option Decoder) := []
  bi : Bool := false
  timestamp : Nat := 0
  stampedAt : Nat := 0
  deriving DecidableEq, Repr

/-- One bifurcated port (R201): its PERST_N level, whether it is isolated (R234), and viral (R230). -/
structure SubPort where
  perst : Bool := false
  isolated : Bool := false
  viral : Bool := false
  /-- Link training owed once HOLD ends (R232). -/
  trainOwed : Bool := false
  /-- A release of PERST_N that the device has not acted on yet (R202, R204). -/
  owed : Bool := false
  /-- CXL IDE since its keys have been programmed (R197): 1 containment, 2 skid; and the Link IDE stream of CXL.io. -/
  ide : Nat := 0
  ioIde : Bool := false
  /-- 256 B flit mode (R197, R198), and the width that the link trained to (R196). -/
  flit256 : Bool := true
  width : Nat := 0
  deriving DecidableEq, Repr

/-- An extent as firmware loads it into the port's extent check (R216, R217): 0 FREE, 1 OFFERED, 2 ACCEPTED,
3 RELEASING; the clock of the offer or release, and the core whose DCDADD or DCDREL is pending. -/
structure Extent where
  start : Nat := 0
  blocks : Nat := 0
  ld : Nat := 0
  state : Nat := 0
  shr : Bool := false
  since : Nat := 0
  caller : Option (Fin 16) := none
  deriving DecidableEq, Repr

/-- A BISnp message outstanding (R214, R215): the target logical device, the line, the clock it was sent in. -/
structure BiSnp where
  ld : Nat
  line : Nat
  since : Nat
  txn : Nat
  deriving DecidableEq, Repr

structure PortS where
  /-- The bifurcation mode in force on each HPn: 0 x16, 1 two x8, 2 four x4 (R200, R202). -/
  mode : SMap Nat := []
  /-- HPX_LDCNT as in force, per HPn (R204). -/
  ldcnt : SMap Word := []
  sub : SMap SubPort := []
  ld : SMap LogDev := []
  bisnp : List BiSnp := []
  /-- Where the answers since the last reset begin, and how many of them each bifurcated port has sent from its response buffer. -/
  respFrom : Nat := 0
  sent : SMap Nat := []
  /-- Entries of the ports' TAGRES copies found with wrong parity, by logical device and window, with the clock (R234). -/
  badTag : List (Nat × Nat × Nat) := []
  /-- Host requests held at port ingress in HOLD (R70), oldest first. -/
  held : List Instr := []
  /-- The extent check's copy of DCDEXT (R216). -/
  ext : SMap Extent := []
  /-- The background mailbox command that runs in the device (R228): its logical device and its opcode. -/
  bg : Option (Nat × Nat) := none
  deriving DecidableEq, Repr

/-! ### The memory path: requests, transactions, directory, pool cache, tier map, DRAM
(spec/01, 07, 08, 09, 10, 11, 15) -/

/-- Where a request comes from, and so where its answer goes: a logical device with its message tag, an instruction of
a core, a peer device with its transaction ID, or an agent of the device (2 page move, 5 victim recall, 6 page recall,
0 rake, as the MID of R577 numbers the first). -/
inductive Origin where
  | host (ld mtag : Nat)
  | core (n : Fin 16) (rd : Fin 32)
  | peer (dev txid : Nat)
  | agent (k : Nat)
  deriving DecidableEq, Repr

/-- What a request asks of the line's point of ordering (R353, R146, R365); `recall` is the recall of a victim (R351, R361),
`move` the recall of a page that a move copies (R270), and the last five are the page operations and the directory query of a core. -/
inductive ReqKind where
  | memRdInv | memRdData | memRdCur | memInv | memInvNT | memSpecRd | memClnEvct | memWr | memWrPtl
  | amoAdd | amoSwp | amoCas | amoMax | amoMaxU
  | rds | rdo | upg | rdc | wbm | evc
  | snpi | snps | fwds | fwdo
  | recall | move
  | tmr | tmw | pzero | pprobe | dqry
  deriving DecidableEq, Repr

/-- A request, with what ingress fixed for its life (R28, R210): home device and line, task tag, key slot, sluice. -/
structure Req where
  id : Nat
  origin : Origin
  kind : ReqKind
  dev : Nat
  line : Nat
  tag : Nat
  slot : Option Nat
  sluice : Nat
  data : Line
  mask : Nat
  poison : Bool
  hdmh : Bool
  /-- For an atomic: byte offset, 64-bit operand when true, rs2 and rd. For a forward: REQDEV and REQTXID. -/
  off : Nat
  wide : Bool
  a : Nat
  b : Nat
  /-- It has been red (R427, R441). -/
  red : Bool := false
  /-- URGR has held it (R431, R441). -/
  urgd : Bool := false
  /-- It has waited on a CHANGING slot (R665). -/
  kwait : Bool := false
  /-- DevLoad of its response (R441). -/
  load : Nat := 0
  /-- The pipeline of its quadrant that admitted it (R668). -/
  pipe : Nat := 0
  /-- The line check that a write carries from ingress, or that the device made when it took the frame (R32, R38); none: made anew
  over `data`. -/
  lc : Option Word := none
  /-- The clock of its admission (R120), and the number of the configuration set under which it completes (R188). -/
  at_ : Nat := 0
  cset : Nat := 0
  /-- A request of a peer that was held when the device went to SAFE, and is answered with poison (R716). -/
  turnedAway : Bool := false
  deriving DecidableEq, Repr

/-- The seal of an enciphered sector (R315, R316, R321): the key slot with its 512-bit key and GEN at the encipherment, the DOM and
SADDR fields of the tweak, and the engine of its quadrant's pair that enciphered it. -/
structure Seal where
  slot : Nat
  gen : Nat
  key : Nat := 0
  tweak : Nat := 0
  eng : Nat := 0
  deriving DecidableEq, Repr

/-- A stored sector: what was written before encipherment, and its seal; none: stored as it stands (R317, R318). -/
structure Sect where
  val : Sector := 0
  under : Option Seal := none
  deriving DecidableEq, Repr

/-- A stored burst (R534, R538): four sectors, the burst check, and the check symbols 16 to 18 when TEST wrote them
itself (R550); none: as the code computes them. -/
structure Burst where
  s0 : Sect
  s1 : Sect
  s2 : Sect
  s3 : Sect
  bc : Word
  chk : Option (Word × Word × Word)
  deriving DecidableEq, Repr

/-- How far an open transaction is (R341): waiting for earlier requests to its page and for a reframe to be free (R259,
R263), for recalled holders, for DRAM read data of its line, for DRAM read data of a merge or a copy, for channel write
queues, for a frame of the line's home, for a heap crystallizer, for a release ring. -/
inductive Phase where
  | page | recall | dram | merge | wq | remote | heap | ring
  deriving DecidableEq, Repr

/-- An open transaction (R341). -/
structure Txn where
  req : Req
  phase : Phase := .recall
  /-- BIRsp that are awaited, as line name and logical device, the BISnp they answer (0 BISnpCur, 1 BISnpData, 2 BISnpInv),
  and peers' answers, as line and device. -/
  bi : List (Nat × Nat) := []
  biKind : Nat := 2
  peers : List (Nat × Nat) := []
  /-- Peers that have answered RSPWB, whose writeback is awaited (R374). -/
  wbWait : List (Nat × Nat) := []
  /-- Peers whose writeback came before their RSPWB (R374). -/
  wbGot : List (Nat × Nat) := []
  /-- Modified lines that holders returned and that are not yet stored: line, data, poison, and the key slot selected for
  them (R367), and the task tag under which they were written (R328); the completions owed for those that came as host writes
  (R355): line, logical device, message tag; and the modified data last returned for the request's own line. -/
  got : List (Nat × Line × Bool × Option Nat × Nat) := []
  owed : List (Nat × Nat × Nat) := []
  cur : Option (Line × Bool) := none
  /-- Lines that a holder keeps shared, with the port's number, or 16 for a peer. -/
  kept : List (Nat × Nat) := []
  /-- A holder sends the data to the requester (R369). -/
  fwd : Bool := false
  /-- The data of the answer and its poison. -/
  ans : Option (Line × Bool) := none
  /-- The store in progress: line, data, poison, key slot, line check; `final` when it is the request's own write. -/
  wdata : Option (Nat × Line × Bool × Nat × Nat) := none
  final : Bool := false
  /-- The bursts whose read data is awaited, in the order in which READ_DATA_RETURN tells of them. -/
  reads : List Nat := []
  /-- Bursts that still wait for a channel write queue: burst key, sector mask, content; and their place in the order in which stores
  were issued to the channels (R391). -/
  bursts : List (Nat × Nat × Burst) := []
  order : Nat := 0
  /-- The entry and the size codes under which a read was begun. -/
  seen : DWord := 0
  seenCodes : Nat := 0
  /-- The page whose shape the write changes, with its new entry and its new size codes. -/
  entry : Option (Nat × DWord) := none
  codes : Option (Nat × Nat) := none
  /-- Runs that go to a release ring after the entry write: set, heap, first unit, units. -/
  release : List (Nat × Bool × Nat × Nat) := []
  /-- The request holds its page (R264, R265), and counts as a reframe, a reserve fallback or a T2 write in progress (R263). -/
  hold : Bool := false
  rf : Bool := false
  /-- The line has been read once and mismatched (R35): 1, or 2 when the decoder rejected it (R294). -/
  reread : Nat := 0
  since : Nat := 0
  /-- The frame sent to the line's home, whose grant is awaited (R360): its opcode, and the clock it was sent in. -/
  ask : Option (Nat × Nat) := none
  /-- Held snoops and forwards (R363), each with the number of the configuration set under which it was taken (R189). -/
  held : List (Frame × Nat) := []
  deriving DecidableEq, Repr

/-- A line of a pool cache (R358). -/
structure PcLine where
  pstate : Nat := 0
  hstate : Nat := 0
  hown : Nat := 0
  hvec : Nat := 0
  wtag : Nat := 0
  pois : Bool := false
  data : Line := 0
  /-- The line check kept with the line (R38); none: as CRC-32C makes it over `data`. -/
  lc : Option Word := none
  deriving DecidableEq, Repr

/-- A writeback in flight (R361): home device, line, transaction ID, whether it is a WBM. -/
structure WbFlight where
  dev : Nat
  line : Nat
  txid : Nat
  wbm : Bool
  quad : Nat
  deriving DecidableEq, Repr

/-- Coherence state: directory entries by line (0: no entry), pool cache lines by 2^40 × device + line, open
transactions, requests waiting at ingress in arrival order, requests chained behind a transaction, a held page or a
changing key slot, and the sweep and flushes in progress. -/
structure CohS where
  dir : SMap DWord := []
  pc : SMap PcLine := []
  wb : List WbFlight := []
  txns : List Txn := []
  ingress : List Req := []
  chain : List Req := []
  sweep : Bool := false
  flush : List Nat := []
  nextTx : Nat := 0
  /-- Admissions of the present clock by home slice, and slots of the present clock by 16 × pipeline + counter of R669. -/
  lanes : SMap Nat := []
  slots : SMap Nat := []
  /-- Recomputations that wait for a lane, by pipeline (R669). -/
  redo : SMap Nat := []
  deriving DecidableEq, Repr

/-- A page move in progress (R125 to R129, R269 to R273), under the transaction ID `id`. Its phases: 0 recalls; 2 the decode of a
heap page; 1 the copy within the device; 3 the heap encode of the lines; 4 MVREQ sent; 5 MVDATA sent, MVDONE awaited; 6 MVGET sent,
lines arriving; 7 MVCLR sent; 9 the new entry has taken effect, and runs wait for a release ring (R255). -/
structure Move where
  id : Nat
  core : Fin 16
  slot : Nat
  page : Nat
  tgt : Nat
  dev : Nat := 0
  ppage : Nat := 0
  /-- The entry before the move, the set of local allocations, the task tag and the key slot that R326 gives. -/
  old : DWord
  set : Nat := 0
  tag : Nat := 0
  key : Option Nat := none
  /-- The lines of the page, once they have been decoded or received. -/
  lines : SMap (Line × Bool) := []
  phase : Nat := 0
  stat : Nat := 0
  new : DWord := 0
  since : Nat := 0
  /-- The page has been read once, and these lines of it, as a mask, were rejected or mismatched (R35, R294). -/
  again : Option Nat := none
  /-- The tide at which the new entry took effect, the poisoned lines, and the runs that still wait for a release ring. -/
  endTide : Nat := 0
  npois : Nat := 0
  release : List (Nat × Bool × Nat × Nat) := []
  /-- The number of the configuration set in force at admission (R188). -/
  cset : Nat := 0
  deriving DecidableEq, Repr

/-- A page that the peer of a move holds for it (R271): the source device and its move ID. -/
structure PeerMove where
  dev : Nat
  mid : Nat
  page : Nat
  tag : Nat
  lines : SMap (Line × Bool) := []
  sending : Bool
  /-- The first of the four cells taken for the page (R271); the transaction that recalls its lines (R272), or their set. -/
  run : Nat := 0
  rid : Nat := 0
  since : Nat := 0
  /-- The key slot, which stays fixed for the move (R326), and the number of the configuration set in force when it began. -/
  key : Nat := 0
  cset : Nat := 0
  /-- MVDONE is owed once these runs have entered their release ring (R255, R272). -/
  done : Bool := false
  release : List (Nat × Bool × Nat × Nat) := []
  deriving DecidableEq, Repr

/-- A page of a heap page buffer (R248, R330). -/
structure HeapBuf where
  page : Nat
  slot : Nat
  gen : Nat
  lines : List (Line × Bool)
  deriving DecidableEq, Repr

/-- A job of a heap crystallizer (R308, R309): 0 decode, 1 encode of a page move, 2 T2 write, 3 probe, 4 decode of a page move.
`txn` is the transaction or move that it serves; the lines are the page as decoded, with its write merged. -/
structure HeapJob where
  quad : Nat
  kind : Nat
  page : Nat
  txn : Nat
  slot : Nat
  running : Bool := false
  decoded : Bool := false
  tries : Nat := 0
  /-- The page left the page buffer while the decode ran (R308). -/
  drop : Bool := false
  lines : List (Line × Bool) := []
  /-- The entry under which the job was admitted (R308), and the configuration set in force then (R188). -/
  seen : DWord := 0
  cset : Nat := 0
  deriving DecidableEq, Repr

/-- A line of a tier map cache (R247): the set whose map region holds it, its number among that region's 64 B lines of entries, its
eight entries, and whether it is newer than the region. -/
structure MapLine where
  set : Nat
  line : Nat
  ents : List DWord
  dirty : Bool := false
  deriving DecidableEq, Repr

/-- A record of a size-vector cache (R243, R247): the page, CODES and SVCHK. -/
structure SvRec where
  page : Nat
  codes : Nat
  chk : Word
  deriving DecidableEq, Repr

structure TierS where
  /-- The tier map caches and the size-vector caches: the ways of set `i` of quadrant `q` at key 8,192 × q + i (R247). -/
  mapc : SMap (List MapLine) := []
  svc : SMap (List SvRec) := []
  moves : List Move := []
  peerMoves : List PeerMove := []
  bufs : SMap (List HeapBuf) := []
  jobs : List HeapJob := []
  /-- Pages whose dirty tier map cache line had a parity error (R280). -/
  lost : List Nat := []
  /-- The encoder with an injection armed (R314). -/
  inject : Option Nat := none
  /-- Pages whose hold ended in the present clock: they are free from the next (R265). -/
  ended : List Nat := []
  /-- Runs that no open request or move pushes, waiting for a release ring (R255): set, heap, first unit, units, and the page held. -/
  ringWait : List (Nat × Bool × Nat × Nat × Nat) := []
  deriving DecidableEq, Repr

/-- A key slot (R323): 0 EMPTY, 1 LOADED, 2 CHANGING. -/
structure KeySlot where
  state : Nat := 0
  /-- Loads and destructions since the end of bittern phase 1 (R324). -/
  gen : Nat := 0
  /-- The key material, key1 in the low half; it is never readable (R325). -/
  key : Nat := 0
  /-- While CHANGING: the clock of the change, and whether the slot held a key before it (R334). -/
  since : Nat := 0
  had : Bool := false
  deriving DecidableEq, Repr

/-- The running key command (R334, R336): slot, load or destroy, the key to write and the SEQ. -/
structure KeyCmd where
  slot : Nat
  load : Bool
  key : Nat
  seq : Nat
  /-- It is a load of KEYS_WRAP, so that KEYS_LASTSEQ takes SEQ; it is a destruction that the device itself requires. -/
  wrapped : Bool
  own : Bool
  deriving DecidableEq, Repr

structure KeyS where
  slots : SMap KeySlot := []
  /-- The number of the draw that gave slot 0 its GEN at the end of the last bittern phase 1; slot `k` took the draw `k` after it
  (R323). -/
  base : Nat := 0
  cmd : Option KeyCmd := none
  /-- Destructions that a port reset or a parity error requires, waiting behind the running command (R337). -/
  owed : List Nat := []
  wrap : SMap Word := []
  deriving DecidableEq, Repr

/-- A read queued at a channel (R390, R392): the transaction, the burst, and its place in the order in which the channel accepted
requests. -/
structure RdEntry where
  txn : Nat
  burst : Nat
  since : Nat
  sluice : Nat
  seq : Nat
  deriving DecidableEq, Repr

/-- A write queued at a channel: the places of its entry and of the latest write merged into it (R393). -/
structure WrEntry where
  burst : Nat
  since : Nat
  sluice : Nat
  seq : Nat
  last : Nat
  deriving DecidableEq, Repr

/-- One bank of a logical rank (R401 to R405): RAA, the ACTs of the window, the two candidate sluices, whether it
threw a throttle in this window, the open row. -/
structure Bank where
  raa : Nat := 0
  acts : Nat := 0
  cands : List (Nat × Nat) := []
  thrown : Bool := false
  row : Option Nat := none
  deriving DecidableEq, Repr

/-- One channel beside its registers. -/
structure Chan where
  used : Bool := false
  lost : Bool := false
  training : Bool := false
  rdq : List RdEntry := []
  wrq : List WrEntry := []
  /-- Reads in the quadrant's front end, with their places in the order of issue (R391); the requests accepted so far; the clock after the
  last read and the last write accepted, of which there is one in a core clock (R390). -/
  rdWait : List RdEntry := []
  seq : Nat := 0
  rdAt : Nat := 0
  wrAt : Nat := 0
  banks : SMap Bank := []
  /-- Subchannels that drain writes between the watermarks (R395). -/
  drain : List Nat := []
  hotNext : Bool := false
  /-- Refresh windows begun since the channel became READY, the number of the open one, the same-bank groups (256 ×
  subchannel + 4 × logical rank + bank address) refreshed in it, and the refreshes postponed by group (R398, R400). -/
  window : Nat := 0
  widx : Nat := 0
  /-- A step of the tide has cut the open window short (R515). -/
  cut : Bool := false
  paid : List Nat := []
  postp : SMap Nat := []
  /-- "Refresh postponement limit" has been raised in this window (R400). -/
  limit : Bool := false
  /-- Rebuild frontier in bursts (R413). -/
  rebuild : Option Nat := none
  /-- Clocks of corrections by 10 × (2 × logical rank + subchannel) + device (R536). -/
  fixes : SMap (List Nat) := []
  /-- Post-package repair in progress. -/
  ppr : Option Word := none
  /-- Clocks of the CA parity and write CRC retries of the command being retried (R407). -/
  retries : List Nat := []
  /-- In self-refresh for HOLD, or for a slot warning of DIMM position 0 or 1 (R644). -/
  selfRef : Bool := false
  warn : List Nat := []
  deriving DecidableEq, Repr

structure DramS where
  /-- Stored bursts by 2^34 × channel + channel offset / 64; unlisted: as the bittern leaves them (R88 to R91). -/
  bursts : SMap (Option Burst) := []
  chan : SMap Chan := []
  /-- Reads and stores that have been issued to channels (R391). -/
  issued : Nat := 0
  /-- The running frequency change: target set and mask. -/
  fchg : Option (Nat × Nat) := none
  deriving DecidableEq, Repr
/-! ### Sluices (spec/12) -/

/-- A row-disturbance throttle (R404, R428): the sluice, the channel that named it, and the refresh window of that channel
in which it ends. -/
structure Throttle where
  sluice : Nat
  ch : Nat
  until_ : Nat
  deriving DecidableEq, Repr

structure SluS where
  /-- USED of each sluice (R425), and USED as it stood before the charges of this core clock (R426). -/
  used : SMap Nat := []
  seen : SMap Nat := []
  throttles : List Throttle := []
  /-- Amber lines of the window charged to sluices other than SL252 to SL254 (R437). -/
  amber : Nat := 0
  seenAmber : Nat := 0
  /-- The number of the open window: TIDE_NOW divided by the window length. -/
  window : Nat := 0
  /-- A recomputed D that waits for the next window (R433). -/
  pendD : Option Nat := none
  /-- The rate code of each channel that D takes; a change made in HOLD counts from the exit (R433). -/
  rates : SMap Nat := []
  /-- Windows in a row whose target exceeded SCALE. -/
  above : Nat := 0
  /-- The sluice last served by each home slice: slice for green, 4 + slice for amber (R429). -/
  last : SMap Nat := []
  /-- Clock since which URGC of a quadrant is asserted, and the quadrants whose "urgency persistent" has been raised. -/
  urgSince : SMap (Option Nat) := []
  urgTold : List Nat := []
  /-- Bifurcated ports whose response buffer's URGR stood at the last clock's end, and quadrants whose launch buffer's URGR stands
  (R431). -/
  urgP : List Nat := []
  urgL : List Nat := []
  deriving DecidableEq, Repr

/-! ### Slots (spec/18) -/

/-- The power-die words and the controller state of one slot. STATE: 0 OFF, 1 WAIT, 2 RAMP, 3 ON, 4 FAULTOFF,
5 LATCHED. -/
structure Slot where
  cfg : Word := 0x40C8C140#32
  sense : Word := 0x6CC00190#32
  orw : Word := 0x64AA#32
  en : Bool := false
  state : Nat := 0
  pg : Bool := false
  /-- The clock in which the running fault timer started (R630). -/
  timer : Option Nat := none
  /-- V_in stands below UVTH (R644). -/
  low : Bool := false
  /-- The input, feed A, feed B are good (R625). -/
  input : Bool := false
  feedA : Bool := false
  feedB : Bool := false
  onA : Bool := false
  onB : Bool := false
  cause : Nat := 0
  enres : Nat := 0
  /-- The slot has been in ON since the cold reset: its power-limit count is a measured quantity (R637). -/
  powered : Bool := false
  /-- The ticks of the last fault, and of the EN ← 0 that turned the gate off with the start of the fault timer that then ran (R641); a
  fault has latched the slot in this tick (R639). -/
  faultAt : Option Nat := none
  offAt : Option Nat := none
  offTimer : Option Nat := none
  latch : Bool := false
  /-- Clocks in which automatic retries began (R639). -/
  retries : List Nat := []
  /-- The clock in which the retry delay ends. -/
  delay : Option Nat := none
  /-- Sources whose ISOLATE reaction latched the slot (R640). -/
  iso : List Nat := []
  deriving DecidableEq, Repr

structure SlotS where
  slots : SMap Slot := []
  /-- SLOT_PFWMASK1 and SLOT_PFWMASK0 as one number. -/
  mask : Nat := 0xFFFFFFFFFFFF
  /-- The power die has its housekeeping supply: without it no drive is on (R701). -/
  dead : Bool := false
  deriving DecidableEq, Repr

/-! ### Conveyor links (spec/13) -/

/-- One link beside its registers. -/
structure Link where
  /-- The replay buffer, oldest first (R456). -/
  rbuf : List Frame := []
  /-- The clock in which the replay timer last started (R457). -/
  timer : Option Nat := none
  /-- Place of the next frame to replay, from the oldest. -/
  rptr : Nat := 0
  /-- Replays in a row of the oldest frame with no ACK (R459). -/
  reps : Nat := 0
  layby : List Frame := []
  /-- The pass-through frame arriving for the next slot, and FALLOW of the slot that arrived for it. -/
  arriving : Option Frame := none
  /-- Pass-through frames in the pad of an Ihlo-F course, with the tides of their slots (R499); the tide of the last slot sent. -/
  padq : List (Nat × Frame) := []
  slotAt : Option Nat := none
  fallow : Bool := false
  /-- Parity errors of each receive lane in the 1 ms window (R465), and the clock in which the window began. -/
  winErr : SMap Nat := []
  winFrom : Nat := 0
  /-- The receive lane map in force, and a map pending at the receiver with its generation (R470). -/
  rxMap : Word := 0x76543210#32
  rxPend : Option (Word × Bool) := none
  /-- The leader's transmit map that waits for the ACK of SWITCH: the map, the width, the generation, and the SEQ of
  SWITCH (R470). -/
  txPend : Option (Word × Nat × Bool × Nat) := none
  /-- RXOK of the peer. -/
  peerOk : Nat := 0
  /-- The width that the peer last asked for, and its MAXW. -/
  peerW : Nat := 3
  peerMax : Nat := 3
  peerSpare : Bool := false
  /-- Own REQUEST open: its width code (R467); the end leads or follows the renegotiation in progress. -/
  request : Option Nat := none
  /-- The clock by which REQUEST or SWITCH is answered (R472). -/
  answerBy : Option Nat := none
  aborts : Nat := 0
  /-- An idle lane in training for a chosen map: lanes of each direction (R469), and its limit. -/
  laneTrain : Option (Nat × Nat) := none
  /-- Clock of entry into LOCK (R476); receive lanes locked; CONFIG-ACK and ECHO-REPLY received. -/
  lockAt : Nat := 0
  locked : Nat := 0
  configAck : Bool := false
  echoed : Bool := false
  peerReq : Bool := false
  ownReq : Bool := false
  /-- LM frames that wait for a slot. -/
  lm : List Frame := []
  /-- Course seeding (R497): slots sent, L and F, while the origin seeds. -/
  seed : Option (Nat × Nat × Nat) := none
  /-- Slots for which the course takes no launches or turns (R498). -/
  hold : Nat := 0
  /-- EN was cleared by an ISOLATE reaction, so that a write of 1 enables the failed link again (R476). -/
  isolatedEn : Bool := false
  /-- The scrambler of each transmit lane (R445), and the containers of the open Ihlo-F group (R479). -/
  prbs : SMap Nat := []
  group : List (List Nat) := []
  deriving DecidableEq, Repr

/-! ### The conveyor pool (spec/14) -/

/-- A frame that waits to be launched: its class (0 turned, 1 answer of R344, 2 other), and the link it must leave on when
its rule names one. -/
structure Launch where
  frame : Frame
  cls : Nat
  via : Option Nat
  deriving DecidableEq, Repr

/-- A membership change (R521): tide, generation, added and removed devices. -/
structure MembChg where
  tide : Nat
  gen : Nat
  add : List Nat
  remove : List Nat
  deriving DecidableEq, Repr

structure PoolS where
  links : SMap Link := []
  /-- Taken frames: link die, target (0 to 3 a home slice, 4 core queues, 5 always taken), and the number of the configuration set
  active when the device took them (R189). -/
  take : List (Nat × Nat × Frame × Nat) := []
  /-- The turn buffers: link die, direction (0 X+, 1 X−, 2 Y+, 3 Y−), frame (R492). -/
  turn : List (Nat × Nat × Frame) := []
  /-- The catch pan (R495): in-link and frame, oldest first. -/
  pan : List (Nat × Frame) := []
  launch : List Launch := []
  /-- The course pointer of each direction (R490): the tide of the last launch, the pointer before that tide's launches and after
  them. -/
  ptr : SMap (Nat × Nat × Nat) := []
  /-- The break of a folded dimension (key 0 X, 1 Y): it lies after this position (R488, R525). -/
  brk : SMap (Option Nat) := []
  /-- Length L of the courses measured by this origin, by link (R496). -/
  course : SMap Nat := []
  /-- PROBE frames out: link, launch tide. -/
  probe : List (Nat × Nat) := []
  /-- Reserved-launch credits: flow, tide in which each was made (R503). -/
  credits : List (Nat × Nat) := []
  changes : List MembChg := []
  /-- JOIN sent (R522); WELCOME: admission tide, SGEN, MGEN. -/
  joining : Bool := false
  welcome : Option (Nat × Nat × Nat) := none
  leaving : Bool := false
  /-- The best master candidate known, its PRIO, and TIDE periods unbeaten (R516). -/
  cand : Option (Nat × Nat × Nat) := none
  /-- HBEATs in a row that each member has missed (R517); own periods without HBEAT; the standby's probe: its start tide
  and the devices that answered (R518). -/
  misses : SMap Nat := []
  hbAt : Nat := 0
  /-- The HBEAT period in which the master last sent HBEAT. -/
  hbSent : Option Nat := none
  /-- PRIO of each master-capable member (R516). -/
  capable : List (Nat × Nat) := []
  probing : Option (Nat × List Nat) := none
  /-- ARMED reports: device, set generation (R186); devices that acknowledged COMMIT; tide T, and whether FINAL was sent. -/
  armed : List (Nat × Nat) := []
  cmack : List Nat := []
  armFrom : Option Nat := none
  commitT : Option Nat := none
  finalSent : Bool := false
  /-- Links reported by LINKREP: device, link, width code, active (R525). -/
  reports : List (Nat × Nat × Nat × Bool) := []
  deriving DecidableEq, Repr

/-- The tide unit, clocks and die-to-die links (spec/14, spec/01). -/
structure TideS where
  /-- The conveyor clock PLL is locked (R715). -/
  pll : Bool := false
  /-- The phase of the tide in core clocks, 0 to 3. -/
  phase : Nat := 0
  /-- The tide parent link (R509, R513). -/
  parent : Option Nat := none
  /-- Clock in which holdover began. -/
  holdFrom : Nat := 0
  /-- Tide of the last slew (R511), and the tide since which the error is above 2 core clocks. -/
  slew : Nat := 0
  excess : Option Nat := none
  /-- Working modules of D2D-W, D2D-E, D2D-P (R21). -/
  modW : Nat := 8
  modE : Nat := 8
  modP : Nat := 1
  /-- TIDE_AT has asserted for the tide it holds. -/
  alarmed : Option Nat := none
  /-- The tide error not yet slewed away, in 1/16 core clock (R511). -/
  err : Int := 0
  /-- The TIDE period (TIDE_NOW divided by 2^20) whose TIDE frames have been sent. -/
  sent : Option Nat := none
  /-- HOPS of this device, and of each link's peer as last heard (R513). -/
  hops : Nat := 0
  peerHops : SMap Nat := []
  deriving DecidableEq, Repr

/-! ### Telemetry (spec/20) -/

/-- The pending snapshot schedule (R671): its tide, PERIOD, and whether it came from a SNAP. -/
structure Sched where
  tide : Nat
  period : Nat
  pool : Bool
  deriving DecidableEq, Repr

structure TelS where
  /-- Live counters (R665); unlisted: 0. -/
  cnt : SMap Nat := []
  /-- The readable snapshot, and the latches of the copy that runs with their tide and the clock of the latch (R670). -/
  snap : SMap Nat := []
  latches : SMap Nat := []
  copy : Option (Nat × Nat) := none
  sched : Option Sched := none
  /-- Each sampler's watched counter at its last sample (R674). -/
  base : SMap Nat := []
  /-- Samplers of pipeline counters that wait for a request, with the clock of the crossing (R675). -/
  waiting : List (Nat × Nat) := []
  fifo : List (List Word) := []
  /-- A clear waits for the end of its clock (R666). -/
  clr : Bool := false
  deriving DecidableEq, Repr

/-! ### Security, firmware, SPI NOR (spec/17, spec/21) -/

/-- The OTP array (R590): whether the UDS stands or has been destroyed, LC rows as written from row 0 on, the written key record
hashes by KEYIDX, the OKWK fields as stored by slot (unlisted: all zeros), REV, and the counters (0 FWSVN; 1 + s PGSVNs; 5 + s TBSVNs). -/
structure Otp where
  uds : Bool := true
  rows : List Byte := []
  hash : SMap (Option (List Byte)) := []
  okwk : SMap (List Byte) := []
  rev : Nat := 0
  svn : SMap Nat := []
  /-- The field fuse records of SRAM repair, as GEN_FUSEPROG gave them (R553). -/
  fuses : List Word := []
  deriving DecidableEq, Repr

/-- A life-cycle change or provisioning that runs (R613): the TKIND (4: OP 2), the RESULT that its checks gave, the state
code of the new row, what a TKIND 3 writes (slot, record hash, OKWK field), the record to revoke, and whether a warm reset follows. -/
structure TokRun where
  kind : Nat
  result : Nat
  row : Option Nat
  prov : Option (Nat × List Byte × List Byte)
  revoke : Option Nat
  reset : Bool
  deriving DecidableEq, Repr

/-- A secured SPDM session (R604): its issuer, and whether FINISH has established it. -/
structure Session where
  who : Issuer
  open_ : Bool
  deriving DecidableEq, Repr

structure SecS where
  otp : Otp := {}
  /-- SPI NOR bytes written since it was attached; none: as attached. -/
  nor : SMap (Option Byte) := []
  token : SMap Byte := []
  tok : Option TokRun := none
  /-- A NOR erase (true) or program in progress: its address and data (R599). -/
  flash : Option (Bool × Nat × Word) := none
  sessions : List Session := []
  /-- The number of the draw that made the first word of the token nonce (R610); words 1 to 7 are the next draws. -/
  nonce : Nat := 0
  /-- CDI_0 and CDI_1, and the private scalars of the DeviceID and the Alias key (R601); none: destroyed, or not derived yet. -/
  cdi0 : Option (List Byte) := none
  cdi1 : Option (List Byte) := none
  idKey : Option Nat := none
  aliasKey : Option Nat := none
  /-- The Alias certificate that the boot ROM built (R603). -/
  aliasCert : List Byte := []
  /-- The DeviceID certificate in the store does not carry the derived key: certificate slot 0 is reported empty (R603). -/
  certBad : Bool := false
  /-- What measurement block 2 covers, as latched in boot step 1 (R606): LC state, current owner slot (0xFF: none), REV, the
  nine counters. -/
  boot2 : List Byte := []
  /-- Firmware (R686 to R690): header of the running image, the staged image, the command in progress (1 stage, 2 swap; its
  image bytes; from Activate FW online or offline: 1, 2). -/
  runHdr : List Byte := []
  staged : Option (List Byte) := none
  fwCmd : Option (Nat × List Byte × Nat) := none
  /-- An online Activate FW that waits: 1 for HOLD, 2 for the swap, 3 for HOLD exit. -/
  activate : Nat := 0
  deriving DecidableEq, Repr


/-! ### The rake and SRAM repair (spec/15) -/

/-- The rake while RAKE_STAT.BUSY is 1 (R546 to R549): the next page and the last, and the DPA lines that its markings made
poisoned. -/
structure RakeS where
  next : Nat := 0
  last : Nat := 0
  marked : List Nat := []
  /-- Rewrites of bursts read in this clock, each with the lines that a marking poisons (R548). -/
  pend : List (Nat × Burst × List Nat) := []
  deriving DecidableEq, Repr

/-- SRAM sparing (R551 to R553): the clocks of the parity errors of the last second by place (2^17 × array + 2^16 ×
column + place), and the fuse record that is being programmed. -/
structure RepairS where
  errs : SMap (List Nat) := []
  run : Option Word := none
  deriving DecidableEq, Repr

/-! ### Housekeeping (spec/19) -/

/-- A fraction in lowest terms. -/
structure Frac where
  num : Int := 0
  den : Nat := 1
  deriving DecidableEq, Repr

structure HkS where
  /-- Temperatures of the 17 nodes and of the heat sink in °C (R654 to R656); none before the first round after a cold
  reset. -/
  temps : List Frac := []
  sink : Frac := {}
  /-- T_hot averaged (HK_TAVG). -/
  avg : Frac := {}
  /-- Capacitances and conductances that firmware wrote, by word (R655). -/
  pkg : SMap (Option Word) := []
  /-- Rounds in a row with every error below 2 °C, and with one above 5 °C; "model disagrees with diode" is in force. -/
  calm : Nat := 0
  off : Nat := 0
  disagree : Bool := false
  /-- Failed reads in a row of each DIMM's SPD hub (R653). -/
  fails : SMap Nat := []
  /-- The number of the last round done; none before the first. -/
  round : Option Nat := none
  /-- The tide to which a step cut the round in progress short (R515). -/
  cut : Option Nat := none
  /-- P as the last update set it, and the tide at which it takes effect while it waits (R659, R660). -/
  step : Nat := 0
  pend : Option Nat := none
  /-- HK_CTL, HK_LIM and HK_PLIM as they stood before the first write of one of them in a clock (R660). -/
  before : Option (Nat × Word × Word × Word) := none
  deriving DecidableEq, Repr

/-! ### Answers and the whole state -/

/-- What the device gives out: the answer to a read, statuses, CXL messages, mailbox answers, frames, event records. -/
inductive Resp where
  /-- A read's value, on the path that read. -/
  | value (p : Path) (v : Nat)
  /-- The status and the value of each operation of a sideband message (R714). -/
  | sideband (r : List (Nat × Word))
  /-- MemData: logical device, message tag, line, poison, DevLoad (R441). -/
  | memData (ld mtag : Nat) (data : Line) (poison : Bool) (load : Nat)
  /-- The completion of a write or an invalidation. -/
  | memDone (ld mtag : Nat) (load : Nat)
  /-- BISnp to a logical device: 0 BISnpCur, 1 BISnpData, 2 BISnpInv. -/
  | biSnp (ld line kind : Nat)
  | biConflictAck (ld line : Nat)
  /-- A mailbox answer: return code, vendor status, output bytes. -/
  | mailbox (m : Issuer) (rc ext : Nat) (out : List Nat)
  /-- An SPDM answer: the message's code and its fields. -/
  | spdm (m : Issuer) (code : Nat) (out : List Nat)
  /-- A configuration answer; none: Configuration Request Retry Status. -/
  | config (ld : Nat) (v : Option Nat)
  /-- The CDAT of a logical device (R199): DSLBIS read and write latency in ns, its two bandwidths in Mb/s, and the first and last
  DPA of its volatile DSMAS. -/
  | cdat (ld rd wr rbw wbw first last : Nat)
  /-- A HDM decoder as committed; the BI decoder: its capability and whether it is on. -/
  | decoder (ld : Nat) (d : Option Decoder)
  | biDecoder (ld : Nat) (cap on : Bool)
  /-- An event record delivered to a logical device's function, and whether an interrupt goes with it; a sideband event
  message. -/
  | event (ld : Nat) (src cls : Nat) (irq : Bool)
  | sbEvent (src cls : Nat)
  /-- A Dynamic Capacity event record: Add (true) or Release, its first DPA and its 256 MiB blocks (R217). -/
  | capacity (ld : Nat) (add : Bool) (start blocks : Nat)
  /-- A block sent on a conveyor link outside sequenced traffic: training block or link message. -/
  | link (l kind : Nat) (v : List Nat)
  /-- A frame sent in a slot of a link direction. -/
  | slot (l : Nat) (f : List Nat)
  /-- A block of 90 UI on a physical lane, a number of tides into its frame (R445); the symbols of an Ihlo-F group by lane (R479). -/
  | block (l lane tides : Nat) (ui : Nat)
  | stream (l : Nat) (lanes : List (List Nat))
  deriving DecidableEq, Repr

/-- What waits for the end of a clock, named as the commands are: expiries that can come in the clock of the arrival that they guard
(R13 to R16), and host responses that take effect from the next clock on (R219, R220). -/
inductive Timer where
  | keyExpiry (p : Path)
  | idxPairTimeout (n : Fin 4)
  | holdLimitExpiry
  | safecapExpiry
  | watchdogExpiry (c : Fin 16)
  | waitTimeout (c : Fin 16)
  | waittTideReached (c : Fin 16)
  | stagingClaimLapse
  | hostMessageTimeout (c : Fin 16) (seq : Fin 65536)
  | armWaitTimeout
  | finalSend
  | bisnpTimeout (ld : Fin 256) (line : Nat)
  | addDcResponse (ld : Fin 256) (start : Nat) (blocks : Nat) (accept : Bool)
  | releaseDc (ld : Fin 256) (start : Nat) (blocks : Nat)
  | dcdResponseTimeout (e : Fin 4096)
  | urgencyPersistent
  | replayTimeout (l : Fin 32)
  | renegTimeout (l : Fin 32)
  | lockTimeout (l : Fin 32)
  | tideErrorLimit
  | heartbeatMissLimit
  | standbyProbeStart
  | standbyProbeEnd
  | heartbeatLoss
  | reservedCreditLapse
  | e2eTimeout (dev line : Nat)
  | slotPowerGood (n : Fin 48)
  | faultTimerExpiry (n : Fin 48)
  | sampleNoRequestTimeout (n : Fin 8)
  deriving DecidableEq, Repr

structure State where
  /-- The commands that are waiting, first in, first out. -/
  pending : List Instr := []
  /-- Core clocks counted since the model's start; no reset turns it back. -/
  clock : Nat := 0
  /-- Expiries that came in the clock of their own deadline, which wait for that clock's end, and whether that end has come
  (R13): the model's own fields. -/
  deferred : List Timer := []
  closing : Bool := false
  /-- How many free values have been drawn: the model's own field. -/
  fresh : Nat := 0
  /-- The answers given, oldest first. -/
  out : List Resp := []
  /-- Registers by byte offset; unlisted: the reset value of the register table. -/
  regs : SMap Word := []
  /-- The shadow copy of the set-held registers (R176). -/
  shadow : SMap Word := []
  acc : Access := {}
  mode : ModeS := {}
  wipe : Bittern := {}
  flt : Collector := {}
  evt : EventS := {}
  cores : SMap Core := []
  sets : SetS := {}
  port : PortS := {}
  coh : CohS := {}
  tier : TierS := {}
  keys : KeyS := {}
  dram : DramS := {}
  slu : SluS := {}
  slot : SlotS := {}
  pool : PoolS := {}
  tideU : TideS := {}
  tel : TelS := {}
  sec : SecS := {}
  rake : RakeS := {}
  repair : RepairS := {}
  hk : HkS := {}
  /-- The JTAG port holds a boundary-scan instruction, not BYPASS (R708). -/
  scan : Bool := false
  deriving DecidableEq, Repr

/-- The device at the end of its first cold reset (R84, R88): BOOT, the bittern owed, every register at its reset value. What
the reset values of SEC_STATE and SEC_KEYSTAT take from OTP is that of a device in MANUF with no owner slot and records 0 to
4 valid; the first eight draws made the token nonce, and the next 4,096
GEN of the key slots. -/
def State.reset : State :=
  { fresh := 4104
    keys := { base := 8 }
    regs := [(Reg.SEC_STATE, 0x20020000#32), (Reg.SEC_KEYSTAT, 0x1F#32)]
    sec := { otp := { rows := [0xE1#8] }, boot2 := 1 :: 0xFF :: List.replicate 22 0 } }

end Sys2Proof.Machine
end

