-- ==== Sys2Proof/Machine/Ops.lean ====
section
/-! DEFINITION. Named operations over the state: registers and their fields, the shadow copy, tables, cores, tides,
free values and answers. -/

namespace Sys2Proof.Machine

/-! ### Registers -/

/-- Eight default classes packed as FLT_CLASSn packs them (R564). -/
def classWord (n : Nat) : Nat → Nat
  | 0 => 0
  | k + 1 => classWord n k + ((defaultClass (8 * n + k)).getD 0) * 16 ^ k

/-- The reset words of GEN_PARAM0 to GEN_PARAM7 (R67). -/
def paramWord : Nat → Nat
  | 0 => 0x20103018
  | 1 => 0x04080410
  | 2 => 0x10000408
  | 3 => 0x06000100
  | 4 => 0x01800500
  | 5 => 0x10402000
  | 6 => 0x40000800
  | 7 => 0x1040402E
  | _ => 0

/-- The value of a register at reset (R12), by byte offset. -/
def resetWord (off : Nat) : Word :=
  if off < 0x2C00000 then
    if 0x40 ≤ off ∧ off < 0x60 then BitVec.ofNat 32 (paramWord ((off - 0x40) / 4))
    else match regDesc off with
      | .none => 0
      | some d => BitVec.ofNat 32 d.reset
  else if 0x2C00400 ≤ off ∧ off < 0x2C00700 then BitVec.ofNat 32 (classWord ((off - 0x2C00400) / 4) 8)
  else match regDesc off with
    | .none => 0
    | some d => BitVec.ofNat 32 d.reset

/-- The value of a register (the active copy of a set-held one). -/
def State.reg (s : State) (off : Nat) : Word := smGet (resetWord off) s.regs off

def State.setReg (s : State) (off : Nat) (v : Word) : State :=
  { s with regs := smSet (resetWord off) s.regs off v }

/-- A field of a register, as a number. -/
def State.fld (s : State) (off hi lo : Nat) : Nat := Sys2Proof.Machine.fld (s.reg off) hi lo

def State.setF (s : State) (off hi lo v : Nat) : State := s.setReg off (setFld (s.reg off) hi lo v)

def State.bit (s : State) (off i : Nat) : Bool := Sys2Proof.Machine.bit (s.reg off) i

def State.setBit (s : State) (off i : Nat) (b : Bool) : State := s.setReg off (Sys2Proof.Machine.setBit (s.reg off) i b)

/-- The shadow copy of a set-held register (R176). -/
def State.sreg (s : State) (off : Nat) : Word := smGet (resetWord off) s.shadow off

def State.setSreg (s : State) (off : Nat) (v : Word) : State :=
  { s with shadow := smSet (resetWord off) s.shadow off v }

/-- Hardware sets a write-1-to-clear bit: a clear by software in the same clock leaves it set (R47). -/
def State.hwBit (s : State) (off i : Nat) : State :=
  { s.setBit off i true with
    acc := { s.acc with hwSet := smSet 0 s.acc.hwSet off (Sys2Proof.Machine.setBit (smGet 0 s.acc.hwSet off) i true) } }

/-- A write by software takes every writable bit of a register (R47). -/
def State.noteWrite (s : State) (off rw : Nat) : State :=
  { s with acc := { s.acc with swSet := smSet 0 s.acc.swSet off (smGet 0 s.acc.swSet off ||| BitVec.ofNat 32 rw) } }

/-- Hardware updates a field that software may write: a write of software in the same clock stands (R47). -/
def State.hwF (s : State) (off hi lo v : Nat) : State :=
  if Sys2Proof.Machine.fld (smGet 0 s.acc.swSet off) hi lo = 0 then s.setF off hi lo v else s

/-- An expiry with deadline `due`, in numbers of a clock of `per` core clocks: in that clock itself it waits for the clock's end,
so that an arrival of the same clock goes first (R13 to R16). -/
def atDue (i : Timer) (per : Nat) (due : Option Nat) (s : State) (f : State → Host.Outcome State Fault Refusal) :
    Host.Outcome State Fault Refusal :=
  if due = some (s.clock / per) && !(s.closing && decide ((s.clock + 1) % per = 0)) then
    .next { s with deferred := s.deferred ++ [i] }
  else f s

/-- What takes effect at the end of its clock, ahead of the clock's expiries. -/
def atEnd (i : Timer) (s : State) (f : State → Host.Outcome State Fault Refusal) : Host.Outcome State Fault Refusal :=
  if s.closing then f s else .next { s with deferred := i :: s.deferred }

/-- A counter field that saturates at its width. -/
def State.bump (s : State) (off hi lo : Nat) : State :=
  s.setF off hi lo (satAdd (2 ^ (hi + 1 - lo) - 1) (s.fld off hi lo) 1)

/-! ### Tides, free values, answers -/

/-- TIDE_NOW (spec/14). -/
def State.tide (s : State) : Nat := (s.reg Reg.TIDE_NOW_LO).toNat + 2 ^ 32 * (s.reg Reg.TIDE_NOW_HI).toNat

def State.setTide (s : State) (t : Nat) : State :=
  (s.setReg Reg.TIDE_NOW_LO (BitVec.ofNat 32 t)).setReg Reg.TIDE_NOW_HI (BitVec.ofNat 32 (t / 2 ^ 32))

/-- The next free value's number, and the state that has drawn it. -/
def State.draw (s : State) : State := { s with fresh := s.fresh + 1 }

/-- The device gives an answer out. -/
def State.emit (s : State) (r : Resp) : State := { s with out := s.out ++ [r] }

/-- Core clocks in a microsecond, a millisecond, a second (0.4 ns a clock: spec/00, Terms). -/
def usClocks : Nat := 2500
def msClocks : Nat := 2500000
def secClocks : Nat := 2500000000

/-! ### Modes -/

namespace Mode
def boot : Nat := 0
def rise : Nat := 1
def run : Nat := 2
def trim : Nat := 3
def drain : Nat := 4
def hold : Nat := 5
def test : Nat := 6
def safe : Nat := 7
end Mode

/-- GEN_MODE.CODE (R70). -/
def State.code (s : State) : Nat := s.fld Reg.GEN_MODE 2 0

/-- GEN_MODE.CHANGING (R73). -/
def State.changing (s : State) : Bool := s.bit Reg.GEN_MODE 8

/-- RESET_N is low or a rail is below its threshold: the device is held in a cold reset (R697, R705). -/
def State.inReset (s : State) : Bool := s.mode.resetLow.isSome || s.mode.supplyLow

/-! ### Tables (R165, R173, R174) -/

/-- The key of byte `n` of table `id`. -/
def tabKey (id n : Nat) : Nat := id * 0x1000000 + n

/-- The size of a table in bytes; 0 for a reserved number (R174). -/
def tableSize (id : Nat) : Nat :=
  match id with
  | 0x01 => 16384
  | 0x02 => 9216
  | 0x03 => 65536
  | 0x04 => 1024
  | 0x05 => 8192
  | 0x06 => 131072
  | 0x08 => 65536
  | 0x09 => 262144
  | 0x0A => 262144
  | 0x0B => 256
  | 0x0C => 2048
  | _ => 0

/-- A live table: one copy that the data path and its owner use together (R173, R174). -/
def tableLive (id : Nat) : Bool := decide (8 ≤ id ∧ id ≤ 12)

/-- `n` bytes of a table as a number, from a copy of the tables. -/
def tabNat (m : SMap Byte) (id off : Nat) : Nat → Nat
  | 0 => 0
  | n + 1 => (smGet 0 m (tabKey id off)).toNat + 256 * tabNat m id (off + 1) n

/-- A copy of the tables with `n` bytes of one table written, little-endian. -/
def tabPut (m : SMap Byte) (id off v : Nat) : Nat → SMap Byte
  | 0 => m
  | n + 1 => tabPut (smSet 0 m (tabKey id off) (BitVec.ofNat 8 v)) id (off + 1) (v / 256) n

/-- `n` bytes of an active set-held table. -/
def State.act (s : State) (id off n : Nat) : Nat := tabNat s.sets.active id off n

/-- `n` bytes of a live table. -/
def State.live (s : State) (id off n : Nat) : Nat := tabNat s.sets.live id off n

def State.setLive (s : State) (id off v n : Nat) : State :=
  { s with sets := { s.sets with live := tabPut s.sets.live id off v n } }

/-! ### Cores -/

def State.core (s : State) (n : Nat) : Core := smGet {} s.cores n

def State.setCore (s : State) (n : Nat) (c : Core) : State := { s with cores := smSet {} s.cores n c }

/-- A core with event bits latched in EVPEND (R139); occurrences merge. -/
def Core.latch (c : Core) (b : Nat) : Core := { c with evpend := Sys2Proof.Machine.setBit c.evpend b true }

/-- The event bit `b` latched on the cores of a list. -/
def latchOn (s : State) (b : Nat) : List Nat → State
  | [] => s
  | n :: r => latchOn (s.setCore n ((s.core n).latch b)) b r

/-- The sixteen cores. -/
def coreList : List Nat := List.range 16

/-- An event of R587, latched on every core. -/
def latchAll (s : State) (b : Nat) : State := latchOn s b coreList

/-! ### Units of the memory path -/

/-- The home slice of a DPA (R23): the exclusive-OR of the seventeen 2-bit fields DPA[13:12] to DPA[45:44]. -/
def homeSlice (dpa : Nat) : Nat := xor2 17 (dpa / 4096)

/-- READY bits by register index (0 for RDY_0) and bit. -/
def State.ready (s : State) (i b : Nat) : Bool := s.bit (Reg.RDY_0 + 4 * i) b

def readyChan (s : State) (c : Nat) : Bool := s.ready 0 c
def readySlot (s : State) (n : Nat) : Bool := s.ready (1 + n / 32) (n % 32)
def readyLink (s : State) (n : Nat) : Bool := s.ready 3 n
def readyGc (s : State) (n : Nat) : Bool := s.ready 4 n
def readyHc (s : State) (n : Nat) : Bool := s.ready 4 (8 + n)
def readyXe (s : State) (n : Nat) : Bool := s.ready 4 (12 + n)
def readyHa (s : State) (n : Nat) : Bool := s.ready 4 (20 + n)
def readyD2d (s : State) (n : Nat) : Bool := s.ready 4 (24 + n)
def readyTide (s : State) : Bool := s.ready 4 27
def readyPool (s : State) : Bool := s.ready 4 28
def readySec (s : State) : Bool := s.ready 4 29
def readyHk (s : State) : Bool := s.ready 4 30
def readyCore (s : State) (n : Nat) : Bool := s.ready 5 n
def readyTmu (s : State) : Bool := s.ready 5 16
/-- Bifurcated port `p` = 4 × n + k. -/
def readySub (s : State) (p : Nat) : Bool := s.ready (6 + p / 32) (p % 32)

def State.chan (s : State) (c : Nat) : Chan := smGet {} s.dram.chan c
def State.setChan (s : State) (c : Nat) (v : Chan) : State :=
  { s with dram := { s.dram with chan := smSet {} s.dram.chan c v } }
def State.subp (s : State) (p : Nat) : SubPort := smGet {} s.port.sub p
def State.setSubp (s : State) (p : Nat) (v : SubPort) : State :=
  { s with port := { s.port with sub := smSet {} s.port.sub p v } }
def State.logDev (s : State) (l : Nat) : LogDev := smGet {} s.port.ld l
def State.setLogDev (s : State) (l : Nat) (v : LogDev) : State :=
  { s with port := { s.port with ld := smSet {} s.port.ld l v } }
def State.slotOf (s : State) (n : Nat) : Slot := smGet {} s.slot.slots n
def State.keySlot (s : State) (k : Nat) : KeySlot := smGet {} s.keys.slots k
def State.setKeySlot (s : State) (k : Nat) (v : KeySlot) : State :=
  { s with keys := { s.keys with slots := smSet {} s.keys.slots k v } }

/-- GEN of a key slot: the value of the end of bittern phase 1, and its loads and destructions since (R323, R324). -/
def genOf (s : State) (k : Nat) : Nat := ((Config.random (s.keys.base + k)).toNat + (s.keySlot k).gen) % 2 ^ 32

/-- Fresh values of GEN for the 4,096 key slots (R323). -/
def newGens (s : State) : State := { s with keys := { s.keys with base := s.fresh }, fresh := s.fresh + 4096 }

/-- The bifurcation mode of HPn in force gives this many bifurcated ports (R200). -/
def subCount (s : State) (n : Nat) : Nat :=
  match smGet 0 s.port.mode n with
  | 0 => 1
  | 1 => 2
  | _ => 4

/-- Logical devices of bifurcated port `k` by a HPX_LDCNT word (R204). -/
def ldCount (w : Word) (k : Nat) : Nat := Sys2Proof.Machine.fld w (8 * k + 4) (8 * k)

/-- HPX_LDCNT as in force on HPn; its reset value before any release of a PERST_N. -/
def ldcntOf (s : State) (n : Nat) : Word := smGet 0x10 s.port.ldcnt n

/-- The bifurcated port and the LD-ID of local logical device `j` of HPn (R205); none: not given to any port. -/
def ldPlaceFrom (w : Word) (j : Nat) : Nat → Nat → Option (Nat × Nat)
  | 0, _ => .none
  | m + 1, k => if j < ldCount w k then some (k, j) else ldPlaceFrom w (j - ldCount w k) m (k + 1)

def ldPlace (s : State) (ld : Nat) : Option (Nat × Nat) :=
  ldPlaceFrom (ldcntOf s (ld / 16)) (ld % 16) (subCount s (ld / 16)) 0

/-- The bifurcated port 4 × n + k of a logical device. -/
def ldPort (s : State) (ld : Nat) : Option Nat := (ldPlace s ld).map (fun e => 4 * (ld / 16) + e.1)

/-- The device's pool ID (R485): POOL_CFG's identity field, read as spec/14 gives it. -/
def State.devId (s : State) : Nat := s.fld Reg.POOL_CFG 21 12

/-- Messages in an inbound queue; completion records have room of their own (R133). -/
def msgCount (c : Core) : Nat := (c.queue.filter (fun e => decide (e.kind ≠ 2))).length

/-! ### Requests under an older configuration set (R188, R189) -/

/-- The set-held registers that the memory path of a request reads. -/
def requestRegs : List Nat := [Reg.TIER_CTL, Reg.CRY_GCTL, Reg.CRY_HCTL, Reg.HOME_CTL, Reg.SLU_CTL]

def putRegs (s : State) : List (Nat × Word) → State
  | [] => s
  | (o, v) :: r => putRegs (s.setReg o v) r

/-- The tables and registers of the active set, under its number. -/
def activeSet (s : State) : OldSet :=
  { num := s.sets.swaps, tables := s.sets.active, regs := requestRegs.map (fun o => (o, s.reg o)) }

def putSet (s : State) (o : OldSet) : State := putRegs { s with sets := { s.sets with active := o.tables } } o.regs

/-- Work done for a request, a move or a frame under the configuration set that was active when it was admitted or taken. -/
def underSet (s : State) (n : Nat) (f : State → State) : State :=
  if n = s.sets.swaps then f s
  else match s.sets.olds.find? (fun o => decide (o.num = n)) with
    | .none => f s
    | some o => putSet (f (putSet s o)) (activeSet s)

/-- A random 512-bit key whose halves differ (R617). -/
def randomKey (s : State) : Nat :=
  let k := (List.range 16).foldl (fun a i => a + (Config.random (s.fresh + i)).toNat * 2 ^ (32 * i)) 0
  if k % 2 ^ 256 = k / 2 ^ 256 then (if k % 2 = 0 then k + 1 else k - 1) else k

def drawN : Nat → State → State
  | 0, s => s
  | n + 1, s => drawN n s.draw

end Sys2Proof.Machine
end

