-- ==== Sys2Proof/Machine/Count.lean ====
section
/-! DEFINITION. The telemetry counters (R665, R666): 48 bits, counted from the end of bittern phase 2. -/

namespace Sys2Proof.Machine

/-- Counter `c` of block `b` advances by `n`. -/
def tick (s : State) (b c n : Nat) : State :=
  if s.wipe.sramDone then
    let m := 8 * b + c
    { s with tel := { s.tel with cnt := smSet 0 s.tel.cnt m ((smGet 0 s.tel.cnt m + n) % 2 ^ 48) } }
  else s

/-- Block numbers (R665). -/
def bHost (n : Nat) : Nat := n
def bChan (c : Nat) : Nat := 16 + c
def bLink (l : Nat) : Nat := 40 + l
def bHome (h : Nat) : Nat := 72 + h
def bPool (q : Nat) : Nat := 76 + q
def bTmu (q : Nat) : Nat := 80 + q
def bGc (u : Nat) : Nat := 84 + u
def bHc (u : Nat) : Nat := 92 + u
def bXe (u : Nat) : Nat := 96 + u
def bCore (n : Nat) : Nat := 104 + n
def bPipe (p : Nat) : Nat := 120 + p
def bXbar (q : Nat) : Nat := 128 + q
def bFace (f : Nat) : Nat := 132 + f
def bSweep : Nat := 139
def bTide : Nat := 140
def bHouse : Nat := 141

end Sys2Proof.Machine
end

