-- ==== Sys2Proof/Machine/Flags.lean ====
section
/-! DEFINITION. The fault collector and the event router (spec/16): sticky bits, classes, capture, notification, FAULT_N,
the READY bits with their change bits, and the error records of the units. What a class's reaction does to a unit or to
the mode is left in the list of owed reactions, which Machine/React.lean settles. -/

namespace Sys2Proof.Machine

/-! ### Sticky bits and classes (R562, R564) -/

def stickyOff (src : Nat) : Nat := Reg.FLT_STICKY (src / 32)

/-- The sticky bit of a source. -/
def sticky (s : State) (src : Nat) : Bool := s.bit (stickyOff src) (src % 32)

def setSticky (s : State) (src : Nat) : State := s.hwBit (stickyOff src) (src % 32)

/-- The class in force of a source: 1,472 is fixed at SAFE (R559, R578), a reserved source reads 0 (R560). -/
def srcClass (s : State) (src : Nat) : Nat :=
  if src = Src.collectorParity then 5
  else if srcPresent src then s.fld (Reg.FLT_CLASS (src / 8)) (4 * (src % 8) + 2) (4 * (src % 8))
  else 0

/-- The sources whose sticky bit is set, among `k` to `k + n - 1`. -/
def stickyFrom (s : State) (k : Nat) : Nat → List Nat
  | 0 => []
  | n + 1 => if sticky s k then k :: stickyFrom s (k + 1) n else stickyFrom s (k + 1) n

/-- The sources of the set bits of the sticky words that the register map lists. -/
def stickySrcs (s : State) : List Nat :=
  (s.regs.filter (fun e => decide (Reg.FLT_STICKY 0 ≤ e.1 ∧ e.1 < Reg.FLT_STICKY 48))).flatMap
    (fun e => (bitsOf 32 0 e.2.toNat).map (fun b => 32 * ((e.1 - Reg.FLT_STICKY 0) / 4) + b))

/-- A set sticky bit whose source has at least the class `c` in force. -/
def stickyAtLeast (s : State) (c : Nat) : Bool := (stickySrcs s).any (fun x => decide (c ≤ srcClass s x))

/-- A set sticky bit whose source has the class `c` in force (R571). -/
def stickyOfClass (s : State) (c : Nat) : Bool := (stickySrcs s).any (fun x => decide (srcClass s x = c))

/-- FAULT_N is driven low (R580). -/
def faultLow (s : State) : Bool :=
  stickyAtLeast s (s.fld Reg.FLT_CTL 2 0) || sticky s Src.collectorParity || decide (s.code = Mode.safe) ||
    s.mode.resetLow.isSome || s.mode.supplyLow || !s.wipe.sramDone

/-! ### Capture (R574 to R577) -/

/-- Full capture is active (R574, R575). -/
def fullCapture (s : State) : Bool :=
  decide (s.code = Mode.boot ∨ s.code = Mode.rise ∨ s.code = Mode.test) ||
    (decide (s.code ≠ Mode.safe) && s.bit Reg.GEN_MODEX 8)

/-- The six words of a capture entry. -/
def capWords (src cls tide : Nat) (i : Info) : CapRec :=
  [BitVec.ofNat 32 (2 ^ 31 + b2n i.forced * 2 ^ 30 + cls % 8 * 2 ^ 27 + i.atype % 16 * 2 ^ 23 +
      i.akind % 8 * 2 ^ 20 + src % 2048),
   BitVec.ofNat 32 i.addr,
   BitVec.ofNat 32 (i.addr / 2 ^ 32 % 2 ^ 24),
   BitVec.ofNat 32 (i.mkind % 16 * 2 ^ 28 + i.mdev % 1024 * 2 ^ 18 + i.mid % 4096),
   BitVec.ofNat 32 tide,
   BitVec.ofNat 32 (tide / 2 ^ 32)]

/-- The source of a capture entry. -/
def capSrc (r : CapRec) : Nat := fld (r.headD 0) 10 0

/-- Captures in ascending source order. -/
def insertCap (r : CapRec) : List CapRec → List CapRec
  | [] => [r]
  | x :: l => if capSrc r < capSrc x then r :: x :: l else x :: insertCap r l

/-- The captures of this clock that stand in the FIFO, and the entries before them. -/
def capNow (s : State) : List CapRec := s.flt.fifo.drop (s.flt.fifo.length - s.flt.now)
def capOld (s : State) : List CapRec := s.flt.fifo.take (s.flt.fifo.length - s.flt.now)

/-- The FIFO with `old` and the captures of this clock, of which the lowest sources stay in 64 entries (R576). -/
def fillCaps (s : State) (old caps : List CapRec) : State :=
  let k := 64 - old.length
  { s with flt := { s.flt with fifo := old ++ caps.take k, now := min k caps.length, lostNow := caps.drop k } }

/-- A capture joins those of its clock (R576). -/
def capture (s : State) (r : CapRec) : State :=
  let t := fillCaps s (capOld s) (insertCap r (capNow s ++ s.flt.lostNow))
  if s.flt.fifo.length < t.flt.fifo.length then tick t bTide 4 1 else t

/-- The oldest entry leaves, before the captures of this clock (R576). -/
def popCapture (s : State) : State := fillCaps s (capOld s).tail (capNow s ++ s.flt.lostNow)

/-- The FIFO is emptied and the count cleared, before the captures of this clock. -/
def clearCaptures (s : State) : State :=
  fillCaps { s with flt := { s.flt with ovf := 0 } } [] (capNow s ++ s.flt.lostNow)

/-! ### Notification (R582 to R587) -/

/-- The event line of a source by EVMAP: V and LINE of its SRCLINE entry (R582, R583). -/
def srcLine (s : State) (src : Nat) : Option Nat :=
  let b := s.live 0x0C src 1
  if b.testBit 7 then some (b % 32) else .none

/-- The cores that an event line names (LINECORE). -/
def lineCores (s : State) (line : Nat) : List Nat := bitsOf 16 0 (s.live 0x0C (1536 + 2 * line) 2)

/-- The event line of a source, latched on its cores. -/
def routeLine (s : State) (src : Nat) : State :=
  match srcLine s src with
  | .none => s
  | some l =>
    let cs := lineCores s l
    let s := latchOn s (16 + l) cs
    if cs = [] then s else s.hwBit Reg.EVT_LINEHIT l

/-- The event log that a class selects (R584): 0 Informational, 1 Warning, 2 Failure, 3 Fatal. -/
def logOf (cls : Nat) : Nat := if cls = 1 then 0 else if cls = 2 then 1 else if cls = 5 then 3 else 2

/-- The key of an event log. -/
def logKey (ld cls : Nat) : Nat := 4 * ld + logOf cls

/-- A host event record in the log of a logical device; a full log sets its overflow indication (R584). -/
def addRecord (s : State) (r : EvRec) (ld : Nat) : State :=
  let k := logKey ld r.cls
  let l := smGet [] s.evt.logs k
  if l.length < 64 then tick { s with evt := { s.evt with logs := smSet [] s.evt.logs k (l ++ [r]) } } bTide 7 1
  else (State.bump { s with evt := { s.evt with full := if s.evt.full.contains k then s.evt.full else s.evt.full ++ [k] } }
    Reg.EVT_STAT 15 0)

def addRecords (s : State) (r : EvRec) : List Nat → State
  | [] => s
  | l :: ls => addRecords (addRecord s r l) r ls

/-- The FM-owned LDs: number 256 + 4 × n + k for each bifurcated port that the mode in force has. -/
def fmLds (s : State) : List Nat :=
  (List.range 64).filterMap (fun p => if p % 4 < subCount s (p / 4) then some (256 + p) else .none)

/-- The logical devices that a source's record goes to (R585). -/
def recordLds (s : State) (src : Nat) (i : Info) : List Nat :=
  match (if src < 384 then i.ld else .none) with
  | some l => l :: (match (match i.sub with | some k => some (4 * (src / 24) + k % 4) | .none => ldPort s l) with
    | some p => [256 + p]
    | .none => [])
  | .none =>
    (List.range 16).filterMap (fun n => if s.bit Reg.GEN_HOSTACC n then some (16 * n) else .none) ++ fmLds s

/-- The sideband message of a source (R586): queued, or counted as dropped when 32 wait. -/
def sidebandEvent (s : State) (r : EvRec) : State :=
  if s.bit Reg.EVT_CTL 31 && decide (s.fld Reg.EVT_CTL 30 28 ≤ r.cls) then
    if s.evt.sbq.length < 32 then { s with evt := { s.evt with sbq := s.evt.sbq ++ [r] } }
    else s.bump Reg.EVT_STAT 31 16
  else s

/-- The notifications of a sticky bit that rises (R582), with its capture entry when one was made. -/
def notify (s : State) (src cls tide : Nat) (i : Info) (cap : CapRec) : State :=
  let s := routeLine s src
  let r : EvRec := { src := src, cls := cls, tide := tide, cap := cap, sent := false }
  let s := if s.bit (Reg.EVT_HOSTEN (src / 32)) (src % 32) then addRecords s r (recordLds s src i) else s
  sidebandEvent s r

/-! ### Assertions (R561, R562, R568) -/

/-- A source asserts in the running collector: sticky bit, capture, notification, and the reaction owed by its class. -/
def assertAt (s : State) (src tide : Nat) (i : Info) : State :=
  let cls := srcClass s src
  let rise := !sticky s src
  let full := rise && fullCapture s
  let w := capWords src cls tide i
  let s := if rise then tick (setSticky s src) bTide 3 1 else s
  let s := if full then capture s w else s
  let s := if rise && decide (1 ≤ cls) then notify s src cls tide i (if full then w else []) else s
  if 3 ≤ cls then
    { s with flt := { s.flt with react := s.flt.react ++ [{ cls := cls, src := src, info := i }] } } else s

/-- The level sources (R69, R274, R275, R561, R676). -/
def levelSrc (src : Nat) : Bool :=
  decide (src = Src.readiness ∨ src = Src.reserveLow ∨ src = Src.freeRingLow ∨ src = 1517)

/-- A source asserts. A reserved source never does (R560). Before bittern phase 2 has ended, its unit latches it, a level source
once (R588). -/
def raiseWith (s : State) (src : Nat) (i : Info) : State :=
  if !srcPresent src then s
  else if !s.wipe.sramDone then
    if levelSrc src && s.flt.early.any (fun x => decide (x.1 = src)) then s
    else { s with flt := { s.flt with early := s.flt.early ++ [(src, i, s.tide)] } }
  else assertAt s src s.tide i

def raise (s : State) (src : Nat) : State := raiseWith s src {}

/-- The assertions latched before the collector ran, in the first clock in which it runs (R588), in ascending source
order (R576). -/
def insertEarly (e : Nat × Info × Nat) : List (Nat × Info × Nat) → List (Nat × Info × Nat)
  | [] => [e]
  | x :: r => if e.1 < x.1 then e :: x :: r else x :: insertEarly e r

def sortEarly : List (Nat × Info × Nat) → List (Nat × Info × Nat)
  | [] => []
  | e :: r => insertEarly e (sortEarly r)

def assertEarly (s : State) : List (Nat × Info × Nat) → State
  | [] => s
  | e :: r => assertEarly (assertAt s e.1 e.2.2 e.2.1) r

def releaseEarly (s : State) : State :=
  let l := sortEarly s.flt.early
  assertEarly { s with flt := { s.flt with early := [] } } l

/-- The capture entries that event records and sideband messages carry (R584, R586), changed. -/
def mapCaps (f : CapRec → CapRec) (s : State) : State :=
  let g (r : EvRec) : EvRec := { r with cap := f r.cap }
  { s with evt := { s.evt with logs := s.evt.logs.map (fun e => (e.1, e.2.map g)), sbq := s.evt.sbq.map g } }

/-- The captures that a clock has lost join the overflow count; the first lost after the count was 0 raises "capture overflow"
(R576); no record carries an entry that was not made (R584). -/
def capturesEnd (s : State) : State :=
  let s := if s.flt.lostNow ≠ [] ∧ s.flt.ovf = 0 then raise s Src.captureOverflow else s
  let n := s.flt.lostNow.length
  let s := if n = 0 then s else mapCaps (fun c => if s.flt.lostNow.contains c then [] else c) s
  let s := { s with flt := { s.flt with ovf := satAdd 0xFFFF s.flt.ovf n, now := 0, lostNow := [] } }
  if n = 0 then s else tick s bTide 5 n

/-! ### READY bits (R68, R69) -/

/-- Some RDY_CHG bit is 1: the condition under which "readiness changed" asserts (R69). -/
def rdyChanged (s : State) : Bool := (List.range 8).any (fun i => decide (s.reg (Reg.RDY_CHG i) ≠ 0))

/-- A READY bit takes a value: a change sets its RDY_CHG bit, latches RDY on every core (R139, R587) and raises
"readiness changed". -/
def setReadyBit (s : State) (i b : Nat) (v : Bool) : State :=
  if s.ready i b = v then s
  else
    let s := s.setBit (Reg.RDY_0 + 4 * i) b v
    let s := s.hwBit (Reg.RDY_CHG i) b
    raise (latchAll s 3) Src.readiness

def setReadyChan (s : State) (c : Nat) (v : Bool) : State := setReadyBit s 0 c v
def setReadySlot (s : State) (n : Nat) (v : Bool) : State := setReadyBit s (1 + n / 32) (n % 32) v
def setReadyLink (s : State) (n : Nat) (v : Bool) : State := setReadyBit s 3 n v
def setReadyGc (s : State) (n : Nat) (v : Bool) : State := setReadyBit s 4 n v
def setReadyHc (s : State) (n : Nat) (v : Bool) : State := setReadyBit s 4 (8 + n) v
def setReadyXe (s : State) (n : Nat) (v : Bool) : State := setReadyBit s 4 (12 + n) v
def setReadyHa (s : State) (n : Nat) (v : Bool) : State := setReadyBit s 4 (20 + n) v
def setReadyD2d (s : State) (n : Nat) (v : Bool) : State := setReadyBit s 4 (24 + n) v
def setReadyTide (s : State) (v : Bool) : State := setReadyBit s 4 27 v
def setReadyPool (s : State) (v : Bool) : State := setReadyBit s 4 28 v
def setReadySec (s : State) (v : Bool) : State := setReadyBit s 4 29 v
def setReadyHk (s : State) (v : Bool) : State := setReadyBit s 4 30 v
def setReadyCore (s : State) (n : Nat) (v : Bool) : State := setReadyBit s 5 n v
def setReadyTmu (s : State) (v : Bool) : State := setReadyBit s 5 16 v

/-- The READY bit of bifurcated port `p`, and HPn's bit, which is 1 while any of its bifurcated ports is READY. -/
def setReadySub (s : State) (p : Nat) (v : Bool) : State :=
  let s := setReadyBit s (6 + p / 32) (p % 32) v
  let n := p / 4
  setReadyBit s 2 (16 + n) ((List.range 4).any (fun k => readySub s (4 * n + k)))

/-! ### Error records of the units -/

/-- The two-word and one-word error records share one rule: the first assertion is recorded and holds until VALID is
cleared; a further one sets MORE, which only software clears. `off` holds VALID and MORE at the given bits. -/
def record (s : State) (off vbit mbit : Nat) (write : State → State) : State :=
  if s.bit off vbit then s.hwBit off mbit else ((write s).setBit off mbit (s.bit off mbit)).hwBit off vbit

/-- HPX_ERRSUB (R233): local source, bifurcated port, logical device of the last assertion; MORE tells that VALID stood at 1. -/
def recordHost (s : State) (n l : Nat) (i : Info) : State :=
  let off := Reg.HPX_ERRSUB n
  let t := s.setReg off (BitVec.ofNat 32
    (b2n i.ld.isSome * 2 ^ 21 + l * 2 ^ 16 + i.ld.getD 0 % 256 * 2 ^ 8 + i.sub.getD 0 % 4))
  (if s.bit off 31 then t.hwBit off 30 else t.setBit off 30 (s.bit off 30)).hwBit off 31

/-- A host-port source asserts. -/
def raiseHost (s : State) (n l : Nat) (i : Info) : State := raiseWith (recordHost s n l i) (Src.host n l) i

/-- A TMU source asserts (R279): TIER_ERRPAGE names the page, given by its DPA. -/
def raiseTier (s : State) (src dpa : Nat) (i : Info) : State :=
  let s := record s Reg.TIER_ERRPAGE_HI 31 30 (fun s =>
    (s.setReg Reg.TIER_ERRPAGE_LO (BitVec.ofNat 32 (dpa % 2 ^ 32 / 4096 * 4096 + (src - 1232)))).setReg
      Reg.TIER_ERRPAGE_HI (BitVec.ofNat 32 (dpa / 2 ^ 32 % 2 ^ 14)))
  raiseWith s src i

/-- A home slice or pool cache source asserts (R380): HOME_ERR names the line by its DPA, the slice and the device. -/
def raiseHome (s : State) (src dpa dev : Nat) (i : Info) : State :=
  let s := record s Reg.HOME_ERR_HI 31 30 (fun s =>
    (s.setReg Reg.HOME_ERR_LO (BitVec.ofNat 32 (dpa % 2 ^ 32 / 64 * 64 + homeSlice dpa * 16 + (src - 1216)))).setReg
      Reg.HOME_ERR_HI (BitVec.ofNat 32 (dev % 1024 * 2 ^ 14 + dpa / 2 ^ 32 % 2 ^ 14)))
  raiseWith s src i

/-- The last assertion of a crystallizer source (R313): unit, local index, line address; of a heap source its page's line 0. -/
def recordCry (s : State) (unit l dpa : Nat) : State :=
  let dpa := if 5 ≤ l ∧ l ≤ 10 then dpa / 4096 * 4096 else dpa
  record s Reg.CRY_ERRLN_HI 31 30 (fun s =>
    (s.setReg Reg.CRY_ERRLN_LO (BitVec.ofNat 32 (dpa / 64))).setReg
      Reg.CRY_ERRLN_HI (BitVec.ofNat 32 (unit * 2 ^ 20 + l * 2 ^ 16 + dpa / 2 ^ 38 % 256)))

/-- The clocks of the last millisecond's assertions of an engine, with this one. -/
def recentFails (s : State) (key : Nat) : List Nat :=
  (smGet [] s.flt.fails key).filter (fun c => decide (s.clock < c + msClocks)) ++ [s.clock]

/-- Counts an assertion of an engine towards its repeated-failure source: 16 within 1 ms raise it (R313, R339). `log` records that
assertion. -/
def countFail (s : State) (key src : Nat) (i : Info) (log : State → State) : State :=
  let l := recentFails s key
  if 16 ≤ l.length then
    raiseWith (log { s with flt := { s.flt with fails := smSet [] s.flt.fails key [] } }) src i
  else { s with flt := { s.flt with fails := smSet [] s.flt.fails key l } }

/-- A crystallizer source asserts (R313). `unit` is 0 to 7 for GCn, 8 to 11 for HCn. -/
def raiseCry (s : State) (src unit dpa : Nat) (i : Info) : State :=
  let i := { i with unit := some unit }
  let s := raiseWith (recordCry s unit (src - 1244) dpa) src i
  if src ≤ 1247 then countFail s unit Src.grainRepeated i (fun s => recordCry s unit 4 dpa)
  else if 1249 ≤ src ∧ src ≤ 1251 then countFail s unit Src.heapRepeated i (fun s => recordCry s unit 8 dpa)
  else s

/-- CRY_XEERR (R339): engine, local index and key slot of the last assertion. -/
def recordXe (s : State) (src unit slot : Nat) : State :=
  record s Reg.CRY_XEERR 31 30 (fun s =>
    s.setReg Reg.CRY_XEERR (BitVec.ofNat 32 (unit % 16 * 2 ^ 19 + (src - 1260) * 2 ^ 15 + slot % 4096)))

/-- A crypto engine or key slot source asserts (R339). `unit` is 0 to 7 for XEn, 15 for the key slot array. -/
def raiseXe (s : State) (src unit slot : Nat) (i : Info) : State :=
  let i := { i with unit := some unit }
  let s := raiseWith (recordXe s src unit slot) src i
  if src = Src.engineParity then countFail s (16 + unit) Src.engineRepeated i (fun s => recordXe s Src.engineRepeated unit slot) else s

/-- A sluice source asserts (R442), with the sluice it concerns when one does. -/
def raiseSlu (s : State) (l : Nat) (slu : Option Nat) : State :=
  let s := record s Reg.SLU_ERR 31 30 (fun s =>
    s.setReg Reg.SLU_ERR (BitVec.ofNat 32 (l * 2 ^ 16 + b2n slu.isSome * 2 ^ 8 + slu.getD 0 % 256)))
  raise s (1488 + l)

/-- A channel source asserts (R419); DMC_ERRADDR records the channel offset of one that has one. -/
def raiseChan (s : State) (c l : Nat) (off : Option Nat) (i : Info) : State :=
  let s := match off with
    | .none => s
    | some o => record s (Reg.DMC_ERRADDR_HI c) 31 30 (fun s =>
      (s.setReg (Reg.DMC_ERRADDR_LO c) (BitVec.ofNat 32 (o % 2 ^ 32 / 64 * 64 + l))).setReg
        (Reg.DMC_ERRADDR_HI c) (BitVec.ofNat 32 (o / 2 ^ 32 % 256)))
  raiseWith s (Src.chan c l) i

end Sys2Proof.Machine
end

