-- ==== Sys2Proof/Machine/Guard.lean ====
section
/-! DEFINITION. The guards of the register interface (spec/02): which path may reach what (R49 to R51, R62), the key
guard (R58 to R61), the complement-pair sequence (R53 to R57), and the effect of a plain write by field types (R10). -/

namespace Sys2Proof.Machine

/-- The code of a path in GRD_STAT.PATH (R107): 0 to 15 the host ports, 16 sideband, 17 firmware, 18 the owner's program. -/
def pathCode : Path → Nat
  | .host p => p.val
  | .sideband => 16
  | .core _ false => 17
  | .core _ true => 18

/-- The path as the master of a register access in a capture entry (R574 to R577). -/
def pathInfo (p : Path) (write : Bool) (off : Nat) : Info :=
  let i : Info := { atype := if write then 8 else 7, akind := 4, addr := off }
  match p with
  | .host h => { i with mkind := 1, mid := 16 * h.val }
  | .sideband => { i with mkind := 5 }
  | .core n false => { i with mkind := 3, mid := n.val }
  | .core n true => { i with mkind := 4, mid := n.val }

/-! ### Offsets -/

def inBlock (off lo hi : Nat) : Bool := decide (lo ≤ off ∧ off < hi)

/-- Offsets 0xF000 to 0xFFFF of any DMC block reach the registers common to all of them (spec/11, spec/15). -/
def canonOff (off : Nat) : Nat :=
  if inBlock off 0x1800000 0x1980000 && decide (0xF000 ≤ off % 0x10000) then 0x1800000 + off % 0x10000 else off

def isGp (off : Nat) : Bool :=
  match regDesc off with
  | some d => decide (d.guard = .gp)
  | .none => false

def isGk (off : Nat) : Bool :=
  match regDesc off with
  | some d => decide (d.guard = .gk)
  | .none => false

/-- The _V offset of a GP register's address. -/
def gpBase (off : Nat) : Nat :=
  match regDesc off with
  | some d => d.base
  | .none => off

/-- The indirect window of an offset in the IDX block. The unassigned word at + 0xC of a window counts as part of it, so that an
access to it from another path is refused (R62), and a write of a reserved range from a port without write access is refused
(R49), though R42 lets accesses to such offsets raise nothing: which rule goes first the spec does not say (DESIGN CHOICE, log
entry 199). -/
def windowOf (off : Nat) : Option Nat :=
  if inBlock off 0x3F00000 0x3F00040 then some ((off - 0x3F00000) / 16) else .none

/-- The window that a path owns (R62): IDX0 host, IDX1 sideband, IDX2 firmware, IDX3 the owner's program. -/
def ownWindow : Path → Nat
  | .host _ => 0
  | .sideband => 1
  | .core _ false => 2
  | .core _ true => 3

/-! ### Traps (R158, R159) -/

/-- A trap: with INTRAP set it stops the core and raises "double trap". -/
def takeTrap (s : State) (n cause : Nat) (epc tval : DWord) : State :=
  let c := s.core n
  if bit c.status 2 then raise (s.setCore n { c with halted := true }) (Src.core n 0)
  else s.setCore n { c with
    epc := epc, cause := BitVec.ofNat 64 cause, tval := tval
    status := BitVec.ofNat 64 (5 + 2 * fld c.status 0 0), pc := setFld c.tvec 1 0 0 }

/-- The instruction of a core ends in a trap (R158). -/
def coreTrap (s : State) (n cause : Nat) (tval : Nat) : State :=
  let c := s.core n
  let s := s.setCore n { c with wait := .none }
  tick (takeTrap s n cause c.pc (BitVec.ofNat 64 tval)) (bCore n) 4 1

/-! ### Refusal (R49 to R51, R62, R589) -/

def isOwner : Path → Bool
  | .core _ o => o
  | _ => false

/-- The owner's program may not reach GRD, KEYS, SEC or SLOT, nor any GP register (R50). -/
def ownerBarred (off : Nat) : Bool :=
  inBlock off 0x200000 0x400000 || inBlock off 0x1400000 0x1800000 || inBlock off 0x3400000 0x3C00000 || isGp off

/-- A window access from a path that does not own the window (R62). -/
def windowBarred (p : Path) (off : Nat) : Bool :=
  match windowOf off with
  | some n => decide (n ≠ ownWindow p)
  | .none => false

/-- A host port without write access (R49). -/
def hostBarred (s : State) (p : Path) : Bool :=
  match p with
  | .host n => !s.bit Reg.GEN_HOSTACC n.val
  | _ => false

/-- A refused read. -/
def readRefused (s : State) (p : Path) (off : Nat) : Bool :=
  (isOwner p && ownerBarred off) || windowBarred p off ||
    (hostBarred s p && (inBlock off 0x1400000 0x1800000 || inBlock off 0x3400000 0x3800000))

/-- A refused write. The owner's program may not write FLT_CLASSn or FLT_CTL (R589). -/
def writeRefused (s : State) (p : Path) (off : Nat) : Bool :=
  (isOwner p && (ownerBarred off || inBlock off 0x2C00400 0x2C00700 || decide (off = Reg.FLT_CTL))) ||
    windowBarred p off || hostBarred s p

/-- "Register access refused" (R51); a core whose access is refused takes the trap of cause 5 (R158). -/
def refuse (s : State) (p : Path) (write : Bool) (off : Nat) : State :=
  let s := raiseWith s Src.accessRefused (pathInfo p write off)
  match p with
  | .core n _ => coreTrap s n.val 5 off
  | _ => s

/-! ### Guard failures (R56, R61) -/

/-- GRD_STAT and GRD_FAILOFF record a failure, or MORE. -/
def guardRecord (s : State) (cause path off : Nat) : State :=
  if s.bit Reg.GRD_STAT 31 then s.hwBit Reg.GRD_STAT 22
  else ((s.setReg Reg.GRD_STAT (BitVec.ofNat 32 (cause * 2 ^ 28 + path * 2 ^ 23 +
      b2n (s.bit Reg.GRD_STAT 22) * 2 ^ 22))).hwBit Reg.GRD_STAT 31).setReg Reg.GRD_FAILOFF (BitVec.ofNat 32 (off / 4))

/-- A failed GP sequence (R56). -/
def gpFail (s : State) (cause : Nat) (p : Path) (off : Nat) : State :=
  raiseWith (guardRecord s cause (pathCode p) off) Src.guardFailed (pathInfo p true off)

def closeGp (s : State) : State := { s with acc := { s.acc with gp := .none } }

/-- An open sequence whose window has passed closes in clock 65 as a CAUSE 2 failure (R54). -/
def gpSettle (s : State) : State :=
  match s.acc.gp with
  | some g => if g.clock + 65 ≤ s.clock then gpFail (closeGp s) 2 g.path g.off else s
  | .none => s

/-- A guarded write that is not the completing _C write aborts the open sequence (R55): CAUSE 3. -/
def gpAbort (s : State) : State :=
  match s.acc.gp with
  | some g => gpFail (closeGp s) 3 g.path g.off
  | .none => s

/-- A write to a _V address (R53, R55): it aborts an open sequence and opens its own. -/
def gpOpen (s : State) (p : Path) (off : Nat) (v : Word) : State :=
  let s := gpAbort (gpSettle s)
  { s with acc := { s.acc with gp := some { path := p, off := off, val := v, clock := s.clock } } }

/-- A write to a _C address (R55, R56). `eff` is what the register's new value does when the sequence completes. -/
def gpClose (s : State) (p : Path) (off : Nat) (v : Word) (eff : Word → State → State) : State :=
  let s := gpSettle s
  match s.acc.gp with
  | .none => gpFail s 4 p off
  | some g =>
    if g.path = p ∧ g.off + 4 = off then
      if v = ~~~ g.val then eff g.val (closeGp s) else gpFail (closeGp s) 1 p g.off
    else gpFail (gpAbort s) 4 p off

/-! ### The key guard (R58 to R61) -/

/-- The clock in which a path's key was armed. -/
def keyClock : List (Path × Nat) → Path → Option Nat
  | [], _ => .none
  | (q, c) :: r, p => if p = q then some c else keyClock r p

def dropKey : List (Path × Nat) → Path → List (Path × Nat)
  | [], _ => []
  | (q, c) :: r, p => if p = q then dropKey r p else (q, c) :: dropKey r p

/-- A path's key is armed: it was armed at most 65,536 core clocks ago (R60, R13) and nothing has consumed it. -/
def keyArmed (s : State) (p : Path) : Bool :=
  match keyClock s.acc.keys p with
  | some c => decide (s.clock ≤ c + 65536)
  | .none => false

def disarm (s : State) (p : Path) : State := { s with acc := { s.acc with keys := dropKey s.acc.keys p } }

/-- The value of GRD_KEY that arms a key (R58). -/
def keyValue : Word := 0x6C3D91A7#32

/-- A write to GRD_KEY (R58): it aborts an open sequence (R55) and arms or disarms the path's key. -/
def keyWrite (s : State) (p : Path) (v : Word) : State :=
  let s := disarm (gpAbort (gpSettle s)) p
  if v = keyValue then { s with acc := { s.acc with keys := s.acc.keys ++ [(p, s.clock)] } } else s

/-- A write to a GK register (R59, R61): with the path's key armed it takes effect and consumes the key; otherwise it
is ignored, recorded with CAUSE 5 and raised. -/
def gkWrite (s : State) (p : Path) (off : Nat) (eff : State → State) : State :=
  let s := gpAbort (gpSettle s)
  if keyArmed s p then eff (disarm s p)
  else raiseWith (guardRecord s 5 (pathCode p) off) Src.keyGuardRefused (pathInfo p true off)

/-! ### Fields that both software and hardware update (R47) -/

/-- Registers with a field that software writes and hardware updates of itself. -/
def hwUpdated : List Nat := [Reg.CRY_UNITEN, Reg.CRY_XEEN, Reg.CRY_TEST, Reg.DMC_CTL 0, Reg.DMC_MARK 0 0, Reg.CNV_CTL 0,
  Reg.TIDE_AT_LO, Reg.TIDE_AT_HI]

/-- A write by software of such a register takes its fields for the rest of the clock. -/
def takeWrite (s : State) (off : Nat) : State :=
  match regDesc off with
  | some d => if hwUpdated.contains d.base then s.noteWrite off d.rw else s
  | .none => s

/-! ### A register's own guard, around an effect -/

/-- A write of a register that is not refused takes its effect; a GK register's write passes the key guard. A device held in
reset takes none. -/
def guardedWrite (s : State) (p : Path) (off : Nat) (eff : State → State) : State :=
  if s.inReset then s
  else if writeRefused s p off then refuse s p true off
  else if isGk off then gkWrite s p off eff
  else eff s

/-! ### The effect of a write by field types (R10) -/

/-- The value that a write leaves: RW and guarded fields take the value written, W1C bits written 1 clear, W1S bits
written 1 are set, RO and RSV bits stay. -/
def typedValue (d : RegDesc) (old v : Word) : Word :=
  let keep := old &&& ~~~ BitVec.ofNat 32 d.rw
  let kept := keep &&& ~~~ (v &&& BitVec.ofNat 32 d.w1c)
  kept ||| (v &&& BitVec.ofNat 32 d.rw) ||| (v &&& BitVec.ofNat 32 d.w1s)

end Sys2Proof.Machine
end

