-- ==== Sys2Proof/Machine/ModeOps.lean ====
section
/-! DEFINITION. The mode machine (spec/03): transitions, the TRIM and SAFE reactions, the conditions of R72, the hold
limit. GEN_MODE.CODE changes at the end of a transition, and CHANGING is 1 until then (DEDUCED, log entry 5). -/

namespace Sys2Proof.Machine

/-- Numbers of units in the list of isolated units: bifurcated ports, channels, links, slots, cores, crystallizers
(GC 0 to 7, HC 8 to 11) and crypto engines. -/
def uPort (p : Nat) : Nat := p
def uChan (c : Nat) : Nat := 100 + c
def uLink (l : Nat) : Nat := 200 + l
def uSlot (n : Nat) : Nat := 300 + n
def uCore (n : Nat) : Nat := 400 + n
def uCry (u : Nat) : Nat := 500 + u
def uXe (u : Nat) : Nat := 520 + u

def isolated (s : State) (u : Nat) : Bool := s.flt.isolated.any (fun e => e.1 = u)

/-- A unit leaves the list of isolated units when it is enabled again with the isolating sticky bit cleared (R567). -/
def canEnable (s : State) (u : Nat) : Bool := s.flt.isolated.all (fun e => decide (e.1 ≠ u) || !sticky s e.2)

def unisolate (s : State) (u : Nat) : State :=
  { s with flt := { s.flt with isolated := s.flt.isolated.filter (fun e => decide (e.1 ≠ u)) } }

/-! ### The life-cycle state and the modes it allows (R607) -/

def lcState (s : State) : Nat := s.fld Reg.SEC_STATE 31 29

def lcAllows (s : State) (m : Nat) : Bool :=
  let l := lcState s
  if l = 0 ∨ l = 5 then decide (m = Mode.boot ∨ m = Mode.rise ∨ m = Mode.test ∨ m = Mode.safe)
  else if l = 3 then decide (m ≠ Mode.test)
  else true

/-! ### Enabled functions (R72, R81) -/

/-- Every enabled function is READY or isolated. A function that firmware has not enabled does not count. -/
def enabledReady (s : State) : Bool :=
  (List.range 24).all (fun c => !s.bit (Reg.DMC_CTL c) 0 || readyChan s c || isolated s (uChan c)) &&
  (List.range 48).all (fun n => !(s.slotOf n).en || readySlot s n || isolated s (uSlot n)) &&
  (List.range 32).all (fun l => !s.bit (Reg.CNV_CTL l) 0 || readyLink s l || isolated s (uLink l)) &&
  (List.range 8).all (fun g => !s.bit Reg.CRY_UNITEN g || readyGc s g) &&
  (List.range 4).all (fun g => !s.bit Reg.CRY_UNITEN (8 + g) || readyHc s g) &&
  (List.range 8).all (fun g => !s.bit Reg.CRY_XEEN g || readyXe s g) &&
  (List.range 4).all (fun g => readyHa s g) &&
  (List.range 3).all (fun g => readyD2d s g) &&
  (List.range 16).all (fun n => readyCore s n || isolated s (uCore n)) &&
  (List.range 64).all (fun p => !(s.subp p).perst || decide (subCount s (p / 4) ≤ p % 4) || readySub s p ||
    isolated s (uPort p)) &&
  readyTmu s && readySec s && readyHk s && readyTide s && (!s.bit Reg.POOL_CFG 0 || readyPool s)

/-- The condition "no TRIM-class sticky bit is set and no unit is isolated" of R72. -/
def clearForRun (s : State) : Bool := !stickyOfClass s 4 && decide (s.flt.isolated = [])

/-- Every DCDEXT extent of the extent check is FREE (R72). -/
def extentsFree (s : State) : Bool := s.port.ext.all (fun e => decide (e.2.state = 0))

/-! ### Entering a mode -/

/-- A host request that waits is answered with poison, or completed without storing (R70 for SAFE, R716). -/
def poisonAnswer (s : State) (r : Req) : State :=
  match r.origin with
  | .host ld tag =>
    match r.kind with
    | .memWr => s.emit (.memDone ld tag 2)
    | .memWrPtl => s.emit (.memDone ld tag 2)
    | .memInv => s.emit (.memDone ld tag 2)
    | .memInvNT => s.emit (.memDone ld tag 2)
    | .memClnEvct => s.emit (.memDone ld tag 2)
    | _ => s.emit (.memData ld tag 0 true 2)
  | _ => s

def poisonAnswers (s : State) : List Req → State
  | [] => s
  | r :: rs => poisonAnswers (poisonAnswer s r) rs

/-- The same for a request held as it came in HOLD. -/
def poisonHeld (s : State) : List Instr → State
  | [] => s
  | i :: r =>
    let s := match i with
      | .memRd ld tag _ _ => s.emit (.memData ld tag 0 true 2)
      | .memRdData ld tag _ => s.emit (.memData ld tag 0 true 2)
      | .memInv ld tag _ => s.emit (.memDone ld tag 2)
      | .memInvNt ld tag _ => s.emit (.memDone ld tag 2)
      | .memClnEvct ld tag _ => s.emit (.memDone ld tag 2)
      | .memWr ld tag _ _ _ => s.emit (.memDone ld tag 2)
      | .memWrPtl ld tag _ _ _ _ => s.emit (.memDone ld tag 2)
      | _ => s
    poisonHeld s r

def isHostReq (r : Req) : Bool :=
  match r.origin with
  | .host _ _ => true
  | _ => false

/-- Requests of hosts that wait at ingress are answered with poison; those of peers are marked, and are answered so when their turn
comes (R70, R716). -/
def poisonWaiting (s : State) : State :=
  let held := s.coh.ingress.filter isHostReq
  let s := { s with coh := { s.coh with
    ingress := (s.coh.ingress.filter (fun r => !isHostReq r)).map (fun r => { r with turnedAway := true }) } }
  let s := poisonAnswers s held
  let wait := s.port.held
  poisonHeld { s with port := { s.port with held := [] } } wait

/-- On entering SAFE: held requests are answered with poison, the rake stops with ABORT (R549), SAFECAP clears (R575), and an
online Activate FW that waited for HOLD ends. -/
def enterSafe (s : State) : State :=
  let s := poisonWaiting s
  let s := if s.bit Reg.RAKE_STAT 31 then (s.setBit Reg.RAKE_STAT 31 false).setBit Reg.RAKE_STAT 30 true else s
  let s := s.setBit Reg.GEN_MODEX 8 false
  let s := if s.sec.activate = 1 then { s with sec := { s.sec with activate := 0 }, port := { s.port with bg := .none } } else s
  { s with mode := { s.mode with safecapEnd := .none, holdFrom := .none, limitOwed := false } }

/-- The device is in another mode (R71, R139, R575, R587). -/
def setCode (s : State) (new : Nat) : State :=
  let old := s.code
  if new = old then s
  else
    let s := s.setF Reg.GEN_MODE 6 4 old
    let s := s.setF Reg.GEN_MODE 2 0 new
    let s := latchAll s 2
    let s := if new = Mode.hold ∨ old = Mode.hold then latchAll s 9 else s
    let s := if old = Mode.safe then
      let s := s.setBit Reg.GEN_MODEX 8 true
      { s with mode := { s.mode with safecapEnd := some (s.clock + 10 * secClocks) } } else s
    let s := if new = Mode.safe then enterSafe s else s
    raise s Src.modeChanged

/-- The time that a transition takes at most, in core clocks (spec/03, the table after R79). -/
def transClocks (old goal kind : Nat) : Nat :=
  if kind = 1 then 52500 else if kind = 2 then 5000 else if old = Mode.safe ∧ goal = Mode.rise then 250 else 8

/-- A transition starts (R72, R73): CHANGING is 1, and REQRES is 1 when a request began it. -/
def beginTrans (s : State) (goal kind : Nat) (req : Bool) : State :=
  let s := s.setBit Reg.GEN_MODE 8 true
  let s := if req then s.setF Reg.GEN_MODE 14 12 1 else s
  { s with mode := { s.mode with
      trans := some { goal := goal, req := req, kind := kind, ends := s.clock + transClocks s.code goal kind, since := s.clock } } }

/-- A transition that a fault reaction starts (R74). -/
def beginReact (s : State) (goal : Nat) : State :=
  let s := beginTrans s goal 0 false
  { s with mode := { s.mode with trans := s.mode.trans.map (fun t => { t with react := true }) } }

/-- A TRIM-class reaction (R72, R717): RUN goes to TRIM; DRAIN and HOLD note it in DEGR; during a transition it waits for
its end; elsewhere it is recorded only. -/
def trimJudge (s : State) : State :=
  if s.mode.trans.isSome then { s with mode := { s.mode with trimOwed := true } }
  else if s.code = Mode.run then beginReact s Mode.trim
  else if s.code = Mode.drain ∨ s.code = Mode.hold then s.hwBit Reg.GEN_MODEX 7
  else s

/-- A transition ends (R73, R717): the code changes, REQRES reads 2 for a request, a deferred TRIM-class reaction is
judged against the mode reached. When a later request was refused while the transition ran, REQRES still becomes 2 at its end: which
of the two results stands the spec does not say (DESIGN CHOICE, log entry 203). -/
def endTrans (s : State) (t : Trans) : State :=
  let s := { s with mode := { s.mode with trans := .none, asked := .none } }
  let s := s.setBit Reg.GEN_MODE 8 false
  let s := if t.req then s.setF Reg.GEN_MODE 14 12 2 else s
  let s := setCode s t.goal
  if s.mode.trimOwed then trimJudge { s with mode := { s.mode with trimOwed := false } } else s

/-- A channel enters or leaves self-refresh; DMC_STAT.STATE shows 3 or 2. -/
def selfRefresh (s : State) (c : Nat) (on : Bool) : State :=
  if readyChan s c then
    let s := s.setChan c { s.chan c with selfRef := on }
    s.setF (Reg.DMC_STAT c) 31 29 (if on || decide ((s.chan c).warn ≠ []) then 3 else 2)
  else s

def selfRefreshAll (s : State) (on : Bool) : List Nat → State
  | [] => s
  | c :: r => selfRefreshAll (selfRefresh s c on) on r

/-- The viral bit of each HPn that signals it (R230). -/
def viralOut (s : State) : List Nat → State
  | [] => s
  | n :: r => viralOut (if s.bit (Reg.HPX_ERRCTL n) 2 then s.setBit (Reg.HPX_ERRCTL n) 1 true else s) r

/-- A SAFE-class reaction, or an entry into SAFE by a unit's own rule (R72, R570, R716). A transition in progress ends at
once; channels that it put into self-refresh leave it, unless a HOLD step runs (R77). -/
def safeJudge (s : State) : State :=
  let s := viralOut s (List.range 16)
  let s := if s.code = Mode.boot ∧ s.mode.imageCheck then { s with mode := { s.mode with bootSafe := true } } else s
  match s.mode.trans with
  | some t =>
    if t.goal = Mode.safe then s
    else
      let s := { s with mode := { s.mode with trans := .none, trimOwed := false, holdFrom := .none } }
      let s := if t.kind ≠ 0 ∧ s.mode.step = .none then selfRefreshAll s false (List.range 24) else s
      let s := s.setBit Reg.GEN_MODE 8 false
      let s := if t.req then s.setF Reg.GEN_MODE 14 12 4 else s
      if s.code = Mode.safe then s else beginReact (poisonWaiting s) Mode.safe
  | .none =>
    if s.code = Mode.safe then s
    else
      let s := if s.code = Mode.hold ∧ s.mode.step = .none then selfRefreshAll s false (List.range 24) else s
      beginReact (poisonWaiting s) Mode.safe

/-! ### Mode requests (R72 to R78) -/

def reqResult (s : State) (r : Nat) : State := s.setF Reg.GEN_MODE 14 12 r

/-- The mode that DRAIN, or HOLD left by a request RUN, goes to: RUN under its condition, else TRIM (R72). -/
def runOrTrim (s : State) : Nat :=
  if !s.bit Reg.GEN_MODEX 7 && clearForRun s then Mode.run else Mode.trim

def requestRun (s : State) : State :=
  let m := s.code
  if m = Mode.rise then
    if enabledReady s then
      if clearForRun s then beginTrans s Mode.run 0 true else beginTrans s Mode.trim 0 true
    else reqResult s 4
  else if m = Mode.trim then
    if enabledReady s && clearForRun s then beginTrans s Mode.run 0 true else reqResult s 4
  else if m = Mode.drain then beginTrans s (runOrTrim s) 0 true
  else if m = Mode.hold then
    beginTrans s (if s.fld Reg.GEN_MODEX 6 4 = Mode.drain then Mode.drain else runOrTrim s) 2 true
  else reqResult s 3

def requestDrain (s : State) : State :=
  let m := s.code
  if m = Mode.run ∨ m = Mode.trim then beginTrans (s.setF Reg.GEN_MODEX 6 4 m) Mode.drain 0 true
  else if m = Mode.hold then beginTrans s Mode.drain 2 true
  else reqResult s 3

def requestHold (s : State) : State :=
  let m := s.code
  if m = Mode.run ∨ m = Mode.trim ∨ m = Mode.drain then
    let s := s.setF Reg.GEN_MODEX 6 4 m
    let s := { s with mode := { s.mode with holdFrom := some s.clock, limitOwed := false } }
    beginTrans s Mode.hold 1 true
  else reqResult s 3

def requestTest (s : State) : State :=
  let m := s.code
  if m = Mode.rise ∨ m = Mode.run ∨ m = Mode.trim then
    if extentsFree s && decide (s.fld Reg.POOL_STAT 31 29 = 0) then beginTrans s Mode.test 0 true else reqResult s 4
  else reqResult s 3

def requestRise (s : State) : State :=
  if s.code = Mode.safe then
    if !stickyOfClass s 5 && readySec s then beginTrans s Mode.rise 0 true else reqResult s 4
  else reqResult s 3

/-- A request of a mode, outside TEST (R72, R73, R607): a mode that the life-cycle state excludes is refused as illegal, and so is
a request during a transition. -/
def judge (s : State) (target : Nat) : State :=
  if s.changing then reqResult s 3
  else if !lcAllows s target then reqResult s 3
  else
    match target with
    | 1 => requestRise s
    | 2 => requestRun s
    | 4 => requestDrain s
    | 5 => requestHold s
    | 6 => requestTest s
    | _ => reqResult s 3

/-- A fault reaction of the present clock is taken before a request of the same clock (R74): its transition has ended. -/
def reactionDone (s : State) : State :=
  match s.mode.trans with
  | some t => if t.react && decide (t.since = s.clock) then endTrans s t else s
  | .none => s

/-- A request is judged, and noted with what it found, so that a fault reaction of the same clock can still go first (R74). -/
def ask (s : State) (target : Nat) : State :=
  let s := reactionDone s
  let a : Asked := { clock := s.clock, target := target, mode := s.reg Reg.GEN_MODE, modex := s.reg Reg.GEN_MODEX
                     trans := s.mode.trans, holdFrom := s.mode.holdFrom, limitOwed := s.mode.limitOwed, after := .none }
  let s := judge s target
  { s with mode := { s.mode with asked := some { a with after := s.mode.trans } } }

/-- A fault reaction `f` on the mode: a request of the same clock that came before it is judged again after it (R74). -/
def reactFirst (s : State) (f : State → State) : State :=
  match s.mode.asked with
  | some a =>
    if a.clock = s.clock ∧ s.mode.trans = a.after then
      let s := { s with mode := { s.mode with
        trans := a.trans, holdFrom := a.holdFrom, limitOwed := a.limitOwed, asked := .none } }
      judge (reactionDone (f ((s.setReg Reg.GEN_MODE a.mode).setReg Reg.GEN_MODEX a.modex))) a.target
    else f s
  | .none => f s

def trimReact (s : State) : State := reactFirst s trimJudge
def safeReact (s : State) : State := reactFirst s safeJudge

/-- The hold limit in core clocks (R80). -/
def holdLimit (s : State) : Nat := s.fld Reg.GEN_HOLDLIM 15 0 * usClocks

/-- The hold limit takes effect: the device leaves HOLD as for a request RUN, with the event "hold limit" (R72). -/
def holdExpire (s : State) : State :=
  let s := { s with mode := { s.mode with limitOwed := false } }
  raise (beginTrans s (if s.fld Reg.GEN_MODEX 6 4 = Mode.drain then Mode.drain else runOrTrim s) 2 false) Src.holdLimit

end Sys2Proof.Machine
end

