-- ==== Sys2Proof/Machine/SluiceOps.lean ====
section
/-! DEFINITION. Interleave sets as ILSET describes them (spec/11), and the sluices (spec/12): budgets, colours, charges and
the deliverable bandwidth. -/

namespace Sys2Proof.Machine

/-! ### ILSET (R386) -/

def setMask (s : State) (n : Nat) : Nat := s.act 4 (32 * n) 3
def setCtl (s : State) (n : Nat) : Nat := s.act 4 (32 * n + 3) 1
def setV (s : State) (n : Nat) : Bool := (setCtl s n).testBit 7
def setPar (s : State) (n : Nat) : Bool := (setCtl s n).testBit 4
def setGrain (s : State) (n : Nat) : Nat := setCtl s n % 16 + 8
def mapBase (s : State) (n : Nat) : Nat := nfld (s.act 4 (32 * n + 8) 8) 33 0
def mapPages (s : State) (n : Nat) : Nat := nfld (s.act 4 (32 * n + 16) 8) 34 0

/-- The housekeeping pause (R658): the first P clocks of each run of 64 that begins where TIDE_NOW mod 16 = 0. -/
def paused (s : State) : Bool := decide (s.tide % 16 * 4 + s.tideU.phase < s.fld Reg.SLU_DELIV 21 16)

/-- The channels of a set, ascending. -/
def setChans (s : State) (n : Nat) : List Nat := bitsOf 24 0 (setMask s n)

/-- The set that a channel belongs to in the active ILSET. -/
def setOfChan (s : State) (c : Nat) : Option Nat :=
  (List.range 24).find? (fun n => setV s n && (setMask s n).testBit c)

/-- GEN_SETSRV and TIER_SETOFF (R97, R278). -/
def setServable (s : State) (n : Nat) : Bool := setV s n && s.bit Reg.GEN_SETSRV n && !s.bit Reg.TIER_SETOFF n
def setOff (s : State) (n : Nat) : Bool := s.bit Reg.TIER_SETOFF n

/-- A channel that takes no part in a parity set's redundancy: not READY, or not rebuilt since it came back. -/
def chanAbsent (s : State) (c : Nat) : Bool := !readyChan s c || (s.chan c).rebuild.isSome

/-- A burst that its channel cannot give: the channel is not READY, or its rebuild has not reached the burst (R411, R413). Keys of bursts
stand for 64 B of a channel, 2^34 keys each. -/
def burstAbsent (s : State) (k : Nat) : Bool :=
  !readyChan s (k / 2 ^ 34) || (match (s.chan (k / 2 ^ 34)).rebuild with | some f => decide (f ≤ k % 2 ^ 34) | .none => false)

/-- The channel of a parity set that is absent. -/
def absentIn (s : State) (n : Nat) : List Nat := (setChans s n).filter (chanAbsent s)

/-! ### Sluice selection (R420) and budgets (R423) -/

def tagSluice (s : State) (tag : Nat) : Nat := s.act 5 (tag % 4096) 1

/-- The sluice of a request with a task tag and a DPA. -/
def rangeSluice (s : State) (page : Nat) : Option Nat :=
  ((List.range 64).find? (fun i => (s.act 5 (4096 + 16 * i + 13) 1).testBit 0 &&
      decide (nfld (s.act 5 (4096 + 16 * i) 6) 33 0 ≤ page ∧ page ≤ nfld (s.act 5 (4096 + 16 * i + 6) 6) 33 0))).map
    (fun i => s.act 5 (4096 + 16 * i + 12) 1)

def sluiceOf (s : State) (tag dpa : Nat) : Nat := (rangeSluice s (dpa / 4096 % 2 ^ 34)).getD (tagSluice s tag)

def wlog (s : State) : Nat := s.fld Reg.SLU_CTL 3 0
def guar (s : State) (x : Nat) : Nat := s.act 5 (5120 + 12 * x) 2
def cap (s : State) (x : Nat) : Nat := s.act 5 (5120 + 12 * x + 2) 2
def guaranteed (s : State) (x : Nat) : Bool := (s.act 5 (5120 + 12 * x + 4) 1).testBit 0
def internal (x : Nat) : Bool := decide (252 ≤ x ∧ x ≤ 254)

/-- Lines of a rate in credits over a window. -/
def budget (s : State) (credits : Nat) : Nat := credits * 2 ^ (wlog s - 10)

/-- B: the sum of GUAR of entries with G = 1, in a copy of the tables. -/
def booked (m : SMap Byte) : Nat :=
  (List.range 256).foldl (fun a x =>
    if (tabNat m 5 (5120 + 12 * x + 4) 1).testBit 0 then a + tabNat m 5 (5120 + 12 * x) 2 else a) 0

/-- The effective guarantee of a sluice in lines per window. -/
def effGuar (s : State) (x : Nat) : Nat := budget s (guar s x * s.fld Reg.SLU_SCALE 8 0 / 256)

def throttled (s : State) (x : Nat) : Bool := s.slu.throttles.any (fun t => t.sluice = x)

def used (s : State) (x : Nat) : Nat := smGet 0 s.slu.used x

/-- USED as it stood before the charges of this core clock (R426). -/
def seen (s : State) (x : Nat) : Nat := smGet 0 s.slu.seen x

/-- The best-effort floor F, from the D in force. -/
def beFloor (s : State) : Nat := s.fld Reg.SLU_DELIV 15 0 * s.fld Reg.SLU_CTL 23 16 / 256

inductive Colour where
  | green | amber | red
  deriving DecidableEq, Repr

/-- The colour of a request that finds `u` lines of its sluice, and `amber` amber lines, charged in the window (R426, R422, R427). -/
def colourAt (s : State) (host : Bool) (x u amber : Nat) : Colour :=
  if internal x then .amber
  else
    let green := guaranteed s x && !throttled s x && decide (u < effGuar s x)
    if host && ((decide (cap s x ≠ 0) && decide (budget s (cap s x) ≤ u)) ||
        (throttled s x && decide (budget s (s.fld Reg.SLU_CTL2 15 0) ≤ u))) then .red
    else if green then .green
    else if host && s.bit Reg.SLU_SCALE 30 && decide (beFloor s ≤ amber) then .red
    else .amber

/-- The colour of a request judged in this clock: against the counts before the clock's charges (R426). -/
def colour (s : State) (host : Bool) (x : Nat) : Colour := colourAt s host x (seen s x) s.slu.seenAmber

/-- DevLoad of a response (R441): 0 Light, 1 Optimal, 2 Moderate Overload, 3 Severe Overload. -/
def devLoad (s : State) (c : Colour) (x : Nat) (waitedRed waitedUrgr : Bool) : Nat :=
  if waitedRed || throttled s x then 3
  else if waitedUrgr then 2
  else match c with
    | .green => if 2 * seen s x < effGuar s x then 0 else 1
    | _ => 2

/-- The charge of an admitted request (R421, R437); lines beyond a cap raise "cap exceeded by unheld traffic" (R427). -/
def charge (s : State) (host : Bool) (x lines : Nat) (c : Colour) : State :=
  let u := used s x
  let s := { s with slu := { s.slu with
      used := smSet 0 s.slu.used x (satAdd 0xFFFFFF u lines)
      amber := if c = .amber ∧ !internal x then s.slu.amber + lines else s.slu.amber } }
  if !host && !internal x && decide (cap s x ≠ 0) && decide (budget s (cap s x) < u + lines) then raiseSlu s 4 (some x) else s

/-! ### Deliverable bandwidth (R432) -/

/-- The rate of a timing set in MT/s. -/
def rateOf (code : Nat) : Nat :=
  match code with
  | 0 => 4800
  | 1 => 5600
  | 2 => 6400
  | 3 => 8800
  | _ => 0

/-- h of a channel, times 640 (R432). A channel of a parity set stays lost until its rebuild has ended (R681; DEDUCED for one
that waits for its rebuild, log entry 221). -/
def hOf (s : State) (c : Nat) : Nat :=
  match setOfChan s c with
  | .none => 0
  | some n =>
    if !setServable s n || chanAbsent s c then 0
    else
      let base := if setPar s n then (if (setChans s n).any (chanAbsent s) then 128 else 256) else 640
      let busy := decide ((smGet {} s.wipe.sets n).phase = 3 ∨ (smGet {} s.wipe.sets n).phase = 4) ||
        (setChans s n).any (fun d => s.bit (Reg.DMC_PARREB d) 30)
      let base := if busy then base * 7 / 8 else base
      if s.bit (Reg.DMC_REF c) 1 then base * 15 / 16 else base

/-- A quadrant's share, in MB/s times 256 × 640, capped by its engines. -/
def quadBandwidth (s : State) (eff q : Nat) : Nat :=
  let sum := (List.range 6).foldl (fun a k =>
    a + rateOf (smGet 0 s.slu.rates (6 * q + k)) * 8 * eff * hOf s (6 * q + k)) 0
  let gc := b2n (readyGc s (2 * q)) + b2n (readyGc s (2 * q + 1))
  let xe := b2n (readyXe s (2 * q)) + b2n (readyXe s (2 * q + 1))
  min sum (256000 * min gc xe * 256 * 640)

/-- D in credits, for an EFF. -/
def deliverable (s : State) (eff : Nat) : Nat :=
  ((List.range 4).foldl (fun a q => a + quadBandwidth s eff q) 0) * (64 - s.fld Reg.SLU_DELIV 21 16) * 16 /
    (64 * 625 * 256 * 640)

/-- The rates that D takes follow the channels; a change made in HOLD counts from the exit (R433). -/
def takeRates (s : State) : State :=
  { s with slu := { s.slu with
      rates := (List.range 24).foldl (fun m c => smSet 0 m c (s.fld (Reg.DMC_STAT c) 26 24)) s.slu.rates } }

/-- A new D is in force (R442, local 6). -/
def setDeliv (s : State) (d : Nat) : State :=
  let old := s.fld Reg.SLU_DELIV 15 0
  let warn := s.fld Reg.SLU_CTL2 31 16
  let s := s.setF Reg.SLU_DELIV 15 0 (min d 0xFFFF)
  if d < warn ∧ warn ≤ old then raiseSlu s 6 .none else s

end Sys2Proof.Machine
end

