-- ==== Sys2Proof/Machine/Symbol.lean ====
section
/-! DEFINITION. The DRAM symbol code (R534 to R536): a Reed-Solomon code of 20 symbols over GF(2^32), its check symbols,
its syndromes, and the decoder that takes each device in turn as erased. -/

namespace Sys2Proof.Machine

/-- Multiplication by α in GF(2^32) with x^32 = x^22 + x^2 + x + 1. -/
def gfX (a : Nat) : Nat := let b := 2 * a; if b < 2 ^ 32 then b else (b - 2 ^ 32) ^^^ 0x400007

def gfMulN : Nat → Nat → Nat → Nat
  | 0, _, _ => 0
  | n + 1, a, b => (if b % 2 = 1 then a else 0) ^^^ gfMulN n (gfX a) (b / 2)

def gfMul (a b : Nat) : Nat := gfMulN 32 a b

/-- a^(2^n − 1), for n ≥ 1 steps from a. -/
def gfPow2m1 (a : Nat) : Nat → Nat
  | 0 => 1
  | n + 1 => let p := gfPow2m1 a n; gfMul (gfMul p p) a

/-- The inverse a^(2^32 − 2) of a non-zero element. -/
def gfInv (a : Nat) : Nat := let p := gfPow2m1 a 31; gfMul p p

/-- α^n. -/
def gfAlpha : Nat → Nat
  | 0 => 1
  | n + 1 => gfX (gfAlpha n)

/-- The syndrome c(α^k) of symbols given with their positions. -/
def syndrome (k : Nat) : List (Nat × Nat) → Nat
  | [] => 0
  | (p, c) :: r => gfMul c (gfAlpha (k * p)) ^^^ syndrome k r

/-- The symbols of a device (R534): 2j and 2j + 1. -/
def devSymbols (j : Nat) : Nat × Nat := (2 * j, 2 * j + 1)

/-- The values that device `j`, erased, must add to meet the first two syndromes, when the third is met as well. -/
def devFix (s0 s1 s2 j : Nat) : Option (Nat × Nat) :=
  let (a, b) := devSymbols j
  let xa := gfAlpha a
  let xb := gfAlpha b
  let eb := gfMul (s1 ^^^ gfMul s0 xa) (gfInv (xa ^^^ xb))
  let ea := s0 ^^^ eb
  if gfMul ea (gfMul xa xa) ^^^ gfMul eb (gfMul xb xb) = s2 then some (ea, eb) else .none

/-- What the decoder finds (R535): clean; corrected, with the device and whether the burst check is then met; not
decided between devices; uncorrectable. -/
inductive Decoded where
  | clean (good : Bool)
  | fixed (dev : Nat) (good : Bool)
  | ambiguous
  | bad
  deriving DecidableEq, Repr

/-- An error vector without its zero entries. -/
def errNorm (e : List (Nat × Nat)) : List (Nat × Nat) := e.filter (fun x => decide (x.2 ≠ 0))

/-- The error is exactly what correcting device `j` by (ea, eb) takes away. -/
def residualZero (e : List (Nat × Nat)) (j ea eb : Nat) : Bool :=
  (errNorm e).all (fun x => decide ((x.1 = 2 * j ∧ x.2 = ea) ∨ (x.1 = 2 * j + 1 ∧ x.2 = eb)))

/-- The candidates of the decoder: devices that pass the remaining syndrome, with their corrections. -/
def candidates (s0 s1 s2 : Nat) : List Nat → List (Nat × Nat × Nat)
  | [] => []
  | j :: r =>
    match devFix s0 s1 s2 j with
    | some (ea, eb) => (j, ea, eb) :: candidates s0 s1 s2 r
    | .none => candidates s0 s1 s2 r

/-- The decoder on an error vector (the code is linear, so the syndromes are those of the error). With a marked device,
only that device is erased (R536). A correction that leaves a residue fails the burst check of R539 (fewer than 2^−64 of
them pass, and the model passes none). -/
def symbolDecode (mark : Option Nat) (e : List (Nat × Nat)) : Decoded :=
  let e := errNorm e
  let s0 := syndrome 0 e
  let s1 := syndrome 1 e
  let s2 := syndrome 2 e
  if s0 = 0 ∧ s1 = 0 ∧ s2 = 0 then .clean (decide (e = []))
  else
    match candidates s0 s1 s2 (match mark with | some j => [j] | .none => List.range 10) with
    | [] => .bad
    | [(j, ea, eb)] => .fixed j (residualZero e j ea eb)
    | cs =>
      match cs.filter (fun c => residualZero e c.1 c.2.1 c.2.2) with
      | [(j, _, _)] => .fixed j true
      | _ => .ambiguous

/-- The check symbols 16 to 18 of a burst (R534): given symbols 0 to 15 and 19, they make the three syndromes 0. -/
def checkSymbols (known : List (Nat × Nat)) : Nat × Nat × Nat :=
  let s0 := syndrome 0 known
  let s1 := syndrome 1 known
  let s2 := syndrome 2 known
  let a := gfAlpha 16
  let b := gfAlpha 17
  let c := gfAlpha 18
  -- Lagrange: the polynomial weights that isolate one of three evaluation points.
  let solve (x y z : Nat) : Nat :=
    gfMul (s2 ^^^ gfMul s1 (y ^^^ z) ^^^ gfMul s0 (gfMul y z)) (gfInv (gfMul (x ^^^ y) (x ^^^ z)))
  (solve a b c, solve b a c, solve c a b)

/-- Bit 4b + q of symbol 2j + h is DQ 4j + q in beat 8h + b; byte n of the burst travels in beat n div 4 on DQ
8 × (n mod 4) upward (R534). -/
def symbolBit (data : Nat) (j h i : Nat) : Nat :=
  let beat := 8 * h + i / 4
  let dq := 4 * j + i % 4
  if data.testBit (8 * (4 * beat + dq / 8) + dq % 8) then 1 else 0

def symbolFrom (data j h : Nat) : Nat → Nat
  | 0 => 0
  | n + 1 => symbolFrom data j h n + symbolBit data j h n * 2 ^ n

/-- The data symbols 0 to 15 of 64 B. -/
def dataSymbols (data : Nat) : List (Nat × Nat) :=
  (List.range 16).map (fun p => (p, symbolFrom data (p / 2) (p % 2) 32))

/-- The error at one symbol position, over a list that may name a position more than once. -/
def errAt (e : List (Nat × Nat)) (p : Nat) : Nat := e.foldl (fun a x => if x.1 = p then a ^^^ x.2 else a) 0

/-- An error vector with each position once. -/
def errMerge (e : List (Nat × Nat)) : List (Nat × Nat) := errNorm ((List.range 20).map (fun p => (p, errAt e p)))

/-- The devices that pass the decoder's test, with the values that correct their two symbols. -/
def deviceFixes (mark : Option Nat) (e : List (Nat × Nat)) : List (Nat × Nat × Nat) :=
  candidates (syndrome 0 e) (syndrome 1 e) (syndrome 2 e) (match mark with | some j => [j] | .none => List.range 10)

/-- 64 B with a value added to symbol 2j + h. -/
def xorSymbol (data j h v : Nat) : Nat → Nat
  | 0 => data
  | n + 1 =>
    let d := xorSymbol data j h v n
    let beat := 8 * h + n / 4
    let dq := 4 * j + n % 4
    if v.testBit n then d ^^^ 2 ^ (8 * (4 * beat + dq / 8) + dq % 8) else d

end Sys2Proof.Machine
end

