-- ==== Sys2Proof/Machine/DramOps.lean ====
section
/-! DEFINITION. Channels and sets (spec/11, spec/15): where a location stands, the stored bursts, channel loss, set
withdrawal, training, queues. The store keeps the content that a parity set can give for an absent channel (R411), so a
read of an absent channel gives what the other five bursts XOR to. -/

namespace Sys2Proof.Machine

/-! ### Geometry (R383, R385, R389) -/

def log2c (s : State) (c : Nat) : Nat := s.fld (Reg.DMC_GEOM c) 23 16

/-- log2 of the capacity that DMC_GEOM's fields give. -/
def geomLog2c (s : State) (c : Nat) : Nat :=
  let g := Reg.DMC_GEOM c
  19 + s.fld g 4 0 + s.fld g 8 7 + s.fld g 9 9 + s.fld g 10 10

/-- Channel position and channel offset of a location of a set. -/
def locatePos (n : Nat) (par : Bool) (g loc : Nat) : Nat × Nat :=
  let c := loc / 2 ^ g
  let w := loc % 2 ^ g
  if par then
    let st := c / 5
    ((st % 6 + 1 + c % 5) % 6, st * 2 ^ g + w)
  else if n % 3 = 0 then
    let two := n / 3
    let q := c / two
    let t := q / 3
    (two * ((q % 3 + t % 3) % 3) + c % two, t * 2 ^ g + w)
  else if n = 0 then (0, 0)
  else (c % n, c / n * 2 ^ g + w)

/-- Channel and channel offset of a location of a set. -/
def locate (s : State) (n loc : Nat) : Nat × Nat :=
  let cs := setChans s n
  let (pos, off) := locatePos cs.length (setPar s n) (setGrain s n) loc
  (cs.getD pos 0, off)

/-- The pages of the exposed DPA space of 2^46 B (R207). -/
def exposedPages : Nat := 2 ^ 34

/-- The bytes of a set's map region, in whole cells (R236): 8 B of tier map and 32 B of size vector for each page. -/
def mapRegionBytes (pages : Nat) : Nat := ceilDiv (40 * pages) 1024 * 1024

/-- The key of the burst at a channel offset. -/
def burstKey (c off : Nat) : Nat := 2 ^ 34 * c + off / 64

def burstAt (s : State) (n loc : Nat) : Nat :=
  let (c, off) := locate s n loc
  burstKey c off

def keyChan (k : Nat) : Nat := k / 2 ^ 34
def keyOff (k : Nat) : Nat := k % 2 ^ 34 * 64
def keySub (k : Nat) : Nat := k % 2

/-- The capacity of a set in bytes (R386). -/
def setCapacity (s : State) (n : Nat) : Nat :=
  match setChans s n with
  | [] => 0
  | c :: r => (if setPar s n then 5 else r.length + 1) * 2 ^ log2c s c

/-- DDR5 address fields of a channel offset (R385): row, logical rank, bank as 4 × bank group + bank. -/
structure DAddr where
  row : Nat
  lrank : Nat
  bank : Nat
  deriving DecidableEq, Repr

def daddr (s : State) (c off : Nat) : DAddr :=
  let rowb := s.fld (Reg.DMC_GEOM c) 4 0
  let row := nfld off (18 + rowb) 19
  { row := row
    lrank := off / 2 ^ (19 + rowb) % 16
    bank := 4 * (nfld off 9 7 % 8 ^^^ row % 8) + (nfld off 18 17 ^^^ row / 8 % 4) }

/-! ### Stored bursts (R538) -/

def zeroCrc : Word := crc32c (List.replicate 64 0)

/-- A burst as the bittern leaves it: 64 B of 0x00 with the CRC of its content. -/
def zeroBurst : Burst := ⟨{}, {}, {}, {}, 0x03C8EB67#32, .none⟩

/-- A poison-marked burst. -/
def markedBurst : Burst := ⟨{}, {}, {}, {}, 0#32, .none⟩

def isMarked (b : Burst) : Bool := decide (b.bc = 0 ∧ b.s0 = {} ∧ b.s1 = {} ∧ b.s2 = {} ∧ b.s3 = {})

def Burst.sect (b : Burst) (i : Nat) : Sect :=
  match i with
  | 0 => b.s0
  | 1 => b.s1
  | 2 => b.s2
  | _ => b.s3

def Burst.setSect (b : Burst) (i : Nat) (x : Sect) : Burst :=
  match i with
  | 0 => { b with s0 := x }
  | 1 => { b with s1 := x }
  | 2 => { b with s2 := x }
  | _ => { b with s3 := x }

/-- The 64 B of a burst before encipherment. -/
def Burst.plain (b : Burst) : Line := b.s3.val ++ b.s2.val ++ b.s1.val ++ b.s0.val

/-- A burst of four sectors with a burst check over them (R538). -/
def mkBurst (x0 x1 x2 x3 : Sect) : Burst :=
  let b : Burst := ⟨x0, x1, x2, x3, 0, .none⟩
  { b with bc := lineCheck b.plain }

/-! ### Places in a set inverted, and bursts never written (R88 to R91, R236, R389) -/

/-- The location in its set that a channel position and a channel offset hold (R389 inverted); none: a parity grain. -/
def locOf (n : Nat) (par : Bool) (g pos off : Nat) : Option Nat :=
  let t := off / 2 ^ g
  let w := off % 2 ^ g
  if par then
    let k := (pos + 11 - t % 6) % 6
    if k = 5 then .none else some ((t * 5 + k) * 2 ^ g + w)
  else if n % 3 = 0 then
    let two := n / 3
    let q := 3 * t + (pos / two + 3 - t % 3) % 3
    some ((q * two + pos % two) * 2 ^ g + w)
  else some ((t * n + pos) * 2 ^ g + w)

/-- The place of a channel among the channels of a set. -/
def posIn : List Nat → Nat → Option Nat
  | [], _ => .none
  | c :: r, d => if c = d then some 0 else (posIn r d).map (· + 1)

/-- The location of a set that a burst holds. -/
def burstLoc (s : State) (n k : Nat) : Option Nat :=
  let cs := setChans s n
  (posIn cs (keyChan k)).bind (fun p => locOf cs.length (setPar s n) (setGrain s n) p (keyOff k))

def setWipe (s : State) (n : Nat) : SetWipe := smGet {} s.wipe.sets n
def putWipe (s : State) (n : Nat) (w : SetWipe) : State :=
  { s with wipe := { s.wipe with sets := smSet {} s.wipe.sets n w } }

/-- Phase 3 has written map block `b` of a set (R90). -/
def blockDone (s : State) (n b : Nat) : Bool := decide (4 ≤ (setWipe s n).phase) || (setWipe s n).blocks.contains b

/-- The TU entry of a set (R90), and the burst of eight of them that phase 3 writes. -/
def tuEntry (n : Nat) : DWord := BitVec.ofNat 64 (5 * 2 ^ 61 + n % 32 * 2 ^ 51)

def tuBurst (n : Nat) : Burst :=
  let x : Sect := { val := tuEntry n ++ tuEntry n }
  mkBurst x x x x

/-- What a burst of a set holds at a location that nothing has written since the wipe: TU entries in its tier map, else zeros. -/
def unwrittenAt (s : State) (n l : Nat) : Burst :=
  if l < 8 * mapPages s n ∧ blockDone s n (l / 65536) then tuBurst n else zeroBurst

/-- A burst of 64 B that no key covers, with a given burst check (R550). -/
def rawBurst (l : Line) (bc : Word) (chk : Option (Word × Word × Word)) : Burst :=
  let x (k : Nat) : Sect := { val := BitVec.ofNat 128 (l.toNat / 2 ^ (128 * k)) }
  ⟨x 0, x 1, x 2, x 3, bc, chk⟩

/-- The tweak as a 16 B array (R321): GEN in bits 95:64, DOM in bit 42, SADDR in bits 41:0, the rest 0; byte `k` stands at bits 8k to
8k + 7. -/
def Seal.tweakBlock (e : Seal) : BitVec 128 := BitVec.ofNat 128 (e.gen % 2 ^ 32 * 2 ^ 64 + e.tweak % 2 ^ 43)

/-- XTS-AES-256 of one 16 B data unit (R316): T = E_K2(i) and C = E_K1(P xor T) xor T, with key1 in the low half of the slot's key. -/
def Seal.cipher (e : Seal) (p : BitVec 128) : BitVec 128 :=
  let t := Config.aes (e.key / 2 ^ 256 % 2 ^ 256) e.tweakBlock
  Config.aes (e.key % 2 ^ 256) (p ^^^ t) ^^^ t

/-- What stands in the cells of a sector: the value, or its ciphertext (R316). -/
def Sect.raw (x : Sect) : Sector :=
  match x.under with
  | .none => x.val
  | some e => e.cipher x.val

def Burst.raw (b : Burst) : Line := b.s3.raw ++ b.s2.raw ++ b.s1.raw ++ b.s0.raw

/-- A parity burst of 64 B, with its own check (R412). -/
def parityBurst (l : Line) : Burst := rawBurst l (BitVec.ofNat 32 (lineCheck l)) .none

/-- The parity burst of a burst of a parity set (R389, R412). -/
def parityKey (s : State) (k : Nat) : Option Nat :=
  match setOfChan s (keyChan k) with
  | .none => .none
  | some n =>
    if setPar s n then
      some (burstKey ((setChans s n).getD (keyOff k / 2 ^ setGrain s n % 6) 0) (keyOff k))
    else .none

/-- A stored burst. The parity burst of a stripe at one offset is what its data bursts make, unless something else was written there
(R411, R412). -/
def State.burst (s : State) (k : Nat) : Burst :=
  match smGet .none s.dram.bursts k with
  | some b => b
  | .none =>
    match setOfChan s (keyChan k) with
    | .none => zeroBurst
    | some n =>
      match burstLoc s n k with
      | some l => unwrittenAt s n l
      | .none =>
        parityBurst (((setChans s n).filter (fun d => decide (d ≠ keyChan k))).foldl (fun a d =>
          let j := burstKey d (keyOff k)
          a ^^^ ((smGet .none s.dram.bursts j).getD (((burstLoc s n j).map (unwrittenAt s n)).getD zeroBurst)).raw) 0)

def State.setBurst (s : State) (k : Nat) (b : Burst) : State :=
  { s with dram := { s.dram with bursts := smSet .none s.dram.bursts k (some b) } }

/-- A burst takes new content. Where the parity burst of its stripe was written by itself, it takes old parity xor old data xor new data
(R411, R412). -/
def State.writeBurst (s : State) (k : Nat) (b : Burst) : State :=
  let s' := s.setBurst k b
  match parityKey s k with
  | .none => s'
  | some p =>
    match smGet .none s.dram.bursts p with
    | .none => s'
    | some q => if p = k then s' else s'.setBurst p (parityBurst (q.raw ^^^ (s.burst k).raw ^^^ b.raw))

/-- The symbols of a stored burst that the check symbols 16 to 18 follow from (R534). -/
def knownSymbols (b : Burst) : List (Nat × Nat) := dataSymbols b.raw.toNat ++ [(19, b.bc.toNat)]

/-- The four check words of a stored burst: as TEST wrote them, or as the code computes them (R534). -/
def checkWords (b : Burst) : Word × Word × Word × Word :=
  match b.chk with
  | some (x, y, z) => (x, y, z, b.bc)
  | .none =>
    let (x, y, z) := checkSymbols (knownSymbols b)
    (BitVec.ofNat 32 x, BitVec.ofNat 32 y, BitVec.ofNat 32 z, b.bc)

/-- The error pattern that stored check words make against the code. -/
def storedErrors (b : Burst) : List (Nat × Nat) :=
  match b.chk with
  | .none => []
  | some (x, y, z) =>
    let (a, d, e) := checkSymbols (knownSymbols b)
    errNorm [(16, a ^^^ x.toNat), (17, d ^^^ y.toNat), (18, e ^^^ z.toNat)]

/-- A burst of a map region cannot be used (R539): poison-marked, beyond the symbol code, or its check does not match its bytes. -/
def mapBurstBad (b : Burst) : Bool :=
  isMarked b || decide (b.bc.toNat ≠ lineCheck b.raw) ||
    (match symbolDecode .none (storedErrors b) with
     | .clean ok => !ok
     | .fixed _ ok => !ok
     | _ => true)

/-! ### Banks and activations (R401 to R404) -/

def bankKey (sub lrank bank : Nat) : Nat := 512 * sub + 32 * lrank + bank
def groupKey (sub lrank ba : Nat) : Nat := 256 * sub + 4 * lrank + ba

def State.bank (s : State) (c k : Nat) : Bank := smGet {} (s.chan c).banks k
def State.setBank (s : State) (c k : Nat) (b : Bank) : State :=
  s.setChan c { s.chan c with banks := smSet {} (s.chan c).banks k b }

def burstBank (s : State) (c k : Nat) : Nat :=
  let a := daddr s c (keyOff k)
  bankKey (keySub k) a.lrank a.bank

def rowHit (s : State) (c k : Nat) : Bool := decide ((s.bank c (burstBank s c k)).row = some (daddr s c (keyOff k)).row)

/-- Two candidate counts by the space-saving method (R403). -/
def candAdd (l : List (Nat × Nat)) (x : Nat) : List (Nat × Nat) :=
  if l.any (fun e => e.1 = x) then l.map (fun e => if e.1 = x then (e.1, e.2 + 1) else e)
  else match l with
    | [] => [(x, 1)]
    | [a] => [a, (x, 1)]
    | a :: b :: r => if a.2 ≤ b.2 then (x, a.2 + 1) :: b :: r else a :: (x, b.2 + 1) :: r

/-- The leading candidate; of equal counts the one kept first. -/
def leader (l : List (Nat × Nat)) : Option Nat :=
  match l with
  | [] => .none
  | [a] => some a.1
  | a :: b :: _ => if a.2 < b.2 then some b.1 else some a.1

/-- A sluice is throttled by a channel for TWIN refresh windows (R404). -/
def throttle (s : State) (x c : Nat) : State :=
  let t : Throttle := { sluice := x, ch := c, until_ := (s.chan c).window + s.fld (Reg.DMC_RDT c) 19 12 }
  { s with slu := { s.slu with throttles := s.slu.throttles.filter (fun y => !decide (y.sluice = x ∧ y.ch = c)) ++ [t] } }

/-- The threshold of R403 is exceeded: one extra RFMsb, the leading sluice throttled, DMC_RDTLOG. -/
def rdtCross (s : State) (c lrank bank k : Nat) : State :=
  let b := s.bank c k
  let s := s.setBank c k { b with thrown := true, raa := b.raa - s.fld (Reg.DMC_RFM c) 7 0 }
  match leader b.cands with
  | .none => s
  | some x =>
    let s := throttle s x c
    let s := record s (Reg.DMC_RDTLOG c) 31 30 (fun s =>
      s.setReg (Reg.DMC_RDTLOG c) (BitVec.ofNat 32 (x % 256 * 2 ^ 12 + lrank % 16 * 2 ^ 8 + bank % 32)))
    raiseChan s c 5 .none {}

/-- The ACT that an access of a burst needs (R401, R403). -/
def activate (s : State) (c k sluice : Nat) : State :=
  if rowHit s c k then tick s (bChan c) 3 1
  else
    let a := daddr s c (keyOff k)
    let bk := burstBank s c k
    let b := s.bank c bk
    let b := { b with row := some a.row, raa := b.raa + 1, acts := b.acts + 1, cands := candAdd b.cands sluice }
    let s := tick (s.setBank c bk b) (bChan c) 2 1
    let s := if b.raa = s.fld (Reg.DMC_RFM c) 15 8 then raiseChan s c 6 .none {} else s
    if s.bit (Reg.DMC_RDT c) 20 && !b.thrown && decide (s.fld (Reg.DMC_RDT c) 11 0 < b.acts) then
      rdtCross s c a.lrank a.bank bk
    else s

/-- RDQ and WRQ of DMC_STAT follow the queues. -/
def queueStat (s : State) (c : Nat) : State :=
  (s.setF (Reg.DMC_STAT c) 15 8 (s.chan c).rdq.length).setF (Reg.DMC_STAT c) 7 0 (s.chan c).wrq.length

/-- The writes of a channel's queues are all issued (R644, R79). -/
def drainWrites (s : State) (c : Nat) : State :=
  let s := (s.chan c).wrq.foldl (fun s e => tick (activate s c e.burst e.sluice) (bChan c) 1 1) s
  queueStat (s.setChan c { s.chan c with wrq := [], drain := [] }) c

/-! ### Loss and withdrawal (R410, R278, R679) -/

/-- DMC_DOWN records why a channel went down; its fields hold while VALID is 1. -/
def recordDown (s : State) (c cause : Nat) (cov : Bool) : State :=
  if s.bit (Reg.DMC_DOWN c) 31 then s
  else (s.setReg (Reg.DMC_DOWN c) (BitVec.ofNat 32 (cause * 2 ^ 27 + b2n cov * 2 ^ 26))).hwBit (Reg.DMC_DOWN c) 31

/-- A set is withdrawn (R278): TIER_SETOFF, and it is servable no longer. -/
def withdraw (s : State) (n : Nat) : State :=
  (s.setBit Reg.TIER_SETOFF n true).setBit Reg.GEN_SETSRV n false

def withdrawAll (s : State) : List Nat → State
  | [] => s
  | n :: r => withdrawAll (withdraw s n) r

/-- The sets with a channel in a quadrant. -/
def setsOfQuad (s : State) (q : Nat) : List Nat :=
  (List.range 24).filter (fun n => setV s n && decide (setMask s n / 2 ^ (6 * q) % 64 ≠ 0))

/-- A channel that served is lost (R410): its READY bit falls and its set is covered by parity or withdrawn. -/
def chanLost (s : State) (c cause : Nat) : State :=
  if !readyChan s c then s
  else
    let covered := match setOfChan s c with
      | some n => setPar s n && decide ((absentIn s n).filter (fun d => d ≠ c) = [])
      | .none => false
    let s := recordDown s c cause covered
    let s := s.setChan c { s.chan c with lost := true, rebuild := some 0, rdq := [], wrq := [], rdWait := [], selfRef := false }
    let s := s.setF (Reg.DMC_STAT c) 31 29 4
    let s := s.setBit (Reg.DMC_PARREB c) 30 false
    let s := setReadyChan s c false
    match setOfChan s c with
    | .none => s
    | some n =>
      if covered then raiseChan s c 7 .none { mkind := 0 }
      else raiseChan (withdraw s n) c 0 .none {}

/-- The chain of R407: a channel stopped for tracking or retries. -/
def chanStop (s : State) (c : Nat) : State := chanLost s c 2

/-! ### Marks (R536) -/

def markIndex (s : State) (c off : Nat) : Nat := 2 * (daddr s c off).lrank + off / 64 % 2

/-- The marked device of a burst's subchannel and logical rank. -/
def markOf (s : State) (c off : Nat) : Option Nat :=
  let r := Reg.DMC_MARK c (markIndex s c off)
  if s.bit r 31 then some (s.fld r 3 0) else .none

/-- A correction on a device counts, and THR of them within 1 s set the mark. -/
def countFix (s : State) (c off dev : Nat) : State :=
  let s := s.bump (Reg.DMC_CECNT c) 15 0
  let s := if s.fld (Reg.DMC_CECNT c) 15 0 = s.fld (Reg.DMC_CECNT c) 31 16 then raiseChan s c 1 (some off) {} else s
  let i := markIndex s c off
  if s.bit (Reg.DMC_MARKCFG c) 8 && !s.bit (Reg.DMC_MARK c i) 31 then
    let key := 10 * i + dev
    let ch := s.chan c
    let l := (smGet [] ch.fixes key).filter (fun t => decide (s.clock < t + secClocks)) ++ [s.clock]
    if s.fld (Reg.DMC_MARKCFG c) 7 0 ≤ l.length then
      let s := s.setChan c { ch with fixes := smSet [] ch.fixes key [] }
      raise (s.hwF (Reg.DMC_MARK c i) 31 0 (3 * 2 ^ 30 + dev)) Src.deviceMarked
    else s.setChan c { ch with fixes := smSet [] ch.fixes key l }
  else s

/-- The error that a correction of device `j` leaves. -/
def leftOver (s : State) (k : Nat) (e : List (Nat × Nat)) (j : Nat) : List (Nat × Nat) :=
  match (deviceFixes (markOf s (keyChan k) (keyOff k)) e).find? (fun c => decide (c.1 = j)) with
  | some (_, a, b) => errMerge (e ++ [(2 * j, a), (2 * j + 1, b)])
  | .none => e

/-- 64 B with the data symbols of an error added. -/
def xorError (data : Nat) : List (Nat × Nat) → Nat
  | [] => data
  | (p, v) :: r => xorError (if p < 16 then xorSymbol data (p / 2) (p % 2) v 32 else data) r

/-- A sector of 16 B as drawn free values. -/
def freeSector (n : Nat) : Sector :=
  Config.freeWord n ++ Config.freeWord (n + 1) ++ Config.freeWord (n + 2) ++ Config.freeWord (n + 3)

/-- A sector whose cells changed: as it stands, or under a key a plaintext that nothing fixes. -/
def alterSector (x : Sect) (d : Nat) (n : Nat) : Sect :=
  if d % 2 ^ 128 = 0 then x
  else match x.under with
    | .none => { x with val := x.val ^^^ BitVec.ofNat 128 d }
    | some _ => { x with val := freeSector n }

/-- The corrected content, written back: a wrong correction writes what it left, with check symbols that fit (R535, R548). -/
def fixedBurst (b : Burst) (left : List (Nat × Nat)) (n : Nat) : Burst :=
  if left = [] then { b with chk := .none }
  else
    let d := xorError 0 left
    { s0 := alterSector b.s0 d n
      s1 := alterSector b.s1 (d / 2 ^ 128) (n + 4)
      s2 := alterSector b.s2 (d / 2 ^ 256) (n + 8)
      s3 := alterSector b.s3 (d / 2 ^ 384) (n + 12)
      bc := b.bc ^^^ BitVec.ofNat 32 (errAt left 19)
      chk := .none }

/-- A burst that is read through the symbol code and written back as it was read (R554): corrected where it is corrected, poison-marked
where it is uncorrectable or `lost`. -/
def State.restoreBurst (s : State) (lost : Bool) (k : Nat) : State :=
  let c := keyChan k
  let off := keyOff k
  let e := storedErrors (s.burst k)
  match (if lost then .bad else symbolDecode (markOf s c off) e) with
  | .clean _ => s
  | .fixed j _ =>
    let left := leftOver s k e j
    let s := tick (countFix s c off j) (bChan c) 6 1
    let s := s.writeBurst k (fixedBurst (s.burst k) left s.fresh)
    if left = [] then s else drawN 16 s
  | _ => (raiseChan s c 2 (some off) {}).writeBurst k markedBurst

/-- A running sPPR holds the logical rank of a burst (R554). -/
def rankHeld (s : State) (c k : Nat) : Bool :=
  match (s.chan c).ppr with
  | some v => decide (fld v 31 30 = 1 ∧ (daddr s c (keyOff k)).lrank = fld v 29 26)
  | .none => false

/-! ### Training (R406, R409) -/

def trainStart (s : State) (c tset : Nat) : State :=
  if s.bit (Reg.DMC_CTL c) 0 && !readyChan s c && !(s.chan c).training then
    let s := s.setReg (Reg.DMC_TRAIN c) (BitVec.ofNat 32 (4 + tset % 4))
    let s := s.setF (Reg.DMC_STAT c) 31 29 1
    s.setChan c { s.chan c with training := true }
  else s

/-- The TRAINED bits of the enabled sets that completed. -/
def markTrained (s : State) (c done : Nat) : List Nat → State
  | [] => s
  | k :: r =>
    let reg := Reg.DMC_TSET c k
    markTrained (if s.bit reg 31 then s.setBit reg 30 (done.testBit k) else s) c done r

/-- Training ends (R409, R382): `done` holds the sets that completed, `differ` that the two DIMMs differ. -/
def trainEnd (s : State) (c done : Nat) (differ : Bool) : State :=
  let k := s.fld (Reg.DMC_TRAIN c) 1 0
  let s := s.setBit (Reg.DMC_TRAIN c) 2 false
  let s := s.setChan c { s.chan c with training := false }
  let s := markTrained s c done [0, 1, 2, 3]
  let s := s.setF (Reg.DMC_GEOM c) 23 16 (geomLog2c s c)
  let off (s : State) := s.setF (Reg.DMC_STAT c) 31 29 (if (s.chan c).lost then 4 else 0)
  if differ then off (recordDown s c 5 false)
  else if s.bit (Reg.DMC_TSET c k) 31 && done.testBit k then
    let ch := s.chan c
    let par := match setOfChan s c with
      | some n => setPar s n
      | .none => false
    let s := s.setChan c { ch with
        used := true, lost := false, rebuild := if ch.lost && par then some 0 else .none, window := 0, paid := [], postp := [], banks := []
        selfRef := false }
    let s := s.setF (Reg.DMC_STAT c) 31 24 (2 * 32 + k * 8 + s.fld (Reg.DMC_TSET c k) 29 27)
    let s := { s with slu := { s.slu with rates := smSet 0 s.slu.rates c (s.fld (Reg.DMC_TSET c k) 29 27) } }
    setReadyChan s c true
  else off (raiseChan (recordDown s c 1 false) c 12 .none {})

/-! ### Servable sets (R81, R97, R295, R320) -/

/-- The quadrants that hold a channel of a set. -/
def quadsOf (s : State) (n : Nat) : List Nat :=
  (List.range 4).filter (fun q => decide (setMask s n / 2 ^ (6 * q) % 64 ≠ 0))

/-- The needs of a set that becomes servable (R81): every channel, HA0 to HA3, the TMU, the security block, and both grain
crystallizers and both crypto engines of every quadrant that holds a channel of the set. A parity set with one lost channel has what
it needs of that channel (R411). The channels have one capacity (R386). -/
def needsMet (s : State) (n : Nat) : Bool :=
  setV s n && readyTmu s && readySec s && (List.range 4).all (readyHa s) &&
  (quadsOf s n).all (fun q => readyGc s (2 * q) && readyGc s (2 * q + 1) && readyXe s (2 * q) && readyXe s (2 * q + 1)) &&
  (let cs := setChans s n
   let down := cs.filter (fun c => !readyChan s c)
   (decide (down = []) || (setPar s n && decide (down.length ≤ 1) && down.all (fun c => (s.chan c).used))) &&
   cs.all (fun c => cs.all (fun d => decide (log2c s c = log2c s d))) && decide (cs ≠ []))

/-! ### The frequency change (R415 to R417) -/

/-- DMC_FSTAT for a refused write. -/
def fchgRefuse (s : State) (r : Nat) : State := s.setF Reg.DMC_FSTAT 30 28 r

def fchgStart (s : State) (tset mask : Nat) : State :=
  if s.dram.fchg.isSome then fchgRefuse s 5
  else if s.code ≠ Mode.hold ∨ s.changing then fchgRefuse s 2
  else
    let cs := bitsOf 24 0 mask
    if cs = [] ∨ cs.any (fun c => !readyChan s c) ∨ cs.any (fun c => match setOfChan s c with
        | some n => decide (setMask s n &&& mask ≠ setMask s n)
        | .none => false) then fchgRefuse s 3
    else if cs.any (fun c => !(s.bit (Reg.DMC_TSET c tset) 31 && s.bit (Reg.DMC_TSET c tset) 30)) then fchgRefuse s 4
    else
      let s := s.setReg Reg.DMC_FSTAT 0x80000000#32
      { s with dram := { s.dram with fchg := some (tset, mask) }, mode := { s.mode with step := some 0 } }

def fchgChans (s : State) (tset : Nat) (failed : Nat) : List Nat → State
  | [] => s
  | c :: r =>
    let s := if failed.testBit c then chanLost (raiseChan s c 11 .none {}) c 4
      else s.setF (Reg.DMC_STAT c) 28 24 (tset * 8 + s.fld (Reg.DMC_TSET c tset) 29 27)
    fchgChans s tset failed r

end Sys2Proof.Machine
end

