-- ==== Sys2Proof/Machine/SlotOps.lean ====
section
/-! DEFINITION. The slot power controllers (spec/18): words, states, warnings and gate-off. What the analogue loops and
comparators of a slot see reaches the model as events; SLOT_VOLT and SLOT_IP are measurements (log entry on measured
values). -/

namespace Sys2Proof.Machine


/-- The channel of slot Snn: S(2n) and S(2n + 1) are the two positions of CHn (R385). -/
def slotChan (n : Nat) : Nat := n / 2

def slotPLIM (x : Slot) : Nat := fld x.cfg 31 25
def slotIMAX (x : Slot) : Nat := fld x.cfg 24 18
def slotFTIME (x : Slot) : Nat := fld x.cfg 17 12
def slotRDLY (x : Slot) : Nat := fld x.cfg 11 6
def slotRETRY (x : Slot) : Bool := bit x.cfg 5
def slotRSNS (x : Slot) : Nat := fld x.sense 9 0

/-- Core clocks in a tick of the housekeeping clock (R622). -/
def slotTick : Nat := 25

/-- An enable is valid (R642): the fields lie in their ranges and IMAX × RSNS from 10 to 50 mV. -/
def slotValid (x : Slot) : Bool :=
  decide (8 ≤ slotPLIM x ∧ slotPLIM x ≤ 80 ∧ 5 ≤ slotIMAX x ∧ slotIMAX x ≤ 80 ∧ 2 ≤ slotFTIME x ∧ slotFTIME x ≤ 40 ∧
    1 ≤ slotRDLY x ∧ slotRDLY x ≤ 60 ∧ 50 ≤ slotRSNS x ∧ slotRSNS x ≤ 1000 ∧
    10000 ≤ slotIMAX x * slotRSNS x ∧ slotIMAX x * slotRSNS x ≤ 50000)

/-- The slot warning (R644): V_in below UVTH, or the early warning of R632. -/
def slotWarn (x : Slot) : Bool := x.low || x.timer.isSome

/-- Automatic retries that began in the preceding 60 s. -/
def slotRetries (s : State) (x : Slot) : List Nat := x.retries.filter (fun t => decide (s.clock < t + 60 * secClocks))

/-- SLOT_STAT. The power-limit count of a slot that has been in ON is a measured quantity, a free value (R637). -/
def slotStat (s : State) (x : Slot) : Word :=
  let pl := if x.powered then Config.freeNat s.fresh % 251 else 0
  BitVec.ofNat 32 (x.state * 2 ^ 29 + b2n x.pg * 2 ^ 28 + b2n x.timer.isSome * 2 ^ 27 + b2n (slotWarn x) * 2 ^ 26 +
    b2n x.onA * 2 ^ 25 + b2n x.onB * 2 ^ 24 + x.cause % 8 * 2 ^ 21 + min 3 (slotRetries s x).length * 2 ^ 19 +
    x.enres % 8 * 2 ^ 16 + pl * 2 ^ 8)

/-- PFW_N is low (R646): a slot in ON has its warning asserted and its mask bit set. -/
def pfwLow (s : State) : Bool :=
  (List.range 48).any (fun n => s.slot.mask.testBit n && decide ((s.slotOf n).state = 3) && slotWarn (s.slotOf n))

/-- The warnings of the two slots of a channel that reach its controller (R644, R646): those of slots in ON. -/
def chanWarn (s : State) (c : Nat) : Bool :=
  (List.range 2).any (fun k => decide ((s.slotOf (2 * c + k)).state = 3) && slotWarn (s.slotOf (2 * c + k)))

/-- The channel follows the warnings of its slots: its write queues drain, and it is in self-refresh while one lasts (R644). -/
def followWarn (s : State) (c : Nat) : State :=
  let ch := s.chan c
  let w := if chanWarn s c then [0] else []
  let s := if w ≠ [] ∧ ch.warn = [] then drainWrites s c else s
  let s := s.setChan c { s.chan c with warn := w }
  if readyChan s c then s.setF (Reg.DMC_STAT c) 31 29 (if ch.selfRef || decide (w ≠ []) then 3 else if s.bit (Reg.DMC_PARREB c) 30 then 5 else 2)
  else s

/-- A slot changes: its READY bit follows PG (R628), its channel its warning; when PG drops on a READY slot the channel is
lost with cause 8 (R643). -/
def setSlot (s : State) (n : Nat) (x : Slot) : State :=
  let was := readySlot s n
  let s := { s with slot := { s.slot with slots := smSet {} s.slot.slots n x } }
  let s := setReadySlot s n x.pg
  let s := if was && !x.pg then chanLost s (slotChan n) 8 else s
  followWarn s (slotChan n)

/-- The gate turns off (R634): PG drops with it, and the fault timer and the warnings of the ramp end. -/
def gateOff (x : Slot) (cause state : Nat) : Slot :=
  { x with pg := false, timer := .none, cause := cause, state := state, delay := .none }

/-- The ORing drives (R623, R625): feed A when it is good, else feed B; in OFF, and latched by an ISOLATE reaction, they are off
(R640). -/
def orDrive (x : Slot) : Slot :=
  let on := decide (x.state ≠ 0 ∧ (x.state = 5 → x.iso = []))
  { x with onA := on && x.feedA, onB := on && x.feedB && !x.feedA }

/-- A gate-off with CAUSE 1, 2 or 3 (R639, R640). In the tick in which EN ← 0 turned the gate off, the fault is recorded and raised,
and the slot stays in OFF (R641). "Slot latched off" is raised at the end of the tick. -/
def slotFault (s : State) (n cause : Nat) : State :=
  let x := s.slotOf n
  if x.state = 2 ∨ x.state = 3 then
    let x := { x with faultAt := some (s.clock / slotTick) }
    let y := if slotRETRY x then { gateOff x cause 4 with delay := some (s.clock + slotRDLY x * secClocks) }
      else { gateOff x cause 5 with latch := true }
    raise (setSlot s n y) (Src.slot n 0)
  else if x.state = 0 ∧ x.offAt = some (s.clock / slotTick) then
    raise (setSlot s n { x with cause := cause, offAt := .none }) (Src.slot n 0)
  else s

/-- The end of a tick: slots that a fault has latched in it raise "slot latched off" (R639). -/
def latchEnd (s : State) : State :=
  if (s.clock + 1) % slotTick = 0 then
    (s.slot.slots.filter (fun e => e.2.latch)).foldl
      (fun s e => raise (setSlot s e.1 { s.slotOf e.1 with latch := false }) (Src.slot e.1 1)) s
  else s

/-- A ramp starts when the input is good, else the slot waits (R640). -/
def slotBegin (x : Slot) (enres : Nat) : Slot :=
  orDrive (if x.input then { x with state := 2, enres := 0 } else { x with state := 1, enres := enres })

/-- EN ← 1 (R640). A slot that an ISOLATE reaction latched and that is in OFF stays out of service until the sticky bits are clear, as
it would in LATCHED (R567; DEDUCED, log entry 237). -/
def slotEnable (s : State) (n : Nat) : State :=
  let x := { s.slotOf n with en := true }
  let refuse (r : Nat) : State := raise (setSlot s n { x with enres := r }) Src.slotRefused
  if x.state = 0 then
    if !slotValid x then refuse 1
    else if x.iso.any (sticky s) then refuse 2
    else setSlot (unisolate s (uSlot n)) n (slotBegin { x with iso := [] } 4)
  else if x.state = 5 then
    if !slotValid x then refuse 1
    else if sticky s (Src.slot n 1) || x.iso.any (sticky s) then refuse 2
    else setSlot (unisolate s (uSlot n)) n (slotBegin { x with retries := [], iso := [] } 4)
  else setSlot s n { x with enres := 0 }

/-- EN ← 0 (R640). After a fault of the same tick CAUSE keeps it (R641). -/
def slotDisable (s : State) (n : Nat) : State :=
  let x := s.slotOf n
  let now := s.clock / slotTick
  let on := decide (x.state = 2 ∨ x.state = 3)
  let off : Slot := orDrive { gateOff x (if x.faultAt = some now then x.cause else 5) 0 with
    en := false, enres := 0, latch := false, offAt := if on then some now else .none, offTimer := if on then x.timer else .none }
  if x.state = 0 then setSlot s n { x with en := false, enres := 0 }
  else if on ∧ s.bit (Reg.DMC_CTL (slotChan n)) 0 then
    raise (setSlot s n { x with en := false, enres := 3 }) Src.slotRefused
  else setSlot s n off

/-- The ISOLATE reaction of a source of the slot (R640, R566). -/
def slotIsolate (s : State) (n src : Nat) : State :=
  let x := s.slotOf n
  if x.state = 0 ∨ x.state = 5 then s
  else setSlot s n (orDrive { gateOff x 7 5 with latch := false, iso := x.iso ++ [src] })

/-- Every gate is turned off: charge pump failure (R649), loss of VPD or V12S (R701). -/
def slotsOff (s : State) (cause : Nat) : List Nat → State
  | [] => s
  | n :: r =>
    let x := s.slotOf n
    slotsOff (if x.pg ∨ x.state = 2 then setSlot s n (orDrive (gateOff x cause 0)) else s) cause r

/-! ### The words of a slot at IDX target 0x1 -/

def clampN (lo hi v : Nat) : Nat := if v < lo then lo else if hi < v then hi else v

def clampF (w : Word) (hi lo mn mx : Nat) : Word := setFld w hi lo (clampN mn mx (fld w hi lo))

def cfgClamp (v : Word) : Word :=
  clampF (clampF (clampF (clampF (v &&& 0xFFFFFFE0#32) 31 25 8 80) 24 18 5 80) 17 12 2 40) 11 6 1 60

def senseClamp (v : Word) : Word :=
  clampF (clampF (clampF (v &&& 0xFFFE03FF#32) 31 24 90 115) 23 17 10 96) 9 0 50 1000

def orClamp (v : Word) : Word := clampF (clampF (clampF (v &&& 0xFFFF#32) 15 8 20 250) 7 4 5 15) 3 0 5 15

/-- A read of a power-die word by WADDR. Measurements are free values; the number of the read numbers them. -/
def slotRead (s : State) (waddr : Nat) : Word :=
  if waddr < 0xC00 then
    let x := s.slotOf (waddr / 0x40)
    match waddr % 0x40 with
    | 0 => x.cfg
    | 1 => x.sense
    | 2 => x.orw
    | 4 => BitVec.ofNat 32 (b2n x.en)
    | 8 => slotStat s x
    | 9 => Config.freeWord s.fresh &&& 0x3FFFFFFF#32
    | 10 => Config.freeWord s.fresh
    | _ => 0
  else if waddr = 0xC00 then BitVec.ofNat 32 s.slot.mask
  else if waddr = 0xC01 then BitVec.ofNat 32 (s.slot.mask / 2 ^ 32)
  else 0

/-- A plain write of a power-die word (R642: SLOT_CFG and SLOT_SENSE are kept in RAMP, ON and FAULTOFF). -/
def slotWrite (s : State) (waddr : Nat) (v : Word) : State :=
  if waddr < 0xC00 then
    let n := waddr / 0x40
    let x := s.slotOf n
    let busy := decide (2 ≤ x.state ∧ x.state ≤ 4)
    match waddr % 0x40 with
    | 0 => if busy then s else setSlot s n { x with cfg := cfgClamp v }
    | 1 => if busy then s else setSlot s n { x with sense := senseClamp v }
    | 2 => setSlot s n { x with orw := orClamp v }
    | _ => s
  else if waddr = 0xC00 then
    { s with slot := { s.slot with mask := s.slot.mask / 2 ^ 32 * 2 ^ 32 + v.toNat } }
  else if waddr = 0xC01 then
    { s with slot := { s.slot with mask := s.slot.mask % 2 ^ 32 + v.toNat % 2 ^ 16 * 2 ^ 32 } }
  else s

end Sys2Proof.Machine
end

