-- ==== Sys2Proof/Machine/LinkOps.lean ====
section
/-! DEFINITION. Conveyor links and the queues of the pool layer (spec/13, spec/14): link states, drops, failure, frames that
wait to be sent. -/

namespace Sys2Proof.Machine

def State.link (s : State) (l : Nat) : Link := smGet {} s.pool.links l
def State.setLink (s : State) (l : Nat) (v : Link) : State :=
  { s with pool := { s.pool with links := smSet {} s.pool.links l v } }

/-! ### States of CNV_STAT.STATE (R476) -/
namespace LinkState
def off : Nat := 0
def detect : Nat := 1
def lock : Nat := 2
def config : Nat := 3
def active : Nat := 4
def reneg : Nat := 5
def failed : Nat := 7
end LinkState

def linkState (s : State) (l : Nat) : Nat := s.fld (Reg.CNV_STAT l) 31 29
def linkUp (s : State) (l : Nat) : Bool := decide (linkState s l = 4 ∨ linkState s l = 5)
def linkWidth (s : State) (l : Nat) : Nat := s.fld (Reg.CNV_STAT l) 28 27

/-- The pass-through partner (R19). -/
def linkPair (l : Nat) : Nat := if l % 16 < 8 then l + 8 else l - 8

/-- The link die: 0 west (CL0 to CL15), 1 east (R17). -/
def linkDie (l : Nat) : Nat := l / 16

/-! ### Error records (R482, R533) -/

def raiseLink (s : State) (l loc plane seq : Nat) : State :=
  let s := record s (Reg.CNV_ERR l) 31 30 (fun s =>
    s.setReg (Reg.CNV_ERR l) (BitVec.ofNat 32 (loc * 2 ^ 16 + plane % 16 * 2 ^ 12 + seq % 4096)))
  raise s (Src.link l loc)

def raisePool (s : State) (loc dev : Nat) : State :=
  let s := record s Reg.POOL_ERR 31 30 (fun s => s.setReg Reg.POOL_ERR (BitVec.ofNat 32 (loc * 2 ^ 16 + dev % 1024)))
  raiseWith s (1496 + loc) { mdev := dev }

/-! ### Membership and frames to send (R508, R521) -/

def isMember (s : State) (d : Nat) : Bool := s.bit (Reg.POOL_MEMB (d / 32)) (d % 32)

/-- POOL_STAT.ROLE: 0 none, 1 member, 2 standby, 3 master, 4 joining, 5 leaving. -/
def role (s : State) : Nat := s.fld Reg.POOL_STAT 31 29
def isMaster (s : State) : Bool := decide (role s = 3)
def masterId (s : State) : Nat := s.fld Reg.POOL_TOPO 19 10
def standbyId (s : State) : Nat := s.fld Reg.POOL_TOPO 9 0

/-- The device is a member of a pool. -/
def inPool (s : State) : Bool := decide (role s ≠ 0) && isMember s s.devId

/-- The tide can be slewed now: a member that follows a parent, not in holdover, 1,024 tides after the last slew, with an error
of at least half a core clock. -/
def canSlew (s : State) : Bool :=
  inPool s && !isMaster s && !s.bit Reg.POOL_STAT 27 && decide (8 ≤ s.tideU.err.natAbs) &&
    decide (s.tideU.slew + 1024 ≤ s.tide)

/-- The core clock is the last of its tide. -/
def tideLast (s : State) : Bool := decide (3 ≤ s.tideU.phase) && !(canSlew s && decide (0 < s.tideU.err))

/-- An expiry counted in tides: in the tide of its deadline it waits for that tide's end (R13 to R16). -/
def atTide (i : Timer) (due : Option Nat) (s : State) (f : State → Host.Outcome State Fault Refusal) :
    Host.Outcome State Fault Refusal :=
  if due = some s.tide && !(s.closing && tideLast s) then .next { s with deferred := s.deferred ++ [i] } else f s

/-- The members that word `k` of POOL_MEMB names, ascending. -/
def wordMembers (k : Nat) (v : Word) : List Nat :=
  if v = 0 then [] else ((List.range 32).filter (fun i => Machine.bit v i)).map (fun i => 32 * k + i)

/-- The members, ascending. -/
def members (s : State) : List Nat := (List.range 32).flatMap (fun k => wordMembers k (s.reg (Reg.POOL_MEMB k)))

/-- URGR of a buffer (R431): asserted from 3/4 of its entries on, until it has fallen to 1/2. -/
def urgentFill (was : Bool) (n depth : Nat) : Bool :=
  decide (0 < n) && (decide (3 * depth ≤ 4 * n) || (was && decide (depth < 2 * n)))

/-- The launch buffer of a frame: that of the quadrant of its line's home slice (DESIGN CHOICE, log entry 13). -/
def launchQuad (f : Frame) : Nat := homeSlice (f.line * 64)

/-- URGR of the launch buffers follows their frames. -/
def followLaunch (s : State) : State :=
  { s with slu := { s.slu with urgL := (List.range 4).filter (fun q =>
      urgentFill (s.slu.urgL.contains q) (s.pool.launch.filter (fun x => decide (launchQuad x.frame = q))).length
        Config.launchDepth) } }

/-- A frame joins the frames that wait to be launched (R493). -/
def launchOn (s : State) (f : Frame) (cls : Nat) (via : Option Nat) : State :=
  followLaunch { s with pool := { s.pool with launch := s.pool.launch ++ [{ frame := { f with src := s.devId }, cls := cls, via := via }] } }

/-- A POOL frame (R508). A frame for this device itself is not sent. -/
def poolSend (s : State) (dest op : Nat) (payload : List Nat) : State :=
  launchOn s { ty := 5, dest := dest, opcode := op, data := lineOf payload } 2 .none

def poolSendAll (s : State) (op : Nat) (payload : List Nat) : List Nat → State
  | [] => s
  | d :: r => poolSendAll (if d = s.devId then s else poolSend s d op payload) op payload r

/-- LINKREP (R525, R508): bytes [3:0] hold CNV_STAT with VALID and CAUSE of CNV_DOWN in bits [19:16], which CNV_STAT
leaves 0; byte [4] the link. The master's own report stands among its taken frames. -/
def linkRep (s : State) (l : Nat) : State :=
  if inPool s then
    let w := (s.reg (Reg.CNV_STAT l)).toNat + (s.reg (Reg.CNV_DOWN l)).toNat / 2 ^ 28 * 2 ^ 16
    let b := natBytes 4 w ++ [l]
    if isMaster s then
      let f : Frame := { ty := 5, dest := s.devId, src := s.devId, opcode := 9, data := lineOf b }
      { s with pool := { s.pool with take := s.pool.take ++ [(linkDie l, 5, f, s.sets.swaps)] } }
    else poolSend s (masterId s) 0x09 b
  else s

/-! ### Leaving service (R476, R478) -/

/-- CNV_DOWN records why; its CAUSE holds while VALID is 1. -/
def linkDownRec (s : State) (l cause : Nat) : State :=
  if s.bit (Reg.CNV_DOWN l) 31 then s
  else (s.setReg (Reg.CNV_DOWN l) (BitVec.ofNat 32 (cause * 2 ^ 28))).hwBit (Reg.CNV_DOWN l) 31

def setLinkState (s : State) (l st : Nat) : State :=
  let s := s.setF (Reg.CNV_STAT l) 31 29 st
  setReadyLink s l (decide (st = 4 ∨ st = 5))

/-- OUTST, OLDEST and OCC follow the buffers (CNV_SEQA, CNV_SEQB, CNV_LAYBY). -/
def linkMirror (s : State) (l : Nat) : State :=
  let x := s.link l
  let next := s.fld (Reg.CNV_SEQA l) 11 0
  let s := s.setF (Reg.CNV_SEQA l) 23 12 ((x.rbuf.head?.map Frame.seq).getD next)
  let s := s.setF (Reg.CNV_SEQB l) 22 12 (x.rbuf.length % 2048)
  let s := s.setF (Reg.CNV_LAYBY l) 10 0 x.layby.length
  s.setF (Reg.CNV_LAYBY l) 26 16 (max (s.fld (Reg.CNV_LAYBY l) 26 16) x.layby.length)

/-- Frames lost on a link: counted, and "frames lost" raised when there are any (R463, R478). -/
def framesLost (s : State) (l n : Nat) : State :=
  if n = 0 then s
  else raiseLink (s.setF (Reg.CNV_CNT l) 15 0 (satAdd 0xFFFF (s.fld (Reg.CNV_CNT l) 15 0) n)) l 5 0xF 0

/-- What a link forgets when it leaves service; its lay-by stays. -/
def linkClear (x : Link) : Link :=
  { x with rbuf := [], arriving := .none, padq := [], timer := .none, rptr := 0, reps := 0, request := .none
           answerBy := .none, aborts := 0, laneTrain := .none, rxPend := .none, txPend := .none, lm := []
           configAck := false, echoed := false, peerReq := false, locked := 0, seed := .none }

/-- A link leaves its state for LOCK, FAILED or OFF with a cause. From ACTIVE or RENEG to LOCK or FAILED it drops the frames of its replay
buffer and its lay-by, and counts them (R478); else the lay-by keeps what it holds (R464). -/
def linkLeave (s : State) (l cause goal : Nat) : State :=
  let up := linkUp s l
  let x := s.link l
  let drops := up && decide (goal ≠ LinkState.off)
  let lay := x.layby ++ x.arriving.toList ++ x.padq.map (fun e => e.2)
  let n := x.rbuf.length + lay.length
  let s := linkDownRec s l cause
  let s := s.setLink l { linkClear x with lockAt := s.clock, layby := if drops then [] else lay.take 1024 }
  let s := if goal = LinkState.lock then s else s.setBit (Reg.CNV_TRAIN l) 0 false
  let s := s.setF (Reg.CNV_STAT l) 24 23 0
  let s := s.setBit (Reg.CNV_TRAIN l) 4 false
  let s := linkMirror (setLinkState s l goal) l
  let s := if drops then framesLost s l n else framesLost s l (lay.length - 1024)
  let s := if up then linkRep s l else s
  if goal = LinkState.failed then raiseLink s l 0 0xF 0 else s

def linkFail (s : State) (l cause : Nat) : State := linkLeave s l cause LinkState.failed

/-- A full retrain from ACTIVE or RENEG (R476). RETRAIN reads 1 until LOCK is left. -/
def linkRetrain (s : State) (l cause : Nat) : State :=
  if linkUp s l then linkLeave s l cause LinkState.lock else s

/-- The ISOLATE reaction of a link (R476, R567): CAUSE 7, EN cleared. -/
def linkIsolate (s : State) (l : Nat) : State :=
  let s := s.hwF (Reg.CNV_CTL l) 0 0 0
  let s := s.setLink l { s.link l with isolatedEn := true }
  if linkState s l = LinkState.failed then s else linkFail s l 7

end Sys2Proof.Machine
end

