-- ==== Sys2Proof/Machine/React.lean ====
section
/-! DEFINITION. The reactions of classes ISOLATE, TRIM and SAFE (R564 to R570): taking units out of service, and the mode
reactions. `settle` carries out what the assertions of a command have left owed. -/

namespace Sys2Proof.Machine

/-- A bifurcated port is isolated (R234, R357): its READY bit falls and the directory is swept. -/
def portIsolate (s : State) (p : Nat) : State :=
  let s := s.setSubp p { s.subp p with isolated := true }
  let s := { s with coh := { s.coh with sweep := true } }
  setReadySub s p false

def portsIsolate (s : State) : List Nat → State
  | [] => s
  | p :: r => portsIsolate (portIsolate s p) r

def linksIsolate (s : State) : List Nat → State
  | [] => s
  | l :: r => linksIsolate (linkIsolate s l) r

/-- A core taken out of service stops until it is restarted (R566, R567). -/
def coreIsolate (s : State) (n : Nat) : State :=
  setReadyCore (s.setCore n { s.core n with halted := true }) n false

/-- A grain crystallizer is not READY any more: when its partner is not either, the quadrant's sets are withdrawn and
"both grain crystallizers of a quadrant not READY" is raised (R295), which concerns no line. -/
def gcGone (s : State) (g : Nat) : State :=
  let was := readyGc s g
  let s := setReadyGc s g false
  let q := g / 2
  if was ∧ !readyGc s (2 * q) ∧ !readyGc s (2 * q + 1) then
    raiseWith (recordCry (withdrawAll s (setsOfQuad s q)) g 11 0) Src.grainBoth { unit := some g }
  else s

/-- The same of crypto engines (R320). -/
def xeGone (s : State) (g : Nat) : State :=
  let was := readyXe s g
  let s := setReadyXe s g false
  let q := g / 2
  if was ∧ !readyXe s (2 * q) ∧ !readyXe s (2 * q + 1) then
    raiseWith (recordXe (withdrawAll s (setsOfQuad s q)) Src.engineBoth g 0) Src.engineBoth { unit := some g }
  else s

/-- A crystallizer is isolated: its bit of CRY_UNITEN clears (R567). -/
def cryIsolate (s : State) (u : Nat) : State :=
  let s := s.hwF Reg.CRY_UNITEN u u 0
  if u < 8 then gcGone s u else setReadyHc s (u - 8) false

def xeIsolate (s : State) (u : Nat) : State := xeGone (s.hwF Reg.CRY_XEEN u u 0) u

/-- The unit that a source's ISOLATE takes out of service (R566); none: it names no unit. -/
def isoUnit (src : Nat) (i : Info) : Option Nat :=
  if src < 384 then i.sub.map (fun k => uPort (4 * (src / 24) + k % 4))
  else if src < 768 then some (uChan ((src - 384) / 16))
  else if src < 1024 then some (uLink ((src - 768) / 8))
  else if src < 1216 then some (uSlot ((src - 1024) / 4))
  else if 1244 ≤ src ∧ src < 1260 then i.unit.bind (fun u => if u < 12 then some (uCry u) else .none)
  else if 1260 ≤ src ∧ src < 1272 then i.unit.bind (fun u => if u < 8 then some (uXe u) else .none)
  else if 1280 ≤ src ∧ src < 1344 then some (uCore ((src - 1280) / 4))
  else .none

def noteIsolated (s : State) (u src : Nat) : State :=
  if s.flt.isolated.contains (u, src) then s
  else { s with flt := { s.flt with isolated := s.flt.isolated ++ [(u, src)] } }

def noteIsolatedAll (s : State) (src : Nat) : List Nat → State
  | [] => s
  | u :: r => noteIsolatedAll (noteIsolated s u src) src r

def isolateUnit (s : State) (u src : Nat) : State :=
  let s := noteIsolated s u src
  if u < 100 then portIsolate s u
  else if u < 200 then chanLost (s.hwF (Reg.DMC_CTL (u - 100)) 0 0 0) (u - 100) 7
  else if u < 300 then linkIsolate s (u - 200)
  else if u < 400 then slotIsolate s (u - 300) src
  else if u < 500 then coreIsolate s (u - 400)
  else if u < 520 then cryIsolate s (u - 500)
  else xeIsolate s (u - 520)

/-- The ISOLATE reaction of one assertion. -/
def isolate (s : State) (src : Nat) (i : Info) : State :=
  if src = 1478 ∨ src = 1479 then
    let d := src - 1478
    let s := noteIsolatedAll s src ((List.range 32).map (fun k => uPort (32 * d + k)) ++
      (List.range 16).map (fun k => uLink (16 * d + k)))
    linksIsolate (portsIsolate s ((List.range 32).map (fun k => 32 * d + k))) ((List.range 16).map (fun k => 16 * d + k))
  else match isoUnit src i with
    | some u => isolateUnit s u src
    | .none => s

/-- One owed reaction. -/
def reactOne (s : State) (r : React) : State :=
  if r.cls = 3 then isolate s r.src r.info
  else if r.cls = 4 then trimReact s
  else if r.cls = 5 then safeReact s
  else s

def reactAll (s : State) : List React → State
  | [] => s
  | r :: rs => reactAll (reactOne s r) rs

/-- Every ISOLATE is applied; of the mode reactions SAFE prevails over TRIM (R569). -/
def orderReacts (l : List React) : List React :=
  l.filter (fun r => decide (r.cls = 3)) ++ l.filter (fun r => decide (r.cls = 5)) ++
    (if l.any (fun r => decide (r.cls = 5)) then [] else l.filter (fun r => decide (r.cls = 4)))

/-- The owed reactions, and those that they raise, at most `n` rounds. -/
def settleN : Nat → State → State
  | 0, s => { s with flt := { s.flt with react := [] } }
  | n + 1, s =>
    match s.flt.react with
    | [] => s
    | l => settleN n (reactAll { s with flt := { s.flt with react := [] } } (orderReacts l))

def settle (s : State) : State := settleN 8 s

/-- The outcome of a command that runs. -/
def done (s : State) : Host.Outcome State Fault Refusal := .next (settle s)

end Sys2Proof.Machine
end

