-- ==== Sys2Proof/Machine/CoreOps.lean ====
section
/-! DEFINITION. Operations on a paludier core (spec/04, spec/05): registers, the core address map, the inbound queue, traps,
core reset and restart. -/

namespace Sys2Proof.Machine

/-! ### General registers (R100) -/

/-- Register t`r` of core `n`; t0 reads 0. -/
def getT (s : State) (n : Nat) (r : Fin 32) : DWord := if r = 0 then 0 else smGet 0 (s.core n).t r.val

/-- A write of register t`r`; a write of t0 is discarded. -/
def setT (s : State) (n : Nat) (r : Fin 32) (v : DWord) : State :=
  if r = 0 then s else s.setCore n { s.core n with t := smSet 0 (s.core n).t r.val v }

def setPc (s : State) (n : Nat) (a : DWord) : State := s.setCore n { s.core n with pc := a }

/-- STATUS.PL (R105). -/
def supervisor (s : State) (n : Nat) : Bool := bit (s.core n).status 0

/-- Paludier clocks of 2 core clocks (R102). -/
def CLK : Nat := 2

/-! ### Images in banks (R166, R174) -/

/-- PAL_SETSTAT.ACTIVE: bank B holds the active set. -/
def activeB (s : State) : Bool := s.bit Reg.PAL_SETSTAT 29

def activeImage (s : State) (n : Nat) : Option Image := if activeB s then (s.core n).imgB else (s.core n).imgA
def shadowImage (s : State) (n : Nat) : Option Image := if activeB s then (s.core n).imgA else (s.core n).imgB

/-- `n` bytes of an image's header as a number (R167). -/
def hdrNat (h : List Byte) (off n : Nat) : Nat := ofBytes ((h.drop off).take n)

/-- The table numbers of CLAIMS, up to the first 0 (R167). -/
def claims (h : List Byte) : List Nat := ((((h.drop 32).take 16).map BitVec.toNat).takeWhile (fun x => decide (x ≠ 0)))

/-- The owner of a table (R174): the lowest core whose active owner image claims it. -/
def tableOwner (s : State) (id : Nat) : Option Nat :=
  coreList.find? (fun n => match activeImage s n with
    | some i => (claims i.hdr).contains id
    | .none => false)

/-! ### The core address map (R164, R165) -/

/-- A place that a core address names. -/
inductive Place where
  /-- Local memory below 0x1_0000. -/
  | lmem (a : Nat)
  /-- A bank: B when true; and the offset in it. -/
  | bank (b : Bool) (a : Nat)
  /-- A table: the shadow view when true, the table and the offset. -/
  | table (shadow : Bool) (id off : Nat)
  deriving DecidableEq, Repr

/-- The kinds of access of R164: fetch, load, store. -/
inductive Acc where
  | fetch | load | store
  deriving DecidableEq, Repr

/-- The place of `size` bytes at a core address, when the core may reach it in that way (R164, R165, R174, R185). -/
def placeOf (s : State) (n : Nat) (k : Acc) (a size : Nat) : Option Place :=
  let sup := supervisor s n
  if a < 0x8000 then (if sup then some (.lmem a) else .none)
  else if a < 0x10000 then (if k = .fetch then .none else some (.lmem a))
  else if a < 0x28000 then some (.bank (activeB s) (a - 0x10000))
  else if a < 0x40000 then 
    (if sup && decide (k ≠ .fetch) && !(decide (k = .store) && s.bit Reg.PAL_SETSTAT 31) then
      some (.bank (!activeB s) (a - 0x28000)) else .none)
  else if k = .fetch then .none
  else if 0x100000000 ≤ a ∧ a < 0x300000000 then
    let sh := decide (0x200000000 ≤ a)
    let id := a % 0x100000000 / 0x1000000
    let off := a % 0x1000000
    let held := !tableLive id
    if tableSize id < off + size then .none
    else if !sup && decide (tableOwner s id ≠ some n) then .none
    else if decide (k = .store) && held && (!sh || s.bit Reg.PAL_SETSTAT 31) then .none
    else some (.table sh id off)
  else .none

/-- The address under which a word's parity is kept: local memory below 0x1_0000, bank A from 0x1_0000, bank B from
0x2_8000; tables keep none. -/
def parityWord : Place → Option Nat
  | .lmem a => some (a / 4)
  | .bank false a => some ((0x10000 + a) / 4)
  | .bank true a => some ((0x28000 + a) / 4)
  | .table _ _ _ => .none

/-- The words of a place of `size` bytes; at most two. -/
def parityWords (p : Place) (size : Nat) : List Nat :=
  match parityWord p with
  | .none => []
  | some w => if size = 8 then [w, w + 1] else [w]

/-- A word of local memory at the place has a parity error (R117). -/
def parityBad (s : State) (n : Nat) (p : Place) (size : Nat) : Bool :=
  (parityWords p size).any (fun w => (s.core n).bad.contains w)

/-- `k` bytes of sparse memory as a number. -/
def bytesAt (m : SMap Byte) (a : Nat) : Nat → Nat
  | 0 => 0
  | k + 1 => (smGet 0 m a).toNat + 256 * bytesAt m (a + 1) k

/-- Sparse memory with `k` bytes written. -/
def putBytes (m : SMap Byte) (a v : Nat) : Nat → SMap Byte
  | 0 => m
  | k + 1 => putBytes (smSet 0 m a (BitVec.ofNat 8 v)) (a + 1) (v / 256) k

/-- The bytes of a place. -/
def placeRead (s : State) (n : Nat) (p : Place) (size : Nat) : Nat :=
  match p with
  | .lmem a => bytesAt (s.core n).lmem a size
  | .bank false a => bytesAt (s.core n).bankA a size
  | .bank true a => bytesAt (s.core n).bankB a size
  | .table sh id off =>
    if tableLive id then s.live id off size
    else if sh then tabNat s.sets.shadow id off size else s.act id off size

/-- The bytes of a place written; a store writes fresh parity (R117). -/
def placeWrite (s : State) (n : Nat) (p : Place) (size v : Nat) : State :=
  let c := s.core n
  let c := { c with bad := c.bad.filter (fun w => !(parityWords p size).contains w) }
  match p with
  | .lmem a => s.setCore n { c with lmem := putBytes c.lmem a v size }
  | .bank false a => s.setCore n { c with bankA := putBytes c.bankA a v size }
  | .bank true a => s.setCore n { c with bankB := putBytes c.bankB a v size }
  | .table _ id off =>
    if tableLive id then s.setLive id off v size
    else { s with sets := { s.sets with shadow := tabPut s.sets.shadow id off v size } }

/-! ### Accesses of a core to memory (R158) -/

/-- A load or a fetch, or an access of a unit to a core's memory: the value, or the cause of the trap. -/
def coreLoad (s : State) (n : Nat) (k : Acc) (a size : Nat) : Except Nat Nat :=
  if a % size ≠ 0 then .error 3
  else match placeOf s n k a size with
    | .none => .error (if k = .fetch then 2 else 4)
    | some p => if parityBad s n p size then .error 9 else .ok (placeRead s n p size)

/-! ### The inbound queue (R133, R135, R138) -/

/-- The turn of a sender after the one that entered first in the last contended clock (R137). -/
def senderTurn (last snd : Nat) : Nat := (snd + 17 - last) % 18

/-- A message takes its place among those that entered in the same paludier clock. -/
def placeEntry (last : Nat) (e : QEntry) : List QEntry → List QEntry
  | [] => [e]
  | x :: r =>
    if decide (x.at_ = e.at_ ∧ x.kind ≠ 2) && decide (senderTurn last e.snd < senderTurn last x.snd) then e :: x :: r
    else x :: placeEntry last e r

/-- A message enters the queue in a paludier clock (R137), and MSG is latched (R139). -/
def Core.enqueue (c : Core) (now : Nat) (e : QEntry) : Core :=
  let e := { e with at_ := now }
  let last := if c.rrClock = now then c.rrLast else c.rrFirst
  let q := placeEntry last e c.queue
  let batch := q.filter (fun x => decide (x.at_ = now ∧ x.kind ≠ 2))
  let c := { c with queue := q, evpend := Sys2Proof.Machine.setBit c.evpend 0 true }
  if 2 ≤ batch.length then { c with rrClock := now, rrLast := last, rrFirst := (batch.head?.map QEntry.snd).getD last } else c

/-- A completion record enters the queue in the clock in which its move ends; MSG and MOVE are latched. -/
def Core.record (c : Core) (e : QEntry) : Core :=
  { c with queue := c.queue ++ [e], evpend := setFld c.evpend 1 0 3 }

/-- Messages that wait for room enter while there is some. -/
def Core.refill (c : Core) (now : Nat) : Core :=
  match c.inwait with
  | [] => c
  | e :: r => if msgCount c < 56 then Core.enqueue { c with inwait := r } now e else c

/-- A supervisor notice (KIND 3; spec/05). -/
def notice (s : State) (n code arg : Nat) : State :=
  let c := s.core n
  let e : QEntry := { kind := 3, snd := 17, sdev := s.devId, score := n, spl := true
                      data := lineOf (natBytes 4 code ++ natBytes 4 arg ++ natBytes 8 s.tide) }
  s.setCore n (Core.refill { c with inwait := c.inwait ++ [e] } (s.clock / CLK))

def noticeAll (s : State) (code arg : Nat) : List Nat → State
  | [] => s
  | n :: r => noticeAll (notice s n code arg) code arg r

/-- The oldest entry leaves the queue. -/
def popQueue (s : State) (n : Nat) : State :=
  s.setCore n (Core.refill { s.core n with queue := (s.core n).queue.tail } (s.clock / CLK))

/-! ### Core reset and restart (R108, R182, R183) -/

/-- The core reset. General registers become 0 (DESIGN CHOICE, log entry 6); local memory and the queue are kept. -/
def coreReset (c : Core) (clock : Nat) : Core :=
  { c with t := [], pc := 0, status := 1, epc := 0, cause := 0, tval := 0, tvec := 0, evpend := 0, ptag := 0, wdog := 0
           scratch := 0, wdogAt := clock, since := clock, instret := 0, halted := false, restartHeld := false, atBoundary := false
           wait := .none }

/-- A move slot of the core is busy (CSR MVBUSY). -/
def slotBusy (s : State) (n k : Nat) : Bool := s.tier.moves.any (fun m => decide (m.core.val = n ∧ m.slot = k))
def anySlotBusy (s : State) (n : Nat) : Bool := s.tier.moves.any (fun m => decide (m.core.val = n))

/-- The core reset of a restart: firmware starts at 0; an isolated core is enabled again (R567). -/
def restartNow (s : State) (n : Nat) : State :=
  let s := unisolate (s.setCore n (coreReset (s.core n) s.clock)) (uCore n)
  setReadyCore s n true

/-- A restart (R182), held while a move slot of the core is busy (R183). An isolated core whose isolating sticky bit is
set ignores it (R567). -/
def restart (s : State) (n : Nat) : State :=
  if !canEnable s (uCore n) then s
  else if anySlotBusy s n then s.setCore n { s.core n with restartHeld := true, atBoundary := false }
  else restartNow s n

/-- The restart of a core whose image a swap changed: at its next instruction boundary, and by R183 (R190). -/
def restartAtBoundary (s : State) (n : Nat) : State :=
  if canEnable s (uCore n) && (s.core n).wait.isSome then s.setCore n { s.core n with restartHeld := true, atBoundary := true }
  else restart s n

def restartAll (s : State) : List Nat → State
  | [] => s
  | n :: r => restartAll (restart s n) r

/-- PAL_CORECTLn as it reads. -/
def coreCtl (s : State) (n : Nat) : Word :=
  BitVec.ofNat 32 (8 * b2n (activeImage s n).isSome + 4 * b2n (s.core n).restartHeld + 2 * b2n (s.core n).halted)

end Sys2Proof.Machine
end

