-- ==== Sys2Proof/Machine/Sec.lean ====
section
/-! DEFINITION. The security block's checks (spec/17): SPI NOR, key records, counters, image checks (R167 to R170, R593 to
R597). -/

namespace Sys2Proof.Machine

/-! ### SPI NOR (R592) -/

def norByte (s : State) (a : Nat) : Byte := (smGet .none s.sec.nor a).getD (Config.norByte a)

def norBytes (s : State) (a : Nat) : Nat → List Byte
  | 0 => []
  | n + 1 => norByte s a :: norBytes s (a + 1) n

def setNor (s : State) (a : Nat) (b : Byte) : State :=
  { s with sec := { s.sec with nor := smSet .none s.sec.nor a (some b) } }

def putNor (s : State) (a : Nat) : List Byte → State
  | [] => s
  | b :: r => putNor (setNor s a b) (a + 1) r

/-- The boot header: PREF and TRY; a magic that does not match reads as PREF 0 (R592, R686). -/
def bootHeader (s : State) : Nat × Nat :=
  if ofBytes (norBytes s 0 4) = 0x544F4F42 then ((norByte s 4).toNat % 2, (norByte s 5).toNat) else (0, 0)

def setBootHeader (s : State) (pref try_ : Nat) : State :=
  putNor s 0 (toBytes 4 0x544F4F42 ++ [BitVec.ofNat 8 pref, BitVec.ofNat 8 try_])

/-- The NOR slot of firmware image 0 (A) or 1 (B). -/
def norSlot (i : Nat) : Nat := 0x100000 + i * 0x400000

/-! ### OTP (R590 to R597, R607) -/

/-- A valid LC row's state code. -/
def rowCode (r : Byte) : Option Nat :=
  let c := r.toNat % 16
  if r.toNat / 16 = 15 - c ∧ c ≤ 5 then some c else .none

/-- The highest valid row among rows taken from the last on. -/
def lastValid : List Byte → Nat
  | [] => 0
  | r :: rs => (rowCode r).getD (lastValid rs)

/-- The life-cycle state that OTP spells; a damaged highest row is read as R607 gives. -/
def lcOf (o : Otp) : Nat :=
  match o.rows.reverse with
  | [] => 0
  | r :: rs =>
    match rowCode r with
    | some c => c
    | .none => let c := lastValid rs; if c = 2 ∨ c = 3 ∨ c = 4 then 4 else c

def lcDamaged (o : Otp) : Bool :=
  match o.rows.reverse with
  | [] => false
  | r :: _ => (rowCode r).isNone

/-- The current owner slot (R594). -/
def ownerSlot (o : Otp) : Option Nat :=
  (List.range 4).find? (fun k => (smGet .none o.hash (16 + k)).isSome && !o.rev.testBit (16 + k))

/-- The hash that OTP holds of record `n` (R593): records 0 to 4 are written at Galaux. -/
def recordHash (o : Otp) (n : Nat) : Option (List Byte) :=
  if n < 5 then some ((smGet .none o.hash n).getD (Config.galauxHash n))
  else if 16 ≤ n ∧ n < 20 then smGet .none o.hash n
  else .none

/-- The SHA-384 of a record's manifest copy equals its OTP hash, and its REV bit is 0 (R593). -/
def recordGood (s : State) (n : Nat) : Bool :=
  match recordHash s.sec.otp n with
  | .none => false
  | some h => decide (Config.sha384 (norBytes s (0x1000 + 160 * n) 160) = h) && !s.sec.otp.rev.testBit n

/-- The manifest copy of key record `n` (R592). -/
def recordBytes (s : State) (n : Nat) : List Byte :=
  norBytes s (0x1000 + 160 * n) 160

/-- A record is valid: latched so in boot step 1, and not revoked since. -/
def recordValid (s : State) (n : Nat) : Bool := s.bit Reg.SEC_KEYSTAT n && !s.sec.otp.rev.testBit n

/-! ### Secrets and identity (R591, R601, R612) -/

/-- HMAC-SHA-384: the block is 128 B, and no key here is longer. -/
def hmac (key msg : List Byte) : List Byte :=
  let pad (x : Byte) : List Byte := (key ++ List.replicate (128 - key.length) 0).map (· ^^^ x)
  Config.sha384 (pad 0x5C ++ Config.sha384 (pad 0x36 ++ msg))

/-- HKDF-SHA-384 of at most one block, without a salt; the label is its info. -/
def hkdf (secret : List Byte) (label : String) (n : Nat) : List Byte :=
  (hmac (hmac (List.replicate 48 0) secret) (label.toList.map (fun c => BitVec.ofNat 8 c.toNat) ++ [1])).take n

/-- The UDS as OTP holds it: destroyed, every bit is 1 (R590). -/
def udsOf (o : Otp) : List Byte := if o.uds then Config.uds else List.replicate 48 0xFF

/-- The order of the P-384 group. -/
def p384Order : Nat :=
  0xFFFFFFFFFFFFFFFFFFFFFFFFFFFFFFFFFFFFFFFFFFFFFFFFC7634D81F4372DDF581A0DB248B0A77AECEC196ACCC52973

/-- Bytes as a number, the first byte highest. -/
def bigEnd (b : List Byte) : Nat := ofBytes b.reverse

/-- The private scalar that a CDI gives under a label (R601). -/
def scalarOf (cdi : List Byte) (label : String) : Nat := bigEnd (hkdf cdi label 48) % (p384Order - 1) + 1

/-- The mask over OKWKs (R591). -/
def okwkMask (o : Otp) (k : Nat) : List Byte :=
  (hmac (udsOf o) ([0x4F, 0x4B, 0x57, 0x4B] ++ [BitVec.ofNat 8 k])).take 32

/-- An OKWK field and its key give each other (R591). -/
def okwkMasked (o : Otp) (k : Nat) (b : List Byte) : List Byte := List.zipWith (· ^^^ ·) b (okwkMask o k)

def okwkStored (o : Otp) (k : Nat) : List Byte := smGet (List.replicate 32 0) o.okwk k

/-- A stored field of all zeros or all ones is absent (R591). -/
def okwkHeld (o : Otp) (k : Nat) : Bool := (okwkStored o k).any (· ≠ 0) && (okwkStored o k).any (· ≠ 0xFF)

/-- Boot step 3: CDI_0 and the DeviceID key (R598, R601). -/
def deriveId (s : State) : State :=
  let c := hmac (udsOf s.sec.otp) (Config.sha384 Config.bootRom)
  { s with sec := { s.sec with cdi0 := some c, idKey := some (scalarOf c "ID") } }

/-- Boot step 6: CDI_1, the Alias key and the Alias certificate (R598, R601, R603), over the digests of measurement blocks 2 and
3. -/
def deriveAlias (s : State) : State :=
  match s.sec.cdi0, s.sec.idKey with
  | some c, some d =>
    let c1 := hmac c (Config.sha384 s.sec.boot2 ++ Config.sha384 s.sec.runHdr)
    let a := scalarOf c1 "ALIAS"
    { s with sec := { s.sec with cdi1 := some c1, aliasKey := some a, aliasCert := Config.aliasCert d (Config.p384 a) } }
  | _, _ => s

/-- The DeviceID public key, and DEVHASH (R609). -/
def idPublic (s : State) : Option (List Byte) := s.sec.idKey.map Config.p384
def devHash (s : State) : Option (List Byte) := (idPublic s).map Config.sha384

/-- The owner key-wrapping key that a provisioning token carries (R612): none when its unwrap fails. -/
def tokenKey (s : State) (q wrapped : List Byte) : Option (List Byte) :=
  s.sec.idKey.bind (fun d => Config.unwrap (hkdf (Config.ecdh d q) "OKWK-KEK" 32) wrapped)

/-- A counter's value (R596): kind 0 FWSVN, 1 PGSVN, 2 TBSVN of an owner slot. -/
def svnKey (kind slot : Nat) : Nat := if kind = 0 then 0 else if kind = 1 then 1 + slot else 5 + slot
def svnOf (o : Otp) (kind slot : Nat) : Nat := smGet 0 o.svn (svnKey kind slot)

/-- The facts of measurement block 2 (R606). -/
def bootFacts (o : Otp) : List Byte :=
  toBytes 1 (lcOf o) ++ toBytes 1 ((ownerSlot o).getD 0xFF) ++ toBytes 4 o.rev ++
    (List.range 9).flatMap (fun k => toBytes 2 (smGet 0 o.svn k))

/-- The owner slot as latched in SEC_STATE. -/
def ownerNow (s : State) : Option Nat := if s.bit Reg.SEC_STATE 27 then some (s.fld Reg.SEC_STATE 26 25) else .none

/-- The key-wrapping key is present (R591). -/
def okwkPresent (s : State) : Bool := s.bit Reg.SEC_STATE 28

/-- The key-wrapping key of the current owner slot (R333, R591). -/
def wrappingKey (s : State) : List Byte :=
  let k := (ownerNow s).getD 0
  okwkMasked s.sec.otp k (okwkStored s.sec.otp k)

/-- The KEYIDX that the life-cycle state allows for a KIND (R607). -/
def keyAllowed (s : State) (kind k : Nat) : Bool :=
  let lc := lcState s
  let galaux := decide (k ≤ 3)
  let owner := match ownerNow s with
    | some o => decide (k = 16 + o)
    | .none => false
  if lc = 0 then decide (k = 4)
  else if kind = 0 then galaux
  else if lc = 1 ∨ lc = 4 then galaux
  else if lc = 2 then galaux || owner
  else if lc = 3 then owner
  else false

/-- The counter that an image's SVN is compared with (R596). -/
def svnFloor (s : State) (kind k : Nat) : Nat :=
  if kind = 0 then svnOf s.sec.otp 0 0
  else if k ≤ 4 then 0
  else match ownerNow s with
    | some o => svnOf s.sec.otp kind o
    | .none => 0

/-! ### Images (R167 to R170) -/

/-- The header of an image whose bytes follow. -/
def imgHdr (b : List Byte) : List Byte := b.take 128
def imgKind (h : List Byte) : Nat := hdrNat h 6 1
def imgSvn (h : List Byte) : Nat := hdrNat h 8 4
def imgCores (h : List Byte) : Nat := hdrNat h 12 2
def imgKey (h : List Byte) : Nat := hdrNat h 14 2
def imgSize (h : List Byte) : Nat := hdrNat h 16 4
def imgPayload (b : List Byte) : List Byte := (b.drop 128).take (imgSize (imgHdr b))
/-- The bytes of a whole image. -/
def imgBytes (h : List Byte) : Nat := 128 + imgSize h + 96 + 2828
def imgSigs (b : List Byte) : List Byte := (b.drop (128 + imgSize (imgHdr b))).take (96 + 2828)
/-- FLAGS.HOSTMSG. -/
def imgHostMsg (h : List Byte) : Bool := decide (hdrNat h 7 1 % 2 = 1)

/-- The format of a header (R167, R169, R170), for the KINDs that the load admits. -/
def hdrFormed (firmware : Bool) (h : List Byte) : Bool :=
  let kind := imgKind h
  let size := imgSize h
  let entry := hdrNat h 20 4
  let data := hdrNat h 24 4
  let bss := hdrNat h 28 4
  decide (h.length = 128 ∧ hdrNat h 0 4 = 0x4D494154 ∧ hdrNat h 4 2 = 1 ∧ hdrNat h 7 1 ≤ 1 ∧ hdrNat h 96 32 = 0) &&
  (if firmware then
    decide (kind = 0 ∧ 4 ≤ size ∧ size ≤ 4191252 ∧ entry < min size 32768 ∧ data ≤ 32768 ∧ bss ≤ 32768)
  else if kind = 1 then
    decide (0 < size ∧ size + bss ≤ 98304 ∧ entry % 4 = 0 ∧ entry < size ∧ data ≤ size)
  else if kind = 2 then
    decide (imgCores h = 0) &&
      (match claims h with
        | [t] => decide (tableSize t ≠ 0 ∧ size = tableSize t)
        | _ => false)
  else false)

/-- The checks of R168 and R595 in the order of boot step 5 (R598), as SEC_BOOTSTAT codes them: 1 accepted; 2 malformed;
3 KEYIDX not allowed or record not valid; 4 SVN below the counter; 5 PAYHASH; 6 ECDSA; 7 LMS. -/
def imageCheck (s : State) (firmware : Bool) (b : List Byte) : Nat :=
  let h := imgHdr b
  if !hdrFormed firmware h || decide (b.length < imgBytes h) then 2
  else if !keyAllowed s (imgKind h) (imgKey h) || !recordValid s (imgKey h) then 3
  else if imgSvn h < svnFloor s (imgKind h) (imgKey h) then 4
  else if Config.sha384 (imgPayload b) ≠ (h.drop 48).take 48 then 5
  else if !Config.ecdsaOk (recordBytes s (imgKey h)) h ((imgSigs b).take 96) then 6
  else if !Config.lmsOk (recordBytes s (imgKey h)) h ((imgSigs b).drop 96) then 7
  else 1

/-- PAL_LOADSTAT.RESULT of a check's code. -/
def loadResult (code : Nat) : Nat :=
  match code with
  | 1 => 0
  | 4 => 3
  | 6 => 1
  | 7 => 2
  | _ => 4

/-- The image in a bank again, from its parts: header, the payload as the bank holds it, signatures. -/
def bankImage (i : Image) (bank : SMap Byte) : List Byte :=
  i.hdr ++ toBytes (imgSize i.hdr) (bytesAt bank 0 (imgSize i.hdr)) ++ i.sigs

end Sys2Proof.Machine
end

