-- ==== Sys2Proof/Machine/Grain.lean ====
section
/-! DEFINITION. The grain crystallizer (spec/08): the encodings of a line, the encoder's choice, the decoder's
rejections. -/

namespace Sys2Proof.Machine

/-- A `w`-byte value is a signed `d`-byte value (R287). -/
def fitsSigned (w d x : Nat) : Bool := decide (x < 2 ^ (8 * d - 1) ∨ 2 ^ (8 * w) - 2 ^ (8 * d - 1) ≤ x)

/-- A string of bytes filled with zeros to whole sectors (R284, R289). -/
def padSectors (b : List Nat) : List Nat :=
  b ++ List.replicate (16 * ceilDiv b.length 16 - b.length) 0

/-- Repeated word (R285). -/
def encodeRepeat (line : List Nat) : Option (List Nat) :=
  let w := line.take 8
  if line = w ++ w ++ w ++ w ++ w ++ w ++ w ++ w then some (1 :: w) else .none

/-- The rows of the base-plus-delta table, in its order (R286): WSEL, w, DSEL, d. -/
def bdRows : List (Nat × Nat × Nat × Nat) :=
  [(2, 8, 0, 1), (2, 8, 1, 2), (1, 4, 0, 1), (2, 8, 2, 4), (1, 4, 1, 2), (0, 2, 0, 1)]

/-- The first word that is not a signed `d`-byte value; 0 when there is none (R287). -/
def bdBase (w d : Nat) : List Nat → Nat
  | [] => 0
  | x :: r => if fitsSigned w d x then bdBase w d r else x

/-- The deltas of the words, or none when one does not fit (R287). -/
def bdDeltas (w d base : Nat) : List Nat → Option (List Nat)
  | [] => some []
  | x :: r =>
    match bdDeltas w d base r with
    | .none => .none
    | some ds =>
      if fitsSigned w d x then some (natBytes d x ++ ds)
      else
        let y := (x + 2 ^ (8 * w) - base) % 2 ^ (8 * w)
        if fitsSigned w d y then some (natBytes d y ++ ds) else .none

/-- The MASK of the words: bit j is 1 for a word that uses BASE. -/
def bdMask (w d : Nat) : List Nat → Nat
  | [] => 0
  | x :: r => (if fitsSigned w d x then 0 else 1) + 2 * bdMask w d r

/-- Base-plus-delta (R286, R287). -/
def encodeBd (row : Nat × Nat × Nat × Nat) (line : List Nat) : Option (List Nat) :=
  let (wsel, w, dsel, d) := row
  let n := 64 / w
  let ws := words w n line
  let base := bdBase w d ws
  match bdDeltas w d base ws with
  | .none => .none
  | some ds => some ([2 + wsel * 16 + dsel * 64] ++ natBytes w base ++ natBytes (n / 8) (bdMask w d ws) ++ ds)

/-- Data bits of the pattern P (R288). -/
def patBits (p : Nat) : Nat :=
  match p with
  | 0 => 0
  | 1 => 4
  | 2 => 8
  | 3 => 16
  | 4 => 16
  | 5 => 16
  | 6 => 8
  | _ => 32

/-- A 16-bit value that is a sign-extended byte. -/
def half8 (x : Nat) : Bool := decide (x < 128 ∨ 65408 ≤ x)

/-- The pattern with the fewest data bits for a word, ties to the lower P, and its data (R288). -/
def patOf (x : Nat) : Nat × Nat :=
  if x = 0 then (0, 0)
  else if x < 8 ∨ 2 ^ 32 - 8 ≤ x then (1, x % 16)
  else if fitsSigned 4 1 x then (2, x % 256)
  else if x = x % 256 * 0x1010101 then (6, x % 256)
  else if fitsSigned 4 2 x then (3, x % 65536)
  else if x % 65536 = 0 then (4, x / 65536)
  else if half8 (x % 65536) && half8 (x / 65536) then (5, x % 256 + x / 65536 % 256 * 256)
  else (7, x)

/-- The pattern field and the data string of words: patterns, data value, data bits. -/
def fpdFields : List Nat → Nat × Nat × Nat
  | [] => (0, 0, 0)
  | x :: r =>
    let (p, d) := patOf x
    let (ps, v, n) := fpdFields r
    (p + 8 * ps, d + v * 2 ^ patBits p, patBits p + n)

/-- Pattern dictionary (R288). -/
def encodeFpd (line : List Nat) : Option (List Nat) :=
  let (ps, v, n) := fpdFields (words 4 16 line)
  let len := ceilDiv n 8
  if 7 + len ≤ 48 then some ([3] ++ natBytes 6 ps ++ natBytes len v) else .none

/-- The candidates that exist, in the order that settles ties (R290), under the enables of CRY_GCTL. -/
def grainCands (rw bd fpd : Bool) (line : List Nat) : List (List Nat) :=
  ([if rw then encodeRepeat line else .none] ++
    bdRows.map (fun r => if bd then encodeBd r line else .none) ++
    [if fpd then encodeFpd line else .none]).filterMap id

/-- The earliest candidate with the fewest sectors. -/
def bestCand : List (List Nat) → Option (List Nat)
  | [] => .none
  | c :: r =>
    match bestCand r with
    | .none => some c
    | some b => if ceilDiv c.length 16 ≤ ceilDiv b.length 16 then some c else some b

/-- The size code and the sectors' bytes of a line (R283, R290). -/
def grainEncode (rw bd fpd : Bool) (line : List Nat) : Nat × List Nat :=
  if line.all (fun b => b = 0) then (0, [])
  else match bestCand (grainCands rw bd fpd line) with
    | some c => if c.length ≤ 48 then (ceilDiv c.length 16, padSectors c) else (4, line)
    | .none => (4, line)

/-- Sign extension of a `d`-byte value to `w` bytes. -/
def sextBytes (w d x : Nat) : Nat := if x < 2 ^ (8 * d - 1) then x else x + 2 ^ (8 * w) - 2 ^ (8 * d)

/-- The words that BASE, MASK and deltas decode to (R286). -/
def bdWords (w d base : Nat) : Nat → Nat → List Nat → List Nat
  | 0, _, _ => []
  | n + 1, mask, ds =>
    natBytes w (((if mask % 2 = 1 then base else 0) + sextBytes w d (bytesNat (ds.take d))) % 2 ^ (8 * w)) ++
      bdWords w d base n (mask / 2) (ds.drop d)

/-- The words that patterns and a data string decode to (R288), with the data bits used. -/
def fpdWords : Nat → Nat → Nat → List Nat × Nat
  | 0, _, _ => ([], 0)
  | n + 1, ps, v =>
    let p := ps % 8
    let k := patBits p
    let d := v % 2 ^ k
    let x := match p with
      | 0 => 0
      | 1 => if d < 8 then d else d + 2 ^ 32 - 16
      | 2 => sextBytes 4 1 d
      | 3 => sextBytes 4 2 d
      | 4 => d * 65536
      | 5 => sextBytes 2 1 (d % 256) + sextBytes 2 1 (d / 256) * 65536
      | 6 => d * 0x1010101
      | _ => d
    let (r, m) := fpdWords n (ps / 8) (v / 2 ^ k)
    (natBytes 4 x ++ r, k + m)

/-- The row of a WSEL and DSEL pair; none: reserved (R287). -/
def bdRow (wsel dsel : Nat) : List (Nat × Nat × Nat × Nat) → Option (Nat × Nat)
  | [] => .none
  | (a, w, b, d) :: r => if a = wsel ∧ b = dsel then some (w, d) else bdRow wsel dsel r

/-- Length and padding are as the size code gives (R289). -/
def lenOk (code len : Nat) (b : List Nat) : Bool :=
  decide (ceilDiv len 16 = code) && (b.drop len).all (fun x => x = 0)

/-- The line that a coded string of size code 1 to 3 decodes to; none: rejected (R289). -/
def grainDecodeCoded (code : Nat) (b : List Nat) : Option (List Nat) :=
  let h := b.headD 0
  match h % 16 with
  | 1 =>
    if h / 16 = 0 && lenOk code 9 b then
      let w := (b.drop 1).take 8
      some (w ++ w ++ w ++ w ++ w ++ w ++ w ++ w)
    else .none
  | 2 =>
    match bdRow (h / 16 % 4) (h / 64) bdRows with
    | .none => .none
    | some (w, d) =>
      let n := 64 / w
      let len := 1 + w + n / 8 + n * d
      if lenOk code len b then
        some (bdWords w d (bytesNat ((b.drop 1).take w)) n (bytesNat ((b.drop (1 + w)).take (n / 8)))
          (b.drop (1 + w + n / 8)))
      else .none
  | 3 =>
    let v := bytesNat (b.drop 7)
    let (r, m) := fpdWords 16 (bytesNat ((b.drop 1).take 6)) v
    if h / 16 = 0 && decide (ceilDiv (7 + ceilDiv m 8) 16 = code) && decide (v / 2 ^ m = 0) then some r else .none
  | _ => .none

/-- The line of a size code 1 to 4 and its sectors' bytes; none: rejected (R283, R289). -/
def grainDecode (code : Nat) (b : List Nat) : Option (List Nat) :=
  if code = 4 then some (b.take 64) else grainDecodeCoded code b

end Sys2Proof.Machine
end

