-- ==== Sys2Proof/Machine/Heap.lean ====
section
/-! DEFINITION. The heap stream of a T2 page (spec/08, R296 to R305): canonical prefix codes, tokens, the decoder with its
rejections, and the encoder whose choices R303 fixes. A page is 4,096 bytes, a bit string a list of truth values. -/

namespace Sys2Proof.Machine

/-! ### Tokens and their symbols (R301) -/

inductive Tok where
  | lit (b : Nat)
  | copy (len dist : Nat)
  deriving DecidableEq, Repr

/-- Extra bits and first length of length symbols 256 upward. -/
def lenRows : List (Nat × Nat) :=
  [(0, 3), (0, 4), (0, 5), (0, 6), (0, 7), (0, 8), (1, 9), (1, 11), (2, 13), (2, 17), (3, 21), (3, 29), (4, 37), (5, 53),
   (6, 85), (7, 149)]

/-- Extra bits and first distance of distance symbols 0 to 23. -/
def distRows : List (Nat × Nat) :=
  [(0, 1), (0, 2), (0, 3), (0, 4)] ++
    (List.range 10).flatMap (fun m => [(m + 1, 2 ^ (m + 2) + 1), (m + 1, 3 * 2 ^ (m + 1) + 1)])

/-- The row that covers a value: symbol, extra bits, extra value. -/
def symOf : List (Nat × Nat) → Nat → Nat → Option (Nat × Nat × Nat)
  | [], _, _ => .none
  | (e, b) :: r, k, v => if b ≤ v ∧ v < b + 2 ^ e then some (k, e, v - b) else symOf r (k + 1) v

def lenSym (n : Nat) : Nat × Nat × Nat := (symOf lenRows 256 n).getD (256, 0, 0)
def distSym (n : Nat) : Nat × Nat × Nat := (symOf distRows 0 n).getD (0, 0, 0)

/-! ### Canonical codes (R299) -/

/-- The first code of a length. -/
def firstCode (lens : List Nat) : Nat → Nat
  | 0 => 0
  | n + 1 => (firstCode lens n + (if n = 0 then 0 else lens.count n)) * 2

/-- The code of a symbol: its length and its value. -/
def codeOf (lens : List Nat) (s : Nat) : Nat × Nat :=
  let l := lens.getD s 0
  (l, firstCode lens l + (lens.take s).count l)

/-- The lengths of the fixed tables. -/
def fixedLit : List Nat := List.replicate 256 9 ++ List.replicate 16 5
def fixedDist : List Nat := List.replicate 8 4 ++ List.replicate 16 5

/-- Lengths are in form (R298): some symbol is used, Σ 2^−length ≤ 1, and a lone symbol has length 1. -/
def lensOk (lens : List Nat) : Bool :=
  let used := lens.filter (fun l => decide (l ≠ 0))
  decide (used ≠ []) && decide ((used.map (fun l => 2 ^ (15 - l))).sum ≤ 2 ^ 15) &&
    (decide (used.length ≠ 1) || decide (used = [1]))

/-! ### Bits (R300) -/

/-- `n` bits of a value, most significant first. -/
def msbBits : Nat → Nat → List Bool
  | 0, _ => []
  | n + 1, v => v.testBit n :: msbBits n v

/-- `n` bits of a value, least significant first. -/
def lsbBits : Nat → Nat → List Bool
  | 0, _ => []
  | n + 1, v => v.testBit 0 :: lsbBits n (v / 2)

def bitsNat : List Bool → Nat
  | [] => 0
  | b :: r => b2n b + 2 * bitsNat r

/-- Bytes of a bit string, bit k at bit k mod 8 of byte k div 8; `n` bytes. -/
def packBits : Nat → List Bool → List Nat
  | 0, _ => []
  | n + 1, l => bitsNat (l.take 8) :: packBits n (l.drop 8)

def unpackBits (l : List Nat) : List Bool := l.flatMap (lsbBits 8)

/-! ### The decoder (R302) -/

/-- The symbol that the front of a bit string spells, and the rest; none: no assigned code matches. -/
def takeSym (lens : List Nat) (n l c : Nat) (bits : List Bool) : Option (Nat × List Bool) :=
  match n, bits with
  | 0, _ => .none
  | _, [] => .none
  | n + 1, b :: r =>
    let c := 2 * c + b2n b
    let l := l + 1
    let first := firstCode lens l
    if first ≤ c ∧ c < first + lens.count l then
      (((List.range lens.length).filter (fun s => decide (lens.getD s 0 = l)))[c - first]?).map (fun s => (s, r))
    else takeSym lens n l c r

/-- Extra bits, least significant first. -/
def takeExtra (n : Nat) (bits : List Bool) : Option (Nat × List Bool) :=
  if bits.length < n then .none else some (bitsNat (bits.take n), bits.drop n)

/-- `n` bytes copied from `d` bytes back; the page is kept newest byte first. -/
def copyBack (d : Nat) : Nat → List Nat → List Nat
  | 0, p => p
  | n + 1, p => copyBack d n (p.getD (d - 1) 0 :: p)

/-- The page, newest byte first, and the bits after the last token. -/
def takeTokens (lit dist : List Nat) : Nat → List Nat → Nat → List Bool → Option (List Nat × List Bool)
  | 0, _, _, _ => .none
  | n + 1, page, len, bits =>
    if len = 4096 then some (page, bits)
    else
      match takeSym lit 15 0 0 bits with
      | .none => .none
      | some (s, r) =>
        if s < 256 then takeTokens lit dist n (s :: page) (len + 1) r
        else
          match lenRows[s - 256]? with
          | .none => .none
          | some (e, b) =>
            match takeExtra e r with
            | .none => .none
            | some (x, r) =>
              match takeSym dist 15 0 0 r with
              | .none => .none
              | some (t, r) =>
                match distRows[t]? with
                | .none => .none
                | some (e2, b2) =>
                  match takeExtra e2 r with
                  | .none => .none
                  | some (y, r) =>
                    if len < b2 + y ∨ 4096 < len + b + x then .none
                    else takeTokens lit dist n (copyBack (b2 + y) (b + x) page) (len + b + x) r

/-- The nibbles of 148 B of code lengths: even symbols in the low nibble. -/
def nibbles (l : List Nat) : List Nat := l.flatMap (fun b => [b % 16, b / 16 % 16])

def zeroLines (mask : Nat) (page : List Nat) : List Nat :=
  (List.range 64).flatMap (fun i => if mask.testBit i then List.replicate 64 0 else (page.drop (64 * i)).take 64)

/-- The POISON bits and the page that a coded stream decodes to; none: rejected. -/
def heapDecode (run : List Nat) : Option (Nat × List Nat) :=
  let len := bytesNat (run.take 2)
  let flags := run.getD 3 0
  let mask := bytesNat ((run.drop 4).take 8)
  if len < 17 ∨ 3840 < len ∨ run.length < len ∨ run.getD 2 0 ≠ 1 ∨ 2 ≤ flags then .none
  else
    let body := (run.take len).drop 16
    let tabs : Option (List Nat × List Nat × List Nat) :=
      if flags = 1 then some (fixedLit, fixedDist, body)
      else if body.length < 148 then .none
      else
        let lit := nibbles (body.take 136)
        let dist := nibbles ((body.drop 136).take 12)
        if lensOk lit && lensOk dist then some (lit, dist, body.drop 148) else .none
    match tabs with
    | .none => .none
    | some (lit, dist, b) =>
      match takeTokens lit dist 4097 [] 0 (unpackBits b) with
      | .none => .none
      | some (p, rest) =>
        let page := p.reverse
        if rest.all (fun b => !b) && decide (crc32c (zeroLines mask page) = bytesNat ((run.drop 12).take 4)) then
          some (mask, page)
        else .none

/-! ### The encoder's tokens (R303) -/

/-- The length of the match of positions `q` and `p`, at most `n`. -/
def matchLen (a : Array Nat) (q p : Nat) : Nat → Nat
  | 0 => 0
  | n + 1 => if a.getD q 0 = a.getD p 0 then matchLen a (q + 1) (p + 1) n + 1 else 0

/-- The `n` newest of the positions below `k` whose 3 bytes equal those at `p`. -/
def chainAt (a : Array Nat) (p : Nat) : Nat → Nat → List Nat
  | 0, _ => []
  | _, 0 => []
  | k + 1, n + 1 =>
    if a.getD k 0 = a.getD p 0 ∧ a.getD (k + 1) 0 = a.getD (p + 1) 0 ∧ a.getD (k + 2) 0 = a.getD (p + 2) 0 then
      k :: chainAt a p k n
    else chainAt a p k (n + 1)

/-- The longest match of a chain, the nearest among equals: length and distance. -/
def bestMatch (a : Array Nat) (p : Nat) : List Nat → Option (Nat × Nat)
  | [] => .none
  | q :: r =>
    let l := matchLen a q p (min 276 (4096 - p))
    match bestMatch a p r with
    | some (m, d) => if m ≤ l then some (l, p - q) else some (m, d)
    | .none => some (l, p - q)

def searchAt (a : Array Nat) (depth p : Nat) : Option (Nat × Nat) :=
  if 4094 ≤ p then .none else bestMatch a p (chainAt a p p (2 ^ depth))

def tokensFrom (a : Array Nat) (depth : Nat) (lazy : Bool) : Nat → Nat → List Tok
  | 0, _ => []
  | n + 1, p =>
    if 4096 ≤ p then []
    else
      match searchAt a depth p with
      | .none => .lit (a.getD p 0) :: tokensFrom a depth lazy n (p + 1)
      | some (l, d) =>
        match (if lazy then searchAt a depth (p + 1) else .none) with
        | some (l2, d2) =>
          if l < l2 then .lit (a.getD p 0) :: .copy l2 d2 :: tokensFrom a depth lazy n (p + 1 + l2)
          else .copy l d :: tokensFrom a depth lazy n (p + l)
        | .none => .copy l d :: tokensFrom a depth lazy n (p + l)

/-! ### Code lengths of at most 15 bits with the fewest total bits -/

/-- Pairs of neighbours, joined; an odd last one is dropped. -/
def packages : List (Nat × List Nat) → List (Nat × List Nat)
  | a :: b :: r => (a.1 + b.1, a.2 ++ b.2) :: packages r
  | _ => []

def mergeByWeight : Nat → List (Nat × List Nat) → List (Nat × List Nat) → List (Nat × List Nat)
  | 0, _, _ => []
  | _, [], b => b
  | _, a, [] => a
  | n + 1, x :: a, y :: b => if x.1 ≤ y.1 then x :: mergeByWeight n a (y :: b) else y :: mergeByWeight n (x :: a) b

def insertByWeight (e : Nat × List Nat) : List (Nat × List Nat) → List (Nat × List Nat)
  | [] => [e]
  | x :: r => if e.1 ≤ x.1 then e :: x :: r else x :: insertByWeight e r

/-- The list of the package-merge method after `n` further levels. -/
def packLevels (leaves : List (Nat × List Nat)) : Nat → List (Nat × List Nat) → List (Nat × List Nat)
  | 0, l => l
  | n + 1, l => packLevels leaves n (mergeByWeight (2 * leaves.length + l.length) leaves (packages l))

/-- Code lengths for symbol frequencies. -/
def codeLens (freq : List Nat) : List Nat :=
  let used := (List.range freq.length).filter (fun s => decide (freq.getD s 0 ≠ 0))
  match used with
  | [] => (List.replicate freq.length 0).set 0 1
  | [s] => (List.replicate freq.length 0).set s 1
  | _ =>
    let leaves := used.foldl (fun l s => insertByWeight (freq.getD s 0, [s]) l) []
    let chosen := ((packLevels leaves 14 leaves).take (2 * leaves.length - 2)).flatMap Prod.snd
    (List.range freq.length).map (fun s => chosen.count s)

def litSym (t : Tok) : Nat := match t with | .lit b => b | .copy l _ => (lenSym l).1
def dstSym (t : Tok) : Option Nat := match t with | .lit _ => .none | .copy _ d => some (distSym d).1

def tokBits (lit dist : List Nat) (t : Tok) : List Bool :=
  let code (lens : List Nat) (s : Nat) : List Bool := let c := codeOf lens s; msbBits c.1 c.2
  match t with
  | .lit b => code lit b
  | .copy l d =>
    let (ls, le, lx) := lenSym l
    let (ds, de, dx) := distSym d
    code lit ls ++ lsbBits le lx ++ code dist ds ++ lsbBits de dx

/-- The stream after the header for given tables: its bytes. -/
def streamBody (lit dist : List Nat) (ts : List Tok) : List Nat :=
  let b := ts.flatMap (tokBits lit dist)
  packBits (ceilDiv b.length 8) b

def packNibbles : List Nat → List Nat
  | a :: b :: r => (a + 16 * b) :: packNibbles r
  | _ => []

/-- The coded stream of a page, its poisoned lines as zeros; none: the coded stream would exceed 3,840 B (R296). -/
def heapEncode (depth : Nat) (lazy dyn : Bool) (mask : Nat) (page : List Nat) : Option (List Nat) :=
  let page := zeroLines mask page
  let ts := tokensFrom page.toArray depth lazy 4096 0
  let syms := ts.map litSym
  let dsts := ts.filterMap dstSym
  let fix := streamBody fixedLit fixedDist ts
  let lit := codeLens ((List.range 272).map (fun s => syms.count s))
  let dist := codeLens ((List.range 24).map (fun s => dsts.count s))
  let var := packNibbles lit ++ packNibbles dist ++ streamBody lit dist ts
  let fixed := !dyn || decide (fix.length < var.length)
  let body := if fixed then fix else var
  let len := 16 + body.length
  if 3840 < len then .none
  else some (natBytes 2 len ++ [1, b2n fixed] ++ natBytes 8 mask ++ natBytes 4 (crc32c page) ++ body)

end Sys2Proof.Machine
end

