-- ==== Sys2Proof/Machine/Tier.lean ====
section
/-! DEFINITION. Placement (spec/07): map ranges, tier map entries, size vectors, free and release rings, allocation; and
what stands in the runs of a page (spec/08, spec/09, spec/15). Entries and size-vector records stand in the bursts of the map
regions, before which stand the caches of R247. -/

namespace Sys2Proof.Machine

/-! ### Map ranges (R236 to R238, R719) -/

/-- The set whose map range holds a page. -/
def mapSetOf (s : State) (page : Nat) : Option Nat :=
  (List.range 24).find? (fun n => setV s n && decide (mapBase s n ≤ page ∧ page < mapBase s n + mapPages s n))

/-- The bytes of a set's map region (R236). -/
def mapRegion (s : State) (n : Nat) : Nat := mapRegionBytes (mapPages s n)

/-- A page operand in range (R118). -/
def pageInRange (s : State) (page : Nat) : Bool := decide (page < exposedPages) && (mapSetOf s page).isSome

/-- The map block of a page in its set (R90). -/
def mapBlock (s : State) (n page : Nat) : Nat := (page - mapBase s n) / 8192

/-- Phase 3 has written the map block of a page (R90). -/
def blockWritten (s : State) (n page : Nat) : Bool := blockDone s n (mapBlock s n page)

/-- A burst of the tier map of a set that holds entries of a map block. -/
def inMapBlock (s : State) (n b k : Nat) : Bool :=
  match burstLoc s n k with
  | .none => false
  | some l => decide (l < 8 * mapPages s n ∧ l / 65536 = b)

/-- Phase 3 writes a map block (R90): every burst of it holds eight TU entries; its lines are charged to SL254 (R420, R421). -/
def putBlock (s : State) (n b : Nat) : State :=
  let s := charge s false 254 1024 .amber
  let w := setWipe s n
  let s := putWipe s n { w with blocks := w.blocks ++ [b] }
  tick { s with dram := { s.dram with bursts := s.dram.bursts.filter (fun e => !inMapBlock s n b e.1) } } bSweep 4 1

/-- Phase 3 writes the map block of a page ahead of its sweep (R93, R96). -/
def writeBlock (s : State) (page : Nat) : State :=
  match mapSetOf s page with
  | .none => s
  | some n => if blockWritten s n page then s else putBlock s n (mapBlock s n page)

/-! ### Entries (R239 to R241) -/

namespace Ent
def t0 : Nat := 0
def t1 : Nat := 1
def t2 : Nat := 2
def tr : Nat := 3
def tz : Nat := 4
def tu : Nat := 5
end Ent

def eState (e : DWord) : Nat := fld e 63 61
def eMv (e : DWord) : Bool := bit e 60
def eOwn (e : DWord) : Nat := fld e 59 56
def eSet (e : DWord) : Nat := fld e 55 51
def eCell (e : DWord) : Nat := fld e 34 0
def eNc (e : DWord) : Nat := fld e 36 35
def eBlk (e : DWord) : Nat := fld e 36 0
def eNb (e : DWord) : Nat := fld e 40 37
def eDev (e : DWord) : Nat := fld e 50 41
def ePpage (e : DWord) : Nat := fld e 40 7

/-- An entry of a state with its OWN, SET and low fields. -/
def mkEnt (st own set low : Nat) : DWord := BitVec.ofNat 64 (st * 2 ^ 61 + own % 16 * 2 ^ 56 + set % 32 * 2 ^ 51 + low % 2 ^ 51)

/-- The empty run (R241). -/
def emptyRun (e : DWord) : Bool := decide (eState e = Ent.t1 ∧ eCell e = 0x7FFFFFFFF ∧ eNc e = 0)

/-! ### The map region and its caches (R236, R243, R247) -/

/-- The place of a page in its set's map range; the location of its 8 B entry and of its 32 B size-vector record (R236). -/
def mapIdx (s : State) (n page : Nat) : Nat := page - mapBase s n
def entLoc (s : State) (n page : Nat) : Nat := 8 * mapIdx s n page
def svLoc (s : State) (n page : Nat) : Nat := 8 * mapPages s n + 32 * mapIdx s n page

/-- The burst of a set at a location of its map region. -/
def mapKey (s : State) (n loc : Nat) : Nat := burstAt s n (loc / 64 * 64)

/-- Bits from `lo` on of a line. -/
def lineField (l : Line) (lo w : Nat) : Nat := l.toNat / 2 ^ lo % 2 ^ w

/-- The eight entries of a line of a map region as DRAM holds them. -/
def regionLine (s : State) (n li : Nat) : List DWord :=
  let b := (s.burst (mapKey s n (64 * li))).raw
  (List.range 8).map (fun j => BitVec.ofNat 64 (lineField b (64 * j) 64))

/-- The key of a set of ways in a quadrant's cache; which bits pick it the spec does not say (DESIGN CHOICE, log entry 14). -/
def mapWay (h li : Nat) : Nat := 8192 * h + li % 8192
def svWay (h page : Nat) : Nat := 8192 * h + page / 4 % 8192

/-- The cached line of a set's map region in a quadrant. -/
def cachedLine (s : State) (h n li : Nat) : Option MapLine :=
  (smGet [] s.tier.mapc (mapWay h li)).find? (fun x => decide (x.set = n ∧ x.line = li))

def cachedSv (s : State) (page : Nat) : Option SvRec :=
  (smGet [] s.tier.svc (svWay (homeSlice (page * 4096)) page)).find? (fun x => decide (x.page = page))

/-- The tier map cache holds the entry of a page. An entry of an unwritten map block needs no read of the region (R90). -/
def mapHit (s : State) (page : Nat) : Bool :=
  match mapSetOf s page with
  | .none => true
  | some n => !blockWritten s n page || (cachedLine s (homeSlice (page * 4096)) n (mapIdx s n page / 8)).isSome

/-- A burst of 64 B stored as it stands, with the check over its bytes (R317, R538). -/
def plainBurst (l : Line) : Burst :=
  let x (k : Nat) : Sect := { val := BitVec.ofNat 128 (l.toNat / 2 ^ (128 * k)) }
  mkBurst (x 0) (x 1) (x 2) (x 3)

/-- The pages whose entries stand in a cached line, or in a burst of a map region that has been written. -/
def knownPages (s : State) : List Nat :=
  let line (n li : Nat) : List Nat := (List.range 8).map (fun j => mapBase s n + 8 * li + j)
  (s.tier.mapc.flatMap (fun e => e.2.flatMap (fun x => line x.set x.line)) ++
    s.dram.bursts.flatMap (fun e => match setOfChan s (keyChan e.1) with
      | .none => []
      | some n => match burstLoc s n e.1 with
        | .none => []
        | some l => if l < 8 * mapPages s n then line n (l / 64) else [])).eraseDups

/-- A dirty line goes back to the region: the entries of pages of this quadrant, the only ones that it serves (R18). -/
def writeBack (s : State) (h : Nat) (x : MapLine) : State :=
  if !x.dirty then s
  else
    let k := mapKey s x.set (64 * x.line)
    let old := regionLine s x.set x.line
    let mine (j : Nat) : Bool := decide (homeSlice ((mapBase s x.set + 8 * x.line + j) * 4096) = h)
    let new := (List.range 8).map (fun j => if mine j then x.ents.getD j 0 else old.getD j 0)
    s.writeBurst k (plainBurst (lineOf (new.flatMap (fun e => natBytes 8 e.toNat))))

/-- A line joins a set of 8 ways; a full set gives up the way that pseudo-LRU names. -/
def insertLine (s : State) (h : Nat) (x : MapLine) : State :=
  let k := mapWay h x.line
  let l := smGet [] s.tier.mapc k
  let put (s : State) (l : List MapLine) : State := { s with tier := { s.tier with mapc := smSet [] s.tier.mapc k (l ++ [x]) } }
  if l.length < 8 then put s l
  else match l[Config.lru s.fresh l.length % l.length]? with
    | .none => put s l
    | some v => put (writeBack s.draw h v) (l.erase v)

/-- The line of a page is brought into its quadrant's cache (R247). -/
def fetchLine (s : State) (n page : Nat) : State :=
  let h := homeSlice (page * 4096)
  let li := mapIdx s n page / 8
  match cachedLine s h n li with
  | some _ => s
  | .none => insertLine s h { set := n, line := li, ents := regionLine s n li }

/-- The entry of a page, MV apart: the TU entry while its map block is unwritten (R90), else the cached entry, else the region's. -/
def storedEntry (s : State) (page : Nat) : DWord :=
  match mapSetOf s page with
  | .none => BitVec.allOnes 64
  | some n =>
    if blockWritten s n page then
      let li := mapIdx s n page / 8
      ((match cachedLine s (homeSlice (page * 4096)) n li with
        | some x => x.ents
        | .none => regionLine s n li).getD (mapIdx s n page % 8) 0)
    else tuEntry n

/-- The read of a page's entry from the map region fails (source 1,233). -/
def entryUnread (s : State) (page : Nat) : Bool :=
  !mapHit s page && (match mapSetOf s page with
    | .none => false
    | some n => mapBurstBad (s.burst (mapKey s n (entLoc s n page))))

/-- A PMOV of the page is in progress (R270). -/
def moving (s : State) (page : Nat) : Bool := s.tier.moves.any (fun m => decide (m.page = page))

/-- The entry as the tier map unit sees it (R121): MV is 1 while a PMOV of the page is in progress. -/
def entryOf (s : State) (page : Nat) : DWord := if moving s page then setBit (storedEntry s page) 60 true else storedEntry s page

/-- The page leaves the heap page buffer, and no decode admitted before will enter it (R248, R308). -/
def dropBuffer (s : State) (page : Nat) : State :=
  let h := homeSlice (page * 4096)
  { s with tier := { s.tier with
      bufs := smSet [] s.tier.bufs h ((smGet [] s.tier.bufs h).filter (fun b => decide (b.page ≠ page)))
      jobs := s.tier.jobs.map (fun j => if j.page = page ∧ j.kind = 0 then { j with drop := true } else j) } }

/-- The entry of a page in its cached line is replaced, and the line becomes dirty. -/
def MapLine.put (x : MapLine) (j : Nat) (e : DWord) : MapLine := { x with ents := x.ents.set j e, dirty := true }

/-- An entry is written to the map through its cache, with MV 0 as DRAM holds it; the page leaves the heap page buffer (R248). -/
def setEntry (s : State) (page : Nat) (e : DWord) : State :=
  match mapSetOf s page with
  | .none => s
  | some n =>
    let h := homeSlice (page * 4096)
    let li := mapIdx s n page / 8
    let s := fetchLine (dropBuffer s page) n page
    let k := mapWay h li
    let put (x : MapLine) : MapLine :=
      if x.set = n ∧ x.line = li then x.put (mapIdx s n page % 8) (setBit e 60 false) else x
    { s with tier := { s.tier with mapc := smSet [] s.tier.mapc k ((smGet [] s.tier.mapc k).map put) } }

/-- The owner's program rewrites a page's entry through PMOV or PZERO, which ends its poison (R280). -/
def endLost (s : State) (page : Nat) : State :=
  { s with tier := { s.tier with lost := s.tier.lost.filter (fun p => decide (p ≠ page)) } }

/-- A run of a set lies in it and outside the map region. -/
def runFits (s : State) (n start len : Nat) : Bool := decide (mapRegion s n ≤ start ∧ start + len ≤ setCapacity s n)

/-- A malformed entry (R240), MV being that of the copy in DRAM. A set with V = 0 has no place for a run; that case is R719's. -/
def malformed (s : State) (e : DWord) : Bool :=
  let n := eSet e
  if 6 ≤ eState e ∨ 24 ≤ n ∨ eMv e then true
  else
    match eState e with
    | 0 => decide (fld e 50 35 ≠ 0) || (setV s n && !runFits s n (1024 * eCell e) 4096)
    | 1 => decide (fld e 50 37 ≠ 0) ||
        (setV s n && !emptyRun e && !runFits s n (1024 * eCell e) (1024 * (eNc e + 1)))
    | 2 => decide (fld e 50 41 ≠ 0) || (setV s n && !runFits s n (256 * eBlk e) (256 * (eNb e + 1)))
    | 3 => decide (fld e 6 0 ≠ 0)
    | _ => decide (fld e 50 0 ≠ 0)

/-- The page's map set is servable, and so is the set of its cells, if it has any (R238, R241, R719). -/
def pageServable (s : State) (page : Nat) : Bool :=
  match mapSetOf s page with
  | .none => false
  | some n =>
    let e := storedEntry s page
    setServable s n && (decide (2 < eState e) || emptyRun e || setServable s (eSet e))

/-! ### Size codes (R243 to R245) -/

/-- The size-vector record of a page as the map region holds it: CODES and SVCHK (R243). -/
def regionSv (s : State) (page : Nat) : SvRec :=
  match mapSetOf s page with
  | .none => { page := page, codes := 0, chk := 0 }
  | some n =>
    let b := (s.burst (mapKey s n (svLoc s n page))).raw
    let o := svLoc s n page % 64 * 8
    { page := page, codes := lineField b o 192, chk := BitVec.ofNat 32 (lineField b (o + 192) 32) }

def svOf (s : State) (page : Nat) : SvRec := (cachedSv s page).getD (regionSv s page)

/-- The size codes of a T1 page, 192 bits. -/
def codesOf (s : State) (page : Nat) : Nat := (svOf s page).codes

/-- SVCHK over CODES and the page number (R243). -/
def svCheck (page codes : Nat) : Nat := crc32c (natBytes 24 codes ++ natBytes 8 page)

/-- The record's read from the map region fails (source 1,233). -/
def svUnread (s : State) (page : Nat) : Bool :=
  (cachedSv s page).isNone && (match mapSetOf s page with
    | .none => false
    | some n => mapBurstBad (s.burst (mapKey s n (svLoc s n page))))

/-- A record joins a set of 8 ways of a size-vector cache. -/
def insertSv (s : State) (x : SvRec) : State :=
  let k := svWay (homeSlice (x.page * 4096)) x.page
  let l := (smGet [] s.tier.svc k).filter (fun y => decide (y.page ≠ x.page))
  let put (s : State) (l : List SvRec) : State := { s with tier := { s.tier with svc := smSet [] s.tier.svc k (l ++ [x]) } }
  if l.length < 8 then put s l
  else match l[Config.lru s.fresh l.length % l.length]? with
    | .none => put s l
    | some v => put s.draw (l.erase v)

/-- The record of a page is brought into its quadrant's cache. -/
def fetchSv (s : State) (page : Nat) : State :=
  match cachedSv s page with
  | some _ => s
  | .none => insertSv s (regionSv s page)
def codeAt (codes i : Nat) : Nat := codes / 8 ^ i % 8
def setCode3 (codes i c : Nat) : Nat := codes - codeAt codes i * 8 ^ i + c * 8 ^ i

/-- A size-vector record as the region stores it: CODES, SVCHK, RSV. -/
def svBytes (page codes : Nat) : List Nat := natBytes 24 codes ++ natBytes 4 (svCheck page codes) ++ natBytes 4 0

/-- A size vector is written to the region and to the cache, which R247 does not call write-back (DESIGN CHOICE, log entry 14). -/
def setCodes (s : State) (page c : Nat) : State :=
  match mapSetOf s page with
  | .none => s
  | some n =>
    let k := mapKey s n (svLoc s n page)
    let old := lineBytes (s.burst k).raw
    let o := svLoc s n page % 64
    let s := s.writeBurst k (plainBurst (lineOf (old.take o ++ svBytes page c ++ old.drop (o + 32))))
    insertSv s { page := page, codes := c, chk := BitVec.ofNat 32 (svCheck page c) }

/-- Sectors of a size code. -/
def codeSectors (c : Nat) : Nat := if c ≤ 4 then c else 0

/-- s(i): the sectors of the lines before line `i` (R244). -/
def sectorsBefore (codes : Nat) : Nat → Nat
  | 0 => 0
  | i + 1 => sectorsBefore codes i + codeSectors (codeAt codes i)

/-- The codes of 64 lines as one value. -/
def packCodes : List Nat → Nat
  | [] => 0
  | c :: r => c + 8 * packCodes r

/-- SVCHK of a page's record fails (R245). -/
def svBad (s : State) (page : Nat) : Bool :=
  decide ((svOf s page).chk.toNat ≠ svCheck page (svOf s page).codes % 2 ^ 32)

/-- A reserved code, or a code with sectors in the empty run, fails the record (R241, R245). -/
def codesBad (e : DWord) (codes : Nat) : Bool :=
  (List.range 64).any (fun i => decide (6 ≤ codeAt codes i)) ||
    (emptyRun e && decide (sectorsBefore codes 64 ≠ 0))

/-! ### Rings (R249 to R255) -/

/-- Descriptor offset, entries offset and entry count of a ring. -/
def ringDesc (heap : Bool) (n k : Nat) : Nat := 32 * ((if heap then 17 else 5) * n + k)
def ringEnt (heap : Bool) (n k i : Nat) : Nat :=
  if heap then 0x4000 + 512 * (17 * n + k) + 8 * (i % 64) else 0x1000 + 2048 * (5 * n + k) + 8 * (i % 256)
def ringSize (heap : Bool) : Nat := if heap then 64 else 256
def ringTable (heap : Bool) : Nat := if heap then 10 else 9

def ringHead (s : State) (heap : Bool) (n k : Nat) : Nat := s.live (ringTable heap) (ringDesc heap n k) 4
def ringTail (s : State) (heap : Bool) (n k : Nat) : Nat := s.live (ringTable heap) (ringDesc heap n k + 4) 4
def ringThresh (s : State) (heap : Bool) (n k : Nat) : Nat := s.live (ringTable heap) (ringDesc heap n k + 8) 4
def ringEn (s : State) (heap : Bool) (n k : Nat) : Bool := decide (s.live (ringTable heap) (ringDesc heap n k + 12) 1 = 1)

def ringLevel (s : State) (heap : Bool) (n k : Nat) : Nat :=
  (ringTail s heap n k + 2 ^ 32 - ringHead s heap n k) % 2 ^ 32

/-- A ring that counts as empty by R252. -/
def ringBad (s : State) (heap : Bool) (n k : Nat) : Bool :=
  !ringEn s heap n k || decide (ringSize heap < ringLevel s heap n k)

/-- The entries that a ring counts: none when it is invalid or its set withdrawn (R252, R278). -/
def ringCount (s : State) (heap : Bool) (n k : Nat) : Nat :=
  if ringBad s heap n k || setOff s n then 0 else ringLevel s heap n k

def floorOf (s : State) (n : Nat) : Nat := s.live 11 (8 * n) 2
def lowwmOf (s : State) (n : Nat) : Nat := s.live 11 (8 * n + 2) 2

/-- TIER_RSVLOW and TIER_FREELOW (R274, R275). -/
def rsvLow (s : State) (n : Nat) : Bool := decide (ringCount s false n 3 < lowwmOf s n)
def freeLow (s : State) (n : Nat) : Bool :=
  (List.range 4).any (fun k => ringEn s false n k && decide (ringCount s false n k < ringThresh s false n k)) ||
    (List.range 16).any (fun k => ringEn s true n k && decide (ringCount s true n k < ringThresh s true n k))

/-- The sources of the two levels, after a ring has been consumed. -/
def raiseLevels (s : State) (n page : Nat) : State :=
  let s := if rsvLow s n then raiseTier s Src.reserveLow (page * 4096) {} else s
  if freeLow s n then raiseTier s Src.freeRingLow (page * 4096) {} else s

/-- A run of a set: set, heap, first unit, units. -/
abbrev Run := Nat × Bool × Nat × Nat

def runBytes (r : Run) : Nat × Nat := if r.2.1 then (256 * r.2.2.1, 256 * r.2.2.2) else (1024 * r.2.2.1, 1024 * r.2.2.2)

/-- The units that a ring entry names. -/
def ringUnit (s : State) (heap : Bool) (n k i : Nat) : Nat :=
  let w := s.live (ringTable heap) (ringEnt heap n k i) 8
  if heap then nfld w 36 0 else nfld w 34 0

/-- Pops from a ring while it holds more than `f` entries; runs outside the set are discarded (R252). -/
def popRing (s : State) (heap : Bool) (n k f page : Nat) : Nat → State × Option Nat
  | 0 => (s, .none)
  | fuel + 1 =>
    if ringCount s heap n k ≤ f ∨ !setV s n then (s, .none)
    else
      let u := ringUnit s heap n k (ringHead s heap n k)
      let s := s.setLive (ringTable heap) (ringDesc heap n k) ((ringHead s heap n k + 1) % 2 ^ 32) 4
      let (a, b) := runBytes (n, heap, u, k + 1)
      if runFits s n a b then (s, some u)
      else popRing (raiseTier s Src.ringInvalid (page * 4096) {}) heap n k f page fuel

/-- A release ring takes no run now (R255). -/
def releaseFull (s : State) (heap : Bool) (n : Nat) : Bool :=
  let k := if heap then 16 else 4
  ringBad s heap n k || decide (ringSize heap ≤ ringLevel s heap n k)

/-- A run pushed to its release ring. -/
def pushRelease (s : State) (r : Run) : State :=
  let (n, heap, u, len) := r
  let k := if heap then 16 else 4
  let t := ringTail s heap n k
  let w := if heap then u + (len - 1) * 2 ^ 37 else u + (len - 1) * 2 ^ 35
  let s := s.setLive (ringTable heap) (ringEnt heap n k t) w 8
  s.setLive (ringTable heap) (ringDesc heap n k + 4) ((t + 1) % 2 ^ 32) 4

/-- Runs pushed in order; those from the first that finds its ring full remain (R255). Those of a withdrawn set are dropped (R278). -/
def pushAll (s : State) : List Run → State × List Run
  | [] => (s, [])
  | r :: rs =>
    if setOff s r.1 then pushAll s rs
    else if releaseFull s r.2.1 r.1 then (s, r :: rs)
    else pushAll (pushRelease s r) rs

/-- allocate(set, kind, n, fallback) of R256, over the ring kinds given. The tail of a longer run is pushed at once; when its release
ring has no room it is left for the operation to push before it ends (R255). -/
def allocFrom (s : State) (heap : Bool) (n want : Nat) (fallback : Bool) (page : Nat) :
    List Nat → State × Option (Nat × List Run)
  | [] => (s, .none)
  | k :: r =>
    let s := if ringBad s heap n k && !setOff s n && setV s n then raiseTier s Src.ringInvalid (page * 4096) {} else s
    let f := if !heap && decide (k = 3) && !fallback then floorOf s n else 0
    match popRing s heap n k f page 257 with
    | (s, some u) =>
      let (s, left) := pushAll s (if want < k + 1 then [(n, heap, u + want, k + 1 - want)] else [])
      (raiseLevels s n page, some (u, left))
    | (s, .none) => allocFrom s heap n want fallback page r

def allocate (s : State) (heap : Bool) (n want : Nat) (fallback : Bool) (page : Nat) : State × Option (Nat × List Run) :=
  let top := if heap then 16 else 4
  let (s, x) := allocFrom s heap n want fallback page ((List.range top).filter (fun k => decide (want ≤ k + 1)))
  match x with
  | .none => (raiseLevels s n page, .none)
  | y => (s, y)


/-- The sources of a push that must wait. -/
def raiseWait (s : State) (r : Run) (page : Nat) : State :=
  let s := raiseTier s Src.releaseFull (page * 4096) {}
  if ringBad s r.2.1 r.1 (if r.2.1 then 16 else 4) then raiseTier s Src.ringInvalid (page * 4096) {} else s

/-- The set of a TZ or TU page's next allocation (R278), for a ring that holds runs of `want` units. -/
def allocSet (s : State) (e : DWord) (heap : Bool) (want : Nat) : Nat :=
  let gone (n : Nat) : Bool := decide (24 ≤ n) || setOff s n || !setV s n
  if !gone (eSet e) then eSet e
  else
    let p := s.fld (Reg.TIER_PMSET 0) 4 0
    if !gone p then p
    else ((List.range 24).find? (fun n => setServable s n && decide (0 < ringCount s heap n (want - 1)))).getD (eSet e)

/-! ### Seals and tweaks (R321, R324) -/

/-- The tweak of sector `k` of line `i` of a page, and of sector `k` of a heap run. -/
def tweakLine (page i k : Nat) : Nat := page * 256 + i * 4 + k
def tweakHeap (page k : Nat) : Nat := 2 ^ 42 + page * 256 + k

/-- The seal that a slot gives now: its key and GEN (R316, R321). -/
def sealOf (s : State) (slot : Nat) : Seal := { slot := slot, gen := genOf s slot, key := (s.keySlot slot).key }

/-- The engine of a pair that ciphers a line (R315): by DPA[6]. -/
def lineEng (i : Nat) : Nat := i % 2

/-- Sectors of bytes under a seal, with tweaks from `t` on, through engine `eng` of the pair. -/
def sealSectors (k : Seal) (eng t : Nat) : Nat → List Nat → List Sect
  | 0, _ => []
  | n + 1, b =>
    { val := BitVec.ofNat 128 (bytesNat (b.take 16)), under := some { k with tweak := t, eng := eng } } ::
      sealSectors k eng (t + 1) n (b.drop 16)

/-- The sectors of line `i` of a T0 or T1 page, and those of a T2 run from heap block `blk` on. -/
def sealLine (k : Seal) (page i n : Nat) (b : List Nat) : List Sect := sealSectors k (lineEng i) (tweakLine page i 0) n b
def sealHeap (k : Seal) (page blk first n : Nat) (b : List Nat) : List Sect := sealSectors k (blk % 2) (tweakHeap page first) n b

def sectBytes (x : Sect) : List Nat := natBytes 16 x.val.toNat

/-- What a sector deciphers to under a seal's slot, GEN and key with a tweak; none: something else than was enciphered, which the line
check rejects (R324, R329). With no tweak the sector is not used and is taken as it stands. -/
def sectPlain (k : Seal) (t : Option Nat) (x : Sect) : Option Sector :=
  match t with
  | .none => some x.raw
  | some t =>
    match x.under with
    | .none => .none
    | some e => if e.slot = k.slot ∧ e.gen = k.gen ∧ e.key = k.key ∧ e.tweak = t then some x.val else .none

/-! ### Bursts and sectors of a set -/

/-- The sector at a byte location of a set. -/
def sectAt (s : State) (n loc : Nat) : Sect := (s.burst (burstAt s n (loc / 64 * 64))).sect (loc / 16 % 4)

def sectsAt (s : State) (n loc : Nat) : Nat → List Sect
  | 0 => []
  | k + 1 => sectAt s n loc :: sectsAt s n (loc + 16) k

/-- The 64 B-aligned locations that `k` sectors from a location touch. -/
def burstLocs (loc k : Nat) : List Nat :=
  if k = 0 then [] else (List.range ((loc + 16 * k - 1) / 64 + 1 - loc / 64)).map (fun j => (loc / 64 + j) * 64)

def markedAt (s : State) (n loc : Nat) : Bool := isMarked (s.burst (burstAt s n (loc / 64 * 64)))

/-- A written burst, merged into what stands (R393, R541). -/
def mergeBurst (old : Burst) (mask : Nat) (new : Burst) : Burst :=
  if isMarked new then new
  else if mask = 15 then new
  else if mask = 0 then old
  else if isMarked old then old
  else
    let x (k : Nat) : Sect := if mask.testBit k then new.sect k else old.sect k
    mkBurst (x 0) (x 1) (x 2) (x 3)

/-- Burst writes of sectors from a location on: key, mask, content. -/
def sectWrites (s : State) (n loc : Nat) (xs : List Sect) : List (Nat × Nat × Burst) :=
  (burstLocs loc xs.length).map (fun l =>
    let at_ (k : Nat) : Option Sect := if l + 16 * k < loc then .none else xs[(l + 16 * k - loc) / 16]?
    let mask := (List.range 4).foldl (fun a k => if (at_ k).isSome then a + 2 ^ k else a) 0
    let get (k : Nat) : Sect := (at_ k).getD {}
    (burstAt s n l, mask, mkBurst (get 0) (get 1) (get 2) (get 3)))

/-- The channel keys that a read of a location touches (R411): its own, or the other five of a parity set. -/
def readKeys (s : State) (n loc : Nat) : List Nat :=
  let (c, off) := locate s n loc
  if setPar s n && burstAbsent s (burstKey c off) then
    ((setChans s n).filter (fun d => decide (d ≠ c))).map (fun d => burstKey d off)
  else [burstKey c off]

/-! ### What a line reads as (R246, R294, R539, R542 to R544) -/

inductive LineRead where
  | good (l : Line)
  | poison
  /-- A line check mismatch; `grain` when the decoder rejected the sectors (R294). -/
  | mismatch (grain : Bool)
  deriving DecidableEq, Repr

/-- Sector `o` counted from line `j` on: its line, of the `n` lines left, and its index there. -/
def sectFrom (codes : Nat) : Nat → Nat → Nat → Option (Nat × Nat)
  | 0, _, _ => .none
  | n + 1, j, o =>
    let k := codeSectors (codes % 8)
    if o < k then some (j, o) else sectFrom (codes / 8) n (j + 1) (o - k)

/-- The line of a T1 page that holds sector `o` of its run, with the sector's index in the line; none: an unused sector. -/
def sectLine (codes o : Nat) : Option (Nat × Nat) := sectFrom codes 64 0 o

/-- The tweak of the sector at a location of a page's run (R321); none: the sector is not used. -/
def wantTweak (e : DWord) (codes page loc : Nat) : Option Nat :=
  match eState e with
  | 0 => some (tweakLine page ((loc - 1024 * eCell e) / 64) (loc / 16 % 4))
  | 1 => (sectLine codes ((loc - 1024 * eCell e) / 16)).map (fun x => tweakLine page x.1 x.2)
  | _ => some (tweakHeap page ((loc - 256 * eBlk e) / 16))

/-- The burst at a location agrees with its check (R539): its used sectors deciphered, the others as they stand. -/
def burstGood (s : State) (e : DWord) (codes page : Nat) (k : Seal) (l : Nat) : Bool :=
  let b := s.burst (burstAt s (eSet e) l)
  let x (i : Nat) : Option Sector := sectPlain k (wantTweak e codes page (l + 16 * i)) (b.sect i)
  match x 0, x 1, x 2, x 3 with
  | some p, some q, some r, some t => decide (b.bc.toNat = lineCheck (t ++ r ++ q ++ p))
  | _, _, _, _ => false

/-- The bursts of locations agree with their checks, and the read of none of them failed. -/
def burstsGood (s : State) (e : DWord) (codes page slot : Nat) (bad : List Nat) (locs : List Nat) : Bool :=
  locs.all (fun l => !(readKeys s (eSet e) l).any (fun r => bad.contains r) && burstGood s e codes page (sealOf s slot) l)

def lineLoc (e : DWord) (codes i : Nat) : Nat :=
  if eState e = Ent.t0 then 1024 * eCell e + 64 * i
  else if eState e = Ent.t1 then 1024 * eCell e + 16 * sectorsBefore codes i
  else 256 * eBlk e + 64 * i

/-- The locations of the bursts that a read of a line takes. -/
def lineLocs (e : DWord) (codes i : Nat) : List Nat :=
  if eState e = Ent.t1 then burstLocs (lineLoc e codes i) (codeSectors (codeAt codes i))
  else [lineLoc e codes i]

/-- What a line of a T0 page, of a stored form, or of a T1 page reads as under a key slot. -/
def readLine (s : State) (e : DWord) (codes page i slot : Nat) (bad : List Nat) : LineRead :=
  let n := eSet e
  let locs := lineLocs e codes i
  let c := codeAt codes i
  if eState e = Ent.t1 ∧ c = 0 then .good 0
  else if eState e = Ent.t1 ∧ c = 5 then .poison
  else if locs.any (fun l => markedAt s n l && !(readKeys s n l).any (fun r => bad.contains r)) then .poison
  else if !burstsGood s e codes page slot bad locs then .mismatch false
  else if eState e = Ent.t1 then
    match grainDecode c ((sectsAt s n (lineLoc e codes i) (codeSectors c)).flatMap sectBytes) with
    | some b => .good (lineOf b)
    | .none => .mismatch true
  else .good (s.burst (burstAt s n (lineLoc e codes i))).plain

/-- A line after every reading of it has been tried: its data, or poison (R35). -/
def lineFinal (s : State) (e : DWord) (codes page i slot : Nat) (bad : List Nat) : Line × Bool :=
  match readLine s e codes page i slot bad with
  | .good l => (l, false)
  | _ => (0, true)

/-- The bytes of a coded heap stream's run, when every burst of it can be read. -/
def heapRun (s : State) (e : DWord) (page slot : Nat) (bad : List Nat) : Option (List Nat) :=
  let n := eSet e
  let loc := 256 * eBlk e
  let k := 16 * (eNb e + 1)
  let locs := burstLocs loc k
  if locs.any (markedAt s n) then .none
  else if burstsGood s e 0 page slot bad locs then some ((sectsAt s n loc k).flatMap sectBytes)
  else .none

/-- The 64 lines of a page of bytes. -/
def pageLines (mask : Nat) (b : List Nat) : List (Line × Bool) :=
  (List.range 64).map (fun i =>
    if mask.testBit i then (0, true) else (lineOf ((b.drop (64 * i)).take 64), false))

def pageBytes (ls : List (Line × Bool)) : List Nat := ls.flatMap (fun x => if x.2 then List.replicate 64 0 else lineBytes x.1)
def poisonMask : List (Line × Bool) → Nat
  | [] => 0
  | x :: r => b2n x.2 + 2 * poisonMask r

/-- The whole page of a local entry, each line as it finally reads; none: a coded stream that the decoder rejects. -/
def readPage (s : State) (e : DWord) (page slot : Nat) (bad : List Nat) : Option (List (Line × Bool)) :=
  let codes := codesOf s page
  if eState e = Ent.t2 ∧ eNb e < 15 then
    ((heapRun s e page slot bad).bind heapDecode).map (fun d => pageLines d.1 d.2)
  else if eState e ≤ 2 then some ((List.range 64).map (fun i => lineFinal s e codes page i slot bad))
  else some (List.replicate 64 (0, false))

/-- The read keys of the whole run of a page. -/
def pageReadKeys (s : State) (e : DWord) : List Nat :=
  let n := eSet e
  let locs := match eState e with
    | 0 => burstLocs (1024 * eCell e) 256
    | 1 => if emptyRun e then [] else burstLocs (1024 * eCell e) (64 * (eNc e + 1))
    | 2 => burstLocs (256 * eBlk e) (16 * (eNb e + 1))
    | _ => []
  (locs.flatMap (readKeys s n)).eraseDups

/-! ### Encoding of lines and pages -/

/-- The partner rule of R282 and R315: the unit of a pair that serves a line. -/
def pairUnit (ready : Nat → Bool) (q b : Nat) : Nat :=
  if ready (2 * q + b) then 2 * q + b else 2 * q + (1 - b)

/-- The crystallizer of line `i` of a page, the line standing at a location of a set (R26, R282). -/
def gcUnit (s : State) (n loc i : Nat) : Nat := pairUnit (readyGc s) ((locate s n loc).1 / 6) (i % 2)

/-- What the active CRY_GCTL lets the grain encoder make of a line. -/
def grainOf (s : State) (l : Line) : Nat × List Nat :=
  grainEncode (s.bit Reg.CRY_GCTL 0) (s.bit Reg.CRY_GCTL 1) (s.bit Reg.CRY_GCTL 2) (lineBytes l)

/-- An injection armed on a unit is consumed (R314). -/
def useInjection (s : State) : State :=
  ({ s with tier := { s.tier with inject := .none } }).hwF Reg.CRY_TEST 4 4 0

/-- What the verify decoder makes of a size code and its sectors (R291): 64 zeros of a zero line; none: rejected. -/
def verifyDecode (c : Nat) (b : List Nat) : Option (List Nat) := if c = 0 then some (List.replicate 64 0) else grainDecode c b

/-- The coded result stands: the CRC-32C of what it decodes to is the line check that the write carries. -/
def verifies (c : Nat) (b : List Nat) (check : Nat) : Bool :=
  match verifyDecode c b with
  | some l => decide (crc32c l = check)
  | .none => false

/-- A raw line before it is passed on (R292): its CRC-32C is compared with its line check; a mismatch poisons it. -/
def rawChecked (s : State) (u page i : Nat) (l : Line) (check : Nat) : State × Bool :=
  if lineCheck l = check then (s, true)
  else (raiseCry s Src.encodeCheck u (page * 4096 + 64 * i) {}, false)

/-- A line encoded and verified (R291, R292): its size code and the bytes of its sectors. A coded result that does not verify, as an
injected error makes it, is discarded, and the line is taken raw; a raw line that fails its check is poisoned. -/
def encodeLine (s : State) (n loc page i : Nat) (l : Line) (check : Nat) : State × Nat × List Nat :=
  let u := gcUnit s n loc i
  let (c, b) := grainOf s l
  let s := tick s (bGc u) 0 1
  let inj := decide (s.tier.inject = some u ∧ c ≠ 0 ∧ c ≠ 4)
  let s := if inj then useInjection s else s
  if c ≠ 4 && !inj && verifies c b check then (tick s (bGc u) (c + 1) 1, c, b)
  else
    let s := if c = 4 then s else tick (raiseCry (tick s (bGc u) 6 1) Src.grainVerify u (page * 4096 + 64 * i) {}) (bGc u) 5 1
    match rawChecked s u page i l check with
    | (s, true) => (if c = 4 then tick s (bGc u) 5 1 else s, 4, lineBytes l)
    | (s, false) => (s, 5, [])

/-- The lines of a page that raw bypass checks one by one (R292): those that fail become poisoned. -/
def bypassLines (s : State) (n loc page : Nat) : Nat → List (Line × Bool × Nat) → State × List (Line × Bool)
  | _, [] => (s, [])
  | i, (l, p, check) :: r =>
    let (s, ok) := if p then (s, true) else rawChecked s (gcUnit s n (loc + 64 * i) i) page i l check
    let (s, t) := bypassLines s n loc page (i + 1) r
    (s, (l, p || !ok) :: t)

/-- Lines with the line checks that the read path made over them (R307). -/
def fresh (ls : List (Line × Bool)) : List (Line × Bool × Nat) := ls.map (fun x => (x.1, x.2, lineCheck x.1))

/-- The page's heap encoding as R296 and R303 make it; none: the stored form. -/
def heapOf (s : State) (ls : List (Line × Bool)) : Option (List Nat) :=
  heapEncode (min 4 (s.fld Reg.CRY_HCTL 6 4)) (s.bit Reg.CRY_HCTL 1) (s.bit Reg.CRY_HCTL 0) (poisonMask ls) (pageBytes ls)

/-- The verify decoder accepts a coded stream (R306): it decodes, and every line that is not poisoned gives its source's line check. -/
def streamVerifies (b : List Nat) (ls : List (Line × Bool)) : Bool :=
  match heapDecode b with
  | .none => false
  | some (_, page) => (ls.zip (List.range 64)).all (fun x =>
      x.1.2 || decide (crc32c ((page.drop (64 * x.2)).take 64) = lineCheck x.1.1))

/-- An all-zero page with no poisoned line (R304). -/
def zeroPage (ls : List (Line × Bool)) : Bool := ls.all (fun x => decide (x = (0, false)))

/-- The burst of a raw line, or its poison marking (R543). -/
def rawLine (k : Seal) (page i : Nat) (heap : Option Nat) (x : Line × Bool) : Burst :=
  if x.2 then markedBurst
  else
    match (match heap with
      | some blk => sealHeap k page blk (4 * i) 4 (lineBytes x.1)
      | .none => sealLine k page i 4 (lineBytes x.1)) with
    | [a, b, c, d] => mkBurst a b c d
    | _ => markedBurst

/-- The writes of 64 raw lines from a location: a T0 page, or the stored form of a run that begins at heap block `heap`. -/
def rawWrites (s : State) (n loc page slot : Nat) (heap : Option Nat) (ls : List (Line × Bool)) : List (Nat × Nat × Burst) :=
  (List.range ls.length).map (fun i =>
    (burstAt s n (loc + 64 * i), 15, rawLine (sealOf s slot) page i heap (ls.getD i (0, false))))

/-- The writes of a coded stream into a run of `nb` heap blocks, zeros to its end (R296). -/
def streamWrites (s : State) (n blk nb page slot : Nat) (b : List Nat) : List (Nat × Nat × Burst) :=
  let b := b ++ List.replicate (256 * nb - b.length) 0
  sectWrites s n (256 * blk) (sealHeap (sealOf s slot) page blk 0 (16 * nb) b)

/-- A list of sectors filled to whole cells with plain zeros (R538). -/
def padCells (xs : List Sect) (cells : Nat) : List Sect := xs ++ List.replicate (64 * cells - xs.length) ({} : Sect)

/-- The T1 form of encoded lines: codes and packed sectors. -/
def packLines (k : Seal) (page : Nat) : Nat → List (Nat × List Nat) → List Nat × List Sect
  | _, [] => ([], [])
  | i, (c, b) :: r =>
    let (cs, xs) := packLines k page (i + 1) r
    (c :: cs, sealLine k page i (codeSectors c) b ++ xs)

/-- Writes applied at once. -/
def storeAll (s : State) : List (Nat × Nat × Burst) → State
  | [] => s
  | (k, m, b) :: r => storeAll (if m = 0 then s else s.writeBurst k (mergeBurst (s.burst k) m b)) r

end Sys2Proof.Machine
end

