-- ==== Sys2Proof/Machine/Keys.lean ====
section
/-! DEFINITION. Key selection (R326, R327) and the commands of the key slots (R332 to R338, R617). -/

namespace Sys2Proof.Machine

/-! ### Selection (R326) -/

/-- A TAGSEL or LDSEL entry: the slot when V is 1. -/
def selEntry (s : State) (off : Nat) : Option Nat :=
  let e := s.act 2 off 2
  if e.testBit 15 then some (e % 4096) else .none

def tagSlot (s : State) (tag : Nat) : Option Nat := selEntry s (2 * (tag % 4096))
def ldSlot (s : State) (ld : Nat) : Option Nat := selEntry s (8192 + 2 * (ld % 256))

/-- The tag of the DOMAIN entry whose range holds a page. -/
def domainTag (s : State) (page : Nat) : Option Nat :=
  ((List.range 32).find? (fun i =>
      let o := 8704 + 16 * i
      (s.act 2 (o + 12) 2).testBit 15 && decide (nfld (s.act 2 o 6) 33 0 ≤ page ∧ page ≤ nfld (s.act 2 (o + 6) 6) 33 0))).map
    (fun i => s.act 2 (8704 + 16 * i + 12) 2 % 4096)

/-- The task tag under which a page operation of a core selects its key slot. -/
def pageTag (s : State) (core page : Nat) : Nat := (domainTag s page).getD (fld (s.core core).ptag 11 0)

/-- New requests wait for a CHANGING slot from the clock after its change (R334). -/
def keyChanging (s : State) (k : Nat) : Bool := decide ((s.keySlot k).state = 2 ∧ (s.keySlot k).since < s.clock)

/-- The slot holds a key; while it is CHANGING, the one of before, for the requests that selected it earlier. -/
def keyLoaded (s : State) (k : Nat) : Bool :=
  decide ((s.keySlot k).state = 1) || (decide ((s.keySlot k).state = 2) && (s.keySlot k).had)

/-- Requests in the data path that selected a slot (KEYS_SLOTn.INFLT): open transactions, requests in wait buffers, and a
page move as one request (R334, R335). -/
def inflight (s : State) (k : Nat) : Nat :=
  let uses (t : Txn) : Bool := decide (t.req.slot = some k) || t.got.any (fun g => decide (g.2.2.2.1 = some k)) ||
    (match t.wdata with | some w => decide (w.2.2.2.1 = k) | .none => false)
  (s.coh.txns.filter (fun t => decide (t.req.kind ≠ .move) && uses t)).length +
    (s.coh.chain.filter (fun r => decide (r.slot = some k))).length +
    (s.tier.moves.filter (fun m => decide (m.key = some k))).length +
    (s.tier.peerMoves.filter (fun m => decide (m.key = k))).length

/-- The crypto engine of a line of this device: of the channel that holds it, or of its home slice's quadrant while it has no cells
(R26, R315). -/
def lineXe (s : State) (line : Nat) : Nat :=
  let line := line % 2 ^ 46
  let page := line / 4096
  let e := storedEntry s page
  let q := if eState e ≤ 2 && !emptyRun e then (locate s (eSet e) (lineLoc e (codesOf s page) (line / 64 % 64))).1 / 6
    else homeSlice line
  pairUnit (readyXe s) q (line / 64 % 2)

/-- A request that key selection refuses (R327): its source, and the engine counts it (R665). -/
def keyRefused (s : State) (src slot line : Nat) (i : Info) : State := tick (raiseXe s src 15 slot i) (bXe (lineXe s line)) 3 1

/-- KEYS_SLOTn as it reads. -/
def keySlotWord (s : State) (k : Nat) : Word := BitVec.ofNat 32 ((s.keySlot k).state * 2 ^ 30 + min (inflight s k) 16384)

/-! ### Commands (R333, R334, R336, R337) -/

def keyResult (s : State) (r : Nat) : State := s.setF Reg.KEYS_STAT 30 28 r

/-- A refused key command: RESULT, and "key load refused" for a load. -/
def keyRefuse (s : State) (r slot : Nat) (load : Bool) : State :=
  let s := keyResult s r
  if load then raiseXe s Src.keyLoadRefused 15 slot { atype := 11 } else s

def clearWrap (s : State) : State := { s with keys := { s.keys with wrap := [] } }

/-- A command takes the slot to CHANGING and runs. -/
def keyBegin (s : State) (c : KeyCmd) : State :=
  let s := s.setKeySlot c.slot { s.keySlot c.slot with state := 2, since := s.clock, had := keyLoaded s c.slot }
  let s := { s with keys := { s.keys with cmd := some c } }
  let s := s.setBit Reg.KEYS_STAT 31 true
  if c.own then s else s.setF Reg.KEYS_STAT 11 0 c.slot

def wrapBytes (s : State) : List Byte := (List.range 20).flatMap (fun n => toBytes 4 (smGet 0 s.keys.wrap n).toNat)

/-- The check of a load that fails, if one does (R333), with the key and the SEQ of the record. -/
def loadCheck (s : State) (slot : Nat) : Nat ⊕ (Nat × Nat) :=
  if !okwkPresent s || decide (s.code = Mode.safe) then .inl 5
  else match Config.unwrap (wrappingKey s) (wrapBytes s) with
    | .none => .inl 1
    | some r =>
      let k1 := ofBytes (r.take 32)
      let k2 := ofBytes ((r.drop 32).take 32)
      let seq := ofBytes ((r.drop 68).take 4)
      if ofBytes ((r.drop 64).take 4) ≠ slot then .inl 2
      else if k1 = k2 then .inl 3
      else if seq ≤ (s.reg Reg.KEYS_LASTSEQ).toNat then .inl 4
      else .inr (k1 + 2 ^ 256 * k2, seq)

/-- A write of KEYS_CMD. -/
def wrKeysCmd (s : State) (v : Word) : State :=
  let op := fld v 31 30
  let slot := fld v 11 0
  if op = 0 ∨ op = 3 then s
  else if s.keys.cmd.isSome then keyResult s 6
  else
  let s := (s.setF Reg.KEYS_CMD 31 30 op).setF Reg.KEYS_CMD 11 0 slot
  if op = 1 then
    match loadCheck s slot with
    | .inl r => clearWrap (keyRefuse (s.setF Reg.KEYS_STAT 11 0 slot) r slot true)
    | .inr (key, seq) => keyBegin s { slot := slot, load := true, key := key, seq := seq, wrapped := true, own := false }
  else keyBegin s { slot := slot, load := false, key := 0, seq := 0, wrapped := false, own := false }

/-- A write of a KEYS_WRAPn register: ignored while a command runs. -/
def wrKeysWrap (s : State) (n : Nat) (v : Word) : State :=
  if s.keys.cmd.isSome then s else { s with keys := { s.keys with wrap := smSet 0 s.keys.wrap n v } }

/-- KEY_LOAD (R333). -/
def execKeyLoad (p : Path) (slot : BitVec 12) (s : State) : Host.Outcome State Fault Refusal :=
  done (guardedWrite s p Reg.KEYS_CMD (fun s => wrKeysCmd s (BitVec.ofNat 32 (2 ^ 30 + slot.toNat))))

/-- KEY_DESTROY (R334). -/
def execKeyDestroy (p : Path) (slot : BitVec 12) (s : State) : Host.Outcome State Fault Refusal :=
  done (guardedWrite s p Reg.KEYS_CMD (fun s => wrKeysCmd s (BitVec.ofNat 32 (2 ^ 31 + slot.toNat))))

/-- A write of SEC_EPHEM (R617). -/
def wrSecEphem (s : State) (v : Word) : State :=
  let slot := fld v 11 0
  let s := s.setF Reg.SEC_EPHEM 11 0 slot
  if s.keys.cmd.isSome then keyRefuse s 6 slot false
  else if s.code = Mode.safe ∨ lcState s = 5 then keyRefuse (s.setF Reg.KEYS_STAT 11 0 slot) 5 slot true
  else
    let k := randomKey s
    keyBegin (drawN 16 s) { slot := slot, load := true, key := k, seq := 0, wrapped := false, own := false }

/-- EPHEMERAL_KEY_LOAD (R617). -/
def execEphemeralKeyLoad (p : Path) (slot : BitVec 12) (s : State) : Host.Outcome State Fault Refusal :=
  done (guardedWrite s p Reg.SEC_EPHEM (fun s => wrSecEphem s (BitVec.ofNat 32 slot.toNat)))

/-- The key is written, or the slot cleared, and GEN advances, in one clock (R334). -/
def keyApply (s : State) (c : KeyCmd) : State :=
  let g := ((s.keySlot c.slot).gen + 1) % 2 ^ 32
  s.setKeySlot c.slot (if c.load then { state := 1, gen := g, key := c.key } else { state := 0, gen := g, key := 0 })

def ownCmd (slot : Nat) : KeyCmd := { slot := slot, load := false, key := 0, seq := 0, wrapped := false, own := true }

/-- A running command ends, and a destruction that waits behind it begins (R337). -/
def keyEnd (s : State) (c : KeyCmd) : State :=
  let s := keyApply s c
  let s := if c.wrapped then s.setReg Reg.KEYS_LASTSEQ (BitVec.ofNat 32 c.seq) else s
  let s := { s with keys := { s.keys with cmd := .none } }
  let s := s.setBit Reg.KEYS_STAT 31 false
  let s := if c.own then s else clearWrap (keyResult s 0)
  match s.keys.owed with
  | [] => s
  | k :: r => keyBegin { s with keys := { s.keys with owed := r } } (ownCmd k)

/-- A destruction that the device requires (R337, local 2 of R339): it pre-empts a load of its slot and waits behind a
command of another. -/
def ownDestroy (s : State) (k : Nat) : State :=
  match s.keys.cmd with
  | .none => keyBegin s (ownCmd k)
  | some c =>
    if c.slot = k then
      if c.load then
        let s := clearWrap (keyResult s 7)
        { s with keys := { s.keys with cmd := some (ownCmd k) } }
      else s
    else if s.keys.owed.contains k then s
    else { s with keys := { s.keys with owed := s.keys.owed ++ [k] } }

def ownDestroyAll (s : State) : List Nat → State
  | [] => s
  | k :: r => ownDestroyAll (ownDestroy s k) r

end Sys2Proof.Machine
end

