-- ==== Sys2Proof/Machine/Route.lean ====
section
/-! DEFINITION. Places in a pool and routes of frames (spec/14): positions, directions, the decision of R491, what a slot
sends (R461, R493). -/

namespace Sys2Proof.Machine

/-! ### Positions and directions (R485, R486, R489) -/

def posX (d : Nat) : Nat := d % 32
def posY (d : Nat) : Nat := d / 32

/-- Directions: 0 X+, 1 X−, 2 Y+, 3 Y−, as POOL_FOLD numbers them. -/
def linkDir (l : Nat) : Nat := if l < 8 then 1 else if l < 16 then 0 else if l < 24 then 3 else 2

/-- The first link of the face that a direction leaves on. -/
def dirLink (d : Nat) : Nat := match d with | 0 => 8 | 1 => 0 | 2 => 24 | _ => 16

/-- The telemetry face of a link: 0 X−, 1 X+, 2 Y−, 3 Y+ (R665, R486). -/
def linkFace (l : Nat) : Nat := l / 8

def topoKind (s : State) : Nat := s.fld Reg.POOL_TOPO 31 30
def topoDX (s : State) : Nat := s.fld Reg.POOL_TOPO 29 25 + 1
def topoDY (s : State) : Nat := s.fld Reg.POOL_TOPO 24 20 + 1

/-- The course mask of a direction in POOL_COURSE. -/
def courseUsable (s : State) (dir k : Nat) : Bool := s.bit Reg.POOL_COURSE (8 * (3 - dir) + k)

/-- This device is the end of a chain on a face (R488). -/
def chainEnd (s : State) (dir : Nat) : Bool :=
  decide (topoKind s = 1 ∧ ((dir = 0 ∧ posX s.devId + 1 = topoDX s) ∨ (dir = 1 ∧ posX s.devId = 0)))

/-- This device folds on a face (R488). -/
def foldsOn (s : State) (dir : Nat) : Bool := s.bit Reg.POOL_FOLD dir || chainEnd s dir

/-- POOL_FOLD as it reads. -/
def foldWord (s : State) : Word := BitVec.ofNat 32 ((List.range 4).foldl (fun a d => a + b2n (foldsOn s d) * 2 ^ d) 0)

/-- The direction in one dimension of size `n` from `a` to `b`, `base` being the direction +. In a chain, or in a
dimension that the device knows broken after position `brk`, it is the one that passes no fold (R489). -/
def dimDir (chain : Bool) (brk : Option Nat) (n a b base : Nat) : Nat :=
  let n := max n 1
  if chain then (if a < b then base else base + 1)
  else match brk with
    | some p => if (a + n - (p + 1) % n) % n < (b + n - (p + 1) % n) % n then base else base + 1
    | .none => if (b + n - a % n) % n ≤ n / 2 then base else base + 1

/-- The break of a dimension that ROUTE has folded: after position p. -/
def brokenAt (s : State) (y : Bool) : Option Nat := smGet .none s.pool.brk (b2n y)

/-- The direction a frame for device `d` takes from here (R489); none: it is for this device. -/
def routeDir (s : State) (d : Nat) : Option Nat :=
  let me := s.devId
  let chain := decide (topoKind s = 1)
  if posX d ≠ posX me then some (dimDir chain (brokenAt s false) (topoDX s) (posX me) (posX d) 0)
  else if posY d ≠ posY me then some (dimDir chain (brokenAt s true) (topoDY s) (posY me) (posY d) 2)
  else .none

/-! ### The decision on an accepted frame (R491, R524, R532) -/

/-- The answers of R344 among coherence opcodes. -/
def cohAnswer (op : Nat) : Bool := decide (0x20 ≤ op % 128)

/-- A writeback that an open transaction of this home waits for. -/
def awaitedWb (s : State) (f : Frame) : Bool :=
  decide (f.opcode % 128 = 5) &&
    s.coh.txns.any (fun t => (t.peers ++ t.wbWait).contains (f.line * 64, f.src) && decide (t.req.dev = s.devId))

def frameAnswer (s : State) (f : Frame) : Bool := decide (f.ty = 1) && (cohAnswer f.opcode || awaitedWb s f)

/-- The device takes memory frames: a member, outside BOOT and TEST. -/
def takesMemory (s : State) : Bool := inPool s && decide (s.code ≠ Mode.boot ∧ s.code ≠ Mode.test)

/-- The target of a taken frame among the take buffers: a home slice, 4 for MSG, 5 for what is always taken (R492). -/
def takeTarget (s : State) (f : Frame) : Nat :=
  if f.ty = 4 ∨ f.ty = 5 ∨ frameAnswer s f then 5
  else if f.ty = 2 then 4
  else homeSlice (f.line * 64)

def takeCount (s : State) (die t : Nat) : Nat := (s.pool.take.filter (fun e => decide (e.1 = die ∧ e.2.1 = t))).length

/-- Room in the take buffer (R492), and for an MSG in the core's inbound queue (R135). -/
def takeRoom (s : State) (die : Nat) (f : Frame) : Bool :=
  let t := takeTarget s f
  if t = 5 then true
  else if t = 4 then decide (takeCount s die 4 < 16) && decide (msgCount (s.core (f.opcode % 16)) < 56)
  else decide (takeCount s die t < 64)

def turnRoom (s : State) (die dir : Nat) : Bool :=
  decide ((s.pool.turn.filter (fun e => decide (e.1 = die ∧ e.2.1 = dir))).length < 64)

/-- The pad of an out-link, in tides (R499). -/
def padOf (s : State) (l : Nat) : Nat :=
  if s.bit (Reg.CNV_STAT l) 26 then s.fld (Reg.POOL_PAD (l / 8)) (4 * (l % 8) + 3) (4 * (l % 8)) else 0

/-- What the pool layer does with a frame. -/
inductive Decision where
  | take | ride | turn (dir : Nat) | discard | fold | pass
  deriving DecidableEq, Repr

def decideFrame (s : State) (l : Nat) (f : Frame) : Decision :=
  let me := s.devId
  let mem := decide (f.ty = 1 ∨ f.ty = 2 ∨ f.ty = 3)
  if (f.ty = 4 ∨ f.ty = 5) ∧ f.dest = me then .take
  else if mem && inPool s && (!isMember s f.dest || !isMember s f.src) then .discard
  else if mem && decide (f.dest = me) && takesMemory s then
    if takeRoom s (linkDie l) f then .take else .ride
  else if l < 16 ∧ posX f.dest = posX me ∧ posY f.dest ≠ posY me then
    let dir := dimDir (decide (topoKind s = 1)) (brokenAt s true) (topoDY s) (posY me) (posY f.dest) 2
    if turnRoom s (linkDie l) dir then .turn dir else .ride
  else if foldsOn s (linkDir (linkPair l)) then .fold
  else .pass

/-! ### Handing frames on -/

/-- The frame that was arriving for a slot not yet sent joins the lay-by; a full lay-by drops it (R461, R463). -/
def joinLayby (s : State) (l : Nat) (f : Frame) : State :=
  let x := s.link l
  if x.layby.length < 1024 then linkMirror (s.setLink l { x with layby := x.layby ++ [f] }) l
  else framesLost s l 1

/-- A pass-through frame arrives for the next slot of an out-link; while that direction is down it enters the lay-by
(R464). -/
def arriveAt (s : State) (l : Nat) (f : Frame) : State :=
  let x := s.link l
  if linkUp s l && decide (0 < padOf s l) then s.setLink l { x with padq := x.padq ++ [(s.tide + padOf s l, f)] }
  else if linkUp s l then
    match x.arriving with
    | .none => s.setLink l { x with arriving := some f }
    | some g =>
      let s := joinLayby s l g
      s.setLink l { s.link l with arriving := some f }
  else joinLayby s l f

/-- A frame at its take or turn point without room (R491, R494, R495). -/
def rideOn (s : State) (l : Nat) (f : Frame) : State :=
  if s.fld Reg.POOL_CIRC 18 16 ≤ f.lap then
    let s := raisePool s 0 f.src
    if s.pool.pan.length < 64 then
      let s := { s with pool := { s.pool with pan := s.pool.pan ++ [(l, f)] } }
      let s := s.setF Reg.POOL_CIRC 6 0 s.pool.pan.length
      tick (s.bump Reg.POOL_CNT0 31 16) (bFace (linkFace l)) 3 1
    else tick (raisePool (s.bump Reg.POOL_CNT0 15 0) 1 f.src) (bFace (linkFace l)) 4 1
  else tick (arriveAt s (linkPair l) { f with lap := f.lap + 1 }) (bFace (linkFace l)) 2 1

def takeFrame (s : State) (l : Nat) (f : Frame) : State :=
  let s := { s with pool := { s.pool with take := s.pool.take ++ [(linkDie l, takeTarget s f, f, s.sets.swaps)] } }
  let s := tick s (bLink l) 3 1
  if f.ty = 4 ∨ f.ty = 5 then tick s (bFace (linkFace l)) 0 1
  else if f.ty = 1 then tick s (bFace (linkFace l)) 1 1 else s

/-- A frame turns onto the other dimension: it waits in the turn buffer of its direction (R491). -/
def turnFrame (s : State) (l dir : Nat) (f : Frame) : State :=
  { s with pool := { s.pool with turn := s.pool.turn ++ [(linkDie l, dir, { f with lap := 0 })] } }

def setPan (s : State) (l : List (Nat × Frame)) : State :=
  { s with pool := { s.pool with pan := l } }.setF Reg.POOL_CIRC 6 0 l.length

/-- A frame of the catch pan goes on where it finds room; else it stays (R495). -/
def panGo (s : State) (x : Nat × Frame) : State :=
  match decideFrame s x.1 x.2 with
  | .take => takeFrame (setPan s (s.pool.pan.erase x)) x.1 x.2
  | .ride => s
  | .turn dir => turnFrame (setPan s (s.pool.pan.erase x)) x.1 dir x.2
  | .discard => raisePool ((setPan s (s.pool.pan.erase x)).bump Reg.POOL_CNT1 15 0) 3 x.2.src
  | .fold => arriveAt (setPan s (s.pool.pan.erase x)) x.1 x.2
  | .pass => arriveAt (setPan s (s.pool.pan.erase x)) (linkPair x.1) x.2

def feedFrom (s : State) : List (Nat × Frame) → State
  | [] => s
  | x :: r => feedFrom (panGo s x) r

/-- The catch pan feeds what it can, oldest first (R495). -/
def feedPan (s : State) : State := feedFrom s s.pool.pan

/-- A frame of the catch pan waits for the same room. -/
def panAhead (s : State) (l : Nat) (f : Frame) (d : Decision) : Bool :=
  s.pool.pan.any (fun x => decide (linkDie x.1 = linkDie l) && (match d with
    | .take => decide (takeTarget s x.2 = takeTarget s f ∧ takeTarget s f ≠ 5)
    | .turn dir => decide (decideFrame s x.1 x.2 = .turn dir)
    | _ => false))

/-- A frame accepted in order on link `l`. -/
def handle (s : State) (l : Nat) (f : Frame) : State :=
  let s := feedPan s
  let d := decideFrame s l f
  match (if panAhead s l f d then .ride else d) with
  | .take => takeFrame s l f
  | .ride => rideOn s l f
  | .turn dir => turnFrame s l dir f
  | .discard => raisePool (s.bump Reg.POOL_CNT1 15 0) 3 f.src
  | .fold => arriveAt s l f
  | .pass => tick (arriveAt s (linkPair l) f) (bLink l) 2 1

/-- The number of the configuration set that was active when the device took a frame (R189). -/
def takenSet (s : State) (f : Frame) : Nat :=
  match s.pool.take.find? (fun e => decide (e.2.2.1 = f)) with
  | some e => e.2.2.2
  | .none => s.sets.swaps

/-- A frame leaves the take buffers because its unit has taken it. -/
def dropTaken (s : State) (f : Frame) : State :=
  match s.pool.take.find? (fun e => decide (e.2.2.1 = f)) with
  | some e => { s with pool := { s.pool with take := s.pool.take.erase e } }
  | .none =>
    match s.pool.pan.find? (fun e => decide (e.2 = f)) with
    | some e => setPan s (s.pool.pan.erase e)
    | .none => s

/-! ### What a slot may launch (R493, R500 to R503) -/

/-- The launch calendar (R501): byte `p` of launch course `l`, and the flow list, kept as table 0x20. -/
def calByte (s : State) (l : Nat) : Nat := s.act 0x20 (4096 * l + s.tide % 4096) 1
def flowOf (s : State) (i : Nat) : Nat × Nat :=
  let w := s.act 0x20 (131072 + 4 * i) 4
  (w % 1024, w / 1024 % 1024)

def ofFlow (s : State) (i : Nat) (f : Frame) : Bool := decide (flowOf s i = (f.src, f.dest))

/-- A frame that may leave on a link: its direction is the link's, or its rule names the link. -/
def leavesOn (s : State) (l : Nat) (x : Launch) : Bool :=
  match x.via with
  | some v => decide (v = l)
  | .none => decide (routeDir s x.frame.dest = some (linkDir l)) && courseUsable s (linkDir l) (l % 8)

def turnLaunches (s : State) (l : Nat) : List Launch :=
  (s.pool.turn.filter (fun e => decide (e.2.1 = linkDir l))).map (fun e => { frame := e.2.2, cls := 0, via := some l })

/-- The frames that may leave on a link now, in the order of R493. -/
def launchable (s : State) (l : Nat) : List Launch :=
  let q := s.pool.launch.filter (leavesOn s l)
  turnLaunches s l ++ q.filter (fun x => decide (x.cls = 1)) ++ q.filter (fun x => decide (x.cls ≠ 1))

/-- A reserved-launch credit may be spent in a slot of this calendar byte: a FREE slot, or its own flow's OWN slot (R493, R503). -/
def creditFits (b : Nat) (c : Nat × Nat) : Bool := decide (b / 64 = 0) || decide (b / 64 = 1 ∧ c.1 = b % 64)

/-- The frame that a free slot sends: a credit's, then by the calendar; of the others the one at place `j`, those before it going to
courses that the device tries earlier (R490). -/
def pickLaunch (s : State) (l j : Nat) : Option (Launch × Option (Nat × Nat)) :=
  let q := launchable s l
  let b := calByte s l
  match (s.pool.credits.filter (creditFits b)).findSome? (fun c => (q.find? (fun x => ofFlow s c.1 x.frame)).map (fun x => (x, c))) with
  | some (x, c) => some (x, some c)
  | .none =>
    if b / 64 = 1 then (q.find? (fun x => ofFlow s (b % 64) x.frame)).map (fun x => (x, .none))
    else if b / 64 = 0 then q[j]?.map (fun x => (x, .none))
    else .none

/-- A launched or turned frame leaves its queue. -/
def unqueue (s : State) (x : Launch) : State :=
  if x.cls = 0 then
    match s.pool.turn.find? (fun e => decide (e.2.2 = x.frame)) with
    | some e => { s with pool := { s.pool with turn := s.pool.turn.erase e } }
    | .none => s
  else followLaunch { s with pool := { s.pool with launch := s.pool.launch.erase x } }

end Sys2Proof.Machine
end

