-- ==== Sys2Proof/Machine/Calendar.lean ====
section
/-! DEFINITION. The slot calendar (R500 to R502): reservation records, the hops of their reserved slots, and the launch
calendar that the master expands for each participant. The tides of a hop are measured, not given: Config.hopTides. -/

namespace Sys2Proof.Machine

/-- A record of CALNDR (R500). -/
structure CalRec where
  src : Nat
  dst : Nat
  k : Nat
  first : Nat
  count : Nat
  stride : Nat
  flags : Nat
  rsv : Nat
  deriving DecidableEq, Repr

def calRec (m : SMap Byte) (i : Nat) : CalRec :=
  let f := fun off n => tabNat m 6 (16 * i + off) n
  { src := f 0 2, dst := f 2 2, k := f 4 1, first := f 5 2, count := f 7 2, stride := f 9 2, flags := f 11 1, rsv := f 12 4 }

/-- The valid records of a copy of the tables. -/
def calRecs (m : SMap Byte) : List CalRec :=
  ((List.range 8192).map (calRec m)).filter (fun r => decide (r.flags % 2 = 1))

/-- The fields of a record are in the form of R500. -/
def calFormed (r : CalRec) : Bool :=
  decide (r.src < 1024 ∧ r.dst < 1024 ∧ r.k < 8 ∧ r.first < 4096 ∧ 1 ≤ r.count ∧ r.count ≤ 4096 ∧ 1 ≤ r.stride ∧
    r.stride ≤ 4096 ∧ r.flags = 1 ∧ r.rsv = 0 ∧ r.src ≠ r.dst)

/-- One hop of a record's reserved slot: the device, its launch link, the tides since the launch, and whether the device
launches or turns the flow there. -/
structure CalHop where
  dev : Nat
  link : Nat
  delay : Nat
  own : Bool
  deriving DecidableEq, Repr

/-- The next device in a direction. -/
def stepDir (s : State) (d dir : Nat) : Nat :=
  let dx := topoDX s
  let dy := topoDY s
  match dir with
  | 0 => 32 * posY d + (posX d + 1) % dx
  | 1 => 32 * posY d + (posX d + dx - 1) % dx
  | 2 => 32 * ((posY d + 1) % dy) + posX d
  | _ => 32 * ((posY d + dy - 1) % dy) + posX d

/-- The direction from one device to another (R489), with no fold known. -/
def dirFrom (s : State) (a b : Nat) : Option Nat :=
  let chain := decide (topoKind s = 1)
  if posX a ≠ posX b then some (dimDir chain .none (topoDX s) (posX a) (posX b) 0)
  else if posY a ≠ posY b then some (dimDir chain .none (topoDY s) (posY a) (posY b) 2)
  else .none

/-- The hops from a device to `dst` on course `k`; `was` is the direction of the hop before. -/
def calHops (s : State) (k dst : Nat) : Nat → Nat → Nat → Option Nat → List CalHop
  | 0, _, _, _ => []
  | n + 1, d, delay, was =>
    match dirFrom s d dst with
    | .none => []
    | some dir =>
      let l := dirLink dir + k
      { dev := d, link := l, delay := delay, own := decide (was ≠ some dir) } ::
        calHops s k dst n (stepDir s d dir) (delay + Config.hopTides d l) (some dir)

def recHops (s : State) (r : CalRec) : List CalHop := calHops s r.k r.dst 64 r.src 0 .none

/-- The calendar positions of a record at a hop. -/
def hopSlots (r : CalRec) (h : CalHop) : List Nat :=
  (List.range r.count).map (fun i => (r.first + i * r.stride + h.delay) % 4096)

/-- A reserved slot: device, link, position. -/
def recSlots (s : State) (r : CalRec) : List (Nat × Nat × Nat) :=
  (recHops s r).flatMap (fun h => (hopSlots r h).map (fun p => (h.dev, h.link, p)))

/-- The length of the ring of a course through a device, from hop tides (R496). -/
def ringLen (s : State) (dir l : Nat) : Nat → Nat → Nat
  | 0, _ => 0
  | n + 1, d => Config.hopTides d l + ringLen s dir l n (stepDir s d dir)

def courseLen (s : State) (d l : Nat) : Nat :=
  let dir := linkDir l
  ringLen s dir l (if dir < 2 then topoDX s else topoDY s) d

/-- Fallow slots of a calendar on a course of length L (R497, R502). -/
def fallowSlots (len : Nat) : Nat := if len = 0 then 0 else ceilDiv (4096 * ceilDiv len 16) len

/-- The devices of a topology. -/
def poolDevs (s : State) : List Nat :=
  (List.range (topoDY s)).flatMap (fun y => (List.range (topoDX s)).map (fun x => 32 * y + x))

/-- Records whose route launches or turns at a device (its flow list). -/
def devFlows (s : State) (rs : List CalRec) (d : Nat) : List (Nat × Nat) :=
  (rs.filter (fun r => (recHops s r).any (fun h => decide (h.dev = d) && h.own))).map (fun r => (r.src, r.dst))

/-- The checks of R502 and of the admission of the calendar (spec/12). -/
def calAdmits (s : State) (m : SMap Byte) : Bool :=
  let rs := calRecs m
  let slots := rs.map (recSlots s)
  let all := slots.flatten
  rs.all calFormed && decide all.Nodup &&
    (poolDevs s).all (fun d => decide ((devFlows s rs d).length ≤ 64)) &&
    (poolDevs s).all (fun d => (List.range 32).all (fun l =>
      decide ((all.filter (fun x => decide (x.1 = d ∧ x.2.1 = l))).length + fallowSlots (courseLen s d l) ≤ 4096)))

/-- The byte of a device's launch calendar at a link and position (R501). -/
def calEntry (s : State) (rs : List CalRec) (d l p : Nat) : Nat :=
  match rs.find? (fun r => (recSlots s r).contains (d, l, p)) with
  | .none => 0
  | some r =>
    if (recHops s r).any (fun h => decide (h.dev = d ∧ h.link = l) && h.own) then
      64 + ((devFlows s rs d).findIdx (fun f => decide (f = (r.src, r.dst))))
    else 128

/-- The launch calendar and flow list of a device, as bytes: 32 courses of 4,096 entries, then 64 flow entries of 4 B. -/
def calImage (s : State) (rs : List CalRec) (d : Nat) : List Nat :=
  (List.range 32).flatMap (fun l => (List.range 4096).map (fun p => calEntry s rs d l p)) ++
    (List.range 64).flatMap (fun i => natBytes 4 (match (devFlows s rs d)[i]? with
      | some f => f.1 + 1024 * f.2
      | .none => 0))

/-- The CALSEG payloads of a device: a 2 B segment index and 62 B each (R508). -/
def calSegs : Nat → Nat → List Nat → List (List Nat)
  | 0, _, _ => []
  | n + 1, i, b => (natBytes 2 i ++ b.take 62) :: calSegs n (i + 1) (b.drop 62)

def calSegments : Nat := 2119

/-- 62 B of a segment written into the shadow launch calendar. -/
def putSeg (m : SMap Byte) (i : Nat) (b : List Nat) : SMap Byte := tabPut m 0x20 (62 * i) (bytesNat b) 62

def putSegs (m : SMap Byte) : List (List Nat) → SMap Byte
  | [] => m
  | g :: r => putSegs (putSeg m (bytesNat (g.take 2)) (g.drop 2)) r

def sendSegs (s : State) (d : Nat) : List (List Nat) → State
  | [] => s
  | g :: r => sendSegs (poolSend s d 0x0F g) d r

/-- The master sends each participant its launch calendar and keeps its own (R501). -/
def expandTo (s : State) (rs : List CalRec) : List Nat → State
  | [] => s
  | d :: r =>
    let segs := calSegs calSegments 0 (calImage s rs d)
    expandTo (if d = s.devId then { s with sets := { s.sets with shadow := putSegs s.sets.shadow segs } }
      else sendSegs s d segs) rs r

def expandCalendar (s : State) : State := expandTo s (calRecs s.sets.shadow) (members s)

end Sys2Proof.Machine
end

