-- ==== Sys2Proof/Machine/SetOps.lean ====
section
/-! DEFINITION. Configuration sets (spec/05): the arm checks, arming, the commit protocol and the swap. -/

namespace Sys2Proof.Machine

def setArmed (s : State) : Bool := s.bit Reg.PAL_SETSTAT 31
def committed (s : State) : Bool := s.bit Reg.PAL_SETSTAT 30
/-- PAL_SETSTAT.GEN, and the generation of the shadow set, which the next swap gives. -/
def setGen (s : State) : Nat := s.fld Reg.PAL_SETSTAT 23 0
def shadowGen (s : State) : Nat := (setGen s + 1) % 2 ^ 24
def setLast (s : State) (v : Nat) : State := s.setF Reg.PAL_SETSTAT 28 26 v

/-! ### Structural checks (R184) -/

/-- Two ranges, both ends included, overlap. -/
def rangesMeet (a b : Nat × Nat) : Bool := decide (a.1 ≤ b.2 ∧ b.1 ≤ a.2)

/-- No two of a list of ranges overlap. -/
def disjoint : List (Nat × Nat) → Bool
  | [] => true
  | a :: r => r.all (fun b => !rangesMeet a b) && disjoint r

/-- TAGRES (R212). -/
def tagresOk (m : SMap Byte) : Bool :=
  (List.range 4096).all (fun i => let e := tabNat m 1 (4 * i) 4; !e.testBit 31 || decide (nfld e 28 12 = 0))

/-- KEYSEL (R331). -/
def keyselDomains (m : SMap Byte) : List (Nat × Nat × Nat × Nat) :=
  ((List.range 32).map (fun i =>
    let b := 8704 + 16 * i
    (tabNat m 2 b 6, tabNat m 2 (b + 6) 6, tabNat m 2 (b + 12) 2, tabNat m 2 (b + 14) 2))).filter
      (fun e => e.2.2.1.testBit 15)

def keyselOk (m : SMap Byte) : Bool :=
  let ds := keyselDomains m
  (List.range 4352).all (fun i => let e := tabNat m 2 (2 * i) 2; !e.testBit 15 || decide (nfld e 14 12 = 0)) &&
  ds.all (fun e => decide (e.1 < 2 ^ 34 ∧ e.2.1 < 2 ^ 34 ∧ nfld e.2.2.1 14 12 = 0 ∧ e.2.2.2 = 0 ∧ e.1 ≤ e.2.1)) &&
  disjoint (ds.map (fun e => (e.1, e.2.1)))

/-- POOLMAP (R529): entries with V = 1 as base, last GiB, and whether their fields are in form. -/
def poolmapOk (m : SMap Byte) : Bool :=
  let es := (List.range 4096).filter (fun i => (tabNat m 3 (16 * i + 12) 1).testBit 0)
  let rng := fun i => (tabNat m 3 (16 * i) 2, tabNat m 3 (16 * i) 2 + tabNat m 3 (16 * i + 2) 2)
  es.all (fun i => decide ((rng i).2 < 65536 ∧ tabNat m 3 (16 * i + 4) 2 < 1024 ∧ tabNat m 3 (16 * i + 6) 2 < 1024 ∧
    tabNat m 3 (16 * i + 8) 1 < 8 ∧ tabNat m 3 (16 * i + 9) 1 ≤ 18 ∧ tabNat m 3 (16 * i + 12) 1 = 1 ∧
    tabNat m 3 (16 * i + 13) 3 = 0)) && disjoint (es.map rng)

/-- The capacity of channel `c` in bytes as DMC_GEOM gives it; none while LOG2C is 0. -/
def chanCapacity (s : State) (c : Nat) : Option Nat :=
  let l := s.fld (Reg.DMC_GEOM c) 23 16
  if l = 0 then .none else some (2 ^ l)

/-- The capacity of a set of a mask, by the first channel whose capacity is known. -/
def maskCapacity (s : State) (mask : Nat) (par : Bool) : Option Nat :=
  ((bitsOf 24 0 mask).findSome? (chanCapacity s)).map (fun c => (if par then 5 else popCount 24 mask) * c)

/-- ILSET (R387). -/
def ilsetOk (s : State) (m : SMap Byte) : Bool :=
  let v := fun n => (tabNat m 4 (32 * n + 3) 1).testBit 7
  let es := (List.range 32).filter v
  let mask := fun n => tabNat m 4 (32 * n) 3
  let ctl := fun n => tabNat m 4 (32 * n + 3) 1
  let base := fun n => tabNat m 4 (32 * n + 8) 8
  let pages := fun n => tabNat m 4 (32 * n + 16) 8
  es.all (fun n =>
    decide (n < 24 ∧ popCount 24 (mask n) ∈ [1, 2, 3, 4, 6, 8, 12, 24] ∧ ctl n % 16 ≤ 8 ∧ nfld (ctl n) 6 5 = 0 ∧
      tabNat m 4 (32 * n + 4) 4 = 0 ∧ tabNat m 4 (32 * n + 24) 8 = 0 ∧ base n < 2 ^ 34 ∧ 1 ≤ pages n ∧
      pages n ≤ 2 ^ 34 ∧ base n + pages n ≤ exposedPages) &&
    (!(ctl n).testBit 4 || (List.range 4).any (fun q => decide (mask n = 0x3F * 64 ^ q))) &&
    (bitsOf 24 0 (mask n)).all (fun c => decide (chanCapacity s c = .none ∨
      chanCapacity s c = (bitsOf 24 0 (mask n)).findSome? (chanCapacity s))) &&
    (match maskCapacity s (mask n) ((ctl n).testBit 4) with
      | some c => decide (mapRegionBytes (pages n) < c)
      | .none => true) &&
    (!setV s n || decide (setMask s n = mask n ∧ setCtl s n % 16 = ctl n % 16 ∧
      (setCtl s n).testBit 4 = (ctl n).testBit 4))) &&
  decide ((es.flatMap (fun n => bitsOf 24 0 (mask n))).Nodup) &&
  disjoint (es.map (fun n => (base n, base n + pages n - 1)))

/-- SLU_CTL of the shadow copy, as the arm check uses it (R434). -/
def sluceOk (s : State) (m : SMap Byte) : Bool :=
  let isInt := fun x => decide (252 ≤ x ∧ x ≤ 254)
  let rs := (List.range 64).filter (fun i => (tabNat m 5 (4096 + 16 * i + 13) 1).testBit 0)
  let rng := fun i => (tabNat m 5 (4096 + 16 * i) 6, tabNat m 5 (4096 + 16 * i + 6) 6)
  let ent := fun x off n => tabNat m 5 (5120 + 12 * x + off) n
  (List.range 4096).all (fun t => !isInt (tabNat m 5 t 1)) &&
  rs.all (fun i => !isInt (tabNat m 5 (4096 + 16 * i + 12) 1) &&
    decide ((rng i).1 < 2 ^ 34 ∧ (rng i).2 < 2 ^ 34 ∧ (rng i).1 ≤ (rng i).2 ∧ tabNat m 5 (4096 + 16 * i + 13) 1 = 1 ∧
      tabNat m 5 (4096 + 16 * i + 14) 2 = 0)) &&
  disjoint (rs.map rng) &&
  (List.range 256).all (fun x =>
    decide (ent x 4 1 < 2 ∧ ent x 5 7 = 0 ∧ (ent x 2 2 = 0 ∨ ent x 0 2 ≤ ent x 2 2) ∧ (ent x 4 1 = 1 ∨ ent x 0 2 = 0)) &&
    (!isInt x || decide (ent x 0 2 = 0 ∧ ent x 2 2 = 0 ∧ ent x 4 1 = 0))) &&
  decide (booked m ≤
    deliverable s (fld (s.sreg Reg.SLU_CTL) 15 8) * fld (s.sreg Reg.SLU_CTL) 31 24 / 256)

/-- The structural check of a set-held table of the shadow set. -/
def tableOk (s : State) (id : Nat) : Bool :=
  let m := s.sets.shadow
  match id with
  | 1 => tagresOk m
  | 2 => keyselOk m
  | 3 => poolmapOk m
  | 4 => ilsetOk s m
  | 5 => sluceOk s m
  | 6 => calAdmits s m
  | _ => true

/-! ### The arm checks in the order of R184 -/

/-- The distinct owner images of the shadow set, each with the lowest core that runs it. -/
def shadowImages (s : State) : List (Nat × Image) :=
  coreList.filterMap (fun n => match shadowImage s n with
    | .none => .none
    | some i =>
      if (List.range n).any (fun k => decide (shadowImage s k = some i)) then .none else some (n, i))

def shadowBank (s : State) (n : Nat) : SMap Byte := if activeB s then (s.core n).bankA else (s.core n).bankB

/-- A shadow image that fails R168, by core. -/
def badImage (s : State) : Option Nat :=
  coreList.find? (fun n => match shadowImage s n with
    | .none => false
    | some i => decide (imageCheck s false (bankImage i (shadowBank s n)) ≠ 1))

/-- Two images claim one table: the second image's core and the table. -/
def claimConflict : List (Nat × Image) → List Nat → Option (Nat × Nat)
  | [], _ => .none
  | (n, i) :: r, seen =>
    match (claims i.hdr).find? (fun t => seen.contains t) with
    | some t => some (n, t)
    | .none => claimConflict r (seen ++ claims i.hdr)

/-- A claim of a reserved table number. -/
def reservedClaim : List (Nat × Image) → Option (Nat × Nat)
  | [] => .none
  | (n, i) :: r =>
    match (claims i.hdr).find? (fun t => decide (tableSize t = 0)) with
    | some t => some (n, t)
    | .none => reservedClaim r

def claimedBy (l : List (Nat × Image)) (t : Nat) : Option Nat :=
  (l.find? (fun e => (claims e.2.hdr).contains t)).map Prod.fst

/-- A claimed set-held table, of an owner image or of a table image, whose structure fails. -/
def badTable (s : State) (l : List (Nat × Image)) : Option (Nat × Nat) :=
  ([1, 2, 3, 4, 5, 6].find? (fun t => ((claimedBy l t).isSome || s.sets.filled.contains t) && !tableOk s t)).map
    (fun t => ((claimedBy l t).getD 0, t))

/-- DMC_SCHED.HIWM of a shadow copy lies above LOWM and at most at 64 (R184, R395). -/
def schedOk (s : State) (c : Nat) : Bool :=
  let w := s.sreg (Reg.DMC_SCHED c)
  decide (fld w 15 8 < fld w 7 0 ∧ fld w 7 0 ≤ 64)

/-- The first failing check: CHECK, CORE, TABLE. -/
def armChecks (s : State) : Option (Nat × Nat × Nat) :=
  let l := shadowImages s
  match badImage s with
  | some n => some (1, n, 0)
  | .none =>
    match claimConflict l [] with
    | some (n, t) => some (2, n, t)
    | .none =>
      match reservedClaim l with
      | some (n, t) => some (3, n, t)
      | .none =>
        match badTable s l with
        | some (n, t) => some (4, n, t)
        | .none =>
          if (List.range 24).any (fun c => !schedOk s c) then some (5, 0, 0)
          else match claimedBy l 6 with
            | some n => if isMaster s then .none else some (6, n, 6)
            | .none => .none

/-! ### Arm, abort, commit (R184 to R187, R194) -/

def tideGen (t g : Nat) : List Nat := natBytes 8 t ++ natBytes 3 g

/-- COMMITTED with its tide (PAL_COMMITLO and HI hold T after COMMIT). -/
def markCommitted (s : State) (t : Nat) : State :=
  let s := s.setBit Reg.PAL_SETSTAT 30 true
  let s := (s.setReg Reg.PAL_COMMITLO (BitVec.ofNat 32 t)).setReg Reg.PAL_COMMITHI (BitVec.ofNat 32 (t / 2 ^ 32))
  { s with sets := { s.sets with commitTide := t, missed := false, excludeAt := [] } }

/-- The master commits once every participant has reported ARMED (R187): the tide T is its choice, at least 40,000 tides
ahead. -/
def masterCommit (s : State) : State :=
  if isMaster s && setArmed s && !committed s && s.pool.commitT.isNone &&
      (members s).all (fun d => s.pool.armed.any (fun e => decide (e.1 = d))) then
    let t := s.tide + 40000 + Config.freeNat s.fresh
    let s := markCommitted s.draw t
    let s := { s with pool := { s.pool with
      commitT := some t, finalSent := false, cmack := [s.devId], armed := [], armFrom := .none } }
    poolSendAll s 0x0B (tideGen t (shadowGen s)) (members s)
  else s

/-- The master records an ARMED report. -/
def recordArmed (s : State) (d g : Nat) : State :=
  masterCommit { s with pool := { s.pool with
    armed := s.pool.armed.filter (fun e => decide (e.1 ≠ d)) ++ [(d, g)]
    armFrom := s.pool.armFrom.getD s.clock } }

/-- Arming: 0 armed, 1 already armed, 2 refused (R157, R184, R186). -/
def armSet (s : State) : State × Nat :=
  if setArmed s then (s, 1)
  else
    let s := if isMaster s && (claimedBy (shadowImages s) 6).isSome then expandCalendar s else s
    match armChecks s with
    | some (c, n, t) =>
      (setLast ((s.setReg Reg.PAL_ARMERR (BitVec.ofNat 32 (c * 2 ^ 20 + n * 2 ^ 16 + t * 2 ^ 8))).hwBit Reg.PAL_ARMERR 31) 4, 2)
    | .none =>
      let s := s.setBit Reg.PAL_SETSTAT 31 true
      let s := if isMaster s then recordArmed s s.devId (shadowGen s)
        else if inPool s then poolSend s (masterId s) 0x0A (tideGen s.tide (shadowGen s))
        else s
      (s, 0)

/-- An armed set is dropped: 0 aborted, 1 nothing armed, 2 already committed (R181, R187). Every core receives the notice
with CODE 2 (DESIGN CHOICE, log entry 7). -/
def abortSet (s : State) : State × Nat :=
  if committed s then (s, 2)
  else if !setArmed s then (s, 1)
  else (noticeAll (setLast (s.setBit Reg.PAL_SETSTAT 31 false) 2) 2 0 coreList, 0)

/-- A standalone device's commit (R194): a tide closer than 40,000 tides is refused, and the set stays armed. -/
def localCommit (s : State) : State :=
  let t := (s.reg Reg.PAL_COMMITLO).toNat + 2 ^ 32 * (s.reg Reg.PAL_COMMITHI).toNat
  if setArmed s && !committed s && !inPool s && decide (s.tide + 40000 ≤ t) then markCommitted s t else s

/-! ### The swap (R188 to R192) -/

/-- The offsets of the set-held registers (R176). -/
def heldRegs : List Nat :=
  [Reg.POOL_CIRC, Reg.TIER_CTL, Reg.CRY_GCTL, Reg.CRY_HCTL, Reg.HOME_CTL, Reg.SLU_CTL] ++
    (List.range 24).map Reg.DMC_SCHED ++ (List.range 192).map Reg.FLT_CLASS

/-- The active copy takes the shadow copy's written fields; fields that hardware keeps stay. -/
def swapReg (s : State) (off : Nat) : State :=
  match regDesc off with
  | .none => s
  | some d => s.setReg off ((s.reg off &&& ~~~ BitVec.ofNat 32 d.rw) ||| (s.sreg off &&& BitVec.ofNat 32 d.rw))

def swapRegs (s : State) : List Nat → State
  | [] => s
  | o :: r => swapRegs (swapReg s o) r

/-- Cores whose owner image changed restart; the SWAP event is latched on the others (R190). -/
def swapCores (s : State) (changed : List Nat) : List Nat → State
  | [] => s
  | n :: r =>
    swapCores (if changed.contains n then restartAtBoundary s n else s.setCore n ((s.core n).latch 5)) changed r

/-- A set that becomes V = 1 has its map blocks unwritten (R680), and a set that becomes V = 0 is not servable (R388). -/
def reshapeSet (s : State) (old new : Nat → Bool) (n : Nat) : State :=
  if old n = new n then s
  else
    let s := (s.setBit Reg.GEN_SETSRV n false).setBit Reg.TIER_SETOFF n false
    let lo := mapBase s n
    let hi := mapBase s n + mapPages s n
    let out := fun (k : Nat) => !decide (lo ≤ k ∧ k < hi)
    if new n then
      { s with
        wipe := { s.wipe with sets := smSet {} s.wipe.sets n {} }
        tier := { s.tier with
          mapc := (s.tier.mapc.map (fun e => (e.1, e.2.filter (fun x => decide (x.set ≠ n))))).filter (fun e => decide (e.2 ≠ []))
          svc := (s.tier.svc.map (fun e => (e.1, e.2.filter (fun x => out x.page)))).filter (fun e => decide (e.2 ≠ [])) } }
    else s

def reshapeSets (s : State) (old new : Nat → Bool) : List Nat → State
  | [] => s
  | n :: r => reshapeSets (reshapeSet s old new n) old new r

/-- The older sets that a request, a move, a job or a taken frame still uses. -/
def usedSets (s : State) : List OldSet :=
  let used := s.coh.txns.map (fun t => t.req.cset) ++ s.coh.chain.map (fun r => r.cset) ++ s.tier.moves.map (fun m => m.cset) ++
    s.tier.peerMoves.map (fun m => m.cset) ++ s.tier.jobs.map (fun j => j.cset) ++ s.pool.take.map (fun t => t.2.2.2)
  (s.sets.olds ++ [activeSet s]).filter (fun o => used.contains o.num)

/-- A swap may change WLOG: the open window goes on, unless the present tide begins one (R425). -/
def followWlog (s : State) : State :=
  if s.tide % 2 ^ wlog s ≠ 0 then { s with slu := { s.slu with window := s.tide / 2 ^ wlog s } } else s

/-- The swap. The banks change places with PAL_SETSTAT.ACTIVE, and neither array is copied (R166); the shadow tables and registers
keep the values that the active ones took (R177). -/
def swapSets (s : State) : State :=
  let oldImg := coreList.map (activeImage s)
  let oldV := (List.range 24).map (setV s)
  let s := { s with sets := { s.sets with olds := usedSets s, swaps := s.sets.swaps + 1 } }
  let s := swapRegs s heldRegs
  let s := followWlog s
  let s := { s with sets := { s.sets with active := s.sets.shadow, filled := [], imgTab := s.sets.imgTabSh } }
  let s := s.setBit Reg.PAL_SETSTAT 29 (!activeB s)
  let s := setLast (s.setF Reg.PAL_SETSTAT 23 0 (shadowGen s)) 1
  let s := (s.setBit Reg.PAL_SETSTAT 31 false).setBit Reg.PAL_SETSTAT 30 false
  let s := reshapeSets s (fun n => oldV.getD n false) (setV s) (List.range 24)
  let changed := coreList.filter (fun n => decide (oldImg.getD n .none ≠ activeImage s n))
  let s := swapCores s changed coreList
  noticeAll s 1 (setGen s) coreList

/-- A device leaves the membership (R192, R521): its bit falls and "membership changed" is raised. -/
def exclude (s : State) (d : Nat) : State :=
  if isMember s d ∧ d ≠ s.devId then raisePool (s.setBit (Reg.POOL_MEMB (d / 32)) (d % 32) false) 12 d else s

def excludeAll (s : State) : List Nat → State
  | [] => s
  | d :: r => excludeAll (exclude s d) r

/-- A case of R191 or R193: LAST 3, "swap missed", SAFE. -/
def swapMiss (s : State) : State := raise (safeReact (setLast s 3)) Src.swapMissed

/-- Tide T of a commit has come. -/
def atCommitTide (s : State) : State :=
  let out := s.sets.excludeAt
  let lost := s.sets.missed || s.sets.lostArm || decide (s.code = Mode.safe)
  let s := { s with
    sets := { s.sets with excludeAt := [], missed := false, lostArm := false }
    pool := { s.pool with commitT := .none, cmack := [], finalSent := false } }
  let s := if lost then swapMiss (s.setBit Reg.PAL_SETSTAT 30 false)
    else if committed s then swapSets s else s
  excludeAll s out

end Sys2Proof.Machine
end

