-- ==== Sys2Proof/Machine/Sets.lean ====
section
/-! DEFINITION. The commands of configuration sets (spec/05): arm, abort, local commit, the frames of the commit protocol,
the commit tide. A command that takes a conveyor frame removes it from the take buffers when it stands there. -/

namespace Sys2Proof.Machine

/-- `n` bytes of a frame's payload from byte `off`. -/
def pay (f : Frame) (off n : Nat) : Nat := f.data.toNat / 2 ^ (8 * off) % 2 ^ (8 * n)

/-- The effect of a write of PAL_SETCMD. -/
def wrSetCmd (v : Word) (s : State) : State :=
  let s := s.setF Reg.PAL_SETCMD 1 0 (fld v 1 0)
  match fld v 1 0 with
  | 1 => (armSet s).1
  | 2 => (abortSet s).1
  | 3 => localCommit s
  | _ => s

def setCmd (p : Path) (v : Word) (s : State) : State := guardedWrite s p Reg.PAL_SETCMD (wrSetCmd v)

/-- SET_ARM (R184). -/
def execSetArm (p : Path) (s : State) : Host.Outcome State Fault Refusal := done (setCmd p 1 s)

/-- SET_ABORT (R187). -/
def execSetAbort (p : Path) (s : State) : Host.Outcome State Fault Refusal := done (setCmd p 2 s)

/-- LOCAL_COMMIT (R194). -/
def execLocalCommit (p : Path) (s : State) : Host.Outcome State Fault Refusal := done (setCmd p 3 s)

/-- ARM_WAIT_TIMEOUT (R187): 10 ms after the master's wait began, a participant is missing; ABORT goes to all. -/
def armWaitEnd (s : State) : State :=
  match s.pool.armFrom with
  | .none => s
  | some c =>
    if isMaster s && decide (c + 10 * msClocks ≤ s.clock) && s.pool.commitT.isNone then
      let s := { s with pool := { s.pool with armed := [], armFrom := .none } }
      let s := poolSendAll s 0x0E (tideGen s.tide (shadowGen s)) (members s)
      (abortSet s).1
    else s

def execArmWaitTimeout (s : State) : Host.Outcome State Fault Refusal :=
  atDue .armWaitTimeout 1 (s.pool.armFrom.map (fun c => c + 10 * msClocks)) s (fun s => done (armWaitEnd s))

/-- The parts of a FINAL, at most 26 devices in each (R508). -/
def finalParts : Nat → List Nat → List (List Nat)
  | 0, _ => []
  | n + 1, l => l.take 26 :: finalParts n (l.drop 26)

def sendFinals (s : State) (t parts : Nat) : Nat → List (List Nat) → State
  | _, [] => s
  | i, g :: r =>
    sendFinals (poolSendAll s 0x0D (natBytes 8 t ++ [i, parts, g.length] ++ g.flatMap (natBytes 2)) (members s)) t parts
      (i + 1) r

/-- FINAL for the devices of a list, from this device (R187, R520). -/
def sendFinal (s : State) (t : Nat) (l : List Nat) : State :=
  let n := max 1 (ceilDiv l.length 26)
  let s := { s with sets := { s.sets with excludeAt := s.sets.excludeAt ++ l } }
  sendFinals s t n 0 (finalParts n l)

/-- Participants whose CMACK has not come. -/
def unacked (s : State) : List Nat := (members s).filter (fun d => !s.pool.cmack.contains d)

/-- FINAL_SEND (R187): at tide T − 10,000 or later the master names the unacknowledged participants. -/
def finalSend (s : State) : State :=
  match s.pool.commitT with
  | .none => s
  | some t =>
    if isMaster s && !s.pool.finalSent && decide (t ≤ s.tide + 10000) then
      sendFinal { s with pool := { s.pool with finalSent := true } } t (unacked s)
    else s

def execFinalSend (s : State) : Host.Outcome State Fault Refusal :=
  atTide .finalSend (s.pool.commitT.map (fun t => t - 10000)) s (fun s => done (finalSend s))

/-- Something waits for a commit tide that has come. -/
def commitDue (s : State) : Bool :=
  (committed s || s.sets.missed || s.sets.lostArm || decide (s.sets.excludeAt ≠ [])) && decide (s.sets.commitTide ≤ s.tide)

/-- What waits for a commit tide that has come is carried out (R188, R191, R192). -/
def commitFollow (s : State) : State := if commitDue s then atCommitTide s else s

/-- CONFIG_SET_SWAP (R188, R191): the commit tide has come. -/
def execConfigSetSwap (s : State) : Host.Outcome State Fault Refusal := done (commitFollow s)

/-- ARMED (R186): the master records a participant's report. -/
def execArmed (f : Frame) (s : State) : Host.Outcome State Fault Refusal :=
  let s := dropTaken s f
  if isMaster s && isMember s f.src then done (recordArmed s f.src (pay f 8 3)) else done s

/-- COMMIT (R187): committed, and acknowledged to master and standby, or SAFE. -/
def execCommit (f : Frame) (s : State) : Host.Outcome State Fault Refusal :=
  let s := dropTaken s f
  let t := pay f 0 8
  let g := pay f 8 3
  if t < s.tide + 1250 ∨ !setArmed s ∨ g ≠ shadowGen s then done (swapMiss s)
  else
    let s := if committed s then s else markCommitted s t
    let s := poolSend s (masterId s) 0x0C (tideGen t g)
    done (if standbyId s = masterId s then s
      else if standbyId s = s.devId then { s with pool := { s.pool with cmack := s.pool.cmack ++ [s.devId] } }
      else poolSend s (standbyId s) 0x0C (tideGen t g))

/-- CMACK (R187): master and standby record the acknowledgement. -/
def execCmack (f : Frame) (s : State) : Host.Outcome State Fault Refusal :=
  let s := dropTaken s f
  if s.pool.cmack.contains f.src then done s
  else done { s with pool := { s.pool with cmack := s.pool.cmack ++ [f.src] } }

/-- The devices that a FINAL names. -/
def finalNames (f : Frame) : List Nat := (List.range (min 26 (pay f 10 1))).map (fun i => pay f (11 + 2 * i) 2 % 1024)

/-- FINAL (R191, R192, R520): a named device goes to SAFE, at T when it comes before T and at once when it comes after;
every other device excludes the named ones, from T or from the FINAL's arrival. -/
def execFinal (f : Frame) (s : State) : Host.Outcome State Fault Refusal :=
  let s := dropTaken s f
  let t := pay f 0 8
  let l := finalNames f
  if l.contains s.devId then
    if s.tide < t then done { s with sets := { s.sets with missed := true, commitTide := t } }
    else done (swapMiss s)
  else if s.tide < t then
    done { s with sets := { s.sets with excludeAt := s.sets.excludeAt ++ l, commitTide := t } }
  else done (excludeAll s l)

/-- POOL_ABORT (R187): ignored by a device that has received COMMIT. -/
def execPoolAbort (f : Frame) (s : State) : Host.Outcome State Fault Refusal := done (abortSet (dropTaken s f)).1

/-- CALSEG (R501): 62 B of the launch calendar and flow list of the shadow set. -/
def execCalseg (f : Frame) (s : State) : Host.Outcome State Fault Refusal :=
  let s := dropTaken s f
  let i := pay f 0 2
  if setArmed s || decide (calSegments ≤ i) then done s
  else done { s with sets := { s.sets with shadow := tabPut s.sets.shadow 0x20 (62 * i) (pay f 2 62) 62 } }

end Sys2Proof.Machine
end

