-- ==== Sys2Proof/Machine/PoolOps.lean ====
section
/-! DEFINITION. The pool controller and the tide unit (spec/14): tide errors, steps and slews, tide-tree parents, master
candidates, membership changes, quorum, courses and folds. -/

namespace Sys2Proof.Machine

/-! ### Numbers -/

/-- A signed 16-bit field. -/
def signed16 (n : Nat) : Int := if n % 65536 < 32768 then (n % 65536 : Int) else (n % 65536 : Int) - 65536

/-- The low 16 bits of a number cut to the signed 16-bit range. -/
def sat16 (i : Int) : Nat :=
  let c : Int := if i < -32768 then -32768 else if 32767 < i then 32767 else i
  ((c + 65536) % 65536).toNat

/-! ### The tide base (R511, R515) -/

/-- The tide jumps: what follows TIDE_NOW follows the new value. A new base cancels local schedules. -/
def tideJump (s : State) (t phase : Nat) (base : Bool) : State :=
  let s := s.setTide t
  let s := { s with tideU := { s.tideU with phase := phase, err := 0, excess := .none, slew := t } }
  let s := { s with
    slu := { s.slu with window := t / 2 ^ wlog s + 1 }
    dram := { s.dram with chan := s.dram.chan.map (fun e => (e.1, { e.2 with widx := e.2.widx + 1, cut := true })) }
    hk := { s.hk with cut := if readyHk s then some t else s.hk.cut } }
  if base then
    let s := (s.hwF Reg.TIDE_AT_LO 31 0 0xFFFFFFFF).hwF Reg.TIDE_AT_HI 31 0 0xFFFFFFFF
    let s := match s.tel.sched with
      | some x => if x.pool then s else { s with tel := { s.tel with sched := .none } }
      | .none => s
    let s := { s with tideU := { s.tideU with alarmed := .none } }
    if committed s && !inPool s then s.setBit Reg.PAL_SETSTAT 30 false else s
  else s

/-- A step by the tide error: "tide stepped" (R511). -/
def tideStep (s : State) (err : Int) (base : Bool) : State :=
  let now : Int := (64 * s.tide + 16 * s.tideU.phase : Nat)
  let new := (now - err).toNat
  let s := tideJump s (new / 64) (new % 64 / 16) base
  raisePool (tick (s.hwBit Reg.POOL_TIDEERR 31) bTide 2 1) 7 (masterId s)

/-- The tide error of a TIDE frame (R510): arrival and fine one-way delay in 1/16 core clock. -/
def tideError (s : State) (l tsend arrival fine : Nat) : Int :=
  (arrival : Int) - ((64 * tsend + 16 * s.fld (Reg.CNV_DELAY l) 15 0 + fine : Nat) : Int) -
    signed16 (s.fld (Reg.POOL_SKEW l) 15 0)

def setTideErr (s : State) (e : Int) : State := s.setF Reg.POOL_TIDEERR 15 0 (sat16 e)

/-- The correction of a member (R511): a step beyond 4 tides, else the error is left to slewing. -/
def tideCorrect (s : State) (e : Int) (joining : Bool) : State :=
  let s := setTideErr s e
  if joining || decide (256 < e.natAbs) then tideStep s e joining
  else
    let excess := if 32 < e.natAbs then some (s.tideU.excess.getD s.tide) else .none
    { s with tideU := { s.tideU with err := e, excess := excess } }

/-! ### The tide tree (R509, R513) -/

/-- The direction from a device to its tide parent: in Y first, then in X. -/
def parentDir (s : State) (d m : Nat) : Option Nat :=
  let chain := decide (topoKind s = 1)
  if posY d ≠ posY m then some (dimDir chain (brokenAt s true) (topoDY s) (posY d) (posY m) 2)
  else if posX d ≠ posX m then some (dimDir chain (brokenAt s false) (topoDX s) (posX d) (posX m) 0)
  else .none

/-- The lowest READY link of a face. -/
def faceLink (s : State) (dir : Nat) : Option Nat :=
  ((List.range 8).find? (fun k => readyLink s (dirLink dir + k))).map (fun k => dirLink dir + k)

/-- The parent link of this device; the master has none. -/
def setParent (s : State) : State :=
  let p := if isMaster s then .none else (parentDir s s.devId (masterId s)).bind (faceLink s)
  { s with tideU := { s.tideU with parent := p } }

/-- The directions whose neighbour is a member whose parent is this device. -/
def childDirs (s : State) : List Nat :=
  (List.range 4).filter (fun dir =>
    let d := stepDir s s.devId dir
    decide (d ≠ s.devId) && isMember s d && decide (d ≠ masterId s) &&
      (match parentDir s d (masterId s) with
        | some b => decide (stepDir s d b = s.devId)
        | .none => false))

/-- The device ID of a link's peer as CNV_PEER reports it. -/
def peerId (s : State) (l : Nat) : Option Nat :=
  if s.bit (Reg.CNV_PEER l) 31 then some (s.fld (Reg.CNV_PEER l) 25 16) else .none

/-- Links that carry a BEACON: READY, with a peer that is not a member. -/
def beaconLinks (s : State) : List Nat :=
  (List.range 32).filter (fun l => readyLink s l && (match peerId s l with
    | some d => !isMember s d
    | .none => true))

/-! ### Master candidates (R516) -/

def poolPrio (s : State) : Nat := s.fld Reg.POOL_CFG 11 8
def masterCapable (s : State) : Bool := s.bit Reg.POOL_CFG 3

/-- Candidate (ID, PRIO) `a` is better than `b`. -/
def better (a b : Nat × Nat) : Bool := decide (b.2 < a.2 ∨ (a.2 = b.2 ∧ a.1 < b.1))

def bestOf : List (Nat × Nat) → Option (Nat × Nat)
  | [] => .none
  | a :: r => match bestOf r with
    | .none => some a
    | some b => if better b a then some b else some a

/-- The standby (R516): the best master-capable member after the master; the master itself where there is none. -/
def standbyOf (s : State) : Nat :=
  ((bestOf (s.pool.capable.filter (fun c => isMember s c.1 && decide (c.1 ≠ masterId s)))).map Prod.fst).getD (masterId s)

def setStandby (s : State) (d : Nat) : State := s.setF Reg.POOL_TOPO 9 0 d
def setMaster (s : State) (d : Nat) : State := s.setF Reg.POOL_TOPO 19 10 d
def setRole (s : State) (r : Nat) : State := s.setF Reg.POOL_STAT 31 29 r

/-- The role of a member as MASTER and STANDBY name it; a leaving device stays so. -/
def memberRole (s : State) : State :=
  if role s = 5 then s
  else if masterId s = s.devId then setRole s 3
  else setRole s (if standbyId s = s.devId then 2 else 1)

/-- The payload of a TIDE frame (R506); TSEND and SGEN are those of the slot in which it leaves (R454). -/
def tidePayload (s : State) (beacon forming : Bool) : List Nat :=
  let c := s.pool.cand.getD (masterId s, 0, 0)
  natBytes 8 s.tide ++ natBytes 3 (setGen s) ++
    [b2n beacon + 2 * b2n (s.bit Reg.POOL_STAT 27) + 4 * b2n forming] ++
    natBytes 2 (masterId s) ++ natBytes 2 (standbyId s) ++ natBytes 2 c.1 ++ [c.2.1, s.tideU.hops] ++
    natBytes 2 (s.fld Reg.POOL_STAT 15 0) ++ natBytes 4 (s.reg Reg.POOL_TOPO).toNat

def sendTide (s : State) (beacon forming : Bool) (l : Nat) : State :=
  launchOn s { ty := 4, dest := (peerId s l).getD 0, data := lineOf (tidePayload s beacon forming) } 2 (some l)

def sendTides (s : State) (beacon forming : Bool) : List Nat → State
  | [] => s
  | l :: r => sendTides (sendTide s beacon forming l) beacon forming r

/-! ### Membership (R521 to R523) -/

def mgen (s : State) : Nat := s.fld Reg.POOL_STAT 15 0
def setMember (s : State) (d : Nat) (v : Bool) : State := s.setBit (Reg.POOL_MEMB (d / 32)) (d % 32) v

/-- The conveyor clock PLL runs from the board's reference (R22), and the tide follows no link. -/
def ownReference (s : State) : State :=
  { s.setBit Reg.POOL_STAT 27 false with tideU := { s.tideU with parent := .none } }

/-- This device stops being a member. -/
def leavePool (s : State) : State :=
  let s := ownReference s
  setReadyPool (setRole (s.setBit Reg.POOL_STAT 28 false) 0) false

def joinOne (s : State) (d : Nat) : State :=
  let s := setMember s d true
  if d = s.devId then
    let s := memberRole (setRole s 1)
    let s := setParent { s with pool := { s.pool with welcome := .none, joining := false, hbAt := s.tide } }
    setReadyPool (s.setBit Reg.POOL_STAT 28 true) true
  else s

def dropOne (s : State) (d : Nat) : State :=
  let s := setMember s d false
  let s := { s with pool := { s.pool with
    misses := smSet 0 s.pool.misses d 0, capable := s.pool.capable.filter (fun c => decide (c.1 ≠ d)) } }
  if d = s.devId then leavePool s else s

def joinAll (s : State) : List Nat → State
  | [] => s
  | d :: r => joinAll (joinOne s d) r
def dropAll (s : State) : List Nat → State
  | [] => s
  | d :: r => dropAll (dropOne s d) r

/-- A membership change applies: bits, MGEN, "membership changed"; the master names the standby anew. -/
def applyMemb (s : State) (c : MembChg) : State :=
  let s := s.setF Reg.POOL_STAT 15 0 c.gen
  let s := dropAll (joinAll s c.add) c.remove
  let s := if isMaster s then setStandby s (standbyOf s) else s
  raisePool s 12 ((c.add ++ c.remove).headD 0)

/-- A MEMB change: at its tide, or on receipt for T = 0. -/
def takeMemb (s : State) (c : MembChg) : State :=
  if c.tide = 0 then applyMemb s c else { s with pool := { s.pool with changes := s.pool.changes ++ [c] } }

/-- The bytes of a MEMB for at most 25 devices (R508). -/
def membBytes (t g : Nat) (add : Bool) (l : List Nat) : List Nat :=
  natBytes 8 t ++ natBytes 2 g ++ [l.length] ++ l.flatMap (fun d => natBytes 2 (d + b2n add * 32768))

def membParts : Nat → List Nat → List (List Nat)
  | 0, _ => []
  | n + 1, l => if l = [] then [] else l.take 25 :: membParts n (l.drop 25)

def sendMembs (s : State) (t g : Nat) (add : Bool) (devs : List Nat) : List (List Nat) → State
  | [] => s
  | p :: r => sendMembs (poolSendAll s 0x07 (membBytes t g add p) devs) t g add devs r

/-- The master changes the membership: MEMB to all, and the same change here. -/
def masterMemb (s : State) (t : Nat) (add remove : List Nat) : State :=
  let g := (mgen s + 1) % 65536
  let devs := members s
  let s := sendMembs s t g true devs (membParts 41 add)
  let s := sendMembs s t g false devs (membParts 41 remove)
  takeMemb s { tide := t, gen := g, add := add, remove := remove }

/-- A tide at least 12,500 tides ahead (R521), as the master chooses it. -/
def aheadTide (s : State) : Nat := s.tide + 12500 + Config.freeNat s.fresh

/-! ### Quorum (R518 to R520) -/

def noQuorum (s : State) : State := safeReact (raisePool (s.setBit Reg.POOL_STAT 28 false) 11 s.devId)

/-- After an exclusion, the master judges its quorum: `old` members before it. -/
def judgeQuorum (s : State) (old : Nat) : State :=
  let n := (members s).length
  if 2 * n < old ∨ (2 * n = old ∧ !Config.halfServes) then noQuorum s else s

/-- The HBEAT period in tides (R517). -/
def hbTides : Nat := 2 ^ 14

/-- A swap in flight under a new master (R520). -/
def takeOverSwap (s : State) : State :=
  if committed s then
    let t := s.sets.commitTide
    let s := { s with pool := { s.pool with commitT := some t, finalSent := true } }
    sendFinal s t (unacked s)
  else
    (abortSet (poolSendAll s 0x0E (tideGen s.tide (shadowGen s)) (members s))).1

/-! ### Courses and folds (R488, R525, R526) -/

/-- POOL_COURSE of a direction. -/
def courseMask (s : State) (dir : Nat) : Nat := s.fld Reg.POOL_COURSE (8 * (3 - dir) + 7) (8 * (3 - dir))

/-- This device lies in the row (X) or column (Y) of a ROUTE. -/
def inLine (s : State) (dir line : Nat) : Bool := decide ((if dir < 2 then posY s.devId else posX s.devId) = line)

/-- The links of a direction whose mask changed are seeded again: no launches or turns for L tides (R498). -/
def reseedHold (s : State) (dir old new : Nat) : Nat → State
  | 0 => s
  | n + 1 =>
    let s := reseedHold s dir old new n
    if old.testBit n = new.testBit n then s
    else
      let l := dirLink dir + n
      s.setLink l { s.link l with hold := smGet 0 s.pool.course l }

/-- A ROUTE applies (R525, R526). Byte [3]: bit 7 folded, bits [4:0] the position after which the dimension is broken
(DESIGN CHOICE, log entry 8). -/
def applyRoute (s : State) (dir line mask fold pads : Nat) : State :=
  if !inLine s dir line then s
  else
    let old := courseMask s dir
    let s := s.setF Reg.POOL_COURSE (8 * (3 - dir) + 7) (8 * (3 - dir)) mask
    let s := reseedHold s dir old mask 8
    let s := s.setReg (Reg.POOL_PAD (dirLink dir / 8)) (BitVec.ofNat 32 pads)
    let dim := dir / 2
    let pos := fold % 32
    let me := if dir < 2 then posX s.devId else posY s.devId
    let size := max 1 (if dir < 2 then topoDX s else topoDY s)
    let was := (smGet .none s.pool.brk dim).isSome
    let folded := decide (128 ≤ fold)
    let s := { s with pool := { s.pool with brk := smSet .none s.pool.brk dim (if folded then some pos else .none) } }
    let s := s.setBit Reg.POOL_FOLD (2 * dim) (folded && decide (me = pos))
    let s := s.setBit Reg.POOL_FOLD (2 * dim + 1) (folded && decide (me = (pos + 1) % size))
    let s := if old &&& mask ≠ old then raisePool s 4 s.devId else s
    if folded && !was then raisePool s 5 s.devId else s

/-- What the master knows of a hop: device and link at one end. A hop with no report works at full width. -/
def hopReport (s : State) (d l : Nat) : Option (Nat × Bool) :=
  (s.pool.reports.find? (fun r => decide (r.1 = d ∧ r.2.1 = l))).map (fun r => (r.2.2.1, r.2.2.2))

def endWidth (s : State) (d l : Nat) : Nat :=
  match hopReport s d l with
  | some (w, up) => if up then w + 1 else 0
  | .none => 4

/-- Width code + 1 of course `k` on the hop that leaves a device in a + direction: 0 down, 4 full width. -/
def hopWidth (s : State) (dir d k : Nat) : Nat :=
  min (endWidth s d (dirLink dir + k)) (endWidth s (stepDir s d dir) (linkPair (dirLink dir + k)))

/-- The devices of a row or column. -/
def lineDevs (s : State) (x : Bool) (line : Nat) : List Nat :=
  if x then (List.range (topoDX s)).map (fun i => 32 * line + i) else (List.range (topoDY s)).map (fun i => 32 * i + line)

/-- The least width of course `k` along a line; `dir` is the + direction. A chain has no hop after its last position. -/
def lineWidth (s : State) (dir line k : Nat) : Nat :=
  let ds := lineDevs s (decide (dir = 0)) line
  let ds := if topoKind s = 1 then ds.dropLast else ds
  ds.foldl (fun w d => min w (hopWidth s dir d k)) 4

/-- The usable courses of a line, and whether it folds (R525): those at full width; else the widest that work; else none. -/
def lineMask (s : State) (dir line : Nat) : Nat :=
  let ws := (List.range 8).map (lineWidth s dir line)
  let best := ws.foldl max 0
  if best = 0 then 0xFF
  else (List.range 8).foldl (fun m k => if ws.getD k 0 = best then m + 2 ^ k else m) 0

def lineBroken (s : State) (dir line : Nat) : Bool :=
  (List.range 8).all (fun k => decide (lineWidth s dir line k = 0))

/-- The first hop of a line that no course crosses. -/
def lineBreak (s : State) (dir line : Nat) : Nat :=
  (((lineDevs s (decide (dir = 0)) line).find? (fun d =>
    (List.range 8).all (fun k => decide (hopWidth s dir d k = 0)))).map
      (fun d => if dir = 0 then posX d else posY d)).getD 0

/-- The master sends ROUTE for both directions of a line, and applies it (R525, R526). -/
def routeLine2 (s : State) (dir line : Nat) : State :=
  let mask := lineMask s dir line
  let fold := if lineBroken s dir line then 128 + lineBreak s dir line else 0
  let one := fun (s : State) (dr : Nat) =>
    let pads := (s.reg (Reg.POOL_PAD (dirLink dr / 8))).toNat
    applyRoute (poolSendAll s 0x08 ([dr, line, mask, fold] ++ natBytes 4 pads) (members s)) dr line mask fold pads
  one (one s dir) (dir + 1)

/-- A report of a device's link reaches the master. -/
def takeReport (s : State) (d l w : Nat) (up : Bool) : State :=
  let s := { s with pool := { s.pool with
    reports := s.pool.reports.filter (fun r => !decide (r.1 = d ∧ r.2.1 = l)) ++ [(d, l, w, up)] } }
  if l < 16 then routeLine2 s 0 (posY d) else routeLine2 s 2 (posX d)

end Sys2Proof.Machine
end

