-- ==== Sys2Proof/Machine/Pool.lean ====
section
/-! DEFINITION. The commands of the conveyor pool and the tide (spec/14), and of the die-to-die links and the conveyor PLL
(spec/01). A command that takes a frame removes it from the take buffers when it stands there. -/

namespace Sys2Proof.Machine

/-! ### Messages -/

/-- MSG_FRAME (R504, R135): the message enters the queue of core OPCODE [3:0] while it holds fewer than 56 messages. -/
def execMsgFrame (f : Frame) (s : State) : Host.Outcome State Fault Refusal :=
  let n := f.opcode % 16
  if msgCount (s.core n) < 56 then
    let s := dropTaken s f
    done (s.setCore n ((s.core n).enqueue (s.clock / CLK)
      { kind := 0, snd := 16, sdev := f.src, score := f.txid % 16, spl := f.opcode.testBit 4, data := f.data }))
  else done s

/-! ### The tide (R509 to R515) -/

/-- Candidates heard in a FORMING BEACON (R516). -/
def hearCandidate (s : State) (c : Nat × Nat) : State :=
  match s.pool.cand with
  | .none => { s with pool := { s.pool with cand := some (c.1, c.2, 0) } }
  | some (i, p, _) => if better c (i, p) then { s with pool := { s.pool with cand := some (c.1, c.2, 0) } } else s

/-- The active generation at a tide near now: a swap at the commit tide divides the two generations. -/
def genAt (s : State) (t : Nat) : Nat :=
  if committed s ∧ s.sets.commitTide ≤ t then shadowGen s
  else if s.fld Reg.PAL_SETSTAT 28 26 = 1 ∧ t < s.sets.commitTide ∧ s.sets.commitTide ≤ s.tide then
    (setGen s + 2 ^ 24 - 1) % 2 ^ 24
  else setGen s

/-- MASTER, STANDBY, topology and HOPS of a TIDE frame. -/
def adoptTide (s : State) (f : Frame) : State :=
  let s := s.setReg Reg.POOL_TOPO (BitVec.ofNat 32 (pay f 22 4))
  let s := setStandby (setMaster s (pay f 12 2 % 1024)) (pay f 14 2 % 1024)
  { s with tideU := { s.tideU with hops := min 255 (pay f 19 1 + 1) } }

/-- A device that wants to join hears a BEACON of a pool (R522). -/
def beaconJoin (s : State) (l : Nat) (f : Frame) (e : Int) : State :=
  let s := tideCorrect s e true
  let s := adoptTide s f
  let s := { s with
    pool := { s.pool with joining := true }
    tideU := { s.tideU with parent := some l } }
  launchOn (setRole s 4) { ty := 5, dest := masterId s, opcode := 1
                           data := lineOf [poolPrio s + 16 * b2n (masterCapable s)] } 2 (some l)

/-- A member takes the TIDE frame of its parent: the correction, HOPS, the master and standby it names. -/
def followParent (s : State) (f : Frame) (e : Int) : State :=
  let s := tideCorrect s e false
  let s := { s with tideU := { s.tideU with hops := min 255 (pay f 19 1 + 1) } }
  memberRole (s.setReg Reg.POOL_TOPO (BitVec.ofNat 32 (nset (nset (pay f 22 4) 19 10 (pay f 12 2)) 9 0 (pay f 14 2))))

def tideFrame (s : State) (l : Nat) (f : Frame) (arrival fine : Nat) : State :=
  let e := tideError s l (pay f 0 8) arrival fine
  let flags := pay f 11 1
  let s := { s with tideU := { s.tideU with peerHops := smSet 0 s.tideU.peerHops l (pay f 19 1) } }
  if inPool s then
    if isMaster s then s
    else
      let s := if s.tideU.parent = some l then followParent s f e else s
      if genAt s (pay f 0 8) ≠ pay f 8 3 then swapMiss s else s
  else if flags.testBit 2 then
    if s.bit Reg.POOL_CFG 4 then hearCandidate s (pay f 16 2 % 1024, pay f 18 1 % 16) else s
  else if flags.testBit 0 && s.bit Reg.POOL_CFG 0 && s.bit Reg.POOL_CFG 1 && decide (role s = 0) then beaconJoin s l f e
  else s

/-- TIDE_FRAME (R506, R507, R510, R511): `arrival` is the measured arrival in 1/16 core clock of this device's tides, `fine`
the refinement of ONEWAY. -/
def execTideFrame (l : Fin 32) (f : Frame) (arrival : Nat) (fine : Fin 16) (s : State) :
    Host.Outcome State Fault Refusal := done (tideFrame (tick (dropTaken s f) bTide 0 1) l f arrival fine)

/-- A device that forms a pool (R516): it counts the periods for which it has been the best candidate. -/
def formingSend (s : State) : State :=
  let me := (s.devId, poolPrio s)
  let s := if masterCapable s then hearCandidate s me else s
  let s := match s.pool.cand with
    | some (i, p, n) => if i = s.devId then { s with pool := { s.pool with cand := some (i, p, n + 1) } } else s
    | .none => s
  sendTides s true true ((List.range 32).filter (readyLink s))

/-- TIDE_FRAME_SEND (R509): once in each tide where TIDE_NOW mod 2^20 is 0. -/
def execTideFrameSend (s : State) : Host.Outcome State Fault Refusal :=
  let k := s.tide / 2 ^ 20
  if s.tide % 2 ^ 20 = 0 ∧ s.tideU.sent ≠ some k then
    let s := { s with tideU := { s.tideU with sent := some k } }
    if inPool s then done (sendTides (sendTides s false false ((childDirs s).filterMap (faceLink s))) true false (beaconLinks s))
    else if s.bit Reg.POOL_CFG 0 && s.bit Reg.POOL_CFG 4 then done (formingSend s)
    else done s
  else done s

/-- TIDE_ERROR_LIMIT (R511). -/
def tideErrorLimit (s : State) : State :=
  match s.tideU.excess with
  | some t =>
    if t + 2 ^ 21 ≤ s.tide then raisePool { s with tideU := { s.tideU with excess := .none } } 8 (masterId s) else s
  | .none => s

def execTideErrorLimit (s : State) : Host.Outcome State Fault Refusal :=
  atTide .tideErrorLimit (s.tideU.excess.map (fun t => t + 2 ^ 21)) s (fun s => done (tideErrorLimit s))

/-- TIDE_PARENT_LOST (R513): holdover, and the next READY link of the face, or any whose peer has fewer hops. -/
def execTideParentLost (s : State) : Host.Outcome State Fault Refusal :=
  match s.tideU.parent with
  | .none => done s
  | some l =>
    if readyLink s l || !inPool s then done s
    else
      let next := match faceLink s (linkDir l) with
        | some k => some k
        | .none => (List.range 32).find? (fun k => readyLink s k && decide (smGet 0 s.tideU.peerHops k < s.tideU.hops))
      let s := { s with tideU := { s.tideU with parent := next, holdFrom := s.clock } }
      done (raisePool (s.setBit Reg.POOL_STAT 27 true) 9 s.devId)

/-- HOLDOVER_END (R513): the PLL tracks the new parent link. -/
def execHoldoverEnd (s : State) : Host.Outcome State Fault Refusal :=
  match s.tideU.parent with
  | some l => done (if readyLink s l then s.setBit Reg.POOL_STAT 27 false else s)
  | .none => done s

def tideAt (s : State) : Nat := (s.reg Reg.TIDE_AT_LO).toNat + 2 ^ 32 * (s.reg Reg.TIDE_AT_HI).toNat

/-- The tide alarm (R515): once for the tide that TIDE_AT holds. -/
def tideAlarm (s : State) : State :=
  if tideAt s ≤ s.tide ∧ s.tideU.alarmed ≠ some (tideAt s) then
    raisePool { s with tideU := { s.tideU with alarmed := some (tideAt s) } } 16 s.devId
  else s

def execTideAlarm (s : State) : Host.Outcome State Fault Refusal := done (tideAlarm s)

/-- A write of a word of TIDE_AT. A tide that has passed when it is written does not assert (DESIGN CHOICE, log entry 9). -/
def wrTideAt (off : Nat) (v : Word) (s : State) : State :=
  let s := s.setReg off v
  { s with tideU := { s.tideU with alarmed := if tideAt s < s.tide then some (tideAt s) else .none } }

/-! ### Forming, joining, leaving (R516, R521 to R523) -/

/-- The pool epoch: TIDE_NOW is 0, and this device is the master and the standby of a pool with a topology. -/
def poolEpoch (s : State) (topo : Word) : State :=
  let s := s.setReg Reg.POOL_TOPO topo
  let s := setStandby (setMaster s s.devId) s.devId
  let s := tideJump s 0 0 true
  { s with
    pool := { s.pool with cand := .none, capable := [(s.devId, poolPrio s)], reports := [], hbSent := .none }
    tideU := { s.tideU with hops := 0, parent := .none, sent := .none } }

/-- MASTER_ELECTION (R516): the pool epoch. The topology is the one given to the new master, since spec/ gives POOL_TOPO no
writer (DESIGN CHOICE, log entry 10). -/
def execMasterElection (topo : Word) (s : State) : Host.Outcome State Fault Refusal :=
  match s.pool.cand with
  | some (i, _, n) =>
    if i = s.devId ∧ 4 ≤ n ∧ role s = 0 ∧ s.bit Reg.POOL_CFG 0 ∧ s.bit Reg.POOL_CFG 4 ∧ masterCapable s then
      let s := poolEpoch s topo
      done (applyMemb (setRole s 3) { tide := 0, gen := 1, add := [s.devId], remove := [] })
    else done s
  | .none => done s

/-- The neighbours of a device, as this device's links report them, match its position (R485, R486). -/
def neighboursMatch (s : State) (d : Nat) : Bool :=
  decide (posX d < topoDX s ∧ posY d < topoDY s) &&
    (List.range 32).all (fun l => match peerId s l with
      | .none => true
      | some p => decide (p = d ↔ stepDir s s.devId (linkDir l) = d) || !linkUp s l)

/-- JOIN (R522): REFUSE, or WELCOME with an admission tide, and the membership to the joining device. -/
def execJoin (f : Frame) (s : State) : Host.Outcome State Fault Refusal :=
  let s := dropTaken s f
  let d := f.src
  if !isMaster s then done s
  else if isMember s d then done (poolSend s d 0x03 [1])
  else if !neighboursMatch s d then done (raisePool (poolSend s d 0x03 [2]) 14 d)
  else if topoDX s * topoDY s ≤ (members s).length then done (poolSend s d 0x03 [3])
  else
    let t := aheadTide s
    let s := s.draw
    let g := (mgen s + 1) % 65536
    let s := poolSend s d 0x02 (natBytes 8 t ++ natBytes 3 (setGen s) ++ natBytes 2 g)
    let s := sendMembs s t g true [d] (membParts 41 (members s))
    let s := if (pay f 0 1).testBit 4 then
      { s with pool := { s.pool with capable := s.pool.capable ++ [(d, pay f 0 1 % 16)] } } else s
    done (masterMemb s t [d] [])

/-- WELCOME (R522): SGEN is adopted; the device is a member from the admission tide on. -/
def execWelcome (f : Frame) (s : State) : Host.Outcome State Fault Refusal :=
  let s := dropTaken s f
  if role s = 4 then
    let s := s.setF Reg.PAL_SETSTAT 23 0 (pay f 8 3)
    let s := { s with pool := { s.pool with welcome := some (pay f 0 8, pay f 8 3, pay f 11 2) } }
    done (takeMemb s { tide := pay f 0 8, gen := pay f 11 2, add := [s.devId], remove := [] })
  else done s

/-- REFUSE (R522): the attempt ends. -/
def execRefuse (f : Frame) (s : State) : Host.Outcome State Fault Refusal :=
  let s := dropTaken s f
  if role s = 4 then
    done (raisePool (setRole (ownReference { s with pool := { s.pool with joining := false } }) 0) 13 f.src)
  else done s

/-- LEAVE (R523): the master removes the device at a tide ahead. -/
def execLeave (f : Frame) (s : State) : Host.Outcome State Fault Refusal :=
  let s := dropTaken s f
  if isMaster s && isMember s f.src then done (masterMemb s.draw (aheadTide s) [] [f.src]) else done s

/-- The effect of POOL_CFG.LEAVE = 1 (R523). The master removes itself by a MEMB (DESIGN CHOICE, log entry 11). -/
def poolLeave (s : State) : State :=
  if !inPool s then s
  else if isMaster s then masterMemb s.draw (aheadTide s) [] [s.devId]
  else poolSend (setRole s 5) (masterId s) 0x04 []

/-- POOL_CFG (R485, R516, R522): the identity and the enables; LEAVE acts and reads 0. -/
def wrPoolCfg (v : Word) (s : State) : State :=
  let s := s.setReg Reg.POOL_CFG (v &&& 0x003FFF1B#32)
  if bit v 2 then poolLeave s else s

/-- POOL_LEAVE (R523): a write of POOL_CFG with LEAVE set and its other fields as they stand. -/
def execPoolLeave (p : Path) (s : State) : Host.Outcome State Fault Refusal :=
  done (guardedWrite s p Reg.POOL_CFG (fun s => wrPoolCfg (s.reg Reg.POOL_CFG ||| 4#32) s))

def execPoolCfgWrite (p : Path) (v : Word) (s : State) : Host.Outcome State Fault Refusal :=
  done (guardedWrite s p Reg.POOL_CFG (wrPoolCfg v))

/-! ### Heartbeats (R517 to R520) -/

/-- HBEAT (R517): answered with HBACK. -/
def execHbeat (f : Frame) (s : State) : Host.Outcome State Fault Refusal :=
  let s := dropTaken s f
  if inPool s then
    let s := if f.src = masterId s then { s with pool := { s.pool with hbAt := s.tide } } else s
    done (poolSend s f.src 0x06 (natBytes 8 (pay f 0 8)))
  else done s

/-- HBACK (R517, R518). -/
def execHback (f : Frame) (s : State) : Host.Outcome State Fault Refusal :=
  let s := dropTaken s f
  match s.pool.probing with
  | some (t, l) =>
    done (if l.contains f.src then s else { s with pool := { s.pool with probing := some (t, l ++ [f.src]) } })
  | .none => done (if isMaster s then { s with pool := { s.pool with misses := smSet 0 s.pool.misses f.src 0 } } else s)

/-- HEARTBEAT_SEND (R517): each HBEAT counts as missed until its HBACK comes. -/
def execHeartbeatSend (s : State) : Host.Outcome State Fault Refusal :=
  let k := s.tide / hbTides
  if isMaster s && inPool s && decide (s.pool.hbSent ≠ some k) then
    let others := (members s).filter (fun d => decide (d ≠ s.devId))
    let s := poolSendAll s 0x05 (natBytes 8 s.tide) others
    done { s with pool := { s.pool with
      hbSent := some k, misses := others.foldl (fun m d => smSet 0 m d (smGet 0 m d + 1)) s.pool.misses } }
  else done s

/-- Members that have missed 4 HBEATs in a row. -/
def lostMembers (s : State) : List Nat :=
  let due := decide (s.pool.hbSent ≠ some (s.tide / hbTides))
  (members s).filter (fun d => decide (d ≠ s.devId) &&
    decide (5 ≤ smGet 0 s.pool.misses d ∨ (due ∧ 4 ≤ smGet 0 s.pool.misses d)))

/-- HEARTBEAT_MISS_LIMIT (R517, R519): an immediate MEMB, and the judgement of the quorum. -/
def heartbeatMissLimit (s : State) : State :=
  let l := lostMembers s
  if isMaster s && decide (l ≠ []) then
    let old := (members s).length
    judgeQuorum (masterMemb s 0 [] l) old
  else s

def execHeartbeatMissLimit (s : State) : Host.Outcome State Fault Refusal :=
  atTide .heartbeatMissLimit (some (s.tide / hbTides * hbTides)) s (fun s => done (heartbeatMissLimit s))

/-- STANDBY_PROBE_START (R518). -/
def standbyProbe (s : State) : State :=
  if inPool s && decide (role s = 2) && s.pool.probing.isNone && decide (s.pool.hbAt + 4 * hbTides ≤ s.tide) then
    poolSendAll { s with pool := { s.pool with probing := some (s.tide, []) } } 0x05 (natBytes 8 s.tide) (members s)
  else s

def execStandbyProbeStart (s : State) : Host.Outcome State Fault Refusal :=
  atTide .standbyProbeStart (some (s.pool.hbAt + 4 * hbTides)) s (fun s => done (standbyProbe s))

/-- The standby becomes master (R518, R520). -/
def takeOver (s : State) (alive : List Nat) : State :=
  let old := masterId s
  let gone := (members s).filter (fun d => decide (d ≠ s.devId) && (decide (d = old) || !alive.contains d))
  let s := setRole (setMaster s s.devId) 3
  let s := poolSendAll s 0x11 (natBytes 2 old) (members s)
  let s := masterMemb s 0 [] gone
  let s := ownReference { s with tideU := { s.tideU with hops := 0 } }
  raisePool (takeOverSwap s) 10 old

/-- STANDBY_PROBE_END (R518): a majority, or SAFE. -/
def standbyProbeEnd (s : State) : State :=
  match s.pool.probing with
  | .none => s
  | some (t, l) =>
    if t + 4 * hbTides ≤ s.tide then
      let n := (members s).length
      let alive := l.filter (fun d => isMember s d && decide (d ≠ s.devId))
      let s := { s with pool := { s.pool with probing := .none } }
      if n < 2 * (alive.length + 1) then takeOver s alive else safeReact s
    else s

def execStandbyProbeEnd (s : State) : Host.Outcome State Fault Refusal :=
  atTide .standbyProbeEnd (s.pool.probing.map (fun p => p.1 + 4 * hbTides)) s (fun s => done (standbyProbeEnd s))

/-- HEARTBEAT_LOSS (R519): neither HBEAT nor TAKEOVER for 16 periods. -/
def execHeartbeatLoss (s : State) : Host.Outcome State Fault Refusal :=
  atTide .heartbeatLoss (some (s.pool.hbAt + 16 * hbTides)) s (fun s =>
    done (if inPool s && !isMaster s && decide (s.pool.hbAt + 16 * hbTides ≤ s.tide) then noQuorum s else s))

/-- TAKEOVER (R518): the new master. -/
def execTakeover (f : Frame) (s : State) : Host.Outcome State Fault Refusal :=
  let s := dropTaken s f
  if inPool s then
    let s := memberRole (setMaster { s with pool := { s.pool with hbAt := s.tide } } f.src)
    done (setParent s)
  else done s

/-! ### Membership frames (R521) -/

/-- The entries of a MEMB: added and removed devices. -/
def membIds (f : Frame) (add : Bool) : List Nat :=
  ((List.range (min 25 (pay f 10 1))).map (fun i => pay f (11 + 2 * i) 2)).filterMap (fun e =>
    if e.testBit 15 = add then some (e % 1024) else .none)

/-- MEMB (R521). -/
def execMemb (f : Frame) (s : State) : Host.Outcome State Fault Refusal :=
  let s := dropTaken s f
  done (takeMemb s { tide := pay f 0 8, gen := pay f 8 2, add := membIds f true, remove := membIds f false })

/-- The scheduled change with the lowest tide, when that tide is `t` or earlier. -/
def dueChange (s : State) (t : Nat) : Option MembChg :=
  let l := s.pool.changes.filter (fun c => decide (c.tide ≤ t))
  l.foldl (fun b c => match b with
    | .none => some c
    | some x => if c.tide < x.tide then some c else b) .none

/-- At most `n` of the changes of tide `t` or earlier apply, in the order of their tides. -/
def applyDue (t : Nat) : Nat → State → State
  | 0, s => s
  | n + 1, s =>
    match dueChange s t with
    | .none => s
    | some c => applyDue t n (applyMemb { s with pool := { s.pool with changes := s.pool.changes.erase c } } c)

/-- Every change of tide `t` or earlier applies. -/
def applyUpTo (s : State) (t : Nat) : State := applyDue t s.pool.changes.length s

/-- MEMBERSHIP_APPLY (R521): every change whose tide has come, in the order of their tides. -/
def execMembershipApply (s : State) : Host.Outcome State Fault Refusal := done (applyUpTo s s.tide)

/-! ### Courses (R496 to R498, R503, R525, R526) -/

/-- ROUTE (R526). -/
def execRoute (f : Frame) (s : State) : Host.Outcome State Fault Refusal :=
  done (applyRoute (dropTaken s f) (pay f 0 1 % 4) (pay f 1 1) (pay f 2 1) (pay f 3 1) (pay f 4 4))

/-- LINKREP (R525): the master reroutes the link's line. -/
def execLinkrep (f : Frame) (s : State) : Host.Outcome State Fault Refusal :=
  let s := dropTaken s f
  let st := nfld (pay f 0 4) 31 29
  if isMaster s then
    done (takeReport s f.src (pay f 4 1 % 32) (nfld (pay f 0 4) 28 27) (decide (st = 4 ∨ st = 5)))
  else done s

/-- The origin of the course that leaves on a link (R496). -/
def isOrigin (s : State) (l : Nat) : Bool := decide ((if l < 16 then posX s.devId else posY s.devId) = 0)

/-- PROBE (R496): the returning PROBE gives L. -/
def execProbe (f : Frame) (s : State) : Host.Outcome State Fault Refusal :=
  let s := dropTaken s f
  match s.pool.probe.find? (fun e => decide (e.1 = f.tag)) with
  | some e =>
    done { s with pool := { s.pool with
      probe := s.pool.probe.erase e, course := smSet 0 s.pool.course e.1 (s.tide - e.2) } }
  | .none => done s

/-- COURSE_SEED (R496 to R498): with L known the origin seeds the next L slots, and takes no launches or turns for L tides;
with L unknown it sends PROBE, whose TAG names the link (DESIGN CHOICE, log entry 12). -/
def courseSeed (s : State) (l : Nat) : State :=
  if isOrigin s l && linkUp s l then
    let n := smGet 0 s.pool.course l
    if n = 0 then
      let s := { s with pool := { s.pool with probe := s.pool.probe ++ [(l, s.tide)] } }
      launchOn s { ty := 5, dest := s.devId, opcode := 0x10, tag := l } 2 (some l)
    else s.setLink l { s.link l with seed := some (0, n, ceilDiv n 16), hold := n }
  else s

def execCourseSeed (l : Fin 32) (s : State) : Host.Outcome State Fault Refusal := done (courseSeed s l)

/-- RESERVED_CREDIT_LAPSE (R503). -/
def execReservedCreditLapse (s : State) : Host.Outcome State Fault Refusal :=
  atTide .reservedCreditLapse (if s.pool.credits.any (fun c => decide (c.2 + 4096 = s.tide)) then some s.tide else .none) s
    (fun s => done { s with pool := { s.pool with credits := s.pool.credits.filter (fun c => decide (s.tide < c.2 + 4096)) } })

/-! ### Clocks and die-to-die links (R21, R68, R715) -/

/-- PLL_LOCK (R715). -/
def execPllLock (s : State) : Host.Outcome State Fault Refusal :=
  done (if s.tideU.pll || s.mode.resetLow.isSome || s.mode.supplyLow then s
    else
      let s := { s with tideU := { s.tideU with pll := true, phase := 0 } }
      if s.code = Mode.boot ∨ !readyTmu s then s else setReadyTide s true)

/-- D2D_TRAINING_COMPLETE (R68): 0 D2D-W, 1 D2D-E, 2 D2D-P. -/
def execD2dTrainingComplete (d : Fin 3) (s : State) : Host.Outcome State Fault Refusal := done (if s.mode.resetLow.isSome || s.mode.supplyLow then s
    else
      let s := setReadyD2d s d true
      if d = 2 then setReadyHk s true else s)

/-- Working modules of a die-to-die link. -/
def d2dMods (s : State) (d : Nat) : Nat := if d = 0 then s.tideU.modW else if d = 1 then s.tideU.modE else s.tideU.modP

def setD2dMods (s : State) (d n : Nat) : State :=
  { s with tideU := { s.tideU with modW := if d = 0 then n else s.tideU.modW, modE := if d = 1 then n else s.tideU.modE
                                   modP := if d = 2 then n else s.tideU.modP } }

/-- D2D_MODULE_LOST (R21): the TRIM-class source of the link; its last module raises the source of R559 for no
module, and isolates the link die's ports and links or sends the device to SAFE whatever that source's class (R570). -/
def d2dLost (s : State) (d : Nat) : State :=
  let n := d2dMods s d
  if n = 0 then s
  else
    let s := setD2dMods s d (n - 1)
    if n = 1 then
      let s := setReadyD2d s d false
      if d = 2 then safeReact (raise s 1480) else isolate (raise s (1478 + d)) (1478 + d) {}
    else raise s (1476 + d)

def execD2dModuleLost (d : Fin 3) (s : State) : Host.Outcome State Fault Refusal := done (d2dLost s d)

end Sys2Proof.Machine
end

