-- ==== Sys2Proof/Machine/Telemetry.lean ====
section
/-! DEFINITION. Telemetry (spec/20): clearing, snapshots, samplers and their records. -/

namespace Sys2Proof.Machine

/-- Live counter `m` (R665, R667). -/
def liveCnt (s : State) (m : Nat) : Nat := smGet 0 s.tel.cnt m

/-- A telemetry source asserts: TEL_ERR names the counter concerned (R677). -/
def raiseTel (s : State) (src cnt : Nat) : State :=
  let s := record s Reg.TEL_ERR 31 30 (fun s =>
    s.setReg Reg.TEL_ERR (BitVec.ofNat 32 ((src - 1514) % 8 * 2 ^ 11 + cnt % 2048)))
  raise s src

/-! ### Samplers (R674 to R676) -/

def smpCnt (s : State) (n : Nat) : Nat := s.fld (Reg.TEL_SMPCTL n) 10 0
def smpPer (s : State) (n : Nat) : Nat := max 1 (s.reg (Reg.TEL_SMPPER n)).toNat
def smpEn (s : State) (n : Nat) : Bool := s.bit (Reg.TEL_SMPCTL n) 31

/-- A sampler's count starts anew at its counter's value. -/
def smpRestart (s : State) (n : Nat) : State :=
  { s with tel := { s.tel with
      base := smSet 0 s.tel.base n (liveCnt s (smpCnt s n))
      waiting := s.tel.waiting.filter (fun e => decide (e.1 ≠ n)) } }

def smpRestartAll (s : State) : List Nat → State
  | [] => s
  | n :: r => smpRestartAll (smpRestart s n) r

/-- A record enters the FIFO of 128 entries, or is dropped (R676). -/
def pushSample (s : State) (n kind : Nat) (w34 : Nat) (who what : Nat) : State :=
  let cnt := smpCnt s n
  if s.tel.fifo.length < 128 then
    let r : List Word := [BitVec.ofNat 32 (2 ^ 31 + n * 2 ^ 28 + kind * 2 ^ 26 + cnt), BitVec.ofNat 32 s.tide,
      BitVec.ofNat 32 (s.tide / 2 ^ 32), BitVec.ofNat 32 w34, BitVec.ofNat 32 (w34 / 2 ^ 32), BitVec.ofNat 32 who,
      BitVec.ofNat 32 what, 0]
    let s := { s with tel := { s.tel with fifo := s.tel.fifo ++ [r] } }
    let s := s.setF Reg.TEL_SMPSTAT 7 0 s.tel.fifo.length
    if 64 ≤ s.tel.fifo.length then raiseTel s 1517 cnt else s
  else raiseTel (s.bump Reg.TEL_SMPSTAT 31 16) 1518 cnt

/-- SAMPLER_CROSSING (R674, R675): the counter has advanced by PER; the excess carries over. -/
def crossing (s : State) (n : Nat) : State :=
  let m := smpCnt s n
  let base := smGet 0 s.tel.base n
  if smpEn s n ∧ smpPer s n ≤ (liveCnt s m + 2 ^ 48 - base) % 2 ^ 48 then
    let s := { s with tel := { s.tel with base := smSet 0 s.tel.base n ((base + smpPer s n) % 2 ^ 48) } }
    let b := m / 8
    if 104 ≤ b ∧ b < 120 then
      let c := b - 104
      let pc := (s.core c).pc.toNat
      let word := match coreLoad s c .fetch pc 4 with
        | .ok w => w
        | .error _ => 0
      pushSample s n 1 pc (16 * c + b2n (supervisor s c)) word
    else if 120 ≤ b ∧ b < 128 then
      { s with tel := { s.tel with waiting := s.tel.waiting ++ [(n, s.clock)] } }
    else pushSample s n 0 0 0 0
  else s

def execSamplerCrossing (n : Fin 8) (s : State) : Host.Outcome State Fault Refusal := done (crossing s n)

/-- SAMPLE_NO_REQUEST_TIMEOUT (R675): no request has been admitted within 4,096 core clocks. -/
def sampleDue (s : State) (n : Nat) : Option (Nat × Nat) :=
  s.tel.waiting.find? (fun e => decide (e.1 = n ∧ e.2 + 4096 ≤ s.clock))

def sampleTimeout (s : State) (n : Nat) : State :=
  match sampleDue s n with
  | some e => pushSample { s with tel := { s.tel with waiting := s.tel.waiting.erase e } } n 3 0 0 0
  | .none => s

def execSampleNoRequestTimeout (n : Fin 8) (s : State) : Host.Outcome State Fault Refusal :=
  atDue (.sampleNoRequestTimeout n) 1 ((sampleDue s n).map (fun e => e.2 + 4096)) s (fun s => done (sampleTimeout s n))

/-- The records of the samplers that wait for a request on pipeline `p` (R675). -/
def samplePipe (s : State) (p dpa tag who what : Nat) : List (Nat × Nat) → State
  | [] => s
  | e :: r =>
    let s := if smpCnt s e.1 / 8 = 120 + p then
      pushSample { s with tel := { s.tel with waiting := s.tel.waiting.erase e } } e.1 2
        (dpa % 2 ^ 46 + tag % 4096 * 2 ^ 46) who what else s
    samplePipe s p dpa tag who what r

/-- SAMPLE_POP and SAMPLE_CLEAR (R676): the effect of a write of TEL_SMPPOP. -/
def wrSmpPop (v : Word) (s : State) : State :=
  let s := if bit v 0 then { s with tel := { s.tel with fifo := s.tel.fifo.tail } } else s
  let s := if bit v 1 then { s with tel := { s.tel with fifo := [] } }.setF Reg.TEL_SMPSTAT 31 16 0 else s
  s.setF Reg.TEL_SMPSTAT 7 0 s.tel.fifo.length

def execSamplePop (p : Path) (s : State) : Host.Outcome State Fault Refusal :=
  done (guardedWrite s p Reg.TEL_SMPPOP (wrSmpPop 1#32))

def execSampleClear (p : Path) (s : State) : Host.Outcome State Fault Refusal :=
  done (guardedWrite s p Reg.TEL_SMPPOP (wrSmpPop 2#32))

/-- SAMPLER_CONFIG_WRITE (R674). -/
def wrSmpCtl (n : Nat) (v : Word) (s : State) : State :=
  smpRestart (s.setReg (Reg.TEL_SMPCTL n) (v &&& 0x800007FF#32)) n

def execSamplerConfigWrite (p : Path) (n : Fin 8) (v : Word) (s : State) : Host.Outcome State Fault Refusal :=
  done (guardedWrite s p (Reg.TEL_SMPCTL n) (wrSmpCtl n v))

/-! ### Clearing (R666) -/

/-- The effect of a write of TEL_CTL. -/
def wrTelCtl (v : Word) (s : State) : State :=
  if bit v 0 then { s with tel := { s.tel with clr := true } } else s

/-- The end of the clock of a clear: every live counter is 0, and the samplers start anew; the events of the clock are discarded. -/
def telClear (s : State) : State :=
  if s.tel.clr then smpRestartAll { s with tel := { s.tel with cnt := [], clr := false } } (List.range 8) else s

def execCounterClear (p : Path) (s : State) : Host.Outcome State Fault Refusal :=
  done (guardedWrite s p Reg.TEL_CTL (wrTelCtl 1#32))

/-! ### Snapshots (R670 to R673) -/

def snapAt (s : State) : Nat := (s.reg Reg.TEL_SNAPAT_LO).toNat + 2 ^ 32 * (s.reg Reg.TEL_SNAPAT_HI).toNat

/-- PERIOD as it reads back: 1 to 10 as 11, above 40 as 40. -/
def snapPeriod (n : Nat) : Nat := if n = 0 then 0 else if n < 11 then 11 else min n 40

def setSched (s : State) (x : Option Sched) : State :=
  let s := { s with tel := { s.tel with sched := x } }
  (s.setBit Reg.TEL_SNAPSTAT 31 x.isSome).setBit Reg.TEL_SNAPSTAT 29 ((x.map Sched.pool).getD false)

def snapRes (s : State) (r : Nat) : State := s.setF Reg.TEL_SNAPSTAT 28 26 r

/-- The pending schedule came from a SNAP. -/
def poolSched (s : State) : Bool := (s.tel.sched.map Sched.pool).getD false

/-- A snapshot at tide `t`: the counters are latched, or it is skipped while a copy runs (R670, R673). -/
def snapTake (s : State) (t : Nat) : State :=
  if s.tel.copy.isSome then raiseTel (s.hwBit Reg.TEL_SNAPSTAT 25) 1515 0
  else { s with tel := { s.tel with latches := s.tel.cnt, copy := some (t, s.clock) } }.setBit Reg.TEL_SNAPSTAT 30 true

/-- The next tide of a repeating schedule after TIDE_NOW (R672, R515). -/
def schedNext (s : State) (x : Sched) : Option Sched :=
  if x.period = 0 then .none
  else
    let p := 2 ^ x.period
    some { x with tide := x.tide + ((s.tide - x.tide) / p + 1) * p }

/-- SNAP (R671, R673): a member takes it as its schedule; one that comes after its tide is taken at once, late. -/
def snapSchedule (s : State) (t period : Nat) : State :=
  let x : Sched := { tide := t, period := snapPeriod period, pool := true }
  if s.tide < t then setSched s (some x)
  else
    let s := raiseTel (s.hwBit Reg.TEL_SNAPSTAT 24) 1516 0
    setSched (snapTake s t) (schedNext s x)

def execSnap (f : Frame) (s : State) : Host.Outcome State Fault Refusal :=
  let s := dropTaken s f
  done (if inPool s then snapSchedule s (pay f 0 8) (pay f 8 1) else s)

/-- TEL_SNAPCTL.CMD 1 (R671, R673). -/
def snapLocal (s : State) : State :=
  if poolSched s then snapRes s 3
  else if snapAt s ≤ s.tide then snapRes s 1
  else setSched (snapRes s 0) (some { tide := snapAt s, period := s.fld Reg.TEL_SNAPCTL 5 0, pool := false })

/-- TEL_SNAPCTL.CMD 2 (R671). -/
def snapPool (s : State) : State :=
  if !isMaster s then snapRes s 2
  else if snapAt s < s.tide + 12500 then snapRes s 1
  else
    let t := snapAt s
    let k := s.fld Reg.TEL_SNAPCTL 5 0
    snapSchedule (poolSendAll (snapRes s 0) 0x12 (natBytes 8 t ++ [k]) (members s)) t k

/-- The effect of a write of TEL_SNAPCTL: PERIOD, then the command; CMD reads 0. -/
def wrSnapCtl (v : Word) (s : State) : State :=
  let s := s.setReg Reg.TEL_SNAPCTL (BitVec.ofNat 32 (snapPeriod (fld v 5 0)))
  match fld v 31 30 with
  | 1 => snapLocal s
  | 2 => snapPool s
  | 3 => setSched (snapRes s 0) .none
  | _ => s

def snapCtl (s : State) (p : Path) (cmd period : Nat) : State :=
  guardedWrite s p Reg.TEL_SNAPCTL (wrSnapCtl (BitVec.ofNat 32 (cmd * 2 ^ 30 + period)))

def execSnapshotScheduleLocal (p : Path) (period : Fin 64) (s : State) : Host.Outcome State Fault Refusal :=
  done (snapCtl s p 1 period)

def execSnapshotSchedulePool (p : Path) (period : Fin 64) (s : State) : Host.Outcome State Fault Refusal :=
  done (snapCtl s p 2 period)

/-- SNAPSHOT_CANCEL (R671), with PERIOD as it stands. -/
def execSnapshotCancel (p : Path) (s : State) : Host.Outcome State Fault Refusal :=
  done (snapCtl s p 3 (s.fld Reg.TEL_SNAPCTL 5 0))

/-- SNAPSHOT_LATCH (R670, R672): the scheduled tide has come. -/
def snapLatch (s : State) : State :=
  match s.tel.sched with
  | some x => if x.tide ≤ s.tide then setSched (snapTake s x.tide) (schedNext s x) else s
  | .none => s

def execSnapshotLatch (s : State) : Host.Outcome State Fault Refusal := done (snapLatch s)

/-- SNAPSHOT_COPY_COMPLETE (R670, R673). -/
def execSnapshotCopyComplete (s : State) : Host.Outcome State Fault Refusal :=
  match s.tel.copy with
  | .none => done s
  | some (t, _) =>
    let s := { s with tel := { s.tel with snap := s.tel.latches, latches := [], copy := .none } }
    let s := (s.setReg Reg.TEL_SNAPTIDE_LO (BitVec.ofNat 32 t)).setReg Reg.TEL_SNAPTIDE_HI (BitVec.ofNat 32 (t / 2 ^ 32))
    let s := s.setBit Reg.TEL_SNAPSTAT 30 false
    let s := s.setF Reg.TEL_SNAPSTAT 15 0 ((s.fld Reg.TEL_SNAPSTAT 15 0 + 1) % 65536)
    done (raiseTel (tick s bTide 6 1) 1514 0)

end Sys2Proof.Machine
end

