-- ==== Sys2Proof/Machine/Sluices.lean ====
section
/-! DEFINITION. The commands of the sluices (spec/12): windows and shedding, the recomputation of D, urgency. -/

namespace Sys2Proof.Machine

/-- The modes in which the comparison of shedding runs (R439). -/
def shedModes (m : Nat) : Bool := decide (1 ≤ m ∧ m ≤ 5)

/-- The comparison at the first clock of a window (R437 to R440). -/
def shedCompare (s : State) : State :=
  let d := s.fld Reg.SLU_DELIV 15 0
  let b := booked s.sets.active
  let f := beFloor s
  let cut := decide (d * s.fld Reg.SLU_CTL 31 24 / 256 < b)
  let s := if cut && !s.bit Reg.SLU_SCALE 30 then raiseSlu s 2 .none else s
  let s := s.setBit Reg.SLU_SCALE 30 cut
  let target := if b ≤ d - f then 256 else 256 * (d - f) / b
  let scale := s.fld Reg.SLU_SCALE 8 0
  if target < scale then
    let s := (s.setF Reg.SLU_SCALE 8 0 target).setBit Reg.SLU_SCALE 31 true
    latchAll (raiseSlu { s with slu := { s.slu with above := 0 } } 0 .none) 6
  else if scale < target then
    if 16 ≤ s.slu.above + 1 then
      let s := s.setF Reg.SLU_SCALE 8 0 target
      let s := if target = 256 then s.setBit Reg.SLU_SCALE 31 false else s
      latchAll (raiseSlu { s with slu := { s.slu with above := 0 } } 1 .none) 6
    else { s with slu := { s.slu with above := s.slu.above + 1 } }
  else { s with slu := { s.slu with above := 0 } }

/-- A window opens (R425, R433). -/
def windowOpen (s : State) : State :=
  let s := { s with slu := { s.slu with used := [], amber := 0, seen := [], seenAmber := 0, window := s.tide / 2 ^ wlog s } }
  let s := match s.slu.pendD with
    | some d => setDeliv { s with slu := { s.slu with pendD := .none } } d
    | .none => s
  if shedModes s.code then shedCompare s else s

/-- The window of the present tide has been opened (R425). -/
def windowFollow (s : State) : State := if s.tide / 2 ^ wlog s = s.slu.window then s else windowOpen s

/-- SLUICE_WINDOW_OPEN (R425). -/
def execSluiceWindowOpen (s : State) : Host.Outcome State Fault Refusal := done (windowFollow s)

/-- DELIVERABLE_RECOMPUTE (R432, R433): the new D waits for the next window. -/
def execDeliverableRecompute (s : State) : Host.Outcome State Fault Refusal :=
  let s := if s.code = Mode.hold then s else takeRates s
  done { s with slu := { s.slu with pendD := some (deliverable s (s.fld Reg.SLU_CTL 15 8)) } }

/-! ### Urgency (R430) -/

def urgLap (s : State) : Nat := s.fld Reg.SLU_CTL 6 4

/-- URGC of quadrant `q`: a held frame for HAq with enough laps, or a take buffer of 64 at least 3/4 full. -/
def urgc (s : State) (q : Nat) : Bool :=
  s.pool.take.any (fun e => decide (e.2.1 = q ∧ urgLap s ≤ e.2.2.1.lap)) ||
  s.pool.pan.any (fun e => decide (takeTarget s e.2 = q ∧ urgLap s ≤ e.2.lap)) ||
  decide (48 ≤ takeCount s 0 q) || decide (48 ≤ takeCount s 1 q)

/-- The clock since which URGC of a quadrant stands follows the wire. -/
def followUrgc (s : State) : List Nat → State
  | [] => s
  | q :: r =>
    let was := smGet .none s.slu.urgSince q
    let s := if urgc s q then
        { s with slu := { s.slu with urgSince := smSet .none s.slu.urgSince q (some (was.getD s.clock)) } }
      else
        { s with slu := { s.slu with
            urgSince := smSet .none s.slu.urgSince q .none
            urgTold := s.slu.urgTold.filter (fun x => decide (x ≠ q)) } }
    followUrgc s r

/-- Quadrants whose URGC has stood for 100 µs and has not been told of. -/
def urgDue (s : State) : List Nat :=
  (List.range 4).filter (fun q => !s.slu.urgTold.contains q &&
    (match smGet .none s.slu.urgSince q with
      | some c => decide (c + 100 * usClocks ≤ s.clock)
      | .none => false))

/-- URGENCY_PERSISTENT (R430): raised once while URGC stands. -/
def urgencyPersistent (s : State) : State :=
  let s := followUrgc s (List.range 4)
  if urgDue s = [] then s
  else raiseSlu { s with slu := { s.slu with urgTold := s.slu.urgTold ++ urgDue s } } 5 .none

/-- The 100 µs of some quadrant end in this clock. -/
def urgNow (s : State) : Bool :=
  (List.range 4).any (fun q => !s.slu.urgTold.contains q &&
    decide (smGet .none s.slu.urgSince q = some (s.clock - 100 * usClocks) ∧ 100 * usClocks ≤ s.clock))

def execUrgencyPersistent (s : State) : Host.Outcome State Fault Refusal :=
  atDue .urgencyPersistent 1 (if urgNow s then some s.clock else .none) s (fun s => done (urgencyPersistent s))

/-! ### URGR (R431) -/

/-- Whether an answer to a host leaves through the response buffer of a bifurcated port. -/
def respOf (s : State) (p : Nat) (r : Resp) : Bool :=
  match r with
  | .memData ld _ _ _ _ => decide (ldPort s ld = some p)
  | .memDone ld _ _ => decide (ldPort s ld = some p)
  | _ => false

/-- Answers in the response buffer of a bifurcated port. -/
def respFill (s : State) (p : Nat) : Nat := ((s.out.drop s.port.respFrom).filter (respOf s p)).length - smGet 0 s.port.sent p

def portUrgr (s : State) (p : Nat) : Bool := urgentFill (s.slu.urgP.contains p) (respFill s p) Config.respDepth

/-- A port sends some of the answers in its response buffer: how many in a clock is a free value (log entry 13). -/
def respDrain (s : State) (p : Nat) : State :=
  let n := respFill s p
  if n = 0 then s
  else
    let k := min n (Config.freeNat s.fresh)
    let was := portUrgr s p
    let s := { s.draw with port := { s.port with sent := smSet 0 s.port.sent p (smGet 0 s.port.sent p + k) } }
    let rest := s.slu.urgP.filter (fun x => decide (x ≠ p))
    { s with slu := { s.slu with urgP := if urgentFill was (n - k) Config.respDepth then p :: rest else rest } }

def respDrains (s : State) : State :=
  if s.out.length ≤ s.port.respFrom then s else (List.range 64).foldl respDrain s

/-- An amber host request that URGR holds: of the response buffer that its answer enters, or of the launch buffer that its frame to
another home enters (DEDUCED, log entry 13). -/
def urgrHolds (s : State) (r : Req) : Bool :=
  match r.origin with
  | .host ld _ =>
    (match ldPort s ld with
      | some p => portUrgr s p
      | .none => false) || (decide (r.dev ≠ s.devId) && s.slu.urgL.contains (homeSlice r.line))
  | _ => false

/-- SLU_URG as it reads. -/
def sluUrg (s : State) : Word :=
  BitVec.ofNat 32 ((List.range 4).foldl (fun a q => a + b2n (urgc s q) * 2 ^ q + b2n (s.slu.urgL.contains q) * 2 ^ (4 + q)) 0 +
    (List.range 16).foldl (fun a n => a + b2n ((List.range 4).any (fun k => portUrgr s (4 * n + k))) * 2 ^ (16 + n)) 0)

/-- SLU_CTL2: RDTLIM and DWARN; a write that puts DWARN above the D in force raises local 6 (R442). -/
def wrSluCtl2 (v : Word) (s : State) : State :=
  let d := s.fld Reg.SLU_DELIV 15 0
  let old := s.fld Reg.SLU_CTL2 31 16
  let s := s.setReg Reg.SLU_CTL2 v
  if d < s.fld Reg.SLU_CTL2 31 16 ∧ old ≤ d then raiseSlu s 6 .none else s

/-- SLU_BOOK and SLU_STAT as they read. -/
def colourCode (c : Colour) : Nat := match c with | .green => 0 | .amber => 1 | .red => 2

def sluStat (s : State) (x : Nat) : Word :=
  BitVec.ofNat 32 (colourCode (colourAt s true x (used s x) s.slu.amber) * 2 ^ 30 + b2n (throttled s x) * 2 ^ 29 + used s x)

end Sys2Proof.Machine
end

