-- ==== Sys2Proof/Machine/CohOps.lean ====
section
/-! DEFINITION. Coherence (spec/10): the directory entry, the pool map, Back-Invalidate targets, the messages of the
conveyor, the answers to hosts, cores and peers, and the tables of open transactions. -/

namespace Sys2Proof.Machine

/-! ### The directory entry (R345 to R348) -/

/-- A directory entry, decoded: HSTATE, HOWN, HVEC, PSTATE, the peers of its pointers, GVEC. -/
structure DirRec where
  hs : Nat := 0
  hown : Nat := 0
  hvec : Nat := 0
  ps : Nat := 0
  peers : List Nat := []
  gvec : Nat := 0
  deriving DecidableEq, Repr

/-- The pointers of an entry; an unused pointer repeats PTR0. -/
def ptrsOf (e : DWord) : List Nat := [fld e 9 0, fld e 19 10, fld e 29 20, fld e 39 30].eraseDups

def decodeDir (e : DWord) : DirRec :=
  let ps := fld e 41 40
  { hs := fld e 63 62, hown := fld e 61 58, hvec := fld e 57 42, ps := ps
    peers := if ps = 1 then ptrsOf e else if ps = 3 then [fld e 9 0] else []
    gvec := if ps = 2 then fld e 31 0 else 0 }

/-- The low 40 bits of an entry. -/
def peerField (r : DirRec) : Nat :=
  if r.ps = 2 then r.gvec
  else match r.peers with
    | [] => 0
    | p :: q => p + 2 ^ 10 * q.getD 0 p + 2 ^ 20 * q.getD 1 p + 2 ^ 30 * q.getD 2 p

def encodeDir (r : DirRec) : DWord :=
  BitVec.ofNat 64 (r.hs * 2 ^ 62 + r.hown * 2 ^ 58 + r.hvec * 2 ^ 42 + r.ps * 2 ^ 40 + peerField r)

/-- An entry with no holder is freed (R346). -/
def DirRec.empty (r : DirRec) : Bool := decide (r.hs = 0 ∧ r.ps = 0)

/-- A record without a holder of either kind is 0. -/
def DirRec.norm (r : DirRec) : DirRec :=
  let r := if r.hs = 0 ∨ r.hvec = 0 then { r with hs := 0, hown := 0, hvec := 0 } else r
  let r := if r.hs = 2 then r else { r with hown := 0 }
  if r.ps = 0 ∨ (r.ps ≠ 2 ∧ r.peers = []) ∨ (r.ps = 2 ∧ r.gvec = 0) then { r with ps := 0, peers := [], gvec := 0 } else r

def dirWord (s : State) (line : Nat) : DWord := smGet 0 s.coh.dir line

/-- The logical device that holds a line exclusive. -/
def ownerLd (r : DirRec) : Nat := 16 * lowBit 16 r.hvec + r.hown

/-- The port of a logical device has been isolated (R357). -/
def ldIsolated (s : State) (ld : Nat) : Bool :=
  match ldPort s ld with
  | some p => (s.subp p).isolated
  | .none => false

/-- A line whose exclusive host holder has been isolated: its entry is HI and the line poisoned at every lookup (R357). -/
def ownerLost (s : State) (r : DirRec) : Bool := decide (r.hs = 2) && ldIsolated s (ownerLd r)

/-- The entry of a line as every lookup finds it. -/
def dirOf (s : State) (line : Nat) : DirRec :=
  let r := decodeDir (dirWord s line)
  if ownerLost s r then ({ r with hs := 0 } : DirRec).norm else r

/-- The directory's slice, and its set of 16 ways (R347). -/
def dirSet (line : Nat) : Nat × Nat := (homeSlice line, line / 64 % 2 ^ 17)

/-- A line's record takes a value; a fresh entry and an entry turned coarse are counted and raised (R348). -/
def putDir (s : State) (line : Nat) (r : DirRec) : State :=
  let r := r.norm
  let old := decodeDir (dirWord s line)
  let h := homeSlice line
  let s := if old.empty && !r.empty then tick s (bHome h) 5 1 else s
  let s := if r.ps = 2 ∧ old.ps ≠ 2 then raiseHome (tick s (bHome h) 6 1) Src.coarse line s.devId {} else s
  { s with coh := { s.coh with dir := smSet 0 s.coh.dir line (encodeDir r) } }

/-- A peer joins the shared holders; a fifth distinct one turns the entry to coarse mode. -/
def DirRec.addPeer (r : DirRec) (d : Nat) : DirRec :=
  let bitOf (g d : Nat) : Nat := if g.testBit (d / 32) then g else g + 2 ^ (d / 32)
  if r.ps = 2 then { r with gvec := bitOf r.gvec d }
  else if r.peers.contains d then { r with ps := 1 }
  else if r.peers.length < 4 then { r with ps := 1, peers := r.peers ++ [d] }
  else { r with ps := 2, peers := [], gvec := (r.peers ++ [d]).foldl bitOf 0 }

/-- A peer leaves the holders; a coarse entry keeps its groups (R348). -/
def DirRec.dropPeer (r : DirRec) (d : Nat) : DirRec :=
  if r.ps = 2 then r else ({ r with peers := r.peers.filter (fun x => decide (x ≠ d)) } : DirRec).norm

/-- The peers that an invalidation addresses: the pointers, or every member of the marked groups, but this device. -/
def peersOf (s : State) (r : DirRec) : List Nat :=
  if r.ps = 2 then (members s).filter (fun d => r.gvec.testBit (d / 32) && decide (d ≠ s.devId)) else r.peers

/-! ### The pool map (R36, R528) and its inverse -/

/-- The entries of POOLMAP with V = 1. -/
def poolEntries (s : State) : List Nat :=
  (s.sets.active.filter (fun e => decide (e.1 / 0x1000000 = 3 ∧ e.1 % 16 = 12) && bit e.2 0)).map
    (fun e => e.1 % 0x1000000 / 16)

structure PoolEnt where
  base : Nat
  size : Nat
  dev0 : Nat
  stride : Nat
  ways : Nat
  gran : Nat
  tbase : Nat
  deriving DecidableEq, Repr

def poolEnt (s : State) (i : Nat) : PoolEnt :=
  let o := 16 * i
  { base := s.act 3 o 2 * 2 ^ 30, size := (s.act 3 (o + 2) 2 + 1) * 2 ^ 30
    dev0 := s.act 3 (o + 4) 2 % 1024, stride := s.act 3 (o + 6) 2 % 1024
    ways := s.act 3 (o + 8) 1 % 8, gran := s.act 3 (o + 9) 1 + 12, tbase := s.act 3 (o + 10) 2 * 2 ^ 30 }

/-- Device and DPA of a DPA of the device (R528). -/
def poolTarget (s : State) (dpa : Nat) : Nat × Nat :=
  match (poolEntries s).find? (fun i => let e := poolEnt s i; decide (e.base ≤ dpa ∧ dpa < e.base + e.size)) with
  | .none => (s.devId, dpa)
  | some i =>
    let e := poolEnt s i
    let o := dpa - e.base
    let g := o / 2 ^ e.gran
    ((e.dev0 + g % 2 ^ e.ways * e.stride) % 1024, e.tbase + g / 2 ^ e.ways * 2 ^ e.gran + o % 2 ^ e.gran)

/-- The DPAs that POOLMAP takes to a device's line. -/
def poolInverse (s : State) (dev line : Nat) : List Nat :=
  let cands := line :: (poolEntries s).flatMap (fun i =>
    let e := poolEnt s i
    let o := line - e.tbase
    (List.range (2 ^ e.ways)).map (fun w =>
      e.base + (o / 2 ^ e.gran * 2 ^ e.ways + w) * 2 ^ e.gran + o % 2 ^ e.gran))
  (cands.filter (fun d => decide (poolTarget s d = (dev, line)))).eraseDups

/-- The DPAs under which this device's hosts reach a line: by the pool map, and by pages that have moved to it. -/
def aliases (s : State) (dev line : Nat) : List Nat :=
  poolInverse s dev line ++
    ((knownPages s).filterMap (fun p =>
      let w := storedEntry s p
      if eState w = Ent.tr ∧ eDev w = dev ∧ ePpage w = line / 4096 then some (p * 4096 + line % 4096) else .none)).flatMap
        (fun l => poolInverse s s.devId l)

/-! ### HDM decoders and BI targets (R207, R213, R354) -/

/-- The decoded address of an HPA, and whether it is decoded by HDM-H. -/
def Decoder.decode (d : Decoder) (hpa : Nat) : Option (Nat × Bool) :=
  if d.base ≤ hpa ∧ hpa < d.base + d.size then
    let o := hpa - d.base
    some (if d.ways ≤ 1 then d.skip + o
      else d.skip + o / (d.gran * d.ways) * d.gran + o % d.gran, d.hdmh)
  else .none

/-- HDM-DB and Back-Invalidate work in 256 B flit mode only (R197, R198). -/
def ldFlit256 (s : State) (ld : Nat) : Bool :=
  match ldPort s ld with
  | some p => (s.subp p).flit256
  | .none => false

/-- The first decoder of a logical device that claims an HPA. -/
def ldDecode (s : State) (ld hpa : Nat) : Option (Nat × Bool) :=
  (s.logDev ld).decs.findSome? (fun e => e.2.bind (fun d => if d.hdmh || ldFlit256 s ld then d.decode hpa else .none))

/-- A committed decoder covers a DPA in some alias window. -/
def Decoder.covers (d : Decoder) (dpa : Nat) : Bool :=
  !d.hdmh && (List.range 16).any (fun w =>
    let a := w * 2 ^ 46 + dpa
    decide (d.skip ≤ a ∧ a < d.skip + d.size / max 1 d.ways))

/-- The BI targets of HPn for the DPAs of a line. -/
def biTargets (s : State) (n : Nat) (dpas : List Nat) : List Nat :=
  (List.range 16).filterMap (fun j =>
    let ld := 16 * n + j
    let x := s.logDev ld
    if x.bi && ldFlit256 s ld && x.decs.any (fun e => match e.2 with | some d => dpas.any d.covers | .none => false) then some ld
    else .none)

/-- The name that BISnp and BIRsp give a line of a device. -/
def lineName (s : State) (dev line : Nat) : Nat := if dev = s.devId then line else 2 ^ 46 * (1 + dev) + line

/-- The BISnps, as line name and logical device, that the ports of a vector need. -/
def biNeeded (s : State) (dev line hvec : Nat) : List (Nat × Nat) :=
  let dpas := aliases s dev line
  (bitsOf 16 0 hvec).flatMap (fun n => (biTargets s n dpas).map (fun ld => (lineName s dev line, ld)))

/-! ### Transactions (R341, R366) -/

def putTxns (s : State) (l : List Txn) : State := { s with coh := { s.coh with txns := l } }

def getTxn (s : State) (id : Nat) : Option Txn := s.coh.txns.find? (fun t => decide (t.req.id = id))

/-- A transaction takes a new form. -/
def putTxn (s : State) (t : Txn) : State :=
  putTxns s (s.coh.txns.map (fun x => if x.req.id = t.req.id then t else x))

def dropTxn (s : State) (id : Nat) : State := putTxns s (s.coh.txns.filter (fun x => decide (x.req.id ≠ id)))

/-- A transaction ID in use: of an open transaction, a writeback in flight or a move (R366). -/
def txUsed (s : State) (n : Nat) : Bool :=
  s.coh.txns.any (fun t => decide (t.req.id % 65536 = n % 65536)) ||
    s.coh.chain.any (fun r => decide (r.id % 65536 = n % 65536)) ||
    s.coh.ingress.any (fun r => decide (r.id % 65536 = n % 65536)) ||
    s.coh.wb.any (fun w => decide (w.txid = n % 65536)) ||
    s.tier.moves.any (fun m => decide (m.id % 65536 = n % 65536))

def nextFree (s : State) (n : Nat) : Nat → Nat
  | 0 => n
  | f + 1 => if txUsed s n then nextFree s (n + 1) f else n

/-- A fresh transaction ID. -/
def takeId (s : State) : State × Nat :=
  let n := nextFree s s.coh.nextTx 65536
  ({ s with coh := { s.coh with nextTx := n + 1 } }, n)

/-- The home slice, or the slice of the pool cache, of a request (R23, R25). -/
def sliceOf (r : Req) : Nat := homeSlice r.line

def isLocal (s : State) (r : Req) : Bool := decide (r.dev = s.devId)

def openCount (s : State) (h : Nat) : Nat := (s.coh.txns.filter (fun t => decide (sliceOf t.req = h))).length
def waitCount (s : State) (h : Nat) : Nat := (s.coh.chain.filter (fun r => decide (sliceOf r = h))).length

/-! ### Kinds of requests -/

def isAmo (k : ReqKind) : Bool :=
  match k with
  | .amoAdd => true
  | .amoSwp => true
  | .amoCas => true
  | .amoMax => true
  | .amoMaxU => true
  | _ => false

def isHostRead (k : ReqKind) : Bool :=
  match k with
  | .memRdInv => true
  | .memRdData => true
  | .memRdCur => true
  | .memSpecRd => true
  | _ => false

def isWrite (k : ReqKind) : Bool :=
  match k with
  | .memWr => true
  | .memWrPtl => true
  | .wbm => true
  | _ => false

/-- A page operation or a directory query of a core. -/
def isPageOp (k : ReqKind) : Bool :=
  match k with
  | .tmr => true
  | .tmw => true
  | .pzero => true
  | .pprobe => true
  | .dqry => true
  | .move => true
  | _ => false

def isPeerReq (k : ReqKind) : Bool :=
  match k with
  | .rds => true
  | .rdo => true
  | .upg => true
  | .rdc => true
  | .wbm => true
  | .evc => true
  | _ => false

def isSnoop (k : ReqKind) : Bool :=
  match k with
  | .snpi => true
  | .snps => true
  | .fwds => true
  | .fwdo => true
  | _ => false

/-- The access type of a request in a capture entry. -/
def accType (k : ReqKind) : Nat :=
  match k with
  | .memWr => 2
  | .memWrPtl => 3
  | .wbm => 2
  | .memInv => 5
  | .memInvNT => 5
  | .memClnEvct => 5
  | .evc => 5
  | .snpi => 5
  | .snps => 5
  | .fwds => 5
  | .fwdo => 5
  | .recall => 5
  | k => if isAmo k then 4 else if isPageOp k then 6 else 1

/-- What a source raised by a request reports (R577). The link on which a frame arrived is not kept: a free value. -/
def reqInfo (s : State) (r : Req) : Info :=
  let i : Info := { atype := accType r.kind, akind := if isLocal s r then 1 else 2
                    addr := if isLocal s r then r.line else r.dev * 2 ^ 46 + r.line }
  match r.origin with
  | .host ld _ => { i with mkind := 1, mid := ld + 256 * ((ldPort s ld).getD 0 % 4), ld := some ld, sub := ldPort s ld }
  | .core n _ => { i with mkind := if supervisor s n.val then 3 else 4, mid := n.val }
  | .peer d _ => { i with mkind := 2, mdev := d, mid := Config.freeNat s.fresh % 32 }
  | .agent k => { i with mkind := 6, mid := k }

/-! ### Frames (R365) -/

/-- A line whose check, kept with it, fails at launch leaves poisoned (R38; the outcome is DEDUCED, log entry 204). -/
def launchPoison (d : Line) (p : Bool) (lc : Option Word) : Bool :=
  p || (match lc with | some w => decide (lineCheck d ≠ w.toNat) | .none => false)

/-- The line check that a device makes over a line that it takes, or that a write carries from ingress (R32, R38). -/
def madeCheck (d : Line) : Option Word := some (BitVec.ofNat 32 (lineCheck d))

/-- The line check of a request's data. -/
def reqCheck (r : Req) : Nat := match r.lc with | some w => w.toNat | .none => lineCheck r.data

def sendCoh (s : State) (dest op txid tag line : Nat) (data : Line) (poison : Bool) : State :=
  launchOn s { ty := 1, dest := dest, opcode := op + 128 * b2n poison, txid := txid % 65536, tag := tag, line := line / 64
               data := data }
    (if 0x20 ≤ op then 1 else 2) .none

/-! ### Answers -/

/-- An instruction of a core ends: rd takes its result, and the core goes on at pc + 4; it has issued in one clock. -/
def coreDone (s : State) (n : Nat) (rd : Fin 32) (v : DWord) : State :=
  let s := setT s n rd v
  let c := s.core n
  let s := s.setCore n { c with pc := c.pc + 4, instret := c.instret + 1, wait := .none }
  tick (tick s (bCore n) 0 1) (bCore n) 1 1

/-- The core still waits for this request: a core that was restarted meanwhile does not. -/
def coreAwaits (s : State) (n id : Nat) : Bool :=
  match (s.core n).wait with
  | some (.atomic _ k) => decide (k = id)
  | some (.page _ k) => decide (k = id)
  | _ => false

/-- A request of a core ends with its result, or with a trap. -/
def reqDone (r : Req) (s : State) (n : Nat) (rd : Fin 32) (v : DWord) : State :=
  if coreAwaits s n r.id then coreDone s n rd v else s

def reqTrap (r : Req) (s : State) (n cause tval : Nat) : State :=
  if coreAwaits s n r.id then coreTrap s n cause tval else s

/-- MemData with poison, and "poisoned read returned" (R229). -/
def hostPoison (s : State) (r : Req) (ld mtag load : Nat) : State :=
  let s := s.emit (.memData ld mtag 0 true load)
  raiseHost (tick s (bHost (ld / 16)) 4 1) (ld / 16) 6 (reqInfo s r)

def answerHost (s : State) (r : Req) (ld mtag load : Nat) (d : Line) (p : Bool) : State :=
  match r.kind with
  | .memSpecRd => s
  | .memRdInv => if p then hostPoison s r ld mtag load else tick (s.emit (.memData ld mtag d false load)) (bHost (ld / 16)) 2 1
  | .memRdData => if p then hostPoison s r ld mtag load else tick (s.emit (.memData ld mtag d false load)) (bHost (ld / 16)) 2 1
  | .memRdCur => if p then hostPoison s r ld mtag load else tick (s.emit (.memData ld mtag d false load)) (bHost (ld / 16)) 2 1
  | _ => s.emit (.memDone ld mtag load)

/-- The operand of an atomic in its line, and the value that rd receives (R146). -/
def amoOld (r : Req) (d : Line) : Nat := d.toNat / 2 ^ (8 * r.off) % 2 ^ (if r.wide then 64 else 32)

def amoReturn (r : Req) (d : Line) : DWord :=
  if r.wide then BitVec.ofNat 64 (amoOld r d) else (BitVec.ofNat 32 (amoOld r d)).signExtend 64

/-- The operand that an atomic writes; none: CAS that does not match. -/
def amoNew (r : Req) (old : Nat) : Option Nat :=
  let m := if r.wide then 2 ^ 64 else 2 ^ 32
  let a := r.a % m
  let sgn (x : Nat) : Nat := (x + m / 2) % m
  match r.kind with
  | .amoAdd => some ((old + a) % m)
  | .amoSwp => some a
  | .amoCas => if old = r.b % m then some a else .none
  | .amoMax => some (if sgn old < sgn a then a else old)
  | .amoMaxU => some (if old < a then a else old)
  | _ => .none

/-- A line with the operand of an atomic replaced. -/
def amoPut (r : Req) (d : Line) (v : Nat) : Line :=
  let w := if r.wide then 64 else 32
  BitVec.ofNat 512 (nset d.toNat (8 * r.off + w - 1) (8 * r.off) v)

/-- A line with the bytes of a mask replaced (R393). -/
def maskPut (mask : Nat) (old new : Line) : Line :=
  lineOf (((lineBytes old).zip (lineBytes new)).mapIdx (fun i e => if mask.testBit i then e.2 else e.1))

/-! ### Back-Invalidate in the ports (R214, R215) -/

/-- Hosts of an isolated or unlinked port answer I at once (R357). -/
def biDead (s : State) (ld : Nat) : Bool :=
  match ldPort s ld with
  | some p => !readySub s p || (s.subp p).isolated
  | .none => true

def bisnpCount (s : State) (n : Nat) : Nat := (s.port.bisnp.filter (fun b => decide (b.ld / 16 = n))).length

def biSent (s : State) (id line ld : Nat) : Bool :=
  s.port.bisnp.any (fun b => decide (b.txn = id ∧ b.line = line ∧ b.ld = ld))

/-- The BISnps of a transaction go out as far as the limit of 256 of each HPn allows; those to dead ports are answered. -/
def sendBis (s : State) (id kind : Nat) : List (Nat × Nat) → State × List (Nat × Nat)
  | [] => (s, [])
  | (line, ld) :: r =>
    if biDead s ld then sendBis s id kind r
    else
      let s := if !biSent s id line ld && decide (bisnpCount s (ld / 16) < 256) then
          let s := { s with port := { s.port with
            bisnp := s.port.bisnp ++ [({ ld := ld, line := line, since := s.clock, txn := id } : BiSnp)] } }
          let s := s.emit (.biSnp ld line kind)
          tick (tick s (bHost (ld / 16)) 3 1) (bHome (homeSlice (line % 2 ^ 46))) 1 1
        else s
      let (s, l) := sendBis s id kind r
      (s, (line, ld) :: l)

end Sys2Proof.Machine
end

