-- ==== Sys2Proof/Machine/Dram.lean ====
section
/-! DEFINITION. Scheduling, refresh and training of the DRAM channels (spec/11): what a subchannel issues next, and the
commands of the DRAM controllers. -/

namespace Sys2Proof.Machine

/-! ### The commands a subchannel may issue, in the order of R395 -/

inductive DCmd where
  /-- A refresh of the banks of one bank address of a logical rank (all-bank when DMC_REF.SB is 0). -/
  | refresh (lrank ba : Nat)
  | rfm (lrank bank : Nat)
  | read (e : RdEntry)
  | write (e : WrEntry)
  deriving DecidableEq, Repr

/-- Logical ranks of a channel (R383). -/
def lranks (s : State) (c : Nat) : Nat :=
  2 ^ (s.fld (Reg.DMC_GEOM c) 8 7 + s.fld (Reg.DMC_GEOM c) 9 9 + s.fld (Reg.DMC_GEOM c) 10 10)

def rdOf (s : State) (c sub : Nat) : List RdEntry := (s.chan c).rdq.filter (fun e => decide (keySub e.burst = sub))
def wrOf (s : State) (c sub : Nat) : List WrEntry := (s.chan c).wrq.filter (fun e => decide (keySub e.burst = sub))

/-- Refreshes due now (R400): at 4 postponed, or with no read queued. -/
def refreshesDue (s : State) (c sub : Nat) : List DCmd :=
  let ch := s.chan c
  (List.range (lranks s c)).flatMap (fun r => (List.range 4).filterMap (fun ba =>
    let g := groupKey sub r ba
    let p := smGet 0 ch.postp g
    let due := !ch.paid.contains g || decide (0 < p)
    if due && (decide (4 ≤ p) || decide (rdOf s c sub = [])) then some (.refresh r ba) else .none))

/-- RFMs due (R401). -/
def rfmsDue (s : State) (c sub : Nat) : List DCmd :=
  if s.bit (Reg.DMC_RFM c) 16 then
    (s.chan c).banks.filterMap (fun e =>
      if e.1 / 512 = sub ∧ s.fld (Reg.DMC_RFM c) 7 0 ≤ e.2.raa then some (.rfm (e.1 / 32 % 16) (e.1 % 32)) else .none)
  else []

/-- A burst whose access needs no ACT, or whose bank may still take one (R401). -/
def mayAct (s : State) (c k : Nat) : Bool :=
  rowHit s c k || decide ((s.bank c (burstBank s c k)).raa < s.fld (Reg.DMC_RFM c) 15 8)

/-- A read waits until the matching writes accepted before it have been issued (R392). -/
def readBlocked (s : State) (c : Nat) (e : RdEntry) : Bool :=
  (s.chan c).wrq.any (fun w => decide (w.burst = e.burst ∧ w.seq < e.seq))

/-- A write goes behind the reads and the writes of its burst accepted before it (R393). -/
def writeBlocked (s : State) (c : Nat) (w : WrEntry) : Bool :=
  (s.chan c).rdq.any (fun r => decide (r.burst = w.burst ∧ r.seq < w.seq)) ||
    (s.chan c).wrq.any (fun x => decide (x.burst = w.burst ∧ x.seq < w.seq))

/-- A read waits on the write entry (R392). -/
def waited (s : State) (c : Nat) (w : WrEntry) : Bool :=
  (s.chan c).rdq.any (fun r => decide (r.burst = w.burst ∧ w.seq < r.seq))

/-- A read was accepted after the entry's latest write, and so nothing merges into it (R393). -/
def mergeClosed (s : State) (c : Nat) (w : WrEntry) : Bool :=
  (s.chan c).rdq.any (fun r => decide (r.burst = w.burst ∧ w.last < r.seq))

/-- The age cap in core clocks: 2.5 clocks a nanosecond. -/
def ageCap (s : State) (c : Nat) : Nat := s.fld (Reg.DMC_SCHED c) 27 16 * 5 / 2

/-- The drain state of a subchannel (R395, item 5). -/
def draining (s : State) (c sub : Nat) : Bool :=
  let n := (wrOf s c sub).length
  let hi := s.fld (Reg.DMC_SCHED c) 7 0
  let lo := s.fld (Reg.DMC_SCHED c) 15 8
  decide (hi ≤ n) || decide (rdOf s c sub = []) || ((s.chan c).drain.contains sub && decide (lo < n))

/-- What the subchannel may issue, first in the order of R395; requests to a rank under repair wait (R554). -/
def schedule (s : State) (c sub : Nat) : List DCmd :=
  let rd := (rdOf s c sub).filter (fun e => mayAct s c e.burst && !readBlocked s c e && !rankHeld s c e.burst)
  let wr := (wrOf s c sub).filter (fun e => mayAct s c e.burst && !writeBlocked s c e && !rankHeld s c e.burst)
  let old (t : Nat) : Bool := decide (t + ageCap s c < s.clock)
  refreshesDue s c sub ++ rfmsDue s c sub ++
    (rd.filter (fun e => old e.since)).map .read ++ (wr.filter (fun e => old e.since)).map .write ++
    (wr.filter (waited s c)).map .write ++
    (rd.filter (fun e => rowHit s c e.burst)).map .read ++ rd.map .read ++
    (if draining s c sub then (wr.filter (fun e => rowHit s c e.burst)).map .write ++ wr.map .write else [])

/-! ### Effects of a command -/

/-- The banks of one bank address of a logical rank are refreshed: RAA falls by RAAIMT, rows close (R401). -/
def refreshBanks (s : State) (c sub lrank ba : Nat) : State :=
  let ch := s.chan c
  s.setChan c { ch with banks := ch.banks.filterMap (fun e =>
    if e.1 / 32 = 16 * sub + lrank ∧ e.1 % 4 = ba then
      let b := { e.2 with raa := e.2.raa - s.fld (Reg.DMC_RFM c) 7 0, row := .none }
      if b = {} then .none else some (e.1, b)
    else some e) }

/-- A refresh is paid: this window's, or one postponed. -/
def payRefresh (s : State) (c g : Nat) : State :=
  let ch := s.chan c
  if ch.paid.contains g then s.setChan c { ch with postp := smSet 0 ch.postp g (smGet 0 ch.postp g - 1) }
  else s.setChan c { ch with paid := ch.paid ++ [g] }

def refreshOne (s : State) (c sub lrank ba : Nat) : State :=
  payRefresh (refreshBanks s c sub lrank ba) c (groupKey sub lrank ba)

def issue (s : State) (c sub : Nat) (d : DCmd) : State :=
  match d with
  | .refresh r ba =>
    let s := tick s (bChan c) 5 1
    if s.bit (Reg.DMC_REF c) 0 then refreshOne s c sub r ba
    else refreshOne (refreshOne (refreshOne (refreshOne s c sub r 0) c sub r 1) c sub r 2) c sub r 3
  | .rfm r bank =>
    let k := bankKey sub r bank
    let b := s.bank c k
    tick (s.setBank c k { b with raa := b.raa - s.fld (Reg.DMC_RFM c) 7 0, row := .none }) (bChan c) 5 1
  | .read e =>
    let s := activate s c e.burst e.sluice
    tick (s.setChan c { s.chan c with rdq := (s.chan c).rdq.erase e }) (bChan c) 0 1
  | .write e =>
    let s := activate s c e.burst e.sluice
    let ch := s.chan c
    let wrq := ch.wrq.erase e
    let dr := ch.drain.filter (fun x => decide (x ≠ sub))
    let n := (wrq.filter (fun w => decide (keySub w.burst = sub))).length
    let dr := if s.fld (Reg.DMC_SCHED c) 15 8 < n then dr ++ [sub] else dr
    tick (s.setChan c { ch with wrq := wrq, drain := dr }) (bChan c) 1 1

/-- A refresh or an RFM at its deadline, which a housekeeping pause does not stop (R658). -/
def atDeadline (s : State) (c sub : Nat) : DCmd → Bool
  | .refresh r ba => decide (4 ≤ smGet 0 (s.chan c).postp (groupKey sub r ba))
  | .rfm r bank => decide (s.fld (Reg.DMC_RFM c) 15 8 ≤ (s.bank c (bankKey sub r bank)).raa)
  | _ => false

/-- What may issue now: in a pause only what is at its deadline. -/
def issuable (s : State) (c sub : Nat) : List DCmd :=
  if paused s then (schedule s c sub).filter (atDeadline s c sub) else schedule s c sub

/-- The groups of a subchannel that the ended window did not refresh: with reads queued, or in a window cut short, one refresh postponed
more (R400, R515); with none queued, or at 4 postponed, refreshed at once (R398, R400). -/
def postpone (s : State) (c : Nat) : List Nat → State
  | [] => s
  | g :: r =>
    let ch := s.chan c
    let p := smGet 0 ch.postp g
    let s := if ch.paid.contains g then s
      else if p < 4 ∧ (ch.cut = true ∨ rdOf s c (g / 256) ≠ []) then s.setChan c { ch with postp := smSet 0 ch.postp g (p + 1) }
      else refreshBanks s c (g / 256) (g / 4 % 64) (g % 4)
    postpone s c r

def refreshGroups (s : State) (c : Nat) : List Nat :=
  (List.range 2).flatMap (fun sub => (List.range (4 * lranks s c)).map (fun k => 256 * sub + k))

def mostPostponed (ch : Chan) : Nat := ch.postp.foldl (fun a e => max a e.2) 0

/-- REFI in tides. -/
def refi (s : State) (c : Nat) : Nat := if s.bit (Reg.DMC_REF c) 1 then 1218 else 2436

/-- The number of the refresh window that holds the present tide. -/
def windowIdx (s : State) (c : Nat) : Nat := (s.tide + 2436 - s.fld (Reg.DMC_REF c) 31 16) / refi s c

/-- A refresh window begins. -/
def windowBegin (s : State) (c : Nat) : State :=
  let s := postpone s c (refreshGroups s c)
  let ch := s.chan c
  let most := mostPostponed ch
  let s := s.setChan c { ch with paid := [], cut := false, window := ch.window + 1, limit := decide (most = 4)
                                 banks := ch.banks.filterMap (fun e =>
                                   let b := { e.2 with acts := 0, cands := [], thrown := false }
                                   if b = {} then .none else some (e.1, b)) }
  let s := s.setBit (Reg.DMC_REF c) 1 ch.hotNext
  let s := s.setF (Reg.DMC_REF c) 4 2 most
  let s := s.setChan c { s.chan c with widx := windowIdx s c }
  if most = 4 then raiseChan s c 8 .none {} else s

/-- The window of the present tide has begun (R398). -/
def windowSync (s : State) (c : Nat) : State :=
  if readyChan s c && decide (windowIdx s c ≠ (s.chan c).widx) then windowBegin s c else s

/-- A subchannel issues a command in the window of its clock (R405): the first of R395's order that its timing allows. Which of the first commands the
device timings of the moment do not allow comes with the command as `skip`. -/
def execDramCommandIssue (c : Fin 24) (sub : Fin 2) (skip : Nat) (s : State) : Host.Outcome State Fault Refusal :=
  let s := windowSync s c
  done (if readyChan s c && decide (s.fld (Reg.DMC_STAT c) 31 29 ≠ 3) then
    match (issuable s c sub)[skip]? with
    | some d => queueStat (issue s c sub d) c
    | .none => s
  else s)

/-! ### Refresh windows (R398 to R400, R405) -/

def execRefreshWindowStart (c : Fin 24) (s : State) : Host.Outcome State Fault Refusal :=
  done (windowSync s c)

/-- A throttle ends after TWIN refresh windows of the channel that named the sluice (R404, R428). -/
def execRdtThrottleExpiry (c : Fin 24) (x : Fin 256) (s : State) : Host.Outcome State Fault Refusal :=
  done { s with slu := { s.slu with throttles := s.slu.throttles.filter (fun t =>
    !decide (t.sluice = x ∧ t.ch = c ∧ t.until_ ≤ (s.chan c).window)) } }

/-! ### In-service upkeep (R407, R410) -/

/-- ZQ calibration takes a refresh slot and stops nothing. -/
def execZqCalibration (_c : Fin 24) (s : State) : Host.Outcome State Fault Refusal := done s

/-- DQS tracking; out of its trained range it stops the channel with cause 2. -/
def execDqsTracking (c : Fin 24) (out : Bool) (s : State) : Host.Outcome State Fault Refusal :=
  done (if out then chanStop s c else s)

def execPhyLockLost (c : Fin 24) (s : State) : Host.Outcome State Fault Refusal :=
  done (if readyChan s c then chanLost (raiseChan s c 14 .none {}) c 3 else s)

/-- A CA parity error (`crc` false) or a write CRC error of a command: retried, and the 16th retry of one command within
1 ms stops the channel. `again` tells that it is the same command as the last retry's. -/
def retryError (s : State) (c : Nat) (crc again : Bool) : State :=
  let s := raiseChan s c (if crc then 4 else 3) .none {}
  let ch := s.chan c
  let l := (if again then ch.retries.filter (fun t => decide (s.clock < t + msClocks)) else []) ++ [s.clock]
  let s := s.setChan c { ch with retries := l }
  if 16 ≤ l.length then chanStop s c else s

def execCaParityOrWriteCrcError (c : Fin 24) (crc again : Bool) (s : State) : Host.Outcome State Fault Refusal :=
  done (if readyChan s c then retryError s c crc again else s)

/-! ### Enabling, training, counting -/

/-- A write of DMC_CTL (R408, R419, R567). -/
def wrDmcCtl (s : State) (c : Nat) (v : Word) : State :=
  let s := if bit v 1 then s.setF (Reg.DMC_CECNT c) 15 0 0 else s
  if bit v 0 then
    if isolated s (uChan c) && !canEnable s (uChan c) then s
    else (unisolate s (uChan c)).setBit (Reg.DMC_CTL c) 0 true
  else
    let s := s.setBit (Reg.DMC_CTL c) 0 false
    if readyChan s c then chanLost s c 6
    else s.setF (Reg.DMC_STAT c) 31 29 (if (s.chan c).lost then 4 else 0)

def execDmcCtlEnWrite (p : Path) (c : Fin 24) (en : Bool) (s : State) : Host.Outcome State Fault Refusal :=
  done (guardedWrite s p (Reg.DMC_CTL c) (fun s => takeWrite (wrDmcCtl s c (BitVec.ofNat 32 (b2n en))) (Reg.DMC_CTL c)))

/-- A write of CECLR that keeps EN. -/
def execDmcCeclr (p : Path) (c : Fin 24) (s : State) : Host.Outcome State Fault Refusal :=
  done (guardedWrite s p (Reg.DMC_CTL c) (fun s => s.setF (Reg.DMC_CECNT c) 15 0 0))

/-- A write of DMC_TRAIN: START starts training (R406). -/
def wrDmcTrain (s : State) (c : Nat) (v : Word) : State :=
  if bit v 2 then
    if s.bit (Reg.DMC_CTL c) 0 && !readyChan s c && !(s.chan c).training then trainStart s c (fld v 1 0) else s
  else s.setF (Reg.DMC_TRAIN c) 1 0 (fld v 1 0)

def execTrainingStart (p : Path) (c : Fin 24) (tset : Fin 4) (s : State) : Host.Outcome State Fault Refusal :=
  done (guardedWrite s p (Reg.DMC_TRAIN c) (fun s => wrDmcTrain s c (BitVec.ofNat 32 (4 + tset.val))))

/-- Training ends: `ok` bit k tells that timing set k completed, `differ` that the two DIMMs differ (R382, R409). A channel
that has been disabled meanwhile does not become READY. -/
def execTrainingComplete (c : Fin 24) (ok : BitVec 4) (differ : Bool) (s : State) : Host.Outcome State Fault Refusal :=
  done (if (s.chan c).training then
    if s.bit (Reg.DMC_CTL c) 0 then followWarn (trainEnd s c ok.toNat differ) c
    else (s.setBit (Reg.DMC_TRAIN c) 2 false).setChan c { s.chan c with training := false }
  else s)

/-! ### Parity rebuild (R413, R681) -/

/-- A write of DMC_PARREB.START: only on a READY channel of a degraded parity set that waits for its rebuild. -/
def wrParreb (s : State) (c : Nat) (v : Word) : State :=
  if bit v 31 && readyChan s c && (s.chan c).rebuild.isSome && !s.bit (Reg.DMC_PARREB c) 30 &&
      (match setOfChan s c with | some n => setPar s n && !setOff s n | .none => false) then
    (s.setReg (Reg.DMC_PARREB c) 0x40000000#32).setF (Reg.DMC_STAT c) 31 29 5
  else s

def execParityRebuildStart (p : Path) (c : Fin 24) (s : State) : Host.Outcome State Fault Refusal :=
  done (guardedWrite s p (Reg.DMC_PARREB c) (fun s => wrParreb s c 0x80000000#32))

/-- The rebuild reaches the channel's end. -/
def execParityRebuildComplete (c : Fin 24) (s : State) : Host.Outcome State Fault Refusal :=
  done (if s.bit (Reg.DMC_PARREB c) 30 then
    let s := s.setReg (Reg.DMC_PARREB c) 0x3FF#32
    let done := (s.chan c).rebuild.getD 0
    let s := s.setChan c { s.chan c with rebuild := .none }
    let s := s.setF (Reg.DMC_STAT c) 31 29 (if (s.chan c).selfRef then 3 else 2)
    let s := tick s bSweep 6 (2 ^ log2c s c / 64 - done)
    raiseChan s c 13 .none {}
  else s)

/-! ### Frequency change (R415 to R417) -/

def wrFchg (s : State) (v : Word) : State := fchgStart (s.setReg Reg.DMC_FCHG (v &&& 0x03FFFFFF#32)) (fld v 25 24) (fld v 23 0)

def execFrequencyChange (p : Path) (tset : Fin 4) (mask : BitVec 24) (s : State) : Host.Outcome State Fault Refusal :=
  done (guardedWrite s p Reg.DMC_FCHG (fun s => wrFchg s (BitVec.ofNat 32 (tset.val * 2 ^ 24 + mask.toNat))))

/-- After a HOLD step: an owed hold limit takes effect, and channels leave self-refresh when the step ended in SAFE
(R77, R716). -/
def stepEnds (s : State) : State :=
  let s := { s with mode := { s.mode with step := .none } }
  if s.code = Mode.hold then
    if s.mode.limitOwed ∧ !s.changing then holdExpire s else s
  else selfRefreshAll s false (List.range 24)

/-- The change ends; channels of `failed` failed step 3 or 4. -/
def execFrequencyChangeComplete (failed : BitVec 24) (s : State) : Host.Outcome State Fault Refusal :=
  done (match s.dram.fchg with
  | .none => s
  | some (tset, mask) =>
    let bad := failed.toNat &&& mask
    let s := fchgChans s tset bad (bitsOf 24 0 mask)
    let s := { s with dram := { s.dram with fchg := .none } }
    let s := s.setReg Reg.DMC_FSTAT (BitVec.ofNat 32 (b2n (bad ≠ 0) * 2 ^ 28 + bad))
    stepEnds s)

/-! ### Post-package repair (R554, R555) -/

def pprRefuse (s : State) (c r : Nat) : State :=
  raise (s.setF (Reg.DMC_PPRSTAT c) 30 28 r) Src.pprFailed


/-- A write of DMC_PPR. -/
def wrPpr (s : State) (c : Nat) (v : Word) : State :=
  let op := fld v 31 30
  if op = 0 ∨ op = 3 then s
  else
  let s := s.setReg (Reg.DMC_PPR c) (v &&& 0xFFF1FFFF#32)
  if (s.chan c).ppr.isSome then pprRefuse s c 4
  else if (op = 1 && readyChan s c) || (op = 2 && !readyChan s c && !s.bit (Reg.DMC_CTL c) 0 && !(s.chan c).training) then
    (s.setReg (Reg.DMC_PPRSTAT c) 0x80000000#32).setChan c { s.chan c with ppr := some v }
  else pprRefuse s c 2

def pprWord (op : Nat) (lrank : Fin 16) (sub : Fin 2) (bank : Fin 32) (row : BitVec 17) : Word :=
  BitVec.ofNat 32 (op * 2 ^ 30 + lrank.val * 2 ^ 26 + sub.val * 2 ^ 25 + bank.val * 2 ^ 20 + row.toNat)

def execSppr (p : Path) (c : Fin 24) (lrank : Fin 16) (sub : Fin 2) (bank : Fin 32) (row : BitVec 17) (s : State) :
    Host.Outcome State Fault Refusal :=
  done (guardedWrite s p (Reg.DMC_PPR c) (fun s => wrPpr s c (pprWord 1 lrank sub bank row)))

def execHppr (p : Path) (c : Fin 24) (lrank : Fin 16) (sub : Fin 2) (bank : Fin 32) (row : BitVec 17) (s : State) :
    Host.Outcome State Fault Refusal :=
  done (guardedWrite s p (Reg.DMC_PPR c) (fun s => wrPpr s c (pprWord 2 lrank sub bank row)))

/-- The bursts of the row that a PPR word names, the inverse of R385. -/
def rowBursts (s : State) (c : Nat) (v : Word) : List Nat :=
  let row := fld v 16 0
  let bank := fld v 24 20
  let base := fld v 25 25 * 2 ^ 6 + (bank / 4 ^^^ row % 8) * 2 ^ 7 + (bank % 4 ^^^ row / 8 % 4) * 2 ^ 17 + row * 2 ^ 19 +
    fld v 29 26 * 2 ^ (19 + s.fld (Reg.DMC_GEOM c) 4 0)
  (List.range 128).map (fun col => burstKey c (base + col * 2 ^ 10))

/-- Bursts whose contents are not kept: free values. -/
def loseBursts (s : State) : List Nat → State
  | [] => s
  | k :: r =>
    loseBursts (s.draw.setBurst k (rawBurst (BitVec.ofNat 512 (Config.freeNat s.fresh)) (Config.freeWord s.fresh) .none)) r

/-- A repair ends: `res` 0 done, 1 no resource, 3 verification failed. sPPR restores the row, as it was read through the symbol code,
its uncorrectable saved bursts (`lost` names those that the cells made so) poison-marked; hPPR does not keep it. -/
def pprEnd (s : State) (c res : Nat) (lost : List Nat) : State :=
  match (s.chan c).ppr with
  | .none => s
  | some v =>
    let s := s.setChan c { s.chan c with ppr := .none }
    let s := s.setReg (Reg.DMC_PPRSTAT c) (BitVec.ofNat 32 (res * 2 ^ 28))
    let row := rowBursts s c v
    let s := if fld v 31 30 = 1 then row.foldl (fun s k => s.restoreBurst (lost.contains k) k) s else loseBursts s row
    if res = 0 then s else raise s Src.pprFailed

def execPprComplete (c : Fin 24) (res : Fin 4) (lost : List Nat) (s : State) : Host.Outcome State Fault Refusal :=
  done (pprEnd s c res lost)

/-! ### Test access (R550) -/

def testOffset (s : State) (c : Nat) : Nat :=
  s.fld (Reg.DMC_TESTADDR_LO c) 31 6 * 64 + s.fld (Reg.DMC_TESTADDR_HI c) 7 0 * 2 ^ 32

def testData (s : State) (c : Nat) : Line :=
  lineOf ((List.range 16).flatMap (fun n => natBytes 4 (s.reg (Reg.DMC_TESTDATA c n)).toNat))

def putTestData (s : State) (c : Nat) (l : Line) : List Nat → State
  | [] => s
  | n :: r => putTestData (s.setReg (Reg.DMC_TESTDATA c n) (BitVec.ofNat 32 (l.toNat / 2 ^ (32 * n)))) c l r

/-- A read of a burst into DMC_TESTDATAn and DMC_TESTCHK3. -/
def putTest (s : State) (c : Nat) (l : Line) (bc : Word) : State :=
  (putTestData s c l (List.range 16)).setReg (Reg.DMC_TESTCHK c 3) bc

/-- OP 4: a read through the decoder (R535), with RES and DEV of DMC_TESTSTAT. -/
def testDecode (s : State) (c k : Nat) : State :=
  let b := s.burst k
  let e := storedErrors b
  let stat (s : State) (res dev : Nat) : State := s.setReg (Reg.DMC_TESTSTAT c) (BitVec.ofNat 32 (16 * res + dev))
  if e = [] then stat (putTest s c b.raw b.bc) 0 0xF
  else match deviceFixes (markOf s c (testOffset s c)) e with
    | [] => stat (putTest s c b.raw b.bc) 3 0xF
    | [(j, ea, eb)] =>
      if j < 8 then
        stat (putTest s c (BitVec.ofNat 512 (xorSymbol (xorSymbol b.raw.toNat j 0 ea 32) j 1 eb 32)) b.bc) 1 j
      else stat (putTest s c b.raw (if j = 9 then b.bc ^^^ BitVec.ofNat 32 eb else b.bc)) 1 j
    | _ => stat (putTest s c b.raw b.bc) 2 0xF

def wrTestCtl (s : State) (c : Nat) (v : Word) : State :=
  if s.code ≠ Mode.test ∨ s.changing then s
  else
    let s := s.setF (Reg.DMC_TESTCTL c) 2 0 (fld v 2 0)
    let k := burstKey c (testOffset s c)
    let w (n : Nat) := s.reg (Reg.DMC_TESTCHK c n)
    match fld v 2 0 with
    | 1 => s.setBurst k (rawBurst (testData s c) (w 3) (some (w 0, w 1, w 2)))
    | 2 => s.setBurst k (rawBurst (testData s c) (w 3) .none)
    | 3 =>
      let b := s.burst k
      let (x, y, z, bc) := checkWords b
      (((putTest s c b.raw bc).setReg (Reg.DMC_TESTCHK c 0) x).setReg (Reg.DMC_TESTCHK c 1) y).setReg
        (Reg.DMC_TESTCHK c 2) z
    | 4 => testDecode s c k
    | _ => s

def execTestWriteRaw (p : Path) (c : Fin 24) (s : State) : Host.Outcome State Fault Refusal :=
  done (guardedWrite s p (Reg.DMC_TESTCTL c) (fun s => wrTestCtl s c 1))

def execTestWriteBc (p : Path) (c : Fin 24) (s : State) : Host.Outcome State Fault Refusal :=
  done (guardedWrite s p (Reg.DMC_TESTCTL c) (fun s => wrTestCtl s c 2))

def execTestReadRaw (p : Path) (c : Fin 24) (s : State) : Host.Outcome State Fault Refusal :=
  done (guardedWrite s p (Reg.DMC_TESTCTL c) (fun s => wrTestCtl s c 3))

def execTestReadDecode (p : Path) (c : Fin 24) (s : State) : Host.Outcome State Fault Refusal :=
  done (guardedWrite s p (Reg.DMC_TESTCTL c) (fun s => wrTestCtl s c 4))

end Sys2Proof.Machine
end

