-- ==== Sys2Proof/Machine/Stores.lean ====
section
/-! DEFINITION. How a home stores a line (spec/07 R256 to R268, R276, R277; spec/08; spec/11 R390 to R394, R411; spec/15): the
shape that the page takes, the reads that the store needs, the bursts that it writes, the entry that it changes, the runs
that it releases. The store of a transaction stands in its `wdata`. -/

namespace Sys2Proof.Machine

def pageOf (line : Nat) : Nat := line / 4096
def lineIdx (line : Nat) : Nat := line / 64 % 64

/-! ### Keys of bursts under parity (R389, R411, R412) -/

/-- The reads that take the content of a burst: its own, or the other five of a set whose channel is absent. -/
def keyReads (s : State) (k : Nat) : List Nat :=
  match setOfChan s (keyChan k) with
  | .none => [k]
  | some n =>
    if setPar s n && burstAbsent s k then
      ((setChans s n).filter (fun d => decide (d ≠ keyChan k))).map (fun d => burstKey d (keyOff k))
    else [k]

/-- The bursts of a stripe at the offset of a burst, parity apart. -/
def stripeData (s : State) (k p : Nat) : List Nat :=
  match setOfChan s (keyChan k) with
  | .none => []
  | some n => ((setChans s n).filter (fun d => decide (d ≠ keyChan p))).map (fun d => burstKey d (keyOff k))

/-- The reads that parity costs the writes of bursts (R411, R412). -/
def parityReadsOf (s : State) (keys : List Nat) : List Nat :=
  (keys.flatMap (fun k => match parityKey s k with
    | .none => []
    | some p =>
      let data := stripeData s k p
      if !readyChan s (keyChan p) then []
      else if data.all (fun d => keys.contains d) then []
      else if burstAbsent s k || burstAbsent s p then data.filter (fun d => decide (d ≠ k))
      else [k, p])).eraseDups

/-- The parity bursts that go with them, with no content of their own in the store. -/
def parityWritesOf (s : State) (keys : List Nat) : List (Nat × Nat × Burst) :=
  ((keys.filterMap (parityKey s)).eraseDups.filter (fun p => readyChan s (keyChan p))).map (fun p => (p, 0, zeroBurst))

/-! ### DRAM reads of a transaction (R390 to R392) -/

/-- A write of the burst waits in its channel. -/
def queuedWrite (s : State) (k : Nat) : Bool := (s.chan (keyChan k)).wrq.any (fun w => decide (w.burst = k))

/-- A write of the burst that was issued earlier has not been accepted by its channel (R391). -/
def writeAhead (s : State) (e : RdEntry) : Bool :=
  s.coh.txns.any (fun t => decide (t.phase = .wq ∧ t.order < e.seq) && t.bursts.any (fun b => decide (b.1 = e.burst)))

/-- A channel accepts the oldest read that waits for it: one in a core clock, into a queue of 64 for its subchannel, in the order of
issue (R390 to R392), and none while a slot warning lasts (R644). -/
def acceptRead (s : State) (c : Nat) : State :=
  let ch := s.chan c
  match ch.rdWait with
  | [] => s
  | e :: r =>
    if ch.warn ≠ [] ∨ ch.rdAt = s.clock + 1 ∨ 64 ≤ (rdOf s c (keySub e.burst)).length ∨ writeAhead s e = true then s
    else
      let s := if queuedWrite s e.burst then tick s (bChan c) 4 1 else s
      queueStat (s.setChan c { ch with
        rdWait := r, rdq := ch.rdq ++ [{ e with seq := ch.seq }], seq := ch.seq + 1, rdAt := s.clock + 1 }) c

/-- A read is issued to its channel. -/
def queueRead (s : State) (id slu k : Nat) : State :=
  let c := keyChan k
  if !readyChan s c then s
  else
    let e : RdEntry := { txn := id, burst := k, since := s.clock, sluice := slu, seq := s.dram.issued }
    let s := { s with dram := { s.dram with issued := s.dram.issued + 1 } }
    acceptRead (s.setChan c { s.chan c with rdWait := (s.chan c).rdWait ++ [e] }) c

def queueReads (s : State) (id slu : Nat) : List Nat → State
  | [] => s
  | k :: r => queueReads (queueRead s id slu k) id slu r

/-- The transaction waits for read data of these bursts, in phase `ph`. -/
def awaitReads (s : State) (t : Txn) (ph : Phase) (keys : List Nat) : State :=
  queueReads (putTxn s { t with phase := ph, reads := keys }) t.req.id t.req.sluice keys

/-- No read of the transaction waits for its channel or in a queue. -/
def readsIssued (s : State) (id : Nat) : Bool :=
  (s.dram.chan).all (fun e => (e.2.rdWait ++ e.2.rdq).all (fun x => decide (x.txn ≠ id)))

/-! ### The shape a store gives the page (R257 to R262) -/

inductive Shape where
  | nothing | inPlace | reframe | tz | tu | t2 | gone
  deriving DecidableEq, Repr

/-- A ring from which an ordinary allocation, or a reserve fallback, of `want` units would be made now (R256). -/
def ringFor (s : State) (heap : Bool) (n want : Nat) (fallback : Bool) : Option Nat :=
  if !setV s n then .none
  else (List.range (if heap then 16 else 4)).find? (fun k =>
    decide (want ≤ k + 1 ∧ (if !heap && decide (k = 3) && !fallback then floorOf s n else 0) < ringCount s heap n k))

/-- The cell at which the next ordinary run of a set would begin. -/
def peekCell (s : State) (n want : Nat) : Nat :=
  match ringFor s false n want false with
  | some k => ringUnit s false n k (ringHead s false n k)
  | .none => 0

/-- The set and the location by which the crystallizer of line `i` of a page is found (R26): where the line stands, or where the
next run of the page's set would begin for a page without cells (DESIGN CHOICE, log entry 162). -/
def unitPlace (s : State) (page i : Nat) : Nat × Nat :=
  let e := storedEntry s page
  if eState e ≤ 1 && !emptyRun e then (eSet e, lineLoc e (codesOf s page) i)
  else
    let n := allocSet s e false 1
    (n, 1024 * peekCell s n 1)

/-- Size code and sectors of a line to store in a T1 or TZ page with the line check it carries (R291 to R293). -/
def encodeFor (s : State) (page i : Nat) (d : Line) (p : Bool) (lc : Nat) : State × Nat × List Nat :=
  if p then (s, 5, []) else encodeLine s (unitPlace s page i).1 (unitPlace s page i).2 page i d lc

/-- The page's entry and, for a T1 page, its record could be read from the map region (source 1,233). -/
def mapUnread (s : State) (page : Nat) : Bool :=
  entryUnread s page || (decide (eState (storedEntry s page) = Ent.t1) && svUnread s page)

/-- The page can be served, and its size vector is good (R719, R240, R245). -/
def pageGood (s : State) (page : Nat) : Bool :=
  let e := storedEntry s page
  pageServable s page && !mapUnread s page && !malformed s e && !s.tier.lost.contains page &&
    !(decide (eState e = Ent.t1) && (svBad s page || codesBad e (codesOf s page)))

/-- The grain crystallizer that decodes a line of a page, by the channel of the line's first sector (R26, R282). -/
def gcOf (s : State) (e : DWord) (codes line : Nat) : Nat := gcUnit s (eSet e) (lineLoc e codes (lineIdx line)) (lineIdx line)

/-- The sources of a line whose two readings failed, both made at once; `grain` when the decoder rejected it (R35, R294). -/
def raiseTwice (s : State) (u line : Nat) (grain : Bool) : State :=
  if grain then raiseCry (raiseCry s Src.grainDecode u line {}) Src.grainTwice u line {}
  else raiseWith s Src.lineCheckTwice { atype := 6, akind := 1, addr := line }

/-- Line `i` of a page as an operation on the whole page reads it, in T0, T1 or stored form. -/
def lineTwice (s : State) (e : DWord) (codes page slot : Nat) (bad : List Nat) (i : Nat) : State × (Line × Bool) :=
  match readLine s e codes page i slot bad with
  | .good l => (s, (l, false))
  | .poison => (s, (0, true))
  | .mismatch grain =>
    let line := page * 4096 + 64 * i
    (raiseTwice s (gcOf s e codes line) line grain, (0, true))

def linesTwice (s : State) (e : DWord) (codes page slot : Nat) (bad : List Nat) : List Nat → State × List (Line × Bool)
  | [] => (s, [])
  | i :: r =>
    let (s, x) := lineTwice s e codes page slot bad i
    let (s, l) := linesTwice s e codes page slot bad r
    (s, x :: l)

def lostPage : List (Line × Bool) := List.replicate 64 (0, true)

/-- The whole page of an entry as an operation on it reads it; a coded stream that the decoder rejects is read and decoded once more,
and rejected again its lines are poison (R307). -/
def pageTwice (s : State) (e : DWord) (page slot : Nat) (bad : List Nat) : State × List (Line × Bool) :=
  if eState e = Ent.t2 ∧ eNb e < 15 then
    match readPage s e page slot bad with
    | some ls => (s, ls)
    | .none =>
      let u := 8 + homeSlice (page * 4096)
      (raiseCry (raiseCry s Src.heapDecode u (page * 4096) {}) Src.heapTwice u (page * 4096) {}, lostPage)
  else if eState e ≤ 2 then linesTwice s e (codesOf s page) page slot bad (List.range 64)
  else (s, List.replicate 64 (0, false))

/-- The lines of a page with their line checks: that of line `i` as its write carries it, the others as read. -/
def withCheck (ls : List (Line × Bool)) (i lc : Nat) : List (Line × Bool × Nat) :=
  (fresh ls).mapIdx (fun j x => if j = i then (x.1, x.2.1, lc) else x)

/-- A sector of the line stands in a poison-marked burst (R545). -/
def lineMarked (s : State) (e : DWord) (codes i : Nat) : Bool := (lineLocs e codes i).any (markedAt s (eSet e))

def shapeOf (s : State) (line : Nat) (d : Line) (p : Bool) (lc : Nat) : Shape :=
  let page := pageOf line
  let i := lineIdx line
  let e := storedEntry s page
  let codes := codesOf s page
  if !pageGood s page then .gone
  else
    let c := (encodeFor s page i d p lc).2.1
    match eState e with
    | 0 => .inPlace
    | 1 => if c = codeAt codes i && !lineMarked s e codes i then .inPlace else .reframe
    | 2 => .t2
    | 4 => if c = 0 then .nothing else .tz
    | 5 => .tu
    | _ => .gone

def changesShape (x : Shape) : Bool :=
  match x with
  | .reframe => true
  | .tz => true
  | .tu => true
  | .t2 => true
  | _ => false

/-- Reframes, reserve fallbacks and T2 writes in progress of a quadrant (R263). -/
def rfActive (s : State) (h : Nat) : Nat := (s.coh.txns.filter (fun t => decide (sliceOf t.req = h) && t.rf)).length

/-- The frontier of a set: the first cell above the map region until phase 4 moves it (R91). -/
def frontier (s : State) (n : Nat) : Nat := max (setWipe s n).front (mapRegion s n / 1024)

/-- The set has four cells at its frontier, while phase 4 has not ended (R93, R257). -/
def frontierOpen (s : State) (n : Nat) : Bool :=
  decide ((setWipe s n).phase ≠ 5) && setServable s n && decide (1024 * (frontier s n + 4) ≤ setCapacity s n)

/-- A store of this shape is a reframe, a T2 write, or needs the reserve fallback (R263). -/
def wantsRf (s : State) (page : Nat) (x : Shape) : Bool :=
  let e := storedEntry s page
  match x with
  | .reframe => true
  | .t2 => true
  | .tz => (ringFor s false (allocSet s e false 1) 1 false).isNone
  | .tu => (ringFor s false (allocSet s e false 4) 4 false).isNone && !frontierOpen s (allocSet s e false 4)
  | _ => false

def rfMax (s : State) : Nat := s.fld Reg.TIER_CTL 12 8

def jobsOf (s : State) (q : Nat) : List HeapJob := s.tier.jobs.filter (fun j => decide (j.quad = q))

/-- Open transactions before one in admission order. -/
def before (l : List Txn) (id : Nat) : List Txn := l.takeWhile (fun t => decide (t.req.id ≠ id))

def samePage (s : State) (t : Txn) (page : Nat) : Bool := isLocal s t.req && decide (pageOf t.req.line = page)

/-- A move has begun to copy the page: stores wait for its end (R270). -/
def moveCopying (s : State) (t : Txn) (page : Nat) : Bool :=
  s.tier.moves.any (fun m => decide (m.page = page ∧ m.id ≠ t.req.id)) &&
    !((s.coh.txns.dropWhile (fun x => decide (x.req.id ≠ t.req.id))).any (fun x =>
      decide (x.req.kind = .move ∧ x.phase = .page) && samePage s x page))

/-- The store may go on: no move copies the page; a store that changes the page's shape waits until the other requests
to the page have left DRAM, and for a reframe or a heap job to be free (R259, R263, R309). -/
def storeGate (s : State) (t : Txn) (line : Nat) (d : Line) (p : Bool) (lc : Nat) : Bool :=
  let page := pageOf line
  let x := shapeOf s line d p lc
  !moveCopying s t page &&
    (!changesShape x ||
      (s.coh.txns.all (fun u => decide (u.req.id = t.req.id) || !samePage s u page || decide (u.phase = .page)) &&
        (before s.coh.txns t.req.id).all (fun u => !samePage s u page) &&
        (!wantsRf s page x || decide (rfActive s (homeSlice line) < rfMax s)) &&
        (decide (x ≠ .t2) || decide ((jobsOf s (homeSlice line)).length < 16))))

/-! ### Reads before a store -/

/-- The cells of a T1 page's run. -/
def runCells (e : DWord) : Nat := if emptyRun e then 0 else eNc e + 1

/-- Bursts that a T1 write in place merges into (R393), but those with a write in the queue that takes the merge. -/
def mergeReads (s : State) (ws : List (Nat × Nat × Burst)) : List Nat :=
  (ws.filter (fun w => decide (w.2.1 ≠ 15) && !queuedWrite s w.1)).flatMap (fun w => keyReads s w.1)

/-- The writes of a line in place in its T0 or T1 run. -/
def inPlaceWrites (s : State) (page i slot : Nat) (d : Line) (p : Bool) (b : List Nat) (c : Nat) : List (Nat × Nat × Burst) :=
  let e := storedEntry s page
  let n := eSet e
  if eState e = Ent.t0 then [(burstAt s n (lineLoc e 0 i), 15, rawLine (sealOf s slot) page i .none (d, p))]
  else sectWrites s n (lineLoc e (codesOf s page) i) (sealLine (sealOf s slot) page i (codeSectors c) b)

/-- The bursts that a reframe copies from: the tail from the written line on, or the whole run (R259, R260). -/
def copyLocs (s : State) (page i c : Nat) : List Nat :=
  let e := storedEntry s page
  let codes := codesOf s page
  let total := sectorsBefore codes 64
  let u := total - codeSectors (codeAt codes i) + codeSectors c
  let base := 1024 * eCell e
  if u ≤ 64 * runCells e then
    let k := sectorsBefore codes i
    burstLocs (base + 16 * k) (max 1 (total - k))
  else burstLocs base total

/-- The bursts whose read data a store needs first. -/
def storeReads (s : State) (line slot : Nat) (d : Line) (p : Bool) (lc : Nat) : List Nat :=
  let page := pageOf line
  let i := lineIdx line
  let e := storedEntry s page
  let (_, c, b) := encodeFor s page i d p lc
  match shapeOf s line d p lc with
  | .inPlace => (mergeReads s (inPlaceWrites s page i slot d p b c)).eraseDups
  | .reframe =>
    if runCells e = 0 then []
    else ((copyLocs s page i c).flatMap (fun l => keyReads s (burstAt s (eSet e) l))).eraseDups
  | _ => []

/-! ### The rebuilt T1 page (R259, R260, R545) -/

/-- Line `j` as a reframe carries it: code 5 when a sector of it cannot be carried. -/
def carryLine (s : State) (e : DWord) (codes : Nat) (bad : List Nat) (j : Nat) : Nat × List Sect :=
  let c := codeAt codes j
  if c = 0 ∨ 5 ≤ c then (c, [])
  else
    let ls := lineLocs e codes j
    if ls.any (markedAt s (eSet e)) || ls.any (fun l => (keyReads s (burstAt s (eSet e) l)).any (fun k => bad.contains k)) then
      (5, [])
    else (c, sectsAt s (eSet e) (lineLoc e codes j) c)

/-- The 64 lines with line `i` replaced. -/
def carried (s : State) (e : DWord) (codes : Nat) (bad : List Nat) (i c : Nat) (xs : List Sect) : List (Nat × List Sect) :=
  (List.range 64).map (fun j => if j = i then (c, xs) else carryLine s e codes bad j)

/-- The first line whose code differs from the old codes, or which is written. -/
def firstChanged (codes i : Nat) (ls : List (Nat × List Sect)) : Nat :=
  ((List.range 64).find? (fun j => decide (j = i) || decide ((ls.getD j (0, [])).1 ≠ codeAt codes j))).getD i

/-- The rewrite in place: from the first changed line on, zeros to the end of the last burst touched. -/
def tailWrites (s : State) (e : DWord) (codes i : Nat) (ls : List (Nat × List Sect)) : List (Nat × Nat × Burst) :=
  let k := firstChanged codes i ls
  let s0 := sectorsBefore codes k
  let xs := (ls.drop k).flatMap (fun x => x.2)
  let fin := (max (s0 + xs.length) (sectorsBefore codes 64) + 3) / 4 * 4
  let xs := xs ++ List.replicate (fin - s0 - xs.length) ({} : Sect)
  if runCells e = 0 then [] else sectWrites s (eSet e) (1024 * eCell e + 16 * s0) xs

/-! ### Plans -/

/-- What a store does once its reads have come: bursts, entry, codes, runs to release. -/
structure Plan where
  bursts : List (Nat × Nat × Burst) := []
  entry : Option DWord := none
  codes : Option Nat := none
  release : List Run := []
  deriving DecidableEq, Repr

/-- T1 with the empty run: the written line takes a code, the others 0 (R276, R277). -/
def emptyPlan (e : DWord) (i c : Nat) : Plan :=
  { entry := some (mkEnt Ent.t1 (eOwn e) (eSet e) 0x7FFFFFFFF), codes := some (setCode3 0 i c) }

def exhausted (s : State) (page : Nat) : State := raiseTier s Src.reserveExhausted (page * 4096) {}

/-- A page written as T0 in four cells, its lines checked in raw bypass (R292). -/
def t0Plan (s : State) (e : DWord) (n u page slot : Nat) (ls : List (Line × Bool × Nat)) (release : List Run) : State × Plan :=
  let (s, ls) := bypassLines s n (1024 * u) page 0 ls
  (s, { bursts := rawWrites s n (1024 * u) page slot .none ls
        entry := some (mkEnt Ent.t0 (eOwn e) n u)
        release := release })

/-- The 64 lines of a page of zeros with one line written. -/
def oneLine (i : Nat) (d : Line) (p : Bool) : List (Line × Bool) :=
  (List.range 64).map (fun j => if j = i then (d, p) else (0, false))

def countFallback (s : State) (page : Nat) : State := tick s (bTmu (homeSlice (page * 4096))) 5 1

/-- A write to a TZ page (R258, R293). -/
def planTz (s : State) (page i slot : Nat) (d : Line) (p : Bool) (lc : Nat) : State × Plan :=
  let e := storedEntry s page
  let (s, c, b) := encodeFor s page i d p lc
  let n := allocSet s e false 1
  let xs := sealLine (sealOf s slot) page i (codeSectors c) b
  match allocate s false n 1 false page with
  | (s, some (u, left)) =>
    (s, { bursts := sectWrites s n (1024 * u) (padCells xs 1), entry := some (mkEnt Ent.t1 (eOwn e) n u)
          codes := some (setCode3 0 i c), release := left })
  | (s, .none) =>
    match allocate s false n 4 true page with
    | (s, some (u, left)) => t0Plan (countFallback s page) e n u page slot (withCheck (oneLine i d p) i lc) left
    | (s, .none) => (exhausted s page, emptyPlan e i 5)

/-- The four cells at the frontier, while phase 4 has not ended (R93, R257). -/
def claimFrontier (s : State) (n : Nat) : State × Option Nat :=
  let u := frontier s n
  if frontierOpen s n then (tick (putWipe s n { setWipe s n with front := u + 4 }) bSweep 5 1, some u)
  else (s, .none)

/-- A write to a TU page (R93, R277). -/
def planTu (s : State) (page i slot : Nat) (d : Line) (p : Bool) (lc : Nat) : State × Plan :=
  let s := tick (writeBlock s page) (bTmu (homeSlice (page * 4096))) 6 1
  let e := storedEntry s page
  let n := allocSet s e false 4
  let ls := withCheck (oneLine i d p) i lc
  match allocate s false n 4 false page with
  | (s, some (u, left)) => t0Plan s e n u page slot ls left
  | (s, .none) =>
    match claimFrontier s n with
    | (s, some u) => t0Plan s e n u page slot ls []
    | (s, .none) =>
      match allocate s false n 4 true page with
      | (s, some (u, left)) => t0Plan (countFallback s page) e n u page slot ls left
      | (s, .none) => (exhausted s page, emptyPlan e i 5)

/-- The new codes of carried lines. -/
def carriedCodes (ls : List (Nat × List Sect)) : Nat := packCodes (ls.map (fun x => x.1))

def carriedSectors (ls : List (Nat × List Sect)) : Nat := (ls.map (fun x => x.2.length)).foldl (· + ·) 0

/-- The line stored with code 5 in place (R259, R276, R280). -/
def planCode5 (s : State) (page i : Nat) (bad : List Nat) : Plan :=
  let e := storedEntry s page
  let codes := codesOf s page
  let ls := carried s e codes bad i 5 []
  { bursts := tailWrites s e codes i ls, codes := some (carriedCodes ls) }

/-- The run of a T1 page. -/
def oldRun (e : DWord) : List Run := if emptyRun e then [] else [(eSet e, false, eCell e, eNc e + 1)]

/-- A reframe (R259). `bad` holds the reads of its copy that failed (R280). -/
def planReframe (s : State) (page i slot : Nat) (d : Line) (p : Bool) (lc : Nat) (bad : List Nat) : State × Plan :=
  let e := storedEntry s page
  let codes := codesOf s page
  let h := homeSlice (page * 4096)
  if bad ≠ [] then (raiseTier s Src.reframeFailed (page * 4096) {}, planCode5 s page i bad)
  else
    let (s, c, b) := encodeFor s page i d p lc
    let xs := sealLine (sealOf s slot) page i (codeSectors c) b
    let ls := carried s e codes [] i c xs
    let total := carriedSectors ls
    if total ≤ 64 * runCells e then
      (tick s (bTmu h) 3 1, { bursts := tailWrites s e codes i ls, codes := some (carriedCodes ls) })
    else
      let m := ceilDiv total 64
      match allocate s false (eSet e) m false page with
      | (s, some (u, left)) =>
        (tick s (bTmu h) 4 1,
          { bursts := sectWrites s (eSet e) (1024 * u) (padCells (ls.flatMap (fun x => x.2)) m)
            entry := some (mkEnt Ent.t1 (eOwn e) (eSet e) (u + (m - 1) * 2 ^ 35))
            codes := some (carriedCodes ls), release := left ++ oldRun e })
      | (s, .none) =>
        match allocate s false (eSet e) 4 true page with
        | (s, some (u, left)) =>
          let (s, old) := linesTwice s e codes page slot [] (List.range 64)
          t0Plan (countFallback s page) e (eSet e) u page slot (withCheck (old.set i (d, p)) i lc) (left ++ oldRun e)
        | (s, .none) => (exhausted s page, planCode5 s page i [])

/-- Bursts of a write in place whose merge read failed are poison-marked (R543). -/
def markFailed (s : State) (bad : List Nat) (ws : List (Nat × Nat × Burst)) : List (Nat × Nat × Burst) :=
  ws.map (fun w => if w.2.1 ≠ 15 && (keyReads s w.1).any (fun k => bad.contains k) then (w.1, 15, markedBurst) else w)

/-- The plan of a store, its reads having come with those of `bad` failed. -/
def planStore (s : State) (line slot : Nat) (d : Line) (p : Bool) (lc : Nat) (bad : List Nat) : State × Plan :=
  let page := pageOf line
  let i := lineIdx line
  match shapeOf s line d p lc with
  | .inPlace =>
    if eState (storedEntry s page) = Ent.t0 then
      let (s, ok) := if p then (s, true) else rawChecked s (gcOf s (storedEntry s page) 0 line) page i d lc
      (s, { bursts := inPlaceWrites s page i slot d (p || !ok) [] 0 })
    else
      let (s, c, b) := encodeFor s page i d p lc
      (s, { bursts := markFailed s bad (inPlaceWrites s page i slot d p b c) })
  | .reframe => planReframe s page i slot d p lc bad
  | .tz => planTz s page i slot d p lc
  | .tu => planTu s page i slot d p lc
  | _ => (s, {})

/-! ### T2 writes (R262, R276) -/

def heapRunOf (e : DWord) : Run := (eSet e, true, eBlk e, eNb e + 1)

/-- The stream of lines and the heap blocks that it takes; none: the stored form of 16 blocks. -/
def heapForm (s : State) (ls : List (Line × Bool)) (bad : Bool) : Option (List Nat) × Nat :=
  match (if bad then .none else heapOf s ls) with
  | some b => if ceilDiv b.length 256 < 16 then (some b, ceilDiv b.length 256) else (.none, 16)
  | .none => (.none, 16)

/-- The writes of a page's heap form into a run of `nb` blocks. -/
def heapWrites (s : State) (n blk nb page slot : Nat) (form : Option (List Nat)) (ls : List (Line × Bool)) :
    List (Nat × Nat × Burst) :=
  match form with
  | some b => streamWrites s n blk nb page slot b
  | .none => rawWrites s n (256 * blk) page slot (some blk) ls

/-- The writes of a page's heap form, the lines of a stored form checked first (R306, R292). -/
def heapChecked (s : State) (n blk nb page slot : Nat) (form : Option (List Nat)) (ls : List (Line × Bool × Nat)) :
    State × List (Nat × Nat × Burst) :=
  let (s, xs) := match form with
    | some _ => (s, ls.map (fun x => (x.1, x.2.1)))
    | .none => bypassLines s n (256 * blk) page 0 ls
  (s, heapWrites s n blk nb page slot form xs)

/-- A coded stream with line `i` recorded as poisoned: its POISON bit set, and PCHK over the page with the line as zeros (R297). -/
def poisonStream (b : List Nat) (i : Nat) : List Nat :=
  match heapDecode b with
  | .none => b
  | some (mask, page) =>
    let mask := if mask.testBit i then mask else mask + 2 ^ i
    b.take 4 ++ natBytes 8 mask ++ natBytes 4 (crc32c (zeroLines mask page)) ++ b.drop 16

/-- The stream of a page at exhaustion (R262, R305): encoded with the line as zeros; where that would be longer than the run, which
the record of a poisoned line never makes it, the stored stream with the line's POISON bit. -/
def lostForm (s : State) (e : DWord) (page i slot : Nat) (ls : List (Line × Bool)) : Option (List Nat) :=
  match heapOf s ls with
  | some b => if ceilDiv b.length 256 ≤ eNb e + 1 then some b else (heapRun s e page slot []).map (fun b => poisonStream b i)
  | .none => (heapRun s e page slot []).map (fun b => poisonStream b i)

/-- The write of a T2 page makes a coded stream, which the verify decoder then decodes (R296, R306). -/
def codes2 (s : State) (page : Nat) (ls : List (Line × Bool)) : Bool :=
  !s.bit Reg.TIER_CTL 0 && decide (eNb (storedEntry s page) ≠ 15) && (heapForm s ls false).1.isSome

/-- A T2 page encoded again after a write of line `i`, whose line check is `lc`: `ls` is the page with the line merged, `bad` that the
verify decoder rejected the stream (R306). -/
def planT2 (s : State) (page i slot : Nat) (ls : List (Line × Bool)) (lc : Nat) (bad : Bool) : State × Plan :=
  let e := storedEntry s page
  let n := eSet e
  let have_ := eNb e + 1
  let cs := withCheck ls i lc
  let place (s : State) (form : Option (List Nat)) (cs : List (Line × Bool × Nat)) : State × Plan :=
    let (s, b) := heapChecked s n (eBlk e) have_ page slot form cs
    (s, { bursts := b })
  let lost (s : State) : State × Plan :=
    let ls := ls.set i (0, true)
    let s := exhausted s page
    if have_ = 16 then place s .none (fresh ls)
    else match lostForm s e page i slot ls with
      | some b => place s (some b) (fresh ls)
      | .none => (s, {})
  let t0 (s : State) : State × Plan :=
    match allocate s false n 4 true page with
    | (s, some (u, left)) => t0Plan (countFallback s page) e n u page slot cs (left ++ [heapRunOf e])
    | (s, .none) => lost s
  if s.bit Reg.TIER_CTL 0 then
    match allocate s false n 4 false page with
    | (s, some (u, left)) => t0Plan s e n u page slot cs (left ++ [heapRunOf e])
    | (s, .none) => t0 s
  else
    let (form, m) := heapForm s ls bad
    if have_ = 16 then place s .none cs
    else if m ≤ have_ then place s form cs
    else
      match allocate s true n m false page with
      | (s, some (u, left)) =>
        let (s, b) := heapChecked s n u m page slot form cs
        (s, { bursts := b
              entry := some (mkEnt Ent.t2 (eOwn e) n (u + (m - 1) * 2 ^ 37)), release := left ++ [heapRunOf e] })
      | (s, .none) => t0 s

/-! ### Channel write queues (R390, R393) -/

/-- A plan's bursts with their parity, of which those of absent channels go to the store at once (R411). -/
def enterWq (s : State) (t : Txn) : State :=
  let all := t.bursts ++ parityWritesOf s (t.bursts.map (fun b => b.1))
  let gone := all.filter (fun b => !readyChan s (keyChan b.1))
  let s := storeAll s gone
  let s := { s with dram := { s.dram with issued := s.dram.issued + 1 } }
  putTxn s { t with phase := .wq, reads := [], order := s.dram.issued, bursts := all.filter (fun b => readyChan s (keyChan b.1)) }

/-- The plan of a store is taken up: the reads of parity first, then the write queues. -/
def takePlan (s : State) (t : Txn) (pl : Plan) : State :=
  let page := match t.wdata with | some w => pageOf w.1 | .none => 0
  let t := { t with bursts := pl.bursts, entry := pl.entry.map (fun e => (page, e))
                    codes := pl.codes.map (fun c => (page, c)), release := pl.release }
  match parityReadsOf s (pl.bursts.map (fun b => b.1)) with
  | [] => enterWq s t
  | ks => awaitReads s t .merge ks

/-- The entry into which a write of a burst merges (R393). -/
def mergesInto (s : State) (k : Nat) (w : WrEntry) : Bool := decide (w.burst = k) && !mergeClosed s (keyChan k) w

/-- A channel accepts a write of a store issued at `order` now: no slot warning lasts (R644), the first in this core clock, no earlier read of its burst still waits,
and it merges into an entry or its subchannel's queue has room (R390, R391, R393). -/
def wrFits (s : State) (order k : Nat) : Bool :=
  let c := keyChan k
  let ch := s.chan c
  decide (ch.warn = []) && decide (ch.wrAt ≠ s.clock + 1) && !ch.rdWait.any (fun e => decide (e.burst = k ∧ e.seq < order)) &&
    (ch.wrq.any (mergesInto s k) || decide ((wrOf s c (keySub k)).length < 64))

/-- A channel accepts a write (R390, R393): from this clock every read gives its content (R33), and a rewrite of the rake that waits
for the burst is discarded (R548). -/
def acceptWrite (s : State) (slu : Nat) (w : Nat × Nat × Burst) : State :=
  let c := keyChan w.1
  let ch := s.chan c
  let wrq := if ch.wrq.any (mergesInto s w.1) then
      ch.wrq.map (fun x => if mergesInto s w.1 x then { x with last := ch.seq } else x)
    else ch.wrq ++ [{ burst := w.1, since := s.clock, sluice := slu, seq := ch.seq, last := ch.seq }]
  let s := s.setChan c { ch with wrq := wrq, seq := ch.seq + 1, wrAt := s.clock + 1 }
  let s := { s with rake := { s.rake with pend := s.rake.pend.filter (fun x => decide (x.1 ≠ w.1)) } }
  queueStat (if w.2.1 = 0 then s else s.writeBurst w.1 (mergeBurst (s.burst w.1) w.2.1 w.2.2)) c

end Sys2Proof.Machine
end

