-- ==== Sys2Proof/Machine/Engine.lean ====
section
/-! DEFINITION. The home slices and the pool caches (spec/10): how an open transaction goes on, from the recall of holders over
the reads and the store of its line to its answer, and how requests that wait become transactions. -/

namespace Sys2Proof.Machine

/-! ### Pool cache lines (R358) -/

def pcKey (dev line : Nat) : Nat := 2 ^ 40 * dev + line / 64
def pcGet (s : State) (dev line : Nat) : PcLine := smGet {} s.coh.pc (pcKey dev line)
def pcPut (s : State) (dev line : Nat) (x : PcLine) : State :=
  { s with coh := { s.coh with pc := smSet {} s.coh.pc (pcKey dev line) x } }

def pcDev (k : Nat) : Nat := k / 2 ^ 40
def pcLineOf (k : Nat) : Nat := k % 2 ^ 40 * 64

/-- The host record of a pool cache line, as a directory record without peers; an owner on an isolated port is lost
(R357). -/
def pcRec (s : State) (x : PcLine) : DirRec :=
  let r : DirRec := { hs := x.hstate, hown := x.hown, hvec := x.hvec }
  if ownerLost s r then {} else r

/-- A line whose exclusive host holder here has been isolated: it is poisoned, and modified against its home (R357). -/
def pcLost (s : State) (dev line : Nat) : State :=
  let x := pcGet s dev line
  if ownerLost s { hs := x.hstate, hown := x.hown, hvec := x.hvec } then
    raiseHome (pcPut s dev line { x with pstate := 3, pois := true, hstate := 0, hown := 0, hvec := 0 }) Src.exclusiveLost line dev {}
  else s

def PcLine.withRec (x : PcLine) (r : DirRec) : PcLine :=
  let r := r.norm
  { x with hstate := r.hs, hown := r.hown, hvec := r.hvec }

/-- The slice's set of 16 ways of a remote line (R358). -/
def pcSet (line : Nat) : Nat × Nat := (homeSlice line, line / 64 % 2 ^ 14)

def pcLinesIn (s : State) (x : Nat × Nat) : List (Nat × Nat) :=
  (s.coh.pc.filter (fun e => decide (pcSet (pcLineOf e.1) = x))).map (fun e => (pcDev e.1, pcLineOf e.1))

/-- M lines of a quadrant's pool cache (HOME_PCSTATq). -/
def pcModified (s : State) (q : Nat) : Nat :=
  (s.coh.pc.filter (fun e => decide (homeSlice (pcLineOf e.1) = q ∧ e.2.pstate = 3))).length

/-! ### Requests of a line's or a page's place -/

/-- The record of a line: the directory's, or its pool cache line's. -/
def recOf (s : State) (r : Req) : DirRec := if isLocal s r then dirOf s r.line else pcRec s (pcGet s r.dev r.line)

def reqPort (r : Req) : Nat :=
  match r.origin with
  | .host ld _ => ld / 16
  | _ => 16

def reqLd (r : Req) : Nat :=
  match r.origin with
  | .host ld _ => ld
  | _ => 256

def reqPeer (r : Req) : Nat :=
  match r.origin with
  | .peer d _ => d
  | _ => 1024

/-- The requesting logical device holds the line exclusive. -/
def ownsIt (dr : DirRec) (r : Req) : Bool := decide (dr.hs = 2 ∧ ownerLd dr = reqLd r)

/-- Requests are held: HOLD, or its entry (R70, R80). -/
def holding (s : State) : Bool :=
  decide (s.code = Mode.hold) || (match s.mode.trans with | some t => decide (t.kind = 1) | .none => false)

/-! ### Which holders a request recalls (R353, R369, R371, R351, R362, R372) -/

/-- What is sent to holders: the kind of BISnp and the vector of ports, the snoop's opcode and the peers. -/
structure RecallPlan where
  biKind : Nat := 2
  hvec : Nat := 0
  op : Nat := 0x10
  peers : List Nat := []
  deriving DecidableEq, Repr

def invAll (s : State) (dr : DirRec) (but : Nat) : RecallPlan :=
  { hvec := dr.hvec, peers := (peersOf s dr).filter (fun d => decide (d ≠ but)) }

/-- The exclusive holder alone: a host by a kind of BISnp, or a peer by a snoop. -/
def exclOnly (s : State) (dr : DirRec) (r : Req) (kind op : Nat) : RecallPlan :=
  { biKind := kind, hvec := if dr.hs = 2 && !ownsIt dr r then dr.hvec else 0
    op := op, peers := if dr.ps = 3 then (peersOf s dr).filter (fun d => decide (d ≠ reqPeer r)) else [] }

def recallPlan (s : State) (dr : DirRec) (r : Req) : RecallPlan :=
  if r.hdmh then {}
  else match r.kind with
    | .memRdInv => if ownsIt dr r then {} else invAll s dr 1024
    | .memInv => if ownsIt dr r then {} else invAll s dr 1024
    | .memInvNT => if ownsIt dr r then {} else invAll s dr 1024
    | .memWr => if ownsIt dr r then {} else invAll s dr 1024
    | .memWrPtl => if ownsIt dr r then {} else invAll s dr 1024
    | .memRdData => exclOnly s dr r 1 0x11
    | .memRdCur => exclOnly s dr r 0 0x11
    | .amoAdd => invAll s dr 1024
    | .amoSwp => invAll s dr 1024
    | .amoCas => invAll s dr 1024
    | .amoMax => invAll s dr 1024
    | .amoMaxU => invAll s dr 1024
    | .recall => invAll s dr 1024
    | .rds => exclOnly s dr r 1 0x12
    | .rdo => { invAll s dr (reqPeer r) with op := if dr.ps = 3 then 0x13 else 0x10 }
    | .upg => { invAll s dr (reqPeer r) with op := if dr.ps = 3 then 0x13 else 0x10 }
    | .rdc => exclOnly s dr r 0 0x11
    | .snpi => { hvec := dr.hvec }
    | .fwdo => { hvec := dr.hvec }
    | .snps => { biKind := 1, hvec := if dr.hs = 2 then dr.hvec else 0 }
    | .fwds => { biKind := 1, hvec := if dr.hs = 2 then dr.hvec else 0 }
    | _ => {}

/-- Snoops and forwards go out to peers (R365). -/
def sendSnoops (s : State) (t : Txn) (op line : Nat) : List Nat → State
  | [] => s
  | d :: r =>
    let (dev, tx) := match t.req.origin with | .peer p x => (p, x) | _ => (0, 0)
    let block : Line := if op = 0x12 ∨ op = 0x13 then BitVec.ofNat 512 (dev % 1024 + 65536 * (tx % 65536)) else 0
    sendSnoops (sendCoh s d op t.req.id t.req.tag line block false) t op line r

/-- The recalls of one line of a transaction begin: BISnps and snoops are owed. A modified line of a lost owner comes as
poison (R357, R377). -/
def recallLine (s : State) (t : Txn) (line : Nat) : State × Txn :=
  let r := { t.req with line := line }
  let loc := isLocal s r
  let dr := recOf s r
  let pl := recallPlan s dr (if isPageOp r.kind then { r with kind := .recall } else r)
  let bis := (biNeeded s r.dev line pl.hvec).filter (fun x =>
    decide (x.2 ≠ reqLd r) || isSnoop r.kind || decide (r.kind = .recall))
  let s := if loc then s else pcLost s r.dev line
  let lost := loc && ownerLost s (decodeDir (dirWord s line))
  let s := if lost then raiseHome s Src.exclusiveLost line s.devId (reqInfo s r) else s
  let s := sendSnoops s t pl.op line pl.peers
  let s := if pl.peers = [] ∧ bis = [] then s else tick s (bHome (homeSlice line)) 2 1
  (s, { t with
    bi := t.bi ++ bis, biKind := pl.biKind
    peers := t.peers ++ pl.peers.map (fun d => (line, d))
    since := s.clock
    got := if lost then t.got ++ [(line, 0, true, .none, 0)] else t.got })

def recallLines (s : State) (t : Txn) : List Nat → State × Txn
  | [] => (s, t)
  | l :: r =>
    let (s, t) := recallLine s t l
    recallLines s t r

/-- The lines of a page that have an entry. -/
def pageHeld (s : State) (page : Nat) : List Nat :=
  ((List.range 64).map (fun i => page * 4096 + 64 * i)).filter (fun l => decide (dirWord s l ≠ 0))

/-! ### The record that a request leaves (R353, R364, R369) -/

/-- Ports that answered S or E for a line. -/
def keptPorts (t : Txn) (line : Nat) : Nat :=
  t.kept.foldl (fun a x => if x.1 = line ∧ x.2 < 16 ∧ !a.testBit x.2 then a + 2 ^ x.2 else a) 0

def keptPeer (t : Txn) (line : Nat) : Bool := t.kept.any (fun x => decide (x.1 = line ∧ x.2 = 16))

/-- The exclusive holder of a record after its recall to shared: a host's port, or a peer, as it answered. -/
def downgraded (t : Txn) (dr : DirRec) (name : Nat) : DirRec :=
  let dr := if dr.hs = 2 then (if keptPorts t name = 0 then { dr with hs := 0 } else { dr with hs := 1, hvec := keptPorts t name })
    else dr
  let dr := if dr.ps = 3 then (if keptPeer t name then { dr with ps := 1 } else { dr with ps := 0 }) else dr
  dr.norm

def heRec (ld : Nat) : DirRec := { hs := 2, hown := ld % 16, hvec := 2 ^ (ld / 16) }

/-- A port joins the shared hosts. -/
def hsRec (dr : DirRec) (n : Nat) : DirRec :=
  { dr with hs := 1, hown := 0, hvec := if dr.hvec.testBit n then dr.hvec else dr.hvec + 2 ^ n }

/-- `excl`: the line may be held HE here (always at its home; in a pool cache in E or M). -/
def afterRec (s : State) (t : Txn) (dr : DirRec) (excl : Bool) : DirRec :=
  let r := t.req
  let name := lineName s r.dev r.line
  if r.hdmh then dr
  else match r.kind with
    | .memRdInv => heRec (reqLd r)
    | .memInv => heRec (reqLd r)
    | .memInvNT => {}
    | .memWr => {}
    | .memWrPtl => {}
    | .amoAdd => {}
    | .amoSwp => {}
    | .amoCas => {}
    | .amoMax => {}
    | .amoMaxU => {}
    | .recall => {}
    | .memRdData =>
      if ownsIt dr r then dr
      else
        let d := downgraded t dr name
        if d.empty && excl && s.bit Reg.HOME_CTL 0 then heRec (reqLd r) else hsRec d (reqPort r)
    | .memRdCur => if dr.ps = 3 then downgraded t { dr with hs := 0 } name else dr
    | .memClnEvct => if ownsIt dr r then {} else dr
    | .rds =>
      let d := downgraded t (dr.dropPeer (reqPeer r)) name
      if d.empty && s.bit Reg.HOME_CTL 1 then { ps := 3, peers := [reqPeer r] } else d.addPeer (reqPeer r)
    | .rdo => { ps := 3, peers := [reqPeer r] }
    | .upg => { ps := 3, peers := [reqPeer r] }
    | .rdc => if dr.ps = 3 then downgraded t { dr with hs := 0 } name else dr
    | .wbm => dr.dropPeer (reqPeer r)
    | .evc => dr.dropPeer (reqPeer r)
    | .snpi => {}
    | .fwdo => {}
    | .snps => downgraded t dr name
    | .fwds => downgraded t dr name
    | _ => dr

/-! ### Endings -/

/-- The line under which a peer knows its request: the one it named, when its page has moved on. -/
def replyLine (s : State) (r : Req) : Nat := if isLocal s r then r.line else r.a

/-- The grant of a peer's request (R364, R369, R371): DATS, DATE, DATM, GNTE, DATC, WBACK. `mod` tells that the data came
modified from a host, `after` the record that it leaves. -/
def grantPeer (s : State) (t : Txn) (d : Line) (p mod : Bool) (before after : DirRec) : State :=
  match t.req.origin with
  | .peer dev tx =>
    let r := t.req
    let line := replyLine s r
    let send (s : State) (op : Nat) : State := sendCoh s dev op tx r.tag line d p
    let told (s : State) : State := if p then raiseHome s Src.poisonDelivered line dev (reqInfo s r) else s
    match r.kind with
    | .rds =>
      if t.fwd then s
      else told (send s (if after.ps = 3 then (if mod then 0x32 else 0x31) else 0x30))
    | .rdo => if t.fwd then s else told (send s (if mod then 0x32 else 0x31))
    | .upg =>
      if t.fwd then s
      else if (before.peers.contains dev || (decide (before.ps = 2) && before.gvec.testBit (dev / 32))) && decide (before.ps ≠ 3) then
        sendCoh s dev 0x33 tx r.tag line 0 false
      else told (send s (if mod then 0x32 else 0x31))
    | .rdc => send s 0x34
    | .wbm => sendCoh s dev 0x38 tx r.tag line 0 false
    | .evc => sendCoh s dev 0x38 tx r.tag line 0 false
    | _ => s
  | _ => s

/-- The answer of a request: to a host, a core or a peer. `d` is the data of a read, or what an atomic read. -/
def giveAnswer (s : State) (t : Txn) (d : Line) (p mod : Bool) (before after : DirRec) : State :=
  let r := t.req
  match r.origin with
  | .host ld mtag =>
    let holder := decide (r.kind = .memRdInv ∨ r.kind = .memRdData) && !r.hdmh
    let s := if p && holder then raiseHome s Src.poisonDelivered r.line r.dev (reqInfo s r) else s
    answerHost s r ld mtag t.req.load d p
  | .core n rd =>
    if isAmo r.kind then
      if p then reqTrap r s n.val 8 (r.dev * 2 ^ 46 + r.line + r.off) else reqDone r s n.val rd (amoReturn r d)
    else s
  | .peer _ _ => grantPeer s t d p mod before after
  | .agent _ => s

/-- The key slot under which a page's stored sectors stand; slot 0 when none is enciphered. -/
def pageSlot (s : State) (page : Nat) : Nat :=
  let e := storedEntry s page
  let (loc, k) := match eState e with
    | 0 => (1024 * eCell e, 256)
    | 1 => (1024 * eCell e, 64 * runCells e)
    | 2 => (256 * eBlk e, 16 * (eNb e + 1))
    | _ => (0, 0)
  ((sectsAt s (eSet e) loc k).findSome? (fun x => x.under.map (fun y => y.slot))).getD 0

/-! ### Moves whose recall has ended (R270 to R272, R505) -/

/-- A frame of a page move. -/
def sendMove (s : State) (dest op txid tag line : Nat) (data : Line) (poison : Bool) : State :=
  launchOn s { ty := 3, dest := dest, opcode := op + 128 * b2n poison, txid := txid % 65536, tag := tag, line := line / 64
               data := data } 2 .none

/-- The lines of a page, sent as MVDATA. -/
def sendPage (s : State) (dest txid tag line : Nat) : List (Line × Bool) → State
  | [] => s
  | (d, p) :: r => sendPage (sendMove s dest 4 txid tag line d p) dest txid tag (line + 64) r

/-- The 64 lines of a page as an operation on the whole page reads them under a slot (R294, R307). -/
def pageNow (s : State) (page slot : Nat) (bad : List Nat) : State × List (Line × Bool) :=
  if !pageGood s page then (s, lostPage) else pageTwice s (storedEntry s page) page slot bad

def putMove (s : State) (m : Move) : State :=
  { s with tier := { s.tier with moves := s.tier.moves.map (fun x => if x.id = m.id then m else x) } }

/-- A coded heap page: a heap crystallizer decodes it (R307, R309). -/
def codedPage (s : State) (page : Nat) : Bool :=
  let e := storedEntry s page
  pageGood s page && decide (eState e = Ent.t2 ∧ eNb e < 15)

/-- The lines of a page are at hand or need no decode: a move to a peer asks it, a move from a peer fetches the page, another
copies. -/
def moveGo (s : State) (m : Move) : State :=
  let ph := if m.tgt = 3 then 4 else if eState m.old = Ent.tr then 6 else 1
  let s := putMove s { m with phase := ph, since := s.clock }
  if ph = 4 then sendMove s m.dev 1 m.id m.tag (m.ppage * 4096) 0 false
  else if ph = 6 then sendMove s (eDev m.old) 6 m.id m.tag (ePpage m.old * 4096) 0 false
  else s

/-- The recall of a move's page has ended. What came back may have changed the entry, which is the one before the move (R128). -/
def moveRecalled (s : State) (m : Move) : State :=
  let m := { m with old := storedEntry s m.page }
  if codedPage s m.page then putMove s { m with phase := 2, since := s.clock } else moveGo s m

/-- A page fetched by a peer is sent once its lines have been recalled, and a heap page decoded. -/
def peerRecalled (s : State) (x : PeerMove) : State :=
  if codedPage s x.page then s
  else
    let (s, ls) := pageNow s x.page x.key []
    sendPage s x.dev x.mid x.tag 0 ls

def recallEnds (s : State) (t : Txn) : State :=
  if t.req.kind = .move then
    match s.tier.moves.find? (fun m => decide (m.id = t.req.id ∧ m.phase = 0)) with
    | some m => moveRecalled s m
    | .none =>
      match s.tier.peerMoves.find? (fun x => decide (x.sending ∧ x.rid = t.req.id)) with
      | some x => peerRecalled s x
      | .none => s
  else s

/-- A snoop or forward of another device's home, as a request of this device's pool cache. -/
def snoopReq (f : Frame) (kind : ReqKind) (id cset : Nat) : Req :=
  { id := id, cset := cset, origin := .peer f.src f.txid, kind := kind, dev := f.src, line := f.line * 64, tag := f.tag, slot := .none
    sluice := 0, data := f.data, mask := 0, poison := false, hdmh := false, off := 0, wide := false
    a := f.data.toNat % 1024, b := f.data.toNat / 65536 % 65536 }

def snoopKind (op : Nat) : ReqKind :=
  match op % 128 with
  | 0x10 => .snpi
  | 0x11 => .snps
  | 0x12 => .fwds
  | _ => .fwdo

/-- A snoop opens its own transaction, or is answered from a writeback in flight (R362, R374, R375). -/
def openSnoop (s : State) (f : Frame) (n : Nat) : State :=
  underSet s n (fun s =>
  match s.coh.wb.find? (fun w => decide (w.dev = f.src ∧ w.line = f.line * 64)) with
  | some w =>
    sendCoh s f.src 0x23 f.txid f.tag (f.line * 64) (BitVec.ofNat 512 (w.txid % 65536 + 65536 * b2n w.wbm)) false
  | .none =>
    let (s, id) := takeId s
    let t : Txn := { req := snoopReq f (snoopKind f.opcode) id n, since := s.clock }
    let (s, t) := recallLine s t t.req.line
    putTxns s (s.coh.txns ++ [t]))

def openSnoops (s : State) : List (Frame × Nat) → State
  | [] => s
  | (f, n) :: r => openSnoops (openSnoop s f n) r

/-- A transaction closes; the snoops that it held are served against the state it left (R363). -/
def closeTxn (s : State) (t : Txn) : State := openSnoops (dropTxn (recallEnds s t) t.req.id) t.held

/-- A request ends with its record and its answer. -/
def finish (s : State) (t : Txn) (d : Line) (p mod : Bool) : State :=
  let r := t.req
  let before := recOf s r
  if isLocal s r then
    let after := if isPageOp r.kind then before else afterRec s t before true
    let s := if isPageOp r.kind || r.hdmh then s else putDir s r.line after
    closeTxn (giveAnswer s t d p mod before after) t
  else
    let x := pcGet s r.dev r.line
    if isPeerReq r.kind then
      let before := dirOf s r.a
      let after := afterRec s t before true
      closeTxn (giveAnswer (putDir s r.a after) t d p mod before after) t
    else
      let after := afterRec s t before (decide (2 ≤ x.pstate))
      let s := if x.pstate = 0 then s else pcPut s r.dev r.line (x.withRec after)
      closeTxn (giveAnswer s t d p mod before after) t

/-- A refused or unservable request (R327, R719, R309): a read returns poison, a write completes without storing, and no
holder changes. -/
def refuseReq (s : State) (t : Txn) : State :=
  let s := match t.req.origin with
    | .peer _ _ => grantPeer s t 0 true false {} {}
    | _ => giveAnswer s t 0 true false {} {}
  closeTxn s t

/-! ### Reading a local line -/

/-- What a read of a line finds at once (R92, R246, R248), or the bursts to read, or the whole page to decode. -/
inductive LineSource where
  | now (d : Line) (poison : Bool)
  | bursts (keys : List Nat)
  | heap
  deriving DecidableEq, Repr

/-- A page of the page buffer that serves a slot (R330). -/
def bufferOf (s : State) (page slot : Nat) : Option HeapBuf :=
  (smGet [] s.tier.bufs (homeSlice (page * 4096))).find? (fun b =>
    decide (b.page = page ∧ b.slot = slot ∧ b.gen = genOf s slot))

def sourceOf (s : State) (line slot : Nat) : LineSource :=
  let page := pageOf line
  let i := lineIdx line
  let e := storedEntry s page
  let codes := codesOf s page
  match eState e with
  | 0 => .bursts (readKeys s (eSet e) (lineLoc e codes i))
  | 1 =>
    if codeAt codes i = 0 then .now 0 false
    else if codeAt codes i = 5 then .now 0 true
    else .bursts ((lineLocs e codes i).flatMap (readKeys s (eSet e))).eraseDups
  | 2 =>
    if eNb e = 15 then .bursts (readKeys s (eSet e) (lineLoc e codes i))
    else match bufferOf s page slot with
      | some b => let x := b.lines.getD i (0, true); .now x.1 x.2
      | .none => .heap
  | _ => .now 0 false

def reqSlot (r : Req) : Nat := r.slot.getD 0

/-- A decode that a read of its page may join: of the same entry under the same slot, and not admitted before a write or an entry
change (R308). -/
def decodeOf (s : State) (t : Txn) : Bool :=
  let page := pageOf t.req.line
  s.tier.jobs.any (fun j => decide (j.kind = 0 ∧ j.page = page ∧ j.slot = reqSlot t.req ∧ j.seen = storedEntry s page) && !j.drop)

/-- A heap decode that serves a read: one that runs or waits for the page and its slot (R308), or a new one. -/
def joinDecode (s : State) (t : Txn) : State :=
  let page := pageOf t.req.line
  let q := homeSlice t.req.line
  let e := storedEntry s page
  let s := putTxn s { t with phase := .heap, seen := e }
  if decodeOf s t then s
  else { s with tier := { s.tier with jobs := s.tier.jobs ++
    [({ quad := q, kind := 0, page := page, txn := t.req.id, slot := reqSlot t.req, seen := e, cset := t.req.cset } : HeapJob)] } }

/-- A write of a whole line. -/
def wholeWrite (r : Req) : Bool :=
  decide (r.kind = .memWr ∨ r.kind = .wbm) || (decide (r.kind = .memWrPtl) && decide (r.mask = 2 ^ 64 - 1))

/-- Another holder has the line exclusive, so that modified data may come first. -/
def exclElsewhere (s : State) (r : Req) : Bool :=
  let dr := dirOf s r.line
  let pl := recallPlan s dr r
  (decide (dr.hs = 2) && decide (pl.hvec ≠ 0)) || (decide (dr.ps = 3) && decide (pl.peers ≠ []))

/-- The request may change the shape of its page, and so holds it from its admission (R94, R265). A partial write or an atomic to a
T1 or TZ page is known not to change it only once its line has been read (DESIGN CHOICE, log entry 205). -/
def mayReshape (s : State) (r : Req) : Bool :=
  let page := pageOf r.line
  let now : Bool := changesShape (shapeOf s r.line r.data r.poison (reqCheck r))
  isLocal s r && pageGood s page && (isWrite r.kind || isAmo r.kind) &&
    (match eState (storedEntry s page) with
      | 1 => if wholeWrite r then now || exclElsewhere s r else true
      | 2 => true
      | 4 => if wholeWrite r then now || exclElsewhere s r else true
      | 5 => true
      | _ => false)

/-- A store begins (phase `page` with `wdata`): the page is held when its shape changes (R265). A page that has moved to a
peer takes the line there (R36). -/
def beginStore (s : State) (t : Txn) (line : Nat) (d : Line) (p : Bool) (slot lc : Nat) (fin : Bool) : State :=
  let x := shapeOf s line d p lc
  let s := if x = .t2 ∨ eState (storedEntry s (pageOf line)) = Ent.t2 then dropBuffer s (pageOf line) else s
  let s := if x = .tu then writeBlock s (pageOf line) else s
  putTxn s { t with wdata := some (line, d, p, slot, lc), final := fin, phase := .page
                    hold := (t.hold && !fin) || changesShape x }

/-- The data of a read has come: it is the answer, or an atomic or a partial write goes on to store (R146, R393). -/
def gotData (s : State) (t : Txn) (d : Line) (p mod : Bool) : State :=
  let r := t.req
  if isAmo r.kind then
    if p then finish s t d true false
    else match amoNew r (amoOld r d) with
      | .none => finish s t d false false
      | some v =>
        let n := amoPut r d v
        beginStore s { t with ans := some (d, false) } r.line n false (reqSlot r) (lineCheck n) true
  else if r.kind = .memWrPtl then
    let n := maskPut r.mask d r.data
    beginStore s { t with ans := some (0, false) } r.line n (r.poison || p) (reqSlot r) (lineCheck n) true
  else finish s t d p mod

/-- A local read begins. -/
def readBegin (s : State) (t : Txn) : State :=
  let r := t.req
  let e := storedEntry s (pageOf r.line)
  match sourceOf s r.line (reqSlot r) with
  | .now d p =>
    let s := if 4 ≤ eState e then tick s (bTmu (homeSlice r.line)) 7 1 else s
    let s := if eState e = 2 then tick s (bHc (homeSlice r.line)) 5 1 else s
    gotData s t d p false
  | .heap =>
    if (jobsOf s (homeSlice r.line)).length < 16 ∨ decodeOf s t then joinDecode s t
    else putTxn (tick s (bHc (homeSlice r.line)) 7 1) { t with phase := .page, final := true }
  | .bursts ks =>
    awaitReads s { t with seen := e, seenCodes := codesOf s (pageOf r.line) } .dram ks

/-! ### Pool cache: service of a remote line (R359 to R363, R373) -/

/-- A write makes the line M and sets WTAG (R360). -/
def pcWrite (s : State) (r : Req) (d : Line) (p : Bool) : State :=
  let x := pcGet s r.dev r.line
  pcPut s r.dev r.line { x with pstate := 3, data := d, pois := p, wtag := r.tag, lc := madeCheck d }

/-- The answers of a snoop or forward, by the line found (R362, R369). -/
def serveSnoop (s : State) (t : Txn) : State :=
  let r := t.req
  let (home, tx) := match r.origin with | .peer d x => (d, x) | _ => (0, 0)
  let x := pcGet s r.dev r.line
  let q := homeSlice r.line
  let tell (s : State) (op : Nat) (dat : Bool) : State :=
    sendCoh s home op tx (if dat then x.wtag else r.tag) r.line (if dat then x.data else 0) (dat && launchPoison x.data x.pois x.lc)
  let give (s : State) (op : Nat) : State :=
    let s := if launchPoison x.data x.pois x.lc then raiseHome s Src.poisonDelivered r.line r.dev (reqInfo s r) else s
    sendCoh s r.a op r.b r.tag r.line x.data (launchPoison x.data x.pois x.lc)
  let gone (s : State) : State := pcPut s r.dev r.line {}
  let shared (s : State) : State := pcPut s r.dev r.line ({ x with pstate := 1 }.withRec (afterRec s t (pcRec s x) false))
  let s := if r.kind = .snpi ∨ r.kind = .snps then tick s (bPool q) 6 1 else tick s (bPool q) 7 1
  let s :=
    if x.pstate = 0 then tell s 0x20 false
    else match r.kind with
      | .snpi => gone (if x.pstate = 3 then tell s 0x22 true else tell s 0x20 false)
      | .snps => shared (if x.pstate = 3 then tell s 0x22 true else tell s 0x21 false)
      | .fwds => shared (if x.pstate = 3 then tell (give s 0x30) 0x25 true else tell (give s 0x30) 0x24 false)
      | _ => gone (tell (give s (if x.pstate = 3 then 0x32 else 0x31)) 0x24 false)
  closeTxn s t

/-- An evicted line leaves the pool cache: WBM or EVC to its home, unless its home is out of the pool (R361, R377). -/
def evict (s : State) (t : Txn) : State :=
  let r := t.req
  let x := pcGet s r.dev r.line
  let q := homeSlice r.line
  let s := pcPut s r.dev r.line {}
  let s := if isMember s r.dev && decide (x.pstate ≠ 0) then
    let wbm := decide (x.pstate = 3)
    let s := sendCoh s r.dev (if wbm then 5 else 6) r.id (if wbm then x.wtag else r.tag) r.line (if wbm then x.data else 0)
      (wbm && launchPoison x.data x.pois x.lc)
    let s := { s with coh := { s.coh with wb := s.coh.wb ++
      [({ dev := r.dev, line := r.line, txid := r.id % 65536, wbm := wbm, quad := q } : WbFlight)] } }
    tick s (bPool q) (if wbm then 4 else 5) 1
  else s
  closeTxn s t

/-- A remote request whose grant, if it needed one, has come and whose local holders are recalled. -/
def serveRemote (s : State) (t : Txn) : State :=
  let r := t.req
  let x := pcGet s r.dev r.line
  let (d, p) := match t.ans with
    | some a => if x.pstate = 0 then a else (x.data, x.pois)
    | .none => (x.data, x.pois)
  if isSnoop r.kind then serveSnoop s t
  else if r.kind = .recall then evict s t
  else if isAmo r.kind then
    if p then finish s t d true false
    else match amoNew r (amoOld r d) with
      | .none => finish s t d false false
      | some v => finish (pcWrite s r (amoPut r d v) false) t d false false
  else match r.kind with
    | .memWr => finish (pcWrite s r r.data r.poison) t 0 false false
    | .wbm => finish (pcWrite s r r.data r.poison) t 0 false false
    | .memWrPtl =>
      let full := decide (r.mask = 2 ^ 64 - 1)
      finish (pcWrite s r (maskPut r.mask d r.data) (r.poison || (p && !full))) t 0 false false
    | _ => finish s t d p false

/-! ### After the recalls -/

def needsData (t : Txn) : Bool :=
  match t.req.kind with
  | .memRdInv => true
  | .memRdData => true
  | .memRdCur => true
  | .memSpecRd => true
  | .rds => true
  | .rdo => true
  | .upg => true
  | .rdc => true
  | .memWrPtl => decide (t.req.mask ≠ 2 ^ 64 - 1)
  | k => isAmo k

/-- An UPG from a device that is still a shared holder needs no data (R364). -/
def upgStill (s : State) (r : Req) : Bool :=
  let dr := recOf s r
  decide (r.kind = .upg ∧ dr.ps ≠ 3) &&
    (dr.peers.contains (reqPeer r) || (decide (dr.ps = 2) && dr.gvec.testBit (reqPeer r / 32)))

/-- PZERO's effect (R123, R124): the page becomes TZ and keeps SET and OWN. -/
def zeroPageEntry (s : State) (page : Nat) : State :=
  let s := writeBlock s page
  let e := storedEntry s page
  endLost (setEntry s page (mkEnt Ent.tz (eOwn e) (eSet e) 0)) page

def dropPageRecords (s : State) (page : Nat) : List Nat → State
  | [] => s
  | l :: r => dropPageRecords (putDir s l {}) page r

/-- PZERO has recalled its page: it discards what came (R123). -/
def endPzero (s : State) (t : Txn) : State :=
  let page := pageOf t.req.line
  let old := storedEntry s page
  let s := zeroPageEntry (dropPageRecords s page (pageHeld s page)) page
  let s := match t.req.origin with
    | .core n rd => reqDone t.req s n.val rd old
    | _ => s
  closeTxn s t

/-- No holder is awaited and nothing that came is left to store. -/
def recalled (s : State) (t : Txn) : State :=
  let r := t.req
  if !isLocal s r then serveRemote s t
  else if r.kind = .pzero then endPzero s t
  else if r.kind = .move then closeTxn (dropPageRecords s (pageOf r.line) (pageHeld s (pageOf r.line))) t
  else if r.kind = .memWr ∨ r.kind = .wbm ∨ (r.kind = .memWrPtl ∧ r.mask = 2 ^ 64 - 1) then
    match t.ans with
    | some _ => finish s t 0 false false
    | .none => beginStore s t r.line r.data r.poison (r.slot.getD (pageSlot s (pageOf r.line))) (reqCheck r) true
  else if !needsData t || t.fwd || upgStill s r then finish s t 0 false false
  else match t.ans, t.cur with
    | some (d, p), _ => finish s t d p false
    | .none, some (d, p) => gotData s t d p (decide ((recOf s r).hs = 2))
    | .none, .none => readBegin s t

/-! ### Stores going on -/

/-- Completions owed for host writes taken as a recall's writeback (R355). -/
def payOwed (s : State) (load line : Nat) : List (Nat × Nat × Nat) → State
  | [] => s
  | (l, ld, mtag) :: r => payOwed (if l = line then s.emit (.memDone ld mtag load) else s) load line r

/-- A store has ended: the request ends, or goes on with its recalls. -/
def storeDone (s : State) (t : Txn) : State :=
  match t.wdata with
  | .none => putTxn s { t with phase := .recall }
  | some (line, d, p, _, _) =>
    let s := if t.hold then { s with tier := { s.tier with ended := s.tier.ended ++ [pageOf line] } } else s
    let t := { t with wdata := .none, bursts := [], reads := [], entry := .none, codes := .none, release := [], rf := false }
    if t.final then
      let (a, b) := t.ans.getD (0, false)
      finish s t a b false
    else
      let s := payOwed s t.req.load line t.owed
      let t := { t with
        owed := t.owed.filter (fun x => decide (x.1 ≠ line)), phase := .recall
        hold := decide (t.req.kind = .pzero) || (t.hold && mayReshape s t.req)
        cur := if line = t.req.line ∧ t.req.kind ≠ .move then some (d, p) else t.cur }
      putTxn s t

/-- The bursts of a store have been accepted: its entry and its codes take effect (R261), and its old runs go to the
release rings (R254, R255). -/
def storeAccepted (s : State) (t : Txn) : State :=
  let s := match t.entry with | some (page, e) => setEntry s page e | .none => s
  let s := match t.codes with | some (page, c) => setCodes s page c | .none => s
  match pushAll s t.release with
  | (s, []) => storeDone s t
  | (s, r :: rs) =>
    putTxn (raiseWait s r (pageOf t.req.line)) { t with phase := .ring, release := r :: rs, entry := .none, codes := .none }

/-- A T2 write that its heap crystallizer cannot take completes without storing (R309). -/
def heapUnavailable (s : State) (line : Nat) : State :=
  raiseCry s Src.heapUnavailable (8 + homeSlice line) line {}

/-- The store of a transaction passes its gate. -/
def storeGo (s : State) (t : Txn) (line : Nat) (d : Line) (p : Bool) (slot lc : Nat) : State :=
  let x := shapeOf s line d p lc
  let t := { t with rf := wantsRf s (pageOf line) x }
  match x with
  | .t2 =>
    if !readyHc s (homeSlice line) then storeDone (heapUnavailable s line) t
    else
      putTxn { s with tier := { s.tier with jobs := s.tier.jobs ++
          [({ quad := homeSlice line, kind := 2, page := pageOf line, txn := t.req.id, slot := slot
              seen := storedEntry s (pageOf line), cset := t.req.cset } : HeapJob)] } }
        { t with phase := .heap }
  | .gone =>
    let e := storedEntry s (pageOf line)
    if pageGood s (pageOf line) && decide (eState e = Ent.tr) then
      let (s, id) := takeId s
      let r : Req := { t.req with
        id := id, origin := .agent 5, kind := .memWr, dev := eDev e, line := ePpage e * 4096 + line % 4096
        data := d, poison := p, hdmh := false, lc := some (BitVec.ofNat 32 lc) }
      storeDone { s with coh := { s.coh with chain := s.coh.chain ++ [r] } } t
    else storeDone (raiseTier s Src.malformedEntry (pageOf line * 4096) (reqInfo s t.req)) t
  | _ =>
    match storeReads s line slot d p lc with
    | [] =>
      let (s, pl) := planStore s line slot d p lc []
      takePlan s t pl
    | ks => awaitReads s t .merge ks

/-- What came from a holder ends without a store: its completion is given. -/
def dropGot (s : State) (t : Txn) (line : Nat) : State :=
  putTxn (payOwed s t.req.load line t.owed) { t with owed := t.owed.filter (fun x => decide (x.1 ≠ line)) }

/-- What came from a holder is stored, or for PZERO discarded (R123); in a pool cache it makes the line M. A line whose slot is not
selected or EMPTY is not stored (R327); a poison marking needs no key. -/
def drainGot (s : State) (t : Txn) : State :=
  match t.got with
  | [] => s
  | (line, d, p, slot, tag) :: r =>
    let t := { t with got := r }
    if t.req.kind = .pzero ∨ !isLocal s t.req then
      let s := if isLocal s t.req then s
        else
          let x := pcGet s t.req.dev line
          if x.pstate = 0 then s
            else pcPut s t.req.dev line { x with pstate := 3, data := d, pois := p, wtag := tag, lc := madeCheck d }
      dropGot s t line
    else match slot, p with
      | .none, false => dropGot (keyRefused s Src.noKeySelection 0 line (reqInfo s t.req)) t line
      | some k, false =>
        if keyLoaded s k then beginStore s t line d p k (lineCheck d) false
        else dropGot (keyRefused s Src.keyEmpty k line (reqInfo s t.req)) t line
      | k, true => beginStore s t line d true (k.getD (pageSlot s (pageOf line))) (lineCheck d) false

/-! ### What makes a transaction go on -/

def nothingAwaited (t : Txn) : Bool := decide (t.bi = [] ∧ t.peers = [] ∧ t.wbWait = [])

/-- A page operation may begin: the requests to the page admitted before it have left (R120). -/
def pageGate (s : State) (t : Txn) : Bool :=
  let page := pageOf t.req.line
  (before s.coh.txns t.req.id).all (fun u => !samePage s u page) &&
    s.coh.txns.all (fun u => decide (u.req.id = t.req.id) || !samePage s u page || decide (u.phase = .page))

/-- A page operation begins: the holders of its lines are recalled (R123, R270). -/
def pageGo (s : State) (t : Txn) : State :=
  let (s, t) := recallLines s { t with phase := .recall } (pageHeld s (pageOf t.req.line))
  putTxn s t

/-- The transaction can go on by itself. -/
def ready (s : State) (t : Txn) : Bool :=
  match t.phase with
  | .recall => decide (t.got ≠ []) || nothingAwaited t
  | .page =>
    match t.wdata with
    | some (line, d, p, _, lc) => storeGate s t line d p lc
    | .none =>
      if t.final then decide ((jobsOf s (homeSlice t.req.line)).length < 16) || decide (sourceOf s t.req.line (reqSlot t.req) ≠ .heap)
      else pageGate s t && !(decide (t.req.kind = .move) && holding s)
  | .wq => decide (t.bursts = [])
  | _ => false

def advanceNow (s : State) (t : Txn) : State :=
  match t.phase with
  | .recall => if t.got ≠ [] then drainGot s t else recalled s t
  | .page =>
    match t.wdata with
    | some (line, d, p, slot, lc) => storeGo s t line d p slot lc
    | .none => if t.final then readBegin s { t with final := false } else pageGo s t
  | .wq => storeAccepted s t
  | _ => s

/-- A transaction goes on under the configuration set in force at its admission (R188). -/
def advance (s : State) (t : Txn) : State := underSet s t.req.cset (fun s => advanceNow s t)

end Sys2Proof.Machine
end

