-- ==== Sys2Proof/Machine/Flow.lean ====
section
/-! DEFINITION. Requests on their way (spec/06 R207 to R211; spec/10 R341 to R352; spec/12 R420 to R431): ingress checks,
admission into the lanes of the home slices, the wait buffers, the opening of transactions. -/

namespace Sys2Proof.Machine

/-! ### What a request waits for (R264, R342, R352) -/

def heldPage (s : State) (page : Nat) : Bool :=
  s.coh.txns.any (fun t => t.hold && samePage s t page) || s.tier.peerMoves.any (fun m => decide (m.page = page)) ||
    s.tier.ended.contains page || s.tier.ringWait.any (fun w => decide (w.2.2.2.2 = page))

/-- The line has an open transaction, or is one that a page operation recalls (R342). -/
def lineOpen (s : State) (dev line : Nat) : Bool :=
  s.coh.txns.any (fun t =>
    if isPageOp t.req.kind then
      decide (dev = s.devId ∧ t.req.dev = dev) &&
        ((t.bi ++ t.peers ++ t.wbWait).any (fun x => decide (x.1 = line)) || t.got.any (fun x => decide (x.1 = line)) ||
          (match t.wdata with | some w => decide (w.1 = line) | .none => false))
    else decide (t.req.dev = dev ∧ t.req.line = line))

/-- A request that is not a page operation and works on a line. -/
def lineReq (k : ReqKind) : Bool := !isPageOp k

/-- Writes and atomics of a moving page are held (R270). -/
def heldByMove (s : State) (r : Req) : Bool :=
  isLocal s r && (isWrite r.kind || isAmo r.kind) && moving s (pageOf r.line)

/-- The recall of a move's page, which its own hold or MV lets pass. -/
def agentMove (r : Req) : Bool :=
  decide (r.kind = .move) && (match r.origin with | .agent _ => true | _ => false)

/-- A TMW or a PZERO waits for the end of the clock of its admission, so that a hardware change of that clock goes first (R120). -/
def laterInClock (s : State) (r : Req) : Bool := decide ((r.kind = .tmw ∨ r.kind = .pzero) ∧ r.at_ = s.clock) && !s.closing

/-- DQRY never waits for what is open (R132). -/
def blocked (s : State) (r : Req) : Bool :=
  decide (r.kind ≠ .dqry) && ((isLocal s r && heldPage s (pageOf r.line) && decide (r.kind ≠ .recall) && !agentMove r) || heldByMove s r || laterInClock s r ||
    (lineReq r.kind && lineOpen s r.dev r.line) ||
    (!isLocal s r && s.coh.wb.any (fun w => decide (w.dev = r.dev ∧ w.line = r.line))))

/-! ### Ways (R347, R349 to R352, R361) -/

/-- The request leaves a holder recorded in the directory. -/
def leavesHolder (r : Req) : Bool :=
  !r.hdmh && (match r.kind with
    | .memRdInv => true
    | .memRdData => true
    | .memInv => true
    | .rds => true
    | .rdo => true
    | .upg => true
    | _ => false)

/-- What the pool cache needs of a remote line (R360): 0 nothing, 1 S, 2 E or M, 3 current data. -/
def pcNeed (r : Req) : Nat :=
  match r.kind with
  | .memRdInv => if r.hdmh then 1 else 2
  | .memRdData => 1
  | .memRdCur => if r.hdmh then 1 else 3
  | .memInv => if r.hdmh then 0 else 2
  | .memWr => 2
  | .memWrPtl => 2
  | .wbm => 2
  | .rds => 1
  | .rdo => 2
  | .upg => 2
  | .rdc => 3
  | k => if isAmo k then 2 else 0

def fills (r : Req) : Bool := decide (pcNeed r = 1 ∨ pcNeed r = 2)

/-- Open transactions that will take a way that their line does not have yet. -/
def reservedWays (s : State) (loc : Bool) (x : Nat × Nat) : Nat :=
  (s.coh.txns.filter (fun t =>
    if loc then isLocal s t.req && leavesHolder t.req && decide (dirSet t.req.line = x ∧ dirWord s t.req.line = 0)
    else !isLocal s t.req && fills t.req && decide (pcSet t.req.line = x ∧ (pcGet s t.req.dev t.req.line).pstate = 0))).length

/-- The lines that hold ways of a request's set. -/
def wayLines (s : State) (r : Req) : List (Nat × Nat) :=
  if isLocal s r then (s.coh.dir.filter (fun e => decide (dirSet e.1 = dirSet r.line))).map (fun e => (s.devId, e.1))
  else pcLinesIn s (pcSet r.line)

def needsWay (s : State) (r : Req) : Bool :=
  if isLocal s r then leavesHolder r && decide (dirWord s r.line = 0)
  else fills r && decide ((pcGet s r.dev r.line).pstate = 0)

/-- All 16 ways of the set are taken. -/
def setFull (s : State) (r : Req) : Bool :=
  needsWay s r &&
    decide (16 ≤ (wayLines s r).length +
      reservedWays s (isLocal s r) (if isLocal s r then dirSet r.line else pcSet r.line))

/-- A recall of a victim of the set runs. -/
def recalling (s : State) (r : Req) : Bool :=
  (wayLines s r).any (fun l => s.coh.txns.any (fun t => decide (t.req.kind = .recall ∧ t.req.dev = l.1 ∧ t.req.line = l.2)))

/-- The victim of a set: pseudo-LRU among the unpinned ways; in a pool cache ways with HI first (R350, R361). -/
def victimOf (s : State) (r : Req) : Option (Nat × Nat) :=
  let free := (wayLines s r).filter (fun l => !lineOpen s l.1 l.2)
  let hi := free.filter (fun l => !isLocal s r && decide ((pcGet s l.1 l.2).hstate = 0))
  let cands := if hi = [] then free else hi
  cands[Config.lru s.fresh cands.length % max 1 cands.length]?

/-! ### Opening a transaction -/

def mkInternal (s : State) (id : Nat) (k : ReqKind) (agent dev line : Nat) : Req :=
  { id := id, origin := .agent agent, kind := k, dev := dev, line := line, tag := 0, slot := .none, sluice := 252, cset := s.sets.swaps
    data := 0, mask := 0, poison := false, hdmh := false, off := 0, wide := false, a := 0, b := s.fresh }

/-- The recall of a victim line opens (R351, R361). -/
def openRecall (s : State) (l : Nat × Nat) : State :=
  let (s, id) := takeId s.draw
  let t : Txn := { req := mkInternal s id .recall 5 l.1 l.2, since := s.clock }
  let (s, t) := recallLine s t l.2
  putTxns s (s.coh.txns ++ [t])

/-- A request of a page in TR goes on to the peer (R36). -/
def retarget (s : State) (r : Req) : Req :=
  if isLocal s r && !isPageOp r.kind && decide (r.kind ≠ .recall ∧ r.kind ≠ .evc) && pageGood s (pageOf r.line) then
    let e := storedEntry s (pageOf r.line)
    if eState e = Ent.tr then
      { r with dev := eDev e, line := ePpage e * 4096 + r.line % 4096, a := if isPeerReq r.kind then r.line else r.a }
    else r
  else r

def openTxn (s : State) (t : Txn) : State := putTxns s (s.coh.txns ++ [t])

/-- The refusal that key selection gives a request (R327), with its source. -/
def keyRefusal (s : State) (r : Req) : Option (Nat × Nat) :=
  let asks := match r.origin with
    | .host _ _ => true
    | .core _ _ => isAmo r.kind || decide (r.kind = .pprobe)
    | .peer _ _ => decide (r.kind ≠ .evc) && !isSnoop r.kind
    | .agent _ => false
  if !asks then .none
  else match r.slot with
    | .none => some (Src.noKeySelection, 0)
    | some k => if keyLoaded s k then .none else some (Src.keyEmpty, k)

/-- A request that is refused ends at once; that of a peer goes on with poison, so that its holders stay right. -/
def refuseOpen (s : State) (t : Txn) : State :=
  match t.req.origin with
  | .peer _ _ =>
    let t := { t with ans := some (0, true) }
    let (s, t) := recallLine s t t.req.line
    openTxn s t
  | .core n rd =>
    if isAmo t.req.kind then reqTrap t.req s n.val 8 (t.req.dev * 2 ^ 46 + t.req.line + t.req.off)
    else reqDone t.req s n.val rd (BitVec.allOnes 64)
  | _ => refuseReq s t

/-- An atomic refused by key selection completes without storing (R327); what rd receives the spec does not say. -/
def refuseKey (s : State) (t : Txn) (src slot : Nat) : State :=
  let s := keyRefused s src slot t.req.line (reqInfo s t.req)
  match t.req.origin with
  | .core n rd =>
    if isAmo t.req.kind then
      reqDone t.req s.draw n.val rd (BitVec.ofNat 64 (Config.freeNat s.fresh))
    else reqDone t.req s n.val rd (BitVec.ofNat 64 (2 ^ 63))
  | _ => refuseOpen s t

/-! ### Page operations of cores (R118 to R124, R130 to R132, R719, R242) -/

def allOnes : DWord := BitVec.allOnes 64

/-- A page operand cannot be served; the TMU raises "malformed entry" when it names a page (R719). -/
def pageRefused (s : State) (r : Req) : Bool :=
  decide (2 ^ 46 ≤ r.line) || (mapSetOf s (pageOf r.line)).isNone || !pageServable s (pageOf r.line) || mapUnread s (pageOf r.line)

/-- Its source: a page that could be served but for its read from the map region gives that read's. -/
def raiseUnserved (s : State) (r : Req) : State :=
  let src := if pageServable s (pageOf r.line) && mapUnread s (pageOf r.line) then Src.mapUnread else Src.malformedEntry
  if r.line < 2 ^ 46 then raiseTier s src (pageOf r.line * 4096) (reqInfo s r) else s

/-- The pairs (found, written) that TMW may write (R242). -/
def tmwAllowed (s : State) (old new : DWord) : Bool :=
  let tzu (e : DWord) : Bool := decide (eState e = Ent.tz ∨ eState e = Ent.tu)
  !malformed s new && !eMv new &&
    (decide (setFld old 59 56 0 = setFld new 59 56 0) ||
      (tzu old && tzu new && !eMv old) || decide (eState old = Ent.tr ∧ eState new = Ent.tr))

/-- TMW (R122, R124). `b` of the request is rd, `a` is rs2. -/
def tmw (s : State) (r : Req) : State × DWord :=
  let page := pageOf r.line
  let want : DWord := BitVec.ofNat 64 r.b
  let new : DWord := BitVec.ofNat 64 r.a
  if pageRefused s r then (raiseUnserved s r, allOnes)
  else if moving s page || !tmwAllowed s want new then (s, allOnes)
  else
    let old := storedEntry s page
    if old = want then (setEntry (writeBlock s page) page new, old) else (s, old)

/-- A crystallizer that PPROBE needs is not READY (R130). -/
def probeUnready (s : State) (page : Nat) : Bool :=
  let q := homeSlice (page * 4096)
  let e := storedEntry s page
  !readyHc s q || (quadsOf s (eSet e)).any (fun g => !readyGc s (2 * g) && !readyGc s (2 * g + 1))

/-- The fields of a probe's result, for the page as admitted (R310). -/
def probeResult (s : State) (ls : List (Line × Bool)) : DWord :=
  let z := (ls.filter (fun x => decide (x = ((0 : Line), false)))).length
  let g := (ls.map (fun x => if x.2 then 0 else codeSectors (grainOf s x.1).1)).foldl (· + ·) 0
  let h := if zeroPage ls then 0 else (heapForm s ls false).2
  BitVec.ofNat 64 (z * 2 ^ 17 + h * 2 ^ 12 + ceilDiv g 64 * 2 ^ 9 + g)

/-- PPROBE (R130, R131): TZ and TU at once, others by a job of the heap crystallizer, of which there is room for 16 (R309). The page's
content is taken as the home slice saw it at admission. -/
def pprobe (s : State) (t : Txn) (n : Fin 16) (rd : Fin 32) : State :=
  let r := t.req
  let page := pageOf r.line
  let err : DWord := BitVec.ofNat 64 (2 ^ 63)
  if pageRefused s r then reqDone r (raiseUnserved s r) n.val rd err
  else
    let e := storedEntry s page
    if malformed s e then reqDone r (raiseUnserved s r) n.val rd err
    else if 4 ≤ eState e && pageGood s page then reqDone r s n.val rd (BitVec.ofNat 64 (64 * 2 ^ 17))
    else if eState e = Ent.tr || probeUnready s page then reqDone r s n.val rd err
    else
      let (s, ls) := pageNow s page (reqSlot r) []
      let q := homeSlice r.line
      let s := { s with tier := { s.tier with jobs := s.tier.jobs ++
        [({ quad := q, kind := 3, page := page, txn := r.id, slot := reqSlot r, lines := ls, seen := e, cset := r.cset } : HeapJob)] } }
      openTxn s { t with phase := .heap }

/-- HOME_DQDAT takes the result of a query by register (R132). -/
def queryResult (s : State) (v : DWord) : State :=
  (s.setReg Reg.HOME_DQDATLO (BitVec.ofNat 32 v.toNat)).setReg Reg.HOME_DQDATHI (BitVec.ofNat 32 (v.toNat / 2 ^ 32))

/-- DQRY (R132). A page in no map range raises "malformed entry" (R719). -/
def dqry (s : State) (r : Req) : State × DWord :=
  if 2 ^ 46 ≤ r.line then (s, allOnes)
  else if (mapSetOf s (pageOf r.line)).isNone then (raiseTier s Src.malformedEntry (pageOf r.line * 4096) (reqInfo s r), allOnes)
  else
    let d := dirOf s r.line
    (s, if d.empty then allOnes else encodeDir d)

/-! ### PMOV (R125 to R128) -/

def pmovErr (k : Nat) : DWord := BitVec.ofNat 64 (2 ^ 63 + k)

def freeMoveSlot (s : State) (n : Nat) : Option Nat := (List.range 8).find? (fun k => !slotBusy s n k)

/-- The combinations of R126, for a source state and a TGT. -/
def moveAllowed (st tgt : Nat) : Bool :=
  decide (st ≤ 3 ∧ tgt ≤ 3 ∧ st ≠ tgt)

/-- A function that the move needs is not READY (0x06). -/
def moveUnready (s : State) (e : DWord) (page tgt : Nat) : Bool :=
  (decide (tgt = 3 ∨ eState e = Ent.tr) && !readyPool s) ||
    (decide (tgt = 2 ∨ eState e = Ent.t2) && !readyHc s (homeSlice (page * 4096)))

/-- The set that a move allocates in (R269). -/
def moveSet (s : State) (n : Nat) (e : DWord) : Nat :=
  let p := s.fld (Reg.TIER_PMSET n) 4 0
  if p = 31 then eSet e else p

/-- The destination operand: TGT, DEV, PPAGE. -/
def pmovTgt (d : DWord) : Nat := fld d 63 61
def pmovDev (d : DWord) : Nat := fld d 55 46
def pmovPpage (d : DWord) : Nat := fld d 45 12

def pmovReserved (d : DWord) : Bool :=
  decide (fld d 60 56 ≠ 0 ∨ fld d 11 0 ≠ 0) || (decide (pmovTgt d ≠ 3) && decide (pmovDev d ≠ 0 ∨ pmovPpage d ≠ 0))

/-- The error that PMOV returns, if one does, with the source that goes with it. The errors are tried in the order of their codes, but
those that leave no entry to judge, a set that is not servable or an entry that cannot be used, come before 0x03 (DESIGN CHOICE, log
entry 15). -/
def pmovError (s : State) (r : Req) (n : Nat) (d : DWord) : State × Option Nat :=
  let page := pageOf r.line
  let e := storedEntry s page
  if (freeMoveSlot s n).isNone then (s, some 1)
  else if decide (2 ^ 46 ≤ r.line) || pmovReserved d then (s, some 2)
  else if !pageInRange s page then (raiseUnserved s r, some 2)
  else if pageRefused s r || malformed s e then (raiseUnserved s r, some 6)
  else if !moveAllowed (eState e) (pmovTgt d) then (s, some 3)
  else if moving s page then (s, some 4)
  else if decide (pmovTgt d = 3) && !isMember s (pmovDev d) then (s, some 5)
  else if moveUnready s e page (pmovTgt d) then (s, some 6)
  else match r.slot with
    | .none => (keyRefused s Src.noKeySelection 0 r.line (reqInfo s r), some 6)
    | some k => if keyLoaded s k then (s, .none) else (keyRefused s Src.keyEmpty k r.line (reqInfo s r), some 6)

/-- PMOV at its home slice (R120): an error, or the move slot; then the recall of the page begins (R270). `b` of the request is the
destination operand. -/
def openPmov (s : State) (t : Txn) (n : Fin 16) (rd : Fin 32) : State :=
  let r := t.req
  let page := pageOf r.line
  let d : DWord := BitVec.ofNat 64 r.b
  match pmovError s r n.val d with
  | (s, some c) => reqDone r s n.val rd (pmovErr c)
  | (s, .none) =>
    let k := (freeMoveSlot s n.val).getD 0
    let s := dropBuffer (writeBlock s page) page
    let e := storedEntry s page
    let m : Move := { id := r.id, core := n, slot := k, page := page, tgt := pmovTgt d, dev := pmovDev d, ppage := pmovPpage d
                      old := e, set := moveSet s n.val e, tag := r.tag, key := r.slot, since := s.clock, cset := r.cset }
    let s := { s with tier := { s.tier with moves := s.tier.moves ++ [m] } }
    reqDone r (openTxn s { t with req := { r with origin := .agent 2 }, phase := .page }) n.val rd (BitVec.ofNat 64 k)

def openPageOp (s : State) (t : Txn) (n : Fin 16) (rd : Fin 32) : State :=
  let r := t.req
  match r.kind with
  | .tmr =>
    if pageRefused s r then reqDone r (raiseUnserved s r) n.val rd allOnes
    else reqDone r s n.val rd (entryOf s (pageOf r.line))
  | .tmw =>
    let (s, v) := tmw s r
    reqDone r s n.val rd v
  | .dqry =>
    let (s, v) := dqry s r
    reqDone r s n.val rd v
  | .move => openPmov s t n rd
  | .pprobe => pprobe s t n rd
  | _ =>
    if pageRefused s r then reqDone r (raiseUnserved s r) n.val rd allOnes
    else if moving s (pageOf r.line) then reqDone r s n.val rd allOnes
    else openTxn s { t with phase := .page, hold := true }

/-! ### Opening, by place -/

/-- The source of a page that cannot serve a line. -/
def raiseBadPage (s : State) (r : Req) : State :=
  let page := pageOf r.line
  let e := storedEntry s page
  if pageServable s page && mapUnread s page then raiseTier s Src.mapUnread (page * 4096) (reqInfo s r)
  else if pageServable s page && !malformed s e && s.tier.lost.contains page then s
  else if pageServable s page && !malformed s e then raiseTier s Src.sizeVector (page * 4096) (reqInfo s r)
  else raiseTier s Src.malformedEntry (page * 4096) (reqInfo s r)

/-- A request for a local line opens (R238, R240, R309, R327, R719). -/
def openLocal (s : State) (t : Txn) : State :=
  let r := t.req
  let page := pageOf r.line
  if r.kind = .recall ∨ r.kind = .evc ∨ r.kind = .memClnEvct then
    let (s, t) := recallLine s t r.line
    openTxn s t
  else if !pageGood s page then refuseOpen (raiseBadPage s r) t
  else if decide (eState (storedEntry s page) = Ent.t2) && !readyHc s (homeSlice r.line) then
    refuseOpen (heapUnavailable s r.line) t
  else
    let s := if (isWrite r.kind || isAmo r.kind) && decide (eState (storedEntry s page) = Ent.t2) then dropBuffer s page else s
    let (s, t) := recallLine s { t with hold := mayReshape s r } r.line
    openTxn s t

/-- A request for a remote line opens: it asks the home for what the pool cache lacks (R360), or is served. -/
def openRemote (s : State) (t : Txn) : State :=
  let r := t.req
  let x := pcGet s r.dev r.line
  let q := homeSlice r.line
  if !isMember s r.dev ∨ !inPool s then
    match r.origin with
    | .core n _ => if isAmo r.kind then reqTrap r s n.val 4 (r.dev * 2 ^ 46 + r.line + r.off) else s
    | _ => refuseReq s t
  else
    let need := pcNeed r
    let op := if need = 1 ∧ x.pstate = 0 then 1
      else if need = 2 ∧ x.pstate = 0 then 2
      else if need = 2 ∧ x.pstate = 1 then 3
      else if need = 3 ∧ x.pstate = 0 then 4
      else 0
    if op = 0 then
      let s := if need = 0 then s else tick s (bPool q) 0 1
      let (s, t) := recallLine s t r.line
      openTxn s t
    else
      let s := tick s (bPool q) 1 1
      let s := if op = 1 then tick s (bPool q) 2 1 else if op = 4 then s else tick s (bPool q) 3 1
      let s := sendCoh s r.dev op r.id r.tag r.line 0 false
      openTxn s { t with phase := .remote, ask := some (op, s.clock) }

/-- A request opens its transaction. One of a peer that a turn to SAFE found waiting is answered with poison (R716). -/
def openNow (s : State) (r : Req) : State :=
  let t : Txn := { req := r, since := s.clock }
  if r.turnedAway then refuseReq s t
  else match r.origin, isPageOp r.kind with
  | .core n rd, true =>
    match keyRefusal s r with
    | some (src, k) => refuseKey s t src k
    | .none => openPageOp s t n rd
  | .agent _, true =>
    if r.kind = .dqry then
      let (s, v) := dqry s r
      queryResult s v
    else openTxn s { t with phase := .page }
  | _, _ =>
    match keyRefusal s r with
    | some (src, k) => refuseKey s t src k
    | .none => if isLocal s r then openLocal s t else openRemote s t

/-- A request opens under the configuration set in force at its admission (R188). -/
def openReq (s : State) (r : Req) : State := underSet s r.cset (fun s => openNow s r)

def joinChain (s : State) (r : Req) : State := { s with coh := { s.coh with chain := s.coh.chain ++ [r] } }

/-- An earlier request of the list that a request may not pass: one for its line, one for its held page, or a TMW or PZERO of its page
that waits for the clock's end, which only a hardware change passes (R120, R264, R342). -/
def behind (s : State) (l : List Req) (r : Req) : Bool :=
  l.any (fun x => decide (x.dev = r.dev ∧ r.kind ≠ .dqry) && ((lineReq x.kind && lineReq r.kind && decide (x.line = r.line)) ||
    (isLocal s r && decide (pageOf x.line = pageOf r.line) &&
      (heldPage s (pageOf r.line) || (laterInClock s x && !mayReshape s r && decide (r.kind ≠ .move))))))

/-- A request that an admission would leave in its wait buffer (R342, R343, R352). -/
def wouldWait (s : State) (r : Req) : Bool :=
  blocked s r || blocked s (retarget s r) || behind s s.coh.chain r || setFull s (retarget s r)

/-- An admitted request opens its transaction, or waits behind those that it may not pass (R24, R342, R352). -/
def enter (s : State) (r : Req) : State :=
  let r' := retarget s r
  if blocked s r || blocked s r' || behind s s.coh.chain r then tick (joinChain s r) (bHome (sliceOf r)) 3 1
  else if setFull s r' then
    if recalling s r' then joinChain s r
    else match victimOf s r' with
      | some l => joinChain (openRecall s l) r
      | .none => joinChain (tick (raiseHome s Src.setPinned r'.line r'.dev (reqInfo s r')) (bHome (sliceOf r')) 4 1) r
  else openReq s r'

/-! ### Going on by itself -/

/-- The first waiting request that can go on, given those it passed; with a full set, one whose set has a victim to recall. -/
def firstFree (s : State) (passed : List Req) : List Req → Option Req
  | [] => .none
  | r :: rs =>
    let r' := retarget s r
    if blocked s r || blocked s r' || behind s passed r || decide (4096 ≤ openCount s (sliceOf r')) || (setFull s r' && (recalling s r' || (victimOf s r').isNone)) then
      firstFree s (passed ++ [r]) rs
    else some r

/-- A waiting request goes on; where a victim must be recalled first it keeps its place among those that wait (R24, R351). -/
def resume (s : State) (r : Req) : State :=
  let r' := retarget s r
  if setFull s r' then
    match victimOf s r' with
    | some l => openRecall s l
    | .none => s
  else openReq { s with coh := { s.coh with chain := s.coh.chain.erase r } } r'

/-- One step of the home slices and pool caches, if there is one to take. -/
def flowStep (s : State) : Option State :=
  match s.coh.txns.find? (ready s) with
  | some t => some (advance s t)
  | .none =>
    match firstFree s [] s.coh.chain with
    | some r => some (resume s r)
    | .none => .none

/-- Every transaction sends the BISnps it still owes. -/
def pushBis (s : State) : List Txn → State
  | [] => s
  | t :: r =>
    if t.bi = [] then pushBis s r
    else
      let (s, l) := sendBis s t.req.id t.biKind t.bi
      let s := t.bi.foldl (fun s x =>
        if x.1 < 2 ^ 46 || l.contains x || !ldIsolated s x.2 then s else pcLost s (x.1 / 2 ^ 46 - 1) (x.1 % 2 ^ 46)) s
      let gone := (t.bi.filter (fun x => !l.contains x && decide (x.1 < 2 ^ 46) && ldIsolated s x.2 &&
        ownerLost s (decodeDir (dirWord s x.1)))).map (fun x => x.1)
      let s := gone.foldl (fun s x => raiseHome s Src.exclusiveLost x s.devId (reqInfo s t.req)) s
      pushBis (putTxn s { t with bi := l, got := t.got ++ gone.map (fun x => (x, (0 : Line), true, .none, 0)) }) r

/-- The home slices and pool caches go on until each transaction waits for something outside them. -/
def flowN : Nat → State → State
  | 0, s => s
  | n + 1, s =>
    let s := pushBis s s.coh.txns
    match flowStep s with
    | some s => flowN n s
    | .none => s

/-- Heap jobs of page moves join the queue of their crystallizer as it has room (R309): decodes of moves in phase 2 and of pages that
peers fetch, encodes of moves in phase 3. -/
def queueJob (s : State) (j : HeapJob) : State :=
  if s.tier.jobs.any (fun x => decide (x.txn = j.txn ∧ x.kind = j.kind)) || decide (16 ≤ (jobsOf s j.quad).length) then s
  else { s with tier := { s.tier with jobs := s.tier.jobs ++ [j] } }

/-- The job that a move needs now. -/
def moveJob (s : State) (m : Move) : Option HeapJob :=
  let j : HeapJob := { quad := homeSlice (m.page * 4096), kind := 4, page := m.page, txn := m.id, slot := m.key.getD 0
                       seen := storedEntry s m.page, cset := m.cset }
  if m.phase = 2 then some j
  else if m.phase = 3 then some { j with kind := 1, lines := (List.range 64).map (fun i => smGet (0, false) m.lines i) }
  else .none

/-- The job that a page fetched by a peer needs, once its lines have been recalled. -/
def peerJob (s : State) (x : PeerMove) : Option HeapJob :=
  if x.sending && codedPage s x.page && !x.done && s.coh.txns.all (fun t => decide (t.req.id ≠ x.rid)) &&
      s.coh.ingress.all (fun r => decide (r.id ≠ x.rid)) && s.coh.chain.all (fun r => decide (r.id ≠ x.rid)) then
    some { quad := homeSlice (x.page * 4096), kind := 4, page := x.page, txn := x.rid, slot := x.key
           seen := storedEntry s x.page, cset := x.cset }
  else .none

def queueJobs (s : State) : List HeapJob → State
  | [] => s
  | j :: r => queueJobs (queueJob s j) r

def flow (s : State) : State :=
  let s := flowN 4096 s
  queueJobs s (s.tier.moves.filterMap (moveJob s) ++ s.tier.peerMoves.filterMap (peerJob s))

/-- The outcome of a command that touches the memory path. -/
def flowDone (s : State) : Host.Outcome State Fault Refusal := done (flow s)

/-! ### Admission (R27, R343, R429) -/

def isConveyor (r : Req) : Bool :=
  match r.origin with
  | .peer _ _ => true
  | _ => false

def linesOf (r : Req) : Nat :=
  if isAmo r.kind then 2
  else match r.kind with
    | .pzero => 64
    | .move => 64
    | .tmr => 0
    | .tmw => 0
    | .dqry => 0
    | .pprobe => 0
    | .memClnEvct => 0
    | .evc => 0
    | _ => 1

def reqColour (s : State) (r : Req) : Colour := colour s (isHostReq r) r.sluice

def slotChanging (s : State) (r : Req) : Bool := match r.slot with | some k => keyChanging s k | .none => false

/-- The slice has room for the request where it needs an entry: in the wait buffer, or in the open-transaction table (R343). -/
def hasRoom (s : State) (r : Req) : Bool :=
  if wouldWait s r then decide (waitCount s (sliceOf r) < 512) else decide (openCount s (sliceOf r) < 4096)

def admissible (s : State) (h : Nat) (r : Req) : Bool :=
  decide (sliceOf r = h) && !holding s && !paused s && !slotChanging s r && hasRoom s r && decide (reqColour s r ≠ .red)

/-- The order of the sluices of a class: round-robin after the one served last. -/
def turnOf (last x : Nat) : Nat := (x + 255 - last) % 256

/-- The request of a class that is next: the sluice next in turn, its oldest request. -/
def nextOf (last : Nat) (l : List Req) : Option Req :=
  match l.foldl (fun (a : Option Nat) r => match a with
      | .none => some (turnOf last r.sluice)
      | some b => some (min b (turnOf last r.sluice))) .none with
  | .none => .none
  | some k => l.find? (fun r => decide (turnOf last r.sluice = k))

def lastServed (s : State) (h : Nat) (amber : Bool) : Nat := smGet 255 s.slu.last (h + 4 * b2n amber)

/-- The next request for a lane of slice `h`, with its class: 0 conveyor under URGC, 1 green, 2 amber. -/
def nextReq (s : State) (h : Nat) : Option (Req × Nat) :=
  let l := s.coh.ingress.filter (admissible s h)
  let conv := l.filter isConveyor
  let green := l.filter (fun r => decide (reqColour s r = .green))
  let amber := l.filter (fun r => decide (reqColour s r = .amber) && !urgrHolds s r)
  match (if urgc s h && decide (smGet 0 s.coh.lanes (4 + h) < 3) then conv.head? else .none) with
  | some r => some (r, 0)
  | .none =>
    match nextOf (lastServed s h false) green with
    | some r => some (r, 1)
    | .none => (nextOf (lastServed s h true) amber).map (fun r => (r, 2))

/-- A recomputation re-enters the pipeline of its request through a lane, ahead of new admissions in that clock (R669). -/
def addRedo (s : State) (p : Nat) : State :=
  { s with coh := { s.coh with redo := smSet 0 s.coh.redo p (smGet 0 s.coh.redo p + 1) } }

/-- The recomputations of a pipeline that take its lanes in a clock. -/
def takeRedo (s : State) (p : Nat) : State :=
  let n := min 2 (smGet 0 s.coh.redo p)
  { s with coh := { s.coh with redo := smSet 0 s.coh.redo p (smGet 0 s.coh.redo p - n), slots := smSet 0 s.coh.slots (16 * p + 2) n } }

/-- The lanes of a pipeline that are taken in this clock. -/
def laneUse (s : State) (p : Nat) : Nat := smGet 0 s.coh.slots (16 * p + 1) + smGet 0 s.coh.slots (16 * p + 2)

def addSlot (s : State) (p c : Nat) : State :=
  { s with coh := { s.coh with slots := smSet 0 s.coh.slots (16 * p + c) (smGet 0 s.coh.slots (16 * p + c) + 1) } }

/-- The quadrant that a request comes from (R17); a peer's and the device's own stand in the quadrant of their home slice. -/
def sourceQuad (h : Nat) (r : Req) : Nat :=
  match r.origin with
  | .host ld _ => ld / 64
  | .core n _ => n.val / 4
  | _ => h

/-- The lookup of a page's entry, and of a T1 page's size vector, in the caches of its quadrant (R247); a miss brings the line in from
the map region when its read does not fail. -/
def lookupMap (s : State) (h page : Nat) : State :=
  match mapSetOf s page with
  | .none => s
  | some n =>
    let hit := mapHit s page
    let s := tick s (bTmu h) (if hit then 0 else 1) 1
    let s := if hit || entryUnread s page then s else fetchLine s n page
    if eState (storedEntry s page) = Ent.t1 && (cachedSv s page).isNone && blockWritten s n page then
      let s := tick s (bTmu h) 2 1
      if svUnread s page then s else fetchSv s page
    else s

/-- Crossbar and tier map cache counters of an admission, and the lookup. -/
def countLines (s : State) (h : Nat) (r : Req) : State :=
  let q := sourceQuad h r
  let s := tick s (bXbar q) (if q = h then 0 else 1) (linesOf r)
  if isLocal s r && decide (r.kind ≠ .dqry ∧ r.line < 2 ^ 46) then lookupMap s h (pageOf r.line) else s

/-- A request is admitted into a lane: charged, counted, sampled, and entered. -/
def admitReq (s : State) (h : Nat) (r : Req) (cls : Nat) : State :=
  let k := smGet 0 s.coh.lanes h
  let pipe := if laneUse s (2 * h) < 2 then 0 else 1
  let c := reqColour s r
  let was := r
  let r := { r with load := devLoad s c r.sluice r.red r.urgd, pipe := pipe, at_ := s.clock
                    cset := if isConveyor r then r.cset else s.sets.swaps }
  let p := 2 * h + pipe
  let i := reqInfo s r
  let s := { s with
    coh := { s.coh with
      ingress := s.coh.ingress.erase was
      lanes := smSet 0 (if cls = 0 then smSet 0 s.coh.lanes (4 + h) (smGet 0 s.coh.lanes (4 + h) + 1) else s.coh.lanes) h (k + 1) }
    slu := { s.slu with last := if cls = 0 then s.slu.last else smSet 255 s.slu.last (h + 4 * (cls - 1)) r.sluice } }
  let s := charge s (isHostReq r) r.sluice (linesOf r) c
  let s := tick (tick s (bHome h) 0 1) (bXbar h) (if c = .green then 2 else 3) 1
  let s := countLines s h r
  let s := addSlot s p 1
  let s := if isConveyor r then addSlot s p 7 else s
  let s := samplePipe s p r.line r.tag (i.mkind * 2 ^ 28 + i.mdev * 2 ^ 18 + i.mid)
    (r.sluice + colourCode c * 2 ^ 8 + i.atype * 2 ^ 10) s.tel.waiting
  enter s r

/-- Requests that begin to wait on a CHANGING slot are marked, and their engines count them (R665). -/
def markKeys (s : State) : State :=
  let p (r : Req) : Bool := slotChanging s r && !r.kwait
  let l := s.coh.ingress.filter p
  if l = [] then s
  else
    let s := l.foldl (fun s r => tick s (bXe (lineXe s r.line)) 4 1) s
    { s with coh := { s.coh with ingress := s.coh.ingress.map (fun r => if p r then { r with kwait := true } else r) } }

/-- Requests that are red are marked, and counted; so are marked those that URGR holds (R427, R441). -/
def markRed (s : State) : State :=
  let s := markKeys s
  let fresh (h : Nat) : Nat :=
    (s.coh.ingress.filter (fun r => decide (sliceOf r = h ∧ reqColour s r = .red) && !r.red)).length
  let s := (List.range 4).foldl (fun s h => if fresh h = 0 then s else tick s (bXbar h) 4 (fresh h)) s
  { s with coh := { s.coh with ingress := s.coh.ingress.map (fun r =>
    if reqColour s r = .red then { r with red := true }
    else if decide (reqColour s r = .amber) && urgrHolds s r then { r with urgd := true } else r) } }

def fillLanes : Nat → Nat → State → State
  | 0, _, s => s
  | n + 1, h, s =>
    if 4 ≤ laneUse s (2 * h) + laneUse s (2 * h + 1) then s
    else match nextReq s h with
      | some (r, cls) => fillLanes n h (flow (admitReq s h r cls))
      | .none => s

/-- A home slice fills its lanes of this clock. -/
def admitSlice (s : State) (h : Nat) : State := markRed (fillLanes 4 h (flow s))

def admitAll (s : State) : State := admitSlice (admitSlice (admitSlice (admitSlice s 0) 1) 2) 3

/-- The wait buffer of a slice is full: raised when a request finds it so (R343). -/
def raiseFull (s : State) (r : Req) : State :=
  if 512 ≤ waitCount s (sliceOf r) then raiseHome s Src.waitFull r.line r.dev (reqInfo s r) else s

/-- A request arrives at its home slice. -/
def submit (s : State) (r : Req) : State :=
  let s := raiseFull s r
  admitSlice { s with coh := { s.coh with ingress := s.coh.ingress ++ [r] } } (sliceOf r)

/-! ### Host requests at ingress (R207 to R211) -/

/-- Whether a DPA lies in an ACCEPTED extent of a logical device. -/
def inExtent (s : State) (ld dpa : Nat) : Bool :=
  s.port.ext.any (fun e => decide (e.2.state = 2 ∧ e.2.ld = ld ∧ e.2.start ≤ dpa ∧ dpa < e.2.start + e.2.blocks * 2 ^ 28))

def hostInfo (s : State) (k : ReqKind) (ld dpa : Nat) : Info :=
  { atype := accType k, akind := 1, addr := dpa, mkind := 1, mid := ld + 256 * ((ldPort s ld).getD 0 % 4), ld := some ld
    sub := ldPort s ld }

def tagres (s : State) (ld win : Nat) : Nat := s.act 1 (4 * (16 * ld + win)) 4

/-- The answer of a request that never reaches a slice (R209; R70 for SAFE). -/
def answerAtPort (s : State) (k : ReqKind) (ld mtag : Nat) (d : Line) (p : Bool) : State :=
  match k with
  | .memSpecRd => s
  | .memRdInv => s.emit (.memData ld mtag d p 2)
  | .memRdData => s.emit (.memData ld mtag d p 2)
  | .memRdCur => s.emit (.memData ld mtag d p 2)
  | _ => s.emit (.memDone ld mtag 2)

def refuseAtPort (s : State) (k : ReqKind) (ld mtag loc dpa : Nat) : State :=
  let s := tick (answerAtPort s k ld mtag 0 true) (bHost (ld / 16)) 5 1
  raiseHost s (ld / 16) loc (hostInfo s k ld dpa)

/-- The port's copy of a TAGRES entry was found with wrong parity and has not been loaded again (R234). -/
def badTagres (s : State) (ld win : Nat) : Bool :=
  s.port.badTag.any (fun x => decide (x.1 = ld ∧ x.2.1 = win ∧ s.clock < x.2.2 + 2 * usClocks))

/-- The copy is loaded again from the active set. -/
def reloadTag (s : State) (ld win : Nat) : State :=
  { s with port := { s.port with badTag := s.port.badTag.filter (fun x => decide (x.1 ≠ ld ∨ x.2.1 ≠ win)) } }

/-- A full line that a partial writeback makes of what the line's place holds. -/
def wholeLine (s : State) (dev line slot : Nat) (mask : Nat) (d : Line) (p : Bool) : Line × Bool :=
  if mask = 2 ^ 64 - 1 then (d, p)
  else
    let (old, q) := if dev = s.devId then
        lineFinal s (storedEntry s (pageOf line)) (codesOf s (pageOf line)) (pageOf line) (lineIdx line) slot []
      else ((pcGet s dev line).data, (pcGet s dev line).pois)
    (maskPut mask old d, p || q)

/-- A write of a BI target of an open recall is the recall's writeback (R355). -/
def asWriteback (s : State) (r : Req) (ld mtag : Nat) : Option State :=
  let name := lineName s r.dev r.line
  if r.kind = .memWr ∨ r.kind = .memWrPtl then
    (s.coh.txns.find? (fun t => t.bi.contains (name, ld))).map (fun t =>
      let (d, p) := wholeLine s r.dev r.line (reqSlot r) (if r.kind = .memWr then 2 ^ 64 - 1 else r.mask) r.data r.poison
      putTxn s { t with got := t.got ++ [(r.line, d, p, r.slot, r.tag)], owed := t.owed ++ [(r.line, ld, mtag)] })
  else .none

/-- A request of a logical device, decoded: ingress checks, task tag, key slot, pool address and sluice. -/
def hostIngress (s : State) (k : ReqKind) (ld mtag addr : Nat) (hdmh : Bool) (data : Line) (mask : Nat) (poison : Bool) : State :=
  let dpa := addr % 2 ^ 46 / 64 * 64
  let e := tagres s ld (addr / 2 ^ 46 % 16)
  let write := decide (k = .memWr ∨ k = .memWrPtl)
  if badTagres s ld (addr / 2 ^ 46 % 16) then answerAtPort (reloadTag s ld (addr / 2 ^ 46 % 16)) k ld mtag 0 true
  else if !e.testBit 31 then refuseAtPort s k ld mtag 8 dpa
  else if !inExtent s ld dpa then refuseAtPort s k ld mtag 7 dpa
  else if (write || decide (k = .memInv ∨ k = .memInvNT)) && e.testBit 30 then refuseAtPort s k ld mtag 9 dpa
  else
    let s := if write && poison then raiseHost s (ld / 16) 5 (hostInfo s k ld dpa) else s
    if s.code = Mode.safe then answerAtPort s k ld mtag 0 true
    else
      let tag := e % 4096
      let (dev, line) := poolTarget s dpa
      let (s, id) := takeId s
      let r : Req := { id := id, origin := .host ld mtag, kind := k, dev := dev, line := line, tag := tag
                       slot := if e.testBit 29 then tagSlot s tag else ldSlot s ld
                       sluice := sluiceOf s tag dpa, data := data, mask := mask, poison := poison, hdmh := hdmh
                       off := 0, wide := false, a := 0, b := 0, lc := madeCheck data }
      match asWriteback s r ld mtag with
      | some s => flow s
      | .none => submit s r

/-- A request of a host on one of some logical devices. -/
def hostFrom (ok : Nat → Bool) (r : Req) : Bool :=
  match r.origin with
  | .host ld _ => ok ld
  | _ => false

/-- A held request of a host on one of some logical devices. -/
def heldReq (ok : Nat → Bool) (i : Instr) : Bool :=
  match i with
  | .memRd ld _ _ _ => ok ld
  | .memRdData ld _ _ => ok ld
  | .memInv ld _ _ => ok ld
  | .memInvNt ld _ _ => ok ld
  | .memSpecRd ld _ _ => ok ld
  | .memClnEvct ld _ _ => ok ld
  | .memWr ld _ _ _ _ => ok ld
  | .memWrPtl ld _ _ _ _ _ => ok ld
  | _ => false

/-- The requests of some logical devices that are outstanding. -/
def outstanding (s : State) (ok : Nat → Bool) : Nat :=
  (s.coh.ingress.filter (hostFrom ok)).length + (s.coh.chain.filter (hostFrom ok)).length +
    (s.coh.txns.filter (fun t => hostFrom ok t.req)).length + (s.port.held.filter (heldReq ok)).length

/-- Requests of host port `n` in the device (HPX_OUTST). -/
def portReqs (s : State) (n : Nat) : Nat := outstanding s (fun ld => decide (ld / 16 = n))

/-- The bifurcated port of a logical device has given out no more credits: its share, by width, of the 1,024 requests of its HPn
is outstanding (R203; DEDUCED, log entry 212). -/
def noCredit (s : State) (ld : Nat) : Bool :=
  decide (1024 ≤ subCount s (ld / 16) * outstanding s (fun l => decide (ldPort s l = ldPort s ld)))

/-- The bifurcated port of a logical device is READY and not isolated. -/
def portUp (s : State) (ld : Nat) : Bool :=
  match ldPort s ld with
  | some p => readySub s p && !(s.subp p).isolated
  | .none => false

/-- A CXL.mem request on a trained port. In HOLD it is held as it came (R70). An unclaimed address is left to the CXL
specification: its answer is a free value. -/
def hostRequest (s : State) (i : Instr) (k : ReqKind) (ld mtag hpa : Nat) (data : Line) (mask : Nat) (poison : Bool) : State :=
  let write := decide (k = .memWr ∨ k = .memWrPtl)
  if !portUp s ld || decide (s.code = Mode.boot) then s
  else if noCredit s ld then refuseAtPort s k ld mtag 17 0
  else if holding s then { s with port := { s.port with held := s.port.held ++ [i] } }
  else
    let s := tick s (bHost (ld / 16)) (if write then 1 else 0) 1
    match ldDecode s ld hpa with
    | .none =>
      answerAtPort s.draw k ld mtag (BitVec.ofNat 512 (Config.freeNat s.fresh)) (Config.choice s.fresh)
    | some (addr, hdmh) => hostIngress s k ld mtag addr hdmh data mask poison

def snoopKindOf (x : Snoop) : ReqKind :=
  match x with
  | .inv => .memRdInv
  | .data => .memRdData
  | .cur => .memRdCur

/-- A held host request goes on. -/
def hostRetry (s : State) (i : Instr) : State :=
  match i with
  | .memRd ld mtag hpa snp => hostRequest s i (snoopKindOf snp) ld mtag hpa 0 0 false
  | .memRdData ld mtag hpa => hostRequest s i .memRdData ld mtag hpa 0 0 false
  | .memInv ld mtag hpa => hostRequest s i .memInv ld mtag hpa 0 0 false
  | .memInvNt ld mtag hpa => hostRequest s i .memInvNT ld mtag hpa 0 0 false
  | .memSpecRd ld mtag hpa => hostRequest s i .memSpecRd ld mtag hpa 0 0 false
  | .memClnEvct ld mtag hpa => hostRequest s i .memClnEvct ld mtag hpa 0 0 false
  | .memWr ld mtag hpa data poison => hostRequest s i .memWr ld mtag hpa data (2 ^ 64 - 1) poison
  | .memWrPtl ld mtag hpa data mask poison => hostRequest s i .memWrPtl ld mtag hpa data mask.toNat poison
  | _ => s

def hostRetryAll (s : State) : List Instr → State
  | [] => s
  | i :: r => hostRetryAll (hostRetry s i) r

/-- The requests held at the ports go on after HOLD (R70). -/
def releaseHeld (s : State) : State :=
  let l := s.port.held
  hostRetryAll { s with port := { s.port with held := [] } } l

end Sys2Proof.Machine
end

