-- ==== Sys2Proof/Machine/Mem.lean ====
section
/-! DEFINITION. The memory path from the ports to the channels (spec/06, spec/10 R353 to R356, spec/11, spec/15): the commands
of hosts, of the home slices' admission, of the write queues and of the read data. -/

namespace Sys2Proof.Machine

/-! ### Host requests (R353, R33, R393) -/

def execMemRd (ld : Fin 256) (mtag hpa : Nat) (snp : Snoop) (s : State) : Host.Outcome State Fault Refusal :=
  done (hostRequest s (.memRd ld mtag hpa snp) (snoopKindOf snp) ld mtag hpa 0 0 false)

def execMemRdData (ld : Fin 256) (mtag hpa : Nat) (s : State) : Host.Outcome State Fault Refusal :=
  done (hostRequest s (.memRdData ld mtag hpa) .memRdData ld mtag hpa 0 0 false)

def execMemInv (ld : Fin 256) (mtag hpa : Nat) (s : State) : Host.Outcome State Fault Refusal :=
  done (hostRequest s (.memInv ld mtag hpa) .memInv ld mtag hpa 0 0 false)

def execMemInvNt (ld : Fin 256) (mtag hpa : Nat) (s : State) : Host.Outcome State Fault Refusal :=
  done (hostRequest s (.memInvNt ld mtag hpa) .memInvNT ld mtag hpa 0 0 false)

def execMemSpecRd (ld : Fin 256) (mtag hpa : Nat) (s : State) : Host.Outcome State Fault Refusal :=
  done (hostRequest s (.memSpecRd ld mtag hpa) .memSpecRd ld mtag hpa 0 0 false)

def execMemClnEvct (ld : Fin 256) (mtag hpa : Nat) (s : State) : Host.Outcome State Fault Refusal :=
  done (hostRequest s (.memClnEvct ld mtag hpa) .memClnEvct ld mtag hpa 0 0 false)

def execMemWr (ld : Fin 256) (mtag hpa : Nat) (data : Line) (poison : Bool) (s : State) : Host.Outcome State Fault Refusal :=
  done (hostRequest s (.memWr ld mtag hpa data poison) .memWr ld mtag hpa data (2 ^ 64 - 1) poison)

def execMemWrPtl (ld : Fin 256) (mtag hpa : Nat) (data : Line) (mask : BitVec 64) (poison : Bool) (s : State) :
    Host.Outcome State Fault Refusal :=
  done (hostRequest s (.memWrPtl ld mtag hpa data mask poison) .memWrPtl ld mtag hpa data mask.toNat poison)

/-! ### Back-Invalidate (R354 to R356, R214, R215) -/

/-- The device and the line that a BISnp's line name stands for. -/
def nameDev (s : State) (name : Nat) : Nat := if name < 2 ^ 46 then s.devId else name / 2 ^ 46 - 1

def biInfo (s : State) (ld name : Nat) : Info :=
  { atype := 5, akind := if name < 2 ^ 46 then 1 else 2, addr := name, mkind := 1, mid := ld + 256 * ((ldPort s ld).getD 0 % 4)
    ld := some ld, sub := ldPort s ld }

def unexpectedHost (s : State) (ld name : Nat) : State :=
  raiseHome s Src.unexpectedHost (name % 2 ^ 46) (nameDev s name) (biInfo s ld name)

def bisnpOf (s : State) (ld name : Nat) : Option BiSnp := s.port.bisnp.find? (fun b => decide (b.ld = ld ∧ b.line = name))

def dropBisnp (s : State) (b : BiSnp) : State := { s with port := { s.port with bisnp := s.port.bisnp.erase b } }

/-- A BIRsp: the target holds the line no more, or keeps it in S or E (R354). -/
def birsp (s : State) (ld name : Nat) (keeps : Bool) : State :=
  match bisnpOf s ld name with
  | .none => unexpectedHost s ld name
  | some b =>
    let s := dropBisnp s b
    match getTxn s b.txn with
    | .none => s
    | some t =>
      flow (putTxn s { t with bi := t.bi.erase (name, ld), kept := if keeps then t.kept ++ [(name, ld / 16)] else t.kept })

def execBirsp (ld : Fin 256) (line : Nat) (keeps : Bool) (s : State) : Host.Outcome State Fault Refusal :=
  done (birsp s ld line keeps)

/-- The limit of a BISnp (R215) elapses. -/
def bisnpTimeout (s : State) (ld name : Nat) : State :=
  match bisnpOf s ld name with
  | .none => s
  | some b =>
    if b.since + s.fld (Reg.HPX_TMO (ld / 16)) 15 0 * usClocks ≤ s.clock then raiseHost s (ld / 16) 10 (biInfo s ld name) else s

def execBisnpTimeout (ld : Fin 256) (line : Nat) (s : State) : Host.Outcome State Fault Refusal :=
  atDue (.bisnpTimeout ld line) 1 ((bisnpOf s ld line).map (fun b => b.since + s.fld (Reg.HPX_TMO (ld / 16)) 15 0 * usClocks)) s
    (fun s => flowDone (settle (bisnpTimeout s ld line)))

/-- A BIConflict (R356): the responses of requests that the home admitted before the BISnp have been sent. -/
def execBiConflict (ld : Fin 256) (line : Nat) (s : State) : Host.Outcome State Fault Refusal :=
  done (match bisnpOf s ld line with
    | some _ => s.emit (.biConflictAck ld line)
    | .none => unexpectedHost s ld line)

/-! ### Admission and write queues -/

def execHomeSliceAdmission (h : Fin 4) (s : State) : Host.Outcome State Fault Refusal := done (admitSlice s h)

/-- The first write of a store that goes to a channel. -/
def writeFor (c : Nat) (t : Txn) : Option (Txn × (Nat × Nat × Burst)) :=
  if t.phase = .wq then (t.bursts.find? (fun b => decide (keyChan b.1 = c))).map (fun b => (t, b)) else .none

/-- The earlier issued of two stores. -/
def firstIssued (a : Option (Txn × (Nat × Nat × Burst))) (b : Txn × (Nat × Nat × Burst)) : Option (Txn × (Nat × Nat × Burst)) :=
  match a with
  | .none => some b
  | some x => if b.1.order < x.1.order then some b else some x

/-- The write that a channel accepts next, in the order in which the stores were issued (R391); none while it must wait. -/
def nextWrite (s : State) (c : Nat) (l : List Txn) : Option (Txn × (Nat × Nat × Burst)) :=
  ((l.filterMap (writeFor c)).foldl firstIssued .none).filter (fun x => !readyChan s c || wrFits s x.1.order x.2.1)

/-- Sector `k` of a write, which its engine enciphered. -/
def cipherOne (cnt : Nat) (b : Nat × Nat × Burst) (s : State) (k : Nat) : State :=
  match (b.2.2.sect k).under with
  | some e =>
    if b.2.1.testBit k then
      let u := pairUnit (readyXe s) (keyChan b.1 / 6) e.eng
      let s := tick s (bXe u) cnt 1
      let s := if 2 ^ 42 ≤ e.tweak then tick s (bXe u) 2 1 else s
      if u % 2 = e.eng then s else tick s (bXe u) 5 1
    else s
  | .none => s

/-- The sectors of a write that its engine enciphered (R315, R665). -/
def countCipher (s : State) (cnt : Nat) (b : Nat × Nat × Burst) : State := (List.range 4).foldl (cipherOne cnt b) s

/-- A channel accepts its next write (R33, R390, R393); an absent channel's write goes into its parity alone (R411). -/
def channelAccept (s : State) (c : Nat) : State :=
  match nextWrite s c s.coh.txns with
  | .none => s
  | some (t, b) =>
    let s := countCipher s 0 b
    let s := if readyChan s c then acceptWrite s t.req.sluice b else storeAll s [b]
    flow (putTxn s { t with bursts := t.bursts.erase b })

def execChannelWriteAccept (ch : Fin 24) (s : State) : Host.Outcome State Fault Refusal := done (channelAccept s ch)

/-! ### Read data (R535, R539, R542 to R544, R35, R294) -/

/-- A burst as the symbol decoder hands it on, with errors from the channel: the flag tells that it cannot be used. -/
def readOne (s : State) (k : Nat) (e : List (Nat × Word)) : State × Bool :=
  let c := keyChan k
  let off := keyOff k
  match symbolDecode (markOf s c off) (errMerge (e.map (fun x => (x.1 % 20, x.2.toNat)) ++ storedErrors (s.burst k))) with
  | .clean ok => (s, !ok)
  | .fixed j ok => (tick (countFix s c off j) (bChan c) 6 1, !ok)
  | _ => (raiseChan s c 2 (some off) {}, true)

/-- The bursts of a list, with the errors of each; those that cannot be used. -/
def readMany (s : State) : List Nat → List (List (Nat × Word)) → State × List Nat
  | [], _ => (s, [])
  | k :: ks, es =>
    let (s, bad) := readOne s k (es.headD [])
    let (s, l) := readMany (countCipher s 1 (k, 15, s.burst k)) ks es.tail
    (s, if bad then k :: l else l)

/-- A line goes through its path once more (R35, R669). -/
def rereadLine (s : State) (t : Txn) (how : Nat) : State :=
  let s := addRedo s (2 * sliceOf t.req + t.req.pipe)
  awaitReads s { t with reread := how } .dram t.reads

/-- The bursts of a line have come. -/
def lineReturn (s : State) (t : Txn) (bad : List Nat) : State :=
  let r := t.req
  let page := pageOf r.line
  let u := gcOf s t.seen t.seenCodes r.line
  if !pageServable s page then gotData s t 0 true false
  else match readLine s t.seen t.seenCodes page (lineIdx r.line) (reqSlot r) bad with
    | .poison => gotData s t 0 true false
    | .good d =>
      let s := if t.reread ≠ 0 then raiseWith s Src.lineCheckRecovered (reqInfo s r) else s
      let s := if eState t.seen = Ent.t1 then tick s (bGc u) 7 1 else s
      gotData s t d false false
    | .mismatch grain =>
      if t.reread = 0 then
        rereadLine (if grain then raiseCry s Src.grainDecode u r.line (reqInfo s r) else s) t (if grain then 2 else 1)
      else
        let s := if t.reread = 2 then raiseCry s Src.grainTwice u r.line (reqInfo s r)
          else raiseWith (if grain then raiseCry s Src.grainDecode u r.line (reqInfo s r) else s) Src.lineCheckTwice (reqInfo s r)
        gotData s t 0 true false

/-- The read data of a transaction has come: of its line, of a merge or a copy, or of the parity that its writes cost. -/
def dataReturn (s : State) (t : Txn) (errs : List (List (Nat × Word))) : State :=
  let (s, bad) := readMany s t.reads errs
  match t.phase, t.bursts, t.wdata with
  | .dram, _, _ => lineReturn s t bad
  | .merge, [], some (line, d, p, slot, lc) =>
    let (s, pl) := planStore s line slot d p lc bad
    takePlan s t pl
  | .merge, _, _ => enterWq s t
  | _, _, _ => s

/-- READ_DATA_RETURN: the reads of transaction `txn` have all been issued, and their bursts come with these errors of symbols. -/
def execReadDataReturn (txn : Nat) (errs : List (List (Nat × Word))) (s : State) : Host.Outcome State Fault Refusal :=
  flowDone (match getTxn s txn with
    | some t =>
      if (t.phase = .dram ∨ t.phase = .merge) ∧ readsIssued s txn then underSet s t.req.cset (fun s => dataReturn s t errs) else s
    | .none => s)

end Sys2Proof.Machine
end

