-- ==== Sys2Proof/Machine/MoveOps.lean ====
section
/-! DEFINITION. The parts of a page move (spec/04 R128, R129; spec/07 R254, R255, R269, R273; spec/08 R304 to R306): its completion
record, the runs that it gives back, and the store of a page in a tier. -/

namespace Sys2Proof.Machine

/-! ### The end of a move (R128, R129, R133, R255, R273) -/

def dropMove (s : State) (id : Nat) : State :=
  { s with tier := { s.tier with moves := s.tier.moves.filter (fun x => decide (x.id ≠ id)) } }

/-- The heap job and the recall of a move end with it. -/
def dropWork (s : State) (id : Nat) : State :=
  { s with
    tier := { s.tier with jobs := s.tier.jobs.filter (fun j => decide (j.txn ≠ id ∨ (j.kind ≠ 1 ∧ j.kind ≠ 4))) }
    coh := { s.coh with txns := s.coh.txns.filter (fun t => decide (t.req.id ≠ id)) } }

def poisonCount (ls : List (Line × Bool)) : Nat := (ls.filter (fun x => x.2)).length

/-- The completion record: OLD, NEW, PAGE, ENDTIDE, SLOT, STAT, NPOIS. -/
def moveRecord (m : Move) : Line :=
  lineOf (natBytes 8 m.old.toNat ++ natBytes 8 m.new.toNat ++ natBytes 8 (m.page * 4096) ++ natBytes 8 m.endTide ++
    [m.slot, m.stat, m.npois] ++ List.replicate 29 0)

/-- The inbound queue has one of its eight entries for completion records (R133). A record that finds them all taken waits, and its
move slot stays busy (DESIGN CHOICE, log entry 206). -/
def recordRoom (s : State) (n : Nat) : Bool := decide ((s.core n).queue.length - msgCount (s.core n) < 8)

/-- A move in phase 9 goes on: its runs enter their release rings, its record enters the inbound queue, and its slot is free. -/
def moveFinish (s : State) (m : Move) : State :=
  match pushAll s m.release with
  | (s, []) =>
    if recordRoom s m.core.val then
      let e : QEntry := { kind := 2, sdev := s.devId, score := m.core.val, spl := true, data := moveRecord m }
      (dropMove s m.id).setCore m.core.val ((s.core m.core.val).record e)
    else putMove s { m with release := [] }
  | (s, l) => putMove s { m with release := l }

/-- A move has taken effect, or failed: what its record will hold, and the runs that it gives back (R254, R255). -/
def moveEnd (s : State) (m : Move) (stat : Nat) (new : DWord) (npois : Nat) (runs : List Run) : State :=
  let m := { m with phase := 9, stat := stat, new := new, npois := npois, endTide := s.tide, release := runs, lines := [] }
  match pushAll (dropWork s m.id) runs with
  | (s, []) => moveFinish s { m with release := [] }
  | (s, r :: rs) => putMove (raiseWait s r m.page) { m with release := r :: rs }

def moveFail (s : State) (m : Move) (stat : Nat) (runs : List Run) : State := moveEnd s m stat m.old 0 runs

/-- The run of an entry, which a move gives back. -/
def entryRuns (e : DWord) : List Run :=
  match eState e with
  | 0 => [(eSet e, false, eCell e, 4)]
  | 1 => oldRun e
  | 2 => [heapRunOf e]
  | _ => []

/-- The entry of a page, with the codes of a T1 page, takes effect; the page's poison of R280 ends. -/
def putPage (s : State) (page : Nat) (e : DWord) (codes : Nat) : State :=
  let s := endLost (setEntry s page e) page
  if eState e = Ent.t1 then setCodes s page codes else s

/-- The new entry takes effect, and the old run goes to its release ring. -/
def moveDone (s : State) (m : Move) (new : DWord) (codes : Nat) (ls : List (Line × Bool)) (left : List Run) : State :=
  let s := putPage s m.page new codes
  let n := poisonCount ls
  moveEnd s m (if n = 0 then 0 else 3) (storedEntry s m.page) n (left ++ entryRuns m.old)

/-- Runs that no open request or move pushes, of which those wait whose ring is full (R255). -/
def releaseRuns (s : State) (page : Nat) (l : List Run) : State :=
  match pushAll s l with
  | (s, []) => s
  | (s, r :: rs) =>
    let s := raiseWait s r page
    { s with tier := { s.tier with ringWait := s.tier.ringWait ++ (r :: rs).map (fun x => (x.1, x.2.1, x.2.2.1, x.2.2.2, page)) } }

/-! ### The store of a page in a tier (R269, R304) -/

/-- The lines of a page as T1 stores them from sector `o` of a run at location `loc` of a set: codes and bytes. -/
def encodeLines (s : State) (n loc page : Nat) : Nat → Nat → List (Line × Bool) → State × List (Nat × List Nat)
  | _, _, [] => (s, [])
  | i, o, (d, p) :: r =>
    let (s, c, b) := if p then (s, 5, []) else encodeLine s n (loc + 16 * o) page i d (lineCheck d)
    let (s, l) := encodeLines s n loc page (i + 1) (o + codeSectors c) r
    (s, (c, b) :: l)

/-- The cells that the lines take as the encoder makes them, the least run being one cell. -/
def cellsOf (s : State) (ls : List (Line × Bool)) : Nat :=
  max 1 (ceilDiv ((ls.map (fun x => if x.2 then 0 else codeSectors (grainOf s x.1).1)).foldl (· + ·) 0) 64)

/-- A coded stream of quadrant `q` meets the injection armed on its crystallizer (R314), or a fault that the verify decoder finds
(R306). A page that makes no coded stream has none to verify. -/
def verifyFails (s : State) (q page : Nat) (bad : Bool) (ls : List (Line × Bool)) : State × Bool :=
  match (heapForm s ls false).1 with
  | .none => (s, false)
  | some b =>
    let inj := decide (s.tier.inject = some (8 + q))
    let s := if inj then useInjection s else s
    if inj || bad || !streamVerifies b ls then
      let s := addRedo (tick s (bHc q) 3 1) (2 * q)
      (raiseCry s Src.heapVerify (8 + q) (page * 4096) {}, true)
    else (s, false)

/-- A page stored in a tier of a set: its entry, its codes and what a longer run left; none: no cells or blocks. `bad`: the verify
decoder of the heap crystallizer finds a fault. -/
def storePage (s : State) (m : Move) (tier : Nat) (ls : List (Line × Bool)) (bad : Bool) :
    State × Option (DWord × Nat × List Run) :=
  let n := m.set
  let own := eOwn m.old
  let slot := m.key.getD 0
  if tier ≠ 0 ∧ zeroPage ls then (s, some (mkEnt Ent.tz own n 0, 0, []))
  else match tier with
    | 0 =>
      match allocate s false n 4 false m.page with
      | (s, some (u, left)) =>
        let (s, ls) := bypassLines s n (1024 * u) m.page 0 (fresh ls)
        (storeAll s (rawWrites s n (1024 * u) m.page slot .none ls), some (mkEnt Ent.t0 own n u, 0, left))
      | (s, .none) => (s, .none)
    | 1 =>
      let (s, enc) := encodeLines s n (1024 * peekCell s n (cellsOf s ls)) m.page 0 0 ls
      let (codes, xs) := packLines (sealOf s slot) m.page 0 enc
      let k := max 1 (ceilDiv xs.length 64)
      match allocate s false n k false m.page with
      | (s, some (u, left)) =>
        (storeAll s (sectWrites s n (1024 * u) (padCells xs k)),
          some (mkEnt Ent.t1 own n (u + (k - 1) * 2 ^ 35), packCodes codes, left))
      | (s, .none) => (s, .none)
    | _ =>
      let q := homeSlice (m.page * 4096)
      let (s, fails) := verifyFails (tick s (bHc q) 0 1) q m.page bad ls
      let (form, k) := heapForm s ls fails
      match allocate s true n k false m.page with
      | (s, some (u, left)) =>
        let s := tick (if form = .none then tick s (bHc q) 2 1 else s) (bHc q) 1 k
        let (s, w) := heapChecked s n u k m.page slot form (fresh ls)
        (storeAll s w, some (mkEnt Ent.t2 own n (u + (k - 1) * 2 ^ 37), 0, left))
      | (s, .none) => (s, .none)

/-- The crystallizer that a tier's coding needs has left service. -/
def tierUnready (s : State) (page tier : Nat) : Bool := decide (tier = 2) && !readyHc s (homeSlice (page * 4096))

/-- A move that cannot store its page fails with STAT 1; one that fetches from a peer tells it. A heap crystallizer that left service
while the move ran is taken as no heap blocks (DESIGN CHOICE, log entry 207). -/
def moveNoRoom (s : State) (m : Move) : State :=
  let s := if eState m.old = Ent.tr then sendMove s (eDev m.old) 8 m.id m.tag (ePpage m.old * 4096) 0 false else s
  moveFail s m 1 []

/-- The lines of a move are stored: a move within the device ends; a move from a peer asks it to clear its page (R272). -/
def moveStore (s : State) (m : Move) (ls : List (Line × Bool)) (bad : Bool) : State :=
  if tierUnready s m.page m.tgt then moveNoRoom s m
  else match storePage s m m.tgt ls bad with
    | (s, .none) => moveNoRoom s m
    | (s, some (e, codes, left)) =>
      if eState m.old = Ent.tr then
        let s := if eState e = Ent.t1 then setCodes s m.page codes else s
        let s := putMove s { m with phase := 7, new := e, npois := poisonCount ls, release := left, since := s.clock, lines := [] }
        sendMove s (eDev m.old) 7 m.id m.tag (ePpage m.old * 4096) 0 false
      else moveDone s m e codes ls left

/-- All lines of a move are at hand: a heap encode is a job of its crystallizer (R309). -/
def moveLines (s : State) (m : Move) (ls : List (Line × Bool)) : State :=
  if m.tgt = 2 ∧ !zeroPage ls then
    putMove s { m with phase := 3, lines := (List.range 64).map (fun i => (i, ls.getD i (0, true))) }
  else moveStore s m ls false

/-- The 64 lines in order. -/
def linesOfMap (l : SMap (Line × Bool)) : List (Line × Bool) := (List.range 64).map (fun i => smGet (0, false) l i)

end Sys2Proof.Machine
end

