-- ==== Sys2Proof/Machine/HeapJobs.lean ====
section
/-! DEFINITION. Jobs of the heap crystallizers (spec/08 R262, R306 to R310, R314), the runs that wait for a release ring (R255), and
the enables of the crystallizers and of the crypto engines (R567). -/

namespace Sys2Proof.Machine

/-! ### Jobs -/

def setJobs (s : State) (l : List HeapJob) : State := { s with tier := { s.tier with jobs := l } }
def dropJob (s : State) (j : HeapJob) : State := setJobs s (s.tier.jobs.erase j)
def putJob (s : State) (j j' : HeapJob) : State := setJobs s (s.tier.jobs.map (fun x => if x = j then j' else x))

/-- The job needs the page decoder: a decode, or a T2 write not yet decoded (R262). -/
def onDecoder (j : HeapJob) : Bool := decide (j.kind = 0 ∨ j.kind = 4) || (decide (j.kind = 2) && !j.decoded)

/-- A job of a page move, which pauses in HOLD (R161). -/
def moveKind (j : HeapJob) : Bool := decide (j.kind = 1 ∨ j.kind = 4)
def pausedJob (s : State) (j : HeapJob) : Bool := moveKind j && holding s

/-- HEAP_JOB_START: the first job of the queue, in admission order, whose engine is free, begins, while the crystallizer is READY. -/
def jobStart (s : State) (q : Nat) : State :=
  let l := jobsOf s q
  let busy (dec : Bool) : Bool := l.any (fun j => j.running && (onDecoder j == dec))
  match l.find? (fun j => !j.running && !busy (onDecoder j) && !pausedJob s j) with
  | some j => if readyHc s q then putJob s j { j with running := true } else s
  | .none => s

def execHeapJobStart (q : Fin 4) (s : State) : Host.Outcome State Fault Refusal := done (jobStart s q)

/-- A read that waits for this decode: of its page and slot, admitted under the same entry (R308). -/
def waitsFor (j : HeapJob) (t : Txn) : Bool :=
  decide (t.phase = .heap ∧ t.wdata.isNone ∧ pageOf t.req.line = j.page ∧ reqSlot t.req = j.slot ∧ t.seen = j.seen) &&
    !isPageOp t.req.kind

/-- The reads of a page that wait for its decode are served (R308). -/
def serveDecode (s : State) (j : HeapJob) (ls : List (Line × Bool)) : List Txn → State
  | [] => s
  | t :: r =>
    let x := ls.getD (lineIdx t.req.line) (0, true)
    serveDecode (if waitsFor j t then gotData s t x.1 x.2 false else s) j ls r

/-- A decode for a move ends: the move within the device or to a peer goes on, or the page is sent to the peer that fetches it. -/
def moveDecoded (s : State) (j : HeapJob) (ls : List (Line × Bool)) : State :=
  match s.tier.moves.find? (fun m => decide (m.id = j.txn ∧ m.phase = 2)) with
  | some m => moveGo s { m with lines := (List.range 64).map (fun i => (i, ls.getD i (0, true))) }
  | .none =>
    match s.tier.peerMoves.find? (fun x => decide (x.sending ∧ x.rid = j.txn)) with
    | some x => sendPage s x.dev x.mid x.tag 0 ls
    | .none => s

/-- A decoded page enters the page buffer, which keeps the last 64 (R248). -/
def fillBuffer (s : State) (j : HeapJob) (ls : List (Line × Bool)) : State :=
  let b := smGet [] s.tier.bufs j.quad
  let e : HeapBuf := { page := j.page, slot := j.slot, gen := genOf s j.slot, lines := ls }
  let l := b.filter (fun x => decide (x.page ≠ j.page)) ++ [e]
  { s with tier := { s.tier with bufs := smSet [] s.tier.bufs j.quad (l.drop (l.length - 64)) } }

/-- A decode ends with these lines; `good` tells that the stream was accepted. -/
def decodeEnds (s : State) (j : HeapJob) (ls : List (Line × Bool)) (good : Bool) : State :=
  let s := tick s (bHc j.quad) 4 1
  if j.kind = 0 then
    let s := dropJob s j
    let s := if good && !j.drop then fillBuffer s j ls else s
    serveDecode s j ls s.coh.txns
  else if j.kind = 4 then moveDecoded (dropJob s j) j ls
  else
    match getTxn s j.txn with
    | .none => dropJob s j
    | some t =>
      match t.wdata with
      | some (line, d, p, _, _) =>
        if good then putJob s j { j with running := false, decoded := true, lines := ls.set (lineIdx line) (d, p) }
        else storeDone (dropJob s j) t
      | .none => dropJob s j

/-- A stream that the decoder rejects is read and decoded once more; a second rejection is final (R307). -/
def decodeRejected (s : State) (j : HeapJob) : State :=
  let line := j.page * 4096
  if j.tries = 0 then
    let s := raiseCry s Src.heapDecode (8 + j.quad) line {}
    putJob (addRedo s (2 * j.quad)) j { j with tries := 1 }
  else decodeEnds (raiseCry s Src.heapTwice (8 + j.quad) line {}) j lostPage false

/-- A burst of a coded stream is poison-marked: every line of the page is poisoned (R544). -/
def streamMarked (s : State) (e : DWord) : Bool :=
  (burstLocs (256 * eBlk e) (16 * (eNb e + 1))).any (markedAt s (eSet e))

/-- The bursts of the page that the decoder of quadrant `q` reads have come, with these errors. -/
def decodeComplete (s : State) (q : Nat) (errs : List (List (Nat × Word))) : State :=
  match (jobsOf s q).find? (fun j => j.running && onDecoder j && !pausedJob s j) with
  | .none => s
  | some j =>
    let e := j.seen
    if !pageServable s j.page || decide (eState e ≠ Ent.t2) then decodeEnds s j lostPage false
    else
      let (s, bad) := readMany s (pageReadKeys s e) errs
      if decide (eNb e < 15) && streamMarked s e && bad = [] then decodeEnds s j lostPage true
      else match readPage s e j.page j.slot bad with
        | some ls => decodeEnds s j ls true
        | .none => decodeRejected s j

/-- The configuration set of the job on the decoder, or on the encoder, of a quadrant (R188). -/
def jobSet (s : State) (q : Nat) (dec : Bool) : Nat :=
  match (jobsOf s q).find? (fun j => j.running && (onDecoder j == dec)) with
  | some j => j.cset
  | .none => s.sets.swaps

def execHeapDecodeComplete (q : Fin 4) (errs : List (List (Nat × Word))) (s : State) : Host.Outcome State Fault Refusal :=
  flowDone (underSet s (jobSet s q true) (fun s => decodeComplete s q errs))

/-- The page encoder of quadrant `q` ends its job; `bad`: the verify decoder finds a fault (R306). -/
def encodeComplete (s : State) (q : Nat) (bad : Bool) : State :=
  match (jobsOf s q).find? (fun j => j.running && !onDecoder j && !pausedJob s j) with
  | .none => s
  | some j =>
    let s := dropJob s j
    if j.kind = 1 then
      match s.tier.moves.find? (fun m => decide (m.id = j.txn ∧ m.phase = 3)) with
      | some m => moveStore s m j.lines bad
      | .none => s
    else match getTxn s j.txn with
    | .none => s
    | some t =>
      if j.kind = 3 then
        match t.req.origin with
        | .core n rd => closeTxn (reqDone t.req (tick s (bHc q) 6 1) n.val rd (probeResult s j.lines)) t
        | _ => closeTxn s t
      else match t.wdata with
        | some (line, _, _, slot, lc) =>
          let s := tick s (bHc q) 0 1
          let (s, fails) := if codes2 s j.page j.lines then verifyFails s q j.page bad j.lines else (s, false)
          let (form, m) := heapForm s j.lines fails
          let s := tick (if form = .none then tick s (bHc q) 2 1 else s) (bHc q) 1 m
          let (s, pl) := planT2 s j.page (lineIdx line) slot j.lines lc fails
          takePlan s t pl
        | .none => s

def execHeapEncodeComplete (q : Fin 4) (bad : Bool) (s : State) : Host.Outcome State Fault Refusal :=
  flowDone (underSet s (jobSet s q false) (fun s => encodeComplete s q bad))

/-- "Heap engine unavailable" of each read that waits for a decode. -/
def raiseReads (s : State) (j : HeapJob) : List Txn → State
  | [] => s
  | t :: r => raiseReads (if waitsFor j t then heapUnavailable s t.req.line else s) j r

/-- A page move whose heap crystallizer has left service fails; a peer that fetches the page is told. -/
def flushMove (s : State) (j : HeapJob) : State :=
  match s.tier.moves.find? (fun m => decide (m.id = j.txn)) with
  | some m => moveNoRoom s m
  | .none =>
    match s.tier.peerMoves.find? (fun x => decide (x.sending ∧ x.rid = j.txn)) with
    | some x => sendMove { s with tier := { s.tier with peerMoves := s.tier.peerMoves.erase x } } x.dev 8 x.mid x.tag 0 0 false
    | .none => s

/-- The jobs of a heap crystallizer that has left service end: reads with poison, writes without storing (R309), probes with ERR. -/
def flushJob (s : State) (j : HeapJob) : State :=
  let s := dropJob s j
  if j.kind = 0 then serveDecode (raiseReads s j s.coh.txns) j lostPage s.coh.txns
  else if moveKind j then flushMove s j
  else match getTxn s j.txn with
    | .none => s
    | some t =>
      if j.kind = 3 then
        match t.req.origin with
        | .core n rd => closeTxn (reqDone t.req s n.val rd (BitVec.ofNat 64 (2 ^ 63))) t
        | _ => closeTxn s t
      else storeDone (heapUnavailable s (match t.wdata with | some w => w.1 | .none => j.page * 4096)) t

def flushJobs (s : State) : List HeapJob → State
  | [] => s
  | j :: r => flushJobs (if readyHc s j.quad then s else flushJob s j) r

/-! ### Registers of the crystallizers and engines -/

/-- A write of CRY_TEST (R314). -/
def wrCryTest (s : State) (v : Word) : State :=
  if s.code ≠ Mode.test then s
  else
    let u := fld v 3 0
    let s := s.setF Reg.CRY_TEST 3 0 u
    if bit v 4 && decide (u < 12) then ({ s with tier := { s.tier with inject := some u } }).setBit Reg.CRY_TEST 4 true else s

def execCryInject (p : Path) (v : Word) (s : State) : Host.Outcome State Fault Refusal :=
  done (guardedWrite s p Reg.CRY_TEST (fun s => takeWrite (wrCryTest s v) Reg.CRY_TEST))

/-- A write of CRY_PBFLUSH (R308): the page buffers empty at once, and decodes that run keep their page out of them. -/
def wrPbflush (s : State) (v : Word) : State :=
  { s with tier := { s.tier with
    bufs := s.tier.bufs.filter (fun e => !bit v e.1)
    jobs := s.tier.jobs.map (fun j => if bit v j.quad ∧ j.kind = 0 ∧ j.running then { j with drop := true } else j) } }

def execPageBufferFlush (p : Path) (v : Word) (s : State) : Host.Outcome State Fault Refusal :=
  done (guardedWrite s p Reg.CRY_PBFLUSH (fun s => wrPbflush s v))

/-- The enable of one crystallizer or engine takes a value (R567, R295, R320): an isolated unit stays off while the source
that isolated it is set. -/
def cryEnable (s : State) (v : Word) (u : Nat) : State :=
  let was := s.bit Reg.CRY_UNITEN u
  if bit v u ∧ !was then
    if canEnable s (uCry u) then
      let s := unisolate (s.setBit Reg.CRY_UNITEN u true) (uCry u)
      if u < 8 then setReadyGc s u true else setReadyHc s (u - 8) true
    else s
  else if !bit v u ∧ was then
    let s := s.setBit Reg.CRY_UNITEN u false
    if u < 8 then gcGone s u else setReadyHc s (u - 8) false
  else s

def xeEnable (s : State) (v : Word) (u : Nat) : State :=
  let was := s.bit Reg.CRY_XEEN u
  if bit v u ∧ !was then
    if canEnable s (uXe u) then setReadyXe (unisolate (s.setBit Reg.CRY_XEEN u true) (uXe u)) u true else s
  else if !bit v u ∧ was then xeGone (s.setBit Reg.CRY_XEEN u false) u
  else s

def wrUniten (s : State) (v : Word) : State :=
  let s := (List.range 12).foldl (fun s u => cryEnable s v u) s
  flushJobs s s.tier.jobs

def wrXeen (s : State) (v : Word) : State := (List.range 8).foldl (fun s u => xeEnable s v u) s

/-- ENGINE_ENABLE_WRITE: CRY_UNITEN, or CRY_XEEN when `xe`. -/
def execEngineEnableWrite (p : Path) (xe : Bool) (v : Word) (s : State) : Host.Outcome State Fault Refusal :=
  flowDone (settle (guardedWrite s p (if xe then Reg.CRY_XEEN else Reg.CRY_UNITEN)
    (fun s => if xe then takeWrite (wrXeen s v) Reg.CRY_XEEN else takeWrite (wrUniten s v) Reg.CRY_UNITEN)))

/-! ### Runs that wait for a release ring (R255) -/

/-- The stores whose runs wait push on. -/
def resumePush (s : State) : List Txn → State
  | [] => s
  | t :: r =>
    let s := if t.phase = .ring then
        match pushAll s t.release with
        | (s, []) => storeDone s t
        | (s, l) => putTxn s { t with release := l }
      else s
    resumePush s r

/-- Page moves that have taken effect go on to their records. -/
def finishMoves (s : State) : List Move → State
  | [] => s
  | m :: r => finishMoves (if m.phase = 9 then moveFinish s m else s) r

/-- The runs that nothing else pushes go on. -/
def resumeRing (s : State) : List (Nat × Bool × Nat × Nat × Nat) → State
  | [] => s
  | w :: r =>
    let run : Run := (w.1, w.2.1, w.2.2.1, w.2.2.2.1)
    let s := match pushAll s [run] with
      | (s, []) => { s with tier := { s.tier with ringWait := s.tier.ringWait.erase w } }
      | (s, _) => s
    resumeRing s r

def execReleasePushResume (s : State) : Host.Outcome State Fault Refusal :=
  let s := resumePush s s.coh.txns
  let s := finishMoves s s.tier.moves
  flowDone (resumeRing s s.tier.ringWait)

end Sys2Proof.Machine
end

