-- ==== Sys2Proof/Machine/Moves.lean ====
section
/-! DEFINITION. Page moves (spec/04 R125 to R129, spec/07 R269 to R273, spec/14 R505, R530): the PMOV operation, the copy within
the device, the frames of moves to and from a peer, and the completion record. -/

namespace Sys2Proof.Machine

/-! ### The copy within the device (R269, R294, R304) -/

/-- The lines of a page that do not read as data or as marked poison, as a mask. -/
def mismatchMask (s : State) (e : DWord) (codes page slot : Nat) (bad : List Nat) : Nat :=
  (List.range 64).foldl (fun a i => match readLine s e codes page i slot bad with
    | .mismatch _ => a + 2 ^ i
    | _ => a) 0

/-- The first reading of a page: the lines that the decoder rejects raise "grain decode error" (R294). -/
def raiseRejects (s : State) (e : DWord) (codes page slot : Nat) (bad : List Nat) : List Nat → State
  | [] => s
  | i :: r =>
    let line := page * 4096 + 64 * i
    let s := match readLine s e codes page i slot bad with
      | .mismatch true => raiseCry s Src.grainDecode (gcOf s e codes line) line {}
      | _ => s
    raiseRejects s e codes page slot bad r

/-- The second reading: lines that the first did not accept are recovered, or poison (R35, R294). -/
def secondLine (s : State) (e : DWord) (codes page slot : Nat) (bad : List Nat) (mask i : Nat) : State × (Line × Bool) :=
  let line := page * 4096 + 64 * i
  let info : Info := { atype := 6, akind := 1, addr := line }
  match readLine s e codes page i slot bad with
  | .good l => (if mask.testBit i then raiseWith s Src.lineCheckRecovered info else s, (l, false))
  | .poison => (s, (0, true))
  | .mismatch grain =>
    (if grain then raiseCry s Src.grainTwice (gcOf s e codes line) line {} else raiseWith s Src.lineCheckTwice info, (0, true))

def secondLines (s : State) (e : DWord) (codes page slot : Nat) (bad : List Nat) (mask : Nat) :
    List Nat → State × List (Line × Bool)
  | [] => (s, [])
  | i :: r =>
    let (s, x) := secondLine s e codes page slot bad mask i
    let (s, l) := secondLines s e codes page slot bad mask r
    (s, x :: l)

/-- The bursts of a move's page have come: its lines, or none when some must be read once more. -/
def moveRead (s : State) (m : Move) (bad : List Nat) : State × Option (List (Line × Bool)) :=
  let e := m.old
  let codes := codesOf s m.page
  let slot := m.key.getD 0
  if !pageGood s m.page then (s, some lostPage)
  else match m.again with
    | some mask =>
      let (s, ls) := secondLines s e codes m.page slot bad mask (List.range 64)
      (s, some ls)
    | .none =>
      let mask := mismatchMask s e codes m.page slot bad
      if mask = 0 then (s, some ((List.range 64).map (fun i => lineFinal s e codes m.page i slot bad)))
      else
        let s := addRedo (raiseRejects s e codes m.page slot bad (List.range 64)) (2 * homeSlice (m.page * 4096))
        (putMove s { m with again := some mask }, .none)

/-- PAGE_MOVE_COMPLETE: the copy of a move within the device ends, outside HOLD (R161); `errs` are the errors of the bursts read. -/
def moveComplete (s : State) (c slot : Nat) (errs : List (List (Nat × Word))) : State :=
  match s.tier.moves.find? (fun m => decide (m.core.val = c ∧ m.slot = slot ∧ m.phase = 1)) with
  | .none => s
  | some m =>
    if holding s then s
    else underSet s m.cset (fun s =>
      if m.lines ≠ [] then moveLines s m (linesOfMap m.lines)
      else
        let (s, bad) := readMany s (pageReadKeys s m.old) errs
        match moveRead s m bad with
        | (s, some ls) => moveLines s m ls
        | (s, .none) => s)

def execPageMoveComplete (c : Fin 16) (slot : Fin 8) (errs : List (List (Nat × Word))) (s : State) :
    Host.Outcome State Fault Refusal :=
  flowDone (moveComplete s c slot errs)

/-! ### Frames of a move (R505) -/

def abortTo (s : State) (f : Frame) : State := sendMove s f.src 8 f.txid f.tag (f.line * 64) 0 false

/-- The page that a peer's frame names can be neither lent nor taken now. -/
def pageBusy (s : State) (page : Nat) : Bool := heldPage s page || moving s page

/-- A frame of a move that nothing here waits for (R366, R530). -/
def unmatchedMove (s : State) (f : Frame) : State :=
  raiseHome s Src.unmatchedFrame (f.line * 64 % 2 ^ 46) f.src
    { atype := 6, akind := 1, addr := f.line * 64, mkind := 2, mdev := f.src, mid := Config.freeNat s.fresh % 32 }

/-- MVREQ at the peer of a move to TR (R271). -/
def mvreq (s : State) (f : Frame) : State :=
  let page := pageOf (f.line * 64)
  let ref (s : State) (k : Nat) : State := sendMove s f.src 3 f.txid f.tag (f.line * 64) (BitVec.ofNat 512 k) false
  let e := storedEntry s page
  if s.code = Mode.safe then abortTo s f
  else if !pageGood s page || decide (eState e < 4) then ref s 1
  else if pageBusy s page then ref s 3
  else match tagSlot s f.tag with
    | .none => abortTo (keyRefused s Src.noKeySelection 0 (page * 4096) {}) f
    | some k =>
      if !keyLoaded s k then abortTo (keyRefused s Src.keyEmpty k (page * 4096) {}) f
      else
        let s := writeBlock s page
        let n := allocSet s e false 4
        match allocate s false n 4 false page with
        | (s, .none) => ref s 2
        | (s, some (u, left)) =>
          let x : PeerMove := { dev := f.src, mid := f.txid, page := page, tag := f.tag, sending := false, run := u
                                rid := n, since := s.clock, key := k, cset := takenSet s f, release := left }
          sendMove { s with tier := { s.tier with peerMoves := s.tier.peerMoves ++ [x] } } f.src 2 f.txid f.tag (page * 4096) 0 false

def peerMoveOf (s : State) (f : Frame) : Option PeerMove :=
  s.tier.peerMoves.find? (fun x => decide (x.dev = f.src ∧ x.mid = f.txid))

def dropPeerMove (s : State) (x : PeerMove) : State :=
  { s with tier := { s.tier with peerMoves := s.tier.peerMoves.erase x } }

/-- A peer's hold of a page ends without the move: what was taken for it goes back. -/
def endPeerMove (s : State) (x : PeerMove) : State :=
  if x.done then s
  else if x.sending then dropWork (dropPeerMove s x) x.rid
  else releaseRuns (dropPeerMove s x) x.page (x.release ++ [(x.rid, false, x.run, 4)])

/-- What a peer's page of a move no longer uses goes to its release ring, and MVDONE goes out; a full ring makes both wait (R255). -/
def peerDone (s : State) (x : PeerMove) (runs : List Run) : State :=
  match pushAll s runs with
  | (s, []) => sendMove (dropPeerMove s x) x.dev 5 x.mid x.tag (x.page * 4096) 0 false
  | (s, r :: rs) =>
    let s := if x.done then s else raiseWait s r x.page
    { s with tier := { s.tier with peerMoves := s.tier.peerMoves.map (fun y => if y = x then { x with done := true, release := r :: rs } else y) } }

/-- All lines of a move to TR have come: the peer writes its page as T0, checked by R292, and answers MVDONE. -/
def peerStore (s : State) (x : PeerMove) : State :=
  let e := storedEntry s x.page
  let (s, ls) := bypassLines s x.rid (1024 * x.run) x.page 0 (fresh (linesOfMap x.lines))
  let s := storeAll s (rawWrites s x.rid (1024 * x.run) x.page x.key .none ls)
  peerDone (putPage s x.page (mkEnt Ent.t0 (eOwn e) x.rid x.run) 0) x x.release

/-- The peer moves that wait for a release ring go on. -/
def finishPeers (s : State) : List PeerMove → State
  | [] => s
  | x :: r => finishPeers (if x.done then peerDone s x x.release else s) r

/-- A line of a move, at the peer or at the device that fetches its page. A line is counted when it has come once. -/
def mvdata (s : State) (f : Frame) : State :=
  let v := (f.data, decide (128 ≤ f.opcode))
  let i := f.line % 64
  match peerMoveOf s f with
  | some x =>
    if x.sending ∨ x.done then s
    else
      let x' := { x with lines := smInsert (smErase x.lines i) i v, since := s.clock }
      let s := { s with tier := { s.tier with peerMoves := s.tier.peerMoves.map (fun y => if y = x then x' else y) } }
      if x'.lines.length = 64 then peerStore s x' else s
  | .none =>
    match s.tier.moves.find? (fun m => decide (m.id % 65536 = f.txid ∧ m.phase = 6 ∧ eDev m.old = f.src)) with
    | .none => unmatchedMove s f
    | some m =>
      let m' := { m with lines := smInsert (smErase m.lines i) i v, since := s.clock }
      if m'.lines.length < 64 then putMove s m'
      else underSet s m.cset (fun s => moveLines s m' (linesOfMap m'.lines))

/-- MVGO: the peer holds its page; the source's lines go out (R505). -/
def mvgo (s : State) (f : Frame) : State :=
  match s.tier.moves.find? (fun m => decide (m.id % 65536 = f.txid ∧ m.phase = 4 ∧ m.dev = f.src)) with
  | .none => unmatchedMove s f
  | some m =>
    let (s, ls) := if m.lines ≠ [] then (s, linesOfMap m.lines) else pageNow s m.page (m.key.getD 0) []
    let s := putMove s { m with phase := 5, npois := poisonCount ls, since := s.clock, lines := [] }
    sendPage s m.dev m.id m.tag (m.ppage * 4096) ls

/-- What a move that fails has taken: the run of its new entry, with what its allocation left. -/
def newRuns (m : Move) : List Run := if m.phase = 7 then m.release ++ entryRuns m.new else []

/-- The peer of a move to or from TR. -/
def movePeer (m : Move) : Option Nat :=
  if m.tgt = 3 then some m.dev else if eState m.old = Ent.tr then some (eDev m.old) else .none

/-- MVREF and MVABT at the mover (R271, R530). -/
def moveTurned (s : State) (f : Frame) (phases : List Nat) : State :=
  match s.tier.moves.find? (fun m => decide (m.id % 65536 = f.txid ∧ movePeer m = some f.src) && phases.contains m.phase) with
  | .none => unmatchedMove s f
  | some m => moveFail s m 2 (newRuns m)

/-- MVDONE: a move to TR writes its entry; a move from TR, whose peer has cleared its page, too (R272). -/
def mvdone (s : State) (f : Frame) : State :=
  match s.tier.moves.find? (fun m => decide (m.id % 65536 = f.txid)) with
  | .none => unmatchedMove s f
  | some m =>
    if m.phase = 5 ∧ m.dev = f.src then
      let new := BitVec.ofNat 64 (Ent.tr * 2 ^ 61 + eOwn m.old * 2 ^ 56 + eSet m.old * 2 ^ 51 + m.dev * 2 ^ 41 + m.ppage * 2 ^ 7)
      let s := putPage s m.page new 0
      moveEnd s m (if m.npois = 0 then 0 else 3) (storedEntry s m.page) m.npois (entryRuns m.old)
    else if m.phase = 7 ∧ eDev m.old = f.src then
      let s := endLost (setEntry s m.page m.new) m.page
      moveEnd s m (if m.npois = 0 then 0 else 3) (storedEntry s m.page) m.npois m.release
    else unmatchedMove s f

/-- MVGET at the peer of a move from TR: its page is held and its lines are recalled (R272). -/
def mvget (s : State) (f : Frame) : State :=
  let page := pageOf (f.line * 64)
  if s.code = Mode.safe ∨ !pageServable s page ∨ mapUnread s page ∨ eState (storedEntry s page) = Ent.tr ∨ pageBusy s page then
    abortTo s f
  else match tagSlot s f.tag with
    | .none => abortTo (keyRefused s Src.noKeySelection 0 (page * 4096) {}) f
    | some k =>
      if !keyLoaded s k then abortTo (keyRefused s Src.keyEmpty k (page * 4096) {}) f
      else
        let (s, id) := takeId s
        let x : PeerMove := { dev := f.src, mid := f.txid, page := page, tag := f.tag, sending := true, rid := id
                              since := s.clock, key := k, cset := takenSet s f }
        let s := { s with tier := { s.tier with peerMoves := s.tier.peerMoves ++ [x] } }
        submit (dropBuffer s page) { mkInternal s id .move 2 s.devId (page * 4096) with tag := f.tag, slot := some k }

/-- MVCLR at the peer: its entry becomes TZ, and its run goes to its own release ring (R272). -/
def mvclr (s : State) (f : Frame) : State :=
  match peerMoveOf s f with
  | .none => unmatchedMove s f
  | some x =>
    let e := storedEntry s x.page
    if x.done then s
    else peerDone (putPage s x.page (mkEnt Ent.tz (eOwn e) (eSet e) 0) 0) x (entryRuns e)

/-- MVABT: the move fails, and the peer's page keeps its entry. -/
def mvabt (s : State) (f : Frame) : State :=
  match peerMoveOf s f with
  | some x => endPeerMove s x
  | .none => moveTurned s f [3, 4, 5, 6, 7]

/-- The frame names a page that a changing key slot keeps waiting (R327, R334). -/
def moveKeyWaits (s : State) (f : Frame) : Bool :=
  match tagSlot s f.tag with
  | some k => keyChanging s k
  | .none => false

/-- A move's frame leaves the take buffers and does its work, under the set active when the device took it (R189); in HOLD moves pause
(R161), and a request whose key slot changes waits. -/
def moveFrame (s : State) (f : Frame) (request : Bool) (act : State → Frame → State) : Host.Outcome State Fault Refusal :=
  if holding s || (request && moveKeyWaits s f) then done s
  else flowDone (underSet s (takenSet s f) (fun s => dropTaken (act s f) f))

def execMvreq (f : Frame) (s : State) : Host.Outcome State Fault Refusal := moveFrame s f true mvreq
def execMvgo (f : Frame) (s : State) : Host.Outcome State Fault Refusal := moveFrame s f false mvgo
def execMvref (f : Frame) (s : State) : Host.Outcome State Fault Refusal := moveFrame s f false (fun s f => moveTurned s f [4])
def execMvdata (f : Frame) (s : State) : Host.Outcome State Fault Refusal := moveFrame s f false mvdata
def execMvdone (f : Frame) (s : State) : Host.Outcome State Fault Refusal := moveFrame s f false mvdone
def execMvget (f : Frame) (s : State) : Host.Outcome State Fault Refusal := moveFrame s f true mvget
def execMvclr (f : Frame) (s : State) : Host.Outcome State Fault Refusal := moveFrame s f false mvclr
def execMvabt (f : Frame) (s : State) : Host.Outcome State Fault Refusal := moveFrame s f false mvabt

/-- The end-to-end timer of a move's step expires (R530). -/
def moveTimeout (s : State) (m : Move) : State :=
  let s := raiseTier (raisePool s 2 (if m.tgt = 3 then m.dev else eDev m.old)) Src.peerMoveTimeout (m.page * 4096) {}
  moveFail s m 2 (newRuns m)

end Sys2Proof.Machine
end

