-- ==== Sys2Proof/Machine/CohRows.lean ====
section
/-! DEFINITION. The conveyor's coherence messages (spec/10 R362 to R375), the end-to-end timers of spec/14 R530, the sweep and the
flushes, the directory query by register, and the end of a key slot's change. -/

namespace Sys2Proof.Machine

/-! ### Requests at their home (R364, R369, R374, R532) -/

/-- A peer's request as ingress fixes it (R326, R420). -/
def peerReq (s : State) (f : Frame) (k : ReqKind) (id : Nat) : Req :=
  let line := f.line * 64
  { id := id, origin := .peer f.src f.txid, kind := k, dev := s.devId, line := line, tag := f.tag, slot := tagSlot s f.tag
    sluice := sluiceOf s f.tag line, data := f.data, mask := 2 ^ 64 - 1, poison := decide (128 ≤ f.opcode), hdmh := false
    off := 0, wide := false, a := line, b := 0, lc := madeCheck f.data, cset := takenSet s f }

/-- In HOLD the slice takes the frame into its wait buffer while there is room (R532). -/
def holdFits (s : State) (r : Req) : Bool :=
  decide (waitCount s (sliceOf r) + (s.coh.ingress.filter (fun x => isConveyor x && decide (sliceOf x = sliceOf r))).length < 512)

/-- A write that needs a reframe, a reserve fallback or a T2 write beyond the limit of its quadrant (R263). -/
def noReframe (s : State) (r : Req) : Bool :=
  isWrite r.kind && wantsRf s (pageOf r.line) (shapeOf s r.line r.data r.poison (reqCheck r)) &&
    decide (rfMax s ≤ rfActive s (sliceOf r))

/-- The frame keeps riding its course: its page is held, or it is a write that no reframe is free for (R263, R264). -/
def rides (s : State) (r : Req) : Bool :=
  heldPage s (pageOf r.line) || heldByMove s r || noReframe s r

/-- A peer's request as its slice gets it, with the identifier that it takes (R658). -/
def peerIn (s : State) (f : Frame) (k : ReqKind) : Req := { peerReq s f k 0 with id := (takeId s).2 }

/-- The slice tries a peer's request in this clock: one that it does not admit keeps riding, and so stays in its take buffer. -/
def peerTry (s : State) (f : Frame) (r : Req) : State :=
  let u := submit (takeId s).1 r
  if u.coh.ingress.any (fun x => decide (x.id = r.id)) then
    { u with coh := { u.coh with ingress := u.coh.ingress.filter (fun x => decide (x.id ≠ r.id)) } }
  else dropTaken u f

/-- A request of a peer arrives. In SAFE it is answered with poison (R532); one that its slice does not admit now keeps riding, and so
stays in its take buffer (R27, R658). -/
def peerRequest (s : State) (f : Frame) (k : ReqKind) : State :=
  if s.code = Mode.safe then
    refuseReq (dropTaken s f) { req := peerReq s f k 0 }
  else if holding s then
    if holdFits s (peerIn s f k) then submit (dropTaken (takeId s).1 f) (peerIn s f k) else s
  else if rides s (peerIn s f k) then s
  else peerTry s f (peerIn s f k)

/-- A frame is handled under the configuration set active when the device took it (R189). -/
def onFrame (s : State) (f : Frame) (act : State → State) : Host.Outcome State Fault Refusal :=
  flowDone (underSet s (takenSet s f) act)

def execRds (f : Frame) (s : State) : Host.Outcome State Fault Refusal := onFrame s f (fun s => peerRequest s f .rds)
def execRdo (f : Frame) (s : State) : Host.Outcome State Fault Refusal := onFrame s f (fun s => peerRequest s f .rdo)
def execUpg (f : Frame) (s : State) : Host.Outcome State Fault Refusal := onFrame s f (fun s => peerRequest s f .upg)
def execRdc (f : Frame) (s : State) : Host.Outcome State Fault Refusal := onFrame s f (fun s => peerRequest s f .rdc)

/-- A transaction that awaits a peer's answer for a line, or the writeback that its RSPWB named. -/
def awaiting (s : State) (f : Frame) : Option Txn :=
  s.coh.txns.find? (fun t => decide (t.req.dev = s.devId) && (t.peers ++ t.wbWait).contains (f.line * 64, f.src))

def wback (s : State) (f : Frame) : State := sendCoh s f.src 0x38 f.txid f.tag (f.line * 64) 0 false

/-- A WBM: the writeback that an open transaction waits for (R374), or a request. -/
def wbm (s : State) (f : Frame) : State :=
  match awaiting s f with
  | .none => peerRequest s f .wbm
  | some t =>
    let line := f.line * 64
    let key := (line, f.src)
    let got := t.got ++ [(line, f.data, decide (128 ≤ f.opcode), tagSlot s f.tag, f.tag)]
    let t := if t.wbWait.contains key then { t with wbWait := t.wbWait.erase key, got := got }
      else { t with wbGot := t.wbGot ++ [key], got := got }
    putTxn (wback (dropTaken s f) f) t

def execWbm (f : Frame) (s : State) : Host.Outcome State Fault Refusal := onFrame s f (fun s => wbm s f)

/-- An EVC: one that an open transaction waits for leaves memory's data (R374). -/
def evc (s : State) (f : Frame) : State :=
  match awaiting s f with
  | .none => peerRequest s f .evc
  | some t =>
    let key := (f.line * 64, f.src)
    let t := if t.wbWait.contains key then { t with wbWait := t.wbWait.erase key } else { t with wbGot := t.wbGot ++ [key] }
    putTxn (wback (dropTaken s f) f) t

def execEvc (f : Frame) (s : State) : Host.Outcome State Fault Refusal := onFrame s f (fun s => evc s f)

/-! ### Snoops at a holder (R362, R363, R375) -/

/-- An open transaction of this device on a line of the snoop's home. -/
def openOn (s : State) (f : Frame) : Option Txn :=
  s.coh.txns.find? (fun t => decide (t.req.dev = f.src ∧ t.req.line = f.line * 64) && !isPageOp t.req.kind)

/-- A snoop or forward is answered, or held with the open request of its line; UPG crossed by SNPI is invalidated at once (R374). -/
def snoop (s : State) (f : Frame) (inv : Bool) : State :=
  let n := takenSet s f
  let s := dropTaken s f
  match openOn s f with
  | .none => openSnoop s f n
  | some t =>
    let upg := match t.ask with | some a => decide (a.1 = 3) | .none => false
    if upg && inv then openSnoop s f n else putTxn s { t with held := t.held ++ [(f, n)] }

def execSnpi (f : Frame) (s : State) : Host.Outcome State Fault Refusal := flowDone (snoop s f true)
def execSnps (f : Frame) (s : State) : Host.Outcome State Fault Refusal := flowDone (snoop s f false)
def execFwds (f : Frame) (s : State) : Host.Outcome State Fault Refusal := flowDone (snoop s f false)
def execFwdo (f : Frame) (s : State) : Host.Outcome State Fault Refusal := flowDone (snoop s f false)

/-! ### Answers at the home (R366, R369, R370, R374) -/

def unmatched (s : State) (f : Frame) : State :=
  raiseHome s Src.unmatchedFrame (f.line * 64) f.src
    { atype := 5, akind := 1, addr := f.line * 64, mkind := 2, mdev := f.src, mid := Config.freeNat s.fresh % 32 }

/-- The transaction of this device that a holder's answer names, still awaiting that holder. -/
def answered (s : State) (f : Frame) : Option Txn :=
  s.coh.txns.find? (fun t => decide (t.req.id % 65536 = f.txid ∧ t.req.dev = s.devId) && t.peers.contains (f.line * 64, f.src))

/-- An answer does its work on the transaction that it matches, under the set active when the device took it (R189). -/
def answer (s : State) (f : Frame) (act : State → Txn → State × Txn) : State :=
  underSet s (takenSet s f) (fun s =>
  let s := dropTaken s f
  match answered s f with
  | .none => unmatched s f
  | some t =>
    let (s, t) := act s { t with peers := t.peers.erase (f.line * 64, f.src) }
    putTxn s t)

/-- The modified line that an answer carries (R367). -/
def carriedLine (s : State) (f : Frame) : Nat × Line × Bool × Option Nat × Nat :=
  (f.line * 64, f.data, decide (128 ≤ f.opcode), tagSlot s f.tag, f.tag)

/-- The holder keeps the line shared after this answer. -/
def keep (t : Txn) (f : Frame) (b : Bool) : Txn := if b then { t with kept := t.kept ++ [(f.line * 64, 16)] } else t

/-- SNPS leaves the holder shared. -/
def snpsKind (k : ReqKind) : Bool := decide (k = .memRdData ∨ k = .memRdCur ∨ k = .rdc)

def execRspi (f : Frame) (s : State) : Host.Outcome State Fault Refusal := flowDone (answer s f (fun s t => (s, t)))
def execRsps (f : Frame) (s : State) : Host.Outcome State Fault Refusal := flowDone (answer s f (fun s t => (s, keep t f true)))
def execRspd (f : Frame) (s : State) : Host.Outcome State Fault Refusal :=
  flowDone (answer s f (fun s t => (s, keep { t with got := t.got ++ [carriedLine s f] } f (snpsKind t.req.kind))))

/-- RSPWB: the home waits for the writeback, unless it came first (R374). -/
def execRspwb (f : Frame) (s : State) : Host.Outcome State Fault Refusal :=
  flowDone (answer s f (fun s t =>
    let key := (f.line * 64, f.src)
    if t.wbGot.contains key then (s, { t with wbGot := t.wbGot.erase key })
    else (s, { t with wbWait := t.wbWait ++ [key] })))

/-- FACK and FACKD: the holder has sent the data to the requester; after FWDS it keeps the line shared (R369). -/
def execFack (f : Frame) (s : State) : Host.Outcome State Fault Refusal :=
  flowDone (answer s f (fun s t => (s, keep { t with fwd := true } f (decide (t.req.kind = .rds)))))
def execFackd (f : Frame) (s : State) : Host.Outcome State Fault Refusal :=
  flowDone (answer s f (fun s t =>
    (s, keep { t with fwd := true, got := t.got ++ [carriedLine s f] } f (decide (t.req.kind = .rds)))))

/-! ### Grants at the requester (R360, R364) -/

/-- The transaction whose request a grant answers. -/
def granted (s : State) (f : Frame) : Option Txn :=
  s.coh.txns.find? (fun t => decide (t.req.id % 65536 = f.txid ∧ t.req.line = f.line * 64 ∧ t.phase = .remote) && t.ask.isSome)

/-- A grant fills the line and the request goes on: `fill` is the new PSTATE; none: GNTE keeps the data, DATC fills nothing. -/
def grantArrives (s : State) (f : Frame) (fill : Option Nat) (gnte : Bool) : State :=
  underSet s (takenSet s f) (fun s =>
  let s := dropTaken s f
  let p := decide (128 ≤ f.opcode)
  match granted s f with
  | .none => unmatched s f
  | some t =>
    let r := t.req
    let x := pcGet s r.dev r.line
    let s := match fill with
      | some k => pcPut s r.dev r.line { x with pstate := k, data := f.data, pois := p, wtag := if k = 3 then r.tag else x.wtag, lc := madeCheck f.data }
      | .none => if gnte then pcPut s r.dev r.line { x with pstate := 2 } else s
    let t := { t with ask := .none, phase := .recall, ans := if fill.isNone && !gnte then some (f.data, p) else t.ans }
    let (s, t) := recallLine s t r.line
    putTxn s t)

def execDats (f : Frame) (s : State) : Host.Outcome State Fault Refusal := flowDone (grantArrives s f (some 1) false)
def execDate (f : Frame) (s : State) : Host.Outcome State Fault Refusal := flowDone (grantArrives s f (some 2) false)
def execDatm (f : Frame) (s : State) : Host.Outcome State Fault Refusal := flowDone (grantArrives s f (some 3) false)
def execGnte (f : Frame) (s : State) : Host.Outcome State Fault Refusal := flowDone (grantArrives s f .none true)
def execDatc (f : Frame) (s : State) : Host.Outcome State Fault Refusal := flowDone (grantArrives s f .none false)

/-- WBACK ends a writeback in flight (R361). -/
def execWback (f : Frame) (s : State) : Host.Outcome State Fault Refusal :=
  let s := dropTaken s f
  flowDone (match s.coh.wb.find? (fun w => decide (w.dev = f.src ∧ w.line = f.line * 64 ∧ w.txid = f.txid)) with
    | some w => { s with coh := { s.coh with wb := s.coh.wb.erase w } }
    | .none => unmatched s f)

/-! ### End-to-end timers (R530, R377) -/

/-- POOL_E2E.TMO in core clocks. -/
def e2eClocks (s : State) : Nat := s.fld Reg.POOL_E2E 15 0 * usClocks

/-- The request of this device that waited for a peer too long ends: reads with poison, writes without storing, atomics with the
poison trap. -/
def askExpires (s : State) (t : Txn) : State :=
  match t.req.origin with
  | .core n rd => if isAmo t.req.kind then closeTxn (reqTrap t.req s n.val 8 (t.req.dev * 2 ^ 46 + t.req.line + t.req.off)) t
    else closeTxn (reqDone t.req s n.val rd 0) t
  | _ => refuseReq s t

/-- A peer that does not answer holds nothing; a line that it held exclusive is stored poisoned (R377). -/
def snoopExpires (s : State) (t : Txn) (dev : Nat) : State :=
  let lost := (t.peers ++ t.wbWait).filter (fun x => decide (x.2 = dev))
  let excl := (lost.map (fun x => x.1)).filter (fun l => decide ((dirOf s l).ps = 3) || t.wbWait.contains (l, dev))
  let s := raiseHome s Src.peerTimeout t.req.line dev (reqInfo s t.req)
  putTxn s { t with
    peers := t.peers.filter (fun x => decide (x.2 ≠ dev)), wbWait := t.wbWait.filter (fun x => decide (x.2 ≠ dev))
    got := t.got ++ excl.map (fun l => (l, (0 : Line), true, .none, 0)) }

def e2eDue (s : State) (since : Nat) : Bool := decide (since + e2eClocks s ≤ s.clock)

/-- A request of this device to a device has waited for its grant too long. -/
def askDue (s : State) (dev line : Nat) (t : Txn) : Bool :=
  match t.ask with
  | some a => decide (t.req.dev = dev ∧ t.req.line = line) && e2eDue s a.2
  | .none => false

/-- A transaction of this device has waited too long for a device's answer to a snoop. -/
def snoopDue (s : State) (dev line : Nat) (t : Txn) : Bool :=
  (t.peers ++ t.wbWait).contains (line, dev) && decide (t.req.dev = s.devId) && e2eDue s t.since

/-- A page move of this device has waited too long for its peer. -/
def moveDue (s : State) (dev line : Nat) (m : Move) : Bool :=
  decide (4 ≤ m.phase ∧ m.phase < 9 ∧ movePeer m = some dev ∧
    (m.page = line / 4096 ∨ (if m.tgt = 3 then m.ppage else ePpage m.old) = line / 4096)) && e2eDue s m.since

/-- A move that a peer issued has waited for it too long. -/
def peerMoveDue (s : State) (dev line : Nat) (x : PeerMove) : Bool :=
  decide (x.dev = dev ∧ x.page = line / 4096) && !x.done && e2eDue s x.since

/-- The timer that a device and a line name: of a request to that device, of a snoop of it, or of a page move with it. -/
def e2eTimeout (s : State) (dev line : Nat) : State :=
  match s.coh.txns.find? (askDue s dev line) with
  | some t => askExpires (raisePool s 2 dev) t
  | .none =>
    match s.coh.txns.find? (snoopDue s dev line) with
    | some t => snoopExpires (raisePool s 2 dev) t dev
    | .none =>
      match s.tier.moves.find? (moveDue s dev line) with
      | some m => moveTimeout s m
      | .none =>
        match s.tier.peerMoves.find? (peerMoveDue s dev line) with
        | some x => endPeerMove (raisePool s 2 dev) x
        | .none => s

/-- A timer that a device and a line name ends in this clock. -/
def e2eNow (s : State) (dev line : Nat) : Bool :=
  let now (since : Nat) : Bool := decide (since + e2eClocks s = s.clock)
  s.coh.txns.any (fun t => (askDue s dev line t && now ((t.ask.map Prod.snd).getD 0)) || (snoopDue s dev line t && now t.since)) ||
    s.tier.moves.any (fun m => moveDue s dev line m && now m.since) ||
    s.tier.peerMoves.any (fun x => peerMoveDue s dev line x && now x.since)

def execE2eTimeout (dev line : Nat) (s : State) : Host.Outcome State Fault Refusal :=
  atDue (.e2eTimeout dev line) 1 (if e2eNow s dev line then some s.clock else .none) s (fun s => flowDone (e2eTimeout s dev line))

/-! ### Sweep, flushes, query, key slots -/

/-- HOME_SWEEP ends (R357): entries of isolated exclusive holders are recalled, so that their lines are stored poisoned; the same
of pool cache lines. An entry whose line has an open transaction is left to the lookups. -/
def sweepDir (s : State) : List Nat → State
  | [] => s
  | l :: r =>
    let s := if ownerLost s (decodeDir (dirWord s l)) && !lineOpen s s.devId l then openRecall s (s.devId, l) else s
    sweepDir s r

def sweepPc (s : State) : List Nat → State
  | [] => s
  | k :: r => sweepPc (pcLost s (pcDev k) (pcLineOf k)) r

def execDirectorySweepEnd (s : State) : Host.Outcome State Fault Refusal :=
  flowDone (if s.coh.sweep then
    let s := { s with coh := { s.coh with sweep := false } }
    sweepPc (sweepDir s (s.coh.dir.map (fun e => e.1))) (s.coh.pc.map (fun e => e.1))
  else s)

/-- A write of HOME_PCFLUSH (R361): every line of the quadrants' pool caches is recalled and evicted. -/
def flushLines (s : State) (q : Nat) : List Nat → State
  | [] => s
  | k :: r =>
    let s := if homeSlice (pcLineOf k) = q ∧ !lineOpen s (pcDev k) (pcLineOf k) then openRecall s (pcDev k, pcLineOf k) else s
    flushLines s q r

def wrPcflush (s : State) (v : Word) : State :=
  (List.range 4).foldl (fun s q =>
    if bit v q then
      let s := (s.setBit Reg.HOME_PCFLUSH q true)
      let s := { s with coh := { s.coh with flush := if s.coh.flush.contains q then s.coh.flush else s.coh.flush ++ [q] } }
      flow (flushLines s q (s.coh.pc.map (fun e => e.1)))
    else s) s

def execPoolCacheFlush (p : Path) (v : Word) (s : State) : Host.Outcome State Fault Refusal :=
  flowDone (settle (guardedWrite s p Reg.HOME_PCFLUSH (fun s => wrPcflush s v)))

/-- No line of a quadrant's pool cache is left, and none is being written back. -/
def flushed (s : State) (q : Nat) : Bool :=
  s.coh.pc.all (fun e => decide (homeSlice (pcLineOf e.1) ≠ q)) && s.coh.wb.all (fun w => decide (w.quad ≠ q))

/-- The flush of a quadrant ends, or takes up the lines that requests have brought in since. -/
def flushEnds (s : State) (q : Nat) : State :=
  if !s.coh.flush.contains q then s
  else if flushed s q then
    ({ s with coh := { s.coh with flush := s.coh.flush.erase q } }).setBit Reg.HOME_PCFLUSH q false
  else flow (flushLines s q (s.coh.pc.map (fun e => e.1)))

def execPoolCacheFlushComplete (q : Fin 4) (s : State) : Host.Outcome State Fault Refusal := done (flushEnds s q)

/-- A write of HOME_DQADDRHI starts a query (R132), which HOLD does not delay (R161). -/
def wrDqaddrHi (s : State) (v : Word) : State :=
  let s := s.setReg Reg.HOME_DQADDRHI (v &&& 0x3FFF#32)
  let line := s.fld Reg.HOME_DQADDRLO 31 6 * 64 + s.fld Reg.HOME_DQADDRHI 13 0 * 2 ^ 32
  let (s, id) := takeId s
  let r := mkInternal s id .dqry 7 s.devId line
  if holding s then enter s r else submit s r

def execDirectoryQueryRegister (p : Path) (v : Word) (s : State) : Host.Outcome State Fault Refusal :=
  done (guardedWrite s p Reg.HOME_DQADDRHI (fun s => wrDqaddrHi s v))

/-- KEY_SLOT_CHANGE_COMPLETE (R334): no request is in flight in the slot, and the command takes effect; the requests that waited
for the slot go on. -/
def execKeySlotChangeComplete (s : State) : Host.Outcome State Fault Refusal :=
  done (match s.keys.cmd with
    | some c => if inflight s c.slot = 0 then admitAll (keyEnd s c) else s
    | .none => s)

/-! ### Hosts and devices that are gone (R231, R377, R192) -/

/-- The requests and the holdings of logical devices that are reset end; nothing is poisoned (R231). -/
def resetHolder (lds : List Nat) (w : DWord) : DWord :=
  let r := decodeDir w
  if r.hs = 2 ∧ lds.contains (ownerLd r) then encodeDir ({ r with hs := 0 } : DirRec).norm else w

def ofLds (lds : List Nat) (r : Req) : Bool :=
  match r.origin with
  | .host ld _ => lds.contains ld
  | _ => false

/-- A request of a reset logical device ends unless its own write has reached a channel write queue; recalls in progress go on. -/
def discarded (lds : List Nat) (t : Txn) : Bool :=
  ofLds lds t.req && !(t.final && decide (t.phase = .wq ∨ t.phase = .ring))

/-- What remains of a discarded request: the invalidation of all holders, the downgrade of the exclusive one, or nothing. -/
def orphanKind (s : State) (t : Txn) : ReqKind :=
  if t.phase = .remote then .memSpecRd
  else match t.req.kind with
    | .memRdInv => .memInvNT
    | .memInv => .memInvNT
    | .memInvNT => .memInvNT
    | .memWr => .memInvNT
    | .memWrPtl => .memInvNT
    | .memRdData => if isLocal s t.req then .snps else .memSpecRd
    | _ => if isLocal s t.req then .evc else .memSpecRd

/-- The rest of a discarded request: its recalls and what they bring go on, and it stores nothing of its own (R231). -/
def orphan (s : State) (lds : List Nat) (t : Txn) : Txn :=
  if !discarded lds t then t
  else
    let kind := orphanKind s t
    let t := { t with req := { t.req with origin := .agent 5, kind := kind } }
    if t.final then { t with final := false, wdata := .none, phase := .recall, hold := false, rf := false, reads := [], bursts := [] }
    else if t.wdata.isNone && decide (t.phase ≠ .recall ∧ t.phase ≠ .remote) then { t with phase := .recall, reads := [] } else t

def heldOf (lds : List Nat) (i : Instr) : Bool :=
  match i with
  | .memRd ld _ _ _ => lds.contains ld.val
  | .memRdData ld _ _ => lds.contains ld.val
  | .memInv ld _ _ => lds.contains ld.val
  | .memInvNt ld _ _ => lds.contains ld.val
  | .memSpecRd ld _ _ => lds.contains ld.val
  | .memClnEvct ld _ _ => lds.contains ld.val
  | .memWr ld _ _ _ _ => lds.contains ld.val
  | .memWrPtl ld _ _ _ _ _ => lds.contains ld.val
  | _ => false

def resetHolders (lds : List Nat) : SMap DWord → SMap DWord
  | [] => []
  | (k, w) :: r => let w := resetHolder lds w; if w = 0 then resetHolders lds r else (k, w) :: resetHolders lds r

def resetPcLine (lds : List Nat) (x : PcLine) : PcLine :=
  if x.hstate = 2 ∧ lds.contains (16 * lowBit 16 x.hvec + x.hown) then { x with hstate := 0, hown := 0, hvec := 0 } else x

/-- A BISnp to a reset logical device is answered I at once (R357). A discarded request whose recalls or asks are out goes on without an answer, as an agent's; the others close. -/
def resetLds (s : State) (lds : List Nat) : State :=
  let idle (t : Txn) : Bool := discarded lds t && decide (t.bi = [] ∧ t.peers = [] ∧ t.wbWait = [] ∧ t.got = [] ∧ t.ask = .none ∧ t.held = []) &&
    (t.wdata.isNone || t.final)
  let gone (id : Nat) : Bool := s.coh.txns.any (fun t => decide (t.req.id = id) && discarded lds t && t.final)
  { s with
    coh := { s.coh with
      dir := resetHolders lds s.coh.dir
      pc := s.coh.pc.map (fun e => (e.1, resetPcLine lds e.2))
      txns := ((s.coh.txns.map (fun t => { t with bi := t.bi.filter (fun x => !lds.contains x.2) })).filter
        (fun t => !idle t)).map (orphan s lds)
      ingress := s.coh.ingress.filter (fun r => !ofLds lds r)
      chain := s.coh.chain.filter (fun r => !ofLds lds r)
      sweep := true }
    tier := { s.tier with jobs := s.tier.jobs.filter (fun j => j.kind ≠ 2 ∨ !gone j.txn) }
    port := { s.port with
      bisnp := s.port.bisnp.filter (fun b => !lds.contains b.ld), held := s.port.held.filter (fun i => !heldOf lds i) } }

/-- Entries held exclusive by a device that has left the pool: the line is stored poisoned (R377). -/
def excludedEntries (s : State) : List Nat :=
  (s.coh.dir.filter (fun e =>
    let r := decodeDir e.2
    decide (r.ps ≠ 0 ∧ r.ps ≠ 2) && r.peers.any (fun d => !isMember s d))).map (fun e => e.1)

/-- An excluded peer leaves the record of a line; one that held it exclusive leaves it poisoned. -/
def excludeLine (s : State) (l : Nat) : State :=
  if lineOpen s s.devId l then s
  else
    let r := decodeDir (dirWord s l)
    let lost := decide (r.ps = 3)
    let s := putDir s l ({ r with peers := r.peers.filter (isMember s) } : DirRec).norm
    if lost then
      let s := raiseHome s Src.exclusiveLost l (r.peers.headD 0) {}
      let (s, id) := takeId s
      let t : Txn := { req := mkInternal s id .recall 5 s.devId l, since := s.clock, got := [(l, 0, true, .none, 0)] }
      putTxns s (s.coh.txns ++ [t])
    else s

/-- A pool cache line of an excluded home: its hosts are recalled, and it goes (R377). -/
def excludePc (s : State) (k : Nat) : State :=
  if isMember s (pcDev k) || lineOpen s (pcDev k) (pcLineOf k) then s else openRecall s (pcDev k, pcLineOf k)

/-- Answers that only a device outside the pool could give are taken as given, and requests to it end. -/
def excludeTxns (s : State) : List Txn → State
  | [] => s
  | t :: r =>
    let gone := (t.peers ++ t.wbWait).filter (fun x => !isMember s x.2)
    let s := match t.ask with
      | some _ => if isMember s t.req.dev then s else askExpires s t
      | .none => if gone = [] then s else gone.foldl (fun s x =>
          match getTxn s t.req.id with | some t => snoopExpires s t x.2 | .none => s) s
    excludeTxns s r

/-- What devices that have left the pool leave behind is cleared (R192, R377). -/
def cleanGone (s : State) : State :=
  let s := excludeTxns s s.coh.txns
  let s := (excludedEntries s).foldl excludeLine s
  let s := { s with coh := { s.coh with wb := s.coh.wb.filter (fun w => isMember s w.dev) } }
  (s.coh.pc.map (fun e => e.1)).foldl excludePc s

end Sys2Proof.Machine
end

