-- ==== Sys2Proof/Machine/Wipe.lean ====
section
/-! DEFINITION. The bittern in service (spec/03 R88 to R97): what it zeroises, the map and data phases of a set, GEN_WIPE,
and a set that becomes servable. -/

namespace Sys2Proof.Machine

/-! ### Zeroising -/

/-- A stored burst lies in a set at a location from `lo` to below `hi`. -/
def burstIn (s : State) (n lo hi k : Nat) : Bool :=
  let cs := setChans s n
  match posIn cs (keyChan k) with
  | .none => false
  | some p =>
    match locOf cs.length (setPar s n) (setGrain s n) p (keyOff k) with
    | .none => false
    | some l => decide (lo ≤ l ∧ l < hi)

/-- A stored burst of a parity grain of a stripe that phase 4 has written whole: its data lies wholly above the map region, below
`hi`, and not wholly below `lo` (R89). -/
def parityIn (s : State) (n lo hi k : Nat) : Bool :=
  let cs := setChans s n
  match posIn cs (keyChan k) with
  | .none => false
  | some p =>
    let g := setGrain s n
    let t := keyOff k / 2 ^ g
    setPar s n && (locOf cs.length true g p (keyOff k)).isNone &&
      decide (mapRegion s n ≤ 5 * t * 2 ^ g ∧ 5 * (t + 1) * 2 ^ g ≤ hi ∧ lo < 5 * (t + 1) * 2 ^ g)

/-- Stripes that phase 4 has passed hold zeros in their parity grain too. -/
def zeroParity (s : State) (n lo hi : Nat) : State :=
  { s with dram := { s.dram with bursts := s.dram.bursts.filter (fun e => !parityIn s n lo hi e.1) } }

/-- The cells of a set from location `lo` to below `hi` are zeroised. -/
def zeroise (s : State) (n lo hi : Nat) : State :=
  { s with dram := { s.dram with bursts := s.dram.bursts.filter (fun e => !burstIn s n lo hi e.1) } }

/-- The run that an entry's cells or blocks make, for a page that has one. -/
def runOf (e : DWord) : Option Run :=
  if eState e = Ent.t0 then some (eSet e, false, eCell e, 4)
  else if eState e = Ent.t1 then (if emptyRun e then .none else some (eSet e, false, eCell e, eNc e + 1))
  else if eState e = Ent.t2 then some (heapRunOf e)
  else .none

/-- A page's cells are zeroised and only then released (R86). -/
def wipeRun (s : State) (page : Nat) (e : DWord) : State :=
  match runOf e with
  | .none => s
  | some r =>
    let (a, l) := runBytes r
    releaseRuns (zeroise s r.1 a (a + l)) page [r]

/-! ### Phases 3 and 4 of a set (R88 to R91) -/

/-- Map blocks of a set. -/
def mapBlocks (s : State) (n : Nat) : Nat := ceilDiv (mapPages s n) 8192

/-- The lowest map block that is not written. -/
def nextBlock (w : SetWipe) (total : Nat) : Option Nat := (List.range total).find? (fun b => !w.blocks.contains b)

/-- Phase 3 sweeps in ascending order. -/
def blockWrittenBy (s : State) (n b : Nat) : State :=
  let w := setWipe s n
  if w.phase = 3 ∧ nextBlock w (mapBlocks s n) = some b then
    putBlock s n b
  else s

def execBitternMapBlockWritten (set : Fin 24) (block : Nat) (s : State) : Host.Outcome State Fault Refusal :=
  done (blockWrittenBy s set block)

/-- Phase 3 ends when every block is written, and phase 4 starts in the same clock at the first cell above the map region. -/
def mapPhaseEnd (s : State) (n : Nat) : State :=
  let w := setWipe s n
  if w.phase = 3 ∧ nextBlock w (mapBlocks s n) = .none then
    putWipe s n { w with phase := 4, blocks := [], front := frontier s n }
  else s

def execBitternMapPhaseEnd (set : Fin 24) (s : State) : Host.Outcome State Fault Refusal := done (mapPhaseEnd s set)

/-- Phase 4 zeroises cells from the frontier on. -/
def cellsZeroised (s : State) (n cells : Nat) : State :=
  let w := setWipe s n
  if w.phase = 4 then
    let hi := min (w.front + cells) (setCapacity s n / 1024)
    let s := zeroParity (zeroise s n (1024 * w.front) (1024 * hi)) n (1024 * w.front) (1024 * hi)
    charge (tick (putWipe s n { w with front := max w.front hi }) bSweep 3 (hi - w.front)) false 254 (16 * (hi - w.front)) .amber
  else s

def execBitternCellsZeroised (set : Fin 24) (cells : Nat) (s : State) : Host.Outcome State Fault Refusal :=
  done (cellsZeroised s set cells)

def setDone (s : State) : List Nat → State
  | [] => s
  | c :: r => setDone (s.setBit Reg.GEN_WIPECH c true) r

/-- Phase 4 ends at the end of the set. -/
def dataPhaseEnd (s : State) (n : Nat) : State :=
  let w := setWipe s n
  if w.phase = 4 ∧ setCapacity s n / 1024 ≤ w.front then setDone (putWipe s n { w with phase := 5 }) (setChans s n) else s

def execBitternDataPhaseEnd (set : Fin 24) (s : State) : Host.Outcome State Fault Refusal := done (dataPhaseEnd s set)

/-! ### GEN_WIPE -/

/-- The sets with V = 1. -/
def validSets (s : State) : List Nat := (List.range 24).filter (setV s)

/-- Bytes of a set that count as wiped. -/
def wipedBytes (s : State) (n : Nat) : Nat :=
  let w := setWipe s n
  if w.phase < 4 then 0 else if w.phase = 5 then setCapacity s n else 1024 * w.front

def sumOver (f : Nat → Nat) : List Nat → Nat
  | [] => 0
  | n :: r => f n + sumOver f r

/-- GEN_WIPE as it reads. While phases 1 and 2 run PROG is 0, as the value 0x9000_0000 at the end of a reset has it. -/
def genWipe (s : State) : Word :=
  let sets := validSets s
  let inPhase (k : Nat) : Bool := sets.any (fun n => decide ((setWipe s n).phase = k))
  let early := !s.wipe.keysDone || !s.wipe.sramDone
  let owed := sets.any (fun n => decide ((setWipe s n).phase ≠ 5))
  let phase := if !s.wipe.keysDone then 1 else if !s.wipe.sramDone then 2 else if inPhase 3 then 3
    else if inPhase 4 then 4 else if owed then 0 else 5
  let total := sumOver (setCapacity s) sets
  let prog := if early then 0 else if !owed || decide (total = 0) then 1023
    else min 1023 (1024 * sumOver (wipedBytes s) sets / total)
  BitVec.ofNat 32 (b2n (early || owed) * 2 ^ 31 + phase * 2 ^ 28 + prog)

/-! ### A set becomes servable (R97, R89) -/

def setServes (s : State) (n : Nat) : State :=
  if needsMet s n && !setServable s n then
    let s := (s.setBit Reg.TIER_SETOFF n false).setBit Reg.GEN_SETSRV n true
    let w := setWipe s n
    let s := if w.phase = 0 then putWipe s n { w with phase := 3 } else s
    raise (latchAll s 4) Src.setServable
  else s

def execSetServable (set : Fin 24) (s : State) : Host.Outcome State Fault Refusal := done (setServes s set)

end Sys2Proof.Machine
end

