-- ==== Sys2Proof/Machine/Reset.lean ====
section
/-! DEFINITION. Resets (spec/03 R84 to R87, spec/17 R602, R608, R610, R618, spec/22 R697 to R706): what a cold and a warm
reset clear and keep, boot step 1, and the port reset. -/

namespace Sys2Proof.Machine

/-! ### Boot step 1 (R598, R607, R608) -/

def revSet (rev : Nat) : List Nat → Nat
  | [] => rev
  | n :: r => revSet (if rev.testBit n then rev else rev + 2 ^ n) r

/-- A destroyed field has every bit blown to 1 (R590). -/
def destroyOkwk (m : SMap (List Byte)) : List Nat → SMap (List Byte)
  | [] => m
  | k :: r => destroyOkwk (smSet (List.replicate 32 0) m k (List.replicate 32 0xFF)) r

/-- The destructions that the life-cycle state owes (R608). -/
def owedDestructions (o : Otp) : Otp :=
  let lc := lcOf o
  if lc = 1 then
    let ks := (List.range 4).filter (fun k => (smGet .none o.hash (16 + k)).isSome && !o.rev.testBit (16 + k))
    { o with okwk := destroyOkwk o.okwk ks, rev := revSet o.rev (ks.map (fun k => 16 + k)) }
  else if lc = 5 then
    { o with uds := false, okwk := destroyOkwk o.okwk [0, 1, 2, 3], rev := revSet o.rev [16, 17, 18, 19] }
  else o

/-- SEC_STATE as latched in boot step 1; the UDS read port is not locked yet. -/
def secStateWord (o : Otp) : Word :=
  let lc := lcOf o
  let own := ownerSlot o
  let okwk := decide (lc = 2 ∨ lc = 3) && (match own with
    | some k => okwkHeld o k
    | .none => false)
  BitVec.ofNat 32 (lc * 2 ^ 29 + b2n okwk * 2 ^ 28 + b2n own.isSome * 2 ^ 27 + own.getD 0 * 2 ^ 25 + o.rows.length * 2 ^ 17)

/-- SEC_KEYSTAT as latched in boot step 1 (R593). -/
def secKeyWord (s : State) : Word :=
  BitVec.ofNat 32 ((List.range 20).foldl (fun a n => a + b2n (recordGood s n) * 2 ^ n) 0)

/-- SEC_ARBCNT's counters: FW, TB and PG. -/
def arbCount (s : State) : State :=
  let o := s.sec.otp
  let own (kind : Nat) : Nat := match ownerNow s with
    | some k => svnOf o kind k
    | .none => 0
  ((s.setF Reg.SEC_ARBCNT 24 16 (svnOf o 0 0)).setF Reg.SEC_ARBCNT 14 8 (own 2)).setF Reg.SEC_ARBCNT 6 0 (own 1)

/-- A fresh token nonce: eight draws (R610). -/
def newNonce (s : State) : State := drawN 8 { s with sec := { s.sec with nonce := s.fresh } }

def bootStep1 (s : State) : State :=
  let o := owedDestructions s.sec.otp
  let s := { s with sec := { s.sec with otp := o, boot2 := bootFacts o } }
  let s := s.setReg Reg.SEC_STATE (secStateWord o)
  let s := s.setReg Reg.SEC_KEYSTAT (secKeyWord s)
  let s := arbCount s
  let s := s.setReg Reg.GEN_FUSESTAT (BitVec.ofNat 32 o.fuses.length)
  let s := newNonce s
  if lcDamaged o then raise s Src.lcDamaged else s

/-! ### Cold and warm reset (R84, R85, R618) -/

/-- A register that a warm reset leaves: its table names the cold reset (R84). -/
def coldReg (off : Nat) : Bool :=
  match regDesc off with
  | some d => !d.warm
  | .none => false

/-- What a warm reset keeps of the registers; the READY bits of the slots stay (R68). -/
def warmKeeps (off : Nat) : Bool := coldReg off || decide (off = Reg.RDY_1)

/-- A slot after a cold reset: every drive off, at its reset words (R640). -/
def slotCold (x : Slot) : Slot := if x.pg ∨ x.state = 2 then { cause := 6 } else {}

/-- The levels of the PERST_N pins are the board's; everything else of a port starts anew. After a cold reset a port whose PERST_N is
high counts as just released; after a warm one only a release that was still owed does. -/
def pinsOnly (cold : Bool) (m : SMap SubPort) : SMap SubPort :=
  m.filterMap (fun e => if e.2.perst then some (e.1, { perst := true, owed := cold || e.2.owed }) else .none)

/-- A life-cycle row byte. -/
def rowByte (code : Nat) : Byte := BitVec.ofNat 8 (code + 16 * (15 - code))

/-- A reset falls into a token command that changes OTP (R615). How far it had come is open (free draws): nothing written; of a
provisioning, the owner slot written; the row left damaged, or written, and what the row then owes is done in boot step 1 (R608);
of a revocation, the REV bit written. -/
def tokCut (s : State) : State :=
  match s.sec.tok with
  | .none => s
  | some t =>
    if t.result ≠ 0 then s
    else
      let o := s.sec.otp
      let k := Config.freeNat s.fresh
      let o := match t.prov with
        | some (i, h, w) =>
          if k % 4 = 0 then o
          else { o with hash := smSet .none o.hash (16 + i) (some h)
                        okwk := if k / 4 % 2 = 0 then o.okwk else smSet (List.replicate 32 0) o.okwk i w }
        | .none => o
      let o := match t.row with
        | some c =>
          if k % 4 = 2 then
            let r := BitVec.ofNat 8 (Config.freeNat (s.fresh + 1))
            { o with rows := o.rows ++ (if r = 0 then [] else [if r.toNat / 16 = 15 - r.toNat % 16 then 0xFF else r]) }
          else if k % 4 = 3 then { o with rows := o.rows ++ [rowByte c] }
          else o
        | .none => o
      let o := match t.revoke with
        | some n => if k % 2 = 1 then { o with rev := revSet o.rev [n] } else o
        | .none => o
      { s with fresh := s.fresh + 2, sec := { s.sec with otp := o } }

/-- What a cold (`cold`) or a warm reset leaves of the state, before the registers that the reset itself writes (R84, R85). -/
def resetState (s : State) (cold : Bool) (cause : Nat) : State :=
  { pending := s.pending, clock := s.clock, fresh := s.fresh, out := s.out
    regs := if cold then [] else s.regs.filter (fun e => warmKeeps e.1)
    acc := if cold then {} else { s.acc with hi := [], gp := .none, view := [] }
    mode := { resetLow := s.mode.resetLow, supplyLow := s.mode.supplyLow, cause := cause, resetAt := s.clock }
    flt := if cold then {} else { fifo := s.flt.fifo, ovf := satAdd 0xFFFF s.flt.ovf s.flt.lostNow.length }
    sets := { lostArm := !cold && (committed s || s.sets.lostArm), commitTide := s.sets.commitTide }
    port := if cold then { sub := pinsOnly true s.port.sub, respFrom := s.out.length }
      else { sub := pinsOnly false s.port.sub, respFrom := s.out.length, mode := s.port.mode, ldcnt := s.port.ldcnt }
    dram := { bursts := s.dram.bursts }
    slot := if cold then { slots := s.slot.slots.map (fun e => (e.1, slotCold e.2)), dead := s.slot.dead } else s.slot
    sec := { otp := s.sec.otp, nor := s.sec.nor }
    hk := if cold then {} else { s.hk with step := 0, pend := .none, round := .none } }

/-- A cold or warm reset with its cause. A warm one keeps the slot bits of RDY_2 (R68). The bittern starts, and boot step 1 runs. -/
def deviceReset (s : State) (cold : Bool) (cause : Nat) : State :=
  let s := tokCut s
  let t := resetState s cold cause
  let t := if cold then t else t.setReg Reg.RDY_2 (s.reg Reg.RDY_2 &&& 0xFFFF#32)
  bootStep1 (newGens (t.setReg Reg.GEN_RSTCAUSE (BitVec.ofNat 32 cause)))

/-- COLD_RESET (R84): by supplies, RESET_N or GEN_RST. -/
def execColdReset (cause : Fin 8) (s : State) : Host.Outcome State Fault Refusal :=
  .next (if cause.val ≤ 2 then deviceReset s true cause else s)

/-- WARM_RESET (R84): by GEN_RST, a life-cycle change or the exit from TEST. -/
def execWarmReset (cause : Fin 8) (s : State) : Host.Outcome State Fault Refusal :=
  .next (if 3 ≤ cause.val ∧ cause.val ≤ 5 then deviceReset s false cause else s)

/-- A write of GEN_RST: KIND 1 and 2 reset, 0 and 3 are ignored. -/
def wrGenRst (s : State) (v : Word) : State :=
  match fld v 1 0 with
  | 1 => deviceReset s false 3
  | 2 => deviceReset s true 2
  | _ => s

def execGenRstWarm (p : Path) (s : State) : Host.Outcome State Fault Refusal :=
  done (guardedWrite s p Reg.GEN_RST (fun s => wrGenRst s 1))

def execGenRstCold (p : Path) (s : State) : Host.Outcome State Fault Refusal :=
  done (guardedWrite s p Reg.GEN_RST (fun s => wrGenRst s 2))

/-! ### RESET_N and the supplies (R697, R701, R705) -/

/-- Core clocks of a low level on RESET_N: 10 µs starts a cold reset, below 8 µs nothing, between them either. -/
def resetLow (s : State) (clocks : Nat) : State :=
  let hold (s : State) : State :=
    deviceReset { s with mode := { s.mode with resetLow := some s.clock } } true (if s.mode.supplyLow then 0 else 1)
  if 25000 ≤ clocks then hold s
  else if clocks < 20000 then s
  else if Config.choice s.fresh then hold s.draw else s.draw

def execResetNLow (clocks : Nat) (s : State) : Host.Outcome State Fault Refusal := .next (resetLow s clocks)

/-- The rising edge of RESET_N: the boot sequence starts when the supplies are good, with the cause of the reset that ends. -/
def execResetNRelease (s : State) : Host.Outcome State Fault Refusal :=
  .next (match s.mode.resetLow with
    | .none => s
    | some _ =>
      let s := { s with mode := { s.mode with resetLow := .none } }
      if s.mode.supplyLow then s else deviceReset s true s.mode.cause)

/-- A rail stays below its threshold for so many core clocks; 2 µs make a cold reset with cause 0, held until the rails are
back. -/
def execSupplyUndervoltage (clocks : Nat) (s : State) : Host.Outcome State Fault Refusal :=
  .next (if 5000 ≤ clocks then deviceReset { s with mode := { s.mode with supplyLow := true } } true 0 else s)

/-- Every rail is within its range again: the power die has its supply, and the reset ends when RESET_N is high. -/
def execSupplyRestored (s : State) : Host.Outcome State Fault Refusal :=
  .next (if s.mode.supplyLow || s.slot.dead then
    let low := s.mode.supplyLow
    let s := { s with mode := { s.mode with supplyLow := false }, slot := { s.slot with dead := false } }
    if low && s.mode.resetLow.isNone then deviceReset s true 0 else s
  else s)

/-- VPD or V12S falls: every gate and ORing drive is off, whatever the other rails do (R701). -/
def execPowerDieSupplyLoss (s : State) : Host.Outcome State Fault Refusal :=
  let s := slotsOff s 6 (List.range 48)
  done { s with slot := { s.slot with
    slots := s.slot.slots.map (fun e => (e.1, { e.2 with onA := false, onB := false })), dead := true } }

/-! ### Port resets (R86, R218, R231, R232) -/

/-- The logical devices of bifurcated port `p`. -/
def ldsOfPort (s : State) (p : Nat) : List Nat :=
  ((List.range 16).map (fun j => 16 * (p / 4) + j)).filter (fun l => decide (ldPort s l = some p))

/-- The extents of the extent check that belong to a list of logical devices alone, and those that are shared with others. -/
def extentsOf (s : State) (lds : List Nat) : List (Nat × Extent) :=
  s.port.ext.filter (fun e => decide (e.2.state ≠ 0) && lds.contains e.2.ld)

def overlaps (a b : Extent) : Bool :=
  decide (a.start < b.start + b.blocks * 2 ^ 28 ∧ b.start < a.start + a.blocks * 2 ^ 28)

/-- A page of an extent that no logical device outside the list has too. -/
def pageAlone (s : State) (lds : List Nat) (page : Nat) : Bool :=
  !s.port.ext.any (fun e => decide (e.2.state ≠ 0) && !lds.contains e.2.ld &&
    decide (e.2.start ≤ page * 4096 ∧ page * 4096 < e.2.start + e.2.blocks * 2 ^ 28))

/-- The page lies in an extent of the list. -/
def pageOfLds (s : State) (lds : List Nat) (page : Nat) : Bool :=
  (extentsOf s lds).any (fun e => decide (e.2.start ≤ page * 4096 ∧ page * 4096 < e.2.start + e.2.blocks * 2 ^ 28))

/-- Every page of the capacity assigned to the reset logical devices alone is TU (R86). A page whose entry is TU already,
or still as the wipe left it, stays so. -/
def wipePages (s : State) (lds : List Nat) : List Nat → State
  | [] => s
  | p :: r =>
    let s := match mapSetOf s p with
      | some n =>
        if pageOfLds s lds p && pageAlone s lds p && blockWritten s n p then
          wipeRun (setEntry s p (tuEntry n)) p (storedEntry s p)
        else s
      | .none => s
    wipePages s lds r

/-- The key slots that the reset logical devices select and no other logical device does (R337). -/
def slotsOnly (s : State) (lds : List Nat) : List Nat :=
  let mine := lds.filterMap (ldSlot s)
  let others := ((List.range 256).filter (fun l => !lds.contains l)).filterMap (ldSlot s)
  let tags := (List.range 256).flatMap (fun l => if lds.contains l then [] else
    (List.range 16).filterMap (fun w =>
      let e := s.act 1 (4 * (16 * l + w)) 4
      if e.testBit 31 && e.testBit 29 then tagSlot s (e % 4096) else .none))
  let mytags := lds.flatMap (fun l => (List.range 16).filterMap (fun w =>
    let e := s.act 1 (4 * (16 * l + w)) 4
    if e.testBit 31 && e.testBit 29 then tagSlot s (e % 4096) else .none))
  (mine ++ mytags).eraseDups.filter (fun k => !(others ++ tags).contains k && decide ((s.keySlot k).state ≠ 0))

/-- A core runs the trap handler for a service call (R154, R181). -/
def inService (s : State) (n code : Nat) : Bool :=
  let c := s.core n
  bit c.status 2 && decide (c.cause = 6#64 ∧ c.tval = BitVec.ofNat 64 code)

/-- A service returns: its result stands in t10, and the caller goes on at EPC as ERET gives (R156, R181). -/
def serviceReturn (s : State) (n : Nat) (r : Nat) : State :=
  let k := s.core n
  let s := s.setCore n { k with
    wait := .none, pc := k.epc, status := setBit (setBit k.status 0 (bit k.status 1)) 2 false }
  setT s n 10 (BitVec.ofNat 64 r)

/-- A pending DCDADD or DCDREL of a core returns (R217, R218), unless the core has been restarted since. -/
def dcdReturn (s : State) (c : Option (Fin 16)) (r : Nat) : State :=
  match c with
  | .none => s
  | some n =>
    match (s.core n).wait with
    | some (.service _) => serviceReturn s n r
    | _ => s

/-- An extent returns to FREE, here and in DCDEXT (R216). -/
def freeExtent (s : State) (i : Nat) : State :=
  let s := { s with port := { s.port with ext := smSet {} s.port.ext i {} } }
  s.setLive 8 (16 * i + 13) 0 1

def freeExtents (s : State) : List (Nat × Extent) → State
  | [] => s
  | e :: r => freeExtents (dcdReturn (freeExtent s e.1) e.2.caller 7) r

/-- Open host messages of the reset logical devices are dropped with their mailboxes. -/
def dropMsgs (s : State) (lds : List Nat) : State :=
  { s with
    sets := { s.sets with msgs := s.sets.msgs.filter (fun m => decide (64 ≤ m.port) || !lds.contains m.ld) }
    sec := { s.sec with sessions := s.sec.sessions.filter (fun x => match x.who with
      | .ld l => !lds.contains l.val
      | _ => true) } }

/-- The reset of a list of logical devices (R86, R231, R618). -/
def ldReset (s : State) (lds : List Nat) : State :=
  let keys := slotsOnly s lds
  let pages := knownPages s
  let ex := extentsOf s lds
  let s := resetLds s lds
  let s := wipePages s lds pages
  let s := freeExtents s ex
  let s := dropMsgs s lds
  let s := lds.foldl (fun s l => s.setLogDev l {}) s
  ownDestroyAll s keys

/-- PORT_RESET (R84). A port whose PERST_N falls is down until its release; one logical device is reset by a CXL reset or a
Function Level Reset. -/
def portReset (s : State) (w : PortReset) : State :=
  match w with
  | .ld l => flow (ldReset s [l.val])
  | .perst n k =>
    let p := 4 * n.val + k.val
    let s0 := s.setSubp p { s.subp p with perst := false }
    if subCount s n.val ≤ k.val then s0
    else
      let s := ldReset s0 (ldsOfPort s p)
      let s := { s with sec := { s.sec with sessions := s.sec.sessions.filter (fun x => decide (x.who ≠ Issuer.fm (Fin.ofNat 64 p))) } }
      let s := s.setF (Reg.HPX_STAT n) (8 * k + 7) (8 * k) 0
      let s := s.setSubp p { perst := false, isolated := (s.subp p).isolated }
      let s := s.setF (Reg.HPX_ERRCTL n) 0 0 (b2n ((List.range 4).any (fun j => (s.subp (4 * n + j)).viral)))
      flow (setReadySub s p false)

def execPortReset (what : PortReset) (s : State) : Host.Outcome State Fault Refusal := done (portReset s what)

end Sys2Proof.Machine
end

