-- ==== Sys2Proof/Machine/PortOps.lean ====
section
/-! DEFINITION. Operations on the host ports (spec/06): bifurcation, logical-device counts, the start of link training. -/

namespace Sys2Proof.Machine

/-- The bifurcation mode that HPX_BIF gives (R200): 0 x16, 1 two x8, 2 four x4. -/
def bifMode (s : State) (n : Nat) : Nat :=
  let ovr := s.fld (Reg.HPX_BIF n) 3 2
  (if ovr = 0 then s.fld (Reg.HPX_BIF n) 1 0 else ovr) - 1

/-- The bifurcated port exists in the mode in force. -/
def portExists (s : State) (p : Nat) : Bool := decide (p % 4 < subCount s (p / 4))

/-- The width code of a bifurcated port in the mode in force, as HPX_STAT.WIDk gives it. -/
def portWidth (s : State) (n : Nat) : Nat := 4 - smGet 0 s.port.mode n

def portState (s : State) (p : Nat) : Nat := s.fld (Reg.HPX_STAT (p / 4)) (8 * (p % 4) + 7) (8 * (p % 4) + 6)

/-- HPX_STAT's byte of a bifurcated port: LST, WID and RATE. -/
def setPortStat (s : State) (p lst wid rate : Nat) : State :=
  s.setF (Reg.HPX_STAT (p / 4)) (8 * (p % 4) + 7) (8 * (p % 4)) (lst * 64 + wid % 8 * 8 + rate % 8)

/-- A bifurcated port that a new mode does not have is gone, and its logical devices are reset. -/
def portGone (s : State) (p : Nat) : State :=
  let s := ldReset s (ldsOfPort s p)
  let s := setPortStat s p 0 0 0
  setReadySub s p false

def portsGone (s : State) : List Nat → State
  | [] => s
  | p :: r => portsGone (if portExists s p then portGone s p else s) r

/-- A release of HPn_PERST0_N puts the mode of HPX_BIF in force (R202). -/
def applyMode (s : State) (n : Nat) : State :=
  let m := bifMode s n
  if smGet 0 s.port.mode n = m then s
  else
    let s := portsGone s [4 * n + 1, 4 * n + 2, 4 * n + 3]
    { s with port := { s.port with mode := smSet 0 s.port.mode n m } }

/-- A count of HPX_LDCNT is in force from the release of its port's PERST_N (R204). -/
def applyCount (s : State) (n k : Nat) : State :=
  let w := setFld (ldcntOf s n) (8 * k + 7) (8 * k) (s.fld (Reg.HPX_LDCNT n) (8 * k + 7) (8 * k))
  { s with port := { s.port with ldcnt := smSet 0x10 s.port.ldcnt n w } }

/-- HOLD, its entry or its exit: training waits for its end (R232). -/
def nearHold (s : State) : Bool :=
  decide (s.code = Mode.hold) || (match s.mode.trans with | some t => decide (t.kind ≠ 0) | .none => false)

/-- Training of a released port starts (R87): at once, or after HOLD. -/
def portTrain (s : State) (p : Nat) : State :=
  if nearHold s then s.setSubp p { s.subp p with trainOwed := true } else setPortStat s p 1 0 0

/-- The device acts on a released PERST_N: the mode and the count take effect, an isolated port is enabled again when its
sticky bit is clear (R567), and training starts. -/
def portStart (s : State) (p : Nat) : State :=
  let owed := (s.subp p).owed
  let s := s.setSubp p { s.subp p with owed := false }
  let s := if owed && decide (p % 4 = 0) then applyMode s (p / 4) else s
  if !portExists s p then s
  else
    let s := if owed then applyCount s (p / 4) (p % 4) else s
    let s := if canEnable s (uPort p) then
        (unisolate s (uPort p)).setSubp p { s.subp p with isolated := false } else s
    portTrain s p

def portsStart (s : State) : List Nat → State
  | [] => s
  | p :: r => portsStart (if (s.subp p).perst then portStart s p else s) r

/-- Ports whose training HOLD put off start it (R232). -/
def trainOwedAll (s : State) : List Nat → State
  | [] => s
  | p :: r =>
    trainOwedAll (if (s.subp p).trainOwed && (s.subp p).perst then
      portTrain (s.setSubp p { s.subp p with trainOwed := false }) p else s) r

end Sys2Proof.Machine
end

