-- ==== Sys2Proof/Machine/Modes.lean ====
section
/-! DEFINITION. The commands of the modes (spec/03 R72 to R80, R607) and of the bittern's first two phases (R88). -/

namespace Sys2Proof.Machine

/-! ### Requests -/

/-- An accepted write of GEN_MODEREQ. In TEST a request of any code is a warm reset (R72). -/
def wrModeReq (s : State) (target : Nat) : State :=
  let s := s.setF Reg.GEN_MODEREQ 2 0 target
  if s.code = Mode.test ∧ !s.changing then deviceReset s false 5 else ask s target

def modeRequest (s : State) (p : Path) (target : Nat) : State :=
  guardedWrite s p Reg.GEN_MODEREQ (fun s => wrModeReq s target)

def execModeRequestRise (p : Path) (s : State) : Host.Outcome State Fault Refusal := done (modeRequest s p 1)
def execModeRequestRun (p : Path) (s : State) : Host.Outcome State Fault Refusal := done (modeRequest s p 2)
def execModeRequestDrain (p : Path) (s : State) : Host.Outcome State Fault Refusal := done (modeRequest s p 4)
def execModeRequestHold (p : Path) (s : State) : Host.Outcome State Fault Refusal := done (modeRequest s p 5)
def execModeRequestTest (p : Path) (s : State) : Host.Outcome State Fault Refusal := done (modeRequest s p 6)
def execModeRequestOther (p : Path) (target : Fin 8) (s : State) : Host.Outcome State Fault Refusal :=
  done (modeRequest s p target)

/-! ### RISE: firmware starts the data path (the bring-up table, R170) -/

/-- The resident part of a firmware payload at core addresses 0x0000 to 0x7FFF, zero-filled (R170). -/
def residentPart (payload : List Byte) : List Byte := (payload.take 32768) ++ List.replicate (32768 - payload.length) 0

def putList (m : SMap Byte) (a : Nat) : List Byte → SMap Byte
  | [] => m
  | b :: r => putList (smSet 0 m a b) (a + 1) r

/-- Firmware code placed in a core; fresh parity (R117). -/
def placeFirmware (s : State) (code : List Byte) (n : Nat) : State :=
  let c := s.core n
  s.setCore n { c with lmem := putList c.lmem 0 code, bad := c.bad.filter (fun w => decide (8192 ≤ w)) }

def placeAll (s : State) (code : List Byte) : List Nat → State
  | [] => s
  | n :: r => placeAll (placeFirmware s code n) code r

def riseCores (s : State) : List Nat → State
  | [] => s
  | n :: r => riseCores (if isolated s (uCore n) then s else setReadyCore s n true) r

def riseGc (s : State) : List Nat → State
  | [] => s
  | u :: r =>
    riseGc (if s.bit Reg.CRY_UNITEN u && !isolated s (uCry u) then
      (if u < 8 then setReadyGc s u true else setReadyHc s (u - 8) true) else s) r

def riseXe (s : State) : List Nat → State
  | [] => s
  | u :: r => riseXe (if s.bit Reg.CRY_XEEN u && !isolated s (uXe u) then setReadyXe s u true else s) r

def riseHa (s : State) : List Nat → State
  | [] => s
  | h :: r => riseHa (setReadyHa s h true) r

/-- RISE is entered: firmware has loaded P1 to P15 from P0 and starts the cores and the data path. -/
def riseEntry (s : State) : State :=
  let code := (List.range 32768).map (fun a => smGet 0 (s.core 0).lmem a)
  let fresh := coreList.filter (fun n => decide (n ≠ 0) && !readyCore s n && !isolated s (uCore n))
  let s := placeAll s code fresh
  let s := riseCores s coreList
  let s := setReadyTmu (riseHa s [0, 1, 2, 3]) true
  let s := riseXe (riseGc s (List.range 12)) (List.range 8)
  if s.tideU.pll then setReadyTide s true else s

/-! ### Transitions end -/

/-- A transition without HOLD steps ends (R73, R717). -/
def transitionEnd (s : State) : State :=
  match s.mode.trans with
  | .none => s
  | some t =>
    if t.kind ≠ 0 then s
    else
      let s := endTrans s t
      if t.goal = Mode.rise then riseEntry s else s

/-- The clock in which the hold limit expires: it counts from the first clock of HOLD entry, and a limit that had already passed
when it was written expires in the clock after the write (R80). -/
def limitDue (s : State) : Option Nat := s.mode.holdFrom.map (fun c => max (c + holdLimit s) (s.mode.limitAt + 1))

/-- The hold limit has passed. -/
def limitPassed (s : State) : Bool :=
  match limitDue s with
  | some c => decide (c ≤ s.clock)
  | .none => false

/-- HOLD entry ends (R79, R80): the outstanding transactions are complete and every channel enters self-refresh. A limit that
expired during the entry takes effect now. -/
def holdEntered (s : State) : State :=
  match s.mode.trans with
  | .none => s
  | some t =>
    if t.kind = 1 ∧ s.coh.txns = [] then
      let s := endTrans (selfRefreshAll s true (List.range 24)) t
      if s.mode.limitOwed && decide (s.code = Mode.hold) then holdExpire s else s
    else s

/-- The hold limit expires (R72, R76, R77, R80): during the entry or a HOLD step it is owed. -/
def limitExpiry (s : State) : State :=
  if limitPassed s then
    match s.mode.trans with
    | some t => if t.kind = 1 then { s with mode := { s.mode with limitOwed := true } } else s
    | .none =>
      if s.code ≠ Mode.hold then s
      else if s.mode.step.isSome then { s with mode := { s.mode with limitOwed := true } }
      else holdExpire s
  else s

def execHoldLimitExpiry (s : State) : Host.Outcome State Fault Refusal :=
  atDue .holdLimitExpiry 1 (limitDue s) s (fun s => done (limitExpiry s))

/-- GEN_HOLDLIM (R80): 0 and values above 50,000 read back as 50,000. -/
def wrHoldLim (s : State) (v : Word) : State :=
  let l := fld v 15 0
  let s := s.setF Reg.GEN_HOLDLIM 15 0 (if l = 0 ∨ 50000 < l then 50000 else l)
  if s.mode.holdFrom.isSome then { s with mode := { s.mode with limitAt := s.clock } } else s

def execHoldLimitWrite (p : Path) (v : Word) (s : State) : Host.Outcome State Fault Refusal :=
  done (guardedWrite s p Reg.GEN_HOLDLIM (fun s => wrHoldLim s v))

/-- The window of full capture after SAFE ends (R575). -/
def safecapEnds (s : State) : State :=
  match s.mode.safecapEnd with
  | some t => if t ≤ s.clock then { s.setBit Reg.GEN_MODEX 8 false with mode := { s.mode with safecapEnd := .none } } else s
  | .none => s

def execSafecapExpiry (s : State) : Host.Outcome State Fault Refusal :=
  atDue .safecapExpiry 1 s.mode.safecapEnd s (fun s => done (safecapEnds s))

/-! ### Bittern phases 1 and 2 (R88, R588, R598) -/

/-- Phase 1 ends; the reset has emptied the key slots, and each takes a fresh GEN (R323). OTP has been read, and ports released earlier start training (R202,
R706). -/
def keysDone (s : State) : State :=
  if s.code = Mode.boot && !s.inReset && !s.wipe.keysDone then
    portsStart (newGens { s with wipe := { s.wipe with keysDone := true } }) (List.range 64)
  else s

def execBitternKeysDone (s : State) : Host.Outcome State Fault Refusal := done (keysDone s)

/-- Phase 2 ends: the arrays are zeroised, the collector runs and takes what was latched earlier; CDI_0 and the DeviceID key
are derived, the UDS read port is locked, and the image check begins, unless the OTP read failed (R600). -/
def sramDone (s : State) : State :=
  if s.inReset || !s.wipe.keysDone || s.wipe.sramDone then s
  else
    let bad := s.flt.early.any (fun e => decide (e.1 = Src.otpRead))
    let s := { s with wipe := { s.wipe with sramDone := true }, mode := { s.mode with imageCheck := !bad } }
    releaseEarly (deriveId (s.setBit Reg.SEC_STATE 24 true))

def execBitternSramDone (s : State) : Host.Outcome State Fault Refusal := done (sramDone s)

end Sys2Proof.Machine
end

