-- ==== Sys2Proof/Machine/Boot.lean ====
section
/-! DEFINITION. The security block's commands (spec/17): boot image checks, recovery, tokens, the life-cycle changes and the
anti-rollback counters. -/

namespace Sys2Proof.Machine

/-- A whole complement-pair sequence on a GP register (R53, R57): the _V word and its complement, by one path. -/
def gpWhole (s : State) (p : Path) (off : Nat) (v : Word) (eff : Word → State → State) : State :=
  if s.inReset then s
  else if writeRefused s p off then refuse s p true off
  else gpClose (gpOpen s p off v) p (off + 4) (~~~ v) eff

/-! ### Boot steps 4 to 7 (R598, R603, R686) -/

/-- The image to try next: none tried, the one that PREF names; one tried, the other. -/
def bootRes (s : State) (i : Nat) : Nat := if i = 0 then s.fld Reg.SEC_BOOTSTAT 29 27 else s.fld Reg.SEC_BOOTSTAT 26 24

def setBootRes (s : State) (i r : Nat) : State :=
  if i = 0 then s.setF Reg.SEC_BOOTSTAT 29 27 r else s.setF Reg.SEC_BOOTSTAT 26 24 r

/-- Boot step 4: the boot header is read, TRY acts, and PREF is tried first (R686). -/
def bootFirst (s : State) : State × Nat :=
  let (pref, t) := bootHeader s
  if t = 0xA5 then (setBootHeader s pref 0x5A, pref)
  else if t = 0x5A then (setBootHeader s (1 - pref) 0, 1 - pref)
  else (s, pref)

def nextImage (s : State) : State × Nat :=
  if bootRes s 0 = 0 ∧ bootRes s 1 = 0 then bootFirst s
  else (s, if bootRes s 0 = 0 then 0 else 1)

/-- An image in its NOR slot. -/
def norImage (s : State) (i : Nat) : List Byte :=
  norBytes s (norSlot i) (min 0x400000 (imgBytes (norBytes s (norSlot i) 128)))

/-- Boot step 6: the image runs on P0, and RISE follows, unless the device is in SAFE (R72). -/
def bootRuns (s : State) (i : Nat) (b : List Byte) : State :=
  let s := s.setBit Reg.SEC_BOOTSTAT 30 (decide (i = 1))
  let s := placeFirmware s (residentPart (imgPayload b)) 0
  let ok := decide (idPublic s = some (Config.idCertKey (norBytes s 0x2000 14336)))
  let s := { s with sec := { s.sec with runHdr := imgHdr b, certBad := !ok }, mode := { s.mode with imageCheck := false } }
  let s := deriveAlias s
  let s := if ok then s else raise s Src.certMismatch
  let s := s.setBit Reg.PAL_FWSTAT 23 (decide (i = 1))
  let s := s.setBit Reg.PAL_FWSTAT 24 (decide ((bootHeader s).2 = 0x5A))
  let s := setReadySec s true
  if s.code = Mode.boot then beginTrans s Mode.rise 0 false
  else setReadyCore { s with mode := { s.mode with bootSafe := false } } 0 true

/-- Boot step 7: no image passes. -/
def bootFails (s : State) : State :=
  let s := { s with mode := { s.mode with imageCheck := false, bootSafe := false } }
  let s := raise (s.setBit Reg.SEC_BOOTSTAT 31 true) Src.noImage
  safeReact s

/-- The boot ROM is checking images (R598, R704): in BOOT, or in SAFE when SAFE came during boot. -/
def bootChecking (s : State) : Bool :=
  s.mode.imageCheck && s.wipe.sramDone && s.tideU.pll && !s.inReset && !s.changing &&
    (decide (s.code = Mode.boot) || (decide (s.code = Mode.safe) && s.mode.bootSafe))

/-- One image is tried. -/
def bootImage (s : State) : State :=
  if bootChecking s then
    let (s, i) := nextImage s
    let b := norImage s i
    let r := imageCheck s true b
    let s := setBootRes s i r
    if r = 1 then bootRuns s i b
    else
      let s := raise s Src.bootRejected
      if bootRes s 0 ≠ 0 ∧ bootRes s 1 ≠ 0 then bootFails s else s
  else s

def execBootImageCheck (s : State) : Host.Outcome State Fault Refusal := done (bootImage s)

/-! ### Recovery (R599) -/

/-- The recovery loop runs. -/
def recovering (s : State) : Bool := s.bit Reg.SEC_BOOTSTAT 31 && decide (s.code = Mode.safe)

/-- Outside recovery, and from every path but the sideband path, a write of SEC_FLADDR or SEC_FLDATA is refused (R51). -/
def flashWrite (s : State) (p : Path) (off : Nat) (eff : State → State) : State :=
  if s.inReset then s
  else if writeRefused s p off || !recovering s || decide (p ≠ .sideband) then refuse s p true off
  else eff s

/-- SEC_FLADDR: an address, and an erase of its sector. While an erase or a program runs no other starts. -/
def wrFlAddr (s : State) (v : Word) : State :=
  let s := s.setF Reg.SEC_FLADDR 23 0 (fld v 23 2 * 4)
  if bit v 31 && s.sec.flash.isNone then
    { s.setBit Reg.SEC_FLADDR 30 true with sec := { s.sec with flash := some (true, fld v 23 12 * 4096, 0) } }
  else s

def execFlashErase (p : Path) (addr : BitVec 24) (s : State) : Host.Outcome State Fault Refusal :=
  done (flashWrite s p Reg.SEC_FLADDR (fun s => wrFlAddr s (BitVec.ofNat 32 (2 ^ 31 + addr.toNat))))

/-- SEC_FLDATA: 4 B at ADDR, which advances. -/
def wrFlData (s : State) (v : Word) : State :=
  let a := s.fld Reg.SEC_FLADDR 23 0
  if s.sec.flash.isSome then s
  else
    let s := (s.setF Reg.SEC_FLADDR 23 0 (a + 4)).setBit Reg.SEC_FLADDR 30 true
    { s with sec := { s.sec with flash := some (false, a, v) } }

def execFlashProgram (p : Path) (v : Word) (s : State) : Host.Outcome State Fault Refusal :=
  done (flashWrite s p Reg.SEC_FLDATA (fun s => wrFlData s v))

/-- The erase or the program finishes: an erased byte reads 0xFF. -/
def flashDone (s : State) : State :=
  match s.sec.flash with
  | .none => s
  | some (erase, a, v) =>
    let s := { s with sec := { s.sec with flash := .none } }
    let s := s.setBit Reg.SEC_FLADDR 30 false
    putNor s a (if erase then List.replicate 4096 0xFF else toBytes 4 v.toNat)

def execFlashOperationComplete (s : State) : Host.Outcome State Fault Refusal := done (flashDone s)

/-! ### Tokens (R609 to R615) -/

/-- A write of SEC_TOKDATA. -/
def wrTokData (s : State) (v : Word) : State :=
  let w := s.fld Reg.SEC_TOKADDR 9 0
  let s := s.setF Reg.SEC_TOKADDR 9 0 ((w + 1) % 1024)
  { s with sec := { s.sec with token := putBytes s.sec.token (4 * w) v.toNat 4 } }

def execTokenBufferWrite (p : Path) (v : Word) (s : State) : Host.Outcome State Fault Refusal :=
  done (guardedWrite s p Reg.SEC_TOKDATA (fun s => wrTokData s v))

def tokByte (s : State) (a : Nat) : Byte := smGet 0 s.sec.token a
def tokNat (s : State) (a n : Nat) : Nat := bytesAt s.sec.token a n
def tokBytes (s : State) (a n : Nat) : List Byte := toBytes n (tokNat s a n)

/-- SEC_NONCEn. -/
def nonceWord (s : State) (n : Nat) : Word := Config.random (s.sec.nonce + n)

def nonceBytes (s : State) : List Byte := (List.range 8).flatMap (fun n => toBytes 4 (nonceWord s n).toNat)

/-- The lowest owner slot whose hash is not written (R611). -/
def freeOwner (o : Otp) : Option Nat := (List.range 4).find? (fun k => (smGet .none o.hash (16 + k)).isNone)

/-- The record that signs a token, when the table of R611 allows it for the TKIND: its key record. -/
def tokenSigner (s : State) : Option (List Byte) :=
  let k := tokNat s 6 2
  let kind := (tokByte s 4).toNat
  let valid := recordValid s k
  if kind = 1 then
    let ok := if lcState s = 0 then decide (k = 4) else match ownerNow s with
      | some o => decide (k = 16 + o)
      | .none => false
    if ok && valid then some (recordBytes s k) else .none
  else if kind = 2 then if k ≤ 3 ∧ valid then some (recordBytes s k) else .none
  else
    match freeOwner s.sec.otp with
    | some o => if k = 16 + o then some (tokBytes s 96 160) else .none
    | .none => if 16 ≤ k ∧ k < 20 then some (tokBytes s 96 160) else .none

/-- Whether the transition table has a row for a life-cycle change from the present state (R611). -/
def changeAllowed (lc target : Nat) : Bool :=
  decide ((lc = 0 ∧ target = 1) ∨ (lc = 2 ∧ (target = 3 ∨ target = 1 ∨ target = 5)) ∨
    (lc = 3 ∧ (target = 4 ∨ target = 1 ∨ target = 5)) ∨ (lc = 4 ∧ (target = 3 ∨ target = 1 ∨ target = 5)))

/-- At least one of records 0 to 3 stays valid after the revocation of a record. -/
def stillRelease (s : State) (k : Nat) : Bool := (List.range 4).any (fun n => decide (n ≠ k) && recordValid s n)

/-- A row can be written: row 63 is kept for END (R614). -/
def rowFree (s : State) (target : Nat) : Bool :=
  let n := s.sec.otp.rows.length
  decide (n < 63) || (decide (n = 63) && decide (target = 5))

def tokFail (r : Nat) : TokRun := { kind := 0, result := r, row := .none, prov := .none, revoke := .none, reset := false }

/-- What follows the checks of R609: the transition table, the free slot, the rows, the unwrap. -/
def tokenAction (s : State) : TokRun :=
  let kind := (tokByte s 4).toNat
  let target := (tokByte s 5).toNat
  let lc := lcState s
  if kind = 1 then
    if !changeAllowed lc target then tokFail 7
    else if !rowFree s target then tokFail 9
    else { kind := 1, result := 0, row := some target, prov := .none, revoke := .none, reset := true }
  else if kind = 2 then
    if lc = 0 ∨ lc = 5 ∨ 4 < target ∨ !stillRelease s target then tokFail 7
    else { kind := 2, result := 0, row := .none, prov := .none, revoke := some target, reset := false }
  else if lc ≠ 1 then tokFail 7
  else
    match freeOwner s.sec.otp with
    | .none => tokFail 8
    | some o =>
      if !rowFree s 2 then tokFail 9
      else match tokenKey s (tokBytes s 256 97) (tokBytes s 353 40) with
        | .none => tokFail 10
        | some k => { kind := 3, result := 0, row := some 2, revoke := .none, reset := true
                      prov := some (o, Config.sha384 (tokBytes s 96 160), okwkMasked s.sec.otp o k) }

/-- The checks of a token, in the order of R609, as SEC_TOKSTAT.RESULT codes them. -/
def tokenCheck (s : State) : TokRun :=
  let kind := (tokByte s 4).toNat
  let body := tokNat s 88 4
  let n := 96 + body
  if tokNat s 0 4 ≠ 0x4E4B4F54 ∨ kind = 0 ∨ 3 < kind ∨ body ≠ (if kind = 3 then 297 else 0) ∨ tokNat s 92 4 ≠ 0 ∨
      (kind = 3 ∧ tokByte s 5 ≠ 2) then tokFail 1
  else if some (tokBytes s 8 48) ≠ devHash s then tokFail 2
  else if tokBytes s 56 32 ≠ nonceBytes s then tokFail 3
  else match tokenSigner s with
    | .none => tokFail 4
    | some r =>
      let msg := tokBytes s 0 n
      if !Config.ecdsaOk r msg (tokBytes s n 96) then tokFail 5
      else if !Config.lmsOk r msg (tokBytes s (n + 96) 2828) then tokFail 6
      else tokenAction s

/-- A token command begins: BUSY, and "life-cycle change started" when it will change the state. -/
def tokBegin (s : State) (t : TokRun) : State :=
  let s := { s.setBit Reg.SEC_TOKSTAT 31 true with sec := { s.sec with tok := some t } }
  if t.row.isSome then raise s Src.lcStarted else s

/-- END without a token (R611, R614). -/
def endAction (s : State) : TokRun :=
  if lcState s ≠ 0 ∧ lcState s ≠ 1 then tokFail 7
  else if !rowFree s 5 then tokFail 9
  else { kind := 4, result := 0, row := some 5, prov := .none, revoke := .none, reset := true }

/-- A completed sequence on SEC_TOKCMD (R615): in BOOT nothing; while BUSY, RESULT 12. -/
def wrTokCmd (v : Word) (s : State) : State :=
  let op := fld v 31 30
  let s := s.setF (Reg.SEC_TOKCMD 0) 31 30 op
  if op = 0 ∨ op = 3 ∨ s.code = Mode.boot then s
  else if s.bit Reg.SEC_TOKSTAT 31 then s.setF Reg.SEC_TOKSTAT 30 27 12
  else tokBegin s (if op = 1 then tokenCheck s else endAction s)

def execTokenCommand (p : Path) (s : State) : Host.Outcome State Fault Refusal :=
  done (gpWhole s p (Reg.SEC_TOKCMD 0) 0x40000000#32 wrTokCmd)

def execEndWithoutToken (p : Path) (s : State) : Host.Outcome State Fault Refusal :=
  done (gpWhole s p (Reg.SEC_TOKCMD 0) 0x80000000#32 wrTokCmd)

/-- Certificate slots 1 to 3 erased (R605, R611). -/
def eraseCerts (s : State) : State := putNor s (0x2000 + 14336) (List.replicate 43008 0xFF)

/-- The OTP writes and destructions of an accepted command (R590, R608, R611). -/
def tokApply (s : State) (t : TokRun) : State :=
  let o := s.sec.otp
  let own := ownerSlot o
  let o := match t.prov with
    | some (k, h, w) =>
      { o with hash := smSet .none o.hash (16 + k) (some h), okwk := smSet (List.replicate 32 0) o.okwk k w }
    | .none => o
  let o := match t.revoke with
    | some k => { o with rev := revSet o.rev [k] }
    | .none => o
  let o := match t.row with
    | some c => { o with rows := o.rows ++ [rowByte c] }
    | .none => o
  let release := decide (t.kind = 1 ∧ t.row = some 1 ∧ lcState s ≠ 0)
  let o := match release, own with
    | true, some k => { o with okwk := destroyOkwk o.okwk [k], rev := revSet o.rev [16 + k] }
    | _, _ => o
  let o := if t.row = some 5 then owedDestructions o else o
  let s := { s with sec := { s.sec with otp := o } }
  if release then eraseCerts s else s

/-- The command ends: the buffer is cleared, a fresh nonce drawn (R610). -/
def tokEnd (s : State) (r : Nat) : State :=
  let s := (s.setBit Reg.SEC_TOKSTAT 31 false).setF Reg.SEC_TOKSTAT 30 27 r
  newNonce { s with sec := { s.sec with tok := .none, token := [] } }

/-- TOKEN_COMMAND_COMPLETE (R613): `ok` tells that OTP took what was programmed; if not, nothing of the change stands
(RESULT 11). -/
def tokComplete (s : State) (ok : Bool) : State :=
  match s.sec.tok with
  | .none => s
  | some t =>
    if t.result ≠ 0 then raise (tokEnd s t.result) Src.tokenRejected
    else if !ok then raise (tokEnd s 11) Src.otpProgram
    else
      let s := tokEnd (tokApply s t) 0
      if t.reset then deviceReset s false 4 else s

def execTokenCommandComplete (ok : Bool) (s : State) : Host.Outcome State Fault Refusal := done (tokComplete s ok)

/-! ### Anti-rollback counters (R596, R597) -/

/-- The SVNs of the active images of a KIND. -/
def activeSvns (s : State) (kind : Nat) : List Nat :=
  if kind = 0 then [imgSvn s.sec.runHdr]
  else if kind = 1 then coreList.filterMap (fun n => (activeImage s n).map (fun i => imgSvn i.hdr))
  else s.sets.imgTab.filterMap (fun e => e.2)

def arbResult (s : State) (r : Nat) : State := s.setF Reg.SEC_ARBCNT 31 29 r

/-- One request to advance a counter. -/
def wrArb (ok : Bool) (v : Word) (s : State) : State :=
  let kind := fld v 25 24
  let value := fld v 8 0
  let s := (s.setF (Reg.SEC_ARB 0) 25 24 kind).setF (Reg.SEC_ARB 0) 8 0 value
  let own := ownerNow s
  if kind = 3 ∨ (kind ≠ 0 ∧ own = .none) then arbResult s 4
  else
    let slot := own.getD 0
    let cur := svnOf s.sec.otp kind slot
    if value ≤ cur then arbResult s 1
    else if (if kind = 0 then 256 else 64) < value then arbResult s 2
    else if (activeSvns s kind).any (fun x => decide (x < value)) then arbResult s 3
    else if !ok then raise (arbResult s 5) Src.otpProgram
    else
      let o := s.sec.otp
      let s := { s with sec := { s.sec with otp := { o with svn := smSet 0 o.svn (svnKey kind slot) value } } }
      raise (arbCount (arbResult s 0)) Src.arbAdvanced

def arbWord (kind value : Nat) : Word := BitVec.ofNat 32 (kind * 2 ^ 24 + value)

def execAntiRollbackAdvance (p : Path) (kind : Fin 4) (value : Fin 512) (ok : Bool) (s : State) :
    Host.Outcome State Fault Refusal :=
  done (gpWhole s p (Reg.SEC_ARB 0) (arbWord kind value) (wrArb ok))

end Sys2Proof.Machine
end

