-- ==== Sys2Proof/Machine/Firmware.lean ====
section
/-! DEFINITION. Firmware in service (spec/21 R686 to R690): staging, the swap and its confirmation by PAL_FWCTL and by the
mailbox Activate FW; the end of HOLD entry, after which an online activation swaps. -/

namespace Sys2Proof.Machine

/-- The resident firmware runs: the boot ROM has started P0, and no recovery is in progress. -/
def firmwareRuns (s : State) : Bool := readyCore s 0 && !recovering s && !s.inReset

def fwResult (s : State) (r : Nat) : State := s.setF Reg.PAL_FWSTAT 30 28 r

/-- A firmware command runs. -/
def fwBusy (s : State) : Bool := s.bit Reg.PAL_FWSTAT 31

/-- An Activate FW that has failed or ended leaves the mailbox's background command. -/
def activateEnds (s : State) : State :=
  { s with sec := { s.sec with activate := 0 }, port := { s.port with
      bg := if s.port.bg.map (fun e => e.2) = some 0x0202 then .none else s.port.bg } }

/-- The NOR image that PREF does not name. -/
def idleImage (s : State) : Nat := 1 - (bootHeader s).1

/-- Staging starts (R687); `how`: 0 by PAL_FWCTL, 1 an online and 2 an offline Activate FW. While a firmware command runs, or
while a Load Image holds the staging region, RESULT is 5. -/
def stageStart (s : State) (how : Nat) : State :=
  if fwBusy s || s.sets.staging.isSome then activateEnds (fwResult s 5)
  else
    let b := norImage s (idleImage s)
    { s.setBit Reg.PAL_FWSTAT 31 true with sec := { s.sec with fwCmd := some (1, b, how) } }

/-- Page moves in progress (TIER_STAT.MVACT). -/
def movesActive (s : State) : Bool := !s.tier.moves.isEmpty

/-- The swap starts (R688), as a HOLD step; refusals in the order of the rule's list. -/
def swapStart (s : State) (how : Nat) : State :=
  if s.code ≠ Mode.hold ∨ s.changing then activateEnds (fwResult s 2)
  else match s.sec.staged with
    | .none => activateEnds (fwResult s 3)
    | some b =>
      if movesActive s then activateEnds (fwResult s 4)
      else if fwBusy s || s.mode.step.isSome then activateEnds (fwResult s 5)
      else { s.setBit Reg.PAL_FWSTAT 31 true with
        sec := { s.sec with fwCmd := some (2, b, how) }, mode := { s.mode with step := some 2 } }

/-- CMD 3: the running image is confirmed (R690). Whether the NOR takes the write is free; a failed write leaves the header (log
entry 242). -/
def fwConfirm (s : State) : State :=
  if fwBusy s then fwResult s 5
  else if Config.norFails s.fresh then fwResult s.draw 6
  else
    let s := s.draw
    fwResult ((setBootHeader s (bootHeader s).1 0).setBit Reg.PAL_FWSTAT 24 false) 0

/-- An accepted write of PAL_FWCTL. -/
def wrFwCtl (s : State) (cmd : Nat) : State :=
  let s := s.setF Reg.PAL_FWCTL 1 0 cmd
  if !firmwareRuns s then s
  else match cmd with
    | 1 => stageStart s 0
    | 2 => swapStart s 0
    | 3 => fwConfirm s
    | _ => s

def firmwareWrite (p : Path) (cmd : Nat) (s : State) : State := guardedWrite s p Reg.PAL_FWCTL (fun s => wrFwCtl s cmd)

def execFirmwareStage (p : Path) (s : State) : Host.Outcome State Fault Refusal := done (firmwareWrite p 1 s)
def execFirmwareSwap (p : Path) (s : State) : Host.Outcome State Fault Refusal := done (firmwareWrite p 2 s)
def execFirmwareConfirm (p : Path) (s : State) : Host.Outcome State Fault Refusal := done (firmwareWrite p 3 s)

/-- The firmware command that runs has ended. -/
def fwEnd (s : State) (r : Nat) : State :=
  { fwResult (s.setBit Reg.PAL_FWSTAT 31 false) r with sec := { s.sec with fwCmd := .none } }

/-- An accepted staged image: the boot header names it, on trial, or to be tried on the next boot for an offline
activation; an online one requests HOLD (R687, R690). -/
def stageDone (s : State) (b : List Byte) (how : Nat) : State :=
  let i := idleImage s
  let s := fwEnd s 0
  let s := setBootHeader { s with sec := { s.sec with staged := some b } } i (if how = 2 then 0xA5 else 0x5A)
  let s := (s.setBit Reg.PAL_FWSTAT 25 true).setBit Reg.PAL_FWSTAT 22 (decide (i = 1))
  if how = 1 then
    let s := if s.changing || !lcAllows s Mode.hold then reqResult s 3 else requestHold s
    match s.mode.trans with
    | some t => if t.goal = Mode.hold then { s with sec := { s.sec with activate := 1 } } else activateEnds (fwResult s 2)
    | .none => activateEnds (fwResult s 2)
  else activateEnds s

/-- FIRMWARE_STAGE_COMPLETE: `ok` tells that the NOR took the boot header. -/
def stageComplete (s : State) (ok : Bool) : State :=
  match s.sec.fwCmd with
  | some (1, b, how) =>
    if imageCheck s true b ≠ 1 then activateEnds (fwEnd s 1)
    else if !ok then activateEnds (fwEnd s 6)
    else stageDone s b how
  | _ => s

def execFirmwareStageComplete (ok : Bool) (s : State) : Host.Outcome State Fault Refusal := done (stageComplete s ok)

/-- Every core holds the firmware of an image and restarts (R688). -/
def coresRestart (s : State) (b : List Byte) : State := restartAll (placeAll s (residentPart (imgPayload b)) coreList) coreList

/-- The swap ends: the cores hold the staged firmware and restart (R688). Work that the HOLD limit or an online activation
left follows (R77, R689). -/
def swapComplete (s : State) : State :=
  match s.sec.fwCmd with
  | some (2, b, how) =>
    let s := coresRestart s b
    let img := s.bit Reg.PAL_FWSTAT 22
    let s := ((fwEnd s 0).setBit Reg.PAL_FWSTAT 24 true).setBit Reg.PAL_FWSTAT 25 false
    let s := s.setBit Reg.PAL_FWSTAT 23 img
    let s := stepEnds { s with sec := { s.sec with runHdr := imgHdr b, staged := .none } }
    if how = 1 then activateEnds (if s.code = Mode.hold ∧ !s.changing then requestRun s else s) else s
  | _ => s

def execFirmwareSwapComplete (s : State) : Host.Outcome State Fault Refusal := done (swapComplete s)

/-! ### HOLD entry ends (R79, R80) -/

/-- HOLD is entered; an online activation that requested it swaps now. -/
def holdReached (s : State) : State :=
  let s := holdEntered s
  if s.sec.activate = 1 ∧ s.code = Mode.hold then swapStart { s with sec := { s.sec with activate := 2 } } 1 else s

def execHoldEntryComplete (s : State) : Host.Outcome State Fault Refusal := done (holdReached s)

end Sys2Proof.Machine
end

