-- ==== Sys2Proof/Machine/Rake.lean ====
section
/-! DEFINITION. The rake (spec/15 R546 to R549) and SRAM field repair (R551 to R553). -/

namespace Sys2Proof.Machine

/-! ### Starting -/

def rakeFirst (s : State) : Nat := (s.reg Reg.RAKE_FIRST_HI).toNat % 2 ^ 14 * 2 ^ 20 + s.fld Reg.RAKE_FIRST_LO 31 12
def rakeLast (s : State) : Nat := (s.reg Reg.RAKE_LAST_HI).toNat % 2 ^ 14 * 2 ^ 20 + s.fld Reg.RAKE_LAST_LO 31 12

def clearRegs (s : State) : List Nat → State
  | [] => s
  | r :: rs => clearRegs (s.setReg r 0) rs

/-- The counters and the records of the rake. -/
def rakeRegs : List Nat :=
  [Reg.RAKE_STAT, Reg.RAKE_READ_LO, Reg.RAKE_READ_HI, Reg.RAKE_CORR, Reg.RAKE_UNC, Reg.RAKE_POIS, Reg.RAKE_SKIP] ++
    (List.range 16).flatMap (fun n => [Reg.RAKE_UE_LO n, Reg.RAKE_UE_HI n])

/-- The rewrites of bursts that the rake read in this clock, of which a write accepted since has discarded its own (R548): a write of
the same clock counts as first (R391). -/
def rakeRewrites (s : State) : State :=
  let s' := s.rake.pend.foldl (fun s x => s.writeBurst x.1 x.2.1) s
  { s' with rake := { s.rake with pend := [], marked := (s.rake.marked ++ s.rake.pend.flatMap (fun x => x.2.2)).eraseDups } }

/-- The rake rewrites a burst at the end of the clock. -/
def rakeRewrite (s : State) (k : Nat) (b : Burst) (lines : List Nat) : State :=
  { s with rake := { s.rake with pend := s.rake.pend ++ [(k, b, lines)] } }

/-- START while BUSY is 0. -/
def rakeStart (s : State) : State :=
  if s.bit Reg.RAKE_STAT 31 then s
  else
    let s := (clearRegs (rakeRewrites s) rakeRegs).setBit Reg.RAKE_STAT 31 true
    { s with rake := { next := rakeFirst s, last := rakeLast s } }

/-- A write of RAKE_CTL. -/
def wrRakeCtl (s : State) (v : Word) : State :=
  let s := s.setF Reg.RAKE_CTL 3 1 (fld v 3 1)
  if bit v 0 then rakeStart s else s

def execRakeStart (p : Path) (v : Word) (s : State) : Host.Outcome State Fault Refusal :=
  done (guardedWrite s p Reg.RAKE_CTL (fun s => wrRakeCtl s v))

/-! ### One page -/

/-- What the symbol code, and with DEEP the burst check, finds of one burst read. -/
inductive Raked where
  | clean
  | fixed (dev : Nat) (left : List (Nat × Nat))
  | bad
  deriving DecidableEq, Repr

/-- One burst read with the error that the cells add. -/
def rakeRead (s : State) (k : Nat) (deep : Bool) (e : List (Nat × Word)) : State × Raked :=
  let c := keyChan k
  let off := keyOff k
  let e := errMerge (e.map (fun x => (x.1 % 20, x.2.toNat)) ++ storedErrors (s.burst k))
  let s := if deep then countCipher s 1 (k, 15, s.burst k) else s
  let unmet := deep && decide ((s.burst k).bc.toNat ≠ lineCheck (s.burst k).plain) && !isMarked (s.burst k)
  match symbolDecode (markOf s c off) e with
  | .clean good => (s, if deep && (!good || unmet) then .bad else .clean)
  | .fixed j good =>
    let s := tick (countFix s c off j) (bChan c) 6 1
    if deep && (!good || unmet) then (s, .bad) else (s, .fixed j (if good then [] else leftOver s k e j))
  | _ => (raiseChan s c 2 (some off) {}, .bad)

/-- A run's burst: its channel's read, or those of the five others of its parity set when the channel is absent (R411). -/
def rakeReads (s : State) (deep : Bool) : List Nat → List (List (Nat × Word)) → State × Raked
  | [], _ => (s, .clean)
  | k :: ks, es =>
    let (s, r) := rakeRead s k deep (es.headD [])
    let (s, q) := rakeReads s deep ks es.tail
    (s, match r, q with
      | .bad, _ => .bad
      | _, .bad => .bad
      | .fixed j l, _ => .fixed j l
      | .clean, q => q)

/-- RAKE_UEn records an uncorrectable burst; after the sixteenth, MORE. -/
def rakeRecord (s : State) (page i kind : Nat) : State :=
  match (List.range 16).find? (fun n => !s.bit (Reg.RAKE_UE_HI n) 31) with
  | some n => (s.setReg (Reg.RAKE_UE_LO n) (BitVec.ofNat 32 (page % 2 ^ 20 * 4096 + i * 64 + kind * 16))).setReg
      (Reg.RAKE_UE_HI n) (BitVec.ofNat 32 (2 ^ 31 + page / 2 ^ 20))
  | .none => s.setBit Reg.RAKE_STAT 29 true

/-- The lines with a sector in burst `i` of a page's run: for a T2 stream, the whole page. -/
def linesInBurst (s : State) (page : Nat) (e : DWord) (i : Nat) : List Nat :=
  if eState e = Ent.t0 then [i]
  else if eState e = Ent.t1 then
    let codes := codesOf s page
    (List.range 64).filter (fun l => (lineLocs e codes l).contains (1024 * eCell e + 64 * i))
  else if eNb e = 15 then [i]
  else List.range 64

/-- RAKE_READ, of 40 bits. -/
def bumpRead (s : State) : State :=
  let v := (s.reg Reg.RAKE_READ_LO).toNat + 2 ^ 32 * s.fld Reg.RAKE_READ_HI 7 0 + 1
  (s.setReg Reg.RAKE_READ_LO (BitVec.ofNat 32 v)).setF Reg.RAKE_READ_HI 7 0 (v / 2 ^ 32)

/-- One burst of the run. -/
def rakeBurst (s : State) (page : Nat) (e : DWord) (i loc : Nat) (errs : List (List (Nat × Word))) : State :=
  let n := eSet e
  let k := burstAt s n loc
  let (s, r) := rakeReads s (s.bit Reg.RAKE_CTL 3) (readKeys s n loc) errs
  let s := tick (bumpRead s) bSweep 0 1
  let s := if decide (r ≠ .bad) && isMarked (s.burst k) then s.bump Reg.RAKE_POIS 31 0 else s
  match r with
  | .clean => s
  | .fixed _ left =>
    let s := tick (s.bump Reg.RAKE_CORR 31 0) bSweep 1 1
    if s.bit Reg.RAKE_CTL 1 then
      let s := rakeRewrite s k (fixedBurst (s.burst k) left s.fresh) []
      if left = [] then s else drawN 16 s
    else s
  | .bad =>
    let s := tick (s.bump Reg.RAKE_UNC 31 0) bSweep 2 1
    let s := rakeRecord s page i (eState e)
    let s := raiseWith s Src.rakeUncorrectable { atype := 1, akind := 1, addr := page * 4096 + 64 * i, mkind := 6 }
    if s.bit Reg.RAKE_CTL 2 then
      let ls := (linesInBurst s page e i).map (fun l => page * 4096 + 64 * l)
      rakeRewrite s k markedBurst ls
    else s

def rakeBursts (s : State) (page : Nat) (e : DWord) : Nat → List Nat → List (List (Nat × Word)) → State
  | _, [], _ => s
  | i, l :: ls, es =>
    let n := (readKeys s (eSet e) l).length
    rakeBursts (rakeBurst s page e i l (es.take n)) page e (i + 1) ls (es.drop n)

/-- The bursts of a page's run. -/
def runLocs (e : DWord) : List Nat :=
  match runOf e with
  | .none => []
  | some r =>
    let (a, l) := runBytes r
    (List.range (l / 64)).map (fun i => a + 64 * i)

/-- The rake works in this mode (R549). -/
def rakeRuns (s : State) : Bool :=
  s.bit Reg.RAKE_STAT 31 && !holding s &&
    decide (s.code = Mode.rise ∨ s.code = Mode.run ∨ s.code = Mode.trim ∨ s.code = Mode.drain ∨ s.code = Mode.test)

/-- The map set of a page is servable. -/
def mapServed (s : State) (page : Nat) : Bool :=
  match mapSetOf s page with
  | some n => setServable s n
  | .none => false

/-- A page waits: in RISE for a set that is not servable yet (R549), or for a rank under repair (R554). -/
def rakeWaits (s : State) (page : Nat) : Bool :=
  let e := storedEntry s page
  let unready (n : Nat) : Bool := setV s n && !setServable s n && !s.bit Reg.TIER_SETOFF n
  (decide (s.code = Mode.rise) && ((match mapSetOf s page with | some n => unready n | .none => false) ||
      (decide (eState e ≤ 2) && unready (eSet e)))) ||
    (pageServable s page && (runLocs e).any (fun l => (readKeys s (eSet e) l).any (fun k => rankHeld s (keyChan k) k)))

/-- A page of its range: a held page makes the rake wait. `errs` gives the errors that the cells add, a burst read a list. -/
def rakePage (s : State) (errs : List (List (Nat × Word))) : State :=
  let page := s.rake.next
  if !rakeRuns s || decide (s.rake.last < page) || heldPage s page || paused s || rakeWaits s page then s
  else
    let s := { s with rake := { s.rake with next := page + 1 } }
    let s := if mapServed s page then writeBlock s page else s
    let e := storedEntry s page
    if pageServable s page && decide (eState e ≤ 2) && !malformed s e then
      let locs := runLocs e
      rakeBursts (charge s false 253 locs.length .amber) page e 0 locs errs
    else s.bump Reg.RAKE_SKIP 31 0

def execRakePage (errs : List (List (Nat × Word))) (s : State) : Host.Outcome State Fault Refusal := done (rakePage s errs)

/-- The range is done. -/
def rakeFinish (s : State) : State :=
  if rakeRuns s && decide (s.rake.last < s.rake.next) then
    let s := raise (s.setBit Reg.RAKE_STAT 31 false) Src.rakeDone
    if s.port.bg.map (fun e => e.2) = some 0x4304 then { s with port := { s.port with bg := .none } } else s
  else s

def execRakeDone (s : State) : Host.Outcome State Fault Refusal := done (rakeFinish s)

/-! ### SRAM field repair -/

def fuseResult (s : State) (r : Nat) : State := s.setF Reg.GEN_FUSESTAT 30 28 r

/-- A completed sequence on GEN_FUSEPROG: array, row or column, and spare name the record's spare. -/
def wrFuse (v : Word) (s : State) : State :=
  let s := s.setReg (Reg.GEN_FUSEPROG 0) v
  if s.code ≠ Mode.hold ∨ s.changing ∨ s.mode.step.isSome then fuseResult s 1
  else if s.sec.otp.fuses.any (fun r => decide (fld r 31 16 = fld v 31 16)) then fuseResult s 2
  else if 256 ≤ s.sec.otp.fuses.length then fuseResult s 3
  else { s.setBit Reg.GEN_FUSESTAT 31 true with
    repair := { s.repair with run := some v }, mode := { s.mode with step := some 1 } }

def execFuseRepair (p : Path) (v : Word) (s : State) : Host.Outcome State Fault Refusal :=
  done (gpWhole s p (Reg.GEN_FUSEPROG 0) v wrFuse)

/-- The repair ends; `ok` tells that the record was verified. -/
def fuseEnds (s : State) (ok : Bool) : State :=
  match s.repair.run with
  | .none => s
  | some v =>
    let s := { s.setBit Reg.GEN_FUSESTAT 31 false with repair := { s.repair with run := .none } }
    let s := if ok then
      let o := s.sec.otp
      fuseResult ({ s with sec := { s.sec with otp := { o with fuses := o.fuses ++ [v] } } }.setF Reg.GEN_FUSESTAT 8 0
        (o.fuses.length + 1)) 0
    else raise (fuseResult s 4) Src.fuseFailed
    stepEnds s

def execFuseRepairComplete (ok : Bool) (s : State) : Host.Outcome State Fault Refusal := done (fuseEnds s ok)

end Sys2Proof.Machine
end

