-- ==== Sys2Proof/Machine/House.lean ====
section
/-! DEFINITION. Housekeeping (spec/19): the readings of a round, the thermal model in exact fractions, the pause step, and
boundary scan (spec/22 R708). -/

namespace Sys2Proof.Machine

/-! ### Fractions -/

/-- A fraction in lowest terms. -/
def mkFrac (n : Int) (d : Nat) : Frac :=
  let g := Nat.gcd n.natAbs d
  if g = 0 then {} else { num := n / g, den := d / g }

def Frac.add (a b : Frac) : Frac := mkFrac (a.num * b.den + b.num * a.den) (a.den * b.den)
def Frac.neg (a : Frac) : Frac := { a with num := -a.num }
def Frac.sub (a b : Frac) : Frac := a.add b.neg
def Frac.mul (a b : Frac) : Frac := mkFrac (a.num * b.num) (a.den * b.den)
/-- A fraction divided by a whole number; by 0 it is 0. -/
def Frac.divBy (a : Frac) (n : Nat) : Frac := if n = 0 then {} else mkFrac a.num (a.den * n)
def Frac.lt (a b : Frac) : Bool := decide (a.num * b.den < b.num * a.den)
def Frac.le (a b : Frac) : Bool := decide (a.num * b.den ≤ b.num * a.den)
def Frac.abs (a : Frac) : Frac := { a with num := a.num.natAbs }
def Frac.max (a b : Frac) : Frac := if a.lt b then b else a
def fracSum : List Frac → Frac
  | [] => {}
  | x :: r => x.add (fracSum r)
def fracMax : List Frac → Frac
  | [] => {}
  | [x] => x
  | x :: r => x.max (fracMax r)
def fracNat (n : Nat) : Frac := { num := n }

/-- A temperature as a register shows it: 0.0625 °C, signed, cut to 16 bits. -/
def tempWord (t : Frac) : Nat := ((t.num * 16 / (t.den : Int)) % 65536).toNat

/-- A reading in 0.0625 °C, signed. -/
def sensed (v : Nat) : Frac := mkFrac (if v % 65536 < 32768 then (v % 65536 : Nat) else (v % 65536 : Nat) - 65536) 16

/-! ### Errors of housekeeping (R664) -/

def raiseHk (s : State) (src place : Nat) : State :=
  raise (record s Reg.HK_ERR 31 30 (fun s =>
    s.setReg Reg.HK_ERR (BitVec.ofNat 32 ((src - 1411) % 16 * 2 ^ 16 + place % 512)))) src

/-! ### The readings (R651, R653) -/

/-- A channel that gives a value. -/
def readGood (s : State) (n v : Nat) : State :=
  let s := s.setReg (Reg.HK_CH n) (BitVec.ofNat 32 v)
  if 192 ≤ n ∧ n < 240 then { s with hk := { s.hk with fails := smSet 0 s.hk.fails (n - 192) 0 } } else s

/-- A channel that gives none: an SPD hub's read failed, or the channel was not read within the round. -/
def readMissed (s : State) (n : Nat) : State :=
  let s := s.setBit (Reg.HK_CH n) 31 true
  if 192 ≤ n ∧ n < 240 then
    let k := smGet 0 s.hk.fails (n - 192) + 1
    let s := tick { s with hk := { s.hk with fails := smSet 0 s.hk.fails (n - 192) k } } bHouse 3 1
    if k = 3 then raiseHk s 1415 n else s
  else raiseHk s 1418 n

/-- The readings in channel order. -/
def readings (s : State) (n : Nat) : Nat → List (Option (BitVec 16)) → State
  | 0, _ => s
  | k + 1, r =>
    let s := match r.headD .none with
      | some v => readGood s n v.toNat
      | .none => readMissed s n
    readings s (n + 1) k r.tail

def chanValue (s : State) (n : Nat) : Nat := s.fld (Reg.HK_CH n) 15 0

/-- The power of a rail point in units of 10 µW (R652). -/
def pointPower (s : State) (p : Nat) : Nat := chanValue s (248 + 2 * p) * chanValue s (249 + 2 * p)

/-- The power of the device. -/
def roundPower (s : State) : Nat := (List.range 68).foldl (fun a p => a + pointPower s p) 0

/-! ### The thermal model (R654 to R657) -/

/-- The power of a node in units of 2.5 µW: each point counts 4 in a whole share (R654). Q0 and Q1 lie at the west link die (R17). -/
def nodePower (s : State) (i : Nat) : Nat :=
  let q := i / 4
  let pt (p w : Nat) : Nat := w * pointPower s p
  if i = 16 then pt 64 4 + pt 67 4
  else match i % 4 with
    | 0 => pt (48 + q) 4 + pt (52 + q) 4 + pt 60 1 + pt 61 1
    | 1 => pt (56 + q) 4
    | 2 => (List.range 6).foldl (fun a k => a + pt (24 + 6 * q + k) 4) 0
    | _ => (List.range 4).foldl (fun a k => a + pt (4 * q + k) 4) 0 + pt (16 + 2 * q) 4 + pt (17 + 2 * q) 4 +
        pt (62 + q / 2) 2 + pt (65 + q / 2) 2

/-- The edges of the model, in the order in which R655 names them (DESIGN CHOICE): in each quadrant logic to SRAM, PHY and
SerDes, and the four nodes to the package; the ring; the package to the heat sink, node 17. -/
def edges : List (Nat × Nat) :=
  (List.range 4).flatMap (fun q =>
    [(4 * q, 4 * q + 1), (4 * q, 4 * q + 2), (4 * q, 4 * q + 3), (4 * q, 16), (4 * q + 1, 16), (4 * q + 2, 16),
      (4 * q + 3, 16)]) ++ [(0, 4), (4, 12), (12, 8), (8, 0), (16, 17)]

/-- A capacitance in mJ/K (words 0x1000 on) or a conductance in mW/K (0x1020 on). -/
def pkgVal (s : State) (w : Nat) : Nat := match smGet .none s.hk.pkg w with
  | some v => v.toNat
  | .none => Config.pkgWord w

def nodeTemp (s : State) (i : Nat) : Frac := if i = 17 then s.hk.sink else s.hk.temps.getD i {}

/-- The heat that leaves a node by its edges, in mW. -/
def outflow (s : State) (i : Nat) : Nat → List (Nat × Nat) → Frac
  | _, [] => {}
  | e, (a, b) :: r =>
    let x := outflow s i (e + 1) r
    if a = i then ((fracNat (pkgVal s (0x1020 + e))).mul ((nodeTemp s a).sub (nodeTemp s b))).add x
    else if b = i then ((fracNat (pkgVal s (0x1020 + e))).mul ((nodeTemp s b).sub (nodeTemp s a))).add x
    else x

/-- A node after 1 ms: ΔT = 1 ms × (P − ΣG·ΔT) ÷ C, in mW, mJ/K. -/
def nodeStep (s : State) (i : Nat) : Frac :=
  let mw := (mkFrac (nodePower s i) 400).sub (outflow s i 0 edges)
  (nodeTemp s i).add ((mw.divBy 1000).divBy (pkgVal s (0x1000 + i)))

/-- The node of a diode (R656). -/
def diodeNode (d : Nat) : Nat := if d < 4 then 4 * d else 4 * (d - 4) + 2

def diode (s : State) (d : Nat) : Frac := sensed (chanValue s (240 + d))

/-- The mean diode reading. -/
def meanDiode (s : State) : Frac := (fracSum ((List.range 8).map (diode s))).divBy 8

def setTemps (s : State) (t : List Frac) (sink : Frac) : State := { s with hk := { s.hk with temps := t, sink := sink } }

/-- Counts of R656 and R657 from the errors of a round's diodes. -/
def judgeErrors (s : State) (errs : List Frac) : State :=
  let calm := errs.all (fun e => e.abs.lt (fracNat 2))
  let off := errs.any (fun e => (fracNat 5).lt e.abs)
  let h : HkS := { s.hk with
    calm := if calm then min 100 (s.hk.calm + 1) else 0
    off := if off then min 10 (s.hk.off + 1) else 0
    disagree := !calm && (s.hk.disagree || (off && decide (9 ≤ s.hk.off))) }
  let told := off && decide (s.hk.off = 9)
  let s := { s with hk := h }
  let s := if h.calm = 100 then s.setBit Reg.HK_STAT 31 true else s
  if told then raiseHk s 1416 (((List.range 8).find? (fun d => (fracNat 5).lt (errs.getD d {}).abs)).getD 0) else s

/-- The update of a round's end (R656); the first round after a cold reset takes the mean diode reading. -/
def thermal (s : State) : State :=
  if s.hk.temps = [] then
    let m := meanDiode s
    setTemps s (List.replicate 17 m) m
  else
    let s := setTemps s ((List.range 17).map (nodeStep s)) s.hk.sink
    if s.bit Reg.HK_CTL 1 then
      let errs := (List.range 8).map (fun d => (diode s d).sub (nodeTemp s (diodeNode d)))
      let corr (i : Nat) : Frac := match (List.range 8).find? (fun d => decide (diodeNode d = i)) with
        | some d => (errs.getD d {}).divBy 4
        | .none => {}
      let s := setTemps s ((List.range 17).map (fun i => (nodeTemp s i).add (corr i)))
        (s.hk.sink.add ((fracSum errs).divBy 512))
      judgeErrors s errs
    else s

/-- The temperature of a node for the throttle (R657). -/
def hotOf (s : State) (i : Nat) : Frac :=
  if s.hk.disagree then
    match (List.range 8).find? (fun d => decide (diodeNode d = i)) with
    | some d => (nodeTemp s i).max (diode s d)
    | .none => nodeTemp s i
  else nodeTemp s i

def tHot (s : State) : Frac := fracMax ((List.range 17).map (hotOf s))
def hottest (s : State) : Nat := ((List.range 17).find? (fun i => (tHot s).le (hotOf s i))).getD 0

/-- The temperature of the DIMM of a slot for the throttle and R399 (R653). -/
def dimmTemp (s : State) (n : Nat) : Frac :=
  if 3 ≤ smGet 0 s.hk.fails n then fracNat (s.fld Reg.HK_LIM 7 0 + 1) else sensed (chanValue s (192 + n))

/-! ### The throttle (R659 to R661) -/

/-- The pause step that a round sets, whether temperature or power raises it, and "over" and "under" (R659). -/
def nextPause (s : State) : Nat × Bool × Bool × Bool × Bool :=
  let hot := tHot s
  let dimm := fracMax ((List.range 48).map (dimmTemp s))
  let lim (hi lo : Nat) : Nat := s.fld Reg.HK_LIM hi lo
  let w := roundPower s
  let plim := s.fld Reg.HK_PLIM 15 0 * 10000
  let hyst := s.fld Reg.HK_PLIM 23 16 * 100000
  let p := s.hk.step
  let tOver := (fracNat (lim 15 8)).lt hot || (fracNat (lim 7 0)).lt dimm
  let pOver := decide (plim < w)
  let under := (hot.add (fracNat 3)).le (fracNat (lim 15 8)) && (dimm.add (fracNat 3)).le (fracNat (lim 7 0)) &&
    decide (w + hyst ≤ plim)
  let thr := s.bit Reg.HK_CTL 0
  let max := (fracNat (lim 23 16)).lt hot
  let q := if max then 63
    else if thr && (tOver || pOver) then min 63 (p + s.fld Reg.HK_CTL 5 2)
    else if thr && under && decide (0 < p) then p - 1
    else p
  let q := Nat.max q (s.fld Reg.HK_CTL 13 8)
  (q, max || tOver, pOver, tOver || pOver, under)

/-- A round's events. -/
def roundEvents (s : State) (p : Nat) : State :=
  let hot := tHot s
  let lim (hi lo : Nat) : Frac := fracNat (s.fld Reg.HK_LIM hi lo)
  let i := hottest s
  let s := if (lim 15 8).lt hot then raiseHk s 1411 i else s
  let s := if (lim 23 16).lt hot then raiseHk s 1412 i else s
  let s := if s.fld Reg.HK_PLIM 15 0 * 10000 < roundPower s then raiseHk s 1414 0 else s
  let s := if p = 63 then raiseHk s 1419 0 else s
  if (lim 31 24).le hot then safeReact (raiseHk s 1413 i) else s

/-- The refresh rate and the warning of each channel's DIMMs (R399). -/
def chanHeat (s : State) : List Nat → State
  | [] => s
  | c :: r =>
    let t := (dimmTemp s (2 * c)).max (dimmTemp s (2 * c + 1))
    let s := s.setChan c { s.chan c with hotNext := (fracNat 85).lt t }
    chanHeat (if (fracNat 95).lt t then raiseChan s c 9 .none {} else s) r

/-- The registers that show the model. -/
def showModel (s : State) : State :=
  let w := min 0xFFFF (roundPower s / 10000)
  let s := (s.setF Reg.HK_POWER 15 0 w).setF Reg.HK_POWER 31 16 (Nat.max w (s.fld Reg.HK_POWER 31 16))
  let s := (List.range 17).foldl (fun s i => s.setF (Reg.HK_TEMP i) 15 0 (tempWord (nodeTemp s i))) s
  (s.setF Reg.HK_TSINK 15 0 (tempWord s.hk.sink)).setF Reg.HK_TAVG 15 0 (tempWord s.hk.avg)

/-- T_hot averaged with a time constant of 30 days, of 2,592,000,000 rounds. -/
def averaged (s : State) : State :=
  { s with hk := { s.hk with avg := s.hk.avg.add (((tHot s).sub s.hk.avg).divBy 2592000000) } }

/-- The new P waits for its run (R660). -/
def setPause (s : State) (endTide : Nat) : State :=
  let (p, t, w, high, low) := nextPause s
  let s := if high then tick s bHouse 1 1 else if low then tick s bHouse 2 1 else s
  let s := if s.hk.step < p then (s.setBit Reg.HK_STAT 30 t).setBit Reg.HK_STAT 29 w else s
  let rose := decide (s.hk.step < p)
  let s := { s with hk := { s.hk with step := p, pend := some ((endTide + 31250 + 15) / 16 * 16) } }
  roundEvents s (if rose then p else 0)

/-- HK_CTL, HK_LIM and HK_PLIM take values. -/
def setLimits (s : State) (r : Word × Word × Word) : State :=
  ((s.setReg Reg.HK_CTL r.1).setReg Reg.HK_LIM r.2.1).setReg Reg.HK_PLIM r.2.2

/-- The three words as they stand. -/
def limitsNow (s : State) : Word × Word × Word := (s.reg Reg.HK_CTL, s.reg Reg.HK_LIM, s.reg Reg.HK_PLIM)

/-- An update takes the limits as they stood before the writes of its clock (R660). -/
def limitsBefore (s : State) (f : State → State) : State :=
  match s.hk.before with
  | some (c, r) => if c = s.clock then setLimits (f (setLimits s r)) (limitsNow s) else f s
  | .none => f s

/-- A write of HK_CTL, HK_LIM or HK_PLIM: the words before the first of the clock are kept for an update of the clock. -/
def noteLimits (s : State) : State :=
  match s.hk.before with
  | some (c, _) => if c = s.clock then s else { s with hk := { s.hk with before := some (s.clock, limitsNow s) } }
  | .none => { s with hk := { s.hk with before := some (s.clock, limitsNow s) } }

/-- A round that has ended, or that a step of the tide has cut short, is carried out; before its end nothing happens (R650, R515). -/
def houseRound (s : State) (rd : List (Option (BitVec 16))) : State :=
  let k := s.tide / 625000
  if !readyHk s || s.inReset || (s.hk.cut.isNone && decide (k = 0 ∨ s.hk.round = some k)) then s
  else
    let fin := s.hk.cut.getD (625000 * k)
    let s := { s with hk := { s.hk with round := some k, cut := .none } }
    let s := limitsBefore s (fun s => setPause (averaged (thermal (readings s 0 384 rd))) fin)
    let s := showModel (chanHeat s (List.range 24))
    tick (s.setF Reg.HK_STAT 15 0 (s.fld Reg.HK_STAT 15 0 + 1)) bHouse 0 1

def execHousekeepingRound (rd : List (Option (BitVec 16))) (s : State) : Host.Outcome State Fault Refusal :=
  done (houseRound s rd)

/-- The new pause step takes effect at its run of 64 clocks (R660), and D follows (R433). -/
def pauseApply (s : State) : State :=
  match s.hk.pend with
  | .none => s
  | some t =>
    if s.tide < t then s
    else
      let s := { s with hk := { s.hk with pend := .none } }
      let old := s.fld Reg.HK_STAT 21 16
      let s := (s.setF Reg.HK_STAT 21 16 s.hk.step).setF Reg.SLU_DELIV 21 16 s.hk.step
      if old = s.hk.step then s
      else { s with slu := { s.slu with pendD := some (deliverable s (s.fld Reg.SLU_CTL 15 8)) } }

def execPauseStepApply (s : State) : Host.Outcome State Fault Refusal := done (pauseApply s)

/-! ### HK registers that firmware and hosts write -/

/-- HK_CTL: STEP 0 reads back as 1. -/
def wrHkCtl (s : State) (v : Word) : State :=
  let s := noteLimits s
  ((s.setF Reg.HK_CTL 13 8 (fld v 13 8)).setF Reg.HK_CTL 5 2 (Nat.max 1 (fld v 5 2))).setF Reg.HK_CTL 1 0 (fld v 1 0)

/-- HK_LIM: TMAX at most 105 °C, TTHR at most TMAX, TDIMM from 60 to 95 °C. -/
def wrHkLim (s : State) (v : Word) : State :=
  let s := noteLimits s
  let tmax := min 105 (fld v 23 16)
  ((s.setF Reg.HK_LIM 23 16 tmax).setF Reg.HK_LIM 15 8 (min tmax (fld v 15 8))).setF Reg.HK_LIM 7 0
    (Nat.max 60 (min 95 (fld v 7 0)))

/-- HK_PLIM: HYST from 1 to 50 W, PLIM at most 340 W. -/
def wrHkPlim (s : State) (v : Word) : State :=
  let s := noteLimits s
  (s.setF Reg.HK_PLIM 23 16 (Nat.max 1 (min 50 (fld v 23 16)))).setF Reg.HK_PLIM 15 0 (min 3400 (fld v 15 0))

/-- HK_ERR: clearing VALID starts the peak anew. -/
def wrHkErr (s : State) (v : Word) : State :=
  let v := v &&& ~~~ smGet 0 s.acc.hwSet Reg.HK_ERR
  let s := if bit v 30 then s.setBit Reg.HK_ERR 30 false else s
  if bit v 31 && s.bit Reg.HK_ERR 31 then (s.setBit Reg.HK_ERR 31 false).setF Reg.HK_POWER 31 16 0 else s

/-! ### Boundary scan (R708) -/

/-- The boundary-scan instruction that the JTAG port holds takes effect: in TEST and in BOOT only; elsewhere it acts as
BYPASS. -/
def scanActs (s : State) : Bool := s.scan && decide (s.code = Mode.test ∨ s.code = Mode.boot)

/-- The JTAG port takes an instruction: a boundary-scan instruction, or BYPASS. Nothing else of the device changes. -/
def execBoundaryScanInstruction (scan : Bool) (s : State) : Host.Outcome State Fault Refusal :=
  done { s with scan := scan }

end Sys2Proof.Machine
end

