-- ==== Sys2Proof/Machine/Faults.lean ====
section
/-! DEFINITION. The collector's commands (spec/16): a source that a unit reports, forcing, sticky bits, the capture FIFO, and
the delivery of event records and sideband messages. -/

namespace Sys2Proof.Machine

/-! ### Level sources (R69, R274, R275, R561, R676) -/

/-- The two levels over the rings of every set (R274, R275); with nothing in the ring tables neither holds. -/
def levelRings (s : State) : State :=
  if s.sets.live = [] then s
  else
    let low := (List.range 24).any (rsvLow s)
    let free := (List.range 24).any (freeLow s)
    let s := if low then raiseTier s Src.reserveLow 0 {} else s
    if free then raiseTier s Src.freeRingLow 0 {} else s

/-- The level sources whose condition holds assert. -/
def levels (s : State) : State :=
  let s := if rdyChanged s then raise s Src.readiness else s
  let s := levelRings s
  if 64 ≤ s.tel.fifo.length then raise s 1517 else s

/-! ### SRAM sparing (R552) -/

/-- Parity errors of an array at one row or column: the third within 1 s records the place and raises "SRAM repair needed". -/
def countPlace (s : State) (array : Nat) (col : Bool) (place : Nat) : State :=
  let k := array % 1024 * 2 ^ 17 + b2n col * 2 ^ 16 + place % 2 ^ 16
  let l := (smGet [] s.repair.errs k).filter (fun c => decide (s.clock < c + secClocks)) ++ [s.clock]
  if 3 ≤ l.length then
    let s := { s with repair := { s.repair with errs := smSet [] s.repair.errs k [] } }
    let s := if s.bit Reg.GEN_SRAMREP 31 then s
      else (s.setReg Reg.GEN_SRAMREP (BitVec.ofNat 32 (array % 1024 * 2 ^ 21 + b2n col * 2 ^ 20 + place % 2 ^ 16))).hwBit Reg.GEN_SRAMREP 31
    raise s Src.sramRepair
  else { s with repair := { s.repair with errs := smSet [] s.repair.errs k l } }

/-! ### The collector's own faults (R578, R579) -/

/-- The bits of a sticky word whose sources are present; that of 1,472 is held outside the checked arrays (R578). -/
def presentBits (w : Nat) : Nat :=
  (List.range 32).foldl (fun a k => a + b2n (srcPresent (32 * w + k) && decide (32 * w + k ≠ Src.collectorParity)) * 2 ^ k) 0

/-- A parity error in the collector's arrays: 0 sticky, 1 force, 2 class, 3 FIFO, 4 control state; the word is repaired. -/
def collectorParity (s : State) (array word : Nat) : State :=
  let s := if s.bit Reg.FLT_SELF 31 then s
    else (s.setReg Reg.FLT_SELF (BitVec.ofNat 32 (array % 8 * 2 ^ 28 + word % 256))).hwBit Reg.FLT_SELF 31
  let s := match array with
    | 0 => if word < 48 then
        s.setReg (Reg.FLT_STICKY word) (BitVec.ofNat 32 (presentBits word) |||
          (if word = 46 then s.reg (Reg.FLT_STICKY 46) &&& 1#32 else 0))
      else s
    | 2 => if word < 192 then
        s.setReg (Reg.FLT_CLASS word) (resetWord (Reg.FLT_CLASS word))
      else s
    | 3 => { s with flt := { s.flt with fifo := [], now := 0, ovf := satAdd 0xFFFF s.flt.ovf s.flt.fifo.length } }
    | _ => s
  raise s Src.collectorParity

/-! ### A source that a unit reports (R556, R562) -/

/-- Directory state parity (R380): the line is recalled from every possible holder, and its entry is what their answers
leave. A line that a transaction works on is left to it. -/
def directoryRecall (s : State) (line : Nat) : State :=
  if lineOpen s s.devId line then s
  else
    let all : DirRec := { hs := 1, hvec := 0xFFFF, ps := if inPool s then 2 else 0, gvec := if inPool s then 2 ^ 32 - 1 else 0 }
    openRecall { s with coh := { s.coh with dir := smSet 0 s.coh.dir line (encodeDir all) } } (s.devId, line)

/-- A tier map cache parity error (R280): a clean line is read again from the map region; the 8 pages of a dirty line are lost. -/
def mapCacheParity (s : State) (page : Nat) : State :=
  match mapSetOf s page with
  | .none => s
  | some n =>
    let h := homeSlice (page * 4096)
    let li := mapIdx s n page / 8
    match cachedLine s h n li with
    | .none => s
    | some x =>
      if x.dirty then
        { s with tier := { s.tier with
          lost := (s.tier.lost ++ (List.range 8).map (fun k => mapBase s n + 8 * li + k)).eraseDups } }
      else
        let k := mapWay h li
        fetchLine { s with tier := { s.tier with mapc := smSet [] s.tier.mapc k ((smGet [] s.tier.mapc k).erase x) } } n page

/-- The pool cache line that a parity error poisons (R380). -/
def poolLinePoison (s : State) (dev line : Nat) : State :=
  let x := pcGet s dev line
  if x.pstate = 0 ∧ x.hstate = 0 then s else pcPut s dev line { x with pois := true }

/-- TAGRES copy parity (R234): the request that read the entry, the next through that window, is poisoned, and the copy is loaded
again within 2 µs (DESIGN CHOICE, log entry 213). -/
def tagParity (s : State) (i : Info) : State :=
  match i.ld with
  | .none => s
  | some l => { s with port := { s.port with
      badTag := s.port.badTag.filter (fun x => decide (s.clock < x.2.2 + 2 * usClocks)) ++ [(l, i.addr / 2 ^ 46 % 16, s.clock)] } }

/-- Telemetry's parity errors (R677): the live counter is 0, or the entry of the snapshot array (unit 1) reads all ones; the pending
schedule is cancelled. -/
def telParity (s : State) (src : Nat) (i : Info) : State :=
  let m := i.addr % 2048
  if src = 1519 then
    if 1136 ≤ m then s
    else if i.unit = some 1 then { s with tel := { s.tel with snap := smSet 0 s.tel.snap m (2 ^ 48 - 1) } }
    else { s with tel := { s.tel with cnt := smSet 0 s.tel.cnt m 0 } }
  else if src = 1520 then setSched s .none
  else s

/-- A request is the one that an assertion names: its line, and its host, core or device. -/
def namedReq (s : State) (i : Info) (r : Req) : Bool :=
  decide (r.line = i.addr % 2 ^ 46 / 64 * 64 ∧ r.dev = if i.akind = 2 then i.addr / 2 ^ 46 % 1024 else s.devId) &&
    (match r.origin with
      | .host ld _ => decide (i.mkind = 1 ∧ i.mid % 256 = ld % 256)
      | .peer d _ => decide (i.mkind = 2 ∧ i.mdev = d)
      | .core n _ => decide ((i.mkind = 3 ∨ i.mkind = 4) ∧ i.mid = n.val)
      | .agent _ => decide (i.mkind = 6))

/-- The first of the requests that the assertion names is poisoned: the data of a write, the answer of another. -/
def poisonFirst (p : Req → Bool) : List Req → List Req
  | [] => []
  | r :: rs =>
    if p r then (if r.kind = .memWr ∨ r.kind = .memWrPtl ∨ r.kind = .wbm then { r with poison := true } else { r with turnedAway := true }) :: rs
    else r :: poisonFirst p rs

/-- Crossbar or sluice path parity (source 1,482): the request is poisoned. -/
def pathPoison (s : State) (i : Info) : State :=
  { s with coh := { s.coh with ingress := poisonFirst (namedReq s i) s.coh.ingress } }

/-- What a unit does beside reporting, and how it reports: its error record takes the assertion. -/
def report (s : State) (src : Nat) (i : Info) : State :=
  let dpa := i.addr % 2 ^ 46
  let dev := i.addr / 2 ^ 46 % 1024
  let unit := i.unit.getD 0
  if src < 384 then
    let s := raiseHost s (src / 24) (src % 24) i
    if src % 24 = 21 then tagParity s i else s
  else if src < 768 then raiseChan s ((src - 384) / 16) (src % 16) (if i.akind = 3 then some i.addr else .none) i
  else if src < 1024 then raiseLink s ((src - 768) / 8) (src % 8) unit i.addr
  else if src < 1216 then raiseWith s src i
  else if src < 1232 then
    let s := raiseHome s src dpa (if i.akind = 2 then dev else s.devId) i
    if src = Src.dirParity then flow (directoryRecall s (dpa / 64 * 64))
    else if src = Src.pcDirty then poolLinePoison s (if i.akind = 2 then dev else s.devId) (dpa / 64 * 64)
    else s
  else if src < 1244 then
    let s := raiseTier s src dpa i
    if src = 1232 then mapCacheParity s (dpa / 4096) else s
  else if src < 1260 then raiseCry s src unit dpa i
  else if src < 1272 then
    let slot := i.addr % 4096
    let s := raiseXe s src unit slot i
    if src = Src.keyArrayParity then ownDestroy s slot else s
  else if src = Src.chargePump then slotsOff (raiseWith s src i) 6 (List.range 48)
  else if 1411 ≤ src ∧ src ≤ 1420 then raiseHk s src i.addr
  else if src = Src.collectorParity then collectorParity s unit i.addr
  else if src = 1482 then pathPoison (raiseWith s src i) i
  else if 1488 ≤ src ∧ src < 1496 then
    let s := raiseSlu s (src - 1488) (i.unit)
    match (if src = 1491 then i.unit else .none) with
    | some x =>
      let u := budget s (if cap s x = 0 then guar s x else cap s x)
      { s with slu := { s.slu with used := smSet 0 s.slu.used x u, seen := smSet 0 s.slu.seen x u } }
    | .none => s
  else if 1496 ≤ src ∧ src < 1514 then raisePool s (src - 1496) i.mdev
  else if 1514 ≤ src ∧ src < 1522 then telParity (raiseTel s src i.addr) src i
  else raiseWith s src i

/-- A parity error of a link's buffers (R483), by the array that the assertion names (R551): an entry of the replay buffer starts
a full retrain; the oldest entry of the lay-by, read for sending, is dropped and counted in LOST. -/
def bufferParity (s : State) (src array : Nat) : State :=
  let l := (src - 768) / 8
  if src < 768 ∨ 1024 ≤ src ∨ src % 8 ≠ 7 then s
  else if array = 320 + l then linkRetrain s l 5
  else if array = 352 + l ∧ (s.link l).layby ≠ [] then
    linkMirror ((s.setLink l { s.link l with layby := (s.link l).layby.tail }).setF (Reg.CNV_CNT l) 15 0
      (satAdd 0xFFFF (s.fld (Reg.CNV_CNT l) 15 0) 1)) l
  else s

/-- FAULT_ASSERTION: a unit's report reaches the collector; a reserved source never asserts (R560). `place` names the array,
column or row, and place of an array's parity error. Held in reset, no unit reports. -/
def faultAssertion (s : State) (src : Nat) (i : Info) (place : Option (Nat × Bool × Nat)) : State :=
  if s.inReset || !srcPresent src then s
  else
    let s := report s src i
    match place with
    | some (a, c, p) => countPlace (bufferParity s src a) a c p
    | .none => s

def execFaultAssertion (src : Fin 1536) (i : Info) (place : Option (Nat × Bool × Nat)) (s : State) :
    Host.Outcome State Fault Refusal :=
  done (faultAssertion s src { i with forced := false } place)

/-! ### Forcing and clearing (R572, R562, R47) -/

/-- The capture that a source's assertion made in this clock is marked FORCED. -/
def markForced (s : State) (src : Nat) : State :=
  let m (r : CapRec) : CapRec := if capSrc r = src then r.set 0 (setBit (r.headD 0) 30 true) else r
  mapCaps (fun c => if (capNow s ++ s.flt.lostNow).contains c then m c else c)
    { s with flt := { s.flt with fifo := capOld s ++ (capNow s).map m, lostNow := s.flt.lostNow.map m } }

/-- Sources are forced (R572); one that hardware has asserted in this clock counts once, as forced (R573). -/
def forceAll (s : State) (i : Info) : List Nat → State
  | [] => s
  | x :: r => forceAll (if bit (smGet 0 s.acc.hwSet (stickyOff x)) (x % 32) then markForced s x else raiseWith s x i) i r

/-- A write of FLT_FORCEn: each source of a bit written 1 asserts once. -/
def wrForce (s : State) (p : Path) (n : Nat) (v : Word) : State :=
  forceAll s { forced := true, mkind := 7, mid := pathCode p } ((bitsOf 32 0 v.toNat).map (fun k => 32 * n + k))

def execFaultForce (p : Path) (n : Fin 48) (v : Word) (s : State) : Host.Outcome State Fault Refusal :=
  done (guardedWrite s p (Reg.FLT_FORCE n) (fun s => wrForce s p n v))

/-- A write of FLT_STICKYn: bits written 1 clear but for those that hardware set in this clock, and a level source whose
condition holds asserts again (R47). -/
def wrSticky (s : State) (n : Nat) (v : Word) : State :=
  levels (s.setReg (Reg.FLT_STICKY n) (s.reg (Reg.FLT_STICKY n) &&& ~~~ (v &&& ~~~ smGet 0 s.acc.hwSet (Reg.FLT_STICKY n))))

def execStickyClear (p : Path) (n : Fin 48) (v : Word) (s : State) : Host.Outcome State Fault Refusal :=
  done (guardedWrite s p (Reg.FLT_STICKY n) (fun s => wrSticky s n v))

/-! ### The capture FIFO (R576) -/

/-- A write of FLT_CAPPOP: POP removes the oldest entry, CLR empties the FIFO. -/
def wrCapPop (s : State) (v : Word) : State :=
  let s := if bit v 0 then popCapture s else s
  if bit v 1 then clearCaptures s else s

def execCapturePop (p : Path) (s : State) : Host.Outcome State Fault Refusal :=
  done (guardedWrite s p Reg.FLT_CAPPOP (fun s => wrCapPop s 1#32))

def execCaptureClear (p : Path) (s : State) : Host.Outcome State Fault Refusal :=
  done (guardedWrite s p Reg.FLT_CAPPOP (fun s => wrCapPop s 2#32))

/-! ### Event records and sideband messages (R585, R586, R588) -/

/-- The bifurcated port that carries a logical device, or the FM-owned LD 256 + p. -/
def recordPort (s : State) (ld : Nat) : Option Nat := if 256 ≤ ld then some (ld - 256) else ldPort s ld

/-- Records reach an enumerated function on a READY port. -/
def canDeliver (s : State) (ld : Nat) : Bool :=
  (s.logDev ld).enumerated && (match recordPort s ld with
    | some p => readySub s p
    | .none => false)

/-- The first record of a log that has not been delivered is marked. -/
def markSent : List EvRec → List EvRec
  | [] => []
  | r :: rs => if r.sent then r :: markSent rs else { r with sent := true } :: rs

/-- The Event Interrupt Policy of a logical device asks for MSI-X for a log (PRESUMED: a byte of the policy a log, whose low two
bits are 1 for MSI-X, as the CXL specification lays it out). -/
def wantsIrq (s : State) (ld log : Nat) : Bool := decide (smGet 0 s.evt.policy ld / 256 ^ log % 4 = 1)

def deliver (s : State) (ld log : Nat) : State :=
  let k := 4 * ld + log
  let l := smGet [] s.evt.logs k
  match l.find? (fun r => !r.sent) with
  | .none => s
  | some r =>
    if canDeliver s ld then
      ({ s with evt := { s.evt with logs := smSet [] s.evt.logs k (markSent l) } }).emit
        (.event ld r.src r.cls (wantsIrq s ld log))
    else s

def execEventRecordDelivery (ld : Fin 320) (log : Fin 4) (s : State) : Host.Outcome State Fault Refusal :=
  done (deliver s ld log)

/-- The last packet of the oldest sideband message has gone. -/
def sidebandSend (s : State) : State :=
  match s.evt.sbq with
  | [] => s
  | r :: rs => ({ s with evt := { s.evt with sbq := rs } }).emit (.sbEvent r.src r.cls)

def execSidebandEventSend (s : State) : Host.Outcome State Fault Refusal := done (sidebandSend s)

end Sys2Proof.Machine
end

