-- ==== Sys2Proof/Machine/Wire.lean ====
section
/-! DEFINITION. What stands on the lanes of a conveyor link (spec/13): the bytes of a frame, lane blocks with their scrambling and
parity, training blocks, and the coded stream of Ihlo-F. -/

namespace Sys2Proof.Machine

/-- The 16 B header of a frame (R448). -/
def frameHeader (f : Frame) : Nat :=
  f.ty + f.dest * 2 ^ 4 + f.src * 2 ^ 14 + f.lap * 2 ^ 24 + f.seq * 2 ^ 27 + f.ack * 2 ^ 39 + f.tag * 2 ^ 51 +
    f.txid * 2 ^ 63 + f.opcode * 2 ^ 79 + f.line * 2 ^ 87

/-- The 80 bytes of a frame: header, then payload. -/
def frameBytes (f : Frame) : List Nat := natBytes 16 (frameHeader f) ++ lineBytes f.data

/-! ### Lane blocks (R445 to R447) -/

/-- The bit that PRBS23 gives, and its next register (x^23 + x^18 + 1; PRESUMED, log entry 215: the shift goes up and bit 22 leaves). -/
def prbsBit (r : Nat) : Bool := r.testBit 22
def prbsNext (r : Nat) : Nat := (2 * r + b2n (r.testBit 22 != r.testBit 17)) % 2 ^ 23

/-- `n` bits scrambled, with the register after them. -/
def scramble : Nat → Nat → Nat → Nat × Nat
  | 0, r, _ => (0, r)
  | n + 1, r, v =>
    let (w, q) := scramble n (prbsNext r) (v / 2)
    (b2n (v.testBit 0 != prbsBit r) + 2 * w, q)

/-- Even parity over `n` bits. -/
def parityBit : Nat → Nat → Bool
  | 0, _ => false
  | n + 1, v => v.testBit 0 != parityBit n (v / 2)

/-- A block of 90 UI, UI 0 in bit 0: sync, control bits, 10 data bytes, parity (R445). -/
def laneBlock (train : Bool) (ctl data r : Nat) : Nat × Nat :=
  let (w, q) := scramble 87 r (ctl % 128 + data % 2 ^ 80 * 128)
  ((if train then 2 else 1) + 4 * w + b2n (parityBit 87 w) * 2 ^ 89, q)

/-- The scrambler of a physical lane: reloaded by a block with the tide mark (R445). -/
def laneScrambler (x : Link) (p : Nat) (mark : Bool) : Nat := if mark then 0x7FFFFF - p else smGet (0x7FFFFF - p) x.prbs p

/-- A block leaves on a physical lane, a number of tides into its frame. -/
def sendBlock (s : State) (l p tides : Nat) (train mark : Bool) (ctl data : Nat) : State :=
  let x := s.link l
  let (b, q) := laneBlock train ctl data (laneScrambler x p mark)
  (s.setLink l { x with prbs := smSet (0x7FFFFF - p) x.prbs p q }).emit (.block l p tides b)

/-- The data of lane block `k` of a frame: bytes k, k + 8, and so on (R447). -/
def blockData (b : List Nat) (k : Nat) : Nat := bytesNat ((List.range 10).map (fun i => b.getD (k + 8 * i) 0))

/-- The tide mark of a slot (R446, R479). -/
def tideMark (s : State) : Bool := decide (s.tide % 1024 = 0)

/-- Nibble `k` of a lane map. -/
def mapLane (w : Word) (k : Nat) : Nat := fld w (4 * k + 3) (4 * k)

/-- Control bits of a block: tide mark, FALLOW, the health of the same logical lane received, map generation (R446). -/
def blockControl (s : State) (l k : Nat) (fallow mark : Bool) : Nat :=
  b2n mark + 2 * b2n fallow + 4 * s.fld (Reg.CNV_LANEERR l (mapLane (s.link l).rxMap k)) 17 16 +
    16 * b2n (s.bit (Reg.CNV_STAT l) 22)

/-- Lane blocks from `k` on of a frame: block k on logical lane k mod w in its tide k div w (R447). -/
def sendBlocks (s : State) (l : Nat) (b : List Nat) (fallow : Bool) : Nat → Nat → State
  | 0, _ => s
  | n + 1, k =>
    let w := 2 ^ linkWidth s l
    let mark := tideMark s && decide (k < w)
    let s := sendBlock s l (mapLane (s.reg (Reg.CNV_LANEMAP l)) (k % w)) (k / w) false mark
      (blockControl s l (k % w) fallow mark) (blockData b k)
    sendBlocks s l b fallow n (k + 1)

/-- The 80 data UIs of a training block for physical lane `p` (R473). -/
def trainData (s : State) (l p tbt maxw rxok stamp turn : Nat) : Nat :=
  tbt % 16 + s.devId % 1024 * 2 ^ 4 + l % 32 * 2 ^ 14 + p % 16 * 2 ^ 19 + b2n (s.bit (Reg.CNV_STAT l) 26) * 2 ^ 23 +
    maxw % 4 * 2 ^ 24 + rxok % 512 * 2 ^ 26 + b2n (s.bit (Reg.CNV_CTL l) 17) * 2 ^ 35 + b2n (s.link l).ownReq * 2 ^ 36 +
    stamp % 2 ^ 31 * 2 ^ 37 + turn % 2 ^ 12 * 2 ^ 68

/-- A training block leaves on each of the physical lanes listed. -/
def sendTraining (s : State) (l tbt maxw rxok stamp turn : Nat) : List Nat → State
  | [] => s
  | p :: r => sendTraining (sendBlock s l p 0 true false 0 (trainData s l p tbt maxw rxok stamp turn)) l tbt maxw rxok stamp turn r

/-! ### The coded stream of Ihlo-F (R479; the bit orders and the code's constants PRESUMED, log entry 215) -/

/-- The CRC-32 of the frame check sequence of IEEE 802.3: reflected polynomial 0xEDB8_8320. -/
def fcsStep (c : Nat) : Nat := if c % 2 = 1 then (c / 2) ^^^ 0xEDB88320 else c / 2
def fcsBits : Nat → Nat → Nat
  | 0, c => c
  | n + 1, c => fcsBits n (fcsStep c)
def fcsBytes (c : Nat) : List Nat → Nat
  | [] => c
  | b :: r => fcsBytes (fcsBits 8 (c ^^^ b)) r
def fcs32 (l : List Nat) : Nat := fcsBytes 0xFFFFFFFF l ^^^ 0xFFFFFFFF

/-- A container: control, frame, CRC-32. -/
def container (mark fallow gen : Bool) (f : Frame) : List Nat :=
  let b := (b2n mark + 2 * b2n fallow + 4 * b2n gen) :: frameBytes f
  b ++ natBytes 4 (fcs32 b)

/-- The 68 symbols of 10 bits of a container. -/
def containerSymbols (b : List Nat) : List Nat := (List.range 68).map (fun j => bytesNat b / 2 ^ (10 * j) % 1024)

/-- Multiplication in GF(2^10) modulo x^10 + x^3 + 1. -/
def f10Double (a : Nat) : Nat := if a < 512 then 2 * a else (2 * a) ^^^ 0x409
def f10Mul : Nat → Nat → Nat → Nat
  | 0, _, _ => 0
  | n + 1, a, b => (if b % 2 = 1 then a else 0) ^^^ f10Mul n (f10Double a) (b / 2)
def f10Times (a b : Nat) : Nat := f10Mul 10 a b
def f10Pow : Nat → Nat
  | 0 => 1
  | n + 1 => f10Double (f10Pow n)

/-- The generator polynomial with the roots α^0 to α^(n-1), highest coefficient first, its leading 1 left out. -/
def rsGen : Nat → List Nat
  | 0 => []
  | n + 1 =>
    let g := 1 :: rsGen n
    ((g ++ [0]).zipWith (fun a b => a ^^^ b) (0 :: g.map (f10Times (f10Pow n)))).tail

/-- The 30 parity symbols of RS(544,514) for message symbols, first symbol first. -/
def rsParity (reg : List Nat) : List Nat → List Nat
  | [] => reg
  | m :: r =>
    let k := m ^^^ reg.headD 0
    rsParity ((reg.tail ++ [0]).zipWith (fun a b => a ^^^ b) ((rsGen 30).map (f10Times k))) r

def codeword (m : List Nat) : List Nat := m ++ rsParity (List.replicate 30 0) m

/-- `n` codewords of a group's message symbols, zeros at its end. -/
def codewords : Nat → List Nat → List (List Nat)
  | 0, _ => []
  | n + 1, l =>
    let m := l.take 514
    codeword (m ++ List.replicate (514 - m.length) 0) :: codewords n (l.drop 514)

/-- The symbols of a group that each of `w` lanes carries, round-robin. -/
def striped (w : Nat) (l : List Nat) : List (List Nat) :=
  (List.range w).map (fun i => (List.range (l.length / w)).map (fun j => l.getD (w * j + i) 0))

/-- A group ends: its 128 codewords at width 8, its 64 at width 4, leave on the lanes. -/
def streamGroup (s : State) (l : Nat) : State :=
  let x := s.link l
  let w := 2 ^ linkWidth s l
  (s.setLink l { x with group := [] }).emit (.stream l (striped w (codewords (16 * w) (x.group.flatMap containerSymbols)).flatten))

/-- The last tide of a group has passed on an Ihlo-F link. -/
def groupEnd (s : State) (l : Nat) : State := if s.bit (Reg.CNV_STAT l) 26 && decide (s.tide % 1024 = 1023) then streamGroup s l else s

/-- A frame goes out on the lanes of a link: as lane blocks, or as a container of an Ihlo-F group. -/
def sendFrame (s : State) (l : Nat) (f : Frame) (fallow : Bool) : State :=
  if s.bit (Reg.CNV_STAT l) 26 then
    let x := s.link l
    s.setLink l { x with group := x.group ++ [container (tideMark s) fallow (s.bit (Reg.CNV_STAT l) 22) f] }
  else sendBlocks s l (frameBytes f) fallow 8 0

end Sys2Proof.Machine
end

