-- ==== Sys2Proof/Machine/Links.lean ====
section
/-! DEFINITION. The commands of a conveyor link (spec/13): frames and slots, replay, lane health, renegotiation, training. -/

namespace Sys2Proof.Machine

/-! ### Lanes and maps (R465, R468) -/

def laneHealth (s : State) (l p : Nat) : Nat := s.fld (Reg.CNV_LANEERR l p) 17 16
def setHealth (s : State) (l p h : Nat) : State := s.setF (Reg.CNV_LANEERR l p) 17 16 h

/-- RXOK: the receive lanes that are not failed. -/
def rxOk (s : State) (l : Nat) : Nat :=
  (List.range 9).foldl (fun a p => if laneHealth s l p = 2 then a else a + 2 ^ p) 0

def laneFailed (s : State) (l : Nat) : Bool := (List.range 9).any (fun p => decide (laneHealth s l p = 2))

/-- MAXW as used: in Ihlo-F mode x1 and x2 count as x4 (CNV_CTL). -/
def maxW (s : State) (l : Nat) : Nat :=
  let w := s.fld (Reg.CNV_CTL l) 19 18
  if s.bit (Reg.CNV_CTL l) 16 ∧ w < 2 then 2 else w

/-- The map of the lowest `n` lanes of a list: 4 bits a logical lane, 0xF unused (R468). -/
def laneMap (ls : List Nat) (n : Nat) : Word :=
  BitVec.ofNat 32 ((List.range 8).foldl (fun a k => a + (if k < n then ls.getD k 15 else 15) * 16 ^ k) 0)

/-- The usable lanes of a direction; the spare counts only while both ends allow it, and never in Ihlo-F (R468, R481). -/
def usableLanes (s : State) (l ok : Nat) : List Nat :=
  let spare := s.bit (Reg.CNV_CTL l) 17 && (s.link l).peerSpare && !s.bit (Reg.CNV_STAT l) 26
  (bitsOf 9 0 ok).filter (fun p => decide (p < 8) || spare)

/-- The choice of R468: width code, transmit map, receive map; none: no width qualifies. -/
def chooseMap (s : State) (l reqw peerw : Nat) : Option (Nat × Word × Word) :=
  let tx := usableLanes s l (s.link l).peerOk
  let rx := usableLanes s l (rxOk s l)
  let codes := if s.bit (Reg.CNV_STAT l) 26 then [3, 2] else [3, 2, 1, 0]
  match codes.find? (fun c => decide (c ≤ reqw ∧ c ≤ peerw ∧ c ≤ maxW s l ∧ c ≤ (s.link l).peerMax ∧ 2 ^ c ≤ tx.length ∧ 2 ^ c ≤ rx.length)) with
  | some c => some (c, laneMap tx (2 ^ c), laneMap rx (2 ^ c))
  | .none => .none

def mapLanes (w : Word) : List Nat := (List.range 8).map (fun k => fld w (4 * k + 3) (4 * k))
def mapUses (w : Word) (p : Nat) : Bool := (mapLanes w).contains p

/-! ### LM frames (R466) -/

def lmPayload (s : State) (l op reqw : Nat) (tx rx : Word) (w : Nat) (gen : Bool) : Line :=
  lineOf ([op, reqw] ++ natBytes 2 s.devId ++ [l] ++ natBytes 2 (rxOk s l) ++ natBytes 4 tx.toNat ++ natBytes 4 rx.toNat ++
    [w + 4 * b2n gen])

/-- A LM frame joins those that wait for a slot. -/
def lmSend (s : State) (l op reqw : Nat) (tx rx : Word) (w : Nat) (gen : Bool) : State :=
  let x := s.link l
  s.setLink l { x with lm := x.lm ++ [{ ty := 15, data := lmPayload s l op reqw tx rx w gen }] }

/-- This end asks for a renegotiation (R467). -/
def startReneg (s : State) (l reqw : Nat) : State :=
  if linkState s l = LinkState.active then
    let s := linkRep (lmSend (setLinkState s l LinkState.reneg) l 1 reqw 0 0 0 false) l
    let s := s.setBit (Reg.CNV_TRAIN l) 4 true
    s.setLink l { s.link l with request := some reqw, answerBy := some (s.clock + 100 * usClocks) }
  else s

/-- The width that this end asks for (R467): REQW of CNV_TRAIN. -/
def ownReqw (s : State) (l : Nat) : Nat := s.fld (Reg.CNV_TRAIN l) 3 2

/-- A receive lane is marked failed (R465): "frame error count over threshold", and the end renegotiates. -/
def markLane (s : State) (l p : Nat) : State :=
  let s := raiseLink (setHealth s l p 2) l 1 p 0
  startReneg s l (ownReqw s l)

/-- The renegotiation is over; the link serves with a width, a transmit map and a generation (R470, R471). -/
def endReneg (s : State) (l w : Nat) (tx : Word) (gen : Bool) : State :=
  let old := linkWidth s l
  let spare := s.bit (Reg.CNV_STAT l) 25
  let now := mapUses tx 8
  let s := s.setReg (Reg.CNV_LANEMAP l) tx
  let s := s.setF (Reg.CNV_STAT l) 28 27 w
  let s := s.setBit (Reg.CNV_STAT l) 25 now
  let s := s.setBit (Reg.CNV_STAT l) 22 gen
  let s := setLinkState s l LinkState.active
  let s := s.setBit (Reg.CNV_TRAIN l) 4 false
  let s := s.setLink l { s.link l with request := .none, answerBy := .none, aborts := 0, txPend := .none, laneTrain := .none }
  let s := if w < old then raiseLink s l 4 0xF 0 else s
  let s := if w = 3 ∧ now ∧ !spare then raiseLink s l 3 8 0 else s
  if w = old then s else linkRep s l

/-! ### Acknowledgement (R453 to R457) -/

def seqDiff (a b : Nat) : Nat := (a + 4096 - b % 4096) % 4096

/-- Value a is later than b (R455). -/
def later (a b : Nat) : Bool := decide (1 ≤ seqDiff a b ∧ seqDiff a b ≤ 2047)

def nextSeq (s : State) (l : Nat) : Nat := s.fld (Reg.CNV_SEQA l) 11 0
def expSeq (s : State) (l : Nat) : Nat := s.fld (Reg.CNV_SEQB l) 11 0

/-- The ACK is outside the window. -/
def ackBad (s : State) (l a : Nat) : Bool :=
  let next := nextSeq s l
  let oldest := ((s.link l).rbuf.head?.map Frame.seq).getD next
  later a (seqDiff next 1) || !later a (seqDiff oldest 2)

/-- The frames that an ACK covers leave the replay buffer; the timer restarts when some remain, and stops when none does. -/
def freeFrames (s : State) (l a : Nat) : State :=
  let x := s.link l
  let rest := x.rbuf.filter (fun f => later f.seq a)
  let n := x.rbuf.length - rest.length
  if n = 0 then s
  else linkMirror (s.setLink l { x with rbuf := rest, reps := 0, rptr := x.rptr - n
                                        timer := if rest = [] then .none else some s.clock }) l

/-- The ACK of a parity-good frame. One that covers SWITCH makes the leader's transmitter change map (R470). -/
def useAck (s : State) (l a : Nat) : State :=
  if ackBad s l a then linkRetrain (raiseLink s l 6 0xF a) l 5
  else
    let s := freeFrames s l a
    match (s.link l).txPend with
    | some (tx, w, gen, sq) => if later sq a then s else endReneg s l w tx gen
    | .none => s

/-! ### Receiving (R450 to R453, R460, R465) -/

/-- Parity errors of receive lanes: counted since CLR and in the window; THR of them fail the lane. -/
def laneErrors (s : State) (l : Nat) : List Nat → State
  | [] => s
  | p :: r =>
    let s := s.bump (Reg.CNV_LANEERR l p) 15 0
    let x := s.link l
    let n := smGet 0 x.winErr p + 1
    let s := s.setLink l { x with winErr := smSet 0 x.winErr p n }
    let s := if laneHealth s l p = 2 then s
      else if s.fld (Reg.CNV_LHEALTH l) 15 0 ≤ n then markLane s l p else setHealth s l p 1
    laneErrors s l r

/-- The lanes of a map whose errors count; in Ihlo-F mode a failed container counts in CNV_FEC (R481). -/
def parityError (s : State) (l : Nat) (bad : List Nat) : State :=
  let s := tick (s.setBit (Reg.CNV_STAT l) 24 true) (bLink l) 7 1
  let s := if s.bit (Reg.CNV_STAT l) 26 then s.bump (Reg.CNV_FEC l) 31 16 else s
  laneErrors s l bad

/-- The frame next in sequence is accepted (R453, R665). -/
def acceptNext (s : State) (l : Nat) : State :=
  let s := s.setF (Reg.CNV_SEQB l) 11 0 ((expSeq s l + 1) % 4096)
  tick (s.setBit (Reg.CNV_STAT l) 24 false) (bLink l) 1 1

/-- The receiver's lane map: lanes that it takes up are good, lanes that it leaves are not in use (R446). -/
def setRxMap (s : State) (l : Nat) (m : Word) : State :=
  let s := (List.range 9).foldl (fun s p =>
    if mapUses m p then (if laneHealth s l p = 3 then setHealth s l p 0 else s)
    else if laneHealth s l p = 2 then s else setHealth s l p 3) s
  s.setLink l { s.link l with rxMap := m, rxPend := .none }

/-- A parity-good frame. -/
def goodFrame (s : State) (l : Nat) (f : Frame) (gen : Bool) : State :=
  let x := s.link l
  let s := match x.rxPend with
    | some (m, g) => if g = gen then setRxMap s l m else s
    | .none => s
  let s := useAck s l f.ack
  if !linkUp s l ∨ f.ty = 0 ∨ f.seq ≠ expSeq s l then s
  else
    let s := acceptNext s l
    if 6 ≤ f.ty ∧ f.ty ≤ 14 then raiseLink s l 6 0xF f.seq
    else if f.ty = 15 then s
    else handle s l f

/-- Codewords that the decoder of an Ihlo-F link has corrected (R481). -/
def corrected (s : State) (l n : Nat) : State :=
  if n = 0 then s else s.setF (Reg.CNV_FEC l) 15 0 (satAdd 0xFFFF (s.fld (Reg.CNV_FEC l) 15 0) n)

/-- A link receives the frame of a slot: the physical lanes whose blocks failed parity, whether parity-good lanes
disagree on a control bit (R446) or a container has failed (R481), FALLOW and MAPGEN as received, and the codewords corrected whose
last symbol came with it. -/
def frameReceive (s : State) (l : Nat) (f : Frame) (bad : List Nat) (disagree fallow gen : Bool) (fixed : Nat) : State :=
  if linkUp s l then
    let s := if s.bit (Reg.CNV_STAT l) 26 then corrected s l fixed else s
    let o := linkPair l
    let s := s.setLink o { s.link o with fallow := fallow }
    if bad ≠ [] ∨ disagree then parityError s l bad else goodFrame s l f gen
  else s

def execFrameReceive (l : Fin 32) (f : Frame) (bad : List (Fin 9)) (disagree fallow : Bool) (gen : Bool × Fin 3) (s : State) :
    Host.Outcome State Fault Refusal :=
  done (frameReceive s l f (bad.map Fin.val) disagree fallow gen.1 gen.2)

/-! ### Sending (R454, R456 to R462) -/

def frameWords (f : Frame) (fallow gen : Bool) : List Nat :=
  [f.ty, f.dest, f.src, f.seq, f.ack, f.lap, f.tag, f.txid, f.opcode, f.line, f.data.toNat, b2n fallow, b2n gen]

/-- The frame leaves in the slot. -/
def putSlot (s : State) (l : Nat) (f : Frame) (fallow : Bool) : State :=
  sendFrame (s.emit (.slot l (frameWords f fallow (s.bit (Reg.CNV_STAT l) 22)))) l f fallow

def curAck (s : State) (l : Nat) : Nat := seqDiff (expSeq s l) 1

/-- A TIDE frame carries the tide of the slot in which it leaves, and the generation then (R506). -/
def stampTide (s : State) (f : Frame) : Frame :=
  if f.ty = 4 then
    { f with data := BitVec.ofNat 512 (nset (nset f.data.toNat 63 0 s.tide) 87 64 (s.fld Reg.PAL_SETSTAT 23 0)) }
  else f

/-- A new sequenced frame: SEQ, the replay buffer, the timer (R456, R457). -/
def sendNew (s : State) (l : Nat) (f : Frame) (fallow : Bool) : State :=
  let sq := nextSeq s l
  let f := stampTide s { f with seq := sq, ack := curAck s l }
  let x := s.link l
  let s := s.setLink l { x with rbuf := x.rbuf ++ [f], timer := if x.rbuf = [] then some s.clock else x.timer }
  let s := s.setF (Reg.CNV_SEQA l) 11 0 ((sq + 1) % 4096)
  let s := tick (linkMirror s l) (bLink l) 0 1
  putSlot s l f fallow

/-- The next frame of a replay (R457, R458). -/
def sendReplay (s : State) (l : Nat) (fallow : Bool) : State :=
  let x := s.link l
  match x.rbuf[x.rptr]? with
  | some f =>
    let s := s.setLink l { x with rptr := x.rptr + 1 }
    let s := if x.rptr + 1 < x.rbuf.length then s else s.setBit (Reg.CNV_STAT l) 23 false
    putSlot (tick s (bLink l) 5 1) l { f with ack := curAck s l } fallow
  | .none => putSlot (s.setBit (Reg.CNV_STAT l) 23 false) l { ack := curAck s l } fallow

/-- FALLOW of the slot sent: on an Ihlo-F link by its tide (R499); else the plan while the origin seeds (R497), and that of the slot
that arrived. -/
def slotFallow (s : State) (l : Nat) : Bool :=
  let x := s.link l
  if s.bit (Reg.CNV_STAT l) 26 then decide (s.tide % 16 = 15 ∨ s.tide % 16 = 7)
  else match x.seed with
  | some (j, n, f) => if n = 0 then false else decide (j * f / n < (j + 1) * f / n)
  | .none => x.fallow

/-- A slot of the direction begins in this tide: at width w every 8 / w tides (R447), once. -/
def slotNow (s : State) (l : Nat) : Bool :=
  decide (s.tide % (8 / 2 ^ linkWidth s l) = 0 ∧ (s.link l).slotAt ≠ some s.tide)

/-- The seeding and the reseeding hold go on by one slot (R497, R498). -/
def slotCount (s : State) (l : Nat) : State :=
  let x := s.link l
  let sd := match x.seed with
    | some (j, n, f) => if j + 1 < n then some (j + 1, n, f) else .none
    | .none => .none
  s.setLink l { x with seed := sd, hold := x.hold - 1, fallow := false, slotAt := some s.tide }

/-- A reserved slot that arrives occupied or fallow carries its credit forward (R503). -/
def displace (s : State) (l : Nat) : State :=
  let b := calByte s l
  if b / 64 = 1 then { s with pool := { s.pool with credits := s.pool.credits ++ [(b % 64, s.tide)] } } else s

/-- The course pointer of a direction as this tide's launches find it, and as they have left it so far (R490). -/
def coursePtr (s : State) (dir : Nat) : Nat × Nat :=
  let p := smGet (0, 0, 0) s.pool.ptr dir
  if p.1 = s.tide then (p.2.1, p.2.2) else (p.2.2, p.2.2)

/-- The place of a course in the order in which its direction tries them. -/
def courseTurn (from_ k : Nat) : Nat := (k % 8 + 8 - from_ % 8) % 8

/-- A launch on a link moves its direction's pointer past the course. -/
def movePtr (s : State) (l : Nat) : State :=
  let (b, a) := coursePtr s (linkDir l)
  let a := if a = b ∨ courseTurn b (a + 7) < courseTurn b l then (l + 1) % 8 else a
  { s with pool := { s.pool with ptr := smSet (0, 0, 0) s.pool.ptr (linkDir l) (s.tide, b, a) } }

/-- The accounts of a launch: a spent credit, an OWN slot, the course pointer (R490, R503). -/
def launchCount (s : State) (l : Nat) (x : Launch) (credit : Option (Nat × Nat)) : State :=
  let s := movePtr (tick (unqueue s x) (bLink l) 4 1) l
  match credit with
  | some c =>
    let s := { s with pool := { s.pool with credits := s.pool.credits.erase c } }
    tick (raisePool (s.bump Reg.POOL_CNT1 31 16) 6 s.devId) (bFace (linkFace l)) 6 1
  | .none => if calByte s l / 64 = 1 then tick s (bFace (linkFace l)) 5 1 else s

/-- The frame whose pad ends with this slot arrives for it (R499). -/
def padArrive (s : State) (l : Nat) : State :=
  let x := s.link l
  match x.arriving, x.padq with
  | .none, (t, f) :: r => if t ≤ s.tide then s.setLink l { x with arriving := some f, padq := r } else s
  | _, _ => s

/-- The arriving frame of a slot is taken up. -/
def slotStart (s : State) (l : Nat) : State := s.setLink l { s.link l with arriving := .none }

/-- A slot has left, with it the last of an Ihlo-F group; the counter of lay-by occupancy advances by it (R665). -/
def slotEnd (s : State) (l : Nat) : State := groupEnd (tick (slotCount s l) (bLink l) 6 (s.link l).layby.length) l

/-- A slot in which an Ihlo-F link carries no frame (R480): at width 8 the last of 16 tides, at width 4 the last frame's time of
32 tides, which R480 counts and does not place (DESIGN CHOICE, log entry 197). -/
def slotAbsent (s : State) (l : Nat) : Bool :=
  s.bit (Reg.CNV_STAT l) 26 &&
    decide ((linkWidth s l = 3 ∧ s.tide % 16 = 15) ∨ (linkWidth s l = 2 ∧ s.tide % 32 / 2 = 15))

/-- The arriving frame of a slot that carries none goes to the lay-by. -/
def slotSkip (s : State) (l : Nat) : State :=
  match (s.link l).arriving with
  | some f => joinLayby (slotStart s l) l f
  | .none => slotStart s l

/-- The slot of a link is free for a launch or a turn now (R461, R493, R497, R498). -/
def slotFree (s : State) (l : Nat) : Bool :=
  let x := s.link l
  linkUp s l && slotNow s l && !slotAbsent s l && x.arriving.isNone && !slotFallow s l && !s.bit (Reg.CNV_STAT l) 23 &&
    x.lm.isEmpty && x.layby.isEmpty && decide (x.hold = 0) && x.seed.isNone && decide (x.rbuf.length < 1024) &&
    courseUsable s (linkDir l) (l % 8)

/-- The free courses of its direction that the device tries before this link's (R490). -/
def coursesAhead (s : State) (l : Nat) : Nat :=
  let b := (coursePtr s (linkDir l)).1
  ((List.range 8).filter (fun k => decide (courseTurn b k < courseTurn b l) && slotFree s (l / 8 * 8 + k))).length

/-- One slot of a link direction (R461). Frames of link management go ahead of the lay-by (DESIGN CHOICE). -/
def slotTransmit (s : State) (l : Nat) : State :=
  let s := padArrive s l
  if !linkUp s l || !slotNow s l then s
  else if slotAbsent s l then slotEnd (slotSkip s l) l
  else
    let x := s.link l
    let fallow := slotFallow s l
    let arr := x.arriving
    let ahead := coursesAhead s l
    let s := slotStart s l
    let keep (s : State) : State := match arr with
      | some f => joinLayby s l f
      | .none => s
    let s := if arr.isSome || fallow then displace s l else s
    let s := if fallow then tick s (bFace (linkFace l)) 7 1 else s
    let s := if s.bit (Reg.CNV_STAT l) 23 && x.rptr < x.rbuf.length then s else s.setBit (Reg.CNV_STAT l) 23 false
    let s := if s.bit (Reg.CNV_STAT l) 23 then sendReplay (keep s) l fallow
      else if 1024 ≤ x.rbuf.length then putSlot (keep s) l { ack := curAck s l } fallow
      else match x.lm with
        | f :: r => sendNew (keep (s.setLink l { s.link l with lm := r })) l f fallow
        | [] =>
          match x.layby with
          | f :: r =>
            let s := keep (linkMirror (s.setLink l { s.link l with layby := r }) l)
            sendNew s l f fallow
          | [] =>
            match arr with
            | some f => sendNew s l f fallow
            | .none =>
              if fallow ∨ 0 < x.hold ∨ x.seed.isSome then putSlot s l { ack := curAck s l } fallow
              else match pickLaunch s l ahead with
                | some (y, c) => sendNew (launchCount s l y c) l y.frame fallow
                | .none => putSlot s l { ack := curAck s l } fallow
    slotEnd s l

def execSlotTransmit (l : Fin 32) (s : State) : Host.Outcome State Fault Refusal := done (slotTransmit s l)

/-- The replay starts from the oldest frame, and the timer again (R457). -/
def replayStart (s : State) (l : Nat) : State :=
  let x := s.link l
  let s := (s.bump (Reg.CNV_CNT l) 31 16).setBit (Reg.CNV_STAT l) 23 true
  s.setLink l { x with rptr := 0, timer := some s.clock, reps := x.reps + 1 }

/-- The replay limit (R459): the error, then a renegotiation when a lane has failed, else a full retrain. -/
def replayLimit (s : State) (l : Nat) : State :=
  let s := raiseLink s l 2 0xF (((s.link l).rbuf.head?.map Frame.seq).getD 0)
  let s := s.setLink l { s.link l with reps := 0 }
  if laneFailed s l then startReneg s l (ownReqw s l) else linkRetrain s l 3

/-- The replay timer expires TMO after its last start or restart (R457, R459, R13 to R15). -/
def replayTimeout (s : State) (l : Nat) : State :=
  let x := s.link l
  match x.timer with
  | .none => s
  | some t =>
    if linkUp s l ∧ t + s.fld (Reg.CNV_REPLAY l) 12 0 ≤ s.clock then
      let s := replayStart s l
      if s.fld (Reg.CNV_REPLAY l) 27 24 ≤ x.reps then replayLimit s l else s
    else s

/-- The clock in which the replay timer expires. -/
def replayDue (s : State) (l : Nat) : Option Nat := (s.link l).timer.map (fun t => t + s.fld (Reg.CNV_REPLAY l) 12 0)

def execReplayTimeout (l : Fin 32) (s : State) : Host.Outcome State Fault Refusal :=
  atDue (.replayTimeout l) 1 (replayDue s l) s (fun s => done (replayTimeout s l))

/-- A 1 ms window ends (R465): lanes with errors below the threshold are good again, the counts start over. -/
def laneWindowEnd (s : State) (l : Nat) : State :=
  let x := s.link l
  if x.winFrom + msClocks ≤ s.clock then
    let s := (List.range 9).foldl (fun s p => if laneHealth s l p = 1 then setHealth s l p 0 else s) s
    s.setLink l { s.link l with winErr := [], winFrom := s.clock }
  else s

def execLaneErrorWindowEnd (l : Fin 32) (s : State) : Host.Outcome State Fault Refusal := done (laneWindowEnd s l)

/-! ### Renegotiation (R467 to R472) -/

/-- This end leads when both requested: the lower device ID, then the lower link number (R467). -/
def leads (s : State) (l dev link : Nat) : Bool := decide (s.devId < dev ∨ (s.devId = dev ∧ l < link))

def setLead (s : State) (l : Nat) (b : Bool) : State := s.setBit (Reg.CNV_STAT l) 21 b

/-- The follower answers GRANT. -/
def grant (s : State) (l : Nat) : State :=
  let w := ((s.link l).request).getD (maxW s l)
  let was := linkState s l
  let s := setLinkState (setLead s l false) l LinkState.reneg
  let s := if was = LinkState.active then linkRep s l else s
  let s := (s.setBit (Reg.CNV_TRAIN l) 4 true).setLink l { s.link l with request := .none, answerBy := .none }
  lmSend s l 2 w 0 0 0 false

def lmRequest (s : State) (l : Nat) (m : LmMsg) : State :=
  if linkUp s l then
    let s := s.setLink l { s.link l with peerOk := m.rxok, peerW := m.reqw }
    match (s.link l).request with
    | some _ => if leads s l m.dev m.link then setLead s l true else grant s l
    | .none => grant s l
  else s

def execLmRequest (l : Fin 32) (m : LmMsg) (s : State) : Host.Outcome State Fault Refusal := done (lmRequest s l m)

/-- The idle lanes that a chosen map brings in: transmit lanes, receive lanes (R469). -/
def newLanes (s : State) (l : Nat) (tx rx : Word) : Nat × Nat :=
  let fresh (now then_ : Word) : Nat :=
    (List.range 9).foldl (fun a p => if mapUses then_ p && !mapUses now p then a + 2 ^ p else a) 0
  (fresh (s.reg (Reg.CNV_LANEMAP l)) tx, fresh (s.link l).rxMap rx)

/-- SWITCH is sent: the leader's receiver follows the follower's map at once (R470). -/
def sendSwitch (s : State) (l w : Nat) (tx rx : Word) : State :=
  let gen := !s.bit (Reg.CNV_STAT l) 22
  let sq := (nextSeq s l + (s.link l).lm.length) % 4096
  let s := lmSend s l 3 w tx rx w gen
  s.setLink l { s.link l with rxPend := some (rx, gen), txPend := some (tx, w, gen, sq), laneTrain := .none
                              answerBy := some (s.clock + 100 * usClocks) }

/-- No width qualifies (R468): ABORT leaves in the next slot, and the end enters FAILED. -/
def abortNone (s : State) (l : Nat) : State :=
  linkFail (sendNew s l { ty := 15, data := lmPayload s l 4 0 0 0 0 false } (slotFallow s l)) l 1

/-- The leader chooses (R468): no width ends the link, idle lanes are trained first, else SWITCH. -/
def leadChoose (s : State) (l : Nat) : State :=
  let x := s.link l
  match chooseMap s l (x.request.getD (maxW s l)) x.peerW with
  | .none => abortNone s l
  | some (w, tx, rx) =>
    let (a, b) := newLanes s l tx rx
    if a = 0 ∧ b = 0 then sendSwitch s l w tx rx
    else
      let s := s.setLink l { x with laneTrain := some (a, b), answerBy := .none }
      s.emit (.link l 2 [a, b])

def lmGrant (s : State) (l : Nat) (m : LmMsg) : State :=
  if linkState s l = LinkState.reneg ∧ (s.link l).request.isSome then
    leadChoose (setLead (s.setLink l { s.link l with peerOk := m.rxok, peerW := m.reqw }) l true) l
  else s

def execLmGrant (l : Fin 32) (m : LmMsg) (s : State) : Host.Outcome State Fault Refusal := done (lmGrant s l m)

/-- An idle lane has trained (R469): `rx` tells its direction, `ok` whether it locked. A lane that failed is dropped from
RXOK and the leader chooses again. -/
def laneTrained (s : State) (l p : Nat) (rx ok : Bool) : State :=
  let x := s.link l
  match x.laneTrain with
  | .none => s
  | some (a, b) =>
    let s := if rx then setHealth s l p (if ok then 0 else 2)
      else if ok then s else s.setLink l { x with peerOk := x.peerOk - (if x.peerOk.testBit p then 2 ^ p else 0) }
    let clear (m : Nat) : Nat := m - (if m.testBit p then 2 ^ p else 0)
    let a := if rx then a else clear a
    let b := if rx then clear b else b
    if !ok then leadChoose s l
    else if a = 0 ∧ b = 0 then
      match chooseMap s l ((s.link l).request.getD (maxW s l)) (s.link l).peerW with
      | some (w, tx, rxm) => sendSwitch s l w tx rxm
      | .none => abortNone s l
    else s.setLink l { s.link l with laneTrain := some (a, b) }

def execLaneTrainingComplete (l : Fin 32) (p : Fin 9) (rx ok : Bool) (s : State) : Host.Outcome State Fault Refusal :=
  done (laneTrained s l p rx ok)

/-- The follower accepts SWITCH (R470): its receiver takes the leader's new map, its transmitter the one named for it. -/
def lmSwitch (s : State) (l : Nat) (m : LmMsg) : State :=
  if linkState s l = LinkState.reneg then
    let s := s.setLink l { s.link l with rxPend := some (m.txmap, m.mapgen) }
    endReneg s l m.width m.rxmap m.mapgen
  else s

def execLmSwitch (l : Fin 32) (m : LmMsg) (s : State) : Host.Outcome State Fault Refusal := done (lmSwitch s l m)

/-- An attempt is over without a switch. -/
def reset4 (s : State) (l : Nat) : State :=
  let s := setLinkState s l LinkState.active
  let s := s.setBit (Reg.CNV_TRAIN l) 4 false
  s.setLink l { s.link l with request := .none, answerBy := .none, laneTrain := .none, txPend := .none, rxPend := .none }

/-- ABORT (R468, R476): with no width the end enters FAILED, else it is ACTIVE again. -/
def lmAbort (s : State) (l : Nat) : State :=
  if linkState s l = LinkState.reneg then
    let x := s.link l
    if (chooseMap s l (x.request.getD (maxW s l)) x.peerW).isNone then linkFail s l 1 else reset4 s l
  else s

def execLmAbort (l : Fin 32) (s : State) : Host.Outcome State Fault Refusal := done (lmAbort s l)

/-- No answer to REQUEST or SWITCH within 100 µs (R472): ABORT and a new renegotiation; after three a full retrain. -/
def renegTimeout (s : State) (l : Nat) : State :=
  let x := s.link l
  match x.answerBy with
  | .none => s
  | some t =>
    if linkState s l = LinkState.reneg ∧ t ≤ s.clock then
      let w := x.request.getD (maxW s l)
      let s := reset4 (lmSend s l 4 0 0 0 0 false) l
      let s := s.setLink l { s.link l with aborts := x.aborts + 1 }
      if 3 ≤ x.aborts + 1 then linkRetrain s l 5 else startReneg s l w
    else s

def execRenegTimeout (l : Fin 32) (s : State) : Host.Outcome State Fault Refusal :=
  atDue (.renegTimeout l) 1 (s.link l).answerBy s (fun s => done (renegTimeout s l))

/-- A write of CNV_TRAIN (R467, R476). -/
def wrCnvTrain (s : State) (l : Nat) (v : Word) : State :=
  let s := s.setF (Reg.CNV_TRAIN l) 3 2 (fld v 3 2)
  if bit v 0 then
    if linkUp s l then
      let s := linkRetrain s l 0
      (s.setBit (Reg.CNV_TRAIN l) 0 true).setLink l { s.link l with ownReq := true }
    else s
  else if bit v 4 then startReneg s l (fld v 3 2)
  else s

def execRenegotiate (p : Path) (l : Fin 32) (w : Fin 4) (s : State) : Host.Outcome State Fault Refusal :=
  done (guardedWrite s p (Reg.CNV_TRAIN l) (fun s => wrCnvTrain s l (BitVec.ofNat 32 (16 + 4 * w.val))))

def execRetrain (p : Path) (l : Fin 32) (s : State) : Host.Outcome State Fault Refusal :=
  done (guardedWrite s p (Reg.CNV_TRAIN l) (fun s =>
    wrCnvTrain s l (BitVec.ofNat 32 (1 + 4 * s.fld (Reg.CNV_TRAIN l) 3 2))))

/-! ### Training (R473 to R477) -/

/-- A training block of this end, on all nine lanes: TBT, DEVID, LINK, MODE, MAXW, RXOK, SPAREEN, REQ, STAMP, TURN. -/
def sendTb (s : State) (l tbt stamp turn : Nat) : State :=
  sendTraining (s.emit (.link l 1 [tbt, s.devId, l, b2n (s.bit (Reg.CNV_STAT l) 26), maxW s l, rxOk s l,
    b2n (s.bit (Reg.CNV_CTL l) 17), b2n (s.link l).ownReq, stamp, turn])) l tbt (maxW s l) (rxOk s l) stamp turn (List.range 9)

/-- A link is enabled from OFF or FAILED: MODE takes effect, DETECT goes out on all nine lanes. -/
def linkDetect (s : State) (l : Nat) : State :=
  let s := (unisolate s (uLink l)).setBit (Reg.CNV_STAT l) 26 (s.bit (Reg.CNV_CTL l) 16)
  let s := s.setLink l { linkClear (s.link l) with isolatedEn := false, ownReq := false }
  sendTb (setLinkState s l LinkState.detect) l 1 0 0

/-- A write of CNV_CTL (R476, R567). -/
def wrCnvCtl (s : State) (l : Nat) (v : Word) : State :=
  let was := s.bit (Reg.CNV_CTL l) 0
  let x := s.link l
  let blocked := isolated s (uLink l) && !canEnable s (uLink l)
  let en := bit v 0 && !blocked
  let s := s.setReg (Reg.CNV_CTL l) (setBit (v &&& 0xF0001#32) 0 en)
  if en then
    if linkState s l = LinkState.off then linkDetect s l
    else if linkState s l = LinkState.failed ∧ !was ∧ x.isolatedEn then linkDetect s l
    else s
  else if bit v 0 then s
  else if linkState s l = LinkState.off then s
  else linkLeave s l 6 LinkState.off

def execCnvCtlWrite (p : Path) (l : Fin 32) (v : Word) (s : State) : Host.Outcome State Fault Refusal :=
  done (guardedWrite s p (Reg.CNV_CTL l) (fun s => takeWrite (wrCnvCtl s l v) (Reg.CNV_CTL l)))

/-- CNV_LAYBY.CLR (R465). -/
def linkClearCounts (s : State) (l : Nat) : State :=
  let s := s.setF (Reg.CNV_LAYBY l) 26 16 0
  let s := (s.setReg (Reg.CNV_CNT l) 0).setReg (Reg.CNV_FEC l) 0
  (List.range 9).foldl (fun s p => s.setF (Reg.CNV_LANEERR l p) 15 0 0) s

def wrLayby (s : State) (l : Nat) (v : Word) : State := if bit v 31 then linkClearCounts s l else s

def execLinkCounterClear (p : Path) (l : Fin 32) (s : State) : Host.Outcome State Fault Refusal :=
  done (guardedWrite s p (Reg.CNV_LAYBY l) (fun s => wrLayby s l 0x80000000#32))

def learnPeer (s : State) (l : Nat) (b : TrainBlock) : State :=
  s.setLink l { s.link l with peerOk := b.rxok, peerW := b.maxw, peerMax := b.maxw, peerSpare := b.spare, peerReq := b.req }

/-- Peer blocks seen in DETECT. -/
def tbDetect (s : State) (l : Nat) (b : TrainBlock) : State :=
  if linkState s l = LinkState.detect then
    if b.mode = s.bit (Reg.CNV_STAT l) 26 then
      let s := setLinkState s l LinkState.lock
      sendTb (s.setLink l { s.link l with lockAt := s.clock }) l 2 0 0
    else linkFail s l 4
  else s

def execTbDetect (l : Fin 32) (b : TrainBlock) (s : State) : Host.Outcome State Fault Refusal := done (tbDetect s l b)

/-- Lanes lock and deskew in LOCK: the lanes this receiver has locked, and the peer's block with its RXOK. When each
direction has a lane, CONFIG and ECHO go out. -/
def tbLock (s : State) (l locked : Nat) (b : TrainBlock) : State :=
  if linkState s l = LinkState.lock then
    let s := (List.range 9).foldl (fun s p => setHealth s l p (if locked.testBit p then 0 else 2)) s
    let s := learnPeer (s.setLink l { s.link l with locked := locked }) l b
    if locked % 512 ≠ 0 ∧ b.rxok % 512 ≠ 0 then
      let s := (setLinkState s l LinkState.config).setBit (Reg.CNV_TRAIN l) 0 false
      sendTb (sendTb s l 3 0 0) l 5 (s.clock % 2 ^ 31) 0
    else s
  else s

def execTbLock (l : Fin 32) (locked : BitVec 9) (b : TrainBlock) (s : State) : Host.Outcome State Fault Refusal :=
  done (tbLock s l locked.toNat b)

/-- The end that leads a training (R474). -/
def trainLeads (s : State) (l : Nat) : Bool :=
  let x := s.link l
  if x.ownReq = x.peerReq then leads s l (s.fld (Reg.CNV_PEER l) 25 16) (s.fld (Reg.CNV_PEER l) 12 8) else x.ownReq

/-- The peer's identity, learned in CONFIG (CNV_PEER). -/
def setPeer (s : State) (l : Nat) (b : TrainBlock) : State :=
  s.setReg (Reg.CNV_PEER l) (BitVec.ofNat 32 (2 ^ 31 + b.dev % 1024 * 2 ^ 16 + b.link % 32 * 2 ^ 8 + b2n b.mode))

/-- Configuration is complete (R476): the maps are set, sequences start at 0, GO is sent; with width 0 the link fails. -/
def linkConfigured (s : State) (l : Nat) : State :=
  let x := s.link l
  if linkState s l = LinkState.config ∧ x.configAck ∧ x.echoed then
    match chooseMap s l (maxW s l) x.peerW with
    | .none => linkFail s l 1
    | some (w, tx, rx) =>
      let s := s.setReg (Reg.CNV_LANEMAP l) tx
      let s := (s.setF (Reg.CNV_STAT l) 28 27 w).setBit (Reg.CNV_STAT l) 25 (mapUses tx 8)
      let s := setLead ((s.setBit (Reg.CNV_STAT l) 22 false).setF (Reg.CNV_STAT l) 24 23 0) l (trainLeads s l)
      let s := (s.setReg (Reg.CNV_SEQA l) 0).setReg (Reg.CNV_SEQB l) 0
      let s := (List.range 9).foldl (fun s p =>
        if laneHealth s l p = 0 && !mapUses rx p then setHealth s l p 3 else s) s
      let s := s.setLink l { s.link l with rxMap := rx, rxPend := .none, winErr := [], winFrom := s.clock, ownReq := false }
      let dir := linkDir l
      let s := s.setBit Reg.POOL_COURSE (8 * (3 - dir) + l % 8) true
      let s := setLinkState s l LinkState.active
      linkRep (sendTb s l 7 0 0) l
  else s

/-- A CONFIG block: the peer's identity and width (CNV_PEER); answered with CONFIG-ACK. -/
def tbConfig (s : State) (l : Nat) (b : TrainBlock) : State :=
  if linkState s l = LinkState.config then
    linkConfigured (sendTb (setPeer (learnPeer s l b) l b) l 4 0 0) l
  else s

def execTbConfig (l : Fin 32) (b : TrainBlock) (s : State) : Host.Outcome State Fault Refusal := done (tbConfig s l b)

def tbConfigAck (s : State) (l : Nat) : State :=
  if linkState s l = LinkState.config then linkConfigured (s.setLink l { s.link l with configAck := true }) l else s

def execTbConfigAck (l : Fin 32) (s : State) : Host.Outcome State Fault Refusal := done (tbConfigAck s l)

/-- ECHO is answered with its STAMP and TURN (R475); TURN is a measured number of core clocks. -/
def tbEcho (s : State) (l stamp : Nat) : State :=
  if linkState s l = LinkState.config then sendTb s.draw l 6 stamp (Config.freeNat s.fresh % 4096) else s

def execTbEcho (l : Fin 32) (b : TrainBlock) (s : State) : Host.Outcome State Fault Refusal := done (tbEcho s l b.stamp)

/-- ECHO-REPLY gives RTT and ONEWAY (R475). -/
def tbEchoReply (s : State) (l : Nat) (b : TrainBlock) : State :=
  if linkState s l = LinkState.config then
    let rtt := ((s.clock + 2 ^ 31 - b.stamp % 2 ^ 31) % 2 ^ 31 - b.turn) % 2 ^ 16
    let s := setPeer (learnPeer s l b) l b
    let s := s.setReg (Reg.CNV_DELAY l) (BitVec.ofNat 32 (rtt * 2 ^ 16 + rtt / 2))
    linkConfigured (s.setLink l { s.link l with echoed := true }) l
  else s

def execTbEchoReply (l : Fin 32) (b : TrainBlock) (s : State) : Host.Outcome State Fault Refusal :=
  done (tbEchoReply s l b)

/-- GO of the peer: sequenced traffic starts once this end is configured as well. -/
def execTbGo (l : Fin 32) (s : State) : Host.Outcome State Fault Refusal := done (linkConfigured s l)

/-- 20 ms in LOCK without a locked lane in some direction (R476). -/
def lockTimeout (s : State) (l : Nat) : State :=
  let x := s.link l
  if linkState s l = LinkState.lock ∧ x.lockAt + 20 * msClocks ≤ s.clock then linkFail s l 1 else s

def execLockTimeout (l : Fin 32) (s : State) : Host.Outcome State Fault Refusal :=
  atDue (.lockTimeout l) 1 (some ((s.link l).lockAt + 20 * msClocks)) s (fun s => done (lockTimeout s l))

/-- Lock lost on every lane (R476). -/
def execLaneLockLost (l : Fin 32) (s : State) : Host.Outcome State Fault Refusal := done (linkRetrain s l 2)

end Sys2Proof.Machine
end

