-- ==== Sys2Proof/Machine/Ports.lean ====
section
/-! DEFINITION. The commands of the host ports (spec/06): PERST_N, links, viral, configuration requests, logical-device counts
and dynamic capacity. -/

namespace Sys2Proof.Machine

/-! ### PERST_N and links (R87, R200 to R204, R230, R232, R233, R706) -/

/-- The release of a PERST_N. While the device is held in reset, and until OTP has been read, it is only noted (R202, R706). -/
def perstRelease (s : State) (p : Nat) : State :=
  if (s.subp p).perst then s
  else
    let s := s.setSubp p { s.subp p with perst := true, owed := true }
    if s.inReset || !s.wipe.keysDone then s else portStart s p

def execPerstRelease (n : Fin 16) (k : Fin 4) (s : State) : Host.Outcome State Fault Refusal :=
  flowDone (perstRelease s (4 * n.val + k.val))

/-- A released port of the mode in force, whose link may train. -/
def linkMayTrain (s : State) (p : Nat) : Bool :=
  !s.inReset && s.wipe.keysDone && (s.subp p).perst && portExists s p && !(s.subp p).trainOwed

def portInfo (p : Nat) : Info := { sub := some p }

/-- HPX_STAT.RATEk. -/
def portRate (s : State) (p : Nat) : Nat := s.fld (Reg.HPX_STAT (p / 4)) (8 * (p % 4) + 2) (8 * (p % 4))

/-- A link finishes training at a width up to the port's. Once firmware runs, CXL initialisation follows and the port is READY
unless it is isolated. At 64 GT/s it runs in 256 B flit mode (R196). A link that comes back below its trained width or rate raises its source. -/
def linkTrained (s : State) (p width rate : Nat) (flit256 : Bool) : State :=
  if linkMayTrain s p && decide (width ≤ portWidth s (p / 4)) then
    let was := portState s p
    let low := decide (2 ≤ was) && decide (width < (s.subp p).width ∨ rate < portRate s p)
    let s := setPortStat s p 2 width rate
    let s := s.setSubp p { s.subp p with width := width, flit256 := flit256 || decide (rate = 5) }
    let s := if low then raiseHost s (p / 4) 1 (portInfo p) else s
    if firmwareRuns s && decide (s.code ≠ Mode.boot) && !(s.subp p).isolated then setReadySub s p true else s
  else s

/-- An L0p width change of a trained link, from its trained width down to HPX_L0P.MINW while EN is 1 (R196); one that this does not
allow fails. The table gives it no row of its own (DESIGN CHOICE, log entry 211). -/
def linkL0p (s : State) (p width : Nat) : State :=
  if s.inReset || decide (portState s p < 2) then s
  else
    let top := (s.subp p).width
    if width = top ∨ (s.bit (Reg.HPX_L0P (p / 4)) 3 ∧ s.fld (Reg.HPX_L0P (p / 4)) 2 0 ≤ width ∧ width ≤ top) then
      setPortStat s p (if width = top then 2 else 3) width (portRate s p)
    else raiseHost s (p / 4) 22 (portInfo p)

def execHostLinkTrained (n : Fin 16) (k : Fin 4) (width : Fin 5) (rate : Fin 6 × LinkChange) (s : State) :
    Host.Outcome State Fault Refusal :=
  let p := 4 * n.val + k.val
  done (match rate.2 with
    | .flit68 => linkTrained s p width rate.1 false
    | .flit256 => linkTrained s p width rate.1 true
    | .l0p => linkL0p s p width)

/-- A trained link goes down with its PERST_N high. -/
def linkDown (s : State) (p : Nat) : State :=
  if !s.inReset && decide (2 ≤ portState s p) then
    raiseHost (setReadySub (setPortStat s p 0 0 0) p false) (p / 4) 0 (portInfo p)
  else s

def execHostLinkDown (n : Fin 16) (k : Fin 4) (s : State) : Host.Outcome State Fault Refusal :=
  done (linkDown s (4 * n.val + k.val))

/-- Viral comes from a host on a trained link. -/
def viralIn (s : State) (p : Nat) : State :=
  if !s.inReset && decide (2 ≤ portState s p) then
    let s := s.setSubp p { s.subp p with viral := true }
    raiseHost (s.setBit (Reg.HPX_ERRCTL (p / 4)) 0 true) (p / 4) 13 (portInfo p)
  else s

def execViralReceived (n : Fin 16) (k : Fin 4) (s : State) : Host.Outcome State Fault Refusal :=
  done (viralIn s (4 * n.val + k.val))

/-! ### Configuration requests (R70, R197, R198, R206, R207) -/

/-- The ways and the granularity of an HDM decoder that the port supports (R197). -/
def decoderOk (ways gran : Nat) : Bool :=
  [1, 2, 3, 4, 6, 8, 12, 16].contains ways && [256, 512, 1024, 2048, 4096, 8192, 16384].contains gran

def setDecoder (s : State) (ld i : Nat) (d : Option Decoder) : State :=
  let x := s.logDev ld
  s.setLogDev ld { x with decs := smSet .none x.decs i d }

/-- The raw bandwidth of a bifurcated port at its trained rate and width, in Mb/s. -/
def rawBandwidth (s : State) (p : Nat) : Nat := 2500 * 2 ^ portRate s p * 2 ^ (s.subp p).width

/-- The CDAT of a logical device (R199). -/
def cdatOf (s : State) (ld p : Nat) : Resp := .cdat ld 92 53 (rawBandwidth s p) (rawBandwidth s p) 0 (2 ^ 50 - 1)

/-- A request to the function of a logical device. In BOOT it is answered with Configuration Request Retry Status (R70). In 68 B flit
mode only HDM-H decoders can be committed, and the BI decoder reports no capability (R198). What another read returns is the CXL
and PCIe specifications' matter. -/
def configRequest (s : State) (ld : Nat) (q : CfgReq) : State :=
  match ldPort s ld with
  | .none => s
  | some p =>
    if s.inReset || !(s.subp p).perst then s
    else if s.code = Mode.boot then s.emit (.config ld .none)
    else match q with
      | .read _ => s.draw.emit (.config ld (some (Config.freeNat s.fresh)))
      | .cdat => s.emit (cdatOf s ld p)
      | .readDecoder i => s.emit (.decoder ld (smGet .none (s.logDev ld).decs i.val))
      | .readBi => s.emit (.biDecoder ld (s.subp p).flit256 ((s.subp p).flit256 && (s.logDev ld).bi))
      | .enumerate => (s.setLogDev ld { s.logDev ld with enumerated := true }).emit (.config ld (some 0))
      | .commit i base size skip ways gran hdmh =>
        if decoderOk ways gran && (hdmh || (s.subp p).flit256) then
          (setDecoder s ld i.val
            (some { base := base, size := size, skip := skip, ways := ways, gran := gran, hdmh := hdmh })).emit
            (.config ld (some 0))
        else s.emit (.config ld (some 1))
      | .uncommit i => (setDecoder s ld i.val .none).emit (.config ld (some 0))
      | .bi on =>
        if on && !(s.subp p).flit256 then s.emit (.config ld (some 1))
        else (s.setLogDev ld { s.logDev ld with bi := on }).emit (.config ld (some 0))

def execCxlIoConfigRequest (ld : Fin 256) (req : CfgReq) (s : State) : Host.Outcome State Fault Refusal :=
  done (configRequest s ld req)

/-! ### Logical-device counts (R204) -/

/-- A write of HPX_LDCNT: ignored when the counts exceed 16, or name a bifurcated port that the mode does not have. -/
def wrLdcnt (s : State) (n : Nat) (v : Word) : State :=
  let c (k : Nat) : Nat := ldCount v k
  if 16 < c 0 + c 1 + c 2 + c 3 then s
  else if [1, 2, 3].any (fun k => decide (subCount s n ≤ k ∧ c k ≠ 0)) then s
  else s.setReg (Reg.HPX_LDCNT n) (v &&& 0x1F1F1F1F#32)

def execHpxLdcntWrite (p : Path) (n : Fin 16) (v : Word) (s : State) : Host.Outcome State Fault Refusal :=
  done (guardedWrite s p (Reg.HPX_LDCNT n) (fun s => wrLdcnt s n v))

/-! ### Dynamic capacity (R216 to R221) -/

/-- CXL return codes (PRESUMED: the numbers of the CXL specification). -/
def rcSuccess : Nat := 0
def rcBackground : Nat := 1
def rcInvalid : Nat := 2
def rcUnsupported : Nat := 3
def rcInternal : Nat := 4
def rcBusy : Nat := 6
def rcSlot : Nat := 11
def rcHandle : Nat := 14

/-- An extent of the extent check, and its DCDEXT entry, take a state (R216). -/
def setExtent (s : State) (i : Nat) (e : Extent) : State :=
  let s := { s with port := { s.port with ext := smSet {} s.port.ext i e } }
  let s := s.setLive 8 (16 * i) (e.start + e.blocks * 2 ^ 64) 12
  let s := s.setLive 8 (16 * i + 12) e.ld 1
  s.setLive 8 (16 * i + 13) (e.state + 256 * b2n e.shr) 2

/-- The extent of a logical device that a range names whole, in one of some states. -/
def findExtent (s : State) (ld start blocks : Nat) (states : List Nat) : Option (Nat × Extent) :=
  s.port.ext.find? (fun e => decide (e.2.ld = ld ∧ e.2.start = start ∧ e.2.blocks = blocks) && states.contains e.2.state)

/-- The logical device is bound: enumerated on a trained port that is READY (R218, HPX_LDMAP.BOUND). -/
def ldBound (s : State) (ld : Nat) : Bool :=
  (s.logDev ld).enumerated && (match ldPort s ld with
    | some p => decide (2 ≤ portState s p) && readySub s p
    | .none => false)

/-- An entry of DCDEXT that is FREE, here and in the table. -/
def entryFree (s : State) (i : Nat) : Bool :=
  decide ((smGet {} s.port.ext i).state = 0 ∧ s.live 8 (16 * i + 13) 1 = 0)

/-- The entry that an offer takes: a FREE one that the owner's program has filled with this extent, so that its FLAGS stand;
else the first FREE one, with FLAGS 0 (DESIGN CHOICE, log entry 16). -/
def offerEntry (s : State) (ld dpa blocks : Nat) : Option (Nat × Bool) :=
  match (List.range 4096).find? (fun i => entryFree s i && decide (s.live 8 (16 * i) 8 = dpa ∧
      s.live 8 (16 * i + 8) 4 = blocks ∧ s.live 8 (16 * i + 12) 1 = ld)) with
  | some i => some (i, decide (s.live 8 (16 * i + 14) 1 % 2 = 1))
  | .none => ((List.range 4096).find? (entryFree s)).map (fun i => (i, false))

/-- An overlap with an extent of another logical device, the two not both SHR. -/
def offerClash (s : State) (e : Extent) : Bool :=
  s.port.ext.any (fun x => decide (x.2.state ≠ 0 ∧ x.2.ld ≠ e.ld) && overlaps x.2 e && !(x.2.shr && e.shr))

/-- The checks of DCDADD, in the order of their result codes: the entry and the extent, or the code. -/
def offerCheck (s : State) (ld dpa len : Nat) : Except Nat (Nat × Extent) :=
  if len = 0 ∨ len % 2 ^ 28 ≠ 0 ∨ dpa % 2 ^ 28 ≠ 0 ∨ 2 ^ 46 < dpa + len then .error 2
  else
    let slot := offerEntry s ld dpa (len / 2 ^ 28)
    let e : Extent := { start := dpa, blocks := len / 2 ^ 28, ld := ld, state := 1, shr := (slot.map (fun x => x.2)).getD false
                        since := s.clock }
    if offerClash s e then .error 3
    else match slot with
      | .none => .error 4
      | some (i, _) => if ld < 256 ∧ ldBound s ld then .ok (i, e) else .error 5

/-- Modes in which the device issues DCD add events (R70). -/
def addsCapacity (s : State) : Bool := decide (s.code = Mode.rise ∨ s.code = Mode.run ∨ s.code = Mode.trim)

/-- DCDADD: the extent is OFFERED with an Add Capacity record, and the caller waits; a failed check returns at once. -/
def dcdAdd (s : State) (c : Fin 16) : State :=
  let ld := (getT s c 10).toNat
  match offerCheck s ld (getT s c 11).toNat (getT s c 12).toNat with
  | .error r => serviceReturn s c r
  | .ok (i, e) =>
    let s := setExtent s i { e with caller := some c }
    let s := s.setCore c { s.core c with wait := some (.service 4) }
    s.emit (.capacity ld true e.start e.blocks)

/-- DCDREL of an ACCEPTED extent: it is RELEASING with a Release Capacity record. An extent that is not ACCEPTED is invalid. -/
def dcdRel (s : State) (c : Fin 16) : State :=
  let ld := (getT s c 10).toNat
  let len := (getT s c 12).toNat
  match (if len % 2 ^ 28 = 0 then findExtent s ld (getT s c 11).toNat (len / 2 ^ 28) [2] else .none) with
  | .none => serviceReturn s c 2
  | some (i, e) =>
    let s := setExtent s i { e with state := 3, since := s.clock, caller := some c }
    let s := s.setCore c { s.core c with wait := some (.service 5) }
    s.emit (.capacity ld false e.start e.blocks)

/-- A mailbox answer. -/
def reply (s : State) (m : Issuer) (rc : Nat) (out : List Nat) : State := s.emit (.mailbox m rc 0 out)

/-- The host's answer to an offer: the whole extent accepted or declined; anything else is Invalid Input. -/
def addResponse (s : State) (ld : Fin 256) (start blocks : Nat) (accept : Bool) : State :=
  match findExtent s ld start blocks [1] with
  | .none => reply s (.ld ld) rcInvalid []
  | some (i, e) =>
    let s := if accept then setExtent s i { e with state := 2, caller := .none } else freeExtent s i
    reply (dcdReturn s e.caller (if accept then 0 else 1)) (.ld ld) rcSuccess []

/-- The host releases a whole ACCEPTED or RELEASING extent. -/
def releaseDc (s : State) (ld : Fin 256) (start blocks : Nat) : State :=
  match findExtent s ld start blocks [2, 3] with
  | .none => reply s (.ld ld) rcInvalid []
  | some (i, e) =>
    let info : Info := { mkind := 1, mid := ld.val + 256 * ((ldPort s ld).getD 0 % 4), ld := some ld.val, sub := ldPort s ld }
    let s := raiseHost (freeExtent s i) (ld.val / 16) 14 info
    reply (dcdReturn s e.caller 0) (.ld ld) rcSuccess []

/-- HPX_TMO.DCDTO in core clocks. -/
def dcdLimit (s : State) (ld : Nat) : Nat := s.fld (Reg.HPX_TMO (ld / 16)) 31 16 * msClocks

/-- The response timer of an extent expires. -/
def dcdTimeout (s : State) (i : Nat) : State :=
  let e := smGet {} s.port.ext i
  if e.since + dcdLimit s e.ld ≤ s.clock then
    if e.state = 1 then dcdReturn (freeExtent s i) e.caller 6
    else if e.state = 3 then dcdReturn (setExtent s i { e with state := 2, caller := .none }) e.caller 6
    else s
  else s

/-- The clock in which the response timer of an extent that waits expires. -/
def dcdDue (s : State) (i : Nat) : Option Nat :=
  let e := smGet {} s.port.ext i
  if e.state = 1 ∨ e.state = 3 then some (e.since + dcdLimit s e.ld) else .none

def execDcdResponseTimeout (i : Fin 4096) (s : State) : Host.Outcome State Fault Refusal :=
  atDue (.dcdResponseTimeout i) 1 (dcdDue s i) s (fun s => done (dcdTimeout s i))

end Sys2Proof.Machine
end

