-- ==== Sys2Proof/Machine/RegWrite.lean ====
section
/-! DEFINITION. A write of any register (spec/02 R10, R41 to R61, R176, R185, R713, R714): its guard, the values that its
field takes, and its own effect where its table gives one. -/

namespace Sys2Proof.Machine

/-! ### Values that a field takes -/

/-- A field at least `lo`. -/
def atLeast (w : Word) (hi lo mn : Nat) : Word := if fld w hi lo < mn then setFld w hi lo mn else w

/-- A field at most `mx`. -/
def atMost (w : Word) (hi lo mx : Nat) : Word := if mx < fld w hi lo then setFld w hi lo mx else w

/-- One nibble of FLT_CLASSn (R564, R578): 6 and 7 leave the class; absent sources and 1,472 keep theirs. -/
def classNibble (src : Nat) (old v : Word) (k : Nat) : Nat :=
  let c := fld v (4 * k + 2) (4 * k)
  let o := fld old (4 * k + 2) (4 * k)
  if 6 ≤ c ∨ src = 1472 ∨ defaultClass src = .none then o else c

/-- FLT_CLASSn after a write. -/
def classWrite (n : Nat) (old v : Word) : Word :=
  BitVec.ofNat 32 ((List.range 8).foldl (fun a k => a + classNibble (8 * n + k) old v k * 16 ^ k) 0)

/-- SLU_CTL: EFF and URGLAP 0 as 1, WLOG from 10 to 14. -/
def sluCtlClamp (v : Word) : Word := atMost (atLeast (atLeast (atLeast v 15 8 1) 6 4 1) 3 0 10) 3 0 14

/-- DMC_SCHED: AGECAP at least 100, LOWM at most 63, HIWM 0 and above 64 as 64. -/
def schedClamp (v : Word) : Word :=
  let v := atMost (atLeast v 27 16 100) 15 8 63
  if fld v 7 0 = 0 ∨ 64 < fld v 7 0 then setFld v 7 0 64 else v

/-- Registers whose fields read back another value than the one written, by base offset: the index, the old and the new
word. -/
def clamps1 : List (Nat × (Nat → Word → Word → Word)) := [
  (Reg.PAL_HMTO, fun _ _ v => atLeast v 15 0 1),
  (Reg.HPX_TMO 0, fun _ _ v => atMost (atLeast (atLeast v 31 16 1) 15 0 1) 15 0 4095),
  (Reg.HPX_L0P 0, fun _ _ v => atLeast v 2 0 1),
  (Reg.TIER_CTL, fun _ _ v => atMost (atLeast v 12 8 1) 12 8 16),
  (Reg.TIER_PMSET 0, fun _ _ v => if 24 ≤ fld v 4 0 then 31 else v),
  (Reg.CRY_HCTL, fun _ _ v => atMost v 6 4 4),
  (Reg.DMC_SCHED 0, fun _ _ v => schedClamp v),
  (Reg.DMC_REF 0, fun _ _ v => setFld v 31 16 (fld v 31 16 % 2436)),
  (Reg.DMC_RDT 0, fun _ _ v => atLeast (atLeast v 19 12 1) 11 0 8),
  (Reg.DMC_MARKCFG 0, fun _ _ v => atLeast v 7 0 1),
  (Reg.DMC_MARK 0 0, fun _ _ v => setFld (atMost v 3 0 9) 30 30 0)]

def clamps2 : List (Nat × (Nat → Word → Word → Word)) := [
  (Reg.SLU_CTL, fun _ _ v => sluCtlClamp v),
  (Reg.CNV_REPLAY 0, fun _ _ v => atMost (atLeast (atLeast v 27 24 1) 12 0 64) 12 0 4096),
  (Reg.CNV_LHEALTH 0, fun _ _ v => atLeast v 15 0 1),
  (Reg.POOL_CIRC, fun _ _ v => atLeast v 18 16 1),
  (Reg.POOL_E2E, fun _ _ v => atMost (atLeast v 15 0 10) 15 0 10000),
  (Reg.FLT_CTL, fun _ _ v => atMost v 2 0 5),
  (Reg.FLT_CLASS 0, fun i old v => classWrite i old v),
  (Reg.EVT_CTL, fun _ _ v => atMost (atLeast v 30 28 1) 30 28 5),
  (Reg.TEL_SMPPER 0, fun _ _ v => atLeast v 31 0 1)]

/-- The value of a key in a list of pairs. -/
def assoc {α : Type} : List (Nat × α) → Nat → Option α
  | [], _ => .none
  | (k, v) :: r, n => if n = k then some v else assoc r n

/-- The word that a plain write leaves in a register of a table. -/
def writtenWord (d : RegDesc) (i : Nat) (old v : Word) : Word :=
  match assoc (clamps1 ++ clamps2) d.base with
  | some f => f i old (typedValue d old v)
  | .none => typedValue d old v

/-! ### Writes with an effect of their own -/

/-- What a write does: the path, the unit, the index in the unit, the word. -/
abbrev Eff := Path → Nat → Nat → Word → State → State

/-- PAL_SETVIEW.SHADOW is held for each path (R176). -/
def wrSetView (p : Path) (v : Word) (s : State) : State :=
  let l := s.acc.view.filter (fun q => decide (q ≠ p))
  { s with acc := { s.acc with view := if bit v 0 then l ++ [p] else l } }

/-- PAL_CORECTLn.RESTART (R182, R183). -/
def wrCoreCtl (n : Nat) (v : Word) (s : State) : State := if bit v 0 then restart s n else s

def effects1 : List (Nat × Eff) := [
  (Reg.GEN_MODEREQ, fun _ _ _ v s => wrModeReq s (fld v 2 0)),
  (Reg.GEN_RST, fun _ _ _ v s => wrGenRst s v),
  (Reg.GEN_HOLDLIM, fun _ _ _ v s => wrHoldLim s v),
  (Reg.PAL_SETCMD, fun _ _ _ v s => wrSetCmd v s),
  (Reg.PAL_SETVIEW, fun p _ _ v s => wrSetView p v s),
  (Reg.PAL_CORECTL 0, fun _ _ i v s => wrCoreCtl i v s),
  (Reg.PAL_FWCTL, fun _ _ _ v s => wrFwCtl s (fld v 1 0)),
  (Reg.HPX_LDCNT 0, fun _ u _ v s => wrLdcnt s u v),
  (Reg.CRY_UNITEN, fun _ _ _ v s => wrUniten s v),
  (Reg.CRY_XEEN, fun _ _ _ v s => wrXeen s v),
  (Reg.CRY_TEST, fun _ _ _ v s => wrCryTest s v),
  (Reg.CRY_PBFLUSH, fun _ _ _ v s => wrPbflush s v),
  (Reg.KEYS_CMD, fun _ _ _ v s => wrKeysCmd s v),
  (Reg.KEYS_WRAP 0, fun _ _ i v s => wrKeysWrap s i v)]

def effects2 : List (Nat × Eff) := [
  (Reg.HOME_PCFLUSH, fun _ _ _ v s => wrPcflush s v),
  (Reg.HOME_DQADDRHI, fun _ _ _ v s => wrDqaddrHi s v),
  (Reg.DMC_CTL 0, fun _ u _ v s => wrDmcCtl s u v),
  (Reg.DMC_TRAIN 0, fun _ u _ v s => wrDmcTrain s u v),
  (Reg.DMC_PARREB 0, fun _ u _ v s => wrParreb s u v),
  (Reg.DMC_FCHG, fun _ _ _ v s => wrFchg s v),
  (Reg.DMC_PPR 0, fun _ u _ v s => wrPpr s u v),
  (Reg.DMC_TESTCTL 0, fun _ u _ v s => wrTestCtl s u v),
  (Reg.RAKE_CTL, fun _ _ _ v s => wrRakeCtl s v),
  (Reg.SLU_CTL2, fun _ _ _ v s => wrSluCtl2 v s),
  (Reg.CNV_CTL 0, fun _ u _ v s => wrCnvCtl s u v),
  (Reg.CNV_TRAIN 0, fun _ u _ v s => wrCnvTrain s u v),
  (Reg.CNV_LAYBY 0, fun _ u _ v s => wrLayby s u v)]

def effects3 : List (Nat × Eff) := [
  (Reg.POOL_CFG, fun _ _ _ v s => wrPoolCfg v s),
  (Reg.TIDE_AT_LO, fun _ _ _ v s => wrTideAt Reg.TIDE_AT_LO v s),
  (Reg.TIDE_AT_HI, fun _ _ _ v s => wrTideAt Reg.TIDE_AT_HI v s),
  (Reg.FLT_STICKY 0, fun _ _ i v s => wrSticky s i v),
  (Reg.FLT_FORCE 0, fun p _ i v s => wrForce s p i v),
  (Reg.FLT_CAPPOP, fun _ _ _ v s => wrCapPop s v),
  (Reg.SEC_TOKDATA, fun _ _ _ v s => wrTokData s v),
  (Reg.SEC_EPHEM, fun _ _ _ v s => wrSecEphem s v),
  (Reg.SEC_FLADDR, fun _ _ _ v s => wrFlAddr s v),
  (Reg.SEC_FLDATA, fun _ _ _ v s => wrFlData s v),
  (Reg.HK_CTL, fun _ _ _ v s => wrHkCtl s v),
  (Reg.HK_LIM, fun _ _ _ v s => wrHkLim s v),
  (Reg.HK_PLIM, fun _ _ _ v s => wrHkPlim s v),
  (Reg.HK_ERR, fun _ _ _ v s => wrHkErr s v),
  (Reg.TEL_CTL, fun _ _ _ v s => wrTelCtl v s),
  (Reg.TEL_SNAPCTL, fun _ _ _ v s => wrSnapCtl v s),
  (Reg.TEL_SMPCTL 0, fun _ _ i v s => wrSmpCtl i v s),
  (Reg.TEL_SMPPOP, fun _ _ _ v s => wrSmpPop v s)]

def effectOf (base : Nat) : Option Eff := assoc (effects1 ++ (effects2 ++ effects3)) base

/-- The unit of an offset in a table, and the index in the unit. -/
def unitOf (d : RegDesc) (off : Nat) : Nat := (off - d.base) / d.ustride
def indexOf (d : RegDesc) (off : Nat) : Nat := (off - d.base) % d.ustride / d.stride

/-- A plain write (R10). A bit that hardware set in this clock is not cleared (R47). -/
def plainWrite (s : State) (d : RegDesc) (off : Nat) (v : Word) : State :=
  s.setReg off (writtenWord d (indexOf d off) (s.reg off) (v &&& ~~~ (smGet 0 s.acc.hwSet off &&& BitVec.ofNat 32 d.w1c)))

/-- A write of a set-held register goes to the shadow copy (R176). -/
def shadowWrite (s : State) (d : RegDesc) (off : Nat) (v : Word) : State :=
  s.setSreg off (writtenWord d (indexOf d off) (s.sreg off) v)

/-- What a write does once its guard has let it through. -/
def regEffect (s : State) (p : Path) (d : RegDesc) (off : Nat) (v : Word) : State :=
  if d.setHeld then (if setArmed s then s else shadowWrite s d off v)
  else
    let s := match effectOf d.base with
      | some f => f p (unitOf d off) (indexOf d off) v s
      | .none => plainWrite s d off v
    takeWrite s off

/-- What a completed complement-pair sequence does, by the _V offset of its register. -/
def gpEffect (off : Nat) (v : Word) (s : State) : State :=
  if off = Reg.GEN_FUSEPROG 0 then wrFuse v s
  else if off = Reg.SEC_TOKCMD 0 then wrTokCmd v s
  else if off = Reg.SEC_ARB 0 then wrArb true v s
  else s.setReg off v

/-! ### A write at the register fabric -/

/-- The completing _C write of the open sequence, with the complement of its value (R53, R55). -/
def gpCompletes (s : State) (p : Path) (off : Nat) (v : Word) : Bool :=
  match (gpSettle s).acc.gp with
  | some g => decide (g.path = p ∧ g.off + 4 = off ∧ v = ~~~ g.val)
  | .none => false

/-- A write of a _V or a _C address, with its status (R53 to R56, R714). -/
def gpWrite (s : State) (p : Path) (d : RegDesc) (off : Nat) (v : Word) : State × Nat :=
  if off = d.base then (gpOpen s p off v, 0)
  else (gpClose s p off v (gpEffect d.base), if gpCompletes s p off v then 0 else 4)

/-- Offsets of the flash registers, which outside recovery are refused (R599). -/
def flashBarred (s : State) (p : Path) (off : Nat) : Bool :=
  decide (off = Reg.SEC_FLADDR ∨ off = Reg.SEC_FLDATA) && (!recovering s || decide (p ≠ .sideband))

/-- A 32-bit aligned write of a register outside the indirect windows, with its status (R714). -/
def writeWord (s : State) (p : Path) (off : Nat) (v : Word) : State × Nat :=
  if writeRefused s p off || flashBarred s p off then (refuse s p true off, 1)
  else if off = Reg.GRD_KEY then (keyWrite s p v, 0)
  else match regDesc off with
    | .none => (s, 0)
    | some d =>
      match d.guard with
      | .gp => gpWrite s p d off v
      | .gk => (gkWrite s p off (fun s => regEffect s p d off v), if keyArmed s p then 0 else 4)
      | .none => (regEffect s p d off v, if d.setHeld && setArmed s then 5 else 0)

end Sys2Proof.Machine
end

