-- ==== Sys2Proof/Machine/Windows.lean ====
section
/-! DEFINITION. The indirect windows (spec/02 R62 to R65). What the spec gives the targets: the words of the slot controllers
(spec/18), the package characterisation of the thermal model (spec/19) and the SPI NOR; other words are free values. -/

namespace Sys2Proof.Machine

def winOf (s : State) (n : Nat) : Window := smGet {} s.acc.win n

def setWin (s : State) (n : Nat) (w : Window) : State := { s with acc := { s.acc with win := smSet {} s.acc.win n w } }

def winErr (s : State) (n : Nat) : State := s.hwBit (Reg.IDX_STAT n) 1

/-! ### Targets -/

/-- The target is reserved, absent or not READY, or window `n` does not reach it (R62, R50). -/
def winAbsent (s : State) (n t w : Nat) : Bool :=
  match t with
  | 0 => decide (24 ≤ w / 2 ^ 18)
  | 1 => s.slot.dead || !readyD2d s 2 || decide (n = 3)
  | 2 => s.slot.dead || !readyD2d s 2
  | 3 => decide (16 ≤ w / 2 ^ 18)
  | 4 => decide (32 ≤ w / 2 ^ 18)
  | 5 => false
  | 6 => false
  | 7 => decide (n ≠ 2)
  | _ => true

/-- A word of the slot controllers, at place `k` of its slot. -/
def slotWord (t w : Nat) (ks : List Nat) : Bool := decide (t = 1 ∧ w < 0xC00) && ks.contains (w % 0x40)

/-- SLOT_STAT, SLOT_VOLT and SLOT_IP, the OTP fuses and the SPI NOR are read only. -/
def winReadOnly (t w : Nat) : Bool := decide (t = 5 ∨ t = 7) || slotWord t w [8, 9, 10]

/-- The _V word of a GP register inside a target, and either of its words: SLOT_EN alone is one. -/
def winGpV (t w : Nat) : Bool := slotWord t w [4]
def winGp (t w : Nat) : Bool := slotWord t w [4, 5]

/-- A GK register inside a target: a control of a PHY or a SerDes (R65); which words those are is left open. -/
def winGk (t w : Nat) : Bool := decide (t = 0 ∨ t = 3 ∨ t = 4) && Config.targetGk t w

/-- A word of the package characterisation: 17 node capacitances and 33 edge conductances (R655). -/
def pkgWordAt (w : Nat) : Bool := decide ((0x1000 ≤ w ∧ w < 0x1011) ∨ (0x1020 ≤ w ∧ w < 0x1041))

/-- The word that a target gives. -/
def targetRead (s : State) (t w : Nat) : State × Word :=
  if t = 1 then (s.draw, slotRead s (if slotWord t w [5] then w - 1 else w))
  else if t = 2 ∧ pkgWordAt w then (s, BitVec.ofNat 32 (pkgVal s w))
  else if t = 7 then (s, BitVec.ofNat 32 (ofBytes (norBytes s (4 * w) 4)))
  else (s.draw, Config.targetWord t w s.fresh)

/-- What a write does when the target has taken it. -/
def targetWrite (s : State) (n : Nat) (a : WinAcc) : State :=
  if winAbsent s n a.target a.waddr then winErr s n
  else if a.target = 1 then
    if a.pairC.isSome then
      if bit a.val 0 then slotEnable s (a.waddr / 0x40) else slotDisable s (a.waddr / 0x40)
    else slotWrite s a.waddr a.val
  else if a.target = 2 ∧ pkgWordAt a.waddr then
    { s with hk := { s.hk with pkg := smSet .none s.hk.pkg a.waddr (some a.val) } }
  else s

/-! ### Pairs (R65) -/

/-- The held word is discarded: HELD clears, ERR sets, and the failure is recorded with CAUSE 2. -/
def pairDrop (s : State) (n : Nat) : State :=
  match (winOf s n).held with
  | .none => s
  | some (p, _, _) =>
    let s := setWin s n { winOf s n with held := .none }
    gpFail (winErr (s.setBit (Reg.IDX_STAT n) 3 false) n) 2 p (Reg.IDX_DATA n)

/-- A held word whose 65,536 clocks have passed is discarded. -/
def pairSettle (s : State) (n : Nat) : State :=
  match (winOf s n).held with
  | some (_, _, c) => if c + 65536 < s.clock then pairDrop s n else s
  | .none => s

/-- The write is sent: BUSY until the target has taken it. -/
def winBusy (s : State) (n : Nat) (a : WinAcc) : State :=
  (setWin s n { winOf s n with busy := some a }).setBit (Reg.IDX_STAT n) 0 true

/-- A single word for the target. -/
def winSingle (s : State) (n : Nat) (a : WinAcc) : State :=
  if winAbsent s n a.target a.waddr || winReadOnly a.target a.waddr || winGp a.target a.waddr then winErr s n
  else if winGk a.target a.waddr then gkWrite s a.path (Reg.IDX_DATA n) (fun s => winBusy s n a)
  else winBusy s n a

/-- The second word of a pair: both go to the target, which refuses a pair for any word but the _V word of a GP register,
and a pair whose words do not match (CAUSE 1). The pair is a guarded write of its own (R55). -/
def winPair (s : State) (n : Nat) (a : WinAcc) (v : Word) : State :=
  let s := (setWin s n { winOf s n with held := .none }).setBit (Reg.IDX_STAT n) 3 false
  if winAbsent s n a.target a.waddr then winErr s n
  else
    if !winGpV a.target a.waddr then winErr s n
    else
    let s := gpAbort (gpSettle s)
    if a.val ≠ ~~~ v then gpFail s 1 a.path (Reg.IDX_DATA n)
    else winBusy s n { a with val := v, pairC := some a.val }

/-- A write that the window carries out. -/
def winWrite (s : State) (n : Nat) (a : WinAcc) : State :=
  let s := pairSettle s n
  if a.pair then
    match (winOf s n).held with
    | .none => (setWin s n { winOf s n with held := some (a.path, a.val, s.clock) }).setBit (Reg.IDX_STAT n) 3 true
    | some (_, v, _) => winPair s n a v
  else winSingle s n a

/-- A read that the window carries out: ERR and 0xFFFF_FFFF, or the target's word (R64). -/
def winReads (s : State) (n : Nat) (a : WinAcc) : State × Word :=
  if winAbsent s n a.target a.waddr then (winErr s n, 0xFFFFFFFF#32) else targetRead s a.target a.waddr

/-! ### Accesses in their order (R63) -/

/-- An access arrives: it takes TARGET, PAIR and WADDR as they stand, and WADDR advances with AINC. -/
def winArrive (s : State) (n : Nat) (p : Path) (write : Bool) (v : Word) (rd : Option (Fin 32)) : State × WinAcc :=
  let r := s.reg (Reg.IDX_ADDR n)
  let a : WinAcc := { path := p, target := fld r 31 28, waddr := fld r 23 0, pair := bit r 26, write := write, val := v
                      pairC := .none, rd := rd }
  if bit r 27 && !bit r 26 then
    let s := if fld r 23 0 = 0xFFFFFF then s.hwBit (Reg.IDX_STAT n) 2 else s
    (s.setF (Reg.IDX_ADDR n) 23 0 (fld r 23 0 + 1), a)
  else (s, a)

/-- An access waits while BUSY is 1 or an earlier one waits. -/
def winWaits (s : State) (n : Nat) : Bool := (winOf s n).busy.isSome || decide ((winOf s n).waiting ≠ [])

def winQueue (s : State) (n : Nat) (a : WinAcc) : State :=
  setWin s n { winOf s n with waiting := (winOf s n).waiting ++ [a] }

/-- A read's value goes back on its path; for RGR it goes to rd and the core goes on, unless it has been restarted. -/
def winAnswer (s : State) (a : WinAcc) (v : Word) : State :=
  match a.path, a.rd with
  | .core c _, some rd =>
    match (s.core c).wait with
    | some (.window _ _) => coreDone s c rd (v.zeroExtend 64)
    | _ => s
  | p, _ => s.emit (.value p v.toNat)

/-- One waiting access is carried out. -/
def winServe (s : State) (n : Nat) (a : WinAcc) : State :=
  if a.write then winWrite s n a
  else
    let (s, v) := winReads s n a
    winAnswer s a v

/-- Waiting accesses are carried out until one makes BUSY 1. -/
def winDrain : List WinAcc → Nat → State → State
  | [], n, s => setWin s n { winOf s n with waiting := [] }
  | a :: r, n, s =>
    if (winOf s n).busy.isSome then setWin s n { winOf s n with waiting := a :: r }
    else winDrain r n (winServe s n a)

/-- The target has taken the posted write. -/
def targetDone (s : State) (n : Nat) : State :=
  match (winOf s n).busy with
  | .none => s
  | some a =>
    let s := targetWrite s n a
    let s := (setWin s n { winOf s n with busy := .none }).setBit (Reg.IDX_STAT n) 0 false
    winDrain (winOf s n).waiting n s

/-- Every posted write of a window is taken, at most `k` of them. -/
def winFinish (n : Nat) : Nat → State → State
  | 0, s => s
  | k + 1, s => if (winOf s n).busy.isSome then winFinish n k (targetDone s n) else s

def winFinishAll (s : State) (n : Nat) : State := winFinish n ((winOf s n).waiting.length + 1) s

/-- A write of IDXn_ADDR: a held word is discarded (R65). -/
def wrIdxAddr (s : State) (n : Nat) (v : Word) : State :=
  (pairDrop (pairSettle s n) n).setReg (Reg.IDX_ADDR n) (v &&& 0xFCFFFFFF#32)

/-- A write of IDXn_DATA. -/
def wrIdxData (s : State) (p : Path) (n : Nat) (v : Word) : State :=
  let (s, a) := winArrive s n p true v .none
  if winWaits s n then winQueue s n a else winWrite s n a

/-- A read of IDXn_DATA; none: it waits. -/
def rdIdxData (s : State) (p : Path) (n : Nat) (rd : Option (Fin 32)) : State × Option Word :=
  let (s, a) := winArrive s n p false 0 rd
  if winWaits s n then (winQueue s n a, .none)
  else
    let (s, v) := winReads s n a
    (s, some v)

/-- The offset of IDXn_ADDR or IDXn_DATA. -/
def isIdxAddr (off : Nat) : Option Nat :=
  match windowOf off with
  | some n => if off % 16 = 0 then some n else .none
  | .none => .none
def isIdxData (off : Nat) : Option Nat :=
  match windowOf off with
  | some n => if off % 16 = 4 then some n else .none
  | .none => .none

end Sys2Proof.Machine
end

