-- ==== Sys2Proof/Machine/RegRead.lean ====
section
/-! DEFINITION. A read of any register (spec/02 R42 to R46, R50, R51): the value that it returns, computed for fields that
mirror other state, and the latch of 64-bit pairs. -/

namespace Sys2Proof.Machine

/-! ### Values computed from other state -/

def flags24 (f : Nat → Bool) : Word := BitVec.ofNat 32 ((List.range 24).foldl (fun a n => a + b2n (f n) * 2 ^ n) 0)

def outstWord (s : State) (n : Nat) : Word :=
  BitVec.ofNat 32 (min 256 (s.port.bisnp.filter (fun b => decide (b.ld / 16 = n))).length * 2 ^ 16 + min 1024 (portReqs s n))

/-- HPX_LDMAPj: what logical device 16 × n + j is (R205). -/
def ldmapWord (s : State) (l : Nat) : Word :=
  match ldPlace s l with
  | .none => 0
  | some (k, id) =>
    let x := s.logDev l
    let bound := x.enumerated && decide (2 ≤ portState s (4 * (l / 16) + k))
    let h := x.decs.any (fun e => match e.2 with | some d => d.hdmh | .none => false)
    BitVec.ofNat 32 (b2n h * 2 ^ 13 + b2n bound * 2 ^ 12 + k % 4 * 2 ^ 10 + id % 16)

def moveCount (s : State) : Nat := s.tier.moves.length
def reframesActive (s : State) : Nat := (List.range 4).foldl (fun a q => a + rfActive s q) 0

def tierStatWord (s : State) : Word := BitVec.ofNat 32 (min 128 (moveCount s) * 2 ^ 8 + min 64 (reframesActive s))

def homeStatWord (s : State) (q : Nat) : Word :=
  BitVec.ofNat 32 (min 512 (s.coh.chain.filter (fun r => decide (sliceOf r = q))).length * 2 ^ 16 +
    min 4096 (s.coh.txns.filter (fun t => decide (sliceOf t.req = q))).length)

def modifiedLines (s : State) (q : Nat) : Nat :=
  (s.coh.pc.filter (fun e => decide (homeSlice (pcLineOf e.1) = q ∧ e.2.pstate = 3))).length

def dmcStatWord (s : State) (c : Nat) : Word :=
  setFld (setFld (s.reg (Reg.DMC_STAT c)) 15 8 (min 128 (s.chan c).rdq.length)) 7 0 (min 128 (s.chan c).wrq.length)

def cnvCtlWord (s : State) (l : Nat) : Word := setFld (s.reg (Reg.CNV_CTL l)) 19 18 (maxW s l)

/-- FLT_SUM: bit n tells that FLT_STICKY(k + n) is not 0. -/
def sumWord (s : State) (k m : Nat) : Word :=
  BitVec.ofNat 32 ((List.range m).foldl (fun a n => a + b2n (decide (s.reg (Reg.FLT_STICKY (k + n)) ≠ 0)) * 2 ^ n) 0)

def clsumWord (s : State) : Word :=
  BitVec.ofNat 32 ((List.range 6).foldl (fun a c => a + b2n (stickyOfClass s c) * 2 ^ c) 0)

def capWord (s : State) : Word :=
  BitVec.ofNat 32 (satAdd 0xFFFF s.flt.ovf s.flt.lostNow.length * 2 ^ 16 + b2n (fullCapture s) * 2 ^ 15 + s.flt.fifo.length)

/-- A word of the oldest record of a FIFO; 0 when it is empty. -/
def oldest (l : List (List Word)) (i : Nat) : Word := ((l.head?).bind (fun e => e[i]?)).getD 0

/-- Counter m at words 2m and 2m + 1 (R667). -/
def cntWord (m : SMap Nat) (i : Nat) : Word := BitVec.ofNat 32 (smGet 0 m (i / 2) / (if i % 2 = 0 then 1 else 2 ^ 32))

/-- A computed value: the path, the unit, the index. -/
abbrev View := State → Path → Nat → Nat → Word

def views1 : List (Nat × View) := [
  (Reg.GRD_KEY, fun s p _ _ => if keyArmed s p then 1 else 0),
  (Reg.GRD_TESTG 0, fun s _ _ _ => s.reg (Reg.GRD_TESTG 0)),
  (Reg.GEN_FUSEPROG 0, fun s _ _ _ => s.reg (Reg.GEN_FUSEPROG 0)),
  (Reg.SEC_TOKCMD 0, fun s _ _ _ => s.reg (Reg.SEC_TOKCMD 0)),
  (Reg.SEC_ARB 0, fun s _ _ _ => s.reg (Reg.SEC_ARB 0)),
  (Reg.GEN_WIPE, fun s _ _ _ => genWipe s),
  (Reg.PAL_SETVIEW, fun s p _ _ => if s.acc.view.contains p then 1 else 0),
  (Reg.PAL_CORECTL 0, fun s _ _ i => coreCtl s i),
  (Reg.HPX_OUTST 0, fun s _ u _ => outstWord s u),
  (Reg.HPX_LDMAP 0 0, fun s _ u i => ldmapWord s (16 * u + i)),
  (Reg.TIER_STAT, fun s _ _ _ => tierStatWord s),
  (Reg.TIER_RSVLOW, fun s _ _ _ => flags24 (rsvLow s)),
  (Reg.TIER_FREELOW, fun s _ _ _ => flags24 (freeLow s)),
  (Reg.TIER_MAPCELLS 0, fun s _ _ i => BitVec.ofNat 32 (mapRegion s i / 1024))]

def views2 : List (Nat × View) := [
  (Reg.KEYS_WRAP 0, fun _ _ _ _ => 0),
  (Reg.KEYS_SLOT 0, fun s _ _ i => keySlotWord s i),
  (Reg.KEYS_GEN 0, fun s _ _ i => BitVec.ofNat 32 (genOf s i)),
  (Reg.HOME_STAT 0, fun s _ _ i => homeStatWord s i),
  (Reg.HOME_PCSTAT 0, fun s _ _ i => BitVec.ofNat 32 (min 262144 (modifiedLines s i))),
  (Reg.HOME_SWEEP, fun s _ _ _ => if s.coh.sweep then 1 else 0),
  (Reg.DMC_STAT 0, fun s _ u _ => dmcStatWord s u),
  (Reg.SLU_BOOK, fun s _ _ _ => BitVec.ofNat 32 (booked s.sets.active)),
  (Reg.SLU_URG, fun s _ _ _ => sluUrg s),
  (Reg.SLU_STAT 0, fun s _ _ i => sluStat s i),
  (Reg.CNV_CTL 0, fun s _ u _ => cnvCtlWord s u),
  (Reg.POOL_FOLD, fun s _ _ _ => foldWord s)]

def views3 : List (Nat × View) := [
  (Reg.FLT_FORCE 0, fun _ _ _ _ => 0),
  (Reg.FLT_SUM0, fun s _ _ _ => sumWord s 0 32),
  (Reg.FLT_SUM1, fun s _ _ _ => sumWord s 32 16),
  (Reg.FLT_CLSUM, fun s _ _ _ => clsumWord s),
  (Reg.FLT_CAP, fun s _ _ _ => capWord s),
  (Reg.FLT_CAPREC 0, fun s _ _ i => oldest s.flt.fifo i),
  (Reg.SEC_NONCE 0, fun s _ _ i => nonceWord s i),
  (Reg.SEC_TOKDATA, fun _ _ _ _ => 0),
  (Reg.SEC_FLDATA, fun _ _ _ _ => 0),
  (Reg.SLOT_MIR 0, fun s _ _ i => slotStat s (s.slotOf i)),
  (Reg.TEL_SMPREC 0, fun s _ _ i => oldest s.tel.fifo i),
  (Reg.TEL_CNT 0, fun s _ _ i => cntWord s.tel.cnt i),
  (Reg.TEL_SNP 0, fun s _ _ i => cntWord s.tel.snap i)]

def viewOf (base : Nat) : Option View := assoc (views1 ++ (views2 ++ views3)) base

/-- The value of a register as a path reads it; 0 for reserved ranges and unassigned offsets (R42). A set-held register
gives its active copy, or its shadow copy to a path whose PAL_SETVIEW.SHADOW is 1 (R176). -/
def readValue (s : State) (p : Path) (off : Nat) : Word :=
  match regDesc off with
  | .none => 0
  | some d =>
    if d.setHeld then (if s.acc.view.contains p then s.sreg off else s.reg off)
    else match viewOf d.base with
      | some f => f s p (unitOf d off) (indexOf d off)
      | .none => s.reg off

/-! ### Pairs (R44) -/

def pairBases : List Nat := [
  Reg.TIDE_NOW_LO, Reg.TIDE_AT_LO, Reg.PAL_COMMITLO, Reg.TIER_ERRPAGE_LO, Reg.CRY_ERRLN_LO, Reg.HOME_DQADDRLO,
  Reg.HOME_DQDATLO, Reg.HOME_ERR_LO, Reg.DMC_ERRADDR_LO 0, Reg.DMC_TESTADDR_LO 0, Reg.RAKE_FIRST_LO, Reg.RAKE_LAST_LO,
  Reg.RAKE_READ_LO, Reg.RAKE_UE_LO 0, Reg.TEL_SNAPAT_LO, Reg.TEL_SNAPTIDE_LO]

/-- The low words of 64-bit values in the oldest record of a FIFO: TIDE of a capture entry, TIDE and PC of a sample. -/
def recordPairs : List Nat := [Reg.FLT_CAPREC 4, Reg.TEL_SMPREC 1, Reg.TEL_SMPREC 3]

/-- The low word of a 64-bit value in two registers; its high word stands 4 B above. -/
def isPairLow (off : Nat) : Bool :=
  match regDesc off with
  | .none => false
  | some d => pairBases.contains d.base || recordPairs.contains off ||
      (decide (d.base = Reg.TEL_CNT 0 ∨ d.base = Reg.TEL_SNP 0) && decide (indexOf d off % 2 = 0))

/-- The high word that a path's read of a low word has latched. -/
def hiOf : List (Path × Nat × Word) → Path → Nat → Option Word
  | [], _, _ => .none
  | (q, o, v) :: r, p, off => if q = p ∧ o = off then some v else hiOf r p off

def dropHi : List (Path × Nat × Word) → Path → Nat → List (Path × Nat × Word)
  | [], _, _ => []
  | (q, o, v) :: r, p, off => if q = p ∧ o = off then dropHi r p off else (q, o, v) :: dropHi r p off

def setHi (s : State) (l : List (Path × Nat × Word)) : State := { s with acc := { s.acc with hi := l } }

/-- The read of a low word latches the high word for the path. -/
def latchHi (s : State) (p : Path) (off : Nat) : State :=
  if isPairLow off then setHi s (dropHi s.acc.hi p (off + 4) ++ [(p, off + 4, readValue s p (off + 4))]) else s

/-! ### One word -/

/-- A read of SEC_TOKDATA advances SEC_TOKADDR (R609). -/
def tokStep (s : State) : State := s.setF Reg.SEC_TOKADDR 9 0 ((s.fld Reg.SEC_TOKADDR 9 0 + 1) % 1024)

/-- The queries by register that have not reached their home slice end: a read of their result waits for it (R132). -/
def finishQueries (s : State) : List Req → State
  | [] => s
  | r :: rs =>
    let s := if r.kind = .dqry && decide (r.origin = .agent 7) then
        openReq { s with coh := { s.coh with ingress := s.coh.ingress.erase r } } { r with cset := s.sets.swaps }
      else s
    finishQueries s rs

/-- A 32-bit aligned read of a register outside IDXn_DATA. -/
def readPlain (s : State) (p : Path) (off : Nat) : State × Word :=
  let s := if off = Reg.HOME_DQDATLO ∨ off = Reg.HOME_DQDATHI then finishQueries s s.coh.ingress else s
  match hiOf s.acc.hi p off with
  | some v => (setHi s (dropHi s.acc.hi p off), v)
  | .none =>
    let v := readValue s p off
    (latchHi (if off = Reg.SEC_TOKDATA then tokStep s else s) p off, v)

/-- A 32-bit aligned read, with its status (R714). A read of IDXn_DATA completes when the writes before it are taken
(R63). -/
def readWord (s : State) (p : Path) (off : Nat) : State × Word × Nat :=
  let off := canonOff off
  if readRefused s p off then (refuse s p false off, 0, 1)
  else match isIdxData off with
    | some n =>
      let (s, v) := rdIdxData (winFinishAll s n) p n .none
      (s, v.getD 0, 0)
    | .none =>
      let (s, v) := readPlain s p off
      (s, v, 0)

/-- A write of one word at the register fabric, with its status; the windows among the registers. A write of IDXn_DATA is posted
(R63): its status is 0x00 also where the target's own guard then refuses it (DESIGN CHOICE, log entry 200). -/
def applyWrite (s : State) (p : Path) (off : Nat) (v : Word) : State × Nat :=
  let off := canonOff off
  if writeRefused s p off then (refuse s p true off, 1)
  else match isIdxAddr off with
    | some n => (wrIdxAddr s n v, 0)
    | .none => match isIdxData off with
      | some n => (wrIdxData s p n v, 0)
      | .none => writeWord s p off v

end Sys2Proof.Machine
end

