-- ==== Sys2Proof/Machine/Fabric.lean ====
section
/-! DEFINITION. The commands of the register interface (spec/02). -/

namespace Sys2Proof.Machine

/-! ### Accesses of every width (R43, R713) -/

/-- "Sub-word or misaligned register access". -/
def misaligned (s : State) (p : Path) (write : Bool) (off : Nat) : State :=
  raiseWith s Src.misaligned (pathInfo p write off)

/-- Bytes of an access of a width that a path can make; a core reaches the fabric with whole aligned words only. -/
def accessBytes (p : Path) (width off : Nat) : Option Nat :=
  match p with
  | .core _ _ => if width = 32 ∧ off % 4 = 0 then some 4 else .none
  | _ => if width = 8 then some 1 else if width = 16 then some 2 else if width = 32 then some 4
    else if width = 64 then some 8 else .none

/-- A write: misaligned or narrow, it is discarded and raised; a 64-bit write is two writes, the lower address first. -/
def fabricWrite (s : State) (p : Path) (width off val : Nat) : State :=
  match accessBytes p width off with
  | .none => s
  | some b =>
    if off % b ≠ 0 ∨ b < 4 then misaligned s p true off
    else
      let s := (applyWrite s p off (BitVec.ofNat 32 val)).1
      if b = 8 then (applyWrite s p (off + 4) (BitVec.ofNat 32 (val / 2 ^ 32))).1 else s

/-- A read: misaligned, it returns 0 and is raised; a narrow one returns the addressed bytes of the word; a 64-bit read is
two reads, the lower address first. -/
def fabricRead (s : State) (p : Path) (width off : Nat) : State :=
  match accessBytes p width off with
  | .none => s
  | some b =>
    if off % b ≠ 0 then (misaligned s p false off).emit (.value p 0)
    else
      let (s, lo, _) := readWord s p (off / 4 * 4)
      if b = 8 then
        let (s, hi, _) := readWord s p (off + 4)
        s.emit (.value p (lo.toNat + 2 ^ 32 * hi.toNat))
      else s.emit (.value p (lo.toNat / 2 ^ (8 * (off % 4)) % 2 ^ (8 * b)))

/-- What follows a register access: the memory path goes on, and the reactions that it raised are carried out. A device held
in reset takes no access. -/
def access (s : State) (f : State → State) : Host.Outcome State Fault Refusal :=
  if s.inReset then .next s else flowDone (settle (f s))

def execRegisterWrite (p : Path) (width off val : Nat) (s : State) : Host.Outcome State Fault Refusal :=
  access s (fun s => fabricWrite s p width off val)

def execRegisterPairLowRead (p : Path) (width off : Nat) (s : State) : Host.Outcome State Fault Refusal :=
  access s (fun s => fabricRead s p width off)

/-! ### Sideband messages (R48, R714) -/

/-- One operation, with its status and its value. An access that is misaligned and would also be refused answers as misaligned: the
spec gives no priority (DESIGN CHOICE, log entry 201). -/
def sidebandOp (s : State) (o : SbOp) : State × Nat × Word :=
  if 2 ≤ o.code then (s, 3, 0)
  else if o.off % 4 ≠ 0 then (misaligned s .sideband (decide (o.code = 1)) o.off, 2, 0)
  else if o.code = 0 then
    let (s, v, r) := readWord s .sideband o.off
    (s, r, if r = 0 then v else 0)
  else
    let (s, r) := applyWrite s .sideband o.off o.val
    (s, r, 0)

/-- The operations in their order, with the answers so far. -/
def sidebandOps : List SbOp → State × List (Nat × Word) → State × List (Nat × Word)
  | [], a => a
  | o :: r, (s, l) =>
    let (s, st, v) := sidebandOp s o
    sidebandOps r (s, l ++ [(st, v)])

/-- A message of 1 to 16 operations and its one response. -/
def sidebandMessage (ops : List SbOp) (s : State) : State :=
  if ops.length = 0 ∨ 16 < ops.length then s
  else
    let (s, l) := sidebandOps ops (s, [])
    s.emit (.sideband l)

def execSidebandRegisterMessage (ops : List SbOp) (s : State) : Host.Outcome State Fault Refusal :=
  access s (sidebandMessage ops)

/-! ### Guards (R53 to R60) -/

/-- A write to the _V address of a GP register. -/
def execGpVWrite (p : Path) (off : Nat) (v : Word) (s : State) : Host.Outcome State Fault Refusal :=
  access s (fun s => if isGp off ∧ off = gpBase off then (applyWrite s p off v).1 else s)

/-- A write to the _C address of a GP register. -/
def execGpCWrite (p : Path) (off : Nat) (v : Word) (s : State) : Host.Outcome State Fault Refusal :=
  access s (fun s => if isGp off ∧ off ≠ gpBase off then (applyWrite s p off v).1 else s)

def execGpSequenceTimeout (s : State) : Host.Outcome State Fault Refusal := access s gpSettle

def execKeyArm (p : Path) (v : Word) (s : State) : Host.Outcome State Fault Refusal :=
  access s (fun s => (applyWrite s p Reg.GRD_KEY v).1)

/-- An armed key expires 65,536 core clocks after it was armed, at the end of that clock (R60, R13). -/
def keyExpire (s : State) (p : Path) : State :=
  match keyClock s.acc.keys p with
  | some c => if c + 65536 ≤ s.clock then disarm s p else s
  | .none => s

def execKeyExpiry (p : Path) (s : State) : Host.Outcome State Fault Refusal :=
  atDue (.keyExpiry p) 1 ((keyClock s.acc.keys p).map (fun c => c + 65536)) s (fun s => access s (fun s => keyExpire s p))

/-! ### Indirect windows (R62 to R65) -/

def execIdxAddrWrite (p : Path) (n : Fin 4) (v : Word) (s : State) : Host.Outcome State Fault Refusal :=
  access s (fun s => (applyWrite s p (Reg.IDX_ADDR n) v).1)

/-- A read of IDXn_DATA answers at once, or when the posted write before it has been taken. -/
def idxRead (s : State) (p : Path) (n : Nat) : State :=
  if readRefused s p (Reg.IDX_DATA n) then (refuse s p false (Reg.IDX_DATA n)).emit (.value p 0)
  else
    let (s, v) := rdIdxData s p n .none
    match v with
    | some v => s.emit (.value p v.toNat)
    | .none => s

def execIdxDataRead (p : Path) (n : Fin 4) (s : State) : Host.Outcome State Fault Refusal :=
  access s (fun s => idxRead s p n)

def execIdxDataWrite (p : Path) (n : Fin 4) (v : Word) (s : State) : Host.Outcome State Fault Refusal :=
  access s (fun s => (applyWrite s p (Reg.IDX_DATA n) v).1)

def execIdxTargetDone (n : Fin 4) (s : State) : Host.Outcome State Fault Refusal := access s (fun s => targetDone s n)

/-- The held word is discarded when its 65,536 clocks have passed. -/
def pairTimeout (s : State) (n : Nat) : State :=
  match (winOf s n).held with
  | some (_, _, c) => if c + 65536 ≤ s.clock then pairDrop s n else s
  | .none => s

def execIdxPairTimeout (n : Fin 4) (s : State) : Host.Outcome State Fault Refusal :=
  atDue (.idxPairTimeout n) 1 ((winOf s n).held.map (fun h => h.2.2 + 65536)) s (fun s => access s (fun s => pairTimeout s n))

end Sys2Proof.Machine
end

