-- ==== Sys2Proof/Machine/Operands.lean ====
section
/-! DEFINITION. Issuing a Tamane instruction and its operands (spec/04 R100 to R117, R158, R161): when a core issues, the check
of the fetch, immediates, addresses, loads and stores, jumps and traps. Every instruction's meaning goes through `onIssue`. -/

namespace Sys2Proof.Machine

/-! ### Issue (R102, R104, R116, R117, R161) -/

/-- A core issues an instruction: it is READY, not halted, not held for a restart, and no earlier instruction holds issue
(R102). In BOOT only P0 runs, the boot ROM's code; during the swap of the firmware image none issues (R161, R690), and while
a field repair keeps the core's local memory from every access it does not (R551, R553). -/
def issues (s : State) (n : Nat) : Bool :=
  let c := s.core n
  !s.inReset && (if s.code = Mode.boot then decide (n = 0) else readyCore s n) && !c.halted && !c.restartHeld && c.wait.isNone &&
    decide (s.mode.step ≠ some 2) && (match s.repair.run with | some v => decide (fld v 31 22 ≠ n) | .none => true)

/-- The core address of the wrong word of an access (R158). -/
def badWordAt (s : State) (n : Nat) (p : Place) (a size : Nat) : Nat :=
  match parityWords p size with
  | w :: _ => if (s.core n).bad.contains w then a / 4 * 4 else a / 4 * 4 + 4
  | [] => a

/-- A local memory parity error: the trap, and the core's source (R117). -/
def parityTrap (s : State) (n a : Nat) : State := coreTrap (raise s (Src.core n 1)) n 9 a

/-- A trap that a fetch takes: misaligned, outside the memory that may be fetched from, or parity. -/
def fetchTrap (s : State) (n cause : Nat) : State :=
  let pc := (s.core n).pc.toNat
  if cause = 9 then parityTrap s n pc else coreTrap s n cause pc

/-- A core issues an instruction at its pc. -/
def onIssue (s : State) (c : Fin 16) (f : State → State) : State :=
  if issues s c.val then
    match coreLoad s c.val .fetch (s.core c.val).pc.toNat 4 with
    | .error k => fetchTrap s c.val k
    | .ok _ => f s
  else s

/-! ### Completion and jumps -/

/-- An instruction that only writes rd: rd takes the value, and pc advances by 4 (R101). -/
def writeRd (s : State) (c : Fin 16) (rd : Fin 32) (v : DWord) : State := coreDone s c.val rd v

/-- An instruction that writes no register. -/
def nextPc (s : State) (c : Fin 16) : State := coreDone s c.val 0 0

/-- A branch or a jump: rd takes the link, pc the target. -/
def jump (s : State) (c : Fin 16) (rd : Fin 32) (link target : DWord) : State :=
  setPc (coreDone s c.val rd link) c.val target

/-- An immediate, sign-extended and zero-extended. -/
def immS (x : BitVec 16) : DWord := sext16 x
def immZ (x : BitVec 16) : DWord := x.zeroExtend 64

/-- The M-format address (R111). -/
def memAddr (s : State) (c : Fin 16) (rs1 : Fin 32) (off : BitVec 16) : DWord := getT s c.val rs1 + immS off

/-- The B-format target (R111). -/
def branchTarget (s : State) (c : Fin 16) (off : BitVec 16) : DWord := (s.core c.val).pc + (immS off <<< 2)

/-! ### Loads and stores (R104, R116, R117) -/

/-- A trap of a load: misaligned, access, or parity. -/
def loadTrap (s : State) (n cause a size : Nat) : State :=
  if cause = 9 then
    match placeOf s n .load a size with
    | some p => parityTrap s n (badWordAt s n p a size)
    | .none => parityTrap s n a
  else coreTrap s n cause a

/-- A load of `size` bytes, extended by `ext`. -/
def load (s : State) (c : Fin 16) (rd : Fin 32) (a : DWord) (size : Nat) (ext : Nat → DWord) : State :=
  match coreLoad s c.val .load a.toNat size with
  | .ok v => writeRd s c rd (ext v)
  | .error k => loadTrap s c.val k a.toNat size

/-- A store of the low `size` bytes of a value. A live table may be one that a level of the device watches. -/
def store (s : State) (c : Fin 16) (a v : DWord) (size : Nat) : State :=
  if a.toNat % size ≠ 0 then coreTrap s c.val 3 a.toNat
  else match placeOf s c.val .store a.toNat size with
    | .none => coreTrap s c.val 4 a.toNat
    | some p => levels (nextPc (placeWrite s c.val p size (v.toNat % 2 ^ (8 * size))) c)

/-- `n` bytes sign-extended to 64 bits. -/
def signedBytes (n v : Nat) : DWord := (BitVec.ofNat (8 * n) v).signExtend 64

/-! ### Privilege (R106, R108) -/

/-- The word of an X-format instruction. -/
def xword (rd rs1 rs2 : Fin 32) (xfn xarg : Nat) : Nat :=
  0x3F * 2 ^ 26 + rd.val * 2 ^ 21 + rs1.val * 2 ^ 16 + rs2.val * 2 ^ 11 + xfn * 2 ^ 5 + xarg

/-- The privilege trap, with the instruction word in TVAL. -/
def privilege (s : State) (c : Fin 16) (word : Nat) : State := coreTrap s c.val 1 word

/-- An instruction that only supervisor level may run. -/
def supervised (s : State) (c : Fin 16) (word : Nat) (f : State → State) : State :=
  if supervisor s c.val then f s else privilege s c word

end Sys2Proof.Machine
end

