-- ==== Sys2Proof/Machine/Alu.lean ====
section
/-! DEFINITION. The integer instructions (spec/04 R103, R113, R114). -/

namespace Sys2Proof.Machine

/-! ### Results -/

def sltB (a b : DWord) : DWord := if a.slt b then 1 else 0
def ultB (a b : DWord) : DWord := if a.ult b then 1 else 0
def minS (a b : DWord) : DWord := if a.slt b then a else b
def maxS (a b : DWord) : DWord := if a.slt b then b else a
def minU (a b : DWord) : DWord := if a.ult b then a else b
def maxU (a b : DWord) : DWord := if a.ult b then b else a

/-- The upper half of the signed product. -/
def mulHi (a b : DWord) : DWord := BitVec.ofInt 64 ((a.toInt * b.toInt).fdiv (2 ^ 64))
/-- The upper half of the unsigned product. -/
def mulHiU (a b : DWord) : DWord := BitVec.ofNat 64 (a.toNat * b.toNat / 2 ^ 64)

/-- R114. -/
def divS (a b : DWord) : DWord := if b = 0 then BitVec.allOnes 64 else a.sdiv b
def divU (a b : DWord) : DWord := if b = 0 then BitVec.allOnes 64 else a.udiv b
def remS (a b : DWord) : DWord := if b = 0 then a else a.srem b
def remU (a b : DWord) : DWord := if b = 0 then a else a.umod b

def popc (a : DWord) : DWord := BitVec.ofNat 64 (popCount 64 a.toNat)
def clz (a : DWord) : DWord := if a = 0 then 64 else BitVec.ofNat 64 (63 - a.toNat.log2)
def ctz (a : DWord) : DWord := BitVec.ofNat 64 (lowBit 64 a.toNat)

/-! ### Forms -/

/-- A-format: rd takes a result of rs1 and rs2. -/
def alu (s : State) (c : Fin 16) (rd rs1 rs2 : Fin 32) (f : DWord → DWord → DWord) : State :=
  onIssue s c (fun s => writeRd s c rd (f (getT s c.val rs1) (getT s c.val rs2)))

/-- A result of rs1 alone: I-format, and A-format with rs2 0. -/
def alu1 (s : State) (c : Fin 16) (rd rs1 : Fin 32) (f : DWord → DWord) : State :=
  onIssue s c (fun s => writeRd s c rd (f (getT s c.val rs1)))

/-! ### A-format (R113) -/

def execAdd (c : Fin 16) (rd rs1 rs2 : Fin 32) (s : State) : Host.Outcome State Fault Refusal :=
  done (alu s c rd rs1 rs2 (fun a b => a + b))

def execSub (c : Fin 16) (rd rs1 rs2 : Fin 32) (s : State) : Host.Outcome State Fault Refusal :=
  done (alu s c rd rs1 rs2 (fun a b => a - b))

def execAnd (c : Fin 16) (rd rs1 rs2 : Fin 32) (s : State) : Host.Outcome State Fault Refusal :=
  done (alu s c rd rs1 rs2 (fun a b => a &&& b))

def execOr (c : Fin 16) (rd rs1 rs2 : Fin 32) (s : State) : Host.Outcome State Fault Refusal :=
  done (alu s c rd rs1 rs2 (fun a b => a ||| b))

def execXor (c : Fin 16) (rd rs1 rs2 : Fin 32) (s : State) : Host.Outcome State Fault Refusal :=
  done (alu s c rd rs1 rs2 (fun a b => a ^^^ b))

def execSll (c : Fin 16) (rd rs1 rs2 : Fin 32) (s : State) : Host.Outcome State Fault Refusal :=
  done (alu s c rd rs1 rs2 (fun a b => a <<< (b.toNat % 64)))

def execSrl (c : Fin 16) (rd rs1 rs2 : Fin 32) (s : State) : Host.Outcome State Fault Refusal :=
  done (alu s c rd rs1 rs2 (fun a b => a >>> (b.toNat % 64)))

def execSra (c : Fin 16) (rd rs1 rs2 : Fin 32) (s : State) : Host.Outcome State Fault Refusal :=
  done (alu s c rd rs1 rs2 (fun a b => a.sshiftRight (b.toNat % 64)))

def execSlt (c : Fin 16) (rd rs1 rs2 : Fin 32) (s : State) : Host.Outcome State Fault Refusal :=
  done (alu s c rd rs1 rs2 (fun a b => sltB a b))

def execSltu (c : Fin 16) (rd rs1 rs2 : Fin 32) (s : State) : Host.Outcome State Fault Refusal :=
  done (alu s c rd rs1 rs2 (fun a b => ultB a b))

def execMin (c : Fin 16) (rd rs1 rs2 : Fin 32) (s : State) : Host.Outcome State Fault Refusal :=
  done (alu s c rd rs1 rs2 (fun a b => minS a b))

def execMax (c : Fin 16) (rd rs1 rs2 : Fin 32) (s : State) : Host.Outcome State Fault Refusal :=
  done (alu s c rd rs1 rs2 (fun a b => maxS a b))

def execMinu (c : Fin 16) (rd rs1 rs2 : Fin 32) (s : State) : Host.Outcome State Fault Refusal :=
  done (alu s c rd rs1 rs2 (fun a b => minU a b))

def execMaxu (c : Fin 16) (rd rs1 rs2 : Fin 32) (s : State) : Host.Outcome State Fault Refusal :=
  done (alu s c rd rs1 rs2 (fun a b => maxU a b))

def execMul (c : Fin 16) (rd rs1 rs2 : Fin 32) (s : State) : Host.Outcome State Fault Refusal :=
  done (alu s c rd rs1 rs2 (fun a b => a * b))

def execMulh (c : Fin 16) (rd rs1 rs2 : Fin 32) (s : State) : Host.Outcome State Fault Refusal :=
  done (alu s c rd rs1 rs2 (fun a b => mulHi a b))

def execMulhu (c : Fin 16) (rd rs1 rs2 : Fin 32) (s : State) : Host.Outcome State Fault Refusal :=
  done (alu s c rd rs1 rs2 (fun a b => mulHiU a b))

def execDiv (c : Fin 16) (rd rs1 rs2 : Fin 32) (s : State) : Host.Outcome State Fault Refusal :=
  done (alu s c rd rs1 rs2 (fun a b => divS a b))

def execDivu (c : Fin 16) (rd rs1 rs2 : Fin 32) (s : State) : Host.Outcome State Fault Refusal :=
  done (alu s c rd rs1 rs2 (fun a b => divU a b))

def execRem (c : Fin 16) (rd rs1 rs2 : Fin 32) (s : State) : Host.Outcome State Fault Refusal :=
  done (alu s c rd rs1 rs2 (fun a b => remS a b))

def execRemu (c : Fin 16) (rd rs1 rs2 : Fin 32) (s : State) : Host.Outcome State Fault Refusal :=
  done (alu s c rd rs1 rs2 (fun a b => remU a b))

def execPopc (c : Fin 16) (rd rs1 : Fin 32) (s : State) : Host.Outcome State Fault Refusal :=
  done (alu1 s c rd rs1 popc)

def execClz (c : Fin 16) (rd rs1 : Fin 32) (s : State) : Host.Outcome State Fault Refusal :=
  done (alu1 s c rd rs1 clz)

def execCtz (c : Fin 16) (rd rs1 : Fin 32) (s : State) : Host.Outcome State Fault Refusal :=
  done (alu1 s c rd rs1 ctz)

/-! ### I-format (R113) -/

def execAddi (c : Fin 16) (rd rs1 : Fin 32) (imm : BitVec 16) (s : State) : Host.Outcome State Fault Refusal :=
  done (alu1 s c rd rs1 (fun a => a + immS imm))

def execAndi (c : Fin 16) (rd rs1 : Fin 32) (imm : BitVec 16) (s : State) : Host.Outcome State Fault Refusal :=
  done (alu1 s c rd rs1 (fun a => a &&& immZ imm))

def execOri (c : Fin 16) (rd rs1 : Fin 32) (imm : BitVec 16) (s : State) : Host.Outcome State Fault Refusal :=
  done (alu1 s c rd rs1 (fun a => a ||| immZ imm))

def execXori (c : Fin 16) (rd rs1 : Fin 32) (imm : BitVec 16) (s : State) : Host.Outcome State Fault Refusal :=
  done (alu1 s c rd rs1 (fun a => a ^^^ immZ imm))

def execSlti (c : Fin 16) (rd rs1 : Fin 32) (imm : BitVec 16) (s : State) : Host.Outcome State Fault Refusal :=
  done (alu1 s c rd rs1 (fun a => sltB a (immS imm)))

def execSltiu (c : Fin 16) (rd rs1 : Fin 32) (imm : BitVec 16) (s : State) : Host.Outcome State Fault Refusal :=
  done (alu1 s c rd rs1 (fun a => ultB a (immS imm)))

def execShori (c : Fin 16) (rd rs1 : Fin 32) (imm : BitVec 16) (s : State) : Host.Outcome State Fault Refusal :=
  done (alu1 s c rd rs1 (fun a => (a <<< 16) ||| immZ imm))

def execSlli (c : Fin 16) (rd rs1 : Fin 32) (sh : Fin 64) (s : State) : Host.Outcome State Fault Refusal :=
  done (alu1 s c rd rs1 (fun a => a <<< sh.val))

def execSrli (c : Fin 16) (rd rs1 : Fin 32) (sh : Fin 64) (s : State) : Host.Outcome State Fault Refusal :=
  done (alu1 s c rd rs1 (fun a => a >>> sh.val))

def execSrai (c : Fin 16) (rd rs1 : Fin 32) (sh : Fin 64) (s : State) : Host.Outcome State Fault Refusal :=
  done (alu1 s c rd rs1 (fun a => a.sshiftRight sh.val))

def execLui (c : Fin 16) (rd : Fin 32) (imm : BitVec 16) (s : State) : Host.Outcome State Fault Refusal :=
  done (onIssue s c (fun s => writeRd s c rd (immS imm <<< 16)))

end Sys2Proof.Machine
end

