-- ==== Sys2Proof/Machine/BranchMem.lean ====
section
/-! DEFINITION. Branches, jumps, loads and stores (spec/04 R111, R113, R115 to R117). -/

namespace Sys2Proof.Machine

/-! ### Branches and jumps -/

/-- A branch to pc + 4 × sext(off16) when the condition holds. -/
def branch (s : State) (c : Fin 16) (rs1 rs2 : Fin 32) (off : BitVec 16) (f : DWord → DWord → Bool) : State :=
  onIssue s c (fun s =>
    if f (getT s c.val rs1) (getT s c.val rs2) then jump s c 0 0 (branchTarget s c off) else nextPc s c)

def execBeq (c : Fin 16) (rs1 rs2 : Fin 32) (off : BitVec 16) (s : State) : Host.Outcome State Fault Refusal :=
  done (branch s c rs1 rs2 off (fun a b => a == b))

def execBne (c : Fin 16) (rs1 rs2 : Fin 32) (off : BitVec 16) (s : State) : Host.Outcome State Fault Refusal :=
  done (branch s c rs1 rs2 off (fun a b => a != b))

def execBlt (c : Fin 16) (rs1 rs2 : Fin 32) (off : BitVec 16) (s : State) : Host.Outcome State Fault Refusal :=
  done (branch s c rs1 rs2 off (fun a b => a.slt b))

def execBge (c : Fin 16) (rs1 rs2 : Fin 32) (off : BitVec 16) (s : State) : Host.Outcome State Fault Refusal :=
  done (branch s c rs1 rs2 off (fun a b => !a.slt b))

def execBltu (c : Fin 16) (rs1 rs2 : Fin 32) (off : BitVec 16) (s : State) : Host.Outcome State Fault Refusal :=
  done (branch s c rs1 rs2 off (fun a b => a.ult b))

def execBgeu (c : Fin 16) (rs1 rs2 : Fin 32) (off : BitVec 16) (s : State) : Host.Outcome State Fault Refusal :=
  done (branch s c rs1 rs2 off (fun a b => !a.ult b))

def execJal (c : Fin 16) (rd : Fin 32) (off : BitVec 16) (s : State) : Host.Outcome State Fault Refusal :=
  done (onIssue s c (fun s => jump s c rd ((s.core c.val).pc + 4) (branchTarget s c off)))

/-- JALR: the target is computed before rd is written (R115), and bits [1:0] are cleared. -/
def execJalr (c : Fin 16) (rd rs1 : Fin 32) (imm : BitVec 16) (s : State) : Host.Outcome State Fault Refusal :=
  done (onIssue s c (fun s => jump s c rd ((s.core c.val).pc + 4) (setFld (getT s c.val rs1 + immS imm) 1 0 0)))

/-! ### Loads and stores -/

def execLb (c : Fin 16) (rd rs1 : Fin 32) (off : BitVec 16) (s : State) : Host.Outcome State Fault Refusal :=
  done (onIssue s c (fun s => load s c rd (memAddr s c rs1 off) 1 (signedBytes 1)))

def execLh (c : Fin 16) (rd rs1 : Fin 32) (off : BitVec 16) (s : State) : Host.Outcome State Fault Refusal :=
  done (onIssue s c (fun s => load s c rd (memAddr s c rs1 off) 2 (signedBytes 2)))

def execLw (c : Fin 16) (rd rs1 : Fin 32) (off : BitVec 16) (s : State) : Host.Outcome State Fault Refusal :=
  done (onIssue s c (fun s => load s c rd (memAddr s c rs1 off) 4 (signedBytes 4)))

def execLd (c : Fin 16) (rd rs1 : Fin 32) (off : BitVec 16) (s : State) : Host.Outcome State Fault Refusal :=
  done (onIssue s c (fun s => load s c rd (memAddr s c rs1 off) 8 (BitVec.ofNat 64)))

def execLbu (c : Fin 16) (rd rs1 : Fin 32) (off : BitVec 16) (s : State) : Host.Outcome State Fault Refusal :=
  done (onIssue s c (fun s => load s c rd (memAddr s c rs1 off) 1 (BitVec.ofNat 64)))

def execLhu (c : Fin 16) (rd rs1 : Fin 32) (off : BitVec 16) (s : State) : Host.Outcome State Fault Refusal :=
  done (onIssue s c (fun s => load s c rd (memAddr s c rs1 off) 2 (BitVec.ofNat 64)))

def execLwu (c : Fin 16) (rd rs1 : Fin 32) (off : BitVec 16) (s : State) : Host.Outcome State Fault Refusal :=
  done (onIssue s c (fun s => load s c rd (memAddr s c rs1 off) 4 (BitVec.ofNat 64)))

def execSb (c : Fin 16) (rs2 rs1 : Fin 32) (off : BitVec 16) (s : State) : Host.Outcome State Fault Refusal :=
  flowDone (settle (onIssue s c (fun s => store s c (memAddr s c rs1 off) (getT s c.val rs2) 1)))

def execSh (c : Fin 16) (rs2 rs1 : Fin 32) (off : BitVec 16) (s : State) : Host.Outcome State Fault Refusal :=
  flowDone (settle (onIssue s c (fun s => store s c (memAddr s c rs1 off) (getT s c.val rs2) 2)))

def execSw (c : Fin 16) (rs2 rs1 : Fin 32) (off : BitVec 16) (s : State) : Host.Outcome State Fault Refusal :=
  flowDone (settle (onIssue s c (fun s => store s c (memAddr s c rs1 off) (getT s c.val rs2) 4)))

def execSd (c : Fin 16) (rs2 rs1 : Fin 32) (off : BitVec 16) (s : State) : Host.Outcome State Fault Refusal :=
  flowDone (settle (onIssue s c (fun s => store s c (memAddr s c rs1 off) (getT s c.val rs2) 8)))

end Sys2Proof.Machine
end

