-- ==== Sys2Proof/Machine/System.lean ====
section
/-! DEFINITION. Control and status registers, events, waiting, messages, tides and counters, the register space, and the
system instructions of a core (spec/04 R105 to R109, R132 to R159; spec/05 R181 to R183). -/

namespace Sys2Proof.Machine

/-! ### Control and status registers (R108, R139) -/

/-- The level events of R139: MSG, MOVE, RESERVE, FREELOW. -/
def levelEvents (s : State) (n : Nat) : Nat :=
  let q := (s.core n).queue
  b2n (decide (q ≠ [])) + 2 * b2n (q.any (fun e => decide (e.kind = 2))) +
    2 ^ 7 * b2n ((List.range 24).any (rsvLow s)) + 2 ^ 8 * b2n ((List.range 24).any (freeLow s))

/-- EVPEND: the latched events, and the level events whose condition holds and which have not been cleared in this paludier clock. -/
def evView (s : State) (n : Nat) : DWord :=
  let c := s.core n
  let off := if c.evOff.1 = s.clock / CLK then c.evOff.2 else 0
  c.evpend ||| (BitVec.ofNat 64 (levelEvents s n) &&& ~~~ off)

/-- Bits of EVPEND are cleared; a level whose condition holds is set again in the next paludier clock. -/
def evClear (s : State) (n : Nat) (m : DWord) : State :=
  let c := s.core n
  let off := if c.evOff.1 = s.clock / CLK then c.evOff.2 else 0
  s.setCore n { c with evpend := c.evpend &&& ~~~ m, evOff := (s.clock / CLK, off ||| m) }

/-- At the end of a paludier clock a level event whose condition holds is latched, and stays when the condition ends (R139). -/
def latchLevels (s : State) (n : Nat) : State :=
  let v := evView s n
  if v = (s.core n).evpend then s else s.setCore n { s.core n with evpend := v }

def mvBusy (s : State) (n : Nat) : Nat := (List.range 8).foldl (fun a k => a + b2n (slotBusy s n k) * 2 ^ k) 0

def qStat (s : State) (n : Nat) : Nat :=
  let q := (s.core n).queue
  q.length % 128 + 128 * b2n (q.any (fun e => decide (e.kind = 2)))

/-- The value of a CSR. -/
def csrRead (s : State) (n csr : Nat) : DWord :=
  let c := s.core n
  match csr with
  | 0 => c.status
  | 1 => c.epc
  | 2 => c.cause
  | 3 => c.tval
  | 4 => c.tvec
  | 5 => BitVec.ofNat 64 (n + n / 4 * 2 ^ 4 + s.devId * 2 ^ 6)
  | 6 => evView s n
  | 7 => c.ptag
  | 8 => c.wdog
  | 9 => BitVec.ofNat 64 ((s.clock - max c.since s.mode.resetAt) / CLK)
  | 10 => BitVec.ofNat 64 c.instret
  | 11 => BitVec.ofNat 64 (mvBusy s n)
  | 12 => BitVec.ofNat 64 (qStat s n)
  | _ => c.scratch

/-- A write of a CSR. PL changes by traps and ERET only (R105); what the device reports ignores writes. -/
def csrWrite (s : State) (n csr : Nat) (v : DWord) : State :=
  let c := s.core n
  match csr with
  | 0 => s.setCore n { c with status := setFld c.status 2 1 (fld v 2 1) }
  | 1 => s.setCore n { c with epc := v }
  | 2 => s.setCore n { c with cause := v &&& 0xFF#64 }
  | 3 => s.setCore n { c with tval := v }
  | 4 => s.setCore n { c with tvec := v }
  | 6 => evClear s n v
  | 7 => s.setCore n { c with ptag := v &&& 0xFFF#64 }
  | 8 => s.setCore n { c with wdog := v &&& 0xFFFFFFFF#64, wdogAt := s.clock }
  | 13 => s.setCore n { c with scratch := v }
  | _ => s

/-- The CSRs that owner level may read, and the one it may write. -/
def ownerReads (csr : Nat) : Bool := decide (csr ∈ [0, 5, 6, 7, 9, 10, 11, 12])
def ownerWrites (csr : Nat) : Bool := decide (csr = 6)

/-- The illegal-instruction trap (R112, R158). -/
def illegal (s : State) (c : Fin 16) (word : Nat) : State := coreTrap s c.val 0 word

def execCsrr (c : Fin 16) (rd : Fin 32) (csr : Fin 32) (s : State) : Host.Outcome State Fault Refusal :=
  done (onIssue s c (fun s =>
    let w := xword rd 0 0 4 csr.val
    if 14 ≤ csr.val then illegal s c w
    else if supervisor s c.val || ownerReads csr.val then writeRd s c rd (csrRead s c.val csr.val)
    else privilege s c w))

def execCsrw (c : Fin 16) (rs1 : Fin 32) (csr : Fin 32) (s : State) : Host.Outcome State Fault Refusal :=
  done (onIssue s c (fun s =>
    let w := xword 0 rs1 0 5 csr.val
    if 14 ≤ csr.val then illegal s c w
    else if supervisor s c.val || ownerWrites csr.val then nextPc (csrWrite s c.val csr.val (getT s c.val rs1)) c
    else privilege s c w))

/-- The paludier clock in which the watchdog reaches 0: WDOG × 1,024 paludier clocks after the last reload (R109). -/
def wdogDue (c : Core) : Nat := c.wdogAt / CLK + 1024 * c.wdog.toNat

/-- WATCHDOG_EXPIRY. -/
def watchdog (s : State) (n : Nat) : State :=
  let c := s.core n
  if c.wdog ≠ 0 ∧ wdogDue c ≤ s.clock / CLK then
    raise (s.setCore n { c with wdogAt := s.clock }) (Src.core n 2)
  else s

def execWatchdogExpiry (c : Fin 16) (s : State) : Host.Outcome State Fault Refusal :=
  atDue (.watchdogExpiry c) CLK (if (s.core c.val).wdog = 0 then .none else some (wdogDue (s.core c.val))) s
    (fun s => done (if s.inReset then s else watchdog s c.val))

/-! ### Waiting (R140 to R142) -/

def holdIssue (s : State) (n : Nat) (w : CoreWait) : State := s.setCore n { s.core n with wait := some w }

/-- An event ends a wait: rd takes the selected events, which are cleared. -/
def takeEvents (s : State) (c : Fin 16) (rd : Fin 32) (m : DWord) : State :=
  let e := evView s c.val &&& m
  writeRd (evClear s c.val m) c rd e

def evAny (s : State) (n : Nat) (m : DWord) : Bool := decide (evView s n &&& m ≠ 0)

def execWait (c : Fin 16) (rd rs1 rs2 : Fin 32) (s : State) : Host.Outcome State Fault Refusal :=
  done (onIssue s c (fun s =>
    let m := getT s c.val rs1
    let k := (getT s c.val rs2).toNat
    if evAny s c.val m then takeEvents s c rd m
    else holdIssue s c.val (.events rd m (if k = 0 then .none else some (s.clock / CLK + k)))))

def execWaitt (c : Fin 16) (rd rs1 rs2 : Fin 32) (s : State) : Host.Outcome State Fault Refusal :=
  done (onIssue s c (fun s =>
    let t := (getT s c.val rs1).toNat
    let m := getT s c.val rs2
    if evAny s c.val m then takeEvents s c rd m
    else if t ≤ s.tide then writeRd s c rd 0
    else holdIssue s c.val (.tide rd t m)))

/-- WAIT_EVENT_WAKE. -/
def waitWake (s : State) (c : Fin 16) : State :=
  match (s.core c.val).wait with
  | some (.events rd m _) => if evAny s c.val m then takeEvents s c rd m else s
  | _ => s

/-- WAIT_TIMEOUT: the count has passed; an event in the same clock is taken (R13). -/
def waitExpire (s : State) (c : Fin 16) : State :=
  match (s.core c.val).wait with
  | some (.events rd m (some t)) =>
    if s.clock / CLK < t then s else if evAny s c.val m then takeEvents s c rd m else writeRd s c rd 0
  | _ => s

def waittWake (s : State) (c : Fin 16) : State :=
  match (s.core c.val).wait with
  | some (.tide rd _ m) => if evAny s c.val m then takeEvents s c rd m else s
  | _ => s

def waittReach (s : State) (c : Fin 16) : State :=
  match (s.core c.val).wait with
  | some (.tide rd t m) =>
    if s.tide < t then s else if evAny s c.val m then takeEvents s c rd m else writeRd s c rd 0
  | _ => s

/-- The paludier clock in which a wait expires, once it is known: a tide is reached in the clock in which TIDE_NOW stands at it. -/
def waitDue (s : State) (n : Nat) : Option Nat :=
  match (s.core n).wait with
  | some (.events _ _ u) => u
  | some (.tide _ t _) => if t ≤ s.tide then some (s.clock / CLK) else .none
  | _ => .none

/-- A core that is not stopped goes on. -/
def goesOn (s : State) (n : Nat) : Bool :=
  !s.inReset && !(s.core n).halted && (!(s.core n).restartHeld || (s.core n).wait.isSome)

def onGoing (s : State) (c : Fin 16) (f : State → State) : State := if goesOn s c.val then f s else s

def execWaitEventWake (c : Fin 16) (s : State) : Host.Outcome State Fault Refusal :=
  done (onGoing s c (fun s => waitWake s c))
def execWaitTimeout (c : Fin 16) (s : State) : Host.Outcome State Fault Refusal :=
  atDue (.waitTimeout c) CLK (waitDue s c.val) s (fun s => done (onGoing s c (fun s => waitExpire s c)))
def execWaittEventWake (c : Fin 16) (s : State) : Host.Outcome State Fault Refusal :=
  done (onGoing s c (fun s => waittWake s c))
def execWaittTideReached (c : Fin 16) (s : State) : Host.Outcome State Fault Refusal :=
  atDue (.waittTideReached c) CLK (waitDue s c.val) s (fun s => done (onGoing s c (fun s => waittReach s c)))

/-- At the end of a paludier clock a wait whose expiry falls in it ends, with the events of that clock if there are some (R140,
R141). -/
def waitEnd (s : State) (n : Nat) : State :=
  if goesOn s n ∧ waitDue s n = some (s.clock / CLK) then
    waittReach (waitExpire s (Fin.ofNat 16 n)) (Fin.ofNat 16 n)
  else s

/-! ### Tides and counters (R143, R144) -/

def execTide (c : Fin 16) (rd : Fin 32) (s : State) : Host.Outcome State Fault Refusal :=
  done (onIssue s c (fun s => writeRd s c rd (BitVec.ofNat 64 s.tide)))

/-- The counter that CNTR names; a number with no counter gives 0. -/
def cntr (s : State) (a : DWord) (snap : Bool) : DWord :=
  BitVec.ofNat 64 (smGet 0 (if snap then s.tel.snap else s.tel.cnt) (a.toNat % 2 ^ 11) % 2 ^ 48)

/-- An operand breaks an obligation for which no response is stated: nothing is done, and rd takes a free value (R7). -/
def freeResult (s : State) (c : Fin 16) (rd : Fin 32) : State :=
  writeRd s.draw c rd (BitVec.ofNat 64 (Config.freeNat s.fresh))

def execCntr (c : Fin 16) (rd rs1 : Fin 32) (snap : Bool) (s : State) : Host.Outcome State Fault Refusal :=
  done (onIssue s c (fun s =>
    let a := getT s c.val rs1
    if 2 ^ 11 ≤ a.toNat then freeResult s c rd else writeRd s c rd (cntr s a snap)))

/-! ### Messages (R133 to R138) -/

/-- 64 B of local memory at an address that is a multiple of 64, as eight 8 B accesses; or the cause and the value of the
trap. -/
def lineLoad (s : State) (n a : Nat) : Except (Nat × Nat) Line :=
  if a % 64 ≠ 0 then .error (3, a)
  else if 0x40000 ≤ a then .error (4, a)
  else
    (List.range 8).foldl (fun (r : Except (Nat × Nat) Line) k =>
      match r with
      | .error e => .error e
      | .ok l =>
        match coreLoad s n .load (a + 8 * k) 8 with
        | .ok v => .ok (l ||| BitVec.ofNat 512 (v * 2 ^ (64 * k)))
        | .error 9 => .error (9, match placeOf s n .load (a + 8 * k) 8 with
            | some p => badWordAt s n p (a + 8 * k) 8
            | .none => a)
        | .error e => .error (e, a)) (.ok 0)

/-- 64 B stored in local memory, when the core may store to all of it. -/
def lineStore (s : State) (n a : Nat) (l : Line) : Except (Nat × Nat) State :=
  if a % 64 ≠ 0 then .error (3, a)
  else if 0x40000 ≤ a then .error (4, a)
  else if (List.range 8).any (fun k => (placeOf s n .store (a + 8 * k) 8).isNone) then .error (4, a)
  else .ok ((List.range 8).foldl (fun s k =>
    match placeOf s n .store (a + 8 * k) 8 with
    | some p => placeWrite s n p 8 (fld l (64 * k + 63) (64 * k))
    | .none => s) s)

def memTrap (s : State) (n : Nat) (e : Nat × Nat) : State :=
  if e.1 = 9 then parityTrap s n e.2 else coreTrap s n e.1 e.2

/-- MSG frames of the cores of a quadrant that wait for a slot (R135): the quadrant's outbound buffer. -/
def outbound (s : State) (q : Nat) : Nat :=
  (s.pool.launch.filter (fun l => decide (l.frame.ty = 2 ∧ l.frame.txid / 4 = q))).length

/-- The destination can be sent to: 0; its core is not READY: 1; its device is no member of the pool: 2 (R136, R161). In RISE and in
SAFE with POOL not READY the answer is 2 as well: R161 says what is needed there and not the answer (DESIGN CHOICE, log entry 204). -/
def sendStatus (s : State) (dev core : Nat) : Nat :=
  if dev = s.devId then (if readyCore s core then 0 else 1)
  else if !inPool s || !isMember s dev || decide (s.code = Mode.test) || (decide (s.code = Mode.rise ∨ s.code = Mode.safe) && !readyPool s) then 2
  else 0

/-- A SEND completes, is refused, or stalls (R135, R136). -/
def sendTry (s : State) (c : Fin 16) (rd : Fin 32) (dev core : Nat) (data : Line) : State :=
  let n := c.val
  let r := sendStatus s dev core
  let sent (s : State) : State := writeRd (tick s (bCore n) 5 1) c rd 0
  if r ≠ 0 then writeRd s c rd (BitVec.ofNat 64 (2 ^ 63 + r))
  else if dev = s.devId then
    if msgCount (s.core core) < 56 then
      sent (s.setCore core ((s.core core).enqueue (s.clock / CLK) { kind := 0, snd := n, sdev := s.devId, score := n, spl := supervisor s n, data := data }))
    else holdIssue s n (.send rd dev core data)
  else if outbound s (n / 4) < 16 then
    sent (launchOn s { ty := 2, dest := dev, opcode := core + 16 * b2n (supervisor s n), txid := n, data := data } 2 .none)
  else holdIssue s n (.send rd dev core data)

/-- SEND. A destination with a bit of rs1[63:14] set breaks R134. -/
def execSend (c : Fin 16) (rd rs1 rs2 : Fin 32) (s : State) : Host.Outcome State Fault Refusal :=
  done (onIssue s c (fun s =>
    let d := (getT s c.val rs1).toNat
    match lineLoad s c.val (getT s c.val rs2).toNat with
    | .error e => memTrap s c.val e
    | .ok l =>
      if 2 ^ 14 ≤ d then freeResult s c rd else sendTry s c rd (d / 16) (d % 16) l))

def sendRelease (s : State) (c : Fin 16) : State :=
  match (s.core c.val).wait with
  | some (.send rd dev core data) => sendTry s c rd dev core data
  | _ => s

def execSendStallRelease (c : Fin 16) (s : State) : Host.Outcome State Fault Refusal :=
  done (onGoing s c (fun s => sendRelease s c))

/-- The descriptor of a queue entry (R138). -/
def descriptor (e : QEntry) : DWord :=
  BitVec.ofNat 64 (b2n e.spl * 2 ^ 16 + e.kind % 4 * 2 ^ 14 + e.sdev % 1024 * 2 ^ 4 + e.score % 16)

def execRecv (c : Fin 16) (rd rs1 : Fin 32) (s : State) : Host.Outcome State Fault Refusal :=
  done (onIssue s c (fun s =>
    let a := (getT s c.val rs1).toNat
    match (s.core c.val).queue with
    | [] => if a % 64 ≠ 0 then coreTrap s c.val 3 a else writeRd s c rd (BitVec.ofNat 64 (2 ^ 63))
    | e :: _ =>
      match lineStore s c.val a e.data with
      | .error x => memTrap s c.val x
      | .ok s => writeRd (tick (popQueue s c.val) (bCore c.val) 6 1) c rd (descriptor e)))

/-! ### The register space (R150 to R152, R185) -/

/-- The path of a core at its present level (R107). -/
def corePath (s : State) (c : Fin 16) : Path := .core c (!supervisor s c.val)

/-- A refused access of a core: "register access refused" and the trap (R51). -/
def regTrap (s : State) (c : Fin 16) (write : Bool) (off : Nat) : State :=
  refuse s (corePath s c) write off

/-- A read that reaches the fabric. -/
def rgrRead (s : State) (c : Fin 16) (rd : Fin 32) (off : Nat) : State :=
  let p := corePath s c
  match isIdxData (canonOff off) with
  | some n =>
    let s := holdIssue s c.val (.window rd n)
    let (s, v) := rdIdxData s p n (some rd)
    match v with
    | some v => writeRd s c rd (v.zeroExtend 64)
    | .none => s
  | .none =>
    let (s, v) := readPlain s p (canonOff off)
    writeRd s c rd (v.zeroExtend 64)

def execRgr (c : Fin 16) (rd rs1 : Fin 32) (s : State) : Host.Outcome State Fault Refusal :=
  flowDone (onIssue s c (fun s =>
    let off := (getT s c.val rs1).toNat
    if off % 4 ≠ 0 then coreTrap s c.val 3 off
    else if 2 ^ 26 ≤ off then freeResult s c rd
    else if readRefused s (corePath s c) (canonOff off) then regTrap s c false off
    else if (s.core c.val).posted = [] then rgrRead s c rd off
    else holdIssue s c.val (.rgr rd off)))

/-- A set-held register, whose RGW an armed shadow set refuses (R185). -/
def isSetHeld (off : Nat) : Bool := match regDesc off with | some d => d.setHeld | .none => false

def execRgw (c : Fin 16) (rs1 rs2 : Fin 32) (s : State) : Host.Outcome State Fault Refusal :=
  done (onIssue s c (fun s =>
    let off := (getT s c.val rs1).toNat
    let p := corePath s c
    if off % 4 ≠ 0 then coreTrap s c.val 3 off
    else if 2 ^ 26 ≤ off then nextPc s c
    else if writeRefused s p (canonOff off) || flashBarred s p (canonOff off) then regTrap s c true off
    else if isSetHeld (canonOff off) && setArmed s then coreTrap s c.val 5 off
    else
      let k := s.core c.val
      nextPc (s.setCore c.val { k with
        posted := k.posted ++ [(off, BitVec.ofNat 32 (getT s c.val rs2).toNat, !supervisor s c.val)] }) c))

/-- The oldest posted write reaches the fabric; an RGR behind it goes on once none is left. -/
def rgwApply (s : State) (c : Fin 16) : State :=
  let k := s.core c.val
  match k.posted with
  | [] => s
  | (off, v, o) :: r =>
    let s := s.setCore c.val { k with posted := r }
    let s := (applyWrite s (.core c o) off v).1
    match (s.core c.val).wait with
    | some (.rgr rd off) => if (s.core c.val).posted = [] then rgrRead s c rd off else s
    | _ => s

def execRgwApplied (c : Fin 16) (s : State) : Host.Outcome State Fault Refusal :=
  access s (fun s => rgwApply s c)

/-! ### FENCE, SETARM (R153, R157) -/

/-- The posted work that FENCE selects is done; 0 selects all three. -/
def fenceDone (s : State) (n sel : Nat) : Bool :=
  let on (k : Nat) : Bool := decide (sel = 0) || sel.testBit k
  (!on 0 || decide ((s.core n).posted = [])) &&
    (!on 1 || !s.pool.launch.any (fun l => decide (l.frame.ty = 2 ∧ l.frame.txid = n))) &&
    (!on 2 || !anySlotBusy s n)

def execFence (c : Fin 16) (sel : Fin 8) (s : State) : Host.Outcome State Fault Refusal :=
  done (onIssue s c (fun s => if fenceDone s c.val sel.val then nextPc s c else holdIssue s c.val (.fence sel.val)))

def fenceRelease (s : State) (c : Fin 16) : State :=
  match (s.core c.val).wait with
  | some (.fence sel) => if fenceDone s c.val sel then nextPc s c else s
  | _ => s

def execFenceRelease (c : Fin 16) (s : State) : Host.Outcome State Fault Refusal :=
  done (onGoing s c (fun s => fenceRelease s c))

def execSetarm (c : Fin 16) (rd : Fin 32) (s : State) : Host.Outcome State Fault Refusal :=
  done (onIssue s c (fun s => supervised s c (xword rd 0 0 0x1C 0) (fun s =>
    let (s, r) := armSet s
    writeRd s c rd (BitVec.ofNat 64 r))))

/-! ### Traps and returns (R154 to R158) -/

/-- A trap whose EPC is pc + 4. -/
def trapNext (s : State) (n cause tval : Nat) : State :=
  tick (takeTrap s n cause ((s.core n).pc + 4) (BitVec.ofNat 64 tval)) (bCore n) 4 1

def execTrap (c : Fin 16) (code : BitVec 10) (s : State) : Host.Outcome State Fault Refusal :=
  done (onIssue s c (fun s => trapNext s c.val 6 code.toNat))

/-- HALT: at supervisor level the core stops, READY; at owner level it takes the HALT trap. -/
def execHalt (c : Fin 16) (s : State) : Host.Outcome State Fault Refusal :=
  done (onIssue s c (fun s =>
    if supervisor s c.val then
      let s := nextPc s c
      raise (s.setCore c.val { s.core c.val with halted := true }) (Src.core c.val 3)
    else trapNext s c.val 7 0))

/-- ERET: pc from EPC, PL from PPL, INTRAP 0. -/
def execEret (c : Fin 16) (s : State) : Host.Outcome State Fault Refusal :=
  done (onIssue s c (fun s => supervised s c (xword 0 0 0 3 0) (fun s =>
    let s := nextPc s c
    let k := s.core c.val
    s.setCore c.val { k with pc := k.epc, status := setBit (setBit k.status 0 (bit k.status 1)) 2 false })))

/-! ### Illegal instructions (R112, R145) -/

/-- The funcs of opcode 0x00. -/
def aluFuncs : List Nat :=
  [0, 1, 2, 3, 4, 5, 6, 7, 8, 9, 0xA, 0xB, 0xC, 0xD, 0x10, 0x11, 0x12, 0x14, 0x15, 0x16, 0x17, 0x20, 0x21, 0x22]

/-- An X-format word that names no instruction, or sets a field that must be zero. -/
def illegalX (w : Word) : Bool :=
  let rd := fld w 25 21
  let rs1 := fld w 20 16
  let rs2 := fld w 15 11
  let arg := fld w 4 0
  match fld w 10 5 with
  | 0x00 => decide (rd ≠ 0 ∨ rs1 ≠ 0 ∨ rs2 ≠ 0 ∨ 8 ≤ arg)
  | 0x01 => decide (rd ≠ 0 ∨ arg ≠ 0)
  | 0x02 => decide (rd ≠ 0 ∨ rs1 ≠ 0 ∨ rs2 ≠ 0 ∨ arg ≠ 0)
  | 0x03 => decide (rd ≠ 0 ∨ rs1 ≠ 0 ∨ rs2 ≠ 0 ∨ arg ≠ 0)
  | 0x04 => decide (rs1 ≠ 0 ∨ rs2 ≠ 0 ∨ 14 ≤ arg)
  | 0x05 => decide (rd ≠ 0 ∨ rs2 ≠ 0 ∨ 14 ≤ arg)
  | 0x08 => decide (arg ≠ 0)
  | 0x09 => decide (arg ≠ 0)
  | 0x0A => decide (arg ≠ 0)
  | 0x0B => decide (rs2 ≠ 0 ∨ arg ≠ 0)
  | 0x0C => decide (rs2 ≠ 0 ∨ arg ≠ 0)
  | 0x0D => decide (rs2 ≠ 0 ∨ arg ≠ 0)
  | 0x10 => decide (arg ≠ 0)
  | 0x11 => decide (rs2 ≠ 0 ∨ arg ≠ 0)
  | 0x14 => decide (arg ≠ 0)
  | 0x15 => decide (arg ≠ 0)
  | 0x16 => decide (rs1 ≠ 0 ∨ rs2 ≠ 0 ∨ arg ≠ 0)
  | 0x17 => decide (rs2 ≠ 0 ∨ 2 ≤ arg)
  | 0x18 => decide (rs2 ≠ 0 ∨ arg ≠ 0)
  | 0x19 => decide (rd ≠ 0 ∨ arg ≠ 0)
  | 0x1C => decide (rs1 ≠ 0 ∨ rs2 ≠ 0 ∨ arg ≠ 0)
  | _ => true

/-- A word that is an illegal instruction. -/
def illegalWord (w : Word) : Bool :=
  let func := fld w 10 0
  match fld w 31 26 with
  | 0x00 => !aluFuncs.contains func || (decide (0x20 ≤ func) && decide (fld w 15 11 ≠ 0))
  | 0x07 => decide (fld w 15 6 ≠ 0)
  | 0x08 => decide (fld w 15 6 ≠ 0)
  | 0x09 => decide (fld w 15 6 ≠ 0)
  | 0x0A => decide (fld w 20 16 ≠ 0)
  | 0x28 => decide (fld w 20 16 ≠ 0)
  | 0x30 => decide (fld w 10 4 ≠ 0) || (bit w 3 && decide (fld w 1 0 ≠ 3))
  | 0x3F => illegalX w
  | op => !decide ((1 ≤ op ∧ op ≤ 0x0C) ∨ (0x10 ≤ op ∧ op ≤ 0x16) ∨ (0x18 ≤ op ∧ op ≤ 0x1B) ∨ (0x20 ≤ op ∧ op ≤ 0x25))

/-- ILLEGAL_INSTRUCTION: the trap, when the word is one. -/
def execIllegalInstruction (c : Fin 16) (word : Word) (s : State) : Host.Outcome State Fault Refusal :=
  done (onIssue s c (fun s => if illegalWord word then illegal s c word.toNat else s))

/-! ### Restarts (R182, R183) -/

def execCoreRestart (p : Path) (c : Fin 16) (s : State) : Host.Outcome State Fault Refusal :=
  access s (fun s => (applyWrite s p (Reg.PAL_CORECTL c.val) 1#32).1)

/-- A held restart is carried out once every move slot of the core is free, and after a swap the instruction in progress has
ended (R183, R190). -/
def restartDeferred (s : State) (n : Nat) : State :=
  if (s.core n).restartHeld && !anySlotBusy s n && (!(s.core n).atBoundary || (s.core n).wait.isNone) then restartNow s n else s

def execCoreRestartDeferred (c : Fin 16) (s : State) : Host.Outcome State Fault Refusal :=
  access s (fun s => restartDeferred s c.val)

end Sys2Proof.Machine
end

