-- ==== Sys2Proof/Machine/Device.lean ====
section
/-! DEFINITION. The device operations of a core (spec/04 R118 to R132, R145 to R149, R161): page operations, the directory
query, page moves and atomics on pool memory; and the instructions that wait for HOLD exit. -/

namespace Sys2Proof.Machine

/-! ### Page operations and DQRY (R118 to R124, R130 to R132) -/

/-- The request of a page operation of core `c`. -/
def pageReq (s : State) (c : Fin 16) (rd : Fin 32) (k : ReqKind) (id : Nat) (line : Nat) (a b : DWord) : Req :=
  let page := line / 4096
  let tag := pageTag s c.val page
  { mkInternal s id k 0 s.devId line with
    origin := .core c rd, tag := tag, slot := if k = .pprobe ∨ k = .move then tagSlot s tag else .none
    a := a.toNat, b := b.toNat, at_ := s.clock }

/-- In HOLD, what the tier map cache holds is served, and so is DQRY (R161); a PMOV starts a move, which pauses. -/
def heldOp (s : State) (k : ReqKind) (line : Nat) : Bool :=
  holding s && decide (k ≠ .dqry ∧ k ≠ .move) && !mapHit s (line / 4096)

/-- A page operation is issued: in SAFE it is refused; in HOLD it waits, or is served; else it goes to its home slice. -/
def pageIssue (s : State) (i : Instr) (c : Fin 16) (rd : Fin 32) (k : ReqKind) (line : Nat) (a b : DWord) : State :=
  if s.code = Mode.safe then writeRd s c rd (if k = .pprobe then BitVec.ofNat 64 (2 ^ 63) else allOnes)
  else if heldOp s k line then holdIssue s c.val (.hold i)
  else
    let (s, id) := takeId s
    let r := pageReq s c rd k id line a b
    let s := holdIssue s c.val (.page rd id)
    if holding s then enter s r else submit s r

def doTmr (i : Instr) (c : Fin 16) (rd rs1 : Fin 32) (s : State) : State :=
  pageIssue s i c rd .tmr (getT s c.val rs1).toNat 0 0

/-- TMW: rd is compared, rs2 is written. -/
def doTmw (i : Instr) (c : Fin 16) (rd rs1 rs2 : Fin 32) (s : State) : State :=
  pageIssue s i c rd .tmw (getT s c.val rs1).toNat (getT s c.val rs2) (getT s c.val rd)

def doPzero (i : Instr) (c : Fin 16) (rd rs1 : Fin 32) (s : State) : State :=
  pageIssue s i c rd .pzero (getT s c.val rs1).toNat 0 0

def doPprobe (i : Instr) (c : Fin 16) (rd rs1 : Fin 32) (s : State) : State :=
  pageIssue s i c rd .pprobe (getT s c.val rs1).toNat 0 0

def doDqry (i : Instr) (c : Fin 16) (rd rs1 : Fin 32) (s : State) : State :=
  pageIssue s i c rd .dqry ((getT s c.val rs1).toNat / 64 * 64) 0 0

def execTmr (c : Fin 16) (rd rs1 : Fin 32) (s : State) : Host.Outcome State Fault Refusal :=
  flowDone (onIssue s c (doTmr (.tmr c rd rs1) c rd rs1))
def execTmw (c : Fin 16) (rd rs1 rs2 : Fin 32) (s : State) : Host.Outcome State Fault Refusal :=
  flowDone (onIssue s c (doTmw (.tmw c rd rs1 rs2) c rd rs1 rs2))
def execPzero (c : Fin 16) (rd rs1 : Fin 32) (s : State) : Host.Outcome State Fault Refusal :=
  flowDone (onIssue s c (doPzero (.pzero c rd rs1) c rd rs1))
def execPprobe (c : Fin 16) (rd rs1 : Fin 32) (s : State) : Host.Outcome State Fault Refusal :=
  flowDone (onIssue s c (doPprobe (.pprobe c rd rs1) c rd rs1))
def execDqry (c : Fin 16) (rd rs1 : Fin 32) (s : State) : Host.Outcome State Fault Refusal :=
  flowDone (onIssue s c (doDqry (.dqry c rd rs1) c rd rs1))

/-! ### Page moves (R125 to R129) -/

/-- PMOV goes to the page's home slice (R120), which gives the move slot or an error; in SAFE it is refused with 0x06 (R161). -/
def pmovIssue (i : Instr) (c : Fin 16) (rd rs1 rs2 : Fin 32) (s : State) : State :=
  if s.code = Mode.safe then writeRd s c rd (pmovErr 6)
  else pageIssue (tick s (bCore c.val) 7 1) i c rd .move (getT s c.val rs1).toNat 0 (getT s c.val rs2)

def execPmov (c : Fin 16) (rd rs1 rs2 : Fin 32) (s : State) : Host.Outcome State Fault Refusal :=
  flowDone (onIssue s c (pmovIssue (.pmov c rd rs1 rs2) c rd rs1 rs2))

/-! ### Atomics (R145 to R149) -/

/-- The request of an atomic at pool address `a`. -/
def amoReq (s : State) (c : Fin 16) (rd rs2 : Fin 32) (k : ReqKind) (wide : Bool) (id a : Nat) : Req :=
  let dpa := a % 2 ^ 46
  let tag := fld (s.core c.val).ptag 11 0
  { mkInternal s id k 0 (a / 2 ^ 46) (dpa / 64 * 64) with
    origin := .core c rd, tag := tag, slot := tagSlot s tag, sluice := sluiceOf s tag dpa, off := dpa % 64, wide := wide
    a := (getT s c.val rs2).toNat, b := (getT s c.val rd).toNat }

/-- An atomic is issued: misaligned; to no member of the pool, an access trap; in SAFE a poison trap; in HOLD it waits. -/
def doAmo (i : Instr) (c : Fin 16) (rd rs1 rs2 : Fin 32) (k : ReqKind) (w : Bool) (s : State) : State :=
  let a := (getT s c.val rs1).toNat
  let dev := a / 2 ^ 46
  if a % (if w then 4 else 8) ≠ 0 then coreTrap s c.val 3 a
  else if decide (2 ^ 56 ≤ a) || (decide (dev ≠ s.devId) && (!inPool s || !isMember s dev)) then coreTrap s c.val 4 a
  else if s.code = Mode.safe then coreTrap s c.val 8 a
  else if holding s then holdIssue s c.val (.hold i)
  else
    let (s, id) := takeId s
    let r := amoReq s c rd rs2 k (!w) id a
    submit (holdIssue s c.val (.atomic rd id)) r

def execAmoAdd (c : Fin 16) (rd rs1 rs2 : Fin 32) (w : Bool) (s : State) : Host.Outcome State Fault Refusal :=
  flowDone (onIssue s c (doAmo (.amoAdd c rd rs1 rs2 w) c rd rs1 rs2 .amoAdd w))
def execAmoSwp (c : Fin 16) (rd rs1 rs2 : Fin 32) (w : Bool) (s : State) : Host.Outcome State Fault Refusal :=
  flowDone (onIssue s c (doAmo (.amoSwp c rd rs1 rs2 w) c rd rs1 rs2 .amoSwp w))
def execAmoCas (c : Fin 16) (rd rs1 rs2 : Fin 32) (w : Bool) (s : State) : Host.Outcome State Fault Refusal :=
  flowDone (onIssue s c (doAmo (.amoCas c rd rs1 rs2 w) c rd rs1 rs2 .amoCas w))

/-- AMO.MAX, signed or unsigned. -/
def maxKind (u : Bool) : ReqKind := if u then .amoMaxU else .amoMax

def execAmoMax (c : Fin 16) (rd rs1 rs2 : Fin 32) (w u : Bool) (s : State) : Host.Outcome State Fault Refusal :=
  flowDone (onIssue s c (doAmo (.amoMax c rd rs1 rs2 w u) c rd rs1 rs2 (maxKind u) w))

/-! ### HOLD exit (R79, R161, R163) -/

/-- An instruction that waited for HOLD exit is issued anew. -/
def reissue (i : Instr) (s : State) : State :=
  match i with
  | .tmr c rd rs1 => doTmr i c rd rs1 s
  | .tmw c rd rs1 rs2 => doTmw i c rd rs1 rs2 s
  | .pzero c rd rs1 => doPzero i c rd rs1 s
  | .pprobe c rd rs1 => doPprobe i c rd rs1 s
  | .amoAdd c rd rs1 rs2 w => doAmo i c rd rs1 rs2 .amoAdd w s
  | .amoSwp c rd rs1 rs2 w => doAmo i c rd rs1 rs2 .amoSwp w s
  | .amoCas c rd rs1 rs2 w => doAmo i c rd rs1 rs2 .amoCas w s
  | .amoMax c rd rs1 rs2 w u => doAmo i c rd rs1 rs2 (maxKind u) w s
  | _ => s

/-- The instructions of the cores that wait for HOLD exit. -/
def reissueAll (s : State) : List Nat → State
  | [] => s
  | n :: r =>
    let s := match (s.core n).wait with
      | some (.hold i) => reissue i (s.setCore n { s.core n with wait := .none })
      | _ => s
    reissueAll s r

end Sys2Proof.Machine
end

