-- ==== Sys2Proof/Machine/Hold.lean ====
section
/-! DEFINITION. The end of a mode transition and of HOLD exit (spec/03 R73, R79; spec/04 R161; spec/06 R70, R232): what was held
goes on. -/

namespace Sys2Proof.Machine

/-- MODE_TRANSITION_END. When it has left HOLD for SAFE, instructions that waited for HOLD exit go on, and ports train that owe it. -/
def modeTransitionEnd (s : State) : State :=
  let was := s.code
  let s := transitionEnd s
  if was = Mode.hold ∧ s.code ≠ Mode.hold then reissueAll (trainOwedAll s (List.range 64)) coreList else s

def execModeTransitionEnd (s : State) : Host.Outcome State Fault Refusal := flowDone (modeTransitionEnd s)

/-- HOLD exit ends: the channels have left self-refresh, a frequency change made in HOLD counts for D (R433), ports train that
owe it (R232), and requests and instructions that were held go on. -/
def holdExit (s : State) : State :=
  match s.mode.trans with
  | .none => s
  | some t =>
    if t.kind ≠ 2 then s
    else
      let s := endTrans (selfRefreshAll s false (List.range 24)) t
      let s := { s with mode := { s.mode with holdFrom := .none, limitOwed := false } }
      let s := trainOwedAll (takeRates s) (List.range 64)
      reissueAll (admitAll (releaseHeld s)) coreList

def execHoldExitComplete (s : State) : Host.Outcome State Fault Refusal := flowDone (holdExit s)

end Sys2Proof.Machine
end

