-- ==== Sys2Proof/Machine/Mailbox.lean ====
section
/-! DEFINITION. The mailbox commands (spec/06 R222 to R228): the standard commands and the Galaux vendor commands. -/

namespace Sys2Proof.Machine

/-! ### Issuers and answers -/

/-- The number under which an issuer's state stands: its logical device, 256 + p for the FM-owned LD of bifurcated port p, 1000
for the sideband path. -/
def issuerKey : Issuer → Nat
  | .ld l => l.val
  | .fm p => 256 + p.val
  | .sideband => 1000

/-- The logical device of an issuer, the FM-owned LDs among them. -/
def issuerLd : Issuer → Option Nat
  | .ld l => some l.val
  | .fm p => some (256 + p.val)
  | .sideband => .none

/-- A mailbox command. A device held in reset gives no answer; while firmware does not run, every command is Unsupported
(R599). -/
def mailbox (s : State) (m : Issuer) (body : State → State) : State :=
  if s.inReset then s else if firmwareRuns s then body s else reply s m rcUnsupported []

/-- A standard command of a logical device's mailbox: Unsupported on the sideband path. -/
def ldMailbox (s : State) (m : Issuer) (body : Nat → State → State) : State :=
  mailbox s m (fun s => match issuerLd m with
    | some l => body l s
    | .none => reply s m rcUnsupported [])

/-- A command of the FM-owned LDs and of the sideband path. -/
def fmMailbox (s : State) (m : Issuer) (body : State → State) : State :=
  mailbox s m (fun s => match m with
    | .ld _ => reply s m rcUnsupported []
    | _ => body s)

/-- A background command starts, unless one runs (R228). -/
def background (s : State) (m : Issuer) (opcode : Nat) (body : State → State) : State :=
  if s.port.bg.isSome then reply s m rcBusy []
  else
    let s := body { s with port := { s.port with bg := some (issuerKey m, opcode) } }
    if s.port.bg.isSome then reply s m rcBackground [] else reply s m rcBusy []

/-- Records of one size that an answer's payload of 2 KiB holds (R222); the input fields that name later ones are not described. -/
def payload (size : Nat) (l : List Nat) : List Nat := l.take (2048 / size * size)

/-! ### Events (R584, R585) -/

/-- The vendor data of a record (R584). -/
def recordBytes35 (r : EvRec) : List Nat :=
  natBytes 2 r.src ++ natBytes 1 r.cls ++ natBytes 8 r.tide ++
    (if r.cap = [] then List.replicate 24 0 else r.cap.flatMap (fun w => natBytes 4 w.toNat))

/-- The records of one answer: as many of 128 B as a payload of 2 KiB holds after its header of 32 B (PRESUMED). -/
def recordsMax : Nat := 15

/-- Flags (overflow, more), the count, the vendor data of the records. -/
def eventOut (s : State) (ld log : Nat) : List Nat :=
  let l := smGet [] s.evt.logs (4 * ld + log)
  let n := min l.length recordsMax
  (b2n (s.evt.full.contains (4 * ld + log)) + 2 * b2n (decide (recordsMax < l.length))) :: natBytes 2 n ++
    (l.take n).flatMap recordBytes35

def execGetEventRecords (m : Issuer) (log : Fin 4) (s : State) : Host.Outcome State Fault Refusal :=
  done (ldMailbox s m (fun ld s => reply s m rcSuccess (eventOut s ld log)))

/-- The oldest records go, and with them the overflow indication. -/
def clearEvents (s : State) (m : Issuer) (ld log count : Nat) : State :=
  let k := 4 * ld + log
  let l := smGet [] s.evt.logs k
  if l.length < count then reply s m rcHandle []
  else if count = 0 then reply s m rcSuccess []
  else
    reply { s with evt := { s.evt with
      logs := smSet [] s.evt.logs k (l.drop count), full := s.evt.full.filter (fun x => decide (x ≠ k)) } } m rcSuccess []

def execClearEventRecords (m : Issuer) (log : Fin 4) (count : Nat) (s : State) : Host.Outcome State Fault Refusal :=
  done (ldMailbox s m (fun ld s => clearEvents s m ld log count))

def execGetEventInterruptPolicy (m : Issuer) (s : State) : Host.Outcome State Fault Refusal :=
  done (ldMailbox s m (fun ld s => reply s m rcSuccess (natBytes 5 (smGet 0 s.evt.policy ld))))

def execSetEventInterruptPolicy (m : Issuer) (policy : Nat) (s : State) : Host.Outcome State Fault Refusal :=
  done (ldMailbox s m (fun ld s =>
    reply { s with evt := { s.evt with policy := smSet 0 s.evt.policy ld policy } } m rcSuccess []))

/-! ### Firmware update (R686 to R690) -/

/-- Two slots, the active and the staged one (1 A, 2 B; 0 none), online activation; the revisions are the images'. -/
def fwInfo (s : State) : List Nat :=
  let act := 1 + b2n (s.bit Reg.PAL_FWSTAT 23)
  let stg := if s.bit Reg.PAL_FWSTAT 25 then 1 + b2n (s.bit Reg.PAL_FWSTAT 22) else 0
  [2, act + 8 * stg, 1] ++ Config.cxlPayload 0x0200 s.fresh

def execGetFwInfo (m : Issuer) (s : State) : Host.Outcome State Fault Refusal :=
  done (ldMailbox s m (fun _ s => reply s.draw m rcSuccess (fwInfo s)))

/-- A part of an image goes into the inactive NOR slot, which PREF does not name. -/
def transferFw (s : State) (m : Issuer) (slot : Bool) (off : Nat) (data : List Byte) : State :=
  if b2n slot ≠ idleImage s then reply s m rcSlot []
  else if 0x400000 < off + data.length then reply s m rcInvalid []
  else if fwBusy s then reply s m rcBusy []
  else reply (putNor s (norSlot (b2n slot) + off) data) m rcSuccess []

def execTransferFw (m : Issuer) (slot : Bool) (off : Nat) (data : List Byte) (s : State) : Host.Outcome State Fault Refusal :=
  done (ldMailbox s m (fun _ s => transferFw s m slot off data))

/-- Activation of the inactive slot: CMD 1, and online HOLD, CMD 2 and HOLD exit (R690). -/
def activateFw (s : State) (m : Issuer) (slot online : Bool) : State :=
  if b2n slot ≠ idleImage s then reply s m rcSlot []
  else background s m 0x0202 (fun s => stageStart s (if online then 1 else 2))

def execActivateFw (m : Issuer) (slot : Bool) (online : Bool) (s : State) : Host.Outcome State Fault Refusal :=
  done (ldMailbox s m (fun _ s => activateFw s m slot online))

/-! ### Timestamp, logs, identity -/

/-- The timestamp in nanoseconds: as set, and the core clocks of 0.4 ns since; 0 until it is set. -/
def timestampNow (s : State) (ld : Nat) : Nat :=
  let x := s.logDev ld
  if x.timestamp = 0 then 0 else x.timestamp + (s.clock - x.stampedAt) * 2 / 5

def execGetTimestamp (m : Issuer) (s : State) : Host.Outcome State Fault Refusal :=
  done (ldMailbox s m (fun ld s => reply s m rcSuccess (natBytes 8 (timestampNow s ld))))

def execSetTimestamp (m : Issuer) (ns : Nat) (s : State) : Host.Outcome State Fault Refusal :=
  done (ldMailbox s m (fun ld s =>
    reply (s.setLogDev ld { s.logDev ld with timestamp := ns % 2 ^ 64, stampedAt := s.clock }) m rcSuccess []))

/-- The commands of R222 and R223 by opcode (the numbers of the standard ones are PRESUMED, the CXL specification's). -/
def supportedOpcodes : List Nat :=
  [0x0100, 0x0101, 0x0102, 0x0103, 0x0200, 0x0201, 0x0202, 0x0300, 0x0301, 0x0400, 0x0401, 0x4000, 0x4300, 0x4301, 0x4302,
   0x4303, 0x4304, 0x4305, 0x4800, 0x4801, 0x4802, 0x4803, 0x5400, 0x5401, 0xC000, 0xC001, 0xC002, 0xC003, 0xC004]

def execGetSupportedLogs (m : Issuer) (s : State) : Host.Outcome State Fault Refusal :=
  done (ldMailbox s m (fun _ s => reply s.draw m rcSuccess (2 :: Config.cxlPayload 0x0400 s.fresh)))

/-- The command effects log lists the supported commands; the vendor debug log holds the records of the LOG service. -/
def logOut (s : State) (vendor : Bool) : List Nat :=
  if vendor then payload 64 (s.sets.log.flatMap (fun l => natBytes 64 l.toNat)) else supportedOpcodes.flatMap (natBytes 2)

def execGetLog (m : Issuer) (vendor : Bool) (s : State) : Host.Outcome State Fault Refusal :=
  done (ldMailbox s m (fun _ s => reply s m rcSuccess (logOut s vendor)))

/-- Volatile capacity 0, and the dynamic capacity of the one region. -/
def execIdentifyMemoryDevice (m : Issuer) (s : State) : Host.Outcome State Fault Refusal :=
  done (ldMailbox s m (fun _ s => reply s m rcSuccess (natBytes 8 0 ++ natBytes 8 (2 ^ 50))))

/-! ### Poison and media (R546 to R549) -/

/-- The DPA lines of the valid RAKE_UEn records and of the rake's markings. -/
def poisonLines (s : State) : List Nat :=
  (List.range 16).filterMap (fun n =>
    if s.bit (Reg.RAKE_UE_HI n) 31 then
      some (s.fld (Reg.RAKE_UE_HI n) 13 0 * 2 ^ 32 + s.fld (Reg.RAKE_UE_LO n) 31 6 * 64) else .none) ++ s.rake.marked

def execGetPoisonList (m : Issuer) (s : State) : Host.Outcome State Fault Refusal :=
  done (ldMailbox s m (fun _ s => reply s m rcSuccess (payload 8 ((poisonLines s).flatMap (natBytes 8)))))

/-- A line write of a mailbox command, in the terms of the alias window that the decoded address names. -/
def poisonWrite (s : State) (ld line : Nat) (data : Line) (poison : Bool) : State :=
  let dpa := line % 2 ^ 46 / 64 * 64
  let e := tagres s ld (line / 2 ^ 46 % 16)
  let tag := e % 4096
  let (dev, l) := poolTarget s dpa
  let (s, id) := takeId s
  submit s { id := id, origin := .agent 7, kind := .memWr, dev := dev, line := l, tag := tag
             slot := if e.testBit 31 && e.testBit 29 then tagSlot s tag else ldSlot s ld
             sluice := sluiceOf s tag dpa, data := data, mask := 0, poison := poison, hdmh := false
             off := 0, wide := false, a := 0, b := 0 }

/-- Clear Poison writes the line that the command carries, inside the logical device's capacity and a writable window. -/
def clearPoison (s : State) (m : Issuer) (ld line : Nat) (data : Line) : State :=
  let e := tagres s ld (line / 2 ^ 46 % 16)
  if 256 ≤ ld ∨ !e.testBit 31 ∨ e.testBit 30 ∨ !inExtent s ld (line % 2 ^ 46) ∨ s.code = Mode.safe then reply s m rcInvalid []
  else reply (poisonWrite s ld line data false) m rcSuccess []

def execClearPoison (m : Issuer) (line : Nat) (data : Line) (s : State) : Host.Outcome State Fault Refusal :=
  flowDone (ldMailbox s m (fun ld s => clearPoison s m ld line data))

/-- Inject Poison runs in TEST only. -/
def injectPoison (s : State) (m : Issuer) (ld line : Nat) : State :=
  if s.code ≠ Mode.test then reply s m rcUnsupported []
  else reply (poisonWrite s ld line 0 true) m rcSuccess []

def execInjectPoison (m : Issuer) (line : Nat) (s : State) : Host.Outcome State Fault Refusal :=
  flowDone (ldMailbox s m (fun ld s => injectPoison s m ld line))

def execGetScanMediaCapabilities (m : Issuer) (s : State) : Host.Outcome State Fault Refusal :=
  done (ldMailbox s m (fun _ s => reply s.draw m rcSuccess (Config.cxlPayload 0x4303 s.fresh)))

/-- The rake over the pages of a range of DPAs. -/
def scanMedia (s : State) (m : Issuer) (first last : Nat) : State :=
  if last < first ∨ 2 ^ 46 ≤ last then reply s m rcInvalid []
  else if s.bit Reg.RAKE_STAT 31 then reply s m rcBusy []
  else background s m 0x4304 (fun s =>
    let s := (s.setF Reg.RAKE_FIRST_LO 31 12 (first / 4096)).setF Reg.RAKE_FIRST_HI 13 0 (first / 2 ^ 32)
    let s := (s.setF Reg.RAKE_LAST_LO 31 12 (last / 4096)).setF Reg.RAKE_LAST_HI 13 0 (last / 2 ^ 32)
    rakeStart s)

def execScanMedia (m : Issuer) (first : Nat) (last : Nat) (s : State) : Host.Outcome State Fault Refusal :=
  done (ldMailbox s m (fun _ s => scanMedia s m first last))

/-- The rake's status and counters, and its lines. -/
def scanOut (s : State) : List Nat :=
  [Reg.RAKE_STAT, Reg.RAKE_CORR, Reg.RAKE_UNC, Reg.RAKE_POIS, Reg.RAKE_SKIP].flatMap (fun r => natBytes 4 (s.reg r).toNat) ++
    (payload 8 ((poisonLines s).flatMap (natBytes 8))).take 2024

def execGetScanMediaResults (m : Issuer) (s : State) : Host.Outcome State Fault Refusal :=
  done (ldMailbox s m (fun _ s => reply s m rcSuccess (scanOut s)))

/-! ### Dynamic capacity (R197, R199, R217) -/

/-- One region a logical device, DPA 0 to 2^50 - 1, in blocks of 256 MiB. -/
def execGetDcConfiguration (m : Issuer) (s : State) : Host.Outcome State Fault Refusal :=
  done (ldMailbox s m (fun _ s => reply s m rcSuccess ([1] ++ natBytes 8 0 ++ natBytes 8 (2 ^ 50) ++ natBytes 8 (2 ^ 28))))

/-- The accepted extents of a logical device. -/
def extentOut (s : State) (ld : Nat) : List Nat :=
  payload 16 ((s.port.ext.filter (fun e => decide (e.2.ld = ld ∧ 2 ≤ e.2.state))).flatMap
    (fun e => natBytes 8 e.2.start ++ natBytes 8 (e.2.blocks * 2 ^ 28)))

def execGetDcExtentList (m : Issuer) (s : State) : Host.Outcome State Fault Refusal :=
  done (ldMailbox s m (fun ld s => reply s m rcSuccess (extentOut s ld)))

/-- The response takes effect on the clock after it, and a reset of its clock goes before it (R219, R220). -/
def execAddDcResponse (ld : Fin 256) (start : Nat) (blocks : Nat) (accept : Bool) (s : State) :
    Host.Outcome State Fault Refusal :=
  atEnd (.addDcResponse ld start blocks accept) s (fun s =>
    done (mailbox s (.ld ld) (fun s => addResponse s ld start blocks accept)))

def execReleaseDc (ld : Fin 256) (start : Nat) (blocks : Nat) (s : State) : Host.Outcome State Fault Refusal :=
  atEnd (.releaseDc ld start blocks) s (fun s => done (mailbox s (.ld ld) (fun s => releaseDc s ld start blocks)))

/-! ### FM API -/

/-- The logical devices that an FM issuer sees: those of its bifurcated port, or all of the device's. -/
def fmScope (s : State) : Issuer → List Nat
  | .fm p => ldsOfPort s p.val
  | _ => (List.range 256).filter (fun l => (ldPort s l).isSome)

/-- Get LD Info: the memory size, taken as the exposed DPA space (DESIGN CHOICE, log entry 209), and the number of logical devices. -/
def execGetLdInfo (m : Issuer) (s : State) : Host.Outcome State Fault Refusal :=
  done (fmMailbox s m (fun s => reply s m rcSuccess (natBytes 8 (2 ^ 46) ++ natBytes 2 (fmScope s m).length)))

/-- Get LD Allocations reports extents: logical device, first DPA, blocks. -/
def allocOut (s : State) (lds : List Nat) : List Nat :=
  payload 14 ((s.port.ext.filter (fun e => decide (e.2.state ≠ 0) && lds.contains e.2.ld)).flatMap
    (fun e => natBytes 2 e.2.ld ++ natBytes 8 e.2.start ++ natBytes 4 e.2.blocks))

def execGetLdAllocations (m : Issuer) (s : State) : Host.Outcome State Fault Refusal :=
  done (fmMailbox s m (fun s => reply s m rcSuccess (allocOut s (fmScope s m))))

/-- Any other command. A command of the tables has a row of its own. -/
def execMailboxUnsupported (m : Issuer) (opcode : Nat) (s : State) : Host.Outcome State Fault Refusal :=
  done (mailbox s m (fun s => if supportedOpcodes.contains opcode then s else reply s m rcUnsupported []))

/-! ### GLX Load Image (R171, R172, R223 to R225) -/

/-- Issuers of 0xC000 and 0xC002: LD 0 of a port with write access, the FM-owned LDs, the sideband path. -/
def mayLoad (s : State) : Issuer → Bool
  | .ld l => (match ldPlace s l.val with
      | some (_, id) => decide (id = 0) && s.bit Reg.GEN_HOSTACC (l.val / 16)
      | .none => false)
  | _ => true

def loadMailbox (s : State) (m : Issuer) (body : State → State) : State :=
  mailbox s m (fun s => if mayLoad s m then body s else reply s m rcUnsupported [])

def endStaging (s : State) : State := { s with sets := { s.sets with staging := .none } }

/-- A chunk carries 1 to 2,040 bytes. -/
def chunkOk (data : List Byte) : Bool := decide (1 ≤ data.length ∧ data.length ≤ 2040)

/-- A start claims the staging region; a staged firmware image is discarded (R687). -/
def loadStart (s : State) (m : Issuer) (data : List Byte) : State :=
  let busy := match s.sets.staging with
    | some g => decide (g.path ≠ issuerKey m) || g.ended
    | .none => fwBusy s
  if busy then reply s m rcBusy []
  else if !chunkOk data then reply s m rcInvalid []
  else
    let s := { s with
      sets := { s.sets with staging := some { path := issuerKey m, bytes := data, clock := s.clock, ended := false } }
      sec := { s.sec with staged := .none } }
    reply (s.setBit Reg.PAL_FWSTAT 25 false) m rcSuccess []

def execGlxLoadImageStart (m : Issuer) (data : List Byte) (s : State) : Host.Outcome State Fault Refusal :=
  done (loadMailbox s m (fun s => loadStart s m data))

/-- A later chunk: it joins the image when it comes from the claim's path, in order, and the image stays within 4 MiB. A chunk with
no claim held, or of a length that R223 does not allow, is Invalid Input and ends nothing (DESIGN CHOICE, log entry 208). -/
def loadChunk (s : State) (m : Issuer) (off : Nat) (data : List Byte) (body : Staging → State → State) : State :=
  match s.sets.staging with
  | .none => reply s m rcInvalid []
  | some g =>
    if g.path ≠ issuerKey m ∨ g.ended then reply s m rcBusy []
    else if !chunkOk data then reply s m rcInvalid []
    else if off ≠ g.bytes.length ∨ 0x400000 < off + data.length then reply (endStaging s) m rcInvalid []
    else body { g with bytes := g.bytes ++ data, clock := s.clock } s

def execGlxLoadImageData (m : Issuer) (off : Nat) (data : List Byte) (s : State) : Host.Outcome State Fault Refusal :=
  done (loadMailbox s m (fun s => loadChunk s m off data (fun g s =>
    reply { s with sets := { s.sets with staging := some g } } m rcSuccess [])))

/-- The last chunk starts the load of R171 as a background command. -/
def loadEnd (s : State) (m : Issuer) (g : Staging) : State :=
  background s m 0xC000 (fun s =>
    { s.setBit Reg.PAL_LOADSTAT 31 true with sets := { s.sets with staging := some { g with ended := true } } })

def execGlxLoadImageEnd (m : Issuer) (off : Nat) (data : List Byte) (s : State) : Host.Outcome State Fault Refusal :=
  done (loadMailbox s m (fun s => loadChunk s m off data (fun g s => loadEnd s m g)))

/-- An owner image in the shadow bank of a core: the payload, then BSSSZ zeros, with fresh parity. -/
def bankLoad (s : State) (b : List Byte) (n : Nat) : State :=
  let h := imgHdr b
  let body := imgPayload b ++ List.replicate (hdrNat h 28 4) 0
  let img : Image := { hdr := h, sigs := imgSigs b }
  let c := s.core n
  let first := if activeB s then 0x10000 / 4 else 0x28000 / 4
  let c := { c with bad := c.bad.filter (fun w => decide (w < first ∨ first + (body.length + 3) / 4 ≤ w)) }
  s.setCore n (if activeB s then { c with bankA := putList c.bankA 0 body, imgA := some img }
    else { c with bankB := putList c.bankB 0 body, imgB := some img })

def bankLoads (s : State) (b : List Byte) : List Nat → State
  | [] => s
  | n :: r => bankLoads (bankLoad s b n) b r

/-- A table image in the shadow view of its table; of a live table that view is its one copy (R173; DEDUCED, log entry 66). -/
def tableLoad (s : State) (b : List Byte) : State :=
  match claims (imgHdr b) with
  | t :: _ =>
    if tableLive t then { s with sets := { s.sets with live := putList s.sets.live (tabKey t 0) (imgPayload b) } }
    else { s with sets := { s.sets with
      shadow := putList s.sets.shadow (tabKey t 0) (imgPayload b)
      filled := if s.sets.filled.contains t then s.sets.filled else s.sets.filled ++ [t]
      imgTabSh := smSet .none s.sets.imgTabSh t (some (imgSvn (imgHdr b))) } }
  | [] => s

/-- An accepted image goes into the shadow set. -/
def imagePlace (s : State) (b : List Byte) : State :=
  if imgKind (imgHdr b) = 1 then bankLoads s b (bitsOf 16 0 (imgCores (imgHdr b))) else tableLoad s b

/-- The load ends (R171, R172, R195): its result, "image rejected" on failure, the notice to every core. -/
def loadComplete (s : State) : State :=
  match s.sets.staging with
  | .none => s
  | some g =>
    if !g.ended then s
    else
      let r := if setArmed s || committed s then 5 else loadResult (imageCheck s false g.bytes)
      let s := endStaging s
      let s := { s with port := { s.port with bg := .none } }
      let s := s.setReg Reg.PAL_LOADSTAT (BitVec.ofNat 32 (r * 2 ^ 28 + imgCores (imgHdr g.bytes)))
      let s := if r = 0 then imagePlace s g.bytes else raise s Src.imageRejected
      noticeAll s 3 (s.reg Reg.PAL_LOADSTAT).toNat coreList

def execImageLoadComplete (s : State) : Host.Outcome State Fault Refusal := done (loadComplete s)

/-- A claim lapses 10 s after its last chunk (R224). -/
def stagingLapse (s : State) : State :=
  match s.sets.staging with
  | .none => s
  | some g => if !g.ended && decide (g.clock + 10 * secClocks ≤ s.clock) then endStaging s else s

def execStagingClaimLapse (s : State) : Host.Outcome State Fault Refusal :=
  atDue .stagingClaimLapse 1 (s.sets.staging.map (fun g => g.clock + 10 * secClocks)) s (fun s => done (stagingLapse s))

def execGlxGetLoadStatus (m : Issuer) (s : State) : Host.Outcome State Fault Refusal :=
  done (loadMailbox s m (fun s => reply s m rcSuccess (natBytes 4 (s.reg Reg.PAL_LOADSTAT).toNat)))

/-! ### GLX Program Message (R178 to R180, R226) -/

/-- The message as it enters the queue: the device fills PORT and LD (R180); LD is 0 on the sideband path (DESIGN CHOICE, log entry
210). -/
def hostMsgData (msg : Line) (port ld : Nat) : Line := BitVec.ofNat 512 (nset (nset msg.toNat 23 16 port) 31 24 ld)

def programMessage (s : State) (m : Issuer) (c : Fin 16) (msg : Line) : State :=
  let accepts := match activeImage s c with
    | some i => imgHostMsg i.hdr
    | .none => false
  let (port, ld) := match m with
    | .ld l => ((ldPort s l.val).getD 0, l.val)
    | _ => (64, 0)
  match m with
  | .fm _ => reply s m rcUnsupported []
  | _ =>
    if !accepts then reply s m (if 56 ≤ msgCount (s.core c) then rcBusy else rcUnsupported) []
    else if 56 ≤ msgCount (s.core c) then reply s m rcBusy []
    else
      let e : QEntry := { kind := 1, sdev := s.devId, score := 0, spl := false, data := hostMsgData msg port ld }
      let x : HostMsg := { core := c, port := port, ld := ld, seq := fld msg 15 0
                           until_ := s.clock + s.fld Reg.PAL_HMTO 15 0 * usClocks }
      let s := s.setCore c ((s.core c).enqueue (s.clock / CLK) { e with snd := 17 })
      { s with sets := { s.sets with msgs := s.sets.msgs ++ [x] } }

def execGlxProgramMessage (m : Issuer) (c : Fin 16) (msg : Line) (s : State) : Host.Outcome State Fault Refusal :=
  done (mailbox s m (fun s => programMessage s m c msg))

/-- The issuer of an open host message. -/
def msgIssuer (x : HostMsg) : Issuer := if 64 ≤ x.port then .sideband else .ld (Fin.ofNat 256 x.ld)

/-- The open message of a core with a sequence number whose limit has come. -/
def messageDue (s : State) (c seq : Nat) : Option HostMsg :=
  s.sets.msgs.find? (fun x => decide (x.core = c ∧ x.seq = seq ∧ x.until_ ≤ s.clock) && !x.timedOut)

/-- The reply limit elapses: Internal Error with vendor status 1, and the message waits on only for a late reply. -/
def messageTimeout (s : State) (c seq : Nat) : State :=
  match messageDue s c seq with
  | .none => s
  | some x =>
    let s := { s with sets := { s.sets with msgs := s.sets.msgs.erase x ++ [{ x with timedOut := true }] } }
    (s.bump Reg.PAL_HMSTAT 15 0).emit (.mailbox (msgIssuer x) rcInternal 1 [])

def execHostMessageTimeout (c : Fin 16) (seq : Fin 65536) (s : State) : Host.Outcome State Fault Refusal :=
  atDue (.hostMessageTimeout c seq) 1 ((messageDue s c seq).map HostMsg.until_) s (fun s => done (messageTimeout s c seq))

/-! ### GLX Get Alias Layout, GLX Get Readiness (R227) -/

def execGlxGetAliasLayout (m : Issuer) (s : State) : Host.Outcome State Fault Refusal :=
  done (mailbox s m (fun s => match m with
    | .ld l => reply s m rcSuccess (natBytes 64 (s.act 1 (64 * l.val) 64))
    | _ => reply s m rcUnsupported []))

/-- RDY_0 to RDY_7, GEN_SETSRV, GEN_WIPE. -/
def readinessOut (s : State) : List Nat :=
  ((List.range 8).map (fun i => (s.reg (Reg.RDY_0 + 4 * i)).toNat) ++ [(s.reg Reg.GEN_SETSRV).toNat, (genWipe s).toNat]).flatMap
    (natBytes 4)

def execGlxGetReadiness (m : Issuer) (s : State) : Host.Outcome State Fault Refusal :=
  done (mailbox s m (fun s => match m with
    | .fm _ => reply s m rcUnsupported []
    | _ => reply s m rcSuccess (readinessOut s)))

end Sys2Proof.Machine
end

