-- ==== Sys2Proof/Machine/Services.lean ====
section
/-! DEFINITION. The supervisor services that the owner's program calls with TRAP (spec/05 R181; spec/06 R217): firmware carries
a service out in the trap handler, leaves the result in t10 and returns to EPC. -/

namespace Sys2Proof.Machine

/-- Firmware on core `n` handles a call of a service that it has not taken up yet. -/
def serving (s : State) (n code : Nat) : Bool :=
  !s.inReset && readyCore s n && !(s.core n).halted && !(s.core n).restartHeld && decide ((s.core n).wait = .none) &&
    inService s n code

/-- A service: nothing happens unless the core has called it. -/
def service (s : State) (n code : Nat) (body : State → State) : State := if serving s n code then body s else s

/-- 64 bytes of the exchange area (R164); none outside it. -/
def exchangeLine (s : State) (n a : Nat) : Option Line :=
  if 0xC000 ≤ a ∧ a + 64 ≤ 0x10000 then some (BitVec.ofNat 512 (bytesAt (s.core n).lmem a 64)) else .none

/-- The message that a reply answers: the same SEQ, PORT and LD; else the oldest with the same SEQ. -/
def matchMsg (l : List HostMsg) (n : Nat) (r : Line) : Option HostMsg :=
  match l.find? (fun x => decide (x.core = n ∧ x.seq = fld r 15 0 ∧ x.port = fld r 23 16 ∧ x.ld = fld r 31 24)) with
  | some x => some x
  | .none => l.find? (fun x => decide (x.core = n ∧ x.seq = fld r 15 0))

/-- HOSTREPLY: the mailbox command completes with the reply, its status bytes unchanged; a reply after the limit is discarded,
counted, and told to the core (R179). -/
def hostReply (s : State) (n : Nat) : State :=
  match exchangeLine s n (getT s n 10).toNat with
  | .none => serviceReturn s n 1
  | some r =>
    match matchMsg (s.sets.msgs.filter (fun x => !x.timedOut)) n r with
    | some x =>
      let s := { s with sets := { s.sets with msgs := s.sets.msgs.erase x } }
      serviceReturn (s.emit (.mailbox (msgIssuer x) rcSuccess 0 (natBytes 64 r.toNat))) n 0
    | .none =>
      let s := match matchMsg (s.sets.msgs.filter (fun x => x.timedOut)) n r with
        | some x =>
          let s := { s with sets := { s.sets with msgs := s.sets.msgs.erase x } }
          notice (s.bump Reg.PAL_HMSTAT 31 16) n 4 0
        | .none => s
      serviceReturn s n 1

def execHostreply (c : Fin 16) (s : State) : Host.Outcome State Fault Refusal := done (service s c 1 (fun s => hostReply s c))

/-- ARMREQ: firmware executes SETARM on the caller's behalf. -/
def armReq (s : State) (n : Nat) : State := let (s, r) := armSet s; serviceReturn s n r

def execArmreq (c : Fin 16) (s : State) : Host.Outcome State Fault Refusal := done (service s c 2 (fun s => armReq s c))

/-- ABORTREQ. -/
def abortReq (s : State) (n : Nat) : State := let (s, r) := abortSet s; serviceReturn s n r

def execAbortreq (c : Fin 16) (s : State) : Host.Outcome State Fault Refusal := done (service s c 3 (fun s => abortReq s c))

/-- DCDADD. In a mode that issues no add event the service waits (R70). -/
def execDcdadd (c : Fin 16) (s : State) : Host.Outcome State Fault Refusal :=
  done (service s c 4 (fun s => if addsCapacity s then dcdAdd s c else s))

def execDcdrel (c : Fin 16) (s : State) : Host.Outcome State Fault Refusal := done (service s c 5 (fun s => dcdRel s c))

/-- LOG: 64 B of the exchange area join the log. -/
def logService (s : State) (n : Nat) : State :=
  let s := match exchangeLine s n (getT s n 10).toNat with
    | some l => { s with sets := { s.sets with log := s.sets.log ++ [l] } }
    | .none => s
  serviceReturn s n 0

def execLog (c : Fin 16) (s : State) : Host.Outcome State Fault Refusal := done (service s c 6 (fun s => logService s c))

def execSetinfo (c : Fin 16) (s : State) : Host.Outcome State Fault Refusal :=
  done (service s c 7 (fun s => serviceReturn s c (s.reg Reg.PAL_SETSTAT).toNat))

end Sys2Proof.Machine
end

