-- ==== Sys2Proof/Machine/Slots.lean ====
section
/-! DEFINITION. The commands of the slot power controllers (spec/18). -/

namespace Sys2Proof.Machine

/-- The power die acts: it has its supply (R701). -/
def slotLive (s : State) : Bool := !s.slot.dead

/-- A completed SLOT_EN sequence with EN 1 (R640). -/
def execSlotEnable (n : Fin 48) (s : State) : Host.Outcome State Fault Refusal :=
  done (if slotLive s then slotEnable s n else s)

/-- A completed SLOT_EN sequence with EN 0 (R640, R641). -/
def execSlotDisable (n : Fin 48) (s : State) : Host.Outcome State Fault Refusal :=
  done (if slotLive s then slotDisable s n else s)

/-- PG is given in RAMP while the fault timer is stopped (R628, R633). -/
def slotPowerGood (s : State) (n : Nat) : State :=
  let x := s.slotOf n
  if x.state = 2 ∧ x.timer = .none then setSlot s n { x with state := 3, pg := true, powered := true } else s

/-- The condition of PG is judged at the end of its tick, after a fast trip or a timer start of that tick (R633, R636). -/
def execSlotPowerGood (n : Fin 48) (s : State) : Host.Outcome State Fault Refusal :=
  atDue (.slotPowerGood n) slotTick (some (s.clock / slotTick)) s (fun s => done (if slotLive s then slotPowerGood s n else s))

/-- The fault timer starts while the pass FET conducts and the timer is stopped (R630, R632). -/
def timerStart (s : State) (n : Nat) : State :=
  let x := s.slotOf n
  if (x.state = 2 ∨ x.state = 3) ∧ x.timer = .none then setSlot s n { x with timer := some s.clock } else s

def execFaultTimerStart (n : Fin 48) (s : State) : Host.Outcome State Fault Refusal :=
  done (if slotLive s then timerStart s n else s)

/-- "limiting" is false: the timer stops and the early warning clears (R630, R632). -/
def timerStop (s : State) (n : Nat) : State := setSlot s n { s.slotOf n with timer := .none }

def execFaultTimerStop (n : Fin 48) (s : State) : Host.Outcome State Fault Refusal :=
  done (if slotLive s then timerStop s n else s)

/-- The tick in which the running timer expires, FTIME after its start (R622, R630), or that of the timer that an EN ← 0 of this tick has
stopped (R641). -/
def timerDue (s : State) (n : Nat) : Option Nat :=
  let x := s.slotOf n
  (if x.offAt = some (s.clock / slotTick) then x.offTimer else x.timer).map (fun t => t / slotTick + slotFTIME (s.slotOf n) * (msClocks / slotTick))

/-- The timer expires (R630). -/
def timerExpiry (s : State) (n : Nat) : State :=
  match timerDue s n with
  | some t => if t ≤ s.clock / slotTick then slotFault s n 1 else s
  | .none => s

/-- The timer's end gives way to a stop or a fast trip of its tick (R631, R636). -/
def execFaultTimerExpiry (n : Fin 48) (s : State) : Host.Outcome State Fault Refusal :=
  atDue (.faultTimerExpiry n) slotTick (timerDue s n) s (fun s => done (if slotLive s then timerExpiry s n else s))

/-- The current reaches 2 × IMAX (R635). -/
def execFastTrip (n : Fin 48) (s : State) : Host.Outcome State Fault Refusal :=
  done (if slotLive s then slotFault s n 2 else s)

/-- The power-limit count reaches 2,500 in ON (R637, R640). -/
def execPowerLimitTrip (n : Fin 48) (s : State) : Host.Outcome State Fault Refusal :=
  done (if slotLive s ∧ (s.slotOf n).state ≠ 2 then slotFault s n 3 else s)

/-- V_in falls below UVTH (R644, R648). -/
def inputLow (s : State) (n : Nat) : State :=
  let x := s.slotOf n
  if x.low then s else raise (setSlot s n { x with low := true, input := false }) (Src.slot n 2)

/-- V_in below 8.0 V in RAMP or ON (R640). -/
def inputCollapse (s : State) (n : Nat) : State :=
  let s := inputLow s n
  let x := s.slotOf n
  if x.state = 2 ∨ x.state = 3 then setSlot s n (gateOff x 4 1) else s

def execInputCollapse (n : Fin 48) (s : State) : Host.Outcome State Fault Refusal :=
  done (if slotLive s then inputCollapse s n else s)

/-- A feed (0 A, 1 B) or the input (2) has been at or above UVTH for 10 ms (R625); a waiting slot ramps (R640). Feed A is
preferred (R623). -/
def inputGood (s : State) (n w : Nat) : State :=
  let x := s.slotOf n
  if w = 0 then setSlot s n (orDrive { x with feedA := true })
  else if w = 1 then setSlot s n (orDrive { x with feedB := true })
  else if x.low then s
  else setSlot s n { x with input := true, state := if x.state = 1 then 2 else x.state }

def execInputGood (n : Fin 48) (w : Fin 3) (s : State) : Host.Outcome State Fault Refusal :=
  done (if slotLive s then inputGood s n w else s)

/-- A feed (0 A, 1 B) is lost: its FET turns off and the other good feed supplies the slot (R623, R625). With no good feed
left, or when the input itself falls (2), V_in is below UVTH and the slot warning asserts (R644). -/
def feedLost (s : State) (n w : Nat) : State :=
  let x := s.slotOf n
  if w = 0 then
    let s := raise (setSlot s n (orDrive { x with feedA := false })) (Src.slot n 3)
    if x.feedB then s else inputLow s n
  else if w = 1 then
    let s := raise (setSlot s n (orDrive { x with feedB := false })) (Src.slot n 3)
    if x.feedA then s else inputLow s n
  else inputLow s n

def execFeedLost (n : Fin 48) (w : Fin 3) (s : State) : Host.Outcome State Fault Refusal :=
  done (if slotLive s then feedLost s n w else s)

/-- V_in returns above UVTH: the warning clears (R644). -/
def execInputAboveUvth (n : Fin 48) (s : State) : Host.Outcome State Fault Refusal :=
  done (if slotLive s then setSlot s n { s.slotOf n with low := false } else s)

/-- Reverse current turns a feed's ORing gate off (R624); with FET A off, a good feed B conducts (R623). -/
def reverseOff (s : State) (n : Nat) (b : Bool) : State :=
  let x := s.slotOf n
  raise (setSlot s n (if b then { x with onB := false } else { x with onA := false, onB := x.onB || (x.onA && x.feedB) })) (Src.slot n 3)

def execReverseCurrentTurnoff (n : Fin 48) (b : Bool) (s : State) : Host.Outcome State Fault Refusal :=
  done (if slotLive s then reverseOff s n b else s)

/-- RDLY ends in FAULTOFF (R639, R640). -/
def retryEnd (s : State) (n : Nat) : State :=
  let x := s.slotOf n
  match x.delay with
  | .none => s
  | some t =>
    if x.state = 4 ∧ t / slotTick ≤ s.clock / slotTick then
      if (slotRetries s x).length < 3 then
        setSlot s n { x with delay := .none, retries := slotRetries s x ++ [s.clock], state := if x.input then 2 else 1 }
      else raise (setSlot s n { x with delay := .none, state := 5 }) (Src.slot n 1)
    else s

def execRetryDelayEnd (n : Fin 48) (s : State) : Host.Outcome State Fault Refusal :=
  done (if slotLive s then retryEnd s n else s)

end Sys2Proof.Machine
end

