-- ==== Sys2Proof/Machine/Spdm.lean ====
section
/-! DEFINITION. Attestation (spec/17 R603 to R606) and IDE key programming (spec/06 R197). What an SPDM message of the standard
carries beside what spec/ gives is a value without a body; response and error codes are PRESUMED, the SPDM specification's. -/

namespace Sys2Proof.Machine

def spdmSay (s : State) (m : Issuer) (code : Nat) (out : List Nat) : State := s.emit (.spdm m code out)

/-- An SPDM failure is raised on its transport (R233, R619): DOE on the bifurcated port of the issuer, or the sideband path. -/
def spdmFailed (s : State) (m : Issuer) : State :=
  match m with
  | .sideband => raise s Src.spdmSideband
  | .fm p => raiseHost s (p.val / 4) 16 { sub := some p.val }
  | .ld l => raiseHost s (l.val / 16) 16 { sub := ldPort s l.val, ld := some l.val, mkind := 1 }

/-- ERROR with an error code: 1 invalid request, 4 unexpected request, 10 session limit, 11 session required; it counts as an SPDM
failure (DESIGN CHOICE, log entry 233). -/
def spdmError (s : State) (m : Issuer) (e : Nat) : State := spdmFailed (spdmSay s m 0x7F [e]) m

/-- Firmware answers SPDM; before it runs nothing does. -/
def spdm (s : State) (body : State → State) : State := if firmwareRuns s then body s else s

/-- An answer whose contents the SPDM specification gives. -/
def spdmStd (s : State) (m : Issuer) (code : Nat) : State := spdmSay s.draw m code (Config.spdm code s.fresh)

/-- An answer signed by the Alias key (R602); before the key is derived there is none to sign. -/
def spdmSigned (s : State) (m : Issuer) (code : Nat) : State :=
  let out := Config.spdm code s.fresh
  let sig := match s.sec.aliasKey with
    | some d => Config.ecdsaSign d (out.map (BitVec.ofNat 8)) s.fresh
    | .none => []
  spdmSay s.draw m code (out ++ sig.map BitVec.toNat)

/-- Versions 1.0 to 1.3. -/
def execSpdmGetVersion (m : Issuer) (s : State) : Host.Outcome State Fault Refusal :=
  done (spdm s (fun s => spdmSay s m 0x04 [0x10, 0x11, 0x12, 0x13]))

def execSpdmGetCapabilities (m : Issuer) (s : State) : Host.Outcome State Fault Refusal :=
  done (spdm s (fun s => spdmStd s m 0x61))

/-- ECDSA P-384, SHA-384, secp384r1, AES-256-GCM: the one set offered. -/
def execSpdmNegotiateAlgorithms (m : Issuer) (s : State) : Host.Outcome State Fault Refusal :=
  done (spdm s (fun s => spdmStd s m 0x63))

/-! ### Certificates (R603, R605) -/

def certPlace (slot : Nat) : Nat := 0x2000 + 14336 * slot

/-- A slot holds a chain: slot 0 unless the certificate does not match, an owner slot once one is stored. -/
def certStored (s : State) (slot : Nat) : Bool :=
  if slot = 0 then !s.sec.certBad else decide (norBytes s (certPlace slot) 4 ≠ List.replicate 4 0xFF)

def certMask (s : State) : Nat := (List.range 4).foldl (fun a k => a + b2n (certStored s k) * 2 ^ k) 0

/-- The chain of a slot: for slot 0 the Galaux chain of the store, then the Alias certificate of this boot; else the owner chain. -/
def certChain (s : State) (slot : Nat) : List Nat :=
  (norBytes s (certPlace slot) 14336 ++ (if slot = 0 then s.sec.aliasCert else [])).map BitVec.toNat

/-- The slots that hold a chain, and a digest for each. -/
def execSpdmGetDigests (m : Issuer) (s : State) : Host.Outcome State Fault Refusal :=
  done (spdm s (fun s => spdmSay s m 0x01 (certMask s :: ((List.range 4).filter (certStored s)).flatMap
    (fun k => (Config.sha384 ((certChain s k).map (BitVec.ofNat 8))).map BitVec.toNat))))

def execSpdmGetCertificate (m : Issuer) (slot : Fin 4) (s : State) : Host.Outcome State Fault Refusal :=
  done (spdm s (fun s => if certStored s slot then spdmSay s m 0x02 (slot.val :: certChain s slot) else spdmError s m 1))

def execSpdmChallenge (m : Issuer) (s : State) : Host.Outcome State Fault Refusal := done (spdm s (fun s => spdmSigned s m 0x03))

/-! ### Measurements (R606) -/

def digest (b : List Byte) : List Nat := (Config.sha384 b).map BitVec.toNat

/-- The headers of the active owner images, P0 to P15. -/
def ownerHeaders (s : State) : List Byte :=
  coreList.flatMap (fun n => match activeImage s n with
    | some i => i.hdr
    | .none => List.replicate 128 0)

/-- The active set-held tables in table-number order. -/
def heldTables (s : State) : List Byte :=
  [1, 2, 3, 4, 5, 6].flatMap (fun t => toBytes (tableSize t) (s.act t 0 (tableSize t)))

/-- Block 6, raw: set generation and membership generation. -/
def genBlock (s : State) : List Nat := natBytes 4 (setGen s) ++ natBytes 2 (s.fld Reg.POOL_STAT 15 0)

/-- The six blocks, as they stand now. -/
def measurements (s : State) : List Nat :=
  digest Config.bootRom ++ digest s.sec.boot2 ++ digest s.sec.runHdr ++ digest (ownerHeaders s) ++ digest (heldTables s) ++
    genBlock s

def execSpdmGetMeasurements (m : Issuer) (s : State) : Host.Outcome State Fault Refusal :=
  done (spdm s (fun s => spdmSay s m 0x60 (measurements s)))

/-! ### Sessions (R604) -/

def setSessions (s : State) (l : List Session) : State := { s with sec := { s.sec with sessions := l } }

/-- The issuer has an established session. -/
def inSession (s : State) (m : Issuer) : Bool := s.sec.sessions.any (fun x => decide (x.who = m) && x.open_)

/-- KEY_EXCHANGE: at most 16 sessions at once. -/
def keyExchange (s : State) (m : Issuer) : State :=
  if 16 ≤ s.sec.sessions.length then spdmError s m 10
  else spdmSigned (setSessions s (s.sec.sessions ++ [{ who := m, open_ := false }])) m 0x64

def execSpdmKeyExchange (m : Issuer) (s : State) : Host.Outcome State Fault Refusal := done (spdm s (fun s => keyExchange s m))

/-- The issuer's first session that is not established is. -/
def openFirst (m : Issuer) : List Session → List Session
  | [] => []
  | x :: r => if x.who = m ∧ !x.open_ then { x with open_ := true } :: r else x :: openFirst m r

def sessionFinish (s : State) (m : Issuer) : State :=
  if s.sec.sessions.any (fun x => decide (x.who = m) && !x.open_) then
    spdmStd (setSessions s (openFirst m s.sec.sessions)) m 0x65
  else spdmError s m 4

def execSpdmFinish (m : Issuer) (s : State) : Host.Outcome State Fault Refusal := done (spdm s (fun s => sessionFinish s m))

/-- A request inside a session; without one an error. -/
def sessionOnly (s : State) (m : Issuer) (body : State → State) : State :=
  if inSession s m then body s else spdmError s m 11

def execSpdmHeartbeat (m : Issuer) (s : State) : Host.Outcome State Fault Refusal :=
  done (spdm s (fun s => sessionOnly s m (fun s => spdmStd s m 0x68)))

def execSpdmKeyUpdate (m : Issuer) (s : State) : Host.Outcome State Fault Refusal :=
  done (spdm s (fun s => sessionOnly s m (fun s => spdmStd s m 0x69)))

def dropFirst (m : Issuer) : List Session → List Session
  | [] => []
  | x :: r => if x.who = m ∧ x.open_ then r else x :: dropFirst m r

def execSpdmEndSession (m : Issuer) (s : State) : Host.Outcome State Fault Refusal :=
  done (spdm s (fun s => sessionOnly s m (fun s => spdmStd (setSessions s (dropFirst m s.sec.sessions)) m 0x6C)))

/-- GET_CSR and SET_CERTIFICATE: in PROVISIONED or DEPLOYED, inside a session, by the sideband path or by LD 0 of a port with
write access (R605). -/
def mayCertify (s : State) (m : Issuer) : Bool :=
  decide (lcState s = 2 ∨ lcState s = 3) && inSession s m && (match m with
    | .fm _ => false
    | _ => mayLoad s m)

def execSpdmGetCsr (m : Issuer) (s : State) : Host.Outcome State Fault Refusal :=
  done (spdm s (fun s => if mayCertify s m then spdmSigned s m 0x6D else spdmError s m 4))

/-- An owner chain must end in the DeviceID or the Alias public key (R605). -/
def chainOk (s : State) (chain : List Byte) : Bool :=
  decide (idPublic s = some (Config.chainKey chain) ∨ s.sec.aliasKey.map Config.p384 = some (Config.chainKey chain))

/-- An owner chain is stored in slots 1 to 3 when it ends in the DeviceID or the Alias key. -/
def setCertificate (s : State) (m : Issuer) (slot : Nat) (chain : List Byte) : State :=
  if !mayCertify s m then spdmError s m 4
  else if slot = 0 ∨ 14336 < chain.length ∨ !chainOk s chain then spdmError s m 1
  else
    let s := putNor s (certPlace slot) (chain ++ List.replicate (14336 - chain.length) 0xFF)
    spdmSay s m 0x6E [slot]

def execSpdmSetCertificate (m : Issuer) (slot : Fin 4) (chain : List Byte) (s : State) : Host.Outcome State Fault Refusal :=
  done (spdm s (fun s => setCertificate s m slot chain))

def execSpdmChunkSend (m : Issuer) (s : State) : Host.Outcome State Fault Refusal := done (spdm s (fun s => spdmStd s m 0x05))
def execSpdmChunkGet (m : Issuer) (s : State) : Host.Outcome State Fault Refusal := done (spdm s (fun s => spdmStd s m 0x06))

/-! ### IDE_KM (R197) -/

/-- The bifurcated port of an issuer on DOE. -/
def issuerPort (s : State) : Issuer → Option Nat
  | .ld l => ldPort s l.val
  | .fm p => some p.val
  | .sideband => .none

/-- IDE keys programmed over a session, or the error that programming them met. CXL IDE works in 256 B flit mode only (R197). -/
def ideKm (s : State) (m : Issuer) (stream : IdeStream) (ok : Bool) : State :=
  match issuerPort s m with
  | .none => s
  | some p =>
    if !inSession s m then spdmError s m 11
    else if ok && ((s.subp p).flit256 || decide (stream = .link)) then
      spdmStd (s.setSubp p (match stream with
        | .containment => { s.subp p with ide := 1 }
        | .skid => { s.subp p with ide := 2 }
        | .link => { s.subp p with ioIde := true })) m 0xFE
    else raiseHost s (p / 4) 12 { sub := some p, ld := (match m with | .ld l => some l.val | _ => .none), mkind := 1 }

def execIdeKmMessage (m : Issuer) (ok : IdeStream × Bool) (s : State) : Host.Outcome State Fault Refusal :=
  done (spdm s (fun s => ideKm s m ok.1 ok.2))

end Sys2Proof.Machine
end

