-- ==== Sys2Proof/Machine/Tick.lean ====
section
/-! DEFINITION. One core clock in which no command waits: the clock, the tide (R511, R715), the counters that count clocks
(R665 to R669), and work that goes on by itself. -/

namespace Sys2Proof.Machine

/-! ### The tide (R511, R513, R715) -/

/-- One core clock of the tide: a tide is 4 core clocks; a slew lengthens or shortens one by a core clock. -/
def tideTick (s : State) : State :=
  if !s.tideU.pll then s
  else if s.tideU.phase < 3 then { s with tideU := { s.tideU with phase := s.tideU.phase + 1 } }
  else if canSlew s && decide (0 < s.tideU.err) then
    tick { s with tideU := { s.tideU with err := s.tideU.err - 16, slew := s.tide } } bTide 1 1
  else
    let s := s.setTide (s.tide + 1)
    if canSlew s && decide (s.tideU.err < 0) then
      tick { s with tideU := { s.tideU with phase := 1, err := s.tideU.err + 16, slew := s.tide } } bTide 1 1
    else { s with tideU := { s.tideU with phase := 0 } }

/-! ### Slot accounting (R668, R669) -/

/-- A unit behind admission that blocks slice `h`: memory, home, or a key slot. -/
def blockedMemory (s : State) (h : Nat) : Bool :=
  paused s || s.coh.txns.any (fun t => decide (sliceOf t.req = h ∧ t.phase = .wq))
def blockedHome (s : State) (h : Nat) : Bool :=
  !hasRoom s { mkInternal s 0 .memRdCur 0 s.devId 0 with line := h * 4096 } ||
    s.coh.chain.any (fun r => decide (sliceOf r = h))

/-- The slice holds a request that is not red. -/
def holdsRequest (s : State) (h : Nat) : Bool :=
  s.coh.chain.any (fun r => decide (sliceOf r = h)) ||
    s.coh.ingress.any (fun r => decide (sliceOf r = h ∧ reqColour s r ≠ .red))

def blockedKey (s : State) (h : Nat) : Bool :=
  s.coh.ingress.any (fun r => decide (sliceOf r = h) && slotChanging s r)
/-- URGR holds an amber request of the slice. -/
def blockedUrgr (s : State) (h : Nat) : Bool :=
  s.coh.ingress.any (fun r => decide (sliceOf r = h ∧ reqColour s r = .amber) && urgrHolds s r)

/-- The two slots that a pipeline offers in a clock. -/
def pipeTick (s : State) (p : Nat) : State :=
  let h := p / 2
  let retired := smGet 0 s.coh.slots (16 * p + 1)
  let wasted := smGet 0 s.coh.slots (16 * p + 2)
  let empty := 2 - retired - wasted
  let back := holdsRequest s h && (blockedMemory s h || blockedHome s h || blockedKey s h || blockedUrgr s h)
  let b := bPipe p
  let s := tick (tick (tick s b 0 2) b 1 retired) b 2 wasted
  let s := tick s b 7 (smGet 0 s.coh.slots (16 * p + 7))
  if back then
    let s := tick s b 4 empty
    if blockedMemory s h then tick s b 5 empty else if blockedHome s h then tick s b 6 empty else s
  else tick s b 3 empty

/-! ### Counters that count clocks (R665) -/

/-- A core whose instruction holds issue, once in each paludier clock. -/
def coreTick (s : State) (n : Nat) : State :=
  match (s.core n).wait with
  | .none => s
  | some (.events _ _ _) => tick s (bCore n) 3 1
  | some (.tide _ _ _) => tick s (bCore n) 3 1
  | some _ => tick s (bCore n) 2 1

/-- A host port with a request in its input queue. -/
def portTick (s : State) (n : Nat) : State :=
  if s.coh.ingress.any (fun r => match r.origin with
    | .host ld _ => decide (ld / 16 = n)
    | _ => false) then tick s (bHost n) 7 1 else s

def chanTick (s : State) (c : Nat) : State :=
  if (s.chan c).selfRef || decide ((s.chan c).warn ≠ []) then tick s (bChan c) 7 1 else s

def homeTick (s : State) (h : Nat) : State :=
  let s := tick s (bHome h) 7 (openCount s h)
  let s := if urgc s h then tick s (bXbar h) 5 1 else s
  let s := if s.slu.urgL.contains h || (List.range 16).any (fun k => s.slu.urgP.contains (16 * h + k)) then tick s (bXbar h) 6 1 else s
  if paused s then tick s (bXbar h) 7 1 else s

/-- Flits of the die-to-die links and flits replayed on the ports: what the link layers see is not described; free values. -/
def linkTick (s : State) : State :=
  let f (k : Nat) : Nat := Config.freeNat (s.fresh + k)
  let s := (List.range 12).foldl (fun s k => tick s (136 + k / 4) (k % 4) (f k)) s
  { (List.range 16).foldl (fun s n => tick s (bHost n) 6 (f (12 + n))) s with fresh := s.fresh + 28 }

def countClock (s : State) : State :=
  let s := (List.range 8).foldl pipeTick s
  let s := (List.range 4).foldl homeTick s
  let s := (List.range 24).foldl chanTick s
  let s := (List.range 16).foldl portTick s
  let s := if s.clock % CLK = 0 then (List.range 16).foldl coreTick s else s
  linkTick s

/-! ### Firmware's answer to an unassigned service code (R181) -/

/-- A core whose trap handler stands at its first instruction with a service code that spec/05 does not assign. -/
def unassigned (s : State) (n : Nat) : Bool :=
  let c := s.core n
  issues s n && firmwareRuns s && bit c.status 2 && !bit c.status 1 && decide (c.cause = 6#64) &&
    decide (c.pc = setFld c.tvec 1 0 0) && !decide (1 ≤ c.tval.toNat ∧ c.tval.toNat ≤ 7)

def serveUnassigned (s : State) (n : Nat) : State :=
  if unassigned s n then serviceReturn s n (2 ^ 64 - 1) else s

/-! ### Parity rebuild (R413) -/

/-- A running rebuild moves its frontier on by what the other traffic leaves: a free number of bursts, none or one in a core clock. -/
def rebuildTick (s : State) (c : Nat) : State :=
  match (s.chan c).rebuild with
  | .none => s
  | some f =>
    if s.bit (Reg.DMC_PARREB c) 30 && readyChan s c then
      let n := 2 ^ log2c s c / 64
      let g := min (n - 1) (f + Config.freeNat s.fresh % 2)
      (charge (tick (s.draw.setChan c { s.chan c with rebuild := some g }) bSweep 6 (g - f)) false 254 (g - f) .amber).setF (Reg.DMC_PARREB c) 9 0 (g * 1024 / n)
    else s

/-- Channels accept the reads that wait for them, and rebuilds go on. -/
def chansGo (s : State) : State :=
  (List.range 24).foldl (fun s c => acceptRead (rebuildTick s c) c) s

/-! ### What begins with a tide -/

/-- In the first clock of a tide what is due there takes effect, in the order of the tides (R515): the swap, membership changes, after a
swap of the same tide (R188, R521), the tide alarm, behind the latch of a snapshot (R670); then the window of the sluices opens, and refresh windows begin (R398, R425, R439). -/
def tideWork (s : State) : State :=
  let s := snapLatch s
  let s := if commitDue s then settle (commitFollow (applyUpTo s (s.sets.commitTide - 1))) else s
  (List.range 24).foldl windowSync (windowFollow (settle (tideAlarm (applyUpTo s s.tide))))

/-! ### The clock -/

/-- What goes on by itself: lanes are free again, jobs of crystallizers that have left service end, devices that have left the
pool are cleaned up, requests are admitted. -/
def goOn (s : State) : State :=
  let s := { s with coh := { s.coh with lanes := [], slots := [] } }
  let s := (List.range 8).foldl takeRedo s
  let s := respDrains (followUrgc s (List.range 4))
  let s := flushJobs s s.tier.jobs
  let s := finishPeers (finishMoves s s.tier.moves) s.tier.peerMoves
  let s := cleanGone s
  admitAll (flow (chansGo (feedPan s)))

/-- One core clock. A device held in reset only counts it. -/
def clockTick (s : State) : State :=
  let s := { s with clock := s.clock + 1, acc := { s.acc with hwSet := [], swSet := [] }, tier := { s.tier with ended := [] } }
  if s.inReset then s
  else
    let s := { s with slu := { s.slu with seen := s.slu.used, seenAmber := s.slu.amber } }
    let s := goOn (tideWork (tideTick (telClear (countClock s))))
    settle (levels ((List.range 16).foldl serveUnassigned s))

/-- The end of a paludier clock: level events are latched, and waits whose expiry falls in it end (R139 to R141). -/
def paludierEnd (s : State) : State :=
  if (s.clock + 1) % CLK = 0 then settle ((List.range 16).foldl (fun s n => waitEnd (latchLevels s n) n) s) else s

/-- The end of a core clock: the rake rewrites what it read (R548), and the TMWs and PZEROs that gave way to hardware's changes of their
pages go on (R120). -/
def clockEnd (s : State) : State := if s.inReset then s else settle (capturesEnd (paludierEnd (settle (flow (rakeRewrites (latchEnd s))))))

end Sys2Proof.Machine
end

