-- ==== Sys2Proof/Machine/Dispatch.lean ====
section
/-! DEFINITION. The meaning of every command: one arm per constructor, each a direct call of that command's meaning. -/

namespace Sys2Proof.Machine

/-- The effect of a command on everything but the queue of waiting commands. -/
def exec (i : Instr) (s : State) : Host.Outcome State Fault Refusal :=
  match i with
  | .registerWrite p width off val => Sys2Proof.Machine.execRegisterWrite p width off val s
  | .registerPairLowRead p width off => Sys2Proof.Machine.execRegisterPairLowRead p width off s
  | .sidebandRegisterMessage ops => Sys2Proof.Machine.execSidebandRegisterMessage ops s
  | .gpVWrite p off v => Sys2Proof.Machine.execGpVWrite p off v s
  | .gpCWrite p off v => Sys2Proof.Machine.execGpCWrite p off v s
  | .gpSequenceTimeout => Sys2Proof.Machine.execGpSequenceTimeout s
  | .keyArm p v => Sys2Proof.Machine.execKeyArm p v s
  | .keyExpiry p => Sys2Proof.Machine.execKeyExpiry p s
  | .idxAddrWrite p n v => Sys2Proof.Machine.execIdxAddrWrite p n v s
  | .idxDataRead p n => Sys2Proof.Machine.execIdxDataRead p n s
  | .idxDataWrite p n v => Sys2Proof.Machine.execIdxDataWrite p n v s
  | .idxTargetDone n => Sys2Proof.Machine.execIdxTargetDone n s
  | .idxPairTimeout n => Sys2Proof.Machine.execIdxPairTimeout n s
  | .modeRequestRise p => Sys2Proof.Machine.execModeRequestRise p s
  | .modeRequestRun p => Sys2Proof.Machine.execModeRequestRun p s
  | .modeRequestDrain p => Sys2Proof.Machine.execModeRequestDrain p s
  | .modeRequestHold p => Sys2Proof.Machine.execModeRequestHold p s
  | .modeRequestTest p => Sys2Proof.Machine.execModeRequestTest p s
  | .modeRequestOther p target => Sys2Proof.Machine.execModeRequestOther p target s
  | .modeTransitionEnd => Sys2Proof.Machine.execModeTransitionEnd s
  | .holdEntryComplete => Sys2Proof.Machine.execHoldEntryComplete s
  | .holdExitComplete => Sys2Proof.Machine.execHoldExitComplete s
  | .holdLimitExpiry => Sys2Proof.Machine.execHoldLimitExpiry s
  | .holdLimitWrite p v => Sys2Proof.Machine.execHoldLimitWrite p v s
  | .safecapExpiry => Sys2Proof.Machine.execSafecapExpiry s
  | .coldReset cause => Sys2Proof.Machine.execColdReset cause s
  | .warmReset cause => Sys2Proof.Machine.execWarmReset cause s
  | .genRstWarm p => Sys2Proof.Machine.execGenRstWarm p s
  | .genRstCold p => Sys2Proof.Machine.execGenRstCold p s
  | .resetNLow clocks => Sys2Proof.Machine.execResetNLow clocks s
  | .resetNRelease => Sys2Proof.Machine.execResetNRelease s
  | .supplyUndervoltage clocks => Sys2Proof.Machine.execSupplyUndervoltage clocks s
  | .powerDieSupplyLoss => Sys2Proof.Machine.execPowerDieSupplyLoss s
  | .portReset what => Sys2Proof.Machine.execPortReset what s
  | .perstRelease n k => Sys2Proof.Machine.execPerstRelease n k s
  | .bitternKeysDone => Sys2Proof.Machine.execBitternKeysDone s
  | .bitternSramDone => Sys2Proof.Machine.execBitternSramDone s
  | .bitternMapBlockWritten set block => Sys2Proof.Machine.execBitternMapBlockWritten set block s
  | .bitternMapPhaseEnd set => Sys2Proof.Machine.execBitternMapPhaseEnd set s
  | .bitternCellsZeroised set cells => Sys2Proof.Machine.execBitternCellsZeroised set cells s
  | .bitternDataPhaseEnd set => Sys2Proof.Machine.execBitternDataPhaseEnd set s
  | .setServable set => Sys2Proof.Machine.execSetServable set s
  | .add c rd rs1 rs2 => Sys2Proof.Machine.execAdd c rd rs1 rs2 s
  | .sub c rd rs1 rs2 => Sys2Proof.Machine.execSub c rd rs1 rs2 s
  | .and c rd rs1 rs2 => Sys2Proof.Machine.execAnd c rd rs1 rs2 s
  | .or c rd rs1 rs2 => Sys2Proof.Machine.execOr c rd rs1 rs2 s
  | .xor c rd rs1 rs2 => Sys2Proof.Machine.execXor c rd rs1 rs2 s
  | .sll c rd rs1 rs2 => Sys2Proof.Machine.execSll c rd rs1 rs2 s
  | .srl c rd rs1 rs2 => Sys2Proof.Machine.execSrl c rd rs1 rs2 s
  | .sra c rd rs1 rs2 => Sys2Proof.Machine.execSra c rd rs1 rs2 s
  | .slt c rd rs1 rs2 => Sys2Proof.Machine.execSlt c rd rs1 rs2 s
  | .sltu c rd rs1 rs2 => Sys2Proof.Machine.execSltu c rd rs1 rs2 s
  | .min c rd rs1 rs2 => Sys2Proof.Machine.execMin c rd rs1 rs2 s
  | .max c rd rs1 rs2 => Sys2Proof.Machine.execMax c rd rs1 rs2 s
  | .minu c rd rs1 rs2 => Sys2Proof.Machine.execMinu c rd rs1 rs2 s
  | .maxu c rd rs1 rs2 => Sys2Proof.Machine.execMaxu c rd rs1 rs2 s
  | .mul c rd rs1 rs2 => Sys2Proof.Machine.execMul c rd rs1 rs2 s
  | .mulh c rd rs1 rs2 => Sys2Proof.Machine.execMulh c rd rs1 rs2 s
  | .mulhu c rd rs1 rs2 => Sys2Proof.Machine.execMulhu c rd rs1 rs2 s
  | .div c rd rs1 rs2 => Sys2Proof.Machine.execDiv c rd rs1 rs2 s
  | .divu c rd rs1 rs2 => Sys2Proof.Machine.execDivu c rd rs1 rs2 s
  | .rem c rd rs1 rs2 => Sys2Proof.Machine.execRem c rd rs1 rs2 s
  | .remu c rd rs1 rs2 => Sys2Proof.Machine.execRemu c rd rs1 rs2 s
  | .popc c rd rs1 => Sys2Proof.Machine.execPopc c rd rs1 s
  | .clz c rd rs1 => Sys2Proof.Machine.execClz c rd rs1 s
  | .ctz c rd rs1 => Sys2Proof.Machine.execCtz c rd rs1 s
  | .addi c rd rs1 imm => Sys2Proof.Machine.execAddi c rd rs1 imm s
  | .andi c rd rs1 imm => Sys2Proof.Machine.execAndi c rd rs1 imm s
  | .ori c rd rs1 imm => Sys2Proof.Machine.execOri c rd rs1 imm s
  | .xori c rd rs1 imm => Sys2Proof.Machine.execXori c rd rs1 imm s
  | .slti c rd rs1 imm => Sys2Proof.Machine.execSlti c rd rs1 imm s
  | .sltiu c rd rs1 imm => Sys2Proof.Machine.execSltiu c rd rs1 imm s
  | .slli c rd rs1 sh => Sys2Proof.Machine.execSlli c rd rs1 sh s
  | .srli c rd rs1 sh => Sys2Proof.Machine.execSrli c rd rs1 sh s
  | .srai c rd rs1 sh => Sys2Proof.Machine.execSrai c rd rs1 sh s
  | .lui c rd imm => Sys2Proof.Machine.execLui c rd imm s
  | .shori c rd rs1 imm => Sys2Proof.Machine.execShori c rd rs1 imm s
  | .jalr c rd rs1 imm => Sys2Proof.Machine.execJalr c rd rs1 imm s
  | .lb c rd rs1 off => Sys2Proof.Machine.execLb c rd rs1 off s
  | .lh c rd rs1 off => Sys2Proof.Machine.execLh c rd rs1 off s
  | .lw c rd rs1 off => Sys2Proof.Machine.execLw c rd rs1 off s
  | .ld c rd rs1 off => Sys2Proof.Machine.execLd c rd rs1 off s
  | .lbu c rd rs1 off => Sys2Proof.Machine.execLbu c rd rs1 off s
  | .lhu c rd rs1 off => Sys2Proof.Machine.execLhu c rd rs1 off s
  | .lwu c rd rs1 off => Sys2Proof.Machine.execLwu c rd rs1 off s
  | .sb c rs2 rs1 off => Sys2Proof.Machine.execSb c rs2 rs1 off s
  | .sh c rs2 rs1 off => Sys2Proof.Machine.execSh c rs2 rs1 off s
  | .sw c rs2 rs1 off => Sys2Proof.Machine.execSw c rs2 rs1 off s
  | .sd c rs2 rs1 off => Sys2Proof.Machine.execSd c rs2 rs1 off s
  | .beq c rs1 rs2 off => Sys2Proof.Machine.execBeq c rs1 rs2 off s
  | .bne c rs1 rs2 off => Sys2Proof.Machine.execBne c rs1 rs2 off s
  | .blt c rs1 rs2 off => Sys2Proof.Machine.execBlt c rs1 rs2 off s
  | .bge c rs1 rs2 off => Sys2Proof.Machine.execBge c rs1 rs2 off s
  | .bltu c rs1 rs2 off => Sys2Proof.Machine.execBltu c rs1 rs2 off s
  | .bgeu c rs1 rs2 off => Sys2Proof.Machine.execBgeu c rs1 rs2 off s
  | .jal c rd off => Sys2Proof.Machine.execJal c rd off s
  | .amoAdd c rd rs1 rs2 w => Sys2Proof.Machine.execAmoAdd c rd rs1 rs2 w s
  | .amoSwp c rd rs1 rs2 w => Sys2Proof.Machine.execAmoSwp c rd rs1 rs2 w s
  | .amoCas c rd rs1 rs2 w => Sys2Proof.Machine.execAmoCas c rd rs1 rs2 w s
  | .amoMax c rd rs1 rs2 w u => Sys2Proof.Machine.execAmoMax c rd rs1 rs2 w u s
  | .fence c sel => Sys2Proof.Machine.execFence c sel s
  | .fenceRelease c => Sys2Proof.Machine.execFenceRelease c s
  | .trap c code => Sys2Proof.Machine.execTrap c code s
  | .halt c => Sys2Proof.Machine.execHalt c s
  | .eret c => Sys2Proof.Machine.execEret c s
  | .csrr c rd csr => Sys2Proof.Machine.execCsrr c rd csr s
  | .csrw c rs1 csr => Sys2Proof.Machine.execCsrw c rs1 csr s
  | .tmr c rd rs1 => Sys2Proof.Machine.execTmr c rd rs1 s
  | .tmw c rd rs1 rs2 => Sys2Proof.Machine.execTmw c rd rs1 rs2 s
  | .pmov c rd rs1 rs2 => Sys2Proof.Machine.execPmov c rd rs1 rs2 s
  | .pzero c rd rs1 => Sys2Proof.Machine.execPzero c rd rs1 s
  | .pprobe c rd rs1 => Sys2Proof.Machine.execPprobe c rd rs1 s
  | .dqry c rd rs1 => Sys2Proof.Machine.execDqry c rd rs1 s
  | .send c rd rs1 rs2 => Sys2Proof.Machine.execSend c rd rs1 rs2 s
  | .sendStallRelease c => Sys2Proof.Machine.execSendStallRelease c s
  | .recv c rd rs1 => Sys2Proof.Machine.execRecv c rd rs1 s
  | .wait c rd rs1 rs2 => Sys2Proof.Machine.execWait c rd rs1 rs2 s
  | .waitEventWake c => Sys2Proof.Machine.execWaitEventWake c s
  | .waitTimeout c => Sys2Proof.Machine.execWaitTimeout c s
  | .waitt c rd rs1 rs2 => Sys2Proof.Machine.execWaitt c rd rs1 rs2 s
  | .waittEventWake c => Sys2Proof.Machine.execWaittEventWake c s
  | .waittTideReached c => Sys2Proof.Machine.execWaittTideReached c s
  | .tide c rd => Sys2Proof.Machine.execTide c rd s
  | .cntr c rd rs1 snap => Sys2Proof.Machine.execCntr c rd rs1 snap s
  | .rgr c rd rs1 => Sys2Proof.Machine.execRgr c rd rs1 s
  | .rgw c rs1 rs2 => Sys2Proof.Machine.execRgw c rs1 rs2 s
  | .rgwApplied c => Sys2Proof.Machine.execRgwApplied c s
  | .setarm c rd => Sys2Proof.Machine.execSetarm c rd s
  | .watchdogExpiry c => Sys2Proof.Machine.execWatchdogExpiry c s
  | .pageMoveComplete c slot errs => Sys2Proof.Machine.execPageMoveComplete c slot errs s
  | .coreRestart p c => Sys2Proof.Machine.execCoreRestart p c s
  | .coreRestartDeferred c => Sys2Proof.Machine.execCoreRestartDeferred c s
  | .glxLoadImageStart m data => Sys2Proof.Machine.execGlxLoadImageStart m data s
  | .glxLoadImageData m off data => Sys2Proof.Machine.execGlxLoadImageData m off data s
  | .glxLoadImageEnd m off data => Sys2Proof.Machine.execGlxLoadImageEnd m off data s
  | .imageLoadComplete => Sys2Proof.Machine.execImageLoadComplete s
  | .stagingClaimLapse => Sys2Proof.Machine.execStagingClaimLapse s
  | .glxProgramMessage m c msg => Sys2Proof.Machine.execGlxProgramMessage m c msg s
  | .hostMessageTimeout c seq => Sys2Proof.Machine.execHostMessageTimeout c seq s
  | .glxGetLoadStatus m => Sys2Proof.Machine.execGlxGetLoadStatus m s
  | .glxGetAliasLayout m => Sys2Proof.Machine.execGlxGetAliasLayout m s
  | .glxGetReadiness m => Sys2Proof.Machine.execGlxGetReadiness m s
  | .hostreply c => Sys2Proof.Machine.execHostreply c s
  | .armreq c => Sys2Proof.Machine.execArmreq c s
  | .abortreq c => Sys2Proof.Machine.execAbortreq c s
  | .dcdadd c => Sys2Proof.Machine.execDcdadd c s
  | .dcdrel c => Sys2Proof.Machine.execDcdrel c s
  | .log c => Sys2Proof.Machine.execLog c s
  | .setinfo c => Sys2Proof.Machine.execSetinfo c s
  | .setArm p => Sys2Proof.Machine.execSetArm p s
  | .setAbort p => Sys2Proof.Machine.execSetAbort p s
  | .localCommit p => Sys2Proof.Machine.execLocalCommit p s
  | .armWaitTimeout => Sys2Proof.Machine.execArmWaitTimeout s
  | .finalSend => Sys2Proof.Machine.execFinalSend s
  | .configSetSwap => Sys2Proof.Machine.execConfigSetSwap s
  | .memRd ld mtag hpa snp => Sys2Proof.Machine.execMemRd ld mtag hpa snp s
  | .memRdData ld mtag hpa => Sys2Proof.Machine.execMemRdData ld mtag hpa s
  | .memInv ld mtag hpa => Sys2Proof.Machine.execMemInv ld mtag hpa s
  | .memInvNt ld mtag hpa => Sys2Proof.Machine.execMemInvNt ld mtag hpa s
  | .memSpecRd ld mtag hpa => Sys2Proof.Machine.execMemSpecRd ld mtag hpa s
  | .memClnEvct ld mtag hpa => Sys2Proof.Machine.execMemClnEvct ld mtag hpa s
  | .memWr ld mtag hpa data poison => Sys2Proof.Machine.execMemWr ld mtag hpa data poison s
  | .memWrPtl ld mtag hpa data mask poison => Sys2Proof.Machine.execMemWrPtl ld mtag hpa data mask poison s
  | .biConflict ld line => Sys2Proof.Machine.execBiConflict ld line s
  | .birsp ld line keeps => Sys2Proof.Machine.execBirsp ld line keeps s
  | .bisnpTimeout ld line => Sys2Proof.Machine.execBisnpTimeout ld line s
  | .homeSliceAdmission h => Sys2Proof.Machine.execHomeSliceAdmission h s
  | .channelWriteAccept ch => Sys2Proof.Machine.execChannelWriteAccept ch s
  | .readDataReturn txn errs => Sys2Proof.Machine.execReadDataReturn txn errs s
  | .hostLinkTrained n k width rate => Sys2Proof.Machine.execHostLinkTrained n k width rate s
  | .hostLinkDown n k => Sys2Proof.Machine.execHostLinkDown n k s
  | .viralReceived n k => Sys2Proof.Machine.execViralReceived n k s
  | .cxlIoConfigRequest ld req => Sys2Proof.Machine.execCxlIoConfigRequest ld req s
  | .hpxLdcntWrite p n v => Sys2Proof.Machine.execHpxLdcntWrite p n v s
  | .addDcResponse ld start blocks accept => Sys2Proof.Machine.execAddDcResponse ld start blocks accept s
  | .releaseDc ld start blocks => Sys2Proof.Machine.execReleaseDc ld start blocks s
  | .dcdResponseTimeout e => Sys2Proof.Machine.execDcdResponseTimeout e s
  | .getEventRecords m log => Sys2Proof.Machine.execGetEventRecords m log s
  | .clearEventRecords m log count => Sys2Proof.Machine.execClearEventRecords m log count s
  | .getEventInterruptPolicy m => Sys2Proof.Machine.execGetEventInterruptPolicy m s
  | .setEventInterruptPolicy m policy => Sys2Proof.Machine.execSetEventInterruptPolicy m policy s
  | .getFwInfo m => Sys2Proof.Machine.execGetFwInfo m s
  | .transferFw m slot off data => Sys2Proof.Machine.execTransferFw m slot off data s
  | .activateFw m slot online => Sys2Proof.Machine.execActivateFw m slot online s
  | .getTimestamp m => Sys2Proof.Machine.execGetTimestamp m s
  | .setTimestamp m ns => Sys2Proof.Machine.execSetTimestamp m ns s
  | .getSupportedLogs m => Sys2Proof.Machine.execGetSupportedLogs m s
  | .getLog m vendor => Sys2Proof.Machine.execGetLog m vendor s
  | .identifyMemoryDevice m => Sys2Proof.Machine.execIdentifyMemoryDevice m s
  | .getPoisonList m => Sys2Proof.Machine.execGetPoisonList m s
  | .clearPoison m line data => Sys2Proof.Machine.execClearPoison m line data s
  | .injectPoison m line => Sys2Proof.Machine.execInjectPoison m line s
  | .getScanMediaCapabilities m => Sys2Proof.Machine.execGetScanMediaCapabilities m s
  | .scanMedia m first last => Sys2Proof.Machine.execScanMedia m first last s
  | .getScanMediaResults m => Sys2Proof.Machine.execGetScanMediaResults m s
  | .getDcConfiguration m => Sys2Proof.Machine.execGetDcConfiguration m s
  | .getDcExtentList m => Sys2Proof.Machine.execGetDcExtentList m s
  | .getLdInfo m => Sys2Proof.Machine.execGetLdInfo m s
  | .getLdAllocations m => Sys2Proof.Machine.execGetLdAllocations m s
  | .mailboxUnsupported m opcode => Sys2Proof.Machine.execMailboxUnsupported m opcode s
  | .spdmGetVersion m => Sys2Proof.Machine.execSpdmGetVersion m s
  | .spdmGetCapabilities m => Sys2Proof.Machine.execSpdmGetCapabilities m s
  | .spdmNegotiateAlgorithms m => Sys2Proof.Machine.execSpdmNegotiateAlgorithms m s
  | .spdmGetDigests m => Sys2Proof.Machine.execSpdmGetDigests m s
  | .spdmGetCertificate m slot => Sys2Proof.Machine.execSpdmGetCertificate m slot s
  | .spdmChallenge m => Sys2Proof.Machine.execSpdmChallenge m s
  | .spdmGetMeasurements m => Sys2Proof.Machine.execSpdmGetMeasurements m s
  | .spdmKeyExchange m => Sys2Proof.Machine.execSpdmKeyExchange m s
  | .spdmFinish m => Sys2Proof.Machine.execSpdmFinish m s
  | .spdmHeartbeat m => Sys2Proof.Machine.execSpdmHeartbeat m s
  | .spdmKeyUpdate m => Sys2Proof.Machine.execSpdmKeyUpdate m s
  | .spdmEndSession m => Sys2Proof.Machine.execSpdmEndSession m s
  | .spdmGetCsr m => Sys2Proof.Machine.execSpdmGetCsr m s
  | .spdmSetCertificate m slot chain => Sys2Proof.Machine.execSpdmSetCertificate m slot chain s
  | .spdmChunkSend m => Sys2Proof.Machine.execSpdmChunkSend m s
  | .spdmChunkGet m => Sys2Proof.Machine.execSpdmChunkGet m s
  | .releasePushResume => Sys2Proof.Machine.execReleasePushResume s
  | .heapDecodeComplete q errs => Sys2Proof.Machine.execHeapDecodeComplete q errs s
  | .heapJobStart q => Sys2Proof.Machine.execHeapJobStart q s
  | .cryInject p v => Sys2Proof.Machine.execCryInject p v s
  | .pageBufferFlush p v => Sys2Proof.Machine.execPageBufferFlush p v s
  | .engineEnableWrite p xe v => Sys2Proof.Machine.execEngineEnableWrite p xe v s
  | .keyLoad p slot => Sys2Proof.Machine.execKeyLoad p slot s
  | .keyDestroy p slot => Sys2Proof.Machine.execKeyDestroy p slot s
  | .keySlotChangeComplete => Sys2Proof.Machine.execKeySlotChangeComplete s
  | .ephemeralKeyLoad p slot => Sys2Proof.Machine.execEphemeralKeyLoad p slot s
  | .rds f => Sys2Proof.Machine.execRds f s
  | .rdo f => Sys2Proof.Machine.execRdo f s
  | .upg f => Sys2Proof.Machine.execUpg f s
  | .rdc f => Sys2Proof.Machine.execRdc f s
  | .wbm f => Sys2Proof.Machine.execWbm f s
  | .evc f => Sys2Proof.Machine.execEvc f s
  | .snpi f => Sys2Proof.Machine.execSnpi f s
  | .snps f => Sys2Proof.Machine.execSnps f s
  | .fwds f => Sys2Proof.Machine.execFwds f s
  | .fwdo f => Sys2Proof.Machine.execFwdo f s
  | .rspi f => Sys2Proof.Machine.execRspi f s
  | .rsps f => Sys2Proof.Machine.execRsps f s
  | .rspd f => Sys2Proof.Machine.execRspd f s
  | .rspwb f => Sys2Proof.Machine.execRspwb f s
  | .fack f => Sys2Proof.Machine.execFack f s
  | .fackd f => Sys2Proof.Machine.execFackd f s
  | .dats f => Sys2Proof.Machine.execDats f s
  | .date f => Sys2Proof.Machine.execDate f s
  | .datm f => Sys2Proof.Machine.execDatm f s
  | .gnte f => Sys2Proof.Machine.execGnte f s
  | .datc f => Sys2Proof.Machine.execDatc f s
  | .wback f => Sys2Proof.Machine.execWback f s
  | .directorySweepEnd => Sys2Proof.Machine.execDirectorySweepEnd s
  | .poolCacheFlush p v => Sys2Proof.Machine.execPoolCacheFlush p v s
  | .poolCacheFlushComplete q => Sys2Proof.Machine.execPoolCacheFlushComplete q s
  | .directoryQueryRegister p v => Sys2Proof.Machine.execDirectoryQueryRegister p v s
  | .refreshWindowStart c => Sys2Proof.Machine.execRefreshWindowStart c s
  | .dramCommandIssue c sub skip => Sys2Proof.Machine.execDramCommandIssue c sub skip s
  | .rdtThrottleExpiry c x => Sys2Proof.Machine.execRdtThrottleExpiry c x s
  | .zqCalibration c => Sys2Proof.Machine.execZqCalibration c s
  | .dqsTracking c out => Sys2Proof.Machine.execDqsTracking c out s
  | .trainingStart p c tset => Sys2Proof.Machine.execTrainingStart p c tset s
  | .trainingComplete c ok differ => Sys2Proof.Machine.execTrainingComplete c ok differ s
  | .dmcCtlEnWrite p c en => Sys2Proof.Machine.execDmcCtlEnWrite p c en s
  | .dmcCeclr p c => Sys2Proof.Machine.execDmcCeclr p c s
  | .parityRebuildStart p c => Sys2Proof.Machine.execParityRebuildStart p c s
  | .parityRebuildComplete c => Sys2Proof.Machine.execParityRebuildComplete c s
  | .frequencyChange p tset mask => Sys2Proof.Machine.execFrequencyChange p tset mask s
  | .frequencyChangeComplete failed => Sys2Proof.Machine.execFrequencyChangeComplete failed s
  | .sppr p c lrank sub bank row => Sys2Proof.Machine.execSppr p c lrank sub bank row s
  | .hppr p c lrank sub bank row => Sys2Proof.Machine.execHppr p c lrank sub bank row s
  | .pprComplete c res lost => Sys2Proof.Machine.execPprComplete c res lost s
  | .testWriteRaw p c => Sys2Proof.Machine.execTestWriteRaw p c s
  | .testWriteBc p c => Sys2Proof.Machine.execTestWriteBc p c s
  | .testReadRaw p c => Sys2Proof.Machine.execTestReadRaw p c s
  | .testReadDecode p c => Sys2Proof.Machine.execTestReadDecode p c s
  | .sluiceWindowOpen => Sys2Proof.Machine.execSluiceWindowOpen s
  | .deliverableRecompute => Sys2Proof.Machine.execDeliverableRecompute s
  | .urgencyPersistent => Sys2Proof.Machine.execUrgencyPersistent s
  | .frameReceive l f bad disagree fallow gen => Sys2Proof.Machine.execFrameReceive l f bad disagree fallow gen s
  | .slotTransmit l => Sys2Proof.Machine.execSlotTransmit l s
  | .replayTimeout l => Sys2Proof.Machine.execReplayTimeout l s
  | .laneErrorWindowEnd l => Sys2Proof.Machine.execLaneErrorWindowEnd l s
  | .lmRequest l m => Sys2Proof.Machine.execLmRequest l m s
  | .lmGrant l m => Sys2Proof.Machine.execLmGrant l m s
  | .lmSwitch l m => Sys2Proof.Machine.execLmSwitch l m s
  | .lmAbort l => Sys2Proof.Machine.execLmAbort l s
  | .renegTimeout l => Sys2Proof.Machine.execRenegTimeout l s
  | .laneTrainingComplete l p rx ok => Sys2Proof.Machine.execLaneTrainingComplete l p rx ok s
  | .renegotiate p l w => Sys2Proof.Machine.execRenegotiate p l w s
  | .retrain p l => Sys2Proof.Machine.execRetrain p l s
  | .cnvCtlWrite p l v => Sys2Proof.Machine.execCnvCtlWrite p l v s
  | .linkCounterClear p l => Sys2Proof.Machine.execLinkCounterClear p l s
  | .tbDetect l b => Sys2Proof.Machine.execTbDetect l b s
  | .tbLock l locked b => Sys2Proof.Machine.execTbLock l locked b s
  | .tbConfig l b => Sys2Proof.Machine.execTbConfig l b s
  | .tbConfigAck l => Sys2Proof.Machine.execTbConfigAck l s
  | .tbEcho l b => Sys2Proof.Machine.execTbEcho l b s
  | .tbEchoReply l b => Sys2Proof.Machine.execTbEchoReply l b s
  | .tbGo l => Sys2Proof.Machine.execTbGo l s
  | .lockTimeout l => Sys2Proof.Machine.execLockTimeout l s
  | .laneLockLost l => Sys2Proof.Machine.execLaneLockLost l s
  | .msgFrame f => Sys2Proof.Machine.execMsgFrame f s
  | .mvreq f => Sys2Proof.Machine.execMvreq f s
  | .mvgo f => Sys2Proof.Machine.execMvgo f s
  | .mvref f => Sys2Proof.Machine.execMvref f s
  | .mvdata f => Sys2Proof.Machine.execMvdata f s
  | .mvdone f => Sys2Proof.Machine.execMvdone f s
  | .mvget f => Sys2Proof.Machine.execMvget f s
  | .mvclr f => Sys2Proof.Machine.execMvclr f s
  | .mvabt f => Sys2Proof.Machine.execMvabt f s
  | .tideFrame l f arrival fine => Sys2Proof.Machine.execTideFrame l f arrival fine s
  | .tideFrameSend => Sys2Proof.Machine.execTideFrameSend s
  | .tideErrorLimit => Sys2Proof.Machine.execTideErrorLimit s
  | .tideParentLost => Sys2Proof.Machine.execTideParentLost s
  | .tideAlarm => Sys2Proof.Machine.execTideAlarm s
  | .masterElection topo => Sys2Proof.Machine.execMasterElection topo s
  | .join f => Sys2Proof.Machine.execJoin f s
  | .welcome f => Sys2Proof.Machine.execWelcome f s
  | .refuse f => Sys2Proof.Machine.execRefuse f s
  | .leave f => Sys2Proof.Machine.execLeave f s
  | .hbeat f => Sys2Proof.Machine.execHbeat f s
  | .hback f => Sys2Proof.Machine.execHback f s
  | .heartbeatSend => Sys2Proof.Machine.execHeartbeatSend s
  | .heartbeatMissLimit => Sys2Proof.Machine.execHeartbeatMissLimit s
  | .standbyProbeStart => Sys2Proof.Machine.execStandbyProbeStart s
  | .standbyProbeEnd => Sys2Proof.Machine.execStandbyProbeEnd s
  | .heartbeatLoss => Sys2Proof.Machine.execHeartbeatLoss s
  | .memb f => Sys2Proof.Machine.execMemb f s
  | .membershipApply => Sys2Proof.Machine.execMembershipApply s
  | .route f => Sys2Proof.Machine.execRoute f s
  | .linkrep f => Sys2Proof.Machine.execLinkrep f s
  | .armed f => Sys2Proof.Machine.execArmed f s
  | .commit f => Sys2Proof.Machine.execCommit f s
  | .cmack f => Sys2Proof.Machine.execCmack f s
  | .final f => Sys2Proof.Machine.execFinal f s
  | .poolAbort f => Sys2Proof.Machine.execPoolAbort f s
  | .calseg f => Sys2Proof.Machine.execCalseg f s
  | .probe f => Sys2Proof.Machine.execProbe f s
  | .courseSeed l => Sys2Proof.Machine.execCourseSeed l s
  | .takeover f => Sys2Proof.Machine.execTakeover f s
  | .snap f => Sys2Proof.Machine.execSnap f s
  | .reservedCreditLapse => Sys2Proof.Machine.execReservedCreditLapse s
  | .e2eTimeout dev line => Sys2Proof.Machine.execE2eTimeout dev line s
  | .poolLeave p => Sys2Proof.Machine.execPoolLeave p s
  | .poolCfgWrite p v => Sys2Proof.Machine.execPoolCfgWrite p v s
  | .rakeStart p v => Sys2Proof.Machine.execRakeStart p v s
  | .rakePage errs => Sys2Proof.Machine.execRakePage errs s
  | .rakeDone => Sys2Proof.Machine.execRakeDone s
  | .fuseRepair p v => Sys2Proof.Machine.execFuseRepair p v s
  | .fuseRepairComplete ok => Sys2Proof.Machine.execFuseRepairComplete ok s
  | .faultAssertion src info place => Sys2Proof.Machine.execFaultAssertion src info place s
  | .faultForce p n v => Sys2Proof.Machine.execFaultForce p n v s
  | .stickyClear p n v => Sys2Proof.Machine.execStickyClear p n v s
  | .capturePop p => Sys2Proof.Machine.execCapturePop p s
  | .captureClear p => Sys2Proof.Machine.execCaptureClear p s
  | .eventRecordDelivery ld log => Sys2Proof.Machine.execEventRecordDelivery ld log s
  | .sidebandEventSend => Sys2Proof.Machine.execSidebandEventSend s
  | .bootImageCheck => Sys2Proof.Machine.execBootImageCheck s
  | .tokenBufferWrite p v => Sys2Proof.Machine.execTokenBufferWrite p v s
  | .tokenCommand p => Sys2Proof.Machine.execTokenCommand p s
  | .endWithoutToken p => Sys2Proof.Machine.execEndWithoutToken p s
  | .tokenCommandComplete ok => Sys2Proof.Machine.execTokenCommandComplete ok s
  | .antiRollbackAdvance p kind value ok => Sys2Proof.Machine.execAntiRollbackAdvance p kind value ok s
  | .flashErase p addr => Sys2Proof.Machine.execFlashErase p addr s
  | .flashProgram p v => Sys2Proof.Machine.execFlashProgram p v s
  | .slotEnable n => Sys2Proof.Machine.execSlotEnable n s
  | .slotDisable n => Sys2Proof.Machine.execSlotDisable n s
  | .slotPowerGood n => Sys2Proof.Machine.execSlotPowerGood n s
  | .faultTimerExpiry n => Sys2Proof.Machine.execFaultTimerExpiry n s
  | .fastTrip n => Sys2Proof.Machine.execFastTrip n s
  | .powerLimitTrip n => Sys2Proof.Machine.execPowerLimitTrip n s
  | .inputCollapse n => Sys2Proof.Machine.execInputCollapse n s
  | .inputGood n w => Sys2Proof.Machine.execInputGood n w s
  | .feedLost n w => Sys2Proof.Machine.execFeedLost n w s
  | .reverseCurrentTurnoff n b => Sys2Proof.Machine.execReverseCurrentTurnoff n b s
  | .retryDelayEnd n => Sys2Proof.Machine.execRetryDelayEnd n s
  | .housekeepingRound rd => Sys2Proof.Machine.execHousekeepingRound rd s
  | .pauseStepApply => Sys2Proof.Machine.execPauseStepApply s
  | .counterClear p => Sys2Proof.Machine.execCounterClear p s
  | .snapshotScheduleLocal p period => Sys2Proof.Machine.execSnapshotScheduleLocal p period s
  | .snapshotSchedulePool p period => Sys2Proof.Machine.execSnapshotSchedulePool p period s
  | .snapshotCancel p => Sys2Proof.Machine.execSnapshotCancel p s
  | .snapshotLatch => Sys2Proof.Machine.execSnapshotLatch s
  | .snapshotCopyComplete => Sys2Proof.Machine.execSnapshotCopyComplete s
  | .samplerCrossing n => Sys2Proof.Machine.execSamplerCrossing n s
  | .sampleNoRequestTimeout n => Sys2Proof.Machine.execSampleNoRequestTimeout n s
  | .samplePop p => Sys2Proof.Machine.execSamplePop p s
  | .sampleClear p => Sys2Proof.Machine.execSampleClear p s
  | .samplerConfigWrite p n v => Sys2Proof.Machine.execSamplerConfigWrite p n v s
  | .firmwareStage p => Sys2Proof.Machine.execFirmwareStage p s
  | .firmwareStageComplete ok => Sys2Proof.Machine.execFirmwareStageComplete ok s
  | .firmwareSwap p => Sys2Proof.Machine.execFirmwareSwap p s
  | .firmwareSwapComplete => Sys2Proof.Machine.execFirmwareSwapComplete s
  | .firmwareConfirm p => Sys2Proof.Machine.execFirmwareConfirm p s
  | .illegalInstruction c word => Sys2Proof.Machine.execIllegalInstruction c word s
  | .faultTimerStart n => Sys2Proof.Machine.execFaultTimerStart n s
  | .faultTimerStop n => Sys2Proof.Machine.execFaultTimerStop n s
  | .inputAboveUvth n => Sys2Proof.Machine.execInputAboveUvth n s
  | .supplyRestored => Sys2Proof.Machine.execSupplyRestored s
  | .pllLock => Sys2Proof.Machine.execPllLock s
  | .d2dTrainingComplete d => Sys2Proof.Machine.execD2dTrainingComplete d s
  | .d2dModuleLost d => Sys2Proof.Machine.execD2dModuleLost d s
  | .holdoverEnd => Sys2Proof.Machine.execHoldoverEnd s
  | .phyLockLost c => Sys2Proof.Machine.execPhyLockLost c s
  | .caParityOrWriteCrcError c crc again => Sys2Proof.Machine.execCaParityOrWriteCrcError c crc again s
  | .heapEncodeComplete q bad => Sys2Proof.Machine.execHeapEncodeComplete q bad s
  | .ideKmMessage m ok => Sys2Proof.Machine.execIdeKmMessage m ok s
  | .flashOperationComplete => Sys2Proof.Machine.execFlashOperationComplete s
  | .boundaryScanInstruction scan => Sys2Proof.Machine.execBoundaryScanInstruction scan s

end Sys2Proof.Machine
end

