-- ==== Sys2Proof/Machine/Timers.lean ====
section
/-! DEFINITION. Expiries that were put off to the end of their clock (R13 to R16). -/

namespace Sys2Proof.Machine

/-- An expiry put off is carried out: as its command is, with the clock about to end. -/
def expire (i : Timer) (s : State) : Host.Outcome State Fault Refusal :=
  match i with
  | .keyExpiry p => execKeyExpiry p s
  | .idxPairTimeout n => execIdxPairTimeout n s
  | .holdLimitExpiry => execHoldLimitExpiry s
  | .safecapExpiry => execSafecapExpiry s
  | .watchdogExpiry c => execWatchdogExpiry c s
  | .waitTimeout c => execWaitTimeout c s
  | .waittTideReached c => execWaittTideReached c s
  | .stagingClaimLapse => execStagingClaimLapse s
  | .hostMessageTimeout c seq => execHostMessageTimeout c seq s
  | .armWaitTimeout => execArmWaitTimeout s
  | .finalSend => execFinalSend s
  | .bisnpTimeout ld line => execBisnpTimeout ld line s
  | .addDcResponse ld start blocks accept => execAddDcResponse ld start blocks accept s
  | .releaseDc ld start blocks => execReleaseDc ld start blocks s
  | .dcdResponseTimeout e => execDcdResponseTimeout e s
  | .urgencyPersistent => execUrgencyPersistent s
  | .replayTimeout l => execReplayTimeout l s
  | .renegTimeout l => execRenegTimeout l s
  | .lockTimeout l => execLockTimeout l s
  | .tideErrorLimit => execTideErrorLimit s
  | .heartbeatMissLimit => execHeartbeatMissLimit s
  | .standbyProbeStart => execStandbyProbeStart s
  | .standbyProbeEnd => execStandbyProbeEnd s
  | .heartbeatLoss => execHeartbeatLoss s
  | .reservedCreditLapse => execReservedCreditLapse s
  | .e2eTimeout dev line => execE2eTimeout dev line s
  | .slotPowerGood n => execSlotPowerGood n s
  | .faultTimerExpiry n => execFaultTimerExpiry n s
  | .sampleNoRequestTimeout n => execSampleNoRequestTimeout n s

end Sys2Proof.Machine
end

