-- ==== Sys2Proof/Machine/Step.lean ====
section
/-! DEFINITION. One step: the command at the front of the queue runs on the state with the queue's rest; with an empty queue
one core clock passes (DESIGN CHOICE, log entry 2). -/

namespace Sys2Proof.Machine

/-- The end of a core clock: the expiries that came in the clock of their own deadline are carried out, if no arrival of the clock
has ended their wait (R13), and the clock advances. -/
def closeClock : List Timer → State → Host.Outcome State Fault Refusal
  | [], s => .next (clockTick { clockEnd s with closing := false })
  | c :: r, s =>
    match expire c s with
    | .next s => closeClock r s
    | .fault f => .fault f
    | .refused f => .refused f

def step (s : State) : Host.Outcome State Fault Refusal :=
  match s.pending with
  | [] => closeClock s.deferred { s with deferred := [], closing := true }
  | c :: r => exec c { s with pending := r }

/-- The state with the command that a table word spells at the front of its queue; the table spells none in bits. -/
def State.withFetchWord (s : State) (_nbits _w : Nat) : State := s

end Sys2Proof.Machine
end

