-- ==== Sys2Proof/Decode.lean ====
section
/-! DEFINITION. The words of the opcode table: no row of spec/opcode_table.json gives bits, so no word spells a command. And the
32-bit words of the Tamane instructions as spec/04 encodes them (R101, R110 to R113, R145): which command of a core a word stands
for, and the word of such a command. -/

namespace Sys2Proof

/-- The command that a word spells by the table's bits: none. -/
def decodeTableWord (_nbits _w : Nat) : Option Instr := none

/-! ### The five formats (R110) -/

/-- A register field of a word. -/
def regField (w : Word) (lo : Nat) : Fin 32 := Fin.ofNat 32 (Machine.fld w (lo + 4) lo)

/-- imm16 or off16: bits [15:0]. -/
def immField (w : Word) : BitVec 16 := BitVec.ofNat 16 (Machine.fld w 15 0)

/-! ### A word's instruction (R112, R113, R145) -/

/-- Opcode 0x00, by func. -/
def aluInstr (c : Fin 16) (rd rs1 rs2 : Fin 32) (func : Nat) : Option Instr :=
  match func with
  | 0x000 => some (.add c rd rs1 rs2)
  | 0x001 => some (.sub c rd rs1 rs2)
  | 0x002 => some (.and c rd rs1 rs2)
  | 0x003 => some (.or c rd rs1 rs2)
  | 0x004 => some (.xor c rd rs1 rs2)
  | 0x005 => some (.sll c rd rs1 rs2)
  | 0x006 => some (.srl c rd rs1 rs2)
  | 0x007 => some (.sra c rd rs1 rs2)
  | 0x008 => some (.slt c rd rs1 rs2)
  | 0x009 => some (.sltu c rd rs1 rs2)
  | 0x00A => some (.min c rd rs1 rs2)
  | 0x00B => some (.max c rd rs1 rs2)
  | 0x00C => some (.minu c rd rs1 rs2)
  | 0x00D => some (.maxu c rd rs1 rs2)
  | 0x010 => some (.mul c rd rs1 rs2)
  | 0x011 => some (.mulh c rd rs1 rs2)
  | 0x012 => some (.mulhu c rd rs1 rs2)
  | 0x014 => some (.div c rd rs1 rs2)
  | 0x015 => some (.divu c rd rs1 rs2)
  | 0x016 => some (.rem c rd rs1 rs2)
  | 0x017 => some (.remu c rd rs1 rs2)
  | 0x020 => if rs2 = 0 then some (.popc c rd rs1) else none
  | 0x021 => if rs2 = 0 then some (.clz c rd rs1) else none
  | 0x022 => if rs2 = 0 then some (.ctz c rd rs1) else none
  | _ => none

/-- A shift by an immediate: imm16[15:6] must be zero. -/
def shiftInstr (f : Fin 64 → Instr) (imm : BitVec 16) : Option Instr :=
  if imm.toNat < 64 then some (f (Fin.ofNat 64 imm.toNat)) else none

/-- Opcode 0x30, by func (R145). -/
def amoInstr (c : Fin 16) (rd rs1 rs2 : Fin 32) (func : Nat) : Option Instr :=
  let w := func.testBit 2
  let u := func.testBit 3
  if 16 ≤ func then none
  else
    match func % 4 with
    | 0 => if u then none else some (.amoAdd c rd rs1 rs2 w)
    | 1 => if u then none else some (.amoSwp c rd rs1 rs2 w)
    | 2 => if u then none else some (.amoCas c rd rs1 rs2 w)
    | _ => some (.amoMax c rd rs1 rs2 w u)

/-- Opcode 0x3F, by xfn; the fields that the table marks MBZ must be zero, and so must the xarg bits that an instruction does not
define. The table marks no field of TMR: its rs2 is ignored. -/
def sysInstr (c : Fin 16) (rd rs1 rs2 : Fin 32) (xfn arg : Nat) : Option Instr :=
  match xfn with
  | 0x00 => if rd = 0 ∧ rs1 = 0 ∧ rs2 = 0 ∧ arg < 8 then some (.fence c (Fin.ofNat 8 arg)) else none
  | 0x01 => if rd = 0 ∧ arg = 0 then some (.trap c (BitVec.ofNat 10 (rs1.val * 32 + rs2.val))) else none
  | 0x02 => if rd = 0 ∧ rs1 = 0 ∧ rs2 = 0 ∧ arg = 0 then some (.halt c) else none
  | 0x03 => if rd = 0 ∧ rs1 = 0 ∧ rs2 = 0 ∧ arg = 0 then some (.eret c) else none
  | 0x04 => if rs1 = 0 ∧ rs2 = 0 ∧ arg < 14 then some (.csrr c rd (Fin.ofNat 32 arg)) else none
  | 0x05 => if rd = 0 ∧ rs2 = 0 ∧ arg < 14 then some (.csrw c rs1 (Fin.ofNat 32 arg)) else none
  | 0x08 => if arg = 0 then some (.tmr c rd rs1) else none
  | 0x09 => if arg = 0 then some (.tmw c rd rs1 rs2) else none
  | 0x0A => if arg = 0 then some (.pmov c rd rs1 rs2) else none
  | 0x0B => if rs2 = 0 ∧ arg = 0 then some (.pzero c rd rs1) else none
  | 0x0C => if rs2 = 0 ∧ arg = 0 then some (.pprobe c rd rs1) else none
  | 0x0D => if rs2 = 0 ∧ arg = 0 then some (.dqry c rd rs1) else none
  | 0x10 => if arg = 0 then some (.send c rd rs1 rs2) else none
  | 0x11 => if rs2 = 0 ∧ arg = 0 then some (.recv c rd rs1) else none
  | 0x14 => if arg = 0 then some (.wait c rd rs1 rs2) else none
  | 0x15 => if arg = 0 then some (.waitt c rd rs1 rs2) else none
  | 0x16 => if rs1 = 0 ∧ rs2 = 0 ∧ arg = 0 then some (.tide c rd) else none
  | 0x17 => if rs2 = 0 ∧ arg < 2 then some (.cntr c rd rs1 (arg.testBit 0)) else none
  | 0x18 => if rs2 = 0 ∧ arg = 0 then some (.rgr c rd rs1) else none
  | 0x19 => if rd = 0 ∧ arg = 0 then some (.rgw c rs1 rs2) else none
  | 0x1C => if rs1 = 0 ∧ rs2 = 0 ∧ arg = 0 then some (.setarm c rd) else none
  | _ => none

/-- Formats I, M and B, by opcode: the first two register fields and the 16-bit field. -/
def immInstr (c : Fin 16) (a b : Fin 32) (imm : BitVec 16) (op : Nat) : Option Instr :=
  match op with
  | 0x01 => some (.addi c a b imm)
  | 0x02 => some (.andi c a b imm)
  | 0x03 => some (.ori c a b imm)
  | 0x04 => some (.xori c a b imm)
  | 0x05 => some (.slti c a b imm)
  | 0x06 => some (.sltiu c a b imm)
  | 0x07 => shiftInstr (.slli c a b) imm
  | 0x08 => shiftInstr (.srli c a b) imm
  | 0x09 => shiftInstr (.srai c a b) imm
  | 0x0A => if b = 0 then some (.lui c a imm) else none
  | 0x0B => some (.shori c a b imm)
  | 0x0C => some (.jalr c a b imm)
  | 0x10 => some (.lb c a b imm)
  | 0x11 => some (.lh c a b imm)
  | 0x12 => some (.lw c a b imm)
  | 0x13 => some (.ld c a b imm)
  | 0x14 => some (.lbu c a b imm)
  | 0x15 => some (.lhu c a b imm)
  | 0x16 => some (.lwu c a b imm)
  | 0x18 => some (.sb c a b imm)
  | 0x19 => some (.sh c a b imm)
  | 0x1A => some (.sw c a b imm)
  | 0x1B => some (.sd c a b imm)
  | 0x20 => some (.beq c a b imm)
  | 0x21 => some (.bne c a b imm)
  | 0x22 => some (.blt c a b imm)
  | 0x23 => some (.bge c a b imm)
  | 0x24 => some (.bltu c a b imm)
  | 0x25 => some (.bgeu c a b imm)
  | 0x28 => if b = 0 then some (.jal c a imm) else none
  | _ => none

/-- The instruction of core `c` that a word is; none: an illegal instruction, which the command ILLEGAL_INSTRUCTION carries out. -/
def legalInstr (c : Fin 16) (w : Word) : Option Instr :=
  let a := regField w 21
  let b := regField w 16
  let d := regField w 11
  match Machine.fld w 31 26 with
  | 0x00 => aluInstr c a b d (Machine.fld w 10 0)
  | 0x30 => amoInstr c a b d (Machine.fld w 10 0)
  | 0x3F => sysInstr c a b d (Machine.fld w 10 5) (Machine.fld w 4 0)
  | op => immInstr c a b (immField w) op

/-! ### The word of an instruction -/

/-- Formats A and X. -/
def wordA (op : Nat) (rd rs1 rs2 : Fin 32) (func : Nat) : Word :=
  BitVec.ofNat 32 (op * 2 ^ 26 + rd.val * 2 ^ 21 + rs1.val * 2 ^ 16 + rs2.val * 2 ^ 11 + func)

def wordX (rd rs1 rs2 : Fin 32) (xfn arg : Nat) : Word := wordA 0x3F rd rs1 rs2 (xfn * 32 + arg)

/-- Formats I, M and B. -/
def wordI (op : Nat) (a b : Fin 32) (imm : BitVec 16) : Word :=
  BitVec.ofNat 32 (op * 2 ^ 26 + a.val * 2 ^ 21 + b.val * 2 ^ 16 + imm.toNat)

def shiftImm (k : Fin 64) : BitVec 16 := BitVec.ofNat 16 k.val

def amoFunc (op : Nat) (w u : Bool) : Nat := Machine.b2n u * 8 + Machine.b2n w * 4 + op

/-- The word of a register operation. -/
def aluWord : Instr → Option Word
  | .add _ rd rs1 rs2 => some (wordA 0 rd rs1 rs2 0x000)
  | .sub _ rd rs1 rs2 => some (wordA 0 rd rs1 rs2 0x001)
  | .and _ rd rs1 rs2 => some (wordA 0 rd rs1 rs2 0x002)
  | .or _ rd rs1 rs2 => some (wordA 0 rd rs1 rs2 0x003)
  | .xor _ rd rs1 rs2 => some (wordA 0 rd rs1 rs2 0x004)
  | .sll _ rd rs1 rs2 => some (wordA 0 rd rs1 rs2 0x005)
  | .srl _ rd rs1 rs2 => some (wordA 0 rd rs1 rs2 0x006)
  | .sra _ rd rs1 rs2 => some (wordA 0 rd rs1 rs2 0x007)
  | .slt _ rd rs1 rs2 => some (wordA 0 rd rs1 rs2 0x008)
  | .sltu _ rd rs1 rs2 => some (wordA 0 rd rs1 rs2 0x009)
  | .min _ rd rs1 rs2 => some (wordA 0 rd rs1 rs2 0x00A)
  | .max _ rd rs1 rs2 => some (wordA 0 rd rs1 rs2 0x00B)
  | .minu _ rd rs1 rs2 => some (wordA 0 rd rs1 rs2 0x00C)
  | .maxu _ rd rs1 rs2 => some (wordA 0 rd rs1 rs2 0x00D)
  | .mul _ rd rs1 rs2 => some (wordA 0 rd rs1 rs2 0x010)
  | .mulh _ rd rs1 rs2 => some (wordA 0 rd rs1 rs2 0x011)
  | .mulhu _ rd rs1 rs2 => some (wordA 0 rd rs1 rs2 0x012)
  | .div _ rd rs1 rs2 => some (wordA 0 rd rs1 rs2 0x014)
  | .divu _ rd rs1 rs2 => some (wordA 0 rd rs1 rs2 0x015)
  | .rem _ rd rs1 rs2 => some (wordA 0 rd rs1 rs2 0x016)
  | .remu _ rd rs1 rs2 => some (wordA 0 rd rs1 rs2 0x017)
  | .popc _ rd rs1 => some (wordA 0 rd rs1 0 0x020)
  | .clz _ rd rs1 => some (wordA 0 rd rs1 0 0x021)
  | .ctz _ rd rs1 => some (wordA 0 rd rs1 0 0x022)
  | .amoAdd _ rd rs1 rs2 w => some (wordA 0x30 rd rs1 rs2 (amoFunc 0 w false))
  | .amoSwp _ rd rs1 rs2 w => some (wordA 0x30 rd rs1 rs2 (amoFunc 1 w false))
  | .amoCas _ rd rs1 rs2 w => some (wordA 0x30 rd rs1 rs2 (amoFunc 2 w false))
  | .amoMax _ rd rs1 rs2 w u => some (wordA 0x30 rd rs1 rs2 (amoFunc 3 w u))
  | _ => none

/-- The word of an operation with an immediate, a load, a store, a branch or a jump. -/
def immWord : Instr → Option Word
  | .addi _ a b i => some (wordI 0x01 a b i)
  | .andi _ a b i => some (wordI 0x02 a b i)
  | .ori _ a b i => some (wordI 0x03 a b i)
  | .xori _ a b i => some (wordI 0x04 a b i)
  | .slti _ a b i => some (wordI 0x05 a b i)
  | .sltiu _ a b i => some (wordI 0x06 a b i)
  | .slli _ a b k => some (wordI 0x07 a b (shiftImm k))
  | .srli _ a b k => some (wordI 0x08 a b (shiftImm k))
  | .srai _ a b k => some (wordI 0x09 a b (shiftImm k))
  | .lui _ a i => some (wordI 0x0A a 0 i)
  | .shori _ a b i => some (wordI 0x0B a b i)
  | .jalr _ a b i => some (wordI 0x0C a b i)
  | .lb _ a b i => some (wordI 0x10 a b i)
  | .lh _ a b i => some (wordI 0x11 a b i)
  | .lw _ a b i => some (wordI 0x12 a b i)
  | .ld _ a b i => some (wordI 0x13 a b i)
  | .lbu _ a b i => some (wordI 0x14 a b i)
  | .lhu _ a b i => some (wordI 0x15 a b i)
  | .lwu _ a b i => some (wordI 0x16 a b i)
  | .sb _ a b i => some (wordI 0x18 a b i)
  | .sh _ a b i => some (wordI 0x19 a b i)
  | .sw _ a b i => some (wordI 0x1A a b i)
  | .sd _ a b i => some (wordI 0x1B a b i)
  | .beq _ a b i => some (wordI 0x20 a b i)
  | .bne _ a b i => some (wordI 0x21 a b i)
  | .blt _ a b i => some (wordI 0x22 a b i)
  | .bge _ a b i => some (wordI 0x23 a b i)
  | .bltu _ a b i => some (wordI 0x24 a b i)
  | .bgeu _ a b i => some (wordI 0x25 a b i)
  | .jal _ a i => some (wordI 0x28 a 0 i)
  | _ => none

/-- The word of a system or device operation. -/
def sysWord : Instr → Option Word
  | .fence _ sel => some (wordX 0 0 0 0x00 sel.val)
  | .trap _ code => some (wordX 0 (Fin.ofNat 32 (code.toNat / 32)) (Fin.ofNat 32 code.toNat) 0x01 0)
  | .halt _ => some (wordX 0 0 0 0x02 0)
  | .eret _ => some (wordX 0 0 0 0x03 0)
  | .csrr _ rd csr => if csr.val < 14 then some (wordX rd 0 0 0x04 csr.val) else none
  | .csrw _ rs1 csr => if csr.val < 14 then some (wordX 0 rs1 0 0x05 csr.val) else none
  | .tmr _ rd rs1 => some (wordX rd rs1 0 0x08 0)
  | .tmw _ rd rs1 rs2 => some (wordX rd rs1 rs2 0x09 0)
  | .pmov _ rd rs1 rs2 => some (wordX rd rs1 rs2 0x0A 0)
  | .pzero _ rd rs1 => some (wordX rd rs1 0 0x0B 0)
  | .pprobe _ rd rs1 => some (wordX rd rs1 0 0x0C 0)
  | .dqry _ rd rs1 => some (wordX rd rs1 0 0x0D 0)
  | .send _ rd rs1 rs2 => some (wordX rd rs1 rs2 0x10 0)
  | .recv _ rd rs1 => some (wordX rd rs1 0 0x11 0)
  | .wait _ rd rs1 rs2 => some (wordX rd rs1 rs2 0x14 0)
  | .waitt _ rd rs1 rs2 => some (wordX rd rs1 rs2 0x15 0)
  | .tide _ rd => some (wordX rd 0 0 0x16 0)
  | .cntr _ rd rs1 snap => some (wordX rd rs1 0 0x17 (Machine.b2n snap))
  | .rgr _ rd rs1 => some (wordX rd rs1 0 0x18 0)
  | .rgw _ rs1 rs2 => some (wordX 0 rs1 rs2 0x19 0)
  | .setarm _ rd => some (wordX rd 0 0 0x1C 0)
  | _ => none

/-- The word of a Tamane instruction; none for the other commands. -/
def coreWord (i : Instr) : Option Word := (aluWord i).or ((immWord i).or (sysWord i))

end Sys2Proof
end

