-- ==== Sys2Proof/WellFormed.lean ====
section
/-! DEFINITION. Well-formed commands: operands that a command's sender can give it. The meanings are total on all of them. -/

namespace Sys2Proof

/-- An offset in the 64 MiB of the register space (R41). -/
def spaceOk (off : Nat) : Bool := decide (off < 2 ^ 26)

/-- A width that an access can have, at an offset inside the register space (R43). -/
def accessOk (width off : Nat) : Bool := [8, 16, 32, 64].contains width && decide (off + width / 8 ≤ 2 ^ 26)

/-- A sideband register message carries 1 to 16 operations (R48). -/
def messageOk (ops : List SbOp) : Bool :=
  decide (1 ≤ ops.length ∧ ops.length ≤ 16) && ops.all (fun o => decide (o.code < 256) && spaceOk o.off)

/-- The name of a line on the wire (R208, R213): LDSEL in 49:46, the DPA in 45:0, a multiple of 64. -/
def lineOk (line : Nat) : Bool := decide (line < 2 ^ 50 ∧ line % 64 = 0)

/-- A host request: a 16-bit message tag and the address of a line. -/
def hostOk (mtag hpa : Nat) : Bool := decide (mtag < 2 ^ 16 ∧ hpa < 2 ^ 52 ∧ hpa % 64 = 0)

/-- The fields of a frame fit their places (R448). -/
def frameOk (f : Frame) : Bool :=
  decide (f.ty < 16 ∧ f.dest < 1024 ∧ f.src < 1024 ∧ f.lap < 8 ∧ f.seq < 4096 ∧ f.ack < 4096 ∧ f.tag < 4096 ∧
    f.txid < 65536 ∧ f.opcode < 256 ∧ f.line < 2 ^ 40)

/-- The fields of a LM payload fit their places (R466). -/
def lmOk (m : LmMsg) : Bool := decide (m.dev < 1024 ∧ m.link < 32 ∧ m.rxok < 512)

/-- The fields of a training block fit their places (R473). -/
def blockOk (b : TrainBlock) : Bool := decide (b.dev < 1024 ∧ b.link < 32 ∧ b.rxok < 512)

/-- A configuration request of a function. -/
def cfgOk (r : CfgReq) : Bool :=
  match r with
  | .read off => decide (off < 4096)
  | .cdat => true
  | .readDecoder _ => true
  | .readBi => true
  | .enumerate => true
  | .commit _ base size skip ways _ _ => decide (base < 2 ^ 52 ∧ 0 < size ∧ size < 2 ^ 52 ∧ skip < 2 ^ 50 ∧ 0 < ways)
  | .uncommit _ => true
  | .bi _ => true

/-- What a source reports fits its capture entry (R577). -/
def infoOk (i : Info) : Bool :=
  decide (i.atype < 16 ∧ i.akind < 8 ∧ i.addr < 2 ^ 56 ∧ i.mkind < 16 ∧ i.mdev < 1024 ∧ i.mid < 4096)

/-- Errors of the symbols of bursts: symbol numbers 0 to 18, or the burst check at 19. -/
def errsOk (e : List (List (Nat × Word))) : Bool := e.all (fun b => b.all (fun x => decide (x.1 < 20)))

/-- A chunk of bytes of a mailbox payload. -/
def payloadOk (d : List Byte) : Bool := decide (d.length ≤ 2 ^ 20)

/-- An extent of a mailbox command: a 64-bit DPA and a 64-bit length in 256 MiB blocks. -/
def extentOk (start blocks : Nat) : Bool :=
  decide (start < 2 ^ 64 ∧ blocks < 2 ^ 36)

/-- A command is well-formed. -/
def Instr.wf (i : Instr) : Bool :=
  match i with
  | .registerWrite _ width off val => accessOk width off && decide (val < 2 ^ width)
  | .registerPairLowRead _ width off => accessOk width off
  | .sidebandRegisterMessage ops => messageOk ops
  | .gpVWrite _ off _ => spaceOk off
  | .gpCWrite _ off _ => spaceOk off
  | .gpSequenceTimeout => true
  | .keyArm _ _ => true
  | .keyExpiry _ => true
  | .idxAddrWrite _ _ _ => true
  | .idxDataRead _ _ => true
  | .idxDataWrite _ _ _ => true
  | .idxTargetDone _ => true
  | .idxPairTimeout _ => true
  | .modeRequestRise _ => true
  | .modeRequestRun _ => true
  | .modeRequestDrain _ => true
  | .modeRequestHold _ => true
  | .modeRequestTest _ => true
  | .modeRequestOther _ _ => true
  | .modeTransitionEnd => true
  | .holdEntryComplete => true
  | .holdExitComplete => true
  | .holdLimitExpiry => true
  | .holdLimitWrite _ _ => true
  | .safecapExpiry => true
  | .coldReset cause => decide (cause.val ≤ 2)
  | .warmReset cause => decide (3 ≤ cause.val ∧ cause.val ≤ 5)
  | .genRstWarm _ => true
  | .genRstCold _ => true
  | .resetNLow _ => true
  | .resetNRelease => true
  | .supplyUndervoltage _ => true
  | .powerDieSupplyLoss => true
  | .portReset _ => true
  | .perstRelease _ _ => true
  | .bitternKeysDone => true
  | .bitternSramDone => true
  | .bitternMapBlockWritten _ block => decide (block < 2 ^ 21)
  | .bitternMapPhaseEnd _ => true
  | .bitternCellsZeroised _ cells => decide (0 < cells)
  | .bitternDataPhaseEnd _ => true
  | .setServable _ => true
  | .add _ _ _ _ => true
  | .sub _ _ _ _ => true
  | .and _ _ _ _ => true
  | .or _ _ _ _ => true
  | .xor _ _ _ _ => true
  | .sll _ _ _ _ => true
  | .srl _ _ _ _ => true
  | .sra _ _ _ _ => true
  | .slt _ _ _ _ => true
  | .sltu _ _ _ _ => true
  | .min _ _ _ _ => true
  | .max _ _ _ _ => true
  | .minu _ _ _ _ => true
  | .maxu _ _ _ _ => true
  | .mul _ _ _ _ => true
  | .mulh _ _ _ _ => true
  | .mulhu _ _ _ _ => true
  | .div _ _ _ _ => true
  | .divu _ _ _ _ => true
  | .rem _ _ _ _ => true
  | .remu _ _ _ _ => true
  | .popc _ _ _ => true
  | .clz _ _ _ => true
  | .ctz _ _ _ => true
  | .addi _ _ _ _ => true
  | .andi _ _ _ _ => true
  | .ori _ _ _ _ => true
  | .xori _ _ _ _ => true
  | .slti _ _ _ _ => true
  | .sltiu _ _ _ _ => true
  | .slli _ _ _ _ => true
  | .srli _ _ _ _ => true
  | .srai _ _ _ _ => true
  | .lui _ _ _ => true
  | .shori _ _ _ _ => true
  | .jalr _ _ _ _ => true
  | .lb _ _ _ _ => true
  | .lh _ _ _ _ => true
  | .lw _ _ _ _ => true
  | .ld _ _ _ _ => true
  | .lbu _ _ _ _ => true
  | .lhu _ _ _ _ => true
  | .lwu _ _ _ _ => true
  | .sb _ _ _ _ => true
  | .sh _ _ _ _ => true
  | .sw _ _ _ _ => true
  | .sd _ _ _ _ => true
  | .beq _ _ _ _ => true
  | .bne _ _ _ _ => true
  | .blt _ _ _ _ => true
  | .bge _ _ _ _ => true
  | .bltu _ _ _ _ => true
  | .bgeu _ _ _ _ => true
  | .jal _ _ _ => true
  | .amoAdd _ _ _ _ _ => true
  | .amoSwp _ _ _ _ _ => true
  | .amoCas _ _ _ _ _ => true
  | .amoMax _ _ _ _ _ _ => true
  | .fence _ _ => true
  | .fenceRelease _ => true
  | .trap _ _ => true
  | .halt _ => true
  | .eret _ => true
  | .csrr _ _ _ => true
  | .csrw _ _ _ => true
  | .tmr _ _ _ => true
  | .tmw _ _ _ _ => true
  | .pmov _ _ _ _ => true
  | .pzero _ _ _ => true
  | .pprobe _ _ _ => true
  | .dqry _ _ _ => true
  | .send _ _ _ _ => true
  | .sendStallRelease _ => true
  | .recv _ _ _ => true
  | .wait _ _ _ _ => true
  | .waitEventWake _ => true
  | .waitTimeout _ => true
  | .waitt _ _ _ _ => true
  | .waittEventWake _ => true
  | .waittTideReached _ => true
  | .tide _ _ => true
  | .cntr _ _ _ _ => true
  | .rgr _ _ _ => true
  | .rgw _ _ _ => true
  | .rgwApplied _ => true
  | .setarm _ _ => true
  | .watchdogExpiry _ => true
  | .pageMoveComplete _ _ errs => errsOk errs
  | .coreRestart _ _ => true
  | .coreRestartDeferred _ => true
  | .glxLoadImageStart _ data => payloadOk data
  | .glxLoadImageData _ _ data => payloadOk data
  | .glxLoadImageEnd _ _ data => payloadOk data
  | .imageLoadComplete => true
  | .stagingClaimLapse => true
  | .glxProgramMessage _ _ _ => true
  | .hostMessageTimeout _ _ => true
  | .glxGetLoadStatus _ => true
  | .glxGetAliasLayout _ => true
  | .glxGetReadiness _ => true
  | .hostreply _ => true
  | .armreq _ => true
  | .abortreq _ => true
  | .dcdadd _ => true
  | .dcdrel _ => true
  | .log _ => true
  | .setinfo _ => true
  | .setArm _ => true
  | .setAbort _ => true
  | .localCommit _ => true
  | .armWaitTimeout => true
  | .finalSend => true
  | .configSetSwap => true
  | .memRd _ mtag hpa _ => hostOk mtag hpa
  | .memRdData _ mtag hpa => hostOk mtag hpa
  | .memInv _ mtag hpa => hostOk mtag hpa
  | .memInvNt _ mtag hpa => hostOk mtag hpa
  | .memSpecRd _ mtag hpa => hostOk mtag hpa
  | .memClnEvct _ mtag hpa => hostOk mtag hpa
  | .memWr _ mtag hpa _ _ => hostOk mtag hpa
  | .memWrPtl _ mtag hpa _ _ _ => hostOk mtag hpa
  | .biConflict _ line => lineOk line
  | .birsp _ line _ => lineOk line
  | .bisnpTimeout _ line => lineOk line
  | .homeSliceAdmission _ => true
  | .channelWriteAccept _ => true
  | .readDataReturn _ errs => errsOk errs
  | .hostLinkTrained _ _ _ _ => true
  | .hostLinkDown _ _ => true
  | .viralReceived _ _ => true
  | .cxlIoConfigRequest _ req => cfgOk req
  | .hpxLdcntWrite _ _ _ => true
  | .addDcResponse _ start blocks _ => extentOk start blocks
  | .releaseDc _ start blocks => extentOk start blocks
  | .dcdResponseTimeout _ => true
  | .getEventRecords _ _ => true
  | .clearEventRecords _ _ _ => true
  | .getEventInterruptPolicy _ => true
  | .setEventInterruptPolicy _ policy => decide (policy < 2 ^ 32)
  | .getFwInfo _ => true
  | .transferFw _ _ _ data => payloadOk data
  | .activateFw _ _ _ => true
  | .getTimestamp _ => true
  | .setTimestamp _ ns => decide (ns < 2 ^ 64)
  | .getSupportedLogs _ => true
  | .getLog _ _ => true
  | .identifyMemoryDevice _ => true
  | .getPoisonList _ => true
  | .clearPoison _ line _ => lineOk line
  | .injectPoison _ line => lineOk line
  | .getScanMediaCapabilities _ => true
  | .scanMedia _ first last => decide (first < 2 ^ 64 ∧ last < 2 ^ 64)
  | .getScanMediaResults _ => true
  | .getDcConfiguration _ => true
  | .getDcExtentList _ => true
  | .getLdInfo _ => true
  | .getLdAllocations _ => true
  | .mailboxUnsupported _ opcode => decide (opcode < 2 ^ 16)
  | .spdmGetVersion _ => true
  | .spdmGetCapabilities _ => true
  | .spdmNegotiateAlgorithms _ => true
  | .spdmGetDigests _ => true
  | .spdmGetCertificate _ _ => true
  | .spdmChallenge _ => true
  | .spdmGetMeasurements _ => true
  | .spdmKeyExchange _ => true
  | .spdmFinish _ => true
  | .spdmHeartbeat _ => true
  | .spdmKeyUpdate _ => true
  | .spdmEndSession _ => true
  | .spdmGetCsr _ => true
  | .spdmSetCertificate _ _ chain => payloadOk chain
  | .spdmChunkSend _ => true
  | .spdmChunkGet _ => true
  | .releasePushResume => true
  | .heapDecodeComplete _ errs => errsOk errs
  | .heapJobStart _ => true
  | .cryInject _ _ => true
  | .pageBufferFlush _ _ => true
  | .engineEnableWrite _ _ _ => true
  | .keyLoad _ _ => true
  | .keyDestroy _ _ => true
  | .keySlotChangeComplete => true
  | .ephemeralKeyLoad _ _ => true
  | .rds f => frameOk f
  | .rdo f => frameOk f
  | .upg f => frameOk f
  | .rdc f => frameOk f
  | .wbm f => frameOk f
  | .evc f => frameOk f
  | .snpi f => frameOk f
  | .snps f => frameOk f
  | .fwds f => frameOk f
  | .fwdo f => frameOk f
  | .rspi f => frameOk f
  | .rsps f => frameOk f
  | .rspd f => frameOk f
  | .rspwb f => frameOk f
  | .fack f => frameOk f
  | .fackd f => frameOk f
  | .dats f => frameOk f
  | .date f => frameOk f
  | .datm f => frameOk f
  | .gnte f => frameOk f
  | .datc f => frameOk f
  | .wback f => frameOk f
  | .directorySweepEnd => true
  | .poolCacheFlush _ _ => true
  | .poolCacheFlushComplete _ => true
  | .directoryQueryRegister _ _ => true
  | .refreshWindowStart _ => true
  | .dramCommandIssue _ _ _ => true
  | .rdtThrottleExpiry _ _ => true
  | .zqCalibration _ => true
  | .dqsTracking _ _ => true
  | .trainingStart _ _ _ => true
  | .trainingComplete _ _ _ => true
  | .dmcCtlEnWrite _ _ _ => true
  | .dmcCeclr _ _ => true
  | .parityRebuildStart _ _ => true
  | .parityRebuildComplete _ => true
  | .frequencyChange _ _ _ => true
  | .frequencyChangeComplete _ => true
  | .sppr _ _ _ _ _ _ => true
  | .hppr _ _ _ _ _ _ => true
  | .pprComplete _ _ lost => lost.all (fun k => decide (k < 2 ^ 34))
  | .testWriteRaw _ _ => true
  | .testWriteBc _ _ => true
  | .testReadRaw _ _ => true
  | .testReadDecode _ _ => true
  | .sluiceWindowOpen => true
  | .deliverableRecompute => true
  | .urgencyPersistent => true
  | .frameReceive _ f _ _ _ _ => frameOk f
  | .slotTransmit _ => true
  | .replayTimeout _ => true
  | .laneErrorWindowEnd _ => true
  | .lmRequest _ m => lmOk m
  | .lmGrant _ m => lmOk m
  | .lmSwitch _ m => lmOk m
  | .lmAbort _ => true
  | .renegTimeout _ => true
  | .laneTrainingComplete _ _ _ _ => true
  | .renegotiate _ _ _ => true
  | .retrain _ _ => true
  | .cnvCtlWrite _ _ _ => true
  | .linkCounterClear _ _ => true
  | .tbDetect _ b => blockOk b
  | .tbLock _ _ b => blockOk b
  | .tbConfig _ b => blockOk b
  | .tbConfigAck _ => true
  | .tbEcho _ b => blockOk b
  | .tbEchoReply _ b => blockOk b
  | .tbGo _ => true
  | .lockTimeout _ => true
  | .laneLockLost _ => true
  | .msgFrame f => frameOk f
  | .mvreq f => frameOk f
  | .mvgo f => frameOk f
  | .mvref f => frameOk f
  | .mvdata f => frameOk f
  | .mvdone f => frameOk f
  | .mvget f => frameOk f
  | .mvclr f => frameOk f
  | .mvabt f => frameOk f
  | .tideFrame _ f _ _ => frameOk f
  | .tideFrameSend => true
  | .tideErrorLimit => true
  | .tideParentLost => true
  | .tideAlarm => true
  | .masterElection _ => true
  | .join f => frameOk f
  | .welcome f => frameOk f
  | .refuse f => frameOk f
  | .leave f => frameOk f
  | .hbeat f => frameOk f
  | .hback f => frameOk f
  | .heartbeatSend => true
  | .heartbeatMissLimit => true
  | .standbyProbeStart => true
  | .standbyProbeEnd => true
  | .heartbeatLoss => true
  | .memb f => frameOk f
  | .membershipApply => true
  | .route f => frameOk f
  | .linkrep f => frameOk f
  | .armed f => frameOk f
  | .commit f => frameOk f
  | .cmack f => frameOk f
  | .final f => frameOk f
  | .poolAbort f => frameOk f
  | .calseg f => frameOk f
  | .probe f => frameOk f
  | .courseSeed _ => true
  | .takeover f => frameOk f
  | .snap f => frameOk f
  | .reservedCreditLapse => true
  | .e2eTimeout dev line => decide (dev < 1024 ∧ line < 2 ^ 40)
  | .poolLeave _ => true
  | .poolCfgWrite _ _ => true
  | .rakeStart _ _ => true
  | .rakePage errs => errsOk errs
  | .rakeDone => true
  | .fuseRepair _ _ => true
  | .fuseRepairComplete _ => true
  | .faultAssertion _ i _ => infoOk i
  | .faultForce _ _ _ => true
  | .stickyClear _ _ _ => true
  | .capturePop _ => true
  | .captureClear _ => true
  | .eventRecordDelivery _ _ => true
  | .sidebandEventSend => true
  | .bootImageCheck => true
  | .tokenBufferWrite _ _ => true
  | .tokenCommand _ => true
  | .endWithoutToken _ => true
  | .tokenCommandComplete _ => true
  | .antiRollbackAdvance _ _ _ _ => true
  | .flashErase _ _ => true
  | .flashProgram _ _ => true
  | .slotEnable _ => true
  | .slotDisable _ => true
  | .slotPowerGood _ => true
  | .faultTimerExpiry _ => true
  | .fastTrip _ => true
  | .powerLimitTrip _ => true
  | .inputCollapse _ => true
  | .inputGood _ _ => true
  | .feedLost _ _ => true
  | .reverseCurrentTurnoff _ _ => true
  | .retryDelayEnd _ => true
  | .housekeepingRound rd => decide (rd.length ≤ 384)
  | .pauseStepApply => true
  | .counterClear _ => true
  | .snapshotScheduleLocal _ _ => true
  | .snapshotSchedulePool _ _ => true
  | .snapshotCancel _ => true
  | .snapshotLatch => true
  | .snapshotCopyComplete => true
  | .samplerCrossing _ => true
  | .sampleNoRequestTimeout _ => true
  | .samplePop _ => true
  | .sampleClear _ => true
  | .samplerConfigWrite _ _ _ => true
  | .firmwareStage _ => true
  | .firmwareStageComplete _ => true
  | .firmwareSwap _ => true
  | .firmwareSwapComplete => true
  | .firmwareConfirm _ => true
  | .illegalInstruction _ _ => true
  | .faultTimerStart _ => true
  | .faultTimerStop _ => true
  | .inputAboveUvth _ => true
  | .supplyRestored => true
  | .pllLock => true
  | .d2dTrainingComplete _ => true
  | .d2dModuleLost _ => true
  | .holdoverEnd => true
  | .phyLockLost _ => true
  | .caParityOrWriteCrcError _ _ _ => true
  | .heapEncodeComplete _ _ => true
  | .ideKmMessage _ _ => true
  | .flashOperationComplete => true
  | .boundaryScanInstruction _ => true

end Sys2Proof
end

