-- ==== Sys2Proof/Safety.lean ====
section
/-! DEFINITION. What a claim means by a safe step and a safe run, and the words in which claims say that a command finds the
device as its rule requires. -/

namespace Sys2Proof.Machine

/-- A step answers a next state: no fault, no refusal. -/
def StepSafe (s : State) : Prop := ∃ t, step s = .next t

/-- Every one of the next `n` steps answers a next state. -/
def RunSafe : Nat → State → Prop
  | 0, _ => True
  | n + 1, s => ∃ t, step s = .next t ∧ RunSafe n t

/-- No reaction of class ISOLATE, TRIM or SAFE is owed (R564): between commands every one has been carried out. -/
abbrev Quiet (s : State) : Prop := s.flt.react = []

/-- Every command in the queue is one that its sender can give. -/
abbrev QueueWf (s : State) : Prop := s.pending.all Instr.wf = true

/-- A core issues, and the fetch at its pc passes the checks of R104, R116 and R117. -/
abbrev Issuing (s : State) (c : Fin 16) : Prop :=
  issues s c.val = true ∧ (coreLoad s c.val .fetch (s.core c.val).pc.toNat 4).isOk = true

/-- An expiry with deadline `due`, in numbers of a clock of `per` core clocks, is carried out and not put off to the end of its own
clock (R13 to R16). -/
abbrev ExpiryActs (s : State) (per : Nat) (due : Option Nat) : Prop :=
  (decide (due = some (s.clock / per)) && !(s.closing && decide ((s.clock + 1) % per = 0))) = false

/-- The same for a deadline counted in tides. -/
abbrev TideExpiryActs (s : State) (due : Option Nat) : Prop :=
  (decide (due = some s.tide) && !(s.closing && tideLast s)) = false

/-- A path's write of a register without guard takes effect: the device is not in reset and the write is not refused (R49 to
R51, R62). -/
abbrev MayWrite (s : State) (p : Path) (off : Nat) : Prop := s.inReset = false ∧ writeRefused s p off = false ∧ isGk off = false

/-- A path's write of a GK register takes effect: its key is armed and no complement-pair sequence is open (R55, R59). -/
abbrev MayWriteGk (s : State) (p : Path) (off : Nat) : Prop :=
  s.inReset = false ∧ writeRefused s p off = false ∧ isGk off = true ∧ s.acc.gp = none ∧ keyArmed s p = true

/-- A path's whole complement-pair sequence on a GP register takes effect: the device is not in reset, the write is not refused
and no other sequence is open (R53, R55). -/
abbrev MayWriteGp (s : State) (p : Path) (off : Nat) : Prop :=
  s.inReset = false ∧ writeRefused s p off = false ∧ s.acc.gp = none

/-- The state in which an accepted mode request of code `k` is judged: the key is consumed and GEN_MODEREQ holds the code. -/
def requested (s : State) (p : Path) (k : Nat) : State := (disarm s p).setF Reg.GEN_MODEREQ 2 0 k

/-- A mode request judged in `u` with the outcome `t` is noted with what it found, in the model's own field, so that a fault reaction
of the same clock can still go first (R74). -/
def noted (u : State) (k : Nat) (t : State) : State :=
  { t with mode := { t.mode with asked := some { clock := u.clock, target := k, mode := u.reg Reg.GEN_MODE, modex := u.reg Reg.GEN_MODEX
                                                 trans := u.mode.trans, holdFrom := u.mode.holdFrom, limitOwed := u.mode.limitOwed
                                                 after := t.mode.trans } } }

/-- The rake armed by a Scan Media from DPA `a` to `b` as a background command of an issuer. -/
def scanArm (s : State) (m : Issuer) (a b : Nat) : State :=
  let s := { s with port := { s.port with bg := some (issuerKey m, 0x4304) } }
  let s := (s.setF Reg.RAKE_FIRST_LO 31 12 (a / 4096)).setF Reg.RAKE_FIRST_HI 13 0 (a / 2 ^ 32)
  let s := (s.setF Reg.RAKE_LAST_LO 31 12 (b / 4096)).setF Reg.RAKE_LAST_HI 13 0 (b / 2 ^ 32)
  rakeStart s

/-- The device took a frame under the configuration set that is active now (R189). -/
abbrev TakenNow (s : State) (f : Frame) : Prop := takenSet s f = s.sets.swaps

/-- The device took a frame under an earlier set `o`, whose values are still held (R189). -/
abbrev TakenUnder (s : State) (f : Frame) (o : OldSet) : Prop :=
  takenSet s f ≠ s.sets.swaps ∧ s.sets.olds.find? (fun x => decide (x.num = takenSet s f)) = some o

/-! ### Host requests -/

/-- The port of a logical device is up, and the device is not in BOOT. -/
abbrev HostUp (s : State) (ld : Nat) : Prop :=
  portUp s ld = true ∧ s.code ≠ Mode.boot

/-- The port has a credit for the request (R203). -/
abbrev HostTakes (s : State) (ld : Nat) : Prop := HostUp s ld ∧ noCredit s ld = false

/-- A request at decoded address `a` passes the ingress checks: its window is valid and, for a request that changes the line,
writable, its DPA lies in an ACCEPTED extent (R207 to R209), and no parity error stands against its TAGRES entry (R234). -/
abbrev IngressPasses (s : State) (ld a : Nat) (changes : Bool) : Prop :=
  badTagres s ld (a / 2 ^ 46 % 16) = false ∧ (tagres s ld (a / 2 ^ 46 % 16)).testBit 31 = true ∧ inExtent s ld (a % 2 ^ 46 / 64 * 64) = true ∧
    (changes = true → (tagres s ld (a / 2 ^ 46 % 16)).testBit 30 = false)

/-- The request as ingress fixes it (R32, R208, R210): its task tag, key slot, pool address, sluice and line check. -/
def hostReq (s : State) (k : ReqKind) (ld mtag a : Nat) (hdmh : Bool) (data : Line) (mask : Nat) (poison : Bool) : Req :=
  let dpa := a % 2 ^ 46 / 64 * 64
  let tag := tagres s ld (a / 2 ^ 46 % 16) % 4096
  { id := (takeId s).2, origin := .host ld mtag, kind := k, dev := (poolTarget s dpa).1, line := (poolTarget s dpa).2
    tag := tag, slot := if (tagres s ld (a / 2 ^ 46 % 16)).testBit 29 then tagSlot s tag else ldSlot s ld
    sluice := sluiceOf s tag dpa, data := data, mask := mask, poison := poison, hdmh := hdmh
    off := 0, wide := false, a := 0, b := 0, lc := madeCheck data }

/-- The port's counter of reads or of writes advances (R665). -/
def counted (s : State) (ld : Nat) (write : Bool) : State := tick s (bHost (ld / 16)) (if write then 1 else 0) 1

/-- The code of a check that fails. -/
def errorOf {α : Type} : Except Nat α → Option Nat
  | .error r => some r
  | .ok _ => none

end Sys2Proof.Machine
end

