-- ==== Sys2Proof/Certificates/Slice0/Obligations.lean ====
section
/-! DEFINITION. The statements for the provers: what the rules of spec/ say each command does, and the invariant that every step
keeps. In them `settle` carries out the reactions that fault assertions have left owed (R564) and `flow` lets the open
transactions of the memory path go on; SettleAndFlowAtRest says when they change nothing. -/

open Sys2Proof Sys2Proof.Machine

/-- Where no reaction is owed settle is the identity; after settle none is owed; and where no BISnp waits to be sent, no
transaction can go on and no move has a job to queue, flow is the identity. -/
def Obligations.SettleAndFlowAtRest : Prop :=
  (∀ (s : State), s.flt.react = [] → settle s = s) ∧
  (∀ (s : State), (settle s).flt.react = []) ∧
  (∀ (s : State), pushBis s s.coh.txns = s → flowStep s = none → s.tier.moves.filterMap (moveJob s) = [] →
    s.tier.peerMoves.filterMap (peerJob s) = [] → flow s = s)

/-- For every command c, queue rest r and state s: step of s with c in front of r is exec c on s with queue r; on an empty
queue a step is the end of a core clock (the model's choice, log entry 2): the expiries put off to it are carried out in
their order, the first outcome that is no next state being the step's, and the clock advances. -/
def Obligations.StepRunsTheFrontCommand : Prop :=
  (∀ (c : Instr) (r : List Instr) (s : State), step { s with pending := c :: r } = exec c { s with pending := r }) ∧
  (∀ (s : State), s.pending = [] → step s = closeClock s.deferred { s with deferred := [], closing := true }) ∧
  (∀ (s : State), closeClock [] s = .next (clockTick { clockEnd s with closing := false })) ∧
  (∀ (c : Timer) (r : List Timer) (s t : State), expire c s = .next t → closeClock (c :: r) s = closeClock r t)

/-- REGISTER_WRITE of 32 aligned bits to a register of a table with no effect of its own stores, for each field, what its
type allows (writtenWord), but that it clears no W1C bit that hardware set in this clock; the bits are: RW takes the
written bit, a W1C bit written 1 clears, a W1S bit written 1 sets, others stay. A set-held register not armed takes it in
the shadow copy; a narrow or misaligned write is discarded and raised. -/
def Obligations.PlainWritesFollowFieldTypes : Prop :=
  (∀ (s : State) (p : Path) (off val : Nat) (d : RegDesc), s.inReset = false → writeRefused s p (off) = false →
    flashBarred s p off = false → accessBytes p 32 off = some 4 → off % 4 = 0 → canonOff off = off →
    windowOf off = none → off ≠ Reg.GRD_KEY → regDesc off = some d → d.guard = .none → d.setHeld = false →
    effectOf d.base = none →
    exec (.registerWrite p 32 off val) s = .next (settle (flow (settle (takeWrite (s.setReg off (writtenWord d
      (indexOf d off) (s.reg off) (BitVec.ofNat 32 val &&& ~~~(smGet 0 s.acc.hwSet off &&& BitVec.ofNat 32 d.w1c))))
      off))))) ∧
  (∀ (s : State) (p : Path) (off val : Nat) (d : RegDesc), s.inReset = false → writeRefused s p (off) = false →
    flashBarred s p off = false → accessBytes p 32 off = some 4 → off % 4 = 0 → canonOff off = off →
    windowOf off = none → off ≠ Reg.GRD_KEY → regDesc off = some d → d.guard = .none → d.setHeld = true →
    setArmed s = false →
    exec (.registerWrite p 32 off val) s = .next (settle (flow (settle (s.setSreg off (writtenWord d (indexOf d off)
      (s.sreg off) (BitVec.ofNat 32 val))))))) ∧
  (∀ (s : State) (off : Nat) (d : RegDesc), regDesc off = some d →
    takeWrite s off = (if hwUpdated.contains d.base then s.noteWrite off d.rw else s)) ∧
  (∀ (d : RegDesc) (old v : Word) (i : Nat), i < 32 →
    (typedValue d old v).getLsbD i = ((v.getLsbD i && (d.rw.testBit i || d.w1s.testBit i)) || (old.getLsbD i &&
      !d.rw.testBit i && !(v.getLsbD i && d.w1c.testBit i)))) ∧
  (∀ (s : State) (p : Path) (width off val b : Nat), s.inReset = false → accessBytes p width off = some b →
    (off % b ≠ 0 ∨ b < 4) →
    exec (.registerWrite p width off val) s = .next (settle (flow (settle (raiseWith s Src.misaligned (pathInfo p true
      off))))))

/-- REGISTER_PAIR_LOW_READ answers the low word and latches the high word for that path alone; the path's next read of the
high word answers what was latched, whatever the registers hold by then, and forgets it; another path's latch is
untouched. -/
def Obligations.PairReadsAreOneValue : Prop :=
  (∀ (s : State) (p : Path) (off : Nat), s.inReset = false → accessBytes p 32 off = some 4 → off % 4 = 0 →
    canonOff off = off → readRefused s p off = false → windowOf off = none → isPairLow off = true →
    hiOf s.acc.hi p off = none → off ≠ Reg.SEC_TOKDATA → off ≠ Reg.HOME_DQDATLO →
    exec (.registerPairLowRead p 32 off) s = .next (settle (flow (settle ((latchHi s p off).emit (.value p (readValue
      s p off).toNat)))))) ∧
  (∀ (s : State) (p q : Path) (off : Nat), isPairLow off = true →
    hiOf (latchHi s p off).acc.hi p (off + 4) = some (readValue s p (off + 4)) ∧ (q ≠ p →
    ∀ o, hiOf (latchHi s p off).acc.hi q o = hiOf s.acc.hi q o)) ∧
  (∀ (s : State) (p : Path) (off : Nat) (v : Word), hiOf s.acc.hi p off = some v → off ≠ Reg.HOME_DQDATLO →
    off ≠ Reg.HOME_DQDATHI → (readPlain s p off).2 = v ∧ hiOf (readPlain s p off).1.acc.hi p off = none)

/-- SIDEBAND_REGISTER_MESSAGE with 1 to 16 operations runs them in their order, each on what the ones before it left, and
answers one response; the response has as many entries as the message has operations; a reserved code answers 3 and a
misaligned offset 2 with value 0. -/
def Obligations.SidebandMessagesAnswerEveryOperation : Prop :=
  (∀ (s : State) (ops : List SbOp), s.inReset = false → 1 ≤ ops.length → ops.length ≤ 16 →
    exec (.sidebandRegisterMessage ops) s = .next (settle (flow (settle ((sidebandOps ops (s, [])).1.emit (.sideband
      (sidebandOps ops (s, [])).2)))))) ∧
  (∀ (s : State) (ops : List SbOp) (l : List (Nat × Word)), (sidebandOps ops (s, l)).2.length = l.length + ops.length) ∧
  (∀ (s : State) (a b : SbOp) (l : List (Nat × Word)), sidebandOps [a, b] (s, l) = ((sidebandOp (sidebandOp s a).1
    b).1, l ++ [(sidebandOp s a).2, (sidebandOp (sidebandOp s a).1 b).2])) ∧
  (∀ (s : State) (o : SbOp), 2 ≤ o.code → sidebandOp s o = (s, 3, 0)) ∧
  (∀ (s : State) (o : SbOp), o.code < 2 → o.off % 4 ≠ 0 → (sidebandOp s o).2 = (2, 0))

/-- GP_V_WRITE with no sequence open opens one with its path, offset, value and clock. GP_C_WRITE by the same path to the
matching _C offset within 64 clocks, with the complement, closes it and gives the register the value; with another value
it closes it and records CAUSE 1; with no sequence open it records CAUSE 4. GP_SEQUENCE_TIMEOUT from clock 65 on closes it
with CAUSE 2, and before changes nothing. -/
def Obligations.ComplementPairs : Prop :=
  (∀ (s : State) (p : Path) (off : Nat) (v : Word) (d : RegDesc), s.inReset = false → writeRefused s p (off) = false →
    isGp off = true → canonOff off = off → windowOf off = none → off ≠ Reg.GRD_KEY → flashBarred s p off = false →
    off = gpBase off → regDesc off = some d → d.guard = .gp → s.acc.gp = none →
    exec (.gpVWrite p off v) s = .next (settle (flow (settle
      ({ s with acc := { s.acc with gp := some { path := p, off := off, val := v, clock := s.clock } } }))))) ∧
  (∀ (s : State) (p : Path) (v : Word) (c : Nat), s.inReset = false → writeRefused s p (Reg.GRD_TESTG 1) = false →
    s.acc.gp = some { path := p, off := Reg.GRD_TESTG 0, val := v, clock := c } → s.clock < c + 65 →
    exec (.gpCWrite p (Reg.GRD_TESTG 1) (~~~ v)) s = .next (settle (flow (settle
      ({ s with acc := { s.acc with gp := none } }.setReg (Reg.GRD_TESTG 0) v))))) ∧
  (∀ (s : State) (p : Path) (off : Nat) (v w : Word) (d : RegDesc) (c : Nat), s.inReset = false →
    writeRefused s p (off) = false → isGp off = true → canonOff off = off → windowOf off = none → off ≠ Reg.GRD_KEY →
    flashBarred s p off = false → off ≠ gpBase off → regDesc off = some d → d.guard = .gp →
    s.acc.gp = some { path := p, off := d.base, val := v, clock := c } → d.base + 4 = off → w ≠ ~~~ v →
    s.clock < c + 65 →
    exec (.gpCWrite p off w) s = .next (settle (flow (settle (raiseWith (guardRecord
      { s with acc := { s.acc with gp := none } } 1 (pathCode p) d.base) Src.guardFailed (pathInfo p true d.base)))))) ∧
  (∀ (s : State) (p : Path) (off : Nat) (w : Word) (d : RegDesc), s.inReset = false → writeRefused s p (off) = false →
    isGp off = true → canonOff off = off → windowOf off = none → off ≠ Reg.GRD_KEY → flashBarred s p off = false →
    off ≠ gpBase off → regDesc off = some d → d.guard = .gp → s.acc.gp = none →
    exec (.gpCWrite p off w) s = .next (settle (flow (settle (raiseWith (guardRecord s 4 (pathCode p) off)
      Src.guardFailed (pathInfo p true off)))))) ∧
  (∀ (s : State) (g : GpSeq), s.inReset = false → s.acc.gp = some g → g.clock + 65 ≤ s.clock →
    exec .gpSequenceTimeout s = .next (settle (flow (settle (raiseWith (guardRecord
      { s with acc := { s.acc with gp := none } } 2 (pathCode g.path) g.off) Src.guardFailed (pathInfo g.path true
      g.off)))))) ∧
  (∀ (s : State) (g : GpSeq), s.inReset = false → s.acc.gp = some g → s.clock < g.clock + 65 →
    exec .gpSequenceTimeout s = .next (settle (flow (settle (s)))))

/-- KEY_ARM with the key value and no sequence open arms the path's key in this clock, any other value disarms it. A
guarded (GK) write with the key armed takes effect and consumes the key; without it nothing but GRD_STAT's CAUSE 5 record
and its source changes. KEY_EXPIRY disarms the key once 65,536 clocks have passed, and before does nothing. -/
def Obligations.KeyGuardArmsAndConsumes : Prop :=
  (∀ (s : State) (p : Path), s.inReset = false → writeRefused s p (Reg.GRD_KEY) = false → s.acc.gp = none →
    exec (.keyArm p keyValue) s = .next (settle (flow (settle
      ({ s with acc := { s.acc with keys := dropKey s.acc.keys p ++ [(p, s.clock)] } }))))) ∧
  (∀ (s : State) (p : Path) (v : Word), s.inReset = false → writeRefused s p (Reg.GRD_KEY) = false → s.acc.gp = none →
    v ≠ keyValue →
    exec (.keyArm p v) s = .next (settle (flow (settle
      ({ s with acc := { s.acc with keys := dropKey s.acc.keys p } }))))) ∧
  (∀ (s : State) (p : Path) (off : Nat) (eff : State → State), s.acc.gp = none → keyArmed s p = true →
    gkWrite s p off eff = eff { s with acc := { s.acc with keys := dropKey s.acc.keys p } }) ∧
  (∀ (s : State) (p : Path) (off : Nat) (eff : State → State), s.acc.gp = none → keyArmed s p = false →
    gkWrite s p off eff = raiseWith (guardRecord s 5 (pathCode p) off) Src.keyGuardRefused (pathInfo p true off)) ∧
  (∀ (s : State) (p q : Path), keyClock (dropKey s.acc.keys p) p = none ∧ (q ≠ p →
    keyClock (dropKey s.acc.keys p) q = keyClock s.acc.keys q)) ∧
  (∀ (s : State) (p : Path) (c : Nat), ExpiryActs s 1 (some (c + 65536)) → s.inReset = false →
    keyClock s.acc.keys p = some c → c + 65536 ≤ s.clock →
    exec (.keyExpiry p) s = .next (settle (flow (settle
      ({ s with acc := { s.acc with keys := dropKey s.acc.keys p } }))))) ∧
  (∀ (s : State) (p : Path) (c : Nat), ExpiryActs s 1 (some (c + 65536)) → s.inReset = false →
    keyClock s.acc.keys p = some c → s.clock < c + 65536 → exec (.keyExpiry p) s = .next (settle (flow (settle (s)))))

/-- IDX_ADDR_WRITE sets target, AINC, PAIR and the word address. With AINC 0 and nothing in progress, IDX_DATA_WRITE of a
single word that its target takes is posted with BUSY 1, and with PAIR 1 it is held with HELD 1; IDX_DATA_READ of the
package words answers the word, of an absent target sets ERR and answers all ones; IDX_TARGET_DONE gives the word to the
target and clears BUSY; IDX_PAIR_TIMEOUT after 65,536 clocks discards the held word: HELD 0, ERR 1, CAUSE 2. -/
def Obligations.IndirectWindowAccesses : Prop :=
  (∀ (s : State) (p : Path) (n : Fin 4) (v : Word), s.inReset = false → writeRefused s p (Reg.IDX_ADDR n) = false →
    (winOf s n).held = none →
    exec (.idxAddrWrite p n v) s = .next (settle (flow (settle (s.setReg (Reg.IDX_ADDR n) (v &&& 0xFCFFFFFF#32)))))) ∧
  (∀ (s : State) (p : Path) (n : Fin 4), s.inReset = false → readRefused s p (Reg.IDX_DATA n) = false →
    winOf s n = {} → bit (s.reg (Reg.IDX_ADDR n)) 27 = false → fld (s.reg (Reg.IDX_ADDR n)) 31 28 = 2 →
    pkgWordAt (fld (s.reg (Reg.IDX_ADDR n)) 23 0) = true → s.slot.dead = false → readyD2d s 2 = true →
    exec (.idxDataRead p n) s = .next (settle (flow (settle (s.emit (.value p (BitVec.ofNat 32 (pkgVal s (fld (s.reg
      (Reg.IDX_ADDR n)) 23 0))).toNat)))))) ∧
  (∀ (s : State) (p : Path) (n : Fin 4), s.inReset = false → readRefused s p (Reg.IDX_DATA n) = false →
    winOf s n = {} → bit (s.reg (Reg.IDX_ADDR n)) 27 = false →
    winAbsent s n (fld (s.reg (Reg.IDX_ADDR n)) 31 28) (fld (s.reg (Reg.IDX_ADDR n)) 23 0) = true →
    exec (.idxDataRead p n) s = .next (settle (flow (settle ((s.hwBit (Reg.IDX_STAT n) 1).emit (.value p
      0xFFFFFFFF)))))) ∧
  (∀ (s : State) (p : Path) (n : Fin 4) (v : Word), s.inReset = false → writeRefused s p (Reg.IDX_DATA n) = false →
    winOf s n = {} → bit (s.reg (Reg.IDX_ADDR n)) 27 = false → bit (s.reg (Reg.IDX_ADDR n)) 26 = false →
    fld (s.reg (Reg.IDX_ADDR n)) 31 28 = 2 → s.slot.dead = false → readyD2d s 2 = true →
    exec (.idxDataWrite p n v) s = .next (settle (flow (settle ((setWin s n
      { busy := some { path := p, target := 2, waddr := fld (s.reg (Reg.IDX_ADDR n)) 23 0, pair := false, write := true, val := v, pairC := none, rd := none } }).setBit
      (Reg.IDX_STAT n) 0 true))))) ∧
  (∀ (s : State) (p : Path) (n : Fin 4) (v : Word), s.inReset = false → writeRefused s p (Reg.IDX_DATA n) = false →
    winOf s n = {} → bit (s.reg (Reg.IDX_ADDR n)) 26 = true →
    exec (.idxDataWrite p n v) s = .next (settle (flow (settle ((setWin s n { held := some (p, v, s.clock) }).setBit
      (Reg.IDX_STAT n) 3 true))))) ∧
  (∀ (s : State) (n : Fin 4) (a : WinAcc), s.inReset = false → winOf s n = { busy := some a } → a.target = 2 →
    pkgWordAt a.waddr = true → s.slot.dead = false → readyD2d s 2 = true →
    exec (.idxTargetDone n) s = .next (settle (flow (settle (setWin ((setWin
      { s with hk := { s.hk with pkg := smSet none s.hk.pkg a.waddr (some a.val) } } n {}).setBit (Reg.IDX_STAT n) 0
      false) n {}))))) ∧
  (∀ (s : State) (n : Fin 4) (p : Path) (v : Word) (c : Nat), ExpiryActs s 1 (some (c + 65536)) → s.inReset = false →
    winOf s n = { held := some (p, v, c) } → c + 65536 ≤ s.clock →
    exec (.idxPairTimeout n) s = .next (settle (flow (settle (raiseWith (guardRecord (((setWin s n {}).setBit
      (Reg.IDX_STAT n) 3 false).hwBit (Reg.IDX_STAT n) 1) 2 (pathCode p) (Reg.IDX_DATA n)) Src.guardFailed (pathInfo p
      true (Reg.IDX_DATA n)))))))

/-- With the write accepted, no transition in progress and the mode allowed by the life-cycle state: RISE leaves SAFE with
no SAFE-class sticky bit and SECB READY, else REQRES 4; RUN leaves RISE or TRIM when every enabled function is READY, and
DRAIN and HOLD; DRAIN and HOLD leave RUN, recording the mode to return to; TEST leaves RUN with every extent FREE and no
pool; BOOT, TRIM and SAFE, and any mode during a transition, are refused with REQRES 3 (a fault reaction of the same clock
counts as ended: the request is judged in the mode it leads to); in TEST any request is a warm reset with cause 5. -/
def Obligations.ModeRequestsStartTransitions : Prop :=
  (∀ (s : State) (p : Path), MayWriteGk s p Reg.GEN_MODEREQ → s.mode.trans = none →
    (requested s p 1).changing = false → (requested s p 1).code = Mode.safe → lcAllows (requested s p 1) 1 = true →
    stickyOfClass (requested s p 1) 5 = false → readySec (requested s p 1) = true →
    exec (.modeRequestRise p) s = .next (settle (noted (requested s p 1) 1 (beginTrans (requested s p 1) Mode.rise 0
      true)))) ∧
  (∀ (s : State) (p : Path), MayWriteGk s p Reg.GEN_MODEREQ → s.mode.trans = none →
    (requested s p 1).changing = false → (requested s p 1).code = Mode.safe → lcAllows (requested s p 1) 1 = true →
    readySec (requested s p 1) = false →
    exec (.modeRequestRise p) s = .next (settle (noted (requested s p 1) 1 ((requested s p 1).setF Reg.GEN_MODE 14 12
      4)))) ∧
  (∀ (s : State) (p : Path), MayWriteGk s p Reg.GEN_MODEREQ → s.mode.trans = none →
    (requested s p 2).changing = false → (requested s p 2).code = Mode.rise → lcAllows (requested s p 2) 2 = true →
    enabledReady (requested s p 2) = true →
    exec (.modeRequestRun p) s = .next (settle (noted (requested s p 2) 2 (beginTrans (requested s p 2) (if
      clearForRun (requested s p 2) then Mode.run else Mode.trim) 0 true)))) ∧
  (∀ (s : State) (p : Path), MayWriteGk s p Reg.GEN_MODEREQ → s.mode.trans = none →
    (requested s p 2).changing = false → (requested s p 2).code = Mode.drain → lcAllows (requested s p 2) 2 = true →
    exec (.modeRequestRun p) s = .next (settle (noted (requested s p 2) 2 (beginTrans (requested s p 2) (runOrTrim
      (requested s p 2)) 0 true)))) ∧
  (∀ (s : State) (p : Path), MayWriteGk s p Reg.GEN_MODEREQ → s.mode.trans = none →
    (requested s p 2).changing = false → (requested s p 2).code = Mode.hold → lcAllows (requested s p 2) 2 = true →
    exec (.modeRequestRun p) s = .next (settle (noted (requested s p 2) 2 (beginTrans (requested s p 2) (if (requested
      s p 2).fld Reg.GEN_MODEX 6 4 = Mode.drain then Mode.drain else runOrTrim (requested s p 2)) 2 true)))) ∧
  (∀ (s : State) (p : Path), MayWriteGk s p Reg.GEN_MODEREQ → s.mode.trans = none →
    (requested s p 4).changing = false → (requested s p 4).code = Mode.run → lcAllows (requested s p 4) 4 = true →
    exec (.modeRequestDrain p) s = .next (settle (noted (requested s p 4) 4 (beginTrans ((requested s p 4).setF
      Reg.GEN_MODEX 6 4 Mode.run) Mode.drain 0 true)))) ∧
  (∀ (s : State) (p : Path), MayWriteGk s p Reg.GEN_MODEREQ → s.mode.trans = none →
    (requested s p 5).changing = false → (requested s p 5).code = Mode.run → lcAllows (requested s p 5) 5 = true →
    exec (.modeRequestHold p) s = .next (settle (noted (requested s p 5) 5 (beginTrans
      { (requested s p 5).setF Reg.GEN_MODEX 6 4 Mode.run with mode := { (requested s p 5).mode with holdFrom := some s.clock, limitOwed := false } }
      Mode.hold 1 true)))) ∧
  (∀ (s : State) (p : Path), MayWriteGk s p Reg.GEN_MODEREQ → s.mode.trans = none →
    (requested s p 6).changing = false → (requested s p 6).code = Mode.run → lcAllows (requested s p 6) 6 = true →
    extentsFree (requested s p 6) = true → (requested s p 6).fld Reg.POOL_STAT 31 29 = 0 →
    exec (.modeRequestTest p) s = .next (settle (noted (requested s p 6) 6 (beginTrans (requested s p 6) Mode.test 0
      true)))) ∧
  (∀ (s : State) (p : Path) (k : Fin 8), k = 0 ∨ k = 3 ∨ k = 7 → MayWriteGk s p Reg.GEN_MODEREQ →
    s.mode.trans = none → (requested s p k).changing = false → (requested s p k).code ≠ Mode.test →
    exec (.modeRequestOther p k) s = .next (settle (noted (requested s p k) k ((requested s p k).setF Reg.GEN_MODE 14
      12 3)))) ∧
  (∀ (s : State) (p : Path) (t : Trans), MayWriteGk s p Reg.GEN_MODEREQ → s.mode.trans = some t →
    t.react = false ∨ t.since ≠ s.clock → ((requested s p 1).changing = true →
    exec (.modeRequestRise p) s = .next (settle (noted (requested s p 1) 1 ((requested s p 1).setF Reg.GEN_MODE 14 12
      3)))) ∧ ((requested s p 2).changing = true →
    exec (.modeRequestRun p) s = .next (settle (noted (requested s p 2) 2 ((requested s p 2).setF Reg.GEN_MODE 14 12
      3)))) ∧ ((requested s p 4).changing = true →
    exec (.modeRequestDrain p) s = .next (settle (noted (requested s p 4) 4 ((requested s p 4).setF Reg.GEN_MODE 14 12
      3)))) ∧ ((requested s p 5).changing = true →
    exec (.modeRequestHold p) s = .next (settle (noted (requested s p 5) 5 ((requested s p 5).setF Reg.GEN_MODE 14 12
      3)))) ∧ ((requested s p 6).changing = true →
    exec (.modeRequestTest p) s = .next (settle (noted (requested s p 6) 6 ((requested s p 6).setF Reg.GEN_MODE 14 12
      3))))) ∧
  (∀ (s : State) (t : Trans), s.mode.trans = some t → t.react = true → t.since = s.clock →
    reactionDone s = endTrans s t) ∧
  (∀ (s : State) (p : Path) (k : Fin 8), MayWriteGk s p Reg.GEN_MODEREQ → (requested s p k).changing = false →
    (requested s p k).code = Mode.test →
    exec (.modeRequestOther p k) s = .next (settle (deviceReset (requested s p k) false 5)))

/-- beginTrans sets CHANGING, keeps CODE, notes the mode to reach and gives REQRES 1 to a request. MODE_TRANSITION_END
ends a transition without HOLD steps, HOLD_ENTRY_COMPLETE one into HOLD once no transaction is open (the channels in
self-refresh), HOLD_EXIT_COMPLETE one out of HOLD; endTrans clears CHANGING, sets CODE to the mode reached (with no
TRIM-class reaction deferred) and a changed CODE leaves the old one in PREV; and no transition is left. HOLD_LIMIT_EXPIRY
in HOLD, with the limit passed and no HOLD step running, starts the exit as for a request RUN and raises "hold limit";
during the entry or a step it is owed; HOLD_LIMIT_WRITE of 0 or above 50,000 reads back 50,000; SAFECAP_EXPIRY 10 s after
SAFE clears SAFECAP, and before changes nothing. -/
def Obligations.TransitionsEndAndTimeOut : Prop :=
  (∀ (s : State) (m k : Nat) (q : Bool), (beginTrans s m k q).changing = true ∧ (beginTrans s m k q).code = s.code ∧
    ((beginTrans s m k q).mode.trans.map (fun t => (t.goal, t.req, t.kind)) = some (m, q, k)) ∧ (q = true →
    (beginTrans s m k q).fld Reg.GEN_MODE 14 12 = 1)) ∧
  (∀ (s : State) (t : Trans), s.mode.trans = some t → t.kind = 0 → t.goal ≠ Mode.rise → s.code ≠ Mode.hold →
    exec .modeTransitionEnd s = .next (settle (flow (endTrans s t)))) ∧
  (∀ (s : State) (t : Trans), s.mode.trans = some t → t.kind = 1 → s.coh.txns = [] →
    (endTrans (selfRefreshAll s true (List.range 24)) t).mode.limitOwed = false →
    (endTrans (selfRefreshAll s true (List.range 24)) t).sec.activate = 0 →
    exec .holdEntryComplete s = .next (settle (endTrans (selfRefreshAll s true (List.range 24)) t))) ∧
  (∀ (s : State) (t : Trans), s.mode.trans = some t → t.kind = 2 →
    exec .holdExitComplete s = .next (settle (flow (reissueAll (admitAll (releaseHeld (trainOwedAll (takeRates
      { endTrans (selfRefreshAll s false (List.range 24)) t with mode := { (endTrans (selfRefreshAll s false (List.range 24)) t).mode with holdFrom := none, limitOwed := false } })
      (List.range 64)))) coreList)))) ∧
  (∀ (s : State) (t : Trans), t.goal < 8 → s.mode.trimOwed = false →
    (endTrans s t).code = t.goal ∧ (endTrans s t).mode.trans = none ∧ (endTrans s t).changing = false ∧ (s.code ≠
      t.goal → (endTrans s t).fld Reg.GEN_MODE 6 4 = s.code)) ∧
  (∀ (s : State), ExpiryActs s 1 (limitDue s) → limitPassed s = true → s.mode.trans = none → s.code = Mode.hold →
    s.mode.step = none →
    exec .holdLimitExpiry s = .next (settle (raise (beginTrans { s with mode := { s.mode with limitOwed := false } }
      (if s.fld Reg.GEN_MODEX 6 4 = Mode.drain then Mode.drain else runOrTrim s) 2 false) Src.holdLimit))) ∧
  (∀ (s : State) (t : Trans), ExpiryActs s 1 (limitDue s) → limitPassed s = true → s.mode.trans = some t →
    t.kind = 1 → exec .holdLimitExpiry s = .next (settle ({ s with mode := { s.mode with limitOwed := true } }))) ∧
  (∀ (s : State), ExpiryActs s 1 (limitDue s) → limitPassed s = false → exec .holdLimitExpiry s = .next (settle (s))) ∧
  (∀ (s : State) (p : Path) (v : Word), MayWrite s p Reg.GEN_HOLDLIM →
    exec (.holdLimitWrite p v) s = .next (settle (if s.mode.holdFrom.isSome then
      { s.setF Reg.GEN_HOLDLIM 15 0 (if fld v 15 0 = 0 ∨ 50000 < fld v 15 0 then 50000 else fld v 15 0) with mode := { s.mode with limitAt := s.clock } }
      else s.setF Reg.GEN_HOLDLIM 15 0 (if fld v 15 0 = 0 ∨ 50000 < fld v 15 0 then 50000 else fld v 15 0)))) ∧
  (∀ (s : State) (c : Nat), ExpiryActs s 1 (some c) → s.mode.safecapEnd = some c → c ≤ s.clock →
    exec .safecapExpiry s = .next (settle
      ({ s.setBit Reg.GEN_MODEX 8 false with mode := { s.mode with safecapEnd := none } }))) ∧
  (∀ (s : State) (c : Nat), ExpiryActs s 1 (some c) → s.mode.safecapEnd = some c → s.clock < c →
    exec .safecapExpiry s = .next (settle (s)))

/-- COLD_RESET with causes 0 to 2 and WARM_RESET with causes 3 to 5 reset the device; GEN_RST.KIND 1 (key armed) is a warm
reset with cause 3, KIND 2 a cold reset with cause 2; RESET_N low for 10 us or more is a cold reset that lasts until its
rising edge, shorter than 8 us nothing; 2 us of undervoltage is a cold reset with cause 0, held until the rails are back.
-/
def Obligations.ResetsStart : Prop :=
  (∀ (s : State) (c : Fin 8), c.val ≤ 2 → exec (.coldReset c) s = .next (deviceReset s true c)) ∧
  (∀ (s : State) (c : Fin 8), 3 ≤ c.val ∧ c.val ≤ 5 → exec (.warmReset c) s = .next (deviceReset s false c)) ∧
  (∀ (s : State) (p : Path), MayWriteGk s p Reg.GEN_RST →
    exec (.genRstWarm p) s = .next (settle (deviceReset (disarm s p) false 3))) ∧
  (∀ (s : State) (p : Path), MayWriteGk s p Reg.GEN_RST →
    exec (.genRstCold p) s = .next (settle (deviceReset (disarm s p) true 2))) ∧
  (∀ (s : State) (n : Nat), 25000 ≤ n →
    exec (.resetNLow n) s = .next (deviceReset { s with mode := { s.mode with resetLow := some s.clock } } true (if
      s.mode.supplyLow then 0 else 1))) ∧
  (∀ (s : State) (n : Nat), n < 20000 → exec (.resetNLow n) s = .next s) ∧
  (∀ (s : State) (c : Nat), s.mode.resetLow = some c → s.mode.supplyLow = false →
    exec .resetNRelease s = .next (deviceReset { s with mode := { s.mode with resetLow := none } } true s.mode.cause)) ∧
  (∀ (s : State) (n : Nat), 5000 ≤ n →
    exec (.supplyUndervoltage n) s = .next (deviceReset { s with mode := { s.mode with supplyLow := true } } true 0)) ∧
  (∀ (s : State), s.mode.supplyLow = true → s.mode.resetLow = none →
    exec .supplyRestored s = .next (deviceReset
      { s with mode := { s.mode with supplyLow := false }, slot := { s.slot with dead := false } } true 0)) ∧
  (∀ (s : State), exec .powerDieSupplyLoss s = .next (settle
    ({ slotsOff s 6 (List.range 48) with slot := { (slotsOff s 6 (List.range 48)).slot with slots := (slotsOff s 6 (List.range 48)).slot.slots.map (fun e => (e.1, { e.2 with onA := false, onB := false })), dead := true } })))

/-- After a device reset, for every register but the five that boot step 1 and the cause fill: a cold reset leaves its
reset value, a warm reset leaves the value it had when its table names the cold reset (and of the READY bits those of the
slots), else its reset value. The reset values of the tables that are not 0 are named for the registers that have one. The
cause is in GEN_RSTCAUSE. Tier map, coherence state and cores start empty, every key slot too, with a generation drawn
anew, the bittern is owed, stored bursts stay until it zeroises them (the model's reading, log entry 163), and the queue
of commands stays. -/
def Obligations.ResetsLeaveTheirRegisters : Prop :=
  (∀ (s : State) (cold : Bool) (cause off : Nat), off ∉ [Reg.GEN_RSTCAUSE, Reg.SEC_STATE, Reg.SEC_KEYSTAT,
    Reg.SEC_ARBCNT, Reg.GEN_FUSESTAT] →
    (deviceReset s cold cause).reg off = if cold then resetWord off else if off = Reg.RDY_2 then s.reg Reg.RDY_2 &&&
      0xFFFF#32 else if warmKeeps off then s.reg off else resetWord off) ∧
  (∀ (s : State) (cold : Bool) (cause : Nat), cause < 8 →
    (deviceReset s cold cause).reg Reg.GEN_RSTCAUSE = BitVec.ofNat 32 cause) ∧
  (∀ (s : State) (cold : Bool) (cause : Nat), (deviceReset s cold cause).keys = { base := (tokCut s).fresh } ∧
    (deviceReset s cold cause).tier = {} ∧ (deviceReset s cold cause).coh = {} ∧ (deviceReset s cold cause).cores = []
    ∧ (deviceReset s cold cause).wipe = {} ∧ (deviceReset s cold cause).dram.bursts = s.dram.bursts ∧ (deviceReset s
    cold cause).pending = s.pending) ∧
  (∀ r ∈ ([(Reg.GEN_ID, 0x96241100), (Reg.GEN_HOSTACC, 0xffff), (Reg.GEN_HOLDLIM, 0x3e8), (Reg.GEN_WIPE, 0x90000000),
    (Reg.PAL_HMTO, 0x3e8), (Reg.TIER_CTL, 0x1000), (Reg.CRY_GCTL, 7), (Reg.CRY_HCTL, 0x43), (Reg.CRY_UNITEN, 0xfff),
    (Reg.CRY_XEEN, 0xff), (Reg.HOME_CTL, 3), (Reg.HOME_DQDATLO, 0xffffffff), (Reg.HOME_DQDATHI, 0xffffffff),
    (Reg.SLU_CTL, 0xe608b32a), (Reg.SLU_CTL2, 0x40), (Reg.SLU_SCALE, 0x100), (Reg.POOL_CIRC, 0x70000), (Reg.POOL_E2E,
    0x64), (Reg.TIDE_AT_LO, 0xffffffff), (Reg.TIDE_AT_HI, 0xffffffff), (Reg.RAKE_CTL, 2), (Reg.FLT_CTL, 3),
    (Reg.EVT_CTL, 0x20000000), (Reg.HK_CTL, 0x13), (Reg.HK_LIM, 0x6e69645f), (Reg.HK_PLIM, 0x80d48)] : List (Nat ×
    Word)), resetWord r.1 = r.2) ∧
  (∀ r ∈ ([(Reg.HPX_LDCNT, 16, 0x10), (Reg.HPX_TMO, 16, 0x3e80032), (Reg.HPX_ERRCTL, 16, 4), (Reg.HPX_L0P, 16, 9),
    (Reg.TIER_PMSET, 16, 0x1f), (Reg.DMC_GEOM, 24, 0x10), (Reg.DMC_SCHED, 24, 0x7d01030), (Reg.DMC_REF, 24, 1),
    (Reg.DMC_RFM, 24, 0x1c020), (Reg.DMC_RDT, 24, 0x110040), (Reg.DMC_CECNT, 24, 0x4000000), (Reg.CNV_CTL, 32,
    0xe0000), (Reg.CNV_REPLAY, 32, 0x4000400), (Reg.CNV_LHEALTH, 32, 0x10), (Reg.CNV_TRAIN, 32, 0xc), (Reg.CNV_ERR,
    32, 0xf000), (Reg.DMC_MARKCFG, 24, 0x108), (Reg.DMC_TESTSTAT, 24, 0xf), (Reg.EVT_HOSTEN, 48, 0xffffffff),
    (Reg.TEL_SMPPER, 8, 0x10000)] : List ((Nat → Nat) × Nat × Word)), ∀ k < r.2.1, resetWord (r.1 k) = r.2.2)

/-- BITTERN_KEYS_DONE in BOOT ends phase 1; BITTERN_SRAM_DONE then ends phase 2: the collector runs and takes what was
latched earlier, UDSLK is set and the image check begins. In phase 3 of a set the lowest unwritten map block is written
and counted; its phase ends with every block written, and phase 4 starts at the frontier; cells are zeroised up to the end
of the set; at the end its channels' DONE bits are set. SET_SERVABLE serves a set whose needs are met. -/
def Obligations.BitternPhases : Prop :=
  (∀ (s : State), s.code = Mode.boot → s.inReset = false → s.wipe.keysDone = false →
    exec .bitternKeysDone s = .next (settle (portsStart (newGens { s with wipe := { s.wipe with keysDone := true } })
      (List.range 64)))) ∧
  (∀ (s : State), s.inReset = false → s.wipe.keysDone = true → s.wipe.sramDone = false →
    s.flt.early.any (fun e => decide (e.1 = Src.otpRead)) = false →
    exec .bitternSramDone s = .next (settle (releaseEarly (deriveId (State.setBit
      { s with wipe := { s.wipe with sramDone := true }, mode := { s.mode with imageCheck := true } } Reg.SEC_STATE 24
      true))))) ∧
  (∀ (s u : State) (n : Fin 24) (b : Nat), (setWipe s n).phase = 3 →
    nextBlock (setWipe s n) (mapBlocks s n) = some b →
    u = putWipe (charge s false 254 1024 .amber) n
      { setWipe (charge s false 254 1024 .amber) n with blocks := (setWipe (charge s false 254 1024 .amber) n).blocks ++ [b] }
      →
    exec (.bitternMapBlockWritten n b) s = .next (settle (tick
      { u with dram := { u.dram with bursts := u.dram.bursts.filter (fun e => !inMapBlock u n b e.1) } } bSweep 4 1))) ∧
  (∀ (s : State) (n : Fin 24), (setWipe s n).phase = 3 → nextBlock (setWipe s n) (mapBlocks s n) = none →
    exec (.bitternMapPhaseEnd n) s = .next (settle (putWipe s n
      { setWipe s n with phase := 4, blocks := [], front := frontier s n }))) ∧
  (∀ (s u : State) (n : Fin 24) (k : Nat), (setWipe s n).phase = 4 →
    (setWipe s n).front + k ≤ setCapacity s n / 1024 →
    u = zeroise s n (1024 * (setWipe s n).front) (1024 * ((setWipe s n).front + k)) →
    exec (.bitternCellsZeroised n k) s = .next (settle (charge (tick (putWipe (zeroParity u n (1024 * (setWipe s
      n).front) (1024 * ((setWipe s n).front + k))) n { setWipe s n with front := (setWipe s n).front + k }) bSweep 3
      k) false 254 (16 * k) .amber))) ∧
  (∀ (s : State) (n : Fin 24), (setWipe s n).phase = 4 → setCapacity s n / 1024 ≤ (setWipe s n).front →
    exec (.bitternDataPhaseEnd n) s = .next (settle (setDone (putWipe s n { setWipe s n with phase := 5 }) (setChans s
      n)))) ∧
  (∀ (s : State) (n : Fin 24), needsMet s n = true → setServable s n = false → (setWipe s n).phase = 5 →
    exec (.setServable n) s = .next (settle (raise (latchAll ((s.setBit Reg.TIER_SETOFF n false).setBit Reg.GEN_SETSRV
      n true) 4) Src.setServable)))

/-- For every core that issues and every register: ADD, SUB, AND, OR, XOR, SLL, SRL, SRA, SLT, SLTU, MIN, MAX, MINU, MAXU,
MUL, MULH, MULHU, DIV, DIVU, REM, REMU of rs1 and rs2, POPC, CLZ and CTZ of rs1, and ADDI, ANDI, ORI, XORI, SLTI, SLTIU,
SHORI, SLLI, SRLI, SRAI and LUI with their immediates answer the state in which the instruction has ended with that result
(coreDone). -/
def Obligations.IntegerInstructions : Prop :=
  (∀ (s : State) (c : Fin 16) (rd rs1 rs2 : Fin 32) (a b : DWord), Issuing s c → getT s c rs1 = a → getT s c rs2 = b →
    exec (.add c rd rs1 rs2) s = .next (settle (coreDone s c rd (a + b)))) ∧
  (∀ (s : State) (c : Fin 16) (rd rs1 rs2 : Fin 32) (a b : DWord), Issuing s c → getT s c rs1 = a → getT s c rs2 = b →
    exec (.sub c rd rs1 rs2) s = .next (settle (coreDone s c rd (a - b)))) ∧
  (∀ (s : State) (c : Fin 16) (rd rs1 rs2 : Fin 32) (a b : DWord), Issuing s c → getT s c rs1 = a → getT s c rs2 = b →
    exec (.and c rd rs1 rs2) s = .next (settle (coreDone s c rd (a &&& b)))) ∧
  (∀ (s : State) (c : Fin 16) (rd rs1 rs2 : Fin 32) (a b : DWord), Issuing s c → getT s c rs1 = a → getT s c rs2 = b →
    exec (.or c rd rs1 rs2) s = .next (settle (coreDone s c rd (a ||| b)))) ∧
  (∀ (s : State) (c : Fin 16) (rd rs1 rs2 : Fin 32) (a b : DWord), Issuing s c → getT s c rs1 = a → getT s c rs2 = b →
    exec (.xor c rd rs1 rs2) s = .next (settle (coreDone s c rd (a ^^^ b)))) ∧
  (∀ (s : State) (c : Fin 16) (rd rs1 rs2 : Fin 32) (a b : DWord), Issuing s c → getT s c rs1 = a → getT s c rs2 = b →
    exec (.sll c rd rs1 rs2) s = .next (settle (coreDone s c rd (a <<< (b.toNat % 64))))) ∧
  (∀ (s : State) (c : Fin 16) (rd rs1 rs2 : Fin 32) (a b : DWord), Issuing s c → getT s c rs1 = a → getT s c rs2 = b →
    exec (.srl c rd rs1 rs2) s = .next (settle (coreDone s c rd (a >>> (b.toNat % 64))))) ∧
  (∀ (s : State) (c : Fin 16) (rd rs1 rs2 : Fin 32) (a b : DWord), Issuing s c → getT s c rs1 = a → getT s c rs2 = b →
    exec (.sra c rd rs1 rs2) s = .next (settle (coreDone s c rd (a.sshiftRight (b.toNat % 64))))) ∧
  (∀ (s : State) (c : Fin 16) (rd rs1 rs2 : Fin 32) (a b : DWord), Issuing s c → getT s c rs1 = a → getT s c rs2 = b →
    exec (.slt c rd rs1 rs2) s = .next (settle (coreDone s c rd ((if a.slt b then 1 else 0))))) ∧
  (∀ (s : State) (c : Fin 16) (rd rs1 rs2 : Fin 32) (a b : DWord), Issuing s c → getT s c rs1 = a → getT s c rs2 = b →
    exec (.sltu c rd rs1 rs2) s = .next (settle (coreDone s c rd ((if a.ult b then 1 else 0))))) ∧
  (∀ (s : State) (c : Fin 16) (rd rs1 rs2 : Fin 32) (a b : DWord), Issuing s c → getT s c rs1 = a → getT s c rs2 = b →
    exec (.min c rd rs1 rs2) s = .next (settle (coreDone s c rd ((if a.slt b then a else b))))) ∧
  (∀ (s : State) (c : Fin 16) (rd rs1 rs2 : Fin 32) (a b : DWord), Issuing s c → getT s c rs1 = a → getT s c rs2 = b →
    exec (.max c rd rs1 rs2) s = .next (settle (coreDone s c rd ((if a.slt b then b else a))))) ∧
  (∀ (s : State) (c : Fin 16) (rd rs1 rs2 : Fin 32) (a b : DWord), Issuing s c → getT s c rs1 = a → getT s c rs2 = b →
    exec (.minu c rd rs1 rs2) s = .next (settle (coreDone s c rd ((if a.ult b then a else b))))) ∧
  (∀ (s : State) (c : Fin 16) (rd rs1 rs2 : Fin 32) (a b : DWord), Issuing s c → getT s c rs1 = a → getT s c rs2 = b →
    exec (.maxu c rd rs1 rs2) s = .next (settle (coreDone s c rd ((if a.ult b then b else a))))) ∧
  (∀ (s : State) (c : Fin 16) (rd rs1 rs2 : Fin 32) (a b : DWord), Issuing s c → getT s c rs1 = a → getT s c rs2 = b →
    exec (.mul c rd rs1 rs2) s = .next (settle (coreDone s c rd (a * b)))) ∧
  (∀ (s : State) (c : Fin 16) (rd rs1 rs2 : Fin 32) (a b : DWord), Issuing s c → getT s c rs1 = a → getT s c rs2 = b →
    exec (.mulh c rd rs1 rs2) s = .next (settle (coreDone s c rd (mulHi a b)))) ∧
  (∀ (s : State) (c : Fin 16) (rd rs1 rs2 : Fin 32) (a b : DWord), Issuing s c → getT s c rs1 = a → getT s c rs2 = b →
    exec (.mulhu c rd rs1 rs2) s = .next (settle (coreDone s c rd (mulHiU a b)))) ∧
  (∀ (s : State) (c : Fin 16) (rd rs1 rs2 : Fin 32) (a b : DWord), Issuing s c → getT s c rs1 = a → getT s c rs2 = b →
    exec (.div c rd rs1 rs2) s = .next (settle (coreDone s c rd (divS a b)))) ∧
  (∀ (s : State) (c : Fin 16) (rd rs1 rs2 : Fin 32) (a b : DWord), Issuing s c → getT s c rs1 = a → getT s c rs2 = b →
    exec (.divu c rd rs1 rs2) s = .next (settle (coreDone s c rd (divU a b)))) ∧
  (∀ (s : State) (c : Fin 16) (rd rs1 rs2 : Fin 32) (a b : DWord), Issuing s c → getT s c rs1 = a → getT s c rs2 = b →
    exec (.rem c rd rs1 rs2) s = .next (settle (coreDone s c rd (remS a b)))) ∧
  (∀ (s : State) (c : Fin 16) (rd rs1 rs2 : Fin 32) (a b : DWord), Issuing s c → getT s c rs1 = a → getT s c rs2 = b →
    exec (.remu c rd rs1 rs2) s = .next (settle (coreDone s c rd (remU a b)))) ∧
  (∀ (s : State) (c : Fin 16) (rd rs1 : Fin 32) (a : DWord), Issuing s c → getT s c rs1 = a →
    exec (.popc c rd rs1) s = .next (settle (coreDone s c rd (popc a)))) ∧
  (∀ (s : State) (c : Fin 16) (rd rs1 : Fin 32) (a : DWord), Issuing s c → getT s c rs1 = a →
    exec (.clz c rd rs1) s = .next (settle (coreDone s c rd (clz a)))) ∧
  (∀ (s : State) (c : Fin 16) (rd rs1 : Fin 32) (a : DWord), Issuing s c → getT s c rs1 = a →
    exec (.ctz c rd rs1) s = .next (settle (coreDone s c rd (ctz a)))) ∧
  (∀ (s : State) (c : Fin 16) (rd rs1 : Fin 32) (i : BitVec 16) (a : DWord), Issuing s c → getT s c rs1 = a →
    exec (.addi c rd rs1 i) s = .next (settle (coreDone s c rd (a + i.signExtend 64)))) ∧
  (∀ (s : State) (c : Fin 16) (rd rs1 : Fin 32) (i : BitVec 16) (a : DWord), Issuing s c → getT s c rs1 = a →
    exec (.andi c rd rs1 i) s = .next (settle (coreDone s c rd (a &&& i.zeroExtend 64)))) ∧
  (∀ (s : State) (c : Fin 16) (rd rs1 : Fin 32) (i : BitVec 16) (a : DWord), Issuing s c → getT s c rs1 = a →
    exec (.ori c rd rs1 i) s = .next (settle (coreDone s c rd (a ||| i.zeroExtend 64)))) ∧
  (∀ (s : State) (c : Fin 16) (rd rs1 : Fin 32) (i : BitVec 16) (a : DWord), Issuing s c → getT s c rs1 = a →
    exec (.xori c rd rs1 i) s = .next (settle (coreDone s c rd (a ^^^ i.zeroExtend 64)))) ∧
  (∀ (s : State) (c : Fin 16) (rd rs1 : Fin 32) (i : BitVec 16) (a : DWord), Issuing s c → getT s c rs1 = a →
    exec (.slti c rd rs1 i) s = .next (settle (coreDone s c rd ((if a.slt (i.signExtend 64) then 1 else 0))))) ∧
  (∀ (s : State) (c : Fin 16) (rd rs1 : Fin 32) (i : BitVec 16) (a : DWord), Issuing s c → getT s c rs1 = a →
    exec (.sltiu c rd rs1 i) s = .next (settle (coreDone s c rd ((if a.ult (i.signExtend 64) then 1 else 0))))) ∧
  (∀ (s : State) (c : Fin 16) (rd rs1 : Fin 32) (i : BitVec 16) (a : DWord), Issuing s c → getT s c rs1 = a →
    exec (.shori c rd rs1 i) s = .next (settle (coreDone s c rd ((a <<< 16) ||| i.zeroExtend 64)))) ∧
  (∀ (s : State) (c : Fin 16) (rd rs1 : Fin 32) (n : Fin 64) (a : DWord), Issuing s c → getT s c rs1 = a →
    exec (.slli c rd rs1 n) s = .next (settle (coreDone s c rd (a <<< n.val)))) ∧
  (∀ (s : State) (c : Fin 16) (rd rs1 : Fin 32) (n : Fin 64) (a : DWord), Issuing s c → getT s c rs1 = a →
    exec (.srli c rd rs1 n) s = .next (settle (coreDone s c rd (a >>> n.val)))) ∧
  (∀ (s : State) (c : Fin 16) (rd rs1 : Fin 32) (n : Fin 64) (a : DWord), Issuing s c → getT s c rs1 = a →
    exec (.srai c rd rs1 n) s = .next (settle (coreDone s c rd (a.sshiftRight n.val)))) ∧
  (∀ (s : State) (c : Fin 16) (rd : Fin 32) (i : BitVec 16), Issuing s c →
    exec (.lui c rd i) s = .next (settle (coreDone s c rd (i.signExtend 64 <<< 16))))

/-- DIV and DIVU by 0 give all ones, REM and REMU by 0 give rs1; DIV of -2^63 by -1 gives -2^63 and REM of it 0; a core
that issues completes each of them on every operand, so no division raises a trap. Elsewhere quotient times divisor plus
remainder is the dividend, the unsigned remainder lies below the divisor, and the signed ones truncate toward zero. -/
def Obligations.DivisionCorners : Prop :=
  (∀ (a : DWord), divS a 0 = 0xFFFFFFFFFFFFFFFF ∧ divU a 0 = 0xFFFFFFFFFFFFFFFF ∧ remS a 0 = a ∧ remU a 0 = a) ∧
  (divS (BitVec.ofInt 64 (-2 ^ 63)) (BitVec.ofInt 64 (-1)) = BitVec.ofInt 64 (-2 ^ 63) ∧ remS (BitVec.ofInt 64 (-2 ^
    63)) (BitVec.ofInt 64 (-1)) = 0) ∧
  (∀ (s : State) (c : Fin 16) (rd rs1 rs2 : Fin 32) (a b : DWord), Issuing s c → getT s c rs1 = a → getT s c rs2 = b →
    exec (.div c rd rs1 rs2) s = .next (settle (coreDone s c rd (divS a b))) ∧ exec (.divu c rd rs1 rs2) s = .next
      (settle (coreDone s c rd (divU a b))) ∧ exec (.rem c rd rs1 rs2) s = .next (settle (coreDone s c rd (remS a b)))
      ∧ exec (.remu c rd rs1 rs2) s = .next (settle (coreDone s c rd (remU a b)))) ∧
  (∀ (a b : DWord), b ≠ 0 → (divU a b).toNat * b.toNat + (remU a b).toNat = a.toNat ∧ (remU a b).toNat < b.toNat) ∧
  (∀ (a b : DWord), b ≠ 0 → a ≠ BitVec.intMin 64 ∨ b ≠ -1#64 →
    (divS a b).toInt = a.toInt.tdiv b.toInt ∧ (remS a b).toInt = a.toInt.tmod b.toInt)

/-- MULHU and MUL are the halves of the unsigned product, MULH and MUL those of the signed product; CLZ of a nonzero value
is the number of bits above its highest one, CTZ of a nonzero value is the number of its lowest one and POPC the number of
its ones; CLZ and CTZ of 0 are 64; POPC of a value and of its complement make 64. -/
def Obligations.ProductHalvesAndBitCounts : Prop :=
  (∀ (a b : DWord), (mulHiU a b).toNat * 2 ^ 64 + (a * b).toNat = a.toNat * b.toNat) ∧
  (∀ (a b : DWord), (mulHi a b).toInt * 2 ^ 64 + ((a * b).toNat : Int) = a.toInt * b.toInt) ∧
  (∀ (a : DWord), a ≠ 0 →
    2 ^ (63 - (clz a).toNat) ≤ a.toNat ∧ a.toNat < 2 ^ (64 - (clz a).toNat) ∧ (clz a).toNat < 64) ∧
  (clz 0 = 64 ∧ ctz 0 = 64) ∧
  (∀ (a : DWord), a ≠ 0 → a.getLsbD (ctz a).toNat = true ∧ ∀ i, i < (ctz a).toNat → a.getLsbD i = false) ∧
  (∀ (a : DWord), (popc a).toNat = ((List.range 64).filter (fun i => a.getLsbD i)).length) ∧
  (∀ (a : DWord), (popc a).toNat + (popc (~~~ a)).toNat = 64)

/-- coreDone, the end of an instruction that writes rd: t0 still reads 0, any other rd reads the value, every other
general register and every other core stays, pc advances by 4, INSTRET counts it; the CSRs, local memory, queue and posted
writes of the core, every register, table, memory, queue and unit of the device stay; only live counters count. -/
def Obligations.InstructionEndFrame : Prop :=
  (∀ (s : State) (n : Nat) (rd : Fin 32) (v : DWord), getT (coreDone s n rd v) n rd = (if rd = 0 then 0 else v) ∧
    ((coreDone s n rd v).core n).pc = (s.core n).pc + 4 ∧ ((coreDone s n rd v).core n).instret = (s.core n).instret +
    1 ∧ ((coreDone s n rd v).core n).wait = none) ∧
  (∀ (s : State) (n m : Nat) (rd q : Fin 32) (v : DWord), q ≠ rd ∨ m ≠ n → getT (coreDone s n rd v) m q = getT s m q) ∧
  (∀ (s : State) (n m : Nat) (rd : Fin 32) (v : DWord), m ≠ n → (coreDone s n rd v).core m = s.core m) ∧
  (∀ (s : State) (n : Nat) (rd : Fin 32) (v : DWord), ∃ t, (coreDone s n rd v).core n =
    { s.core n with t := t, pc := (s.core n).pc + 4, instret := (s.core n).instret + 1, wait := none }) ∧
  (∀ (s : State) (n : Nat) (rd : Fin 32) (v : DWord), ∃ cs cnt, coreDone s n rd v =
    { s with cores := cs, tel := { s.tel with cnt := cnt } })

/-- BEQ, BNE, BLT, BGE, BLTU and BGEU end and go to pc + 4 x sext(off16) when the condition holds and to pc + 4 when not.
JAL writes pc + 4 to rd and goes to its target; JALR computes rs1 + sext(imm) with bits [1:0] cleared before rd is
written, so that with rd = rs1 it uses the old value. -/
def Obligations.BranchesAndJumps : Prop :=
  (∀ (s : State) (c : Fin 16) (rs1 rs2 : Fin 32) (off : BitVec 16) (a b : DWord), Issuing s c → getT s c rs1 = a →
    getT s c rs2 = b → a = b →
    exec (.beq c rs1 rs2 off) s = .next (settle (setPc (coreDone s c 0 0) c ((s.core c.val).pc + (off.signExtend 64
      <<< 2))))) ∧
  (∀ (s : State) (c : Fin 16) (rs1 rs2 : Fin 32) (off : BitVec 16) (a b : DWord), Issuing s c → getT s c rs1 = a →
    getT s c rs2 = b → a ≠ b →
    exec (.bne c rs1 rs2 off) s = .next (settle (setPc (coreDone s c 0 0) c ((s.core c.val).pc + (off.signExtend 64
      <<< 2))))) ∧
  (∀ (s : State) (c : Fin 16) (rs1 rs2 : Fin 32) (off : BitVec 16) (a b : DWord), Issuing s c → getT s c rs1 = a →
    getT s c rs2 = b → a.slt b = true →
    exec (.blt c rs1 rs2 off) s = .next (settle (setPc (coreDone s c 0 0) c ((s.core c.val).pc + (off.signExtend 64
      <<< 2))))) ∧
  (∀ (s : State) (c : Fin 16) (rs1 rs2 : Fin 32) (off : BitVec 16) (a b : DWord), Issuing s c → getT s c rs1 = a →
    getT s c rs2 = b → a.slt b = false →
    exec (.bge c rs1 rs2 off) s = .next (settle (setPc (coreDone s c 0 0) c ((s.core c.val).pc + (off.signExtend 64
      <<< 2))))) ∧
  (∀ (s : State) (c : Fin 16) (rs1 rs2 : Fin 32) (off : BitVec 16) (a b : DWord), Issuing s c → getT s c rs1 = a →
    getT s c rs2 = b → a.ult b = true →
    exec (.bltu c rs1 rs2 off) s = .next (settle (setPc (coreDone s c 0 0) c ((s.core c.val).pc + (off.signExtend 64
      <<< 2))))) ∧
  (∀ (s : State) (c : Fin 16) (rs1 rs2 : Fin 32) (off : BitVec 16) (a b : DWord), Issuing s c → getT s c rs1 = a →
    getT s c rs2 = b → a.ult b = false →
    exec (.bgeu c rs1 rs2 off) s = .next (settle (setPc (coreDone s c 0 0) c ((s.core c.val).pc + (off.signExtend 64
      <<< 2))))) ∧
  (∀ (s : State) (c : Fin 16) (rs1 rs2 : Fin 32) (off : BitVec 16) (a b : DWord), Issuing s c → getT s c rs1 = a →
    getT s c rs2 = b → (¬ (a = b)) → exec (.beq c rs1 rs2 off) s = .next (settle (coreDone s c 0 0))) ∧
  (∀ (s : State) (c : Fin 16) (rs1 rs2 : Fin 32) (off : BitVec 16) (a b : DWord), Issuing s c → getT s c rs1 = a →
    getT s c rs2 = b → (¬ (a ≠ b)) → exec (.bne c rs1 rs2 off) s = .next (settle (coreDone s c 0 0))) ∧
  (∀ (s : State) (c : Fin 16) (rs1 rs2 : Fin 32) (off : BitVec 16) (a b : DWord), Issuing s c → getT s c rs1 = a →
    getT s c rs2 = b → (¬ (a.slt b = true)) → exec (.blt c rs1 rs2 off) s = .next (settle (coreDone s c 0 0))) ∧
  (∀ (s : State) (c : Fin 16) (rs1 rs2 : Fin 32) (off : BitVec 16) (a b : DWord), Issuing s c → getT s c rs1 = a →
    getT s c rs2 = b → (¬ (a.slt b = false)) → exec (.bge c rs1 rs2 off) s = .next (settle (coreDone s c 0 0))) ∧
  (∀ (s : State) (c : Fin 16) (rs1 rs2 : Fin 32) (off : BitVec 16) (a b : DWord), Issuing s c → getT s c rs1 = a →
    getT s c rs2 = b → (¬ (a.ult b = true)) → exec (.bltu c rs1 rs2 off) s = .next (settle (coreDone s c 0 0))) ∧
  (∀ (s : State) (c : Fin 16) (rs1 rs2 : Fin 32) (off : BitVec 16) (a b : DWord), Issuing s c → getT s c rs1 = a →
    getT s c rs2 = b → (¬ (a.ult b = false)) → exec (.bgeu c rs1 rs2 off) s = .next (settle (coreDone s c 0 0))) ∧
  (∀ (s : State) (c : Fin 16) (rd : Fin 32) (off : BitVec 16), Issuing s c →
    exec (.jal c rd off) s = .next (settle (setPc (coreDone s c rd ((s.core c.val).pc + 4)) c ((s.core c.val).pc +
      (off.signExtend 64 <<< 2))))) ∧
  (∀ (s : State) (c : Fin 16) (rd rs1 : Fin 32) (i : BitVec 16) (a : DWord), Issuing s c → getT s c rs1 = a →
    exec (.jalr c rd rs1 i) s = .next (settle (setPc (coreDone s c rd ((s.core c.val).pc + 4)) c (setFld (a +
      i.signExtend 64) 1 0 0)))) ∧
  (∀ (x : DWord), setFld x 1 0 0 = x &&& ~~~ 3#64) ∧
  (∀ (s : State) (n : Nat) (a : DWord), (setPc s n a).core n = { s.core n with pc := a } ∧ ∀ m, m ≠ n →
    (setPc s n a).core m = s.core m)

/-- With the address rs1 + sext(off16) aligned and naming a place the core may reach without a parity error: LB, LH and LW
sign-extend and LBU, LHU, LWU and LD zero-extend the bytes there into rd; SB, SH, SW and SD write the low bytes of rs2. A
misaligned access takes the misaligned trap, and an address the core may not reach the access trap, with the address in
TVAL and nothing else changed. -/
def Obligations.LoadsAndStores : Prop :=
  (∀ (s : State) (c : Fin 16) (rd rs1 : Fin 32) (off : BitVec 16) (p : Place), Issuing s c →
    (memAddr s c rs1 off).toNat % 1 = 0 → placeOf s c .load (memAddr s c rs1 off).toNat 1 = some p →
    parityBad s c p 1 = false →
    exec (.lb c rd rs1 off) s = .next (settle (coreDone s c rd ((BitVec.ofNat 8 (placeRead s c p 1)).signExtend 64)))) ∧
  (∀ (s : State) (c : Fin 16) (rd rs1 : Fin 32) (off : BitVec 16) (p : Place), Issuing s c →
    (memAddr s c rs1 off).toNat % 2 = 0 → placeOf s c .load (memAddr s c rs1 off).toNat 2 = some p →
    parityBad s c p 2 = false →
    exec (.lh c rd rs1 off) s = .next (settle (coreDone s c rd ((BitVec.ofNat 16 (placeRead s c p 2)).signExtend
      64)))) ∧
  (∀ (s : State) (c : Fin 16) (rd rs1 : Fin 32) (off : BitVec 16) (p : Place), Issuing s c →
    (memAddr s c rs1 off).toNat % 4 = 0 → placeOf s c .load (memAddr s c rs1 off).toNat 4 = some p →
    parityBad s c p 4 = false →
    exec (.lw c rd rs1 off) s = .next (settle (coreDone s c rd ((BitVec.ofNat 32 (placeRead s c p 4)).signExtend
      64)))) ∧
  (∀ (s : State) (c : Fin 16) (rd rs1 : Fin 32) (off : BitVec 16) (p : Place), Issuing s c →
    (memAddr s c rs1 off).toNat % 8 = 0 → placeOf s c .load (memAddr s c rs1 off).toNat 8 = some p →
    parityBad s c p 8 = false →
    exec (.ld c rd rs1 off) s = .next (settle (coreDone s c rd (BitVec.ofNat 64 (placeRead s c p 8))))) ∧
  (∀ (s : State) (c : Fin 16) (rd rs1 : Fin 32) (off : BitVec 16) (p : Place), Issuing s c →
    (memAddr s c rs1 off).toNat % 1 = 0 → placeOf s c .load (memAddr s c rs1 off).toNat 1 = some p →
    parityBad s c p 1 = false →
    exec (.lbu c rd rs1 off) s = .next (settle (coreDone s c rd (BitVec.ofNat 64 (placeRead s c p 1))))) ∧
  (∀ (s : State) (c : Fin 16) (rd rs1 : Fin 32) (off : BitVec 16) (p : Place), Issuing s c →
    (memAddr s c rs1 off).toNat % 2 = 0 → placeOf s c .load (memAddr s c rs1 off).toNat 2 = some p →
    parityBad s c p 2 = false →
    exec (.lhu c rd rs1 off) s = .next (settle (coreDone s c rd (BitVec.ofNat 64 (placeRead s c p 2))))) ∧
  (∀ (s : State) (c : Fin 16) (rd rs1 : Fin 32) (off : BitVec 16) (p : Place), Issuing s c →
    (memAddr s c rs1 off).toNat % 4 = 0 → placeOf s c .load (memAddr s c rs1 off).toNat 4 = some p →
    parityBad s c p 4 = false →
    exec (.lwu c rd rs1 off) s = .next (settle (coreDone s c rd (BitVec.ofNat 64 (placeRead s c p 4))))) ∧
  (∀ (s : State) (c : Fin 16) (rs2 rs1 : Fin 32) (off : BitVec 16) (p : Place), Issuing s c →
    (memAddr s c rs1 off).toNat % 1 = 0 → placeOf s c .store (memAddr s c rs1 off).toNat 1 = some p →
    exec (.sb c rs2 rs1 off) s = .next (settle (flow (settle (levels (coreDone (placeWrite s c p 1 ((getT s c
      rs2).toNat % 2 ^ 8)) c 0 0)))))) ∧
  (∀ (s : State) (c : Fin 16) (rs2 rs1 : Fin 32) (off : BitVec 16) (p : Place), Issuing s c →
    (memAddr s c rs1 off).toNat % 2 = 0 → placeOf s c .store (memAddr s c rs1 off).toNat 2 = some p →
    exec (.sh c rs2 rs1 off) s = .next (settle (flow (settle (levels (coreDone (placeWrite s c p 2 ((getT s c
      rs2).toNat % 2 ^ 16)) c 0 0)))))) ∧
  (∀ (s : State) (c : Fin 16) (rs2 rs1 : Fin 32) (off : BitVec 16) (p : Place), Issuing s c →
    (memAddr s c rs1 off).toNat % 4 = 0 → placeOf s c .store (memAddr s c rs1 off).toNat 4 = some p →
    exec (.sw c rs2 rs1 off) s = .next (settle (flow (settle (levels (coreDone (placeWrite s c p 4 ((getT s c
      rs2).toNat % 2 ^ 32)) c 0 0)))))) ∧
  (∀ (s : State) (c : Fin 16) (rs2 rs1 : Fin 32) (off : BitVec 16) (p : Place), Issuing s c →
    (memAddr s c rs1 off).toNat % 8 = 0 → placeOf s c .store (memAddr s c rs1 off).toNat 8 = some p →
    exec (.sd c rs2 rs1 off) s = .next (settle (flow (settle (levels (coreDone (placeWrite s c p 8 ((getT s c
      rs2).toNat % 2 ^ 64)) c 0 0)))))) ∧
  (∀ (s : State) (c : Fin 16) (rd rs1 : Fin 32) (off : BitVec 16), Issuing s c → (memAddr s c rs1 off).toNat % 4 ≠ 0 →
    exec (.lw c rd rs1 off) s = .next (settle (coreTrap s c 3 (memAddr s c rs1 off).toNat)) ∧ exec (.lwu c rd rs1 off)
      s = .next (settle (coreTrap s c 3 (memAddr s c rs1 off).toNat)) ∧ exec (.sw c rd rs1 off) s = .next (settle
      (flow (settle (coreTrap s c 3 (memAddr s c rs1 off).toNat))))) ∧
  (∀ (s : State) (c : Fin 16) (rd rs1 : Fin 32) (off : BitVec 16), Issuing s c → (memAddr s c rs1 off).toNat % 8 ≠ 0 →
    exec (.ld c rd rs1 off) s = .next (settle (coreTrap s c 3 (memAddr s c rs1 off).toNat)) ∧ exec (.sd c rd rs1 off)
      s = .next (settle (flow (settle (coreTrap s c 3 (memAddr s c rs1 off).toNat))))) ∧
  (∀ (s : State) (c : Fin 16) (rd rs1 : Fin 32) (off : BitVec 16), Issuing s c → (memAddr s c rs1 off).toNat % 2 ≠ 0 →
    exec (.lh c rd rs1 off) s = .next (settle (coreTrap s c 3 (memAddr s c rs1 off).toNat)) ∧ exec (.lhu c rd rs1 off)
      s = .next (settle (coreTrap s c 3 (memAddr s c rs1 off).toNat)) ∧ exec (.sh c rd rs1 off) s = .next (settle
      (flow (settle (coreTrap s c 3 (memAddr s c rs1 off).toNat))))) ∧
  (∀ (s : State) (c : Fin 16) (rd rs1 : Fin 32) (off : BitVec 16), Issuing s c →
    placeOf s c .load (memAddr s c rs1 off).toNat 1 = none →
    exec (.lb c rd rs1 off) s = .next (settle (coreTrap s c 4 (memAddr s c rs1 off).toNat)) ∧ exec (.lbu c rd rs1 off)
      s = .next (settle (coreTrap s c 4 (memAddr s c rs1 off).toNat))) ∧
  (∀ (s : State) (c : Fin 16) (rd rs1 : Fin 32) (off : BitVec 16), Issuing s c →
    placeOf s c .store (memAddr s c rs1 off).toNat 1 = none →
    exec (.sb c rd rs1 off) s = .next (settle (flow (settle (coreTrap s c 4 (memAddr s c rs1 off).toNat)))))

/-- placeWrite of 1, 2, 4 or 8 bytes to local memory or a bank, then placeRead of as many bytes there, gives the value
modulo 2^(8 x size), and a read of bytes that do not overlap gives what it gave before; so in the shadow copy and the live
tables. The stored words have good parity after (R117), and no other word of local memory changes its parity. -/
def Obligations.StoreThenLoad : Prop :=
  (∀ (m : SMap Byte) (a v n : Nat), bytesAt (putBytes m a v n) a n = v % 256 ^ n) ∧
  (∀ (m : SMap Byte) (a b v n k : Nat), b + k ≤ a ∨ a + n ≤ b → bytesAt (putBytes m a v n) b k = bytesAt m b k) ∧
  (∀ (m : SMap Byte) (id a v n : Nat), tabNat (tabPut m id a v n) id a n = v % 256 ^ n) ∧
  (∀ (m : SMap Byte) (i j a b v n k : Nat), a + n ≤ 0x1000000 → b + k ≤ 0x1000000 → i ≠ j ∨ b + k ≤ a ∨ a + n ≤ b →
    tabNat (tabPut m i a v n) j b k = tabNat m j b k) ∧
  (∀ (s : State) (n : Nat) (p : Place) (size v : Nat), ((placeWrite s n p size v).core n).bad = (s.core n).bad.filter
    (fun w => !(parityWords p size).contains w) ∨ (∃ sh id off, p = .table sh id off) ∧ ((placeWrite s n p size
    v).core n).bad = (s.core n).bad) ∧
  (∀ (s : State) (n m : Nat) (p : Place) (size v : Nat), m ≠ n → (placeWrite s n p size v).core m = s.core m)

/-- coreTrap of a core outside a trap handler sets EPC to the pc, CAUSE and TVAL to its operands, copies PL to PPL, sets
PL and INTRAP, and continues at TVEC; no general register, memory or other core changes. With INTRAP 1 no CSR changes: the
core stops, and "double trap" is raised. -/
def Obligations.TakingATrap : Prop :=
  (∀ (s : State) (n k v : Nat), bit (s.core n).status 2 = false →
    (coreTrap s n k v).core n =
      { s.core n with epc := (s.core n).pc, cause := BitVec.ofNat 64 k, tval := BitVec.ofNat 64 v, status := BitVec.ofNat 64 (5 + 2 * fld (s.core n).status 0 0), pc := setFld (s.core n).tvec 1 0 0, wait := none }) ∧
  (∀ (s : State) (n m k v : Nat), bit (s.core n).status 2 = false → m ≠ n →
    (coreTrap s n k v).core m = s.core m ∧ (coreTrap s n k v).regs = s.regs ∧ (coreTrap s n k v).flt = s.flt) ∧
  (∀ (s : State) (n k v : Nat), bit (s.core n).status 2 = true →
    coreTrap s n k v = tick (raise (s.setCore n { s.core n with wait := none, halted := true }) (Src.core n 0)) (bCore
      n) 4 1) ∧
  (∀ (pl : Nat), pl < 2 →
    bit (BitVec.ofNat 64 (5 + 2 * pl)) 0 = true ∧ bit (BitVec.ofNat 64 (5 + 2 * pl)) 1 = decide (pl = 1) ∧ bit
      (BitVec.ofNat 64 (5 + 2 * pl)) 2 = true)

/-- CSRR and CSRW of CSR 0 to 13 at supervisor level, and at owner level of those its column allows, read and write the
register and end; a reserved number is an illegal instruction and a barred access a privilege trap, with the word in TVAL.
STATUS, EPC, CAUSE, TVAL, TVEC, EVPEND, PTAG, WDOG and SCRATCH take what a write may change; the others ignore writes. -/
def Obligations.ControlAndStatusRegisters : Prop :=
  (∀ (s : State) (c : Fin 16) (rd csr : Fin 32), Issuing s c → csr.val < 14 →
    (supervisor s c || ownerReads csr) = true →
    exec (.csrr c rd csr) s = .next (settle (coreDone s c rd (csrRead s c csr)))) ∧
  (∀ (s : State) (c : Fin 16) (rd csr : Fin 32), Issuing s c → 14 ≤ csr.val →
    exec (.csrr c rd csr) s = .next (settle (coreTrap s c 0 (xword rd 0 0 4 csr))) ∧ exec (.csrw c rd csr) s = .next
      (settle (coreTrap s c 0 (xword 0 rd 0 5 csr)))) ∧
  (∀ (s : State) (c : Fin 16) (rd csr : Fin 32), Issuing s c → csr.val < 14 → supervisor s c = false →
    ownerReads csr = false → exec (.csrr c rd csr) s = .next (settle (coreTrap s c 1 (xword rd 0 0 4 csr)))) ∧
  (∀ (s : State) (c : Fin 16) (rs1 csr : Fin 32), Issuing s c → csr.val < 14 →
    (supervisor s c || ownerWrites csr) = true →
    exec (.csrw c rs1 csr) s = .next (settle (coreDone (csrWrite s c csr (getT s c rs1)) c 0 0))) ∧
  (∀ (s : State) (c : Fin 16) (rs1 csr : Fin 32), Issuing s c → csr.val < 14 → supervisor s c = false → csr ≠ 6 →
    exec (.csrw c rs1 csr) s = .next (settle (coreTrap s c 1 (xword 0 rs1 0 5 csr)))) ∧
  (∀ (s : State) (n : Nat), csrRead s n 0 = (s.core n).status ∧ csrRead s n 1 = (s.core n).epc ∧ csrRead s n 2 =
    (s.core n).cause ∧ csrRead s n 3 = (s.core n).tval ∧ csrRead s n 4 = (s.core n).tvec ∧ csrRead s n 7 = (s.core
    n).ptag ∧ csrRead s n 8 = (s.core n).wdog ∧ csrRead s n 13 = (s.core n).scratch ∧ csrRead s n 5 = BitVec.ofNat 64
    (n + n / 4 * 16 + s.devId * 64) ∧ csrRead s n 9 = BitVec.ofNat 64 ((s.clock - max (s.core n).since s.mode.resetAt)
    / 2) ∧ csrRead s n 10 = BitVec.ofNat 64 (s.core n).instret) ∧
  (∀ (s : State) (n : Nat) (v : DWord), (csrWrite s n 1 v).core n = { s.core n with epc := v } ∧ (csrWrite s n 3
    v).core n = { s.core n with tval := v } ∧ (csrWrite s n 4 v).core n = { s.core n with tvec := v } ∧ (csrWrite s n
    7 v).core n = { s.core n with ptag := v &&& 0xFFF } ∧ (csrWrite s n 8 v).core n =
    { s.core n with wdog := v &&& 0xFFFFFFFF, wdogAt := s.clock } ∧ (csrWrite s n 13 v).core n =
    { s.core n with scratch := v } ∧ (csrWrite s n 6 v).core n =
    { s.core n with evpend := (s.core n).evpend &&& ~~~ v, evOff := (s.clock / CLK, (if (s.core n).evOff.1 = s.clock / CLK then (s.core n).evOff.2 else 0) ||| v) }
    ∧ (csrWrite s n 0 v).core n = { s.core n with status := setFld (s.core n).status 2 1 (fld v 2 1) }) ∧
  (∀ (s : State) (n k : Nat) (v : DWord), k = 5 ∨ k = 9 ∨ k = 10 ∨ k = 11 ∨ k = 12 → csrWrite s n k v = s)

/-- TRAP takes the service trap with CODE in TVAL and pc + 4 in EPC. HALT at supervisor level ends and stops the core,
raising "core halted"; at owner level it takes the HALT trap. ERET at supervisor level sets pc to EPC, PL to PPL and
clears INTRAP; at owner level it traps. An illegal word traps with the word in TVAL. WDOG x 1,024 paludier clocks after
the last reload the watchdog raises its source and reloads. A restart of a core with a busy move slot waits, and is
carried out once none is busy. -/
def Obligations.TrapHaltAndReturn : Prop :=
  (∀ (s : State) (c : Fin 16) (code : BitVec 10), Issuing s c → bit (s.core c).status 2 = false →
    exec (.trap c code) s = .next (settle (tick (s.setCore c
      { s.core c with epc := (s.core c).pc + 4, cause := 6, tval := BitVec.ofNat 64 code.toNat, status := BitVec.ofNat 64 (5 + 2 * fld (s.core c).status 0 0), pc := setFld (s.core c).tvec 1 0 0 })
      (bCore c) 4 1))) ∧
  (∀ (s : State) (c : Fin 16), Issuing s c → supervisor s c = true →
    exec (.halt c) s = .next (settle (raise ((coreDone s c 0 0).setCore c
      { (coreDone s c 0 0).core c with halted := true }) (Src.core c 3)))) ∧
  (∀ (s : State) (c : Fin 16), Issuing s c → supervisor s c = false → bit (s.core c).status 2 = false →
    exec (.halt c) s = .next (settle (tick (s.setCore c
      { s.core c with epc := (s.core c).pc + 4, cause := 7, tval := 0, status := BitVec.ofNat 64 (5 + 2 * fld (s.core c).status 0 0), pc := setFld (s.core c).tvec 1 0 0 })
      (bCore c) 4 1))) ∧
  (∀ (s : State) (c : Fin 16), Issuing s c → supervisor s c = true →
    exec (.eret c) s = .next (settle ((coreDone s c 0 0).setCore c
      { (coreDone s c 0 0).core c with pc := (s.core c).epc, status := setBit (setBit (s.core c).status 0 (bit (s.core c).status 1)) 2 false }))) ∧
  (∀ (s : State) (c : Fin 16), Issuing s c → supervisor s c = false →
    exec (.eret c) s = .next (settle (coreTrap s c 1 (xword 0 0 0 3 0)))) ∧
  (∀ (s : State) (c : Fin 16) (w : Word), Issuing s c → illegalWord w = true →
    exec (.illegalInstruction c w) s = .next (settle (coreTrap s c 0 w.toNat))) ∧
  (∀ (s : State) (c : Fin 16), ExpiryActs s CLK (if (s.core c.val).wdog = 0 then none else some (wdogDue (s.core
    c.val))) → s.inReset = false → (s.core c).wdog ≠ 0 →
    (s.core c).wdogAt / 2 + 1024 * (s.core c).wdog.toNat ≤ s.clock / 2 →
    exec (.watchdogExpiry c) s = .next (settle (raise (s.setCore c { s.core c with wdogAt := s.clock }) (Src.core c
      2)))) ∧
  (∀ (s : State) (c : Fin 16), ExpiryActs s CLK (if (s.core c.val).wdog = 0 then none else some (wdogDue (s.core
    c.val))) → s.inReset = false →
    (s.core c).wdog = 0 ∨ s.clock / 2 < (s.core c).wdogAt / 2 + 1024 * (s.core c).wdog.toNat →
    exec (.watchdogExpiry c) s = .next (settle (s))) ∧
  (∀ (s : State) (p : Path) (c : Fin 16), MayWriteGk s p (Reg.PAL_CORECTL c) → canEnable s (uCore c) = true →
    anySlotBusy s c = false → exec (.coreRestart p c) s = .next (settle (flow (settle (restartNow (disarm s p) c))))) ∧
  (∀ (s : State) (p : Path) (c : Fin 16), MayWriteGk s p (Reg.PAL_CORECTL c) → canEnable s (uCore c) = true →
    anySlotBusy s c = true →
    exec (.coreRestart p c) s = .next (settle (flow (settle ((disarm s p).setCore c
      { s.core c with restartHeld := true, atBoundary := false }))))) ∧
  (∀ (s : State) (c : Fin 16), s.inReset = false → (s.core c).restartHeld = true → anySlotBusy s c = false →
    (s.core c).atBoundary = false ∨ (s.core c).wait = none →
    exec (.coreRestartDeferred c) s = .next (settle (flow (settle (restartNow s c))))) ∧
  (∀ (k : Core) (t : Nat), coreReset k t =
    { k with t := [], pc := 0, status := 1, epc := 0, cause := 0, tval := 0, tvec := 0, evpend := 0, ptag := 0, wdog := 0, scratch := 0, wdogAt := t, since := t, instret := 0, halted := false, restartHeld := false, atBoundary := false, wait := none })

/-- WAIT and WAITT with a selected bit of EVPEND set end with rd = EVPEND & mask, those bits cleared. Otherwise WAITT ends
with 0 when the tide is reached; WAIT holds issue, with expiry after rs2 paludier clocks or without limit for 0, and WAITT
holds it. A held wait ends in the same ways when an event comes, its count passes or its tide is reached, an event taken
first; in the clock of the expiry or of the tide it ends at the end of that clock (R13). TIDE gives TIDE_NOW; CNTR gives
the live or snapshot counter, and a free value for a number with a bit of [63:11] set (R7; log entry 32). -/
def Obligations.WaitingAndEvents : Prop :=
  (∀ (s : State) (c : Fin 16) (rd rs1 rs2 : Fin 32), Issuing s c → evView s c &&& getT s c rs1 ≠ 0 →
    exec (.wait c rd rs1 rs2) s = .next (settle (coreDone (evClear s c (getT s c rs1)) c rd (evView s c &&& getT s c
      rs1)))) ∧
  (∀ (s : State) (c : Fin 16) (rd rs1 rs2 : Fin 32), Issuing s c → evView s c &&& getT s c rs1 = 0 →
    exec (.wait c rd rs1 rs2) s = .next (settle (s.setCore c
      { s.core c with wait := some (.events rd (getT s c rs1) (if (getT s c rs2).toNat = 0 then none else some (s.clock / CLK + (getT s c rs2).toNat))) }))) ∧
  (∀ (s : State) (c : Fin 16) (rd rs1 rs2 : Fin 32), Issuing s c → evView s c &&& getT s c rs2 ≠ 0 →
    exec (.waitt c rd rs1 rs2) s = .next (settle (coreDone (evClear s c (getT s c rs2)) c rd (evView s c &&& getT s c
      rs2)))) ∧
  (∀ (s : State) (c : Fin 16) (rd rs1 rs2 : Fin 32), Issuing s c → evView s c &&& getT s c rs2 = 0 →
    (getT s c rs1).toNat ≤ s.tide → exec (.waitt c rd rs1 rs2) s = .next (settle (coreDone s c rd 0))) ∧
  (∀ (s : State) (c : Fin 16) (rd rs1 rs2 : Fin 32), Issuing s c → evView s c &&& getT s c rs2 = 0 →
    s.tide < (getT s c rs1).toNat →
    exec (.waitt c rd rs1 rs2) s = .next (settle (s.setCore c
      { s.core c with wait := some (.tide rd (getT s c rs1).toNat (getT s c rs2)) }))) ∧
  (∀ (s : State) (c : Fin 16) (rd : Fin 32) (m : DWord) (t : Option Nat), goesOn s c = true →
    (s.core c).wait = some (.events rd m t) → evView s c &&& m ≠ 0 →
    exec (.waitEventWake c) s = .next (settle (coreDone (evClear s c m) c rd (evView s c &&& m)))) ∧
  (∀ (s : State) (c : Fin 16) (rd : Fin 32) (m : DWord) (t : Nat), goesOn s c = true →
    (s.core c).wait = some (.events rd m (some t)) → ExpiryActs s CLK (some t) → t ≤ s.clock / CLK →
    evView s c &&& m = 0 → exec (.waitTimeout c) s = .next (settle (coreDone s c rd 0))) ∧
  (∀ (s : State) (c : Fin 16) (rd : Fin 32) (m : DWord) (t : Nat), goesOn s c = true →
    (s.core c).wait = some (.events rd m (some t)) → s.clock / CLK < t → exec (.waitTimeout c) s = .next (settle (s))) ∧
  (∀ (s : State) (c : Fin 16) (rd : Fin 32) (m : DWord) (t : Nat), goesOn s c = true →
    (s.core c).wait = some (.tide rd t m) → evView s c &&& m ≠ 0 →
    exec (.waittEventWake c) s = .next (settle (coreDone (evClear s c m) c rd (evView s c &&& m)))) ∧
  (∀ (s : State) (c : Fin 16) (rd : Fin 32) (m : DWord) (t : Nat), goesOn s c = true →
    (s.core c).wait = some (.tide rd t m) → s.closing = true → (s.clock + 1) % CLK = 0 → t ≤ s.tide →
    evView s c &&& m = 0 → exec (.waittTideReached c) s = .next (settle (coreDone s c rd 0))) ∧
  (∀ (s : State) (c : Fin 16) (rd : Fin 32), Issuing s c →
    exec (.tide c rd) s = .next (settle (coreDone s c rd (BitVec.ofNat 64 s.tide)))) ∧
  (∀ (s : State) (c : Fin 16) (rd rs1 : Fin 32) (snap : Bool) (k : Nat), Issuing s c →
    getT s c rs1 = BitVec.ofNat 64 k → k < 2048 →
    exec (.cntr c rd rs1 snap) s = .next (settle (coreDone s c rd (BitVec.ofNat 64 (smGet 0 (if snap then s.tel.snap
      else s.tel.cnt) k % 2 ^ 48))))) ∧
  (∀ (s : State) (c : Fin 16) (rd rs1 : Fin 32) (snap : Bool), Issuing s c → 2048 ≤ (getT s c rs1).toNat →
    exec (.cntr c rd rs1 snap) s = .next (settle (coreDone s.draw c rd (BitVec.ofNat 64 (Config.freeNat s.fresh)))))

/-- SEND to a READY core of this device whose queue holds fewer than 56 messages puts the 64 B there with its sender and
level and gives rd 0; with 56 messages it holds issue, and goes on as soon as there is room; to a core not READY it gives
0x8000_0000_0000_0001 and to a device of no pool 0x8000_0000_0000_0002, sending nothing. RECV of an empty queue gives
0x8000_0000_0000_0000 and leaves memory; otherwise the oldest entry is stored at rs1, leaves the queue, and its descriptor
is in rd. -/
def Obligations.MessagesBetweenCores : Prop :=
  (∀ (s : State) (c : Fin 16) (rd rs1 rs2 : Fin 32) (n : Nat) (l : Line), Issuing s c → n < 16 →
    (getT s c rs1).toNat = 16 * s.devId + n → (lineLoad s c (getT s c rs2).toNat).toOption = some l →
    readyCore s n = true → msgCount (s.core n) < 56 →
    exec (.send c rd rs1 rs2) s = .next (settle (coreDone (tick (s.setCore n ((s.core n).enqueue (s.clock / CLK)
      { kind := 0, snd := c, sdev := s.devId, score := c, spl := supervisor s c, data := l })) (bCore c) 5 1) c rd
      0))) ∧
  (∀ (s : State) (c : Fin 16) (rd rs1 rs2 : Fin 32) (n : Nat) (l : Line), Issuing s c → n < 16 →
    (getT s c rs1).toNat = 16 * s.devId + n → (lineLoad s c (getT s c rs2).toNat).toOption = some l →
    readyCore s n = true → 56 ≤ msgCount (s.core n) →
    exec (.send c rd rs1 rs2) s = .next (settle (s.setCore c { s.core c with wait := some (.send rd s.devId n l) }))) ∧
  (∀ (s : State) (c : Fin 16) (rd rs1 rs2 : Fin 32) (n : Nat) (l : Line), Issuing s c → n < 16 →
    (getT s c rs1).toNat = 16 * s.devId + n → (lineLoad s c (getT s c rs2).toNat).toOption = some l →
    readyCore s n = false → exec (.send c rd rs1 rs2) s = .next (settle (coreDone s c rd 0x8000000000000001))) ∧
  (∀ (s : State) (c : Fin 16) (rd rs1 rs2 : Fin 32) (l : Line), Issuing s c → inPool s = false →
    (getT s c rs1).toNat < 2 ^ 14 → (getT s c rs1).toNat / 16 ≠ s.devId →
    (lineLoad s c (getT s c rs2).toNat).toOption = some l →
    exec (.send c rd rs1 rs2) s = .next (settle (coreDone s c rd 0x8000000000000002))) ∧
  (∀ (s : State) (c : Fin 16) (rd : Fin 32) (n : Nat) (l : Line), goesOn s c = true →
    (s.core c).wait = some (.send rd s.devId n l) → readyCore s n = true → msgCount (s.core n) < 56 →
    exec (.sendStallRelease c) s = .next (settle (coreDone (tick (s.setCore n ((s.core n).enqueue (s.clock / CLK)
      { kind := 0, snd := c, sdev := s.devId, score := c, spl := supervisor s c, data := l })) (bCore c) 5 1) c rd
      0))) ∧
  (∀ (s : State) (c : Fin 16) (rd rs1 : Fin 32), Issuing s c → (s.core c).queue = [] → (getT s c rs1).toNat % 64 = 0 →
    exec (.recv c rd rs1) s = .next (settle (coreDone s c rd 0x8000000000000000))) ∧
  (∀ (s t : State) (c : Fin 16) (rd rs1 : Fin 32) (e : QEntry) (r : List QEntry), Issuing s c →
    (s.core c).queue = e :: r → (lineStore s c (getT s c rs1).toNat e.data).toOption = some t →
    exec (.recv c rd rs1) s = .next (settle (coreDone (tick (popQueue t c) (bCore c) 6 1) c rd (descriptor e)))) ∧
  (∀ (s : State) (c : Fin 16) (a : Nat) (l : Line), a % 64 ≠ 0 →
    lineLoad s c a = .error (3, a) ∧ lineStore s c a l = .error (3, a))

/-- RGR of an aligned offset below 64 MiB that its level may read, with no posted write, gives the value zero-extended;
behind posted writes it holds issue. RGW that is allowed joins the posted writes and ends; RGW_APPLIED gives the oldest
one to the fabric. A refused access traps with cause 5 and raises "register access refused", a misaligned offset takes the
misaligned trap; with a bit of rs1[63:26] set RGR gives a free value and RGW does nothing (R7; log entry 33). FENCE ends
when the selected work is done, else holds issue, and goes on when it is. SETARM at supervisor level arms and gives its
status; at owner level it takes the privilege trap. -/
def Obligations.RegisterSpaceFromCores : Prop :=
  (∀ (s : State) (c : Fin 16) (rd rs1 : Fin 32), Issuing s c → (getT s c rs1).toNat % 4 = 0 →
    (getT s c rs1).toNat < 2 ^ 26 → readRefused s (corePath s c) (canonOff (getT s c rs1).toNat) = false →
    (s.core c).posted = [] → isIdxData (canonOff (getT s c rs1).toNat) = none →
    exec (.rgr c rd rs1) s = .next (settle (flow (coreDone (readPlain s (corePath s c) (canonOff (getT s c
      rs1).toNat)).1 c rd ((readPlain s (corePath s c) (canonOff (getT s c rs1).toNat)).2.zeroExtend 64))))) ∧
  (∀ (s : State) (c : Fin 16) (rd rs1 : Fin 32), Issuing s c → (getT s c rs1).toNat % 4 = 0 →
    (getT s c rs1).toNat < 2 ^ 26 → readRefused s (corePath s c) (canonOff (getT s c rs1).toNat) = false →
    (s.core c).posted ≠ [] →
    exec (.rgr c rd rs1) s = .next (settle (flow (s.setCore c
      { s.core c with wait := some (.rgr rd (getT s c rs1).toNat) })))) ∧
  (∀ (s : State) (c : Fin 16) (rd rs1 : Fin 32), Issuing s c → (getT s c rs1).toNat % 4 = 0 →
    (getT s c rs1).toNat < 2 ^ 26 → readRefused s (corePath s c) (canonOff (getT s c rs1).toNat) = true →
    exec (.rgr c rd rs1) s = .next (settle (flow (refuse s (corePath s c) false (getT s c rs1).toNat)))) ∧
  (∀ (s : State) (c : Fin 16) (rd rs1 : Fin 32), Issuing s c → (getT s c rs1).toNat % 4 ≠ 0 →
    exec (.rgr c rd rs1) s = .next (settle (flow (coreTrap s c 3 (getT s c rs1).toNat))) ∧ exec (.rgw c rs1 rd) s =
      .next (settle (coreTrap s c 3 (getT s c rs1).toNat))) ∧
  (∀ (s : State) (c : Fin 16) (rd rs1 : Fin 32), Issuing s c → (getT s c rs1).toNat % 4 = 0 →
    2 ^ 26 ≤ (getT s c rs1).toNat →
    exec (.rgr c rd rs1) s = .next (settle (flow (coreDone s.draw c rd (BitVec.ofNat 64 (Config.freeNat s.fresh))))) ∧
      exec (.rgw c rs1 rd) s = .next (settle (coreDone s c 0 0))) ∧
  (∀ (s : State) (c : Fin 16) (rs1 rs2 : Fin 32), Issuing s c → (getT s c rs1).toNat % 4 = 0 →
    (getT s c rs1).toNat < 2 ^ 26 → writeRefused s (corePath s c) (canonOff (getT s c rs1).toNat) = false →
    flashBarred s (corePath s c) (canonOff (getT s c rs1).toNat) = false →
    (isSetHeld (canonOff (getT s c rs1).toNat) && setArmed s) = false →
    exec (.rgw c rs1 rs2) s = .next (settle (coreDone (s.setCore c
      { s.core c with posted := (s.core c).posted ++ [((getT s c rs1).toNat, BitVec.ofNat 32 (getT s c rs2).toNat, !supervisor s c)] })
      c 0 0))) ∧
  (∀ (s : State) (c : Fin 16) (off : Nat) (v : Word) (o : Bool) (r : List (Nat × Word × Bool)), s.inReset = false →
    (s.core c).posted = (off, v, o) :: r → (s.core c).wait = none →
    ((applyWrite (s.setCore c { s.core c with posted := r }) (.core c o) off v).1.core c).wait = none →
    exec (.rgwApplied c) s = .next (settle (flow (settle ((applyWrite (s.setCore c { s.core c with posted := r })
      (.core c o) off v).1))))) ∧
  (∀ (s : State) (c : Fin 16) (sel : Fin 8), Issuing s c → fenceDone s c sel = true →
    exec (.fence c sel) s = .next (settle (coreDone s c 0 0))) ∧
  (∀ (s : State) (c : Fin 16) (sel : Fin 8), Issuing s c → fenceDone s c sel = false →
    exec (.fence c sel) s = .next (settle (s.setCore c { s.core c with wait := some (.fence sel) }))) ∧
  (∀ (s : State) (c : Fin 16) (sel : Nat), goesOn s c = true → (s.core c).wait = some (.fence sel) →
    fenceDone s c sel = true → exec (.fenceRelease c) s = .next (settle (coreDone s c 0 0))) ∧
  (∀ (s : State) (c : Fin 16) (rd : Fin 32), Issuing s c → supervisor s c = true →
    exec (.setarm c rd) s = .next (settle (coreDone (armSet s).1 c rd (BitVec.ofNat 64 (armSet s).2)))) ∧
  (∀ (s : State) (c : Fin 16) (rd : Fin 32), Issuing s c → supervisor s c = false →
    exec (.setarm c rd) s = .next (settle (coreTrap s c 1 (xword rd 0 0 0x1C 0))))

/-- Outside HOLD and SAFE a page operation or DQRY holds issue and enters its home slice as one request with the core's
tag for the page, TMW with rs2 and the compared rd. In SAFE TMR, TMW, PZERO and DQRY give the all-ones result and PPROBE
its refusal. PMOV in SAFE gives 0x8000_0000_0000_0006; elsewhere it goes to the home slice of its page too, which gives
error 1 when no move slot is free, 2 for an address beyond 2^46, and its error to rd. PAGE_MOVE_COMPLETE of a slot with no
copy in progress, or in HOLD, changes nothing; else the page read is stored in its new tier. AMO.ADD, SWP, CAS and MAX
with an aligned pool address of this device or a member, outside HOLD and SAFE, hold issue and enter the home slice of the
line with rs2 and rd. A misaligned address takes the misaligned trap, an address of no member the access trap, in SAFE the
poison trap; in HOLD the instruction waits for HOLD exit. -/
def Obligations.PageOperationsAndAtomics : Prop :=
  (∀ (s : State) (c : Fin 16) (rd rs1 : Fin 32), Issuing s c → s.code ≠ Mode.safe → holding s = false →
    exec (.tmr c rd rs1) s = .next (settle (flow (submit (holdIssue (takeId s).1 c (.page rd (takeId s).2)) (pageReq
      (takeId s).1 c rd .tmr (takeId s).2 (getT s c rs1).toNat 0 0))))) ∧
  (∀ (s : State) (c : Fin 16) (rd rs1 rs2 : Fin 32), Issuing s c → s.code ≠ Mode.safe → holding s = false →
    exec (.tmw c rd rs1 rs2) s = .next (settle (flow (submit (holdIssue (takeId s).1 c (.page rd (takeId s).2))
      (pageReq (takeId s).1 c rd .tmw (takeId s).2 (getT s c rs1).toNat (getT s c rs2) (getT s c rd)))))) ∧
  (∀ (s : State) (c : Fin 16) (rd rs1 : Fin 32), Issuing s c → s.code ≠ Mode.safe → holding s = false →
    exec (.pzero c rd rs1) s = .next (settle (flow (submit (holdIssue (takeId s).1 c (.page rd (takeId s).2)) (pageReq
      (takeId s).1 c rd .pzero (takeId s).2 (getT s c rs1).toNat 0 0))))) ∧
  (∀ (s : State) (c : Fin 16) (rd rs1 : Fin 32), Issuing s c → s.code ≠ Mode.safe → holding s = false →
    exec (.pprobe c rd rs1) s = .next (settle (flow (submit (holdIssue (takeId s).1 c (.page rd (takeId s).2))
      (pageReq (takeId s).1 c rd .pprobe (takeId s).2 (getT s c rs1).toNat 0 0))))) ∧
  (∀ (s : State) (c : Fin 16) (rd rs1 : Fin 32), Issuing s c → s.code ≠ Mode.safe → holding s = false →
    exec (.dqry c rd rs1) s = .next (settle (flow (submit (holdIssue (takeId s).1 c (.page rd (takeId s).2)) (pageReq
      (takeId s).1 c rd .dqry (takeId s).2 ((getT s c rs1).toNat / 64 * 64) 0 0))))) ∧
  (∀ (s : State) (c : Fin 16) (rd rs1 rs2 : Fin 32), Issuing s c → s.code = Mode.safe →
    exec (.tmr c rd rs1) s = .next (settle (flow (coreDone s c rd 0xFFFFFFFFFFFFFFFF))) ∧ exec (.tmw c rd rs1 rs2) s =
      .next (settle (flow (coreDone s c rd 0xFFFFFFFFFFFFFFFF))) ∧ exec (.pzero c rd rs1) s = .next (settle (flow
      (coreDone s c rd 0xFFFFFFFFFFFFFFFF))) ∧ exec (.pprobe c rd rs1) s = .next (settle (flow (coreDone s c rd
      0x8000000000000000))) ∧ exec (.dqry c rd rs1) s = .next (settle (flow (coreDone s c rd 0xFFFFFFFFFFFFFFFF))) ∧
      exec (.pmov c rd rs1 rs2) s = .next (settle (flow (coreDone s c rd 0x8000000000000006)))) ∧
  (∀ (s : State) (c : Fin 16) (rd rs1 rs2 : Fin 32), Issuing s c → s.code ≠ Mode.safe → holding s = false →
    exec (.pmov c rd rs1 rs2) s = .next (settle (flow (submit (holdIssue (takeId (tick s (bCore c) 7 1)).1 c (.page rd
      (takeId (tick s (bCore c) 7 1)).2)) (pageReq (takeId (tick s (bCore c) 7 1)).1 c rd .move (takeId (tick s (bCore
      c) 7 1)).2 (getT s c rs1).toNat 0 (getT s c rs2)))))) ∧
  (∀ (s : State) (r : Req) (n : Nat) (d : DWord), freeMoveSlot s n = none → pmovError s r n d = (s, some 1)) ∧
  (∀ (s : State) (r : Req) (n : Nat) (d : DWord) (k : Nat), freeMoveSlot s n = some k → 2 ^ 46 ≤ r.line →
    pmovError s r n d = (s, some 2)) ∧
  (∀ (s : State) (t : Txn) (n : Fin 16) (rd : Fin 32) (u : State) (x : Nat), pmovError s t.req n (BitVec.ofNat 64
    t.req.b) = (u, some x) → openPmov s t n rd = reqDone t.req u n rd (pmovErr x)) ∧
  (∀ (s : State) (c : Fin 16) (k : Fin 8) (e : List (List (Nat × Word))), s.tier.moves.find? (fun m => decide
    (m.core.val = c.val ∧ m.slot = k.val ∧ m.phase = 1)) = none →
    exec (.pageMoveComplete c k e) s = .next (settle (flow (s)))) ∧
  (∀ (s : State) (c : Fin 16) (k : Fin 8) (e : List (List (Nat × Word))) (m : Move), s.tier.moves.find? (fun m =>
    decide (m.core.val = c.val ∧ m.slot = k.val ∧ m.phase = 1)) = some m → holding s = true →
    exec (.pageMoveComplete c k e) s = .next (settle (flow (s)))) ∧
  (∀ (s : State) (c : Fin 16) (k : Fin 8) (e : List (List (Nat × Word))) (m : Move), s.tier.moves.find? (fun m =>
    decide (m.core.val = c.val ∧ m.slot = k.val ∧ m.phase = 1)) = some m → holding s = false → m.cset = s.sets.swaps →
    m.lines ≠ [] → exec (.pageMoveComplete c k e) s = .next (settle (flow (moveLines s m (linesOfMap m.lines))))) ∧
  (∀ (s : State) (c : Fin 16) (k : Fin 8) (e : List (List (Nat × Word))) (m : Move) (t : State) (l : List (Line ×
    Bool)), s.tier.moves.find? (fun m => decide (m.core.val = c.val ∧ m.slot = k.val ∧ m.phase = 1)) = some m →
    holding s = false → m.cset = s.sets.swaps → m.lines = [] →
    moveRead (readMany s (pageReadKeys s m.old) e).1 m (readMany s (pageReadKeys s m.old) e).2 = (t, some l) →
    exec (.pageMoveComplete c k e) s = .next (settle (flow (moveLines t m l)))) ∧
  (∀ (s : State) (c : Fin 16) (rd rs1 rs2 : Fin 32) (w : Bool), Issuing s c →
    (getT s c rs1).toNat % (if w then 4 else 8) = 0 → (getT s c rs1).toNat < 2 ^ 56 →
    (getT s c rs1).toNat / 2 ^ 46 = s.devId ∨ (inPool s = true ∧ isMember s ((getT s c rs1).toNat / 2 ^ 46) = true) →
    s.code ≠ Mode.safe → holding s = false →
    exec (.amoAdd c rd rs1 rs2 w) s = .next (settle (flow (submit (holdIssue (takeId s).1 c (.atomic rd (takeId s).2))
      (amoReq (takeId s).1 c rd rs2 .amoAdd (!w) (takeId s).2 (getT s c rs1).toNat))))) ∧
  (∀ (s : State) (c : Fin 16) (rd rs1 rs2 : Fin 32) (w : Bool), Issuing s c →
    (getT s c rs1).toNat % (if w then 4 else 8) = 0 → (getT s c rs1).toNat < 2 ^ 56 →
    (getT s c rs1).toNat / 2 ^ 46 = s.devId ∨ (inPool s = true ∧ isMember s ((getT s c rs1).toNat / 2 ^ 46) = true) →
    s.code ≠ Mode.safe → holding s = false →
    exec (.amoSwp c rd rs1 rs2 w) s = .next (settle (flow (submit (holdIssue (takeId s).1 c (.atomic rd (takeId s).2))
      (amoReq (takeId s).1 c rd rs2 .amoSwp (!w) (takeId s).2 (getT s c rs1).toNat))))) ∧
  (∀ (s : State) (c : Fin 16) (rd rs1 rs2 : Fin 32) (w : Bool), Issuing s c →
    (getT s c rs1).toNat % (if w then 4 else 8) = 0 → (getT s c rs1).toNat < 2 ^ 56 →
    (getT s c rs1).toNat / 2 ^ 46 = s.devId ∨ (inPool s = true ∧ isMember s ((getT s c rs1).toNat / 2 ^ 46) = true) →
    s.code ≠ Mode.safe → holding s = false →
    exec (.amoCas c rd rs1 rs2 w) s = .next (settle (flow (submit (holdIssue (takeId s).1 c (.atomic rd (takeId s).2))
      (amoReq (takeId s).1 c rd rs2 .amoCas (!w) (takeId s).2 (getT s c rs1).toNat))))) ∧
  (∀ (s : State) (c : Fin 16) (rd rs1 rs2 : Fin 32) (w u : Bool), Issuing s c →
    (getT s c rs1).toNat % (if w then 4 else 8) = 0 → (getT s c rs1).toNat < 2 ^ 56 →
    (getT s c rs1).toNat / 2 ^ 46 = s.devId ∨ (inPool s = true ∧ isMember s ((getT s c rs1).toNat / 2 ^ 46) = true) →
    s.code ≠ Mode.safe → holding s = false →
    exec (.amoMax c rd rs1 rs2 w u) s = .next (settle (flow (submit (holdIssue (takeId s).1 c (.atomic rd (takeId
      s).2)) (amoReq (takeId s).1 c rd rs2 (if u then .amoMaxU else .amoMax) (!w) (takeId s).2 (getT s c
      rs1).toNat))))) ∧
  (∀ (i : Instr) (s : State) (c : Fin 16) (rd rs1 rs2 : Fin 32) (k : ReqKind) (w : Bool), (getT s c rs1).toNat % (if w
    then 4 else 8) ≠ 0 → doAmo i c rd rs1 rs2 k w s = coreTrap s c 3 (getT s c rs1).toNat) ∧
  (∀ (i : Instr) (s : State) (c : Fin 16) (rd rs1 rs2 : Fin 32) (k : ReqKind) (w : Bool), (getT s c rs1).toNat % (if w
    then 4 else 8) = 0 → 2 ^ 56 ≤ (getT s c rs1).toNat →
    doAmo i c rd rs1 rs2 k w s = coreTrap s c 4 (getT s c rs1).toNat) ∧
  (∀ (i : Instr) (s : State) (c : Fin 16) (rd rs1 rs2 : Fin 32) (k : ReqKind) (w : Bool), (getT s c rs1).toNat % (if w
    then 4 else 8) = 0 → (getT s c rs1).toNat < 2 ^ 56 → (getT s c rs1).toNat / 2 ^ 46 = s.devId →
    s.code = Mode.safe → doAmo i c rd rs1 rs2 k w s = coreTrap s c 8 (getT s c rs1).toNat) ∧
  (∀ (i : Instr) (s : State) (c : Fin 16) (rd rs1 rs2 : Fin 32) (k : ReqKind) (w : Bool), (getT s c rs1).toNat % (if w
    then 4 else 8) = 0 → (getT s c rs1).toNat < 2 ^ 56 → (getT s c rs1).toNat / 2 ^ 46 = s.devId →
    s.code ≠ Mode.safe → holding s = true →
    doAmo i c rd rs1 rs2 k w s = s.setCore c { s.core c with wait := some (.hold i) })

/-- While firmware runs, on a logical device's or FM-owned LD's mailbox: Get Event Records, Get Event Interrupt Policy,
Get Timestamp, Get Supported Logs, Get Log, Identify Memory Device, Get Poison List, Get Scan Media Capabilities and
Results, Get DC Configuration, Get DC Extent List and Get FW Info answer Success with their payload; Get LD Info and Get
LD Allocations answer on FM mailboxes and the sideband path; GLX Get Load Status, Get Alias Layout and Get Readiness
answer the registers and the TAGRES bytes. Where firmware does not run the answer is Unsupported. Layouts the spec leaves
to CXL are the model's choice (log entries marked PRESUMED). While firmware runs: Clear Event Records takes the oldest
records and the overflow indication away, or refuses a count above those held; Set Event Interrupt Policy and Set
Timestamp store theirs; Transfer FW puts a part into the inactive NOR slot; Activate FW of the inactive slot starts
staging in the background; Clear Poison writes its line within the logical device's capacity through a writable window;
Inject Poison runs in TEST only; Scan Media starts the rake over its pages in the background; Busy while a background
command runs. -/
def Obligations.MailboxCommands : Prop :=
  (∀ (s : State) (m : Issuer) (ld : Nat) (log : Fin 4), s.inReset = false → firmwareRuns s = true →
    issuerLd m = some ld → exec (.getEventRecords m log) s = .next (settle (reply s m rcSuccess (eventOut s ld log)))) ∧
  (∀ (s : State) (m : Issuer) (ld : Nat), s.inReset = false → firmwareRuns s = true → issuerLd m = some ld →
    exec (.getEventInterruptPolicy m) s = .next (settle (reply s m rcSuccess (natBytes 5 (smGet 0 s.evt.policy ld))))) ∧
  (∀ (s : State) (m : Issuer) (ld : Nat), s.inReset = false → firmwareRuns s = true → issuerLd m = some ld →
    exec (.getTimestamp m) s = .next (settle (reply s m rcSuccess (natBytes 8 (timestampNow s ld))))) ∧
  (∀ (s : State) (m : Issuer) (ld : Nat), s.inReset = false → firmwareRuns s = true → issuerLd m = some ld →
    exec (.getSupportedLogs m) s = .next (settle (reply s.draw m rcSuccess (2 :: Config.cxlPayload 0x0400 s.fresh)))) ∧
  (∀ (s : State) (m : Issuer) (ld : Nat) (v : Bool), s.inReset = false → firmwareRuns s = true →
    issuerLd m = some ld →
    exec (.getLog m v) s = .next (settle (reply s m rcSuccess (if v then payload 64 (s.sets.log.flatMap (fun l =>
      natBytes 64 l.toNat)) else supportedOpcodes.flatMap (natBytes 2))))) ∧
  (∀ (s : State) (m : Issuer) (ld : Nat), s.inReset = false → firmwareRuns s = true → issuerLd m = some ld →
    exec (.identifyMemoryDevice m) s = .next (settle (reply s m rcSuccess (natBytes 8 0 ++ natBytes 8 (2 ^ 50))))) ∧
  (∀ (s : State) (m : Issuer) (ld : Nat), s.inReset = false → firmwareRuns s = true → issuerLd m = some ld →
    exec (.getPoisonList m) s = .next (settle (reply s m rcSuccess (payload 8 ((poisonLines s).flatMap (natBytes
      8)))))) ∧
  (∀ (s : State) (m : Issuer) (ld : Nat), s.inReset = false → firmwareRuns s = true → issuerLd m = some ld →
    exec (.getScanMediaCapabilities m) s = .next (settle (reply s.draw m rcSuccess (Config.cxlPayload 0x4303
      s.fresh)))) ∧
  (∀ (s : State) (m : Issuer) (ld : Nat), s.inReset = false → firmwareRuns s = true → issuerLd m = some ld →
    exec (.getScanMediaResults m) s = .next (settle (reply s m rcSuccess (scanOut s)))) ∧
  (∀ (s : State) (m : Issuer) (ld : Nat), s.inReset = false → firmwareRuns s = true → issuerLd m = some ld →
    exec (.getDcConfiguration m) s = .next (settle (reply s m rcSuccess ([1] ++ natBytes 8 0 ++ natBytes 8 (2 ^ 50) ++
      natBytes 8 (2 ^ 28))))) ∧
  (∀ (s : State) (m : Issuer) (ld : Nat), s.inReset = false → firmwareRuns s = true → issuerLd m = some ld →
    exec (.getDcExtentList m) s = .next (settle (reply s m rcSuccess (extentOut s ld)))) ∧
  (∀ (s : State) (m : Issuer) (ld : Nat), s.inReset = false → firmwareRuns s = true → issuerLd m = some ld →
    exec (.getFwInfo m) s = .next (settle (reply s.draw m rcSuccess (fwInfo s)))) ∧
  (∀ (s : State) (p : Fin 64), s.inReset = false → firmwareRuns s = true →
    exec (.getLdInfo (.fm p)) s = .next (settle (reply s (.fm p) rcSuccess (natBytes 8 (2 ^ 46) ++ natBytes 2
      (ldsOfPort s p).length)))) ∧
  (∀ (s : State) (p : Fin 64), s.inReset = false → firmwareRuns s = true →
    exec (.getLdAllocations (.fm p)) s = .next (settle (reply s (.fm p) rcSuccess (allocOut s (ldsOfPort s p))))) ∧
  (∀ (s : State) (m : Issuer), s.inReset = false → firmwareRuns s = true → mayLoad s m = true →
    exec (.glxGetLoadStatus m) s = .next (settle (reply s m rcSuccess (natBytes 4 (s.reg Reg.PAL_LOADSTAT).toNat)))) ∧
  (∀ (s : State) (l : Fin 256), s.inReset = false → firmwareRuns s = true →
    exec (.glxGetAliasLayout (.ld l)) s = .next (settle (reply s (.ld l) rcSuccess (natBytes 64 (s.act 1 (64 * l.val)
      64))))) ∧
  (∀ (s : State) (l : Fin 256), s.inReset = false → firmwareRuns s = true →
    exec (.glxGetReadiness (.ld l)) s = .next (settle (reply s (.ld l) rcSuccess (readinessOut s))) ∧ exec
      (.glxGetReadiness .sideband) s = .next (settle (reply s .sideband rcSuccess (readinessOut s)))) ∧
  (∀ (s : State) (m : Issuer) (op : Nat), s.inReset = false → firmwareRuns s = true →
    supportedOpcodes.contains op = false →
    exec (.mailboxUnsupported m op) s = .next (settle (reply s m rcUnsupported []))) ∧
  (∀ (s : State) (m : Issuer), s.inReset = false → firmwareRuns s = false →
    exec (.getTimestamp m) s = .next (settle (reply s m rcUnsupported [])) ∧ exec (.glxGetReadiness m) s = .next
      (settle (reply s m rcUnsupported []))) ∧
  (∀ (s : State) (m : Issuer) (ld : Nat) (log : Fin 4) (n : Nat), s.inReset = false → firmwareRuns s = true →
    issuerLd m = some ld → n ≠ 0 → n ≤ (smGet [] s.evt.logs (4 * ld + log)).length →
    exec (.clearEventRecords m log n) s = .next (settle (reply
      { s with evt := { s.evt with logs := smSet [] s.evt.logs (4 * ld + log) ((smGet [] s.evt.logs (4 * ld + log)).drop n), full := s.evt.full.filter (fun x => decide (x ≠ (4 * ld + log))) } }
      m rcSuccess []))) ∧
  (∀ (s : State) (m : Issuer) (ld : Nat) (log : Fin 4) (n : Nat), s.inReset = false → firmwareRuns s = true →
    issuerLd m = some ld → (smGet [] s.evt.logs (4 * ld + log)).length < n →
    exec (.clearEventRecords m log n) s = .next (settle (reply s m rcHandle []))) ∧
  (∀ (s : State) (m : Issuer) (ld : Nat) (v : Nat), s.inReset = false → firmwareRuns s = true → issuerLd m = some ld →
    exec (.setEventInterruptPolicy m v) s = .next (settle (reply
      { s with evt := { s.evt with policy := smSet 0 s.evt.policy ld v } } m rcSuccess []))) ∧
  (∀ (s : State) (m : Issuer) (ld : Nat) (v : Nat), s.inReset = false → firmwareRuns s = true → issuerLd m = some ld →
    exec (.setTimestamp m v) s = .next (settle (reply (s.setLogDev ld
      { s.logDev ld with timestamp := v % 2 ^ 64, stampedAt := s.clock }) m rcSuccess []))) ∧
  (∀ (s : State) (m : Issuer) (ld : Nat) (x : Bool) (off : Nat) (d : List Byte), s.inReset = false →
    firmwareRuns s = true → issuerLd m = some ld → b2n x = idleImage s → off + d.length ≤ 0x400000 →
    fwBusy s = false →
    exec (.transferFw m x off d) s = .next (settle (reply (putNor s (norSlot (b2n x) + off) d) m rcSuccess []))) ∧
  (∀ (s t : State) (m : Issuer) (ld : Nat) (x o : Bool), s.inReset = false → firmwareRuns s = true →
    issuerLd m = some ld → b2n x = idleImage s → s.port.bg = none → fwBusy s = false → s.sets.staging = none →
    t = { s with port := { s.port with bg := some (issuerKey m, 0x0202) } } →
    exec (.activateFw m x o) s = .next (settle (reply
      { t.setBit Reg.PAL_FWSTAT 31 true with sec := { t.sec with fwCmd := some (1, norImage t (idleImage t), if o then 1 else 2) } }
      m rcBackground []))) ∧
  (∀ (s : State) (m : Issuer) (ld : Nat) (a : Nat) (d : Line), s.inReset = false → firmwareRuns s = true →
    issuerLd m = some ld → ld < 256 → (tagres s ld (a / 2 ^ 46 % 16)).testBit 31 = true →
    (tagres s ld (a / 2 ^ 46 % 16)).testBit 30 = false → inExtent s ld (a % 2 ^ 46) = true → s.code ≠ Mode.safe →
    exec (.clearPoison m a d) s = .next (settle (flow (reply (poisonWrite s ld a d false) m rcSuccess [])))) ∧
  (∀ (s : State) (m : Issuer) (ld : Nat) (a : Nat), s.inReset = false → firmwareRuns s = true → issuerLd m = some ld →
    s.code = Mode.test →
    exec (.injectPoison m a) s = .next (settle (flow (reply (poisonWrite s ld a 0 true) m rcSuccess [])))) ∧
  (∀ (s : State) (m : Issuer) (ld : Nat) (a : Nat), s.inReset = false → firmwareRuns s = true → issuerLd m = some ld →
    s.code ≠ Mode.test → exec (.injectPoison m a) s = .next (settle (flow (reply s m rcUnsupported [])))) ∧
  (∀ (s : State) (m : Issuer) (ld : Nat) (a b : Nat), s.inReset = false → firmwareRuns s = true →
    issuerLd m = some ld → a ≤ b → b < 2 ^ 46 → s.bit Reg.RAKE_STAT 31 = true →
    exec (.scanMedia m a b) s = .next (settle (reply s m rcBusy []))) ∧
  (∀ (s : State) (m : Issuer) (ld : Nat) (a b : Nat), s.inReset = false → firmwareRuns s = true →
    issuerLd m = some ld → b < a ∨ 2 ^ 46 ≤ b → exec (.scanMedia m a b) s = .next (settle (reply s m rcInvalid []))) ∧
  (∀ (s : State) (m : Issuer) (ld : Nat) (a b : Nat), s.inReset = false → firmwareRuns s = true →
    issuerLd m = some ld → a ≤ b → b < 2 ^ 46 → s.bit Reg.RAKE_STAT 31 = false → s.port.bg = none →
    (scanArm s m a b).port.bg.isSome = true →
    exec (.scanMedia m a b) s = .next (settle (reply (scanArm s m a b) m rcBackground [])))

/-- A start with no claim and no firmware command claims the staging region and discards a staged firmware image. A later
chunk of the claim's path at the next offset joins it; one out of order ends the claim with Invalid Input; one from
another path is Busy. The last chunk starts the load in the background with BUSY; IMAGE_LOAD_COMPLETE sets RESULT and the
image's cores, puts an accepted image into the shadow set, raises "image rejected" otherwise, and tells every core. A
claim lapses 10 s after its last chunk. A program message enters the queue of a core whose image takes it and waits for
its reply until its limit, when it answers Internal Error and is counted. -/
def Obligations.ImageLoading : Prop :=
  (∀ (s : State) (m : Issuer) (d : List Byte), s.inReset = false → firmwareRuns s = true → mayLoad s m = true →
    s.sets.staging = none → fwBusy s = false → chunkOk d = true →
    exec (.glxLoadImageStart m d) s = .next (settle (reply
      ({ s with sets := { s.sets with staging := some { path := issuerKey m, bytes := d, clock := s.clock, ended := false } }, sec := { s.sec with staged := none } }.setBit
      Reg.PAL_FWSTAT 25 false) m rcSuccess []))) ∧
  (∀ (s : State) (m : Issuer) (off : Nat) (d : List Byte) (g : Staging), s.inReset = false → firmwareRuns s = true →
    mayLoad s m = true → s.sets.staging = some g → g.path = issuerKey m → g.ended = false → chunkOk d = true →
    off = g.bytes.length → off + d.length ≤ 0x400000 →
    exec (.glxLoadImageData m off d) s = .next (settle (reply
      { s with sets := { s.sets with staging := some { g with bytes := g.bytes ++ d, clock := s.clock } } } m
      rcSuccess [])) ∧ exec (.glxLoadImageEnd m off d) s = .next (settle (loadEnd s m
      { g with bytes := g.bytes ++ d, clock := s.clock }))) ∧
  (∀ (s : State) (m : Issuer) (off : Nat) (d : List Byte) (g : Staging), s.inReset = false → firmwareRuns s = true →
    mayLoad s m = true → s.sets.staging = some g → g.path = issuerKey m → g.ended = false → chunkOk d = true →
    off ≠ g.bytes.length →
    exec (.glxLoadImageData m off d) s = .next (settle (reply (endStaging s) m rcInvalid [])) ∧ exec (.glxLoadImageEnd
      m off d) s = .next (settle (reply (endStaging s) m rcInvalid []))) ∧
  (∀ (s : State) (m : Issuer) (g : Staging), s.port.bg = none →
    loadEnd s m g = reply
      { { s with port := { s.port with bg := some (issuerKey m, 0xC000) } }.setBit Reg.PAL_LOADSTAT 31 true with sets := { s.sets with staging := some { g with ended := true } } }
      m rcBackground []) ∧
  (∀ (s : State) (g : Staging) (r : Nat) (t u : State), s.sets.staging = some g → g.ended = true →
    r = (if setArmed s || committed s then 5 else loadResult (imageCheck s false g.bytes)) →
    t = { endStaging s with port := { s.port with bg := none } }.setReg Reg.PAL_LOADSTAT (BitVec.ofNat 32 (r * 2 ^ 28
      + imgCores (imgHdr g.bytes))) → u = (if r = 0 then imagePlace t g.bytes else raise t Src.imageRejected) →
    exec .imageLoadComplete s = .next (settle (noticeAll u 3 (u.reg Reg.PAL_LOADSTAT).toNat coreList))) ∧
  (∀ (s : State) (g : Staging), s.sets.staging = some g → g.ended = false → g.clock + 25000000000 ≤ s.clock →
    ExpiryActs s 1 (some (g.clock + 25000000000)) →
    exec .stagingClaimLapse s = .next (settle ({ s with sets := { s.sets with staging := none } }))) ∧
  (∀ (s : State) (g : Staging), s.sets.staging = some g → s.clock < g.clock + 25000000000 →
    exec .stagingClaimLapse s = .next (settle (s))) ∧
  (∀ (s : State) (l : Fin 256) (c : Fin 16) (msg : Line) (i : Image), s.inReset = false → firmwareRuns s = true →
    activeImage s c = some i → imgHostMsg i.hdr = true → msgCount (s.core c) < 56 →
    exec (.glxProgramMessage (.ld l) c msg) s = .next (settle
      ({ s.setCore c ((s.core c).enqueue (s.clock / CLK) { kind := 1, snd := 17, sdev := s.devId, score := 0, spl := false, data := hostMsgData msg ((ldPort s l).getD 0) l }) with sets := { s.sets with msgs := s.sets.msgs ++ [{ core := c, port := (ldPort s l).getD 0, ld := l, seq := fld msg 15 0, until_ := s.clock + s.fld Reg.PAL_HMTO 15 0 * 2500 }] } }))) ∧
  (∀ (s : State) (c : Fin 16) (q : Fin 65536) (x : HostMsg), s.sets.msgs.find? (fun x => decide (x.core = c.val ∧
    x.seq = q.val ∧ x.until_ ≤ s.clock) && !x.timedOut) = some x → ExpiryActs s 1 (some x.until_) →
    exec (.hostMessageTimeout c q) s = .next (settle ((State.bump
      { s with sets := { s.sets with msgs := s.sets.msgs.erase x ++ [{ x with timedOut := true }] } } Reg.PAL_HMSTAT
      15 0).emit (.mailbox (msgIssuer x) rcInternal 1 []))))

/-- With the core in its trap handler for the service's code: HOSTREPLY of a matching open message completes the mailbox
command with the 64 B reply and returns 0; with no match it returns 1, a late one is counted and told to the core. ARMREQ
and ABORTREQ arm and abort and return the status; LOG joins 64 B of the exchange area to the log; SETINFO returns
PAL_SETSTAT; DCDADD and DCDREL return their code when a check fails, else wait with their extent OFFERED or RELEASING and
a Dynamic Capacity record. A core that has not called a service is left alone. Add DC Response of a whole OFFERED extent
makes it ACCEPTED, or FREE when declined, returns the waiting DCDADD with 0 or 1 and answers Success; any other range
answers Invalid Input. Release DC of a whole ACCEPTED or RELEASING extent frees it, raises the release source and answers
Success. When HPX_TMO.DCDTO passes an OFFERED extent is FREE and a RELEASING one ACCEPTED again, and the caller returns
with 6; before, nothing. -/
def Obligations.SupervisorServices : Prop :=
  (∀ (s : State) (c : Fin 16), serving s c 2 = true →
    exec (.armreq c) s = .next (settle (serviceReturn (armSet s).1 c (armSet s).2))) ∧
  (∀ (s : State) (c : Fin 16), serving s c 3 = true →
    exec (.abortreq c) s = .next (settle (serviceReturn (abortSet s).1 c (abortSet s).2))) ∧
  (∀ (s : State) (c : Fin 16), serving s c 7 = true →
    exec (.setinfo c) s = .next (settle (serviceReturn s c (s.reg Reg.PAL_SETSTAT).toNat))) ∧
  (∀ (s : State) (c : Fin 16) (l : Line), serving s c 6 = true → exchangeLine s c (getT s c 10).toNat = some l →
    exec (.log c) s = .next (settle (serviceReturn { s with sets := { s.sets with log := s.sets.log ++ [l] } } c 0))) ∧
  (∀ (s : State) (c : Fin 16) (l : Line) (x : HostMsg), serving s c 1 = true →
    exchangeLine s c (getT s c 10).toNat = some l →
    matchMsg (s.sets.msgs.filter (fun x => !x.timedOut)) c l = some x →
    exec (.hostreply c) s = .next (settle (serviceReturn (State.emit
      { s with sets := { s.sets with msgs := s.sets.msgs.erase x } } (.mailbox (msgIssuer x) rcSuccess 0 (natBytes 64
      l.toNat))) c 0))) ∧
  (∀ (s : State) (c : Fin 16) (l : Line), serving s c 1 = true → exchangeLine s c (getT s c 10).toNat = some l →
    matchMsg (s.sets.msgs.filter (fun x => !x.timedOut)) c l = none →
    matchMsg (s.sets.msgs.filter (fun x => x.timedOut)) c l = none →
    exec (.hostreply c) s = .next (settle (serviceReturn s c 1))) ∧
  (∀ (s : State) (c : Fin 16) (r : Nat), serving s c 4 = true → addsCapacity s = true →
    errorOf (offerCheck s (getT s c 10).toNat (getT s c 11).toNat (getT s c 12).toNat) = some r →
    exec (.dcdadd c) s = .next (settle (serviceReturn s c r))) ∧
  (∀ (s : State) (c : Fin 16) (i : Nat) (e : Extent), serving s c 4 = true → addsCapacity s = true →
    (offerCheck s (getT s c 10).toNat (getT s c 11).toNat (getT s c 12).toNat).toOption = some (i, e) →
    exec (.dcdadd c) s = .next (settle (State.emit ((setExtent s i { e with caller := some c }).setCore c
      { (setExtent s i { e with caller := some c }).core c with wait := some (.service 4) }) (.capacity (getT s c
      10).toNat true e.start e.blocks)))) ∧
  (∀ (s : State) (c : Fin 16) (i : Nat) (e : Extent), serving s c 5 = true → (getT s c 12).toNat % 2 ^ 28 = 0 →
    findExtent s (getT s c 10).toNat (getT s c 11).toNat ((getT s c 12).toNat / 2 ^ 28) [2] = some (i, e) →
    exec (.dcdrel c) s = .next (settle (State.emit ((setExtent s i
      { e with state := 3, since := s.clock, caller := some c }).setCore c
      { (setExtent s i { e with state := 3, since := s.clock, caller := some c }).core c with wait := some (.service 5) })
      (.capacity (getT s c 10).toNat false e.start e.blocks)))) ∧
  (∀ (s : State) (c : Fin 16), serving s c 5 = true →
    (getT s c 12).toNat % 2 ^ 28 ≠ 0 ∨ findExtent s (getT s c 10).toNat (getT s c 11).toNat ((getT s c 12).toNat / 2 ^
      28) [2] = none → exec (.dcdrel c) s = .next (settle (serviceReturn s c 2))) ∧
  (∀ (s : State) (c : Fin 16) (k : Nat) (f : State → State), serving s c k = false → service s c k f = s) ∧
  (∀ (s : State) (n r : Nat), getT (serviceReturn s n r) n 10 = BitVec.ofNat 64 r ∧ ((serviceReturn s n r).core n).pc
    = (s.core n).epc ∧ ((serviceReturn s n r).core n).wait = none ∧ ((serviceReturn s n r).core n).status = setBit
    (setBit (s.core n).status 0 (bit (s.core n).status 1)) 2 false) ∧
  (∀ (s : State) (l : Fin 256) (a n i : Nat) (e : Extent), s.closing = true → s.inReset = false →
    firmwareRuns s = true → findExtent s l a n [1] = some (i, e) →
    exec (.addDcResponse l a n true) s = .next (settle (reply (dcdReturn (setExtent s i
      { e with state := 2, caller := none }) e.caller 0) (.ld l) rcSuccess [])) ∧ exec (.addDcResponse l a n false) s
      = .next (settle (reply (dcdReturn (freeExtent s i) e.caller 1) (.ld l) rcSuccess []))) ∧
  (∀ (s : State) (l : Fin 256) (a n : Nat) (b : Bool), s.closing = true → s.inReset = false → firmwareRuns s = true →
    findExtent s l a n [1] = none → exec (.addDcResponse l a n b) s = .next (settle (reply s (.ld l) rcInvalid []))) ∧
  (∀ (s : State) (l : Fin 256) (a n i : Nat) (e : Extent), s.closing = true → s.inReset = false →
    firmwareRuns s = true → findExtent s l a n [2, 3] = some (i, e) →
    exec (.releaseDc l a n) s = .next (settle (reply (dcdReturn (raiseHost (freeExtent s i) (l.val / 16) 14
      { mkind := 1, mid := l.val + 256 * ((ldPort s l).getD 0 % 4), ld := some l.val, sub := ldPort s l }) e.caller 0)
      (.ld l) rcSuccess []))) ∧
  (∀ (s : State) (l : Fin 256) (a n : Nat), s.closing = true → s.inReset = false → firmwareRuns s = true →
    findExtent s l a n [2, 3] = none → exec (.releaseDc l a n) s = .next (settle (reply s (.ld l) rcInvalid []))) ∧
  (∀ (s : State) (l : Fin 256) (a n : Nat) (b : Bool), s.closing = false →
    exec (.addDcResponse l a n b) s = .next { s with deferred := .addDcResponse l a n b :: s.deferred } ∧ exec
      (.releaseDc l a n) s = .next { s with deferred := .releaseDc l a n :: s.deferred }) ∧
  (∀ (s : State) (i : Fin 4096) (e : Extent), ExpiryActs s 1 (dcdDue s i) → smGet {} s.port.ext i = e →
    e.since + dcdLimit s e.ld ≤ s.clock → e.state = 1 →
    exec (.dcdResponseTimeout i) s = .next (settle (dcdReturn (freeExtent s i) e.caller 6))) ∧
  (∀ (s : State) (i : Fin 4096) (e : Extent), ExpiryActs s 1 (dcdDue s i) → smGet {} s.port.ext i = e →
    e.since + dcdLimit s e.ld ≤ s.clock → e.state = 3 →
    exec (.dcdResponseTimeout i) s = .next (settle (dcdReturn (setExtent s i { e with state := 2, caller := none })
      e.caller 6))) ∧
  (∀ (s : State) (i : Fin 4096) (e : Extent), smGet {} s.port.ext i = e →
    s.clock < e.since + dcdLimit s e.ld ∨ (e.state ≠ 1 ∧ e.state ≠ 3) →
    exec (.dcdResponseTimeout i) s = .next (settle (s)))

/-- SET_ARM, SET_ABORT and LOCAL_COMMIT carry out PAL_SETCMD 1, 2 and 3. Arming: 1 with a set armed; 2 with PAL_ARMERR and
LAST 4 when a check fails; else ARMED. Aborting: 2 when committed, 1 with nothing armed; else ARMED falls and LAST is 2. A
standalone device commits an armed set 40,000 tides or more ahead. CONFIG_SET_SWAP at or after the commit tide carries the
commit out, and before changes nothing. ARM_WAIT_TIMEOUT 10 ms after the master's wait began sends ABORT to the members;
FINAL_SEND from T - 10,000 names the participants that have not acknowledged. -/
def Obligations.ConfigurationSets : Prop :=
  (∀ (s : State) (p : Path), MayWriteGk s p Reg.PAL_SETCMD →
    exec (.setArm p) s = .next (settle ((armSet ((disarm s p).setF Reg.PAL_SETCMD 1 0 1)).1)) ∧ exec (.setAbort p) s =
      .next (settle ((abortSet ((disarm s p).setF Reg.PAL_SETCMD 1 0 2)).1)) ∧ exec (.localCommit p) s = .next (settle
      (localCommit ((disarm s p).setF Reg.PAL_SETCMD 1 0 3)))) ∧
  (∀ (s : State), setArmed s = true → armSet s = (s, 1)) ∧
  (∀ (s : State) (k n t : Nat), setArmed s = false → isMaster s = false → armChecks s = some (k, n, t) →
    armSet s = (setLast ((s.setReg Reg.PAL_ARMERR (BitVec.ofNat 32 (k * 2 ^ 20 + n * 2 ^ 16 + t * 2 ^ 8))).hwBit
      Reg.PAL_ARMERR 31) 4, 2)) ∧
  (∀ (s : State), setArmed s = false → role s = 0 → armChecks s = none →
    armSet s = (s.setBit Reg.PAL_SETSTAT 31 true, 0)) ∧
  (∀ (s : State), committed s = true → abortSet s = (s, 2)) ∧
  (∀ (s : State), committed s = false → setArmed s = false → abortSet s = (s, 1)) ∧
  (∀ (s : State), committed s = false → setArmed s = true →
    abortSet s = (noticeAll (setLast (s.setBit Reg.PAL_SETSTAT 31 false) 2) 2 0 coreList, 0)) ∧
  (∀ (s : State) (t : Nat), setArmed s = true → committed s = false → inPool s = false →
    t = (s.reg Reg.PAL_COMMITLO).toNat + 2 ^ 32 * (s.reg Reg.PAL_COMMITHI).toNat → (s.tide + 40000 ≤ t →
    localCommit s = markCommitted s t) ∧ (t < s.tide + 40000 → localCommit s = s)) ∧
  (∀ (s : State), committed s = true → s.sets.commitTide ≤ s.tide →
    exec .configSetSwap s = .next (settle (atCommitTide s))) ∧
  (∀ (s : State), s.tide < s.sets.commitTide → exec .configSetSwap s = .next (settle (s))) ∧
  (∀ (s : State) (c : Nat), ExpiryActs s 1 (some (c + 25000000)) → s.pool.armFrom = some c → isMaster s = true →
    c + 25000000 ≤ s.clock → s.pool.commitT = none →
    exec .armWaitTimeout s = .next (settle ((abortSet (poolSendAll
      { s with pool := { s.pool with armed := [], armFrom := none } } 0x0E (tideGen s.tide (shadowGen s)) (members
      s))).1))) ∧
  (∀ (s : State), s.pool.armFrom = none → exec .armWaitTimeout s = .next (settle (s))) ∧
  (∀ (s : State) (t : Nat), TideExpiryActs s (some (t - 10000)) → s.pool.commitT = some t → isMaster s = true →
    s.pool.finalSent = false → t ≤ s.tide + 10000 →
    exec .finalSend s = .next (settle (sendFinal { s with pool := { s.pool with finalSent := true } } t (unacked s)))) ∧
  (∀ (s : State) (t : Nat), s.pool.commitT = some t → s.tide + 10000 < t → exec .finalSend s = .next (settle (s)))

/-- On a port that is up and has a credit for it, outside BOOT and HOLD, a request whose address a decoder claims, whose
window is valid (and writable for one that changes the line) and whose DPA is in an ACCEPTED extent goes to its home slice
with the kind, task tag, key slot, pool address, sluice, data and mask that ingress fixes. In HOLD it is held as it came;
a port that is down, or BOOT, takes nothing; one beyond the port's credits and one against a parity error of its TAGRES
copy are answered with poison, the first with its source; an invalid window and an unaccepted DPA are refused at the port,
each with its source; SAFE answers with poison. -/
def Obligations.HostRequests : Prop :=
  (∀ (s : State) (ld : Fin 256) (tag hpa a : Nat) (h : Bool) (x : Snoop), HostTakes s ld.val → holding s = false →
    ldDecode s ld hpa = some (a, h) → IngressPasses s ld a false → s.code ≠ Mode.safe →
    exec (.memRd ld tag hpa x) s = .next (settle (submit (takeId (counted s ld false)).1 (hostReq s (snoopKindOf x) ld
      tag a h 0 0 false)))) ∧
  (∀ (s : State) (ld : Fin 256) (tag hpa a : Nat) (h : Bool), HostTakes s ld.val → holding s = false →
    ldDecode s ld hpa = some (a, h) → IngressPasses s ld a false → s.code ≠ Mode.safe →
    exec (.memRdData ld tag hpa) s = .next (settle (submit (takeId (counted s ld false)).1 (hostReq s .memRdData ld
      tag a h 0 0 false)))) ∧
  (∀ (s : State) (ld : Fin 256) (tag hpa a : Nat) (h : Bool), HostTakes s ld.val → holding s = false →
    ldDecode s ld hpa = some (a, h) → IngressPasses s ld a true → s.code ≠ Mode.safe →
    exec (.memInv ld tag hpa) s = .next (settle (submit (takeId (counted s ld false)).1 (hostReq s .memInv ld tag a h
      0 0 false)))) ∧
  (∀ (s : State) (ld : Fin 256) (tag hpa a : Nat) (h : Bool), HostTakes s ld.val → holding s = false →
    ldDecode s ld hpa = some (a, h) → IngressPasses s ld a true → s.code ≠ Mode.safe →
    exec (.memInvNt ld tag hpa) s = .next (settle (submit (takeId (counted s ld false)).1 (hostReq s .memInvNT ld tag
      a h 0 0 false)))) ∧
  (∀ (s : State) (ld : Fin 256) (tag hpa a : Nat) (h : Bool), HostTakes s ld.val → holding s = false →
    ldDecode s ld hpa = some (a, h) → IngressPasses s ld a false → s.code ≠ Mode.safe →
    exec (.memSpecRd ld tag hpa) s = .next (settle (submit (takeId (counted s ld false)).1 (hostReq s .memSpecRd ld
      tag a h 0 0 false)))) ∧
  (∀ (s : State) (ld : Fin 256) (tag hpa a : Nat) (h : Bool), HostTakes s ld.val → holding s = false →
    ldDecode s ld hpa = some (a, h) → IngressPasses s ld a false → s.code ≠ Mode.safe →
    exec (.memClnEvct ld tag hpa) s = .next (settle (submit (takeId (counted s ld false)).1 (hostReq s .memClnEvct ld
      tag a h 0 0 false)))) ∧
  (∀ (s : State) (ld : Fin 256) (tag hpa a : Nat) (h : Bool) (d : Line), HostTakes s ld.val → holding s = false →
    ldDecode s ld hpa = some (a, h) → IngressPasses s ld a true → s.code ≠ Mode.safe →
    s.coh.txns.find? (fun t => t.bi.contains (lineName s (poolTarget s (a % 2 ^ 46 / 64 * 64)).1 (poolTarget s (a % 2
      ^ 46 / 64 * 64)).2, ld.val)) = none →
    exec (.memWr ld tag hpa d false) s = .next (settle (submit (takeId (counted s ld true)).1 (hostReq s .memWr ld tag
      a h d (2 ^ 64 - 1) false)))) ∧
  (∀ (s : State) (ld : Fin 256) (tag hpa a : Nat) (h : Bool) (d : Line) (b : BitVec 64), HostTakes s ld.val →
    holding s = false → ldDecode s ld hpa = some (a, h) → IngressPasses s ld a true → s.code ≠ Mode.safe →
    s.coh.txns.find? (fun t => t.bi.contains (lineName s (poolTarget s (a % 2 ^ 46 / 64 * 64)).1 (poolTarget s (a % 2
      ^ 46 / 64 * 64)).2, ld.val)) = none →
    exec (.memWrPtl ld tag hpa d b false) s = .next (settle (submit (takeId (counted s ld true)).1 (hostReq s
      .memWrPtl ld tag a h d b.toNat false)))) ∧
  (∀ (s : State) (ld : Fin 256) (tag hpa : Nat) (x : Snoop) (d : Line) (b : BitVec 64) (q : Bool), (¬HostUp s ld.val)
    →
    exec (.memRd ld tag hpa x) s = .next (settle (s)) ∧ exec (.memRdData ld tag hpa) s = .next (settle (s)) ∧ exec
      (.memInv ld tag hpa) s = .next (settle (s)) ∧ exec (.memInvNt ld tag hpa) s = .next (settle (s)) ∧ exec
      (.memSpecRd ld tag hpa) s = .next (settle (s)) ∧ exec (.memClnEvct ld tag hpa) s = .next (settle (s)) ∧ exec
      (.memWr ld tag hpa d q) s = .next (settle (s)) ∧ exec (.memWrPtl ld tag hpa d b q) s = .next (settle (s))) ∧
  (∀ (s : State) (ld : Fin 256) (tag hpa : Nat) (x : Snoop) (d : Line) (b : BitVec 64) (q : Bool), HostTakes s ld.val
    → holding s = true →
    exec (.memRd ld tag hpa x) s = .next (settle
      ({ s with port := { s.port with held := s.port.held ++ [.memRd ld tag hpa x] } })) ∧ exec (.memRdData ld tag
      hpa) s = .next (settle ({ s with port := { s.port with held := s.port.held ++ [.memRdData ld tag hpa] } })) ∧
      exec (.memInv ld tag hpa) s = .next (settle
      ({ s with port := { s.port with held := s.port.held ++ [.memInv ld tag hpa] } })) ∧ exec (.memInvNt ld tag hpa)
      s = .next (settle ({ s with port := { s.port with held := s.port.held ++ [.memInvNt ld tag hpa] } })) ∧ exec
      (.memSpecRd ld tag hpa) s = .next (settle
      ({ s with port := { s.port with held := s.port.held ++ [.memSpecRd ld tag hpa] } })) ∧ exec (.memClnEvct ld tag
      hpa) s = .next (settle ({ s with port := { s.port with held := s.port.held ++ [.memClnEvct ld tag hpa] } })) ∧
      exec (.memWr ld tag hpa d q) s = .next (settle
      ({ s with port := { s.port with held := s.port.held ++ [.memWr ld tag hpa d q] } })) ∧ exec (.memWrPtl ld tag
      hpa d b q) s = .next (settle
      ({ s with port := { s.port with held := s.port.held ++ [.memWrPtl ld tag hpa d b q] } }))) ∧
  (∀ (s : State) (ld : Fin 256) (tag hpa : Nat) (x : Snoop) (d : Line) (b : BitVec 64) (q : Bool), HostUp s ld.val →
    noCredit s ld = true →
    exec (.memRd ld tag hpa x) s = .next (settle (refuseAtPort s (snoopKindOf x) ld tag 17 0)) ∧ exec (.memRdData ld
      tag hpa) s = .next (settle (refuseAtPort s .memRdData ld tag 17 0)) ∧ exec (.memInv ld tag hpa) s = .next
      (settle (refuseAtPort s .memInv ld tag 17 0)) ∧ exec (.memInvNt ld tag hpa) s = .next (settle (refuseAtPort s
      .memInvNT ld tag 17 0)) ∧ exec (.memSpecRd ld tag hpa) s = .next (settle (refuseAtPort s .memSpecRd ld tag 17
      0)) ∧ exec (.memClnEvct ld tag hpa) s = .next (settle (refuseAtPort s .memClnEvct ld tag 17 0)) ∧ exec (.memWr
      ld tag hpa d q) s = .next (settle (refuseAtPort s .memWr ld tag 17 0)) ∧ exec (.memWrPtl ld tag hpa d b q) s =
      .next (settle (refuseAtPort s .memWrPtl ld tag 17 0))) ∧
  (∀ (s : State) (ld : Fin 256) (tag hpa : Nat) (x : Snoop) (d : Line) (b : BitVec 64) (q : Bool) (a : Nat) (h :
    Bool), HostTakes s ld.val → holding s = false → ldDecode s ld hpa = some (a, h) →
    badTagres s ld (a / 2 ^ 46 % 16) = true →
    exec (.memRd ld tag hpa x) s = .next (settle (answerAtPort (reloadTag (counted s ld false) ld (a / 2 ^ 46 % 16))
      (snoopKindOf x) ld tag 0 true)) ∧ exec (.memRdData ld tag hpa) s = .next (settle (answerAtPort (reloadTag
      (counted s ld false) ld (a / 2 ^ 46 % 16)) .memRdData ld tag 0 true)) ∧ exec (.memInv ld tag hpa) s = .next
      (settle (answerAtPort (reloadTag (counted s ld false) ld (a / 2 ^ 46 % 16)) .memInv ld tag 0 true)) ∧ exec
      (.memInvNt ld tag hpa) s = .next (settle (answerAtPort (reloadTag (counted s ld false) ld (a / 2 ^ 46 % 16))
      .memInvNT ld tag 0 true)) ∧ exec (.memSpecRd ld tag hpa) s = .next (settle (answerAtPort (reloadTag (counted s
      ld false) ld (a / 2 ^ 46 % 16)) .memSpecRd ld tag 0 true)) ∧ exec (.memClnEvct ld tag hpa) s = .next (settle
      (answerAtPort (reloadTag (counted s ld false) ld (a / 2 ^ 46 % 16)) .memClnEvct ld tag 0 true)) ∧ exec (.memWr
      ld tag hpa d q) s = .next (settle (answerAtPort (reloadTag (counted s ld true) ld (a / 2 ^ 46 % 16)) .memWr ld
      tag 0 true)) ∧ exec (.memWrPtl ld tag hpa d b q) s = .next (settle (answerAtPort (reloadTag (counted s ld true)
      ld (a / 2 ^ 46 % 16)) .memWrPtl ld tag 0 true))) ∧
  (∀ (s : State) (ld : Fin 256) (tag hpa : Nat) (x : Snoop) (d : Line) (b : BitVec 64) (q : Bool) (a : Nat) (h :
    Bool), HostTakes s ld.val → holding s = false → ldDecode s ld hpa = some (a, h) →
    badTagres s ld (a / 2 ^ 46 % 16) = false → (tagres s ld (a / 2 ^ 46 % 16)).testBit 31 = false →
    exec (.memRd ld tag hpa x) s = .next (settle (refuseAtPort (counted s ld false) (snoopKindOf x) ld tag 8 (a % 2 ^
      46 / 64 * 64))) ∧ exec (.memRdData ld tag hpa) s = .next (settle (refuseAtPort (counted s ld false) .memRdData
      ld tag 8 (a % 2 ^ 46 / 64 * 64))) ∧ exec (.memInv ld tag hpa) s = .next (settle (refuseAtPort (counted s ld
      false) .memInv ld tag 8 (a % 2 ^ 46 / 64 * 64))) ∧ exec (.memInvNt ld tag hpa) s = .next (settle (refuseAtPort
      (counted s ld false) .memInvNT ld tag 8 (a % 2 ^ 46 / 64 * 64))) ∧ exec (.memSpecRd ld tag hpa) s = .next
      (settle (refuseAtPort (counted s ld false) .memSpecRd ld tag 8 (a % 2 ^ 46 / 64 * 64))) ∧ exec (.memClnEvct ld
      tag hpa) s = .next (settle (refuseAtPort (counted s ld false) .memClnEvct ld tag 8 (a % 2 ^ 46 / 64 * 64))) ∧
      exec (.memWr ld tag hpa d q) s = .next (settle (refuseAtPort (counted s ld true) .memWr ld tag 8 (a % 2 ^ 46 /
      64 * 64))) ∧ exec (.memWrPtl ld tag hpa d b q) s = .next (settle (refuseAtPort (counted s ld true) .memWrPtl ld
      tag 8 (a % 2 ^ 46 / 64 * 64)))) ∧
  (∀ (s : State) (ld : Fin 256) (tag hpa : Nat) (x : Snoop) (d : Line) (b : BitVec 64) (q : Bool) (a : Nat) (h :
    Bool), HostTakes s ld.val → holding s = false → ldDecode s ld hpa = some (a, h) →
    badTagres s ld (a / 2 ^ 46 % 16) = false → (tagres s ld (a / 2 ^ 46 % 16)).testBit 31 = true →
    inExtent s ld (a % 2 ^ 46 / 64 * 64) = false →
    exec (.memRd ld tag hpa x) s = .next (settle (refuseAtPort (counted s ld false) (snoopKindOf x) ld tag 7 (a % 2 ^
      46 / 64 * 64))) ∧ exec (.memRdData ld tag hpa) s = .next (settle (refuseAtPort (counted s ld false) .memRdData
      ld tag 7 (a % 2 ^ 46 / 64 * 64))) ∧ exec (.memInv ld tag hpa) s = .next (settle (refuseAtPort (counted s ld
      false) .memInv ld tag 7 (a % 2 ^ 46 / 64 * 64))) ∧ exec (.memInvNt ld tag hpa) s = .next (settle (refuseAtPort
      (counted s ld false) .memInvNT ld tag 7 (a % 2 ^ 46 / 64 * 64))) ∧ exec (.memSpecRd ld tag hpa) s = .next
      (settle (refuseAtPort (counted s ld false) .memSpecRd ld tag 7 (a % 2 ^ 46 / 64 * 64))) ∧ exec (.memClnEvct ld
      tag hpa) s = .next (settle (refuseAtPort (counted s ld false) .memClnEvct ld tag 7 (a % 2 ^ 46 / 64 * 64))) ∧
      exec (.memWr ld tag hpa d q) s = .next (settle (refuseAtPort (counted s ld true) .memWr ld tag 7 (a % 2 ^ 46 /
      64 * 64))) ∧ exec (.memWrPtl ld tag hpa d b q) s = .next (settle (refuseAtPort (counted s ld true) .memWrPtl ld
      tag 7 (a % 2 ^ 46 / 64 * 64)))) ∧
  (∀ (s : State) (ld : Fin 256) (tag hpa : Nat) (x : Snoop) (d : Line) (b : BitVec 64) (a : Nat) (h : Bool), HostTakes
    s ld.val → holding s = false → ldDecode s ld hpa = some (a, h) → IngressPasses s ld a true → s.code = Mode.safe →
    exec (.memRd ld tag hpa x) s = .next (settle (answerAtPort (counted s ld false) (snoopKindOf x) ld tag 0 true)) ∧
      exec (.memRdData ld tag hpa) s = .next (settle (answerAtPort (counted s ld false) .memRdData ld tag 0 true)) ∧
      exec (.memInv ld tag hpa) s = .next (settle (answerAtPort (counted s ld false) .memInv ld tag 0 true)) ∧ exec
      (.memInvNt ld tag hpa) s = .next (settle (answerAtPort (counted s ld false) .memInvNT ld tag 0 true)) ∧ exec
      (.memSpecRd ld tag hpa) s = .next (settle (answerAtPort (counted s ld false) .memSpecRd ld tag 0 true)) ∧ exec
      (.memClnEvct ld tag hpa) s = .next (settle (answerAtPort (counted s ld false) .memClnEvct ld tag 0 true)) ∧ exec
      (.memWr ld tag hpa d false) s = .next (settle (answerAtPort (counted s ld true) .memWr ld tag 0 true)) ∧ exec
      (.memWrPtl ld tag hpa d b false) s = .next (settle (answerAtPort (counted s ld true) .memWrPtl ld tag 0 true)))

/-- A BIConflict for an outstanding BISnp is acknowledged; for none it raises the unexpected-message source, and so does a
BIRsp. A BIRsp ends its BISnp and removes its target from the transaction that awaits it, recording the target when it
keeps the line. A BISnp outstanding for HPX_TMO raises source 10 of its port, and before that nothing happens.
HOME_SLICE_ADMISSION fills the slice's lanes; a channel accepts the next burst that waits for it, or nothing changes;
READ_DATA_RETURN hands its errors to the transaction whose reads have been issued; RELEASE_PUSH_RESUME lets blocked pushes
and rings go on. -/
def Obligations.BackInvalidationAndAdmission : Prop :=
  (∀ (s : State) (ld : Fin 256) (l : Nat) (b : BiSnp), bisnpOf s ld l = some b →
    exec (.biConflict ld l) s = .next (settle (s.emit (.biConflictAck ld l)))) ∧
  (∀ (s : State) (ld : Fin 256) (l : Nat) (k : Bool), bisnpOf s ld l = none →
    exec (.biConflict ld l) s = .next (settle (unexpectedHost s ld l)) ∧ exec (.birsp ld l k) s = .next (settle
      (unexpectedHost s ld l))) ∧
  (∀ (s : State) (ld : Fin 256) (l : Nat) (b : BiSnp) (t : Txn) (k : Bool), bisnpOf s ld l = some b →
    getTxn (dropBisnp s b) b.txn = some t →
    exec (.birsp ld l k) s = .next (settle (flow (putTxn (dropBisnp s b)
      { t with bi := t.bi.erase (l, ld.val), kept := if k then t.kept ++ [(l, ld.val / 16)] else t.kept })))) ∧
  (∀ (s : State) (ld : Fin 256) (l : Nat) (b : BiSnp) (k : Bool), bisnpOf s ld l = some b →
    getTxn (dropBisnp s b) b.txn = none → exec (.birsp ld l k) s = .next (settle (dropBisnp s b))) ∧
  (∀ (s : State) (ld : Fin 256) (l : Nat) (b : BiSnp), ExpiryActs s 1 (some (b.since + s.fld (Reg.HPX_TMO (ld.val /
    16)) 15 0 * usClocks)) → bisnpOf s ld l = some b →
    (b.since + s.fld (Reg.HPX_TMO (ld.val / 16)) 15 0 * usClocks ≤ s.clock →
    exec (.bisnpTimeout ld l) s = .next (settle (flow (settle (raiseHost s (ld.val / 16) 10 (biInfo s ld l)))))) ∧
      (s.clock < b.since + s.fld (Reg.HPX_TMO (ld.val / 16)) 15 0 * usClocks →
    exec (.bisnpTimeout ld l) s = .next (settle (flow (settle (s)))))) ∧
  (∀ (s : State) (ld : Fin 256) (l : Nat), bisnpOf s ld l = none →
    exec (.bisnpTimeout ld l) s = .next (settle (flow (settle (s))))) ∧
  (∀ (s : State) (h : Fin 4), exec (.homeSliceAdmission h) s = .next (settle (markRed (fillLanes 4 h.val (flow s))))) ∧
  (∀ (s : State) (h : Nat), nextReq s h = none → fillLanes 4 h s = s) ∧
  (∀ (s : State) (c : Fin 24), nextWrite s c s.coh.txns = none → exec (.channelWriteAccept c) s = .next (settle (s))) ∧
  (∀ (s : State) (c : Fin 24) (t : Txn) (b : Nat × Nat × Burst), nextWrite s c s.coh.txns = some (t, b) →
    readyChan s c = true →
    exec (.channelWriteAccept c) s = .next (settle (flow (putTxn (acceptWrite (countCipher s 0 b) t.req.sluice b)
      { t with bursts := t.bursts.erase b })))) ∧
  (∀ (s : State) (n : Nat) (t : Txn) (e : List (List (Nat × Word))), getTxn s n = some t →
    t.phase = .dram ∨ t.phase = .merge → readsIssued s n = true →
    exec (.readDataReturn n e) s = .next (settle (flow (underSet s t.req.cset (fun s => dataReturn s t e))))) ∧
  (∀ (s : State) (n : Nat) (e : List (List (Nat × Word))), getTxn s n = none →
    exec (.readDataReturn n e) s = .next (settle (flow (s)))) ∧
  (∀ (s : State), exec .releasePushResume s = .next (settle (flow (resumeRing (finishMoves (resumePush s s.coh.txns)
    (resumePush s s.coh.txns).tier.moves) (finishMoves (resumePush s s.coh.txns) (resumePush s
    s.coh.txns).tier.moves).tier.ringWait))))

/-- A reset of a logical device resets it alone; a PERST_N that falls resets every logical device of its port, clears its
status byte and its READY bit. A released PERST_N is noted, and acted on once the device is out of reset with OTP read. A
released port that trains shows LST 2, width, rate and its flit mode, and is READY once firmware runs; an L0p width change
that HPX_L0P allows shows the width and LST 3, or 2 at full width. A trained link that goes down shows 0 and raises its
source; viral from a host is noted and raises its source. A configuration request is answered: retry status in BOOT, a
value, enumeration, a decoder committed when its ways and granularity are supported and its kind by the flit mode, a
decoder removed or read, the CDAT, BI in 256 B flit mode only. HPX_LDCNT ignores a write whose counts pass 16 or name a
bifurcated port that the mode does not have. -/
def Obligations.HostPorts : Prop :=
  (∀ (s : State) (l : Fin 256), exec (.portReset (.ld l)) s = .next (settle (flow (ldReset s [l.val])))) ∧
  (∀ (s : State) (n : Fin 16) (k : Fin 4), subCount s n.val ≤ k.val →
    exec (.portReset (.perst n k)) s = .next (settle (s.setSubp (4 * n.val + k.val)
      { s.subp (4 * n.val + k.val) with perst := false }))) ∧
  (∀ (s u t : State) (n : Fin 16) (k : Fin 4), k.val < subCount s n.val →
    u = ldReset (s.setSubp (4 * n.val + k.val) { s.subp (4 * n.val + k.val) with perst := false }) (ldsOfPort
      (s.setSubp (4 * n.val + k.val) { s.subp (4 * n.val + k.val) with perst := false }) (4 * n.val + k.val)) →
    t = State.setF
      { u with sec := { u.sec with sessions := u.sec.sessions.filter (fun x => decide (x.who ≠ Issuer.fm (Fin.ofNat 64 (4 * n.val + k.val)))) } }
      (Reg.HPX_STAT n) (8 * k + 7) (8 * k) 0 →
    exec (.portReset (.perst n k)) s = .next (settle (flow (setReadySub ((t.setSubp (4 * n.val + k.val)
      { perst := false, isolated := (t.subp (4 * n.val + k.val)).isolated }).setF (Reg.HPX_ERRCTL n) 0 0 (b2n
      ((List.range 4).any (fun j => ((t.setSubp (4 * n.val + k.val)
      { perst := false, isolated := (t.subp (4 * n.val + k.val)).isolated }).subp (4 * n + j)).viral)))) (4 * n.val +
      k.val) false)))) ∧
  (∀ (s : State) (n : Fin 16) (k : Fin 4), (s.subp (4 * n.val + k.val)).perst = false →
    s.inReset = true ∨ s.wipe.keysDone = false →
    exec (.perstRelease n k) s = .next (settle (flow (s.setSubp (4 * n.val + k.val)
      { s.subp (4 * n.val + k.val) with perst := true, owed := true })))) ∧
  (∀ (s : State) (n : Fin 16) (k : Fin 4), (s.subp (4 * n.val + k.val)).perst = false → s.inReset = false →
    s.wipe.keysDone = true →
    exec (.perstRelease n k) s = .next (settle (flow (portStart (s.setSubp (4 * n.val + k.val)
      { s.subp (4 * n.val + k.val) with perst := true, owed := true }) (4 * n.val + k.val))))) ∧
  (∀ (s : State) (n : Fin 16) (k : Fin 4) (w : Fin 5) (r : Fin 6), linkMayTrain s (4 * n.val + k.val) = true →
    w.val ≤ portWidth s n.val → portState s (4 * n.val + k.val) < 2 → firmwareRuns s = true → s.code ≠ Mode.boot →
    (s.subp (4 * n.val + k.val)).isolated = false →
    exec (.hostLinkTrained n k w (r, .flit68)) s = .next (settle (setReadySub ((setPortStat s (4 * n.val + k.val) 2 w
      r).setSubp (4 * n.val + k.val)
      { s.subp (4 * n.val + k.val) with width := w.val, flit256 := decide (r.val = 5) }) (4 * n.val + k.val) true))) ∧
  (∀ (s : State) (n : Fin 16) (k : Fin 4) (w : Fin 5) (r : Fin 6), linkMayTrain s (4 * n.val + k.val) = true →
    w.val ≤ portWidth s n.val → portState s (4 * n.val + k.val) < 2 → firmwareRuns s = true → s.code ≠ Mode.boot →
    (s.subp (4 * n.val + k.val)).isolated = false →
    exec (.hostLinkTrained n k w (r, .flit256)) s = .next (settle (setReadySub ((setPortStat s (4 * n.val + k.val) 2 w
      r).setSubp (4 * n.val + k.val) { s.subp (4 * n.val + k.val) with width := w.val, flit256 := true }) (4 * n.val +
      k.val) true))) ∧
  (∀ (s : State) (n : Fin 16) (k : Fin 4) (w : Fin 5) (r : Fin 6), s.inReset = true ∨ portState s (4 * n.val + k.val)
    < 2 → exec (.hostLinkTrained n k w (r, .l0p)) s = .next (settle (s))) ∧
  (∀ (s : State) (n : Fin 16) (k : Fin 4) (w : Fin 5) (r : Fin 6), s.inReset = false →
    2 ≤ portState s (4 * n.val + k.val) →
    (s.subp (4 * n.val + k.val)).width = w.val ∨ (s.bit (Reg.HPX_L0P n) 3 = true ∧ s.fld (Reg.HPX_L0P n) 2 0 ≤ w.val ∧
      w.val ≤ (s.subp (4 * n.val + k.val)).width) →
    exec (.hostLinkTrained n k w (r, .l0p)) s = .next (settle (setPortStat s (4 * n.val + k.val) (if w.val = (s.subp
      (4 * n.val + k.val)).width then 2 else 3) w (portRate s (4 * n.val + k.val))))) ∧
  (∀ (s : State) (n : Fin 16) (k : Fin 4) (w : Fin 5) (r : Fin 6), linkMayTrain s (4 * n.val + k.val) = false ∨
    portWidth s n.val < w.val →
    exec (.hostLinkTrained n k w (r, .flit68)) s = .next (settle (s)) ∧ exec (.hostLinkTrained n k w (r, .flit256)) s
      = .next (settle (s))) ∧
  (∀ (s : State) (n : Fin 16) (k : Fin 4), s.inReset = false → 2 ≤ portState s (4 * n.val + k.val) →
    exec (.hostLinkDown n k) s = .next (settle (raiseHost (setReadySub (setPortStat s (4 * n.val + k.val) 0 0 0) (4 *
      n.val + k.val) false) n 0 (portInfo (4 * n.val + k.val))))) ∧
  (∀ (s : State) (n : Fin 16) (k : Fin 4), s.inReset = false → 2 ≤ portState s (4 * n.val + k.val) →
    exec (.viralReceived n k) s = .next (settle (raiseHost ((s.setSubp (4 * n.val + k.val)
      { s.subp (4 * n.val + k.val) with viral := true }).setBit (Reg.HPX_ERRCTL n) 0 true) n 13 (portInfo (4 * n.val +
      k.val))))) ∧
  (∀ (s : State) (n : Fin 16) (k : Fin 4), s.inReset = true ∨ portState s (4 * n.val + k.val) < 2 →
    exec (.hostLinkDown n k) s = .next (settle (s)) ∧ exec (.viralReceived n k) s = .next (settle (s))) ∧
  (∀ (s : State) (l : Fin 256) (p : Nat) (q : CfgReq), ldPort s l.val = some p → s.inReset = false →
    (s.subp p).perst = true → s.code = Mode.boot →
    exec (.cxlIoConfigRequest l q) s = .next (settle (s.emit (.config l none)))) ∧
  (∀ (s : State) (l : Fin 256) (q : CfgReq), ldPort s l.val = none →
    exec (.cxlIoConfigRequest l q) s = .next (settle (s))) ∧
  (∀ (s : State) (l : Fin 256) (p : Nat) (a : Nat), ldPort s l.val = some p → s.inReset = false →
    (s.subp p).perst = true → s.code ≠ Mode.boot →
    exec (.cxlIoConfigRequest l (.read a)) s = .next (settle (s.draw.emit (.config l (some (Config.freeNat
      s.fresh)))))) ∧
  (∀ (s : State) (l : Fin 256) (p : Nat), ldPort s l.val = some p → s.inReset = false → (s.subp p).perst = true →
    s.code ≠ Mode.boot →
    exec (.cxlIoConfigRequest l .enumerate) s = .next (settle ((s.setLogDev l
      { s.logDev l with enumerated := true }).emit (.config l (some 0))))) ∧
  (∀ (s : State) (l : Fin 256) (p : Nat) (i : Fin 4) (b z k y g : Nat) (x : Bool), ldPort s l.val = some p →
    s.inReset = false → (s.subp p).perst = true → s.code ≠ Mode.boot →
    (decoderOk y g && (x || (s.subp p).flit256)) = true →
    exec (.cxlIoConfigRequest l (.commit i b z k y g x)) s = .next (settle ((setDecoder s l i (some
      { base := b, size := z, skip := k, ways := y, gran := g, hdmh := x })).emit (.config l (some 0))))) ∧
  (∀ (s : State) (l : Fin 256) (p : Nat) (i : Fin 4) (b z k y g : Nat) (x : Bool), ldPort s l.val = some p →
    s.inReset = false → (s.subp p).perst = true → s.code ≠ Mode.boot →
    (decoderOk y g && (x || (s.subp p).flit256)) = false →
    exec (.cxlIoConfigRequest l (.commit i b z k y g x)) s = .next (settle (s.emit (.config l (some 1))))) ∧
  (∀ (s : State) (l : Fin 256) (p : Nat) (i : Fin 4), ldPort s l.val = some p → s.inReset = false →
    (s.subp p).perst = true → s.code ≠ Mode.boot →
    exec (.cxlIoConfigRequest l (.uncommit i)) s = .next (settle ((setDecoder s l i none).emit (.config l (some 0))))) ∧
  (∀ (s : State) (l : Fin 256) (p : Nat) (x : Bool), ldPort s l.val = some p → s.inReset = false →
    (s.subp p).perst = true → s.code ≠ Mode.boot → (x && !(s.subp p).flit256) = false →
    exec (.cxlIoConfigRequest l (.bi x)) s = .next (settle ((s.setLogDev l { s.logDev l with bi := x }).emit (.config
      l (some 0))))) ∧
  (∀ (s : State) (l : Fin 256) (p : Nat) (x : Bool), ldPort s l.val = some p → s.inReset = false →
    (s.subp p).perst = true → s.code ≠ Mode.boot → (x && !(s.subp p).flit256) = true →
    exec (.cxlIoConfigRequest l (.bi x)) s = .next (settle (s.emit (.config l (some 1))))) ∧
  (∀ (s : State) (l : Fin 256) (p : Nat), ldPort s l.val = some p → s.inReset = false → (s.subp p).perst = true →
    s.code ≠ Mode.boot → exec (.cxlIoConfigRequest l .cdat) s = .next (settle (s.emit (cdatOf s l p)))) ∧
  (∀ (s : State) (l : Fin 256) (p : Nat) (i : Fin 4), ldPort s l.val = some p → s.inReset = false →
    (s.subp p).perst = true → s.code ≠ Mode.boot →
    exec (.cxlIoConfigRequest l (.readDecoder i)) s = .next (settle (s.emit (.decoder l (smGet none (s.logDev l).decs
      i))))) ∧
  (∀ (s : State) (l : Fin 256) (p : Nat), ldPort s l.val = some p → s.inReset = false → (s.subp p).perst = true →
    s.code ≠ Mode.boot →
    exec (.cxlIoConfigRequest l .readBi) s = .next (settle (s.emit (.biDecoder l (s.subp p).flit256 ((s.subp
      p).flit256 && (s.logDev l).bi))))) ∧
  (∀ (s : State) (p : Path) (n : Fin 16) (v : Word), MayWrite s p (Reg.HPX_LDCNT n) →
    ldCount v 0 + ldCount v 1 + ldCount v 2 + ldCount v 3 ≤ 16 →
    [1, 2, 3].all (fun k => decide (k < subCount s n.val ∨ ldCount v k = 0)) = true →
    exec (.hpxLdcntWrite p n v) s = .next (settle (s.setReg (Reg.HPX_LDCNT n) (v &&& 0x1F1F1F1F#32)))) ∧
  (∀ (s : State) (p : Path) (n : Fin 16) (v : Word), MayWrite s p (Reg.HPX_LDCNT n) →
    16 < ldCount v 0 + ldCount v 1 + ldCount v 2 + ldCount v 3 ∨ [1, 2, 3].any (fun k => decide (subCount s n.val ≤ k
      ∧ ldCount v k ≠ 0)) = true → exec (.hpxLdcntWrite p n v) s = .next (settle (s)))

/-- While firmware runs, GET_VERSION answers 1.0 to 1.3; GET_DIGESTS the slots that hold a chain and a digest of each;
GET_CERTIFICATE the chain of a slot that holds one, else an error; GET_MEASUREMENTS the six blocks as they stand.
KEY_EXCHANGE adds a session, with 16 at once an error; FINISH establishes the issuer's session, and with none to finish is
an error; HEARTBEAT, KEY_UPDATE and END_SESSION need an established session. GET_CSR and SET_CERTIFICATE need what R605
asks; SET_CERTIFICATE stores a chain of an owner slot. IDE_KM inside a session programs the keys of a stream of the
issuer's port, CXL streams in 256 B flit mode only, or raises its source. An error answer counts as an SPDM failure (the
model's choice, log entry 233). What else a standard message carries is a value without a body; the codes are the model's
choice (PRESUMED). Before firmware runs nothing answers. -/
def Obligations.Attestation : Prop :=
  (∀ (s : State) (m : Issuer), firmwareRuns s = true →
    exec (.spdmGetVersion m) s = .next (settle (spdmSay s m 0x04 [0x10, 0x11, 0x12, 0x13]))) ∧
  (∀ (s : State) (m : Issuer), firmwareRuns s = true →
    exec (.spdmGetCapabilities m) s = .next (settle (spdmSay s.draw m 0x61 (Config.spdm 0x61 s.fresh)))) ∧
  (∀ (s : State) (m : Issuer), firmwareRuns s = true →
    exec (.spdmNegotiateAlgorithms m) s = .next (settle (spdmSay s.draw m 0x63 (Config.spdm 0x63 s.fresh)))) ∧
  (∀ (s : State) (m : Issuer), firmwareRuns s = true →
    exec (.spdmChallenge m) s = .next (settle (spdmSigned s m 0x03))) ∧
  (∀ (s : State) (m : Issuer), firmwareRuns s = true →
    exec (.spdmChunkSend m) s = .next (settle (spdmSay s.draw m 0x05 (Config.spdm 0x05 s.fresh)))) ∧
  (∀ (s : State) (m : Issuer), firmwareRuns s = true →
    exec (.spdmChunkGet m) s = .next (settle (spdmSay s.draw m 0x06 (Config.spdm 0x06 s.fresh)))) ∧
  (∀ (s : State) (m : Issuer), firmwareRuns s = true →
    exec (.spdmGetDigests m) s = .next (settle (spdmSay s m 0x01 (certMask s :: ((List.range 4).filter (certStored
      s)).flatMap (fun k => (Config.sha384 ((certChain s k).map (BitVec.ofNat 8))).map BitVec.toNat))))) ∧
  (∀ (s : State) (m : Issuer), firmwareRuns s = true →
    exec (.spdmGetMeasurements m) s = .next (settle (spdmSay s m 0x60 (measurements s)))) ∧
  (∀ (s : State) (m : Issuer) (k : Fin 4), firmwareRuns s = true → certStored s k = true →
    exec (.spdmGetCertificate m k) s = .next (settle (spdmSay s m 0x02 (k.val :: certChain s k)))) ∧
  (∀ (s : State) (m : Issuer) (k : Fin 4), firmwareRuns s = true → certStored s k = false →
    exec (.spdmGetCertificate m k) s = .next (settle (spdmError s m 1))) ∧
  (∀ (s : State) (m : Issuer), firmwareRuns s = true → s.sec.sessions.length < 16 →
    exec (.spdmKeyExchange m) s = .next (settle (spdmSigned (setSessions s (s.sec.sessions ++
      [{ who := m, open_ := false }])) m 0x64))) ∧
  (∀ (s : State) (m : Issuer), firmwareRuns s = true → 16 ≤ s.sec.sessions.length →
    exec (.spdmKeyExchange m) s = .next (settle (spdmError s m 10))) ∧
  (∀ (s : State) (m : Issuer), firmwareRuns s = true →
    s.sec.sessions.any (fun x => decide (x.who = m) && !x.open_) = true →
    exec (.spdmFinish m) s = .next (settle (spdmSay (setSessions s.draw (openFirst m s.sec.sessions)) m 0x65
      (Config.spdm 0x65 s.fresh)))) ∧
  (∀ (s : State) (m : Issuer), firmwareRuns s = true →
    s.sec.sessions.any (fun x => decide (x.who = m) && !x.open_) = false →
    exec (.spdmFinish m) s = .next (settle (spdmError s m 4))) ∧
  (∀ (s : State) (m : Issuer), firmwareRuns s = true → inSession s m = true →
    exec (.spdmHeartbeat m) s = .next (settle (spdmSay s.draw m 0x68 (Config.spdm 0x68 s.fresh)))) ∧
  (∀ (s : State) (m : Issuer), firmwareRuns s = true → inSession s m = true →
    exec (.spdmKeyUpdate m) s = .next (settle (spdmSay s.draw m 0x69 (Config.spdm 0x69 s.fresh)))) ∧
  (∀ (s : State) (m : Issuer), firmwareRuns s = true → inSession s m = true →
    exec (.spdmEndSession m) s = .next (settle (spdmSay (setSessions s.draw (dropFirst m s.sec.sessions)) m 0x6C
      (Config.spdm 0x6C s.fresh)))) ∧
  (∀ (s : State) (m : Issuer), firmwareRuns s = true → inSession s m = false →
    exec (.spdmHeartbeat m) s = .next (settle (spdmError s m 11)) ∧ exec (.spdmKeyUpdate m) s = .next (settle
      (spdmError s m 11)) ∧ exec (.spdmEndSession m) s = .next (settle (spdmError s m 11))) ∧
  (∀ (s : State) (m : Issuer), firmwareRuns s = true → mayCertify s m = true →
    exec (.spdmGetCsr m) s = .next (settle (spdmSigned s m 0x6D))) ∧
  (∀ (s : State) (m : Issuer), firmwareRuns s = true → mayCertify s m = false →
    exec (.spdmGetCsr m) s = .next (settle (spdmError s m 4))) ∧
  (∀ (s : State) (m : Issuer) (k : Fin 4) (l : List Byte), firmwareRuns s = true → mayCertify s m = false →
    exec (.spdmSetCertificate m k l) s = .next (settle (spdmError s m 4))) ∧
  (∀ (s : State) (m : Issuer) (k : Fin 4) (l : List Byte), firmwareRuns s = true → mayCertify s m = true →
    k = 0 ∨ 14336 < l.length → exec (.spdmSetCertificate m k l) s = .next (settle (spdmError s m 1))) ∧
  (∀ (s : State) (m : Issuer) (k : Fin 4) (l : List Byte), firmwareRuns s = true → mayCertify s m = true → k ≠ 0 →
    l.length ≤ 14336 → (chainOk s l = true →
    exec (.spdmSetCertificate m k l) s = .next (settle (spdmSay (putNor s (certPlace k) (l ++ List.replicate (14336 -
      l.length) 0xFF)) m 0x6E [k.val]))) ∧ (chainOk s l = false →
    exec (.spdmSetCertificate m k l) s = .next (settle (spdmError s m 1)))) ∧
  (∀ (s : State) (m : Issuer) (p : Nat), firmwareRuns s = true → issuerPort s m = some p → inSession s m = true →
    (s.subp p).flit256 = true →
    exec (.ideKmMessage m (.containment, true)) s = .next (settle (spdmSay (s.draw.setSubp p
      { s.subp p with ide := 1 }) m 0xFE (Config.spdm 0xFE s.fresh)))) ∧
  (∀ (s : State) (m : Issuer) (p : Nat), firmwareRuns s = true → issuerPort s m = some p → inSession s m = true →
    (s.subp p).flit256 = true →
    exec (.ideKmMessage m (.skid, true)) s = .next (settle (spdmSay (s.draw.setSubp p { s.subp p with ide := 2 }) m
      0xFE (Config.spdm 0xFE s.fresh)))) ∧
  (∀ (s : State) (m : Issuer) (p : Nat), firmwareRuns s = true → issuerPort s m = some p → inSession s m = true →
    exec (.ideKmMessage m (.link, true)) s = .next (settle (spdmSay (s.draw.setSubp p { s.subp p with ioIde := true })
      m 0xFE (Config.spdm 0xFE s.fresh)))) ∧
  (∀ (s : State) (m : Issuer) (p : Nat) (x : IdeStream) (b : Bool), firmwareRuns s = true → issuerPort s m = some p →
    inSession s m = true → (b && ((s.subp p).flit256 || decide (x = .link))) = false →
    exec (.ideKmMessage m (x, b)) s = .next (settle (raiseHost s (p / 4) 12
      { sub := some p, ld := (match m with | .ld l => some l.val | _ => .none), mkind := 1 }))) ∧
  (∀ (s : State) (m : Issuer) (p : Nat) (x : IdeStream) (b : Bool), firmwareRuns s = true → issuerPort s m = some p →
    inSession s m = false → exec (.ideKmMessage m (x, b)) s = .next (settle (spdmError s m 11))) ∧
  (∀ (s : State) (m : Issuer) (e : Nat), spdmError s m e = spdmFailed (s.emit (.spdm m 0x7F [e])) m) ∧
  (∀ (s : State) (m : Issuer) (x : IdeStream) (b : Bool), firmwareRuns s = true → issuerPort s m = none →
    exec (.ideKmMessage m (x, b)) s = .next (settle (s))) ∧
  (∀ (s : State) (m : Issuer) (x : IdeStream) (b : Bool) (k : Fin 4) (l : List Byte), firmwareRuns s = false →
    exec (.spdmGetVersion m) s = .next (settle (s)) ∧ exec (.spdmGetCapabilities m) s = .next (settle (s)) ∧ exec
      (.spdmNegotiateAlgorithms m) s = .next (settle (s)) ∧ exec (.spdmGetDigests m) s = .next (settle (s)) ∧ exec
      (.spdmGetCertificate m k) s = .next (settle (s)) ∧ exec (.spdmChallenge m) s = .next (settle (s)) ∧ exec
      (.spdmGetMeasurements m) s = .next (settle (s)) ∧ exec (.spdmKeyExchange m) s = .next (settle (s)) ∧ exec
      (.spdmFinish m) s = .next (settle (s)) ∧ exec (.spdmHeartbeat m) s = .next (settle (s)) ∧ exec (.spdmKeyUpdate
      m) s = .next (settle (s)) ∧ exec (.spdmEndSession m) s = .next (settle (s)) ∧ exec (.spdmGetCsr m) s = .next
      (settle (s)) ∧ exec (.spdmSetCertificate m k l) s = .next (settle (s)) ∧ exec (.spdmChunkSend m) s = .next
      (settle (s)) ∧ exec (.spdmChunkGet m) s = .next (settle (s)) ∧ exec (.ideKmMessage m (x, b)) s = .next (settle
      (s)))

/-- KEY_LOAD and KEY_DESTROY (key armed) with a command running set RESULT 6 and change nothing else. A load without a
wrapping key or in SAFE is refused with 5, with a record that does not unwrap with 1; the wrap registers are cleared and
"key load refused" is raised. A load whose checks pass, or a destruction, takes its slot to CHANGING with BUSY set.
EPHEMERAL_KEY_LOAD begins a load of a drawn key, and is refused with 6 while a command runs and with 5 in SAFE or END.
KEY_SLOT_CHANGE_COMPLETE with no request in flight in the slot writes or clears it with its generation advanced; with one
in flight, or no command, nothing changes. -/
def Obligations.KeySlots : Prop :=
  (∀ (s : State) (p : Path) (k : BitVec 12), MayWriteGk s p Reg.KEYS_CMD → s.keys.cmd.isSome = true →
    exec (.keyLoad p k) s = .next (settle (keyResult (disarm s p) 6)) ∧ exec (.keyDestroy p k) s = .next (settle
      (keyResult (disarm s p) 6))) ∧
  (∀ (s : State) (p : Path) (k : BitVec 12), MayWriteGk s p Reg.KEYS_CMD → s.keys.cmd = none →
    exec (.keyDestroy p k) s = .next (settle (keyBegin (((disarm s p).setF Reg.KEYS_CMD 31 30 2).setF Reg.KEYS_CMD 11
      0 k.toNat) { slot := k.toNat, load := false, key := 0, seq := 0, wrapped := false, own := false }))) ∧
  (∀ (s : State) (p : Path) (k : BitVec 12) (r : Nat), MayWriteGk s p Reg.KEYS_CMD → s.keys.cmd = none →
    loadCheck (((disarm s p).setF Reg.KEYS_CMD 31 30 1).setF Reg.KEYS_CMD 11 0 k.toNat) k.toNat = .inl r →
    exec (.keyLoad p k) s = .next (settle (clearWrap (keyRefuse ((((disarm s p).setF Reg.KEYS_CMD 31 30 1).setF
      Reg.KEYS_CMD 11 0 k.toNat).setF Reg.KEYS_STAT 11 0 k.toNat) r k.toNat true)))) ∧
  (∀ (s : State) (p : Path) (k : BitVec 12), MayWriteGk s p Reg.KEYS_CMD → s.keys.cmd = none →
    ∀ a : Nat × Nat, loadCheck (((disarm s p).setF Reg.KEYS_CMD 31 30 1).setF Reg.KEYS_CMD 11 0 k.toNat) k.toNat =
      .inr a →
    exec (.keyLoad p k) s = .next (settle (keyBegin (((disarm s p).setF Reg.KEYS_CMD 31 30 1).setF Reg.KEYS_CMD 11 0
      k.toNat) { slot := k.toNat, load := true, key := a.1, seq := a.2, wrapped := true, own := false }))) ∧
  (∀ (s : State) (k : Nat), okwkPresent s = false ∨ s.code = Mode.safe → loadCheck s k = .inl 5) ∧
  (∀ (s : State) (k : Nat), okwkPresent s = true → s.code ≠ Mode.safe →
    Config.unwrap (wrappingKey s) (wrapBytes s) = none → loadCheck s k = .inl 1) ∧
  (∀ (s : State) (p : Path) (k : BitVec 12), MayWriteGk s p Reg.SEC_EPHEM → s.keys.cmd.isSome = true →
    exec (.ephemeralKeyLoad p k) s = .next (settle (keyRefuse ((disarm s p).setF Reg.SEC_EPHEM 11 0 k.toNat) 6 k.toNat
      false))) ∧
  (∀ (s : State) (p : Path) (k : BitVec 12) (t : State), MayWriteGk s p Reg.SEC_EPHEM → s.keys.cmd = none →
    t = (disarm s p).setF Reg.SEC_EPHEM 11 0 k.toNat → t.code = Mode.safe ∨ lcState t = 5 →
    exec (.ephemeralKeyLoad p k) s = .next (settle (keyRefuse (t.setF Reg.KEYS_STAT 11 0 k.toNat) 5 k.toNat true))) ∧
  (∀ (s : State) (p : Path) (k : BitVec 12) (t : State), MayWriteGk s p Reg.SEC_EPHEM → s.keys.cmd = none →
    t = (disarm s p).setF Reg.SEC_EPHEM 11 0 k.toNat → t.code ≠ Mode.safe → lcState t ≠ 5 →
    exec (.ephemeralKeyLoad p k) s = .next (settle (keyBegin (drawN 16 t)
      { slot := k.toNat, load := true, key := randomKey t, seq := 0, wrapped := false, own := false }))) ∧
  (∀ (s : State) (a : KeyCmd), s.keys.cmd = some a → inflight s a.slot = 0 →
    exec .keySlotChangeComplete s = .next (settle (admitAll (keyEnd s a)))) ∧
  (∀ (s : State) (a : KeyCmd), s.keys.cmd = some a → inflight s a.slot ≠ 0 →
    exec .keySlotChangeComplete s = .next (settle (s))) ∧
  (∀ (s : State), s.keys.cmd = none → exec .keySlotChangeComplete s = .next (settle (s))) ∧
  (∀ (s : State) (a : KeyCmd), (keyApply s a).keySlot a.slot = (if a.load then
    { state := 1, gen := ((s.keySlot a.slot).gen + 1) % 2 ^ 32, key := a.key } else
    { state := 0, gen := ((s.keySlot a.slot).gen + 1) % 2 ^ 32, key := 0 }))

/-- HEAP_JOB_START runs the first queued job whose engine is free, while the crystallizer is READY, or nothing; a job of a
page move pauses in HOLD. A decode that ends for a page that is no longer in T2 leaves with every line poisoned, and one
stored as it is gives each line as read; with no job running, the completions change nothing. The write of CRY_TEST in
TEST with INJ and a unit below 12 arms the injection; outside TEST, nothing. An encode that ends stores its page in the
heap form found, or, verified wrong, as it is, a page move stores its page, and a probe returns its result. CRY_PBFLUSH
empties the page buffers whose bits are 1. ENGINE_ENABLE_WRITE writes CRY_UNITEN or CRY_XEEN unit by unit: an enable with
no isolating sticky bit sets the unit's bit and READY, a disable clears them. -/
def Obligations.Crystallizers : Prop :=
  (∀ (s : State) (q : Fin 4) (j : HeapJob), (jobsOf s q).find? (fun j => !j.running && !(jobsOf s q).any (fun i =>
    i.running && (onDecoder i == onDecoder j)) && !pausedJob s j) = some j → readyHc s q = true →
    exec (.heapJobStart q) s = .next (settle (putJob s j { j with running := true }))) ∧
  (∀ (s : State) (q : Fin 4), jobsOf s q = [] → exec (.heapJobStart q) s = .next (settle (s))) ∧
  (∀ (s : State) (q : Fin 4) (e : List (List (Nat × Word))) (b : Bool), (jobsOf s q).any (fun j => j.running) = false
    →
    exec (.heapDecodeComplete q e) s = .next (settle (flow (s))) ∧ exec (.heapEncodeComplete q b) s = .next (settle
      (flow (s)))) ∧
  (∀ (s : State) (q : Fin 4) (e : List (List (Nat × Word))) (j : HeapJob), (jobsOf s q).find? (fun j => j.running &&
    onDecoder j && !pausedJob s j) = some j → jobSet s q true = s.sets.swaps →
    pageServable s j.page = false ∨ eState j.seen ≠ Ent.t2 →
    exec (.heapDecodeComplete q e) s = .next (settle (flow (decodeEnds s j lostPage false)))) ∧
  (∀ (s t : State) (q : Fin 4) (e : List (List (Nat × Word))) (j : HeapJob) (bad : List Nat) (l : List (Line × Bool)),
    (jobsOf s q).find? (fun j => j.running && onDecoder j && !pausedJob s j) = some j →
    jobSet s q true = s.sets.swaps → pageServable s j.page = true → eState j.seen = Ent.t2 → eNb j.seen = 15 →
    readMany s (pageReadKeys s j.seen) e = (t, bad) → readPage t j.seen j.page j.slot bad = some l →
    exec (.heapDecodeComplete q e) s = .next (settle (flow (decodeEnds t j l true)))) ∧
  (∀ (s : State) (q : Fin 4) (b : Bool) (j : HeapJob), (jobsOf s q).find? (fun j => j.running && !onDecoder j &&
    !pausedJob s j) = some j → jobSet s q false = s.sets.swaps → j.kind ≠ 1 → getTxn (dropJob s j) j.txn = none →
    exec (.heapEncodeComplete q b) s = .next (settle (flow (dropJob s j)))) ∧
  (∀ (s : State) (q : Fin 4) (b : Bool) (j : HeapJob) (m : Move), (jobsOf s q).find? (fun j => j.running && !onDecoder
    j && !pausedJob s j) = some j → jobSet s q false = s.sets.swaps → j.kind = 1 →
    (dropJob s j).tier.moves.find? (fun m => decide (m.id = j.txn ∧ m.phase = 3)) = some m →
    exec (.heapEncodeComplete q b) s = .next (settle (flow (moveStore (dropJob s j) m j.lines b)))) ∧
  (∀ (s : State) (q : Fin 4) (b : Bool) (j : HeapJob) (t : Txn) (n : Fin 16) (rd : Fin 32), (jobsOf s q).find? (fun j
    => j.running && !onDecoder j && !pausedJob s j) = some j → jobSet s q false = s.sets.swaps →
    getTxn (dropJob s j) j.txn = some t → j.kind = 3 → t.req.origin = .core n rd →
    exec (.heapEncodeComplete q b) s = .next (settle (flow (closeTxn (reqDone t.req (tick (dropJob s j) (bHc q) 6 1)
      n.val rd (probeResult (dropJob s j) j.lines)) t)))) ∧
  (∀ (s u v : State) (q : Fin 4) (b f : Bool) (j : HeapJob) (t : Txn) (l : Nat) (d : Line) (x : Bool) (k m : Nat) (lc
    : Nat) (pl : Plan), (jobsOf s q).find? (fun j => j.running && !onDecoder j && !pausedJob s j) = some j →
    jobSet s q false = s.sets.swaps → getTxn (dropJob s j) j.txn = some t → j.kind = 2 →
    t.wdata = some (l, d, x, k, lc) →
    (if codes2 (tick (dropJob s j) (bHc q) 0 1) j.page j.lines then verifyFails (tick (dropJob s j) (bHc q) 0 1) q
      j.page b j.lines else (tick (dropJob s j) (bHc q) 0 1, false)) = (u, f) → heapForm u j.lines f = (none, m) →
    planT2 (tick (tick u (bHc q) 2 1) (bHc q) 1 m) j.page (lineIdx l) k j.lines lc f = (v, pl) →
    exec (.heapEncodeComplete q b) s = .next (settle (flow (takePlan v t pl)))) ∧
  (∀ (s : State) (p : Path) (v : Word), MayWriteGk s p Reg.CRY_TEST → s.code = Mode.test → bit v 4 = true →
    fld v 3 0 < 12 →
    exec (.cryInject p v) s = .next (settle (takeWrite
      (({ (disarm s p).setF Reg.CRY_TEST 3 0 (fld v 3 0) with tier := { s.tier with inject := some (fld v 3 0) } }).setBit
      Reg.CRY_TEST 4 true) Reg.CRY_TEST))) ∧
  (∀ (s : State) (p : Path) (v : Word), MayWriteGk s p Reg.CRY_TEST → s.code ≠ Mode.test →
    exec (.cryInject p v) s = .next (settle (takeWrite (disarm s p) Reg.CRY_TEST))) ∧
  (∀ (s : State) (p : Path) (v : Word), MayWrite s p Reg.CRY_PBFLUSH →
    exec (.pageBufferFlush p v) s = .next (settle
      ({ s with tier := { s.tier with bufs := s.tier.bufs.filter (fun e => !bit v e.1), jobs := s.tier.jobs.map (fun j => if bit v j.quad ∧ j.kind = 0 ∧ j.running then { j with drop := true } else j) } }))) ∧
  (∀ (s : State) (p : Path) (v : Word), MayWrite s p Reg.CRY_XEEN →
    exec (.engineEnableWrite p true v) s = .next (settle (flow (settle (takeWrite ((List.range 8).foldl (fun s u =>
      xeEnable s v u) s) Reg.CRY_XEEN))))) ∧
  (∀ (s : State) (p : Path) (v : Word), MayWrite s p Reg.CRY_UNITEN →
    exec (.engineEnableWrite p false v) s = .next (settle (flow (settle (takeWrite (flushJobs ((List.range 12).foldl
      (fun s u => cryEnable s v u) s) ((List.range 12).foldl (fun s u => cryEnable s v u) s).tier.jobs)
      Reg.CRY_UNITEN))))) ∧
  (∀ (s : State) (v : Word) (u : Nat), bit v u = true → s.bit Reg.CRY_XEEN u = false → canEnable s (uXe u) = true →
    xeEnable s v u = setReadyXe (unisolate (s.setBit Reg.CRY_XEEN u true) (uXe u)) u true) ∧
  (∀ (s : State) (v : Word) (u : Nat), bit v u = true → s.bit Reg.CRY_XEEN u = false → canEnable s (uXe u) = false →
    xeEnable s v u = s) ∧
  (∀ (s : State) (v : Word) (u : Nat), bit v u = false → s.bit Reg.CRY_XEEN u = true →
    xeEnable s v u = xeGone (s.setBit Reg.CRY_XEEN u false) u)

/-- A peer's request is taken and goes to its home slice with the task tag, key slot and sluice that ingress gives it; in
SAFE it is answered with poison; while its page is held, or no reframe is free for it, or its slice has no room or lane
for it, it rides on and nothing changes. In HOLD the slice takes it while its wait buffer has room. A frame that the
device took under an earlier configuration set is handled under that set. A WBM or EVC that an open transaction awaits
ends that wait, hands over the line (WBM), and is acknowledged with WBACK; one that comes before its RSPWB is noted. WBACK
ends the writeback in flight that it names; else "unmatched frame" is raised. -/
def Obligations.CoherenceRequestsOfPeers : Prop :=
  (∀ (s : State) (f : Frame), TakenNow s f → s.code = Mode.safe →
    exec (.rds f) s = .next (settle (flow (refuseReq (dropTaken s f) { req := peerReq s f .rds 0 })))) ∧
  (∀ (s : State) (f : Frame), TakenNow s f → s.code ≠ Mode.safe → holding s = true →
    holdFits s (peerIn s f .rds) = true →
    exec (.rds f) s = .next (settle (flow (submit (dropTaken (takeId s).1 f) (peerIn s f .rds))))) ∧
  (∀ (s : State) (f : Frame) (u : State), TakenNow s f → s.code ≠ Mode.safe → holding s = false →
    rides s (peerIn s f .rds) = false → u = submit (takeId s).1 (peerIn s f .rds) →
    u.coh.ingress.any (fun x => decide (x.id = (peerIn s f .rds).id)) = false →
    exec (.rds f) s = .next (settle (flow (dropTaken u f)))) ∧
  (∀ (s : State) (f : Frame), TakenNow s f → s.code = Mode.safe →
    exec (.rdo f) s = .next (settle (flow (refuseReq (dropTaken s f) { req := peerReq s f .rdo 0 })))) ∧
  (∀ (s : State) (f : Frame), TakenNow s f → s.code ≠ Mode.safe → holding s = true →
    holdFits s (peerIn s f .rdo) = true →
    exec (.rdo f) s = .next (settle (flow (submit (dropTaken (takeId s).1 f) (peerIn s f .rdo))))) ∧
  (∀ (s : State) (f : Frame) (u : State), TakenNow s f → s.code ≠ Mode.safe → holding s = false →
    rides s (peerIn s f .rdo) = false → u = submit (takeId s).1 (peerIn s f .rdo) →
    u.coh.ingress.any (fun x => decide (x.id = (peerIn s f .rdo).id)) = false →
    exec (.rdo f) s = .next (settle (flow (dropTaken u f)))) ∧
  (∀ (s : State) (f : Frame), TakenNow s f → s.code = Mode.safe →
    exec (.upg f) s = .next (settle (flow (refuseReq (dropTaken s f) { req := peerReq s f .upg 0 })))) ∧
  (∀ (s : State) (f : Frame), TakenNow s f → s.code ≠ Mode.safe → holding s = true →
    holdFits s (peerIn s f .upg) = true →
    exec (.upg f) s = .next (settle (flow (submit (dropTaken (takeId s).1 f) (peerIn s f .upg))))) ∧
  (∀ (s : State) (f : Frame) (u : State), TakenNow s f → s.code ≠ Mode.safe → holding s = false →
    rides s (peerIn s f .upg) = false → u = submit (takeId s).1 (peerIn s f .upg) →
    u.coh.ingress.any (fun x => decide (x.id = (peerIn s f .upg).id)) = false →
    exec (.upg f) s = .next (settle (flow (dropTaken u f)))) ∧
  (∀ (s : State) (f : Frame), TakenNow s f → s.code = Mode.safe →
    exec (.rdc f) s = .next (settle (flow (refuseReq (dropTaken s f) { req := peerReq s f .rdc 0 })))) ∧
  (∀ (s : State) (f : Frame), TakenNow s f → s.code ≠ Mode.safe → holding s = true →
    holdFits s (peerIn s f .rdc) = true →
    exec (.rdc f) s = .next (settle (flow (submit (dropTaken (takeId s).1 f) (peerIn s f .rdc))))) ∧
  (∀ (s : State) (f : Frame) (u : State), TakenNow s f → s.code ≠ Mode.safe → holding s = false →
    rides s (peerIn s f .rdc) = false → u = submit (takeId s).1 (peerIn s f .rdc) →
    u.coh.ingress.any (fun x => decide (x.id = (peerIn s f .rdc).id)) = false →
    exec (.rdc f) s = .next (settle (flow (dropTaken u f)))) ∧
  (∀ (s : State) (f : Frame), TakenNow s f → awaiting s f = none → s.code = Mode.safe →
    exec (.wbm f) s = .next (settle (flow (refuseReq (dropTaken s f) { req := peerReq s f .wbm 0 })))) ∧
  (∀ (s : State) (f : Frame), TakenNow s f → awaiting s f = none → s.code ≠ Mode.safe → holding s = true →
    holdFits s (peerIn s f .wbm) = true →
    exec (.wbm f) s = .next (settle (flow (submit (dropTaken (takeId s).1 f) (peerIn s f .wbm))))) ∧
  (∀ (s : State) (f : Frame) (u : State), TakenNow s f → awaiting s f = none → s.code ≠ Mode.safe →
    holding s = false → rides s (peerIn s f .wbm) = false → u = submit (takeId s).1 (peerIn s f .wbm) →
    u.coh.ingress.any (fun x => decide (x.id = (peerIn s f .wbm).id)) = false →
    exec (.wbm f) s = .next (settle (flow (dropTaken u f)))) ∧
  (∀ (s : State) (f : Frame), TakenNow s f → awaiting s f = none → s.code = Mode.safe →
    exec (.evc f) s = .next (settle (flow (refuseReq (dropTaken s f) { req := peerReq s f .evc 0 })))) ∧
  (∀ (s : State) (f : Frame), TakenNow s f → awaiting s f = none → s.code ≠ Mode.safe → holding s = true →
    holdFits s (peerIn s f .evc) = true →
    exec (.evc f) s = .next (settle (flow (submit (dropTaken (takeId s).1 f) (peerIn s f .evc))))) ∧
  (∀ (s : State) (f : Frame) (u : State), TakenNow s f → awaiting s f = none → s.code ≠ Mode.safe →
    holding s = false → rides s (peerIn s f .evc) = false → u = submit (takeId s).1 (peerIn s f .evc) →
    u.coh.ingress.any (fun x => decide (x.id = (peerIn s f .evc).id)) = false →
    exec (.evc f) s = .next (settle (flow (dropTaken u f)))) ∧
  (∀ (s : State) (f : Frame), TakenNow s f → s.code ≠ Mode.safe → holding s = true →
    holdFits s (peerIn s f .rds) = false → exec (.rds f) s = .next (settle (flow (s)))) ∧
  (∀ (s : State) (f : Frame), TakenNow s f → s.code ≠ Mode.safe → holding s = false →
    rides s (peerIn s f .rds) = true → exec (.rds f) s = .next (settle (flow (s)))) ∧
  (∀ (s : State) (f : Frame) (u : State), TakenNow s f → s.code ≠ Mode.safe → holding s = false →
    rides s (peerIn s f .rds) = false → u = submit (takeId s).1 (peerIn s f .rds) →
    u.coh.ingress.any (fun x => decide (x.id = (peerIn s f .rds).id)) = true →
    exec (.rds f) s = .next (settle (flow
      ({ u with coh := { u.coh with ingress := u.coh.ingress.filter (fun x => decide (x.id ≠ (peerIn s f .rds).id)) } })))) ∧
  (∀ (s : State) (f : Frame), TakenNow s f → s.code ≠ Mode.safe → holding s = true →
    holdFits s (peerIn s f .rdo) = false → exec (.rdo f) s = .next (settle (flow (s)))) ∧
  (∀ (s : State) (f : Frame), TakenNow s f → s.code ≠ Mode.safe → holding s = false →
    rides s (peerIn s f .rdo) = true → exec (.rdo f) s = .next (settle (flow (s)))) ∧
  (∀ (s : State) (f : Frame) (u : State), TakenNow s f → s.code ≠ Mode.safe → holding s = false →
    rides s (peerIn s f .rdo) = false → u = submit (takeId s).1 (peerIn s f .rdo) →
    u.coh.ingress.any (fun x => decide (x.id = (peerIn s f .rdo).id)) = true →
    exec (.rdo f) s = .next (settle (flow
      ({ u with coh := { u.coh with ingress := u.coh.ingress.filter (fun x => decide (x.id ≠ (peerIn s f .rdo).id)) } })))) ∧
  (∀ (s : State) (f : Frame), TakenNow s f → s.code ≠ Mode.safe → holding s = true →
    holdFits s (peerIn s f .upg) = false → exec (.upg f) s = .next (settle (flow (s)))) ∧
  (∀ (s : State) (f : Frame), TakenNow s f → s.code ≠ Mode.safe → holding s = false →
    rides s (peerIn s f .upg) = true → exec (.upg f) s = .next (settle (flow (s)))) ∧
  (∀ (s : State) (f : Frame) (u : State), TakenNow s f → s.code ≠ Mode.safe → holding s = false →
    rides s (peerIn s f .upg) = false → u = submit (takeId s).1 (peerIn s f .upg) →
    u.coh.ingress.any (fun x => decide (x.id = (peerIn s f .upg).id)) = true →
    exec (.upg f) s = .next (settle (flow
      ({ u with coh := { u.coh with ingress := u.coh.ingress.filter (fun x => decide (x.id ≠ (peerIn s f .upg).id)) } })))) ∧
  (∀ (s : State) (f : Frame), TakenNow s f → s.code ≠ Mode.safe → holding s = true →
    holdFits s (peerIn s f .rdc) = false → exec (.rdc f) s = .next (settle (flow (s)))) ∧
  (∀ (s : State) (f : Frame), TakenNow s f → s.code ≠ Mode.safe → holding s = false →
    rides s (peerIn s f .rdc) = true → exec (.rdc f) s = .next (settle (flow (s)))) ∧
  (∀ (s : State) (f : Frame) (u : State), TakenNow s f → s.code ≠ Mode.safe → holding s = false →
    rides s (peerIn s f .rdc) = false → u = submit (takeId s).1 (peerIn s f .rdc) →
    u.coh.ingress.any (fun x => decide (x.id = (peerIn s f .rdc).id)) = true →
    exec (.rdc f) s = .next (settle (flow
      ({ u with coh := { u.coh with ingress := u.coh.ingress.filter (fun x => decide (x.id ≠ (peerIn s f .rdc).id)) } })))) ∧
  (∀ (s : State) (f : Frame), TakenNow s f → awaiting s f = none → s.code ≠ Mode.safe → holding s = true →
    holdFits s (peerIn s f .wbm) = false → exec (.wbm f) s = .next (settle (flow (s)))) ∧
  (∀ (s : State) (f : Frame), TakenNow s f → awaiting s f = none → s.code ≠ Mode.safe → holding s = false →
    rides s (peerIn s f .wbm) = true → exec (.wbm f) s = .next (settle (flow (s)))) ∧
  (∀ (s : State) (f : Frame) (u : State), TakenNow s f → awaiting s f = none → s.code ≠ Mode.safe →
    holding s = false → rides s (peerIn s f .wbm) = false → u = submit (takeId s).1 (peerIn s f .wbm) →
    u.coh.ingress.any (fun x => decide (x.id = (peerIn s f .wbm).id)) = true →
    exec (.wbm f) s = .next (settle (flow
      ({ u with coh := { u.coh with ingress := u.coh.ingress.filter (fun x => decide (x.id ≠ (peerIn s f .wbm).id)) } })))) ∧
  (∀ (s : State) (f : Frame), TakenNow s f → awaiting s f = none → s.code ≠ Mode.safe → holding s = true →
    holdFits s (peerIn s f .evc) = false → exec (.evc f) s = .next (settle (flow (s)))) ∧
  (∀ (s : State) (f : Frame), TakenNow s f → awaiting s f = none → s.code ≠ Mode.safe → holding s = false →
    rides s (peerIn s f .evc) = true → exec (.evc f) s = .next (settle (flow (s)))) ∧
  (∀ (s : State) (f : Frame) (u : State), TakenNow s f → awaiting s f = none → s.code ≠ Mode.safe →
    holding s = false → rides s (peerIn s f .evc) = false → u = submit (takeId s).1 (peerIn s f .evc) →
    u.coh.ingress.any (fun x => decide (x.id = (peerIn s f .evc).id)) = true →
    exec (.evc f) s = .next (settle (flow
      ({ u with coh := { u.coh with ingress := u.coh.ingress.filter (fun x => decide (x.id ≠ (peerIn s f .evc).id)) } })))) ∧
  (∀ (s : State) (f : Frame) (o : OldSet), TakenUnder s f o →
    exec (.rds f) s = .next (settle (flow (putSet (peerRequest (putSet s o) f .rds) (activeSet s)))) ∧ exec (.rdo f) s
      = .next (settle (flow (putSet (peerRequest (putSet s o) f .rdo) (activeSet s)))) ∧ exec (.upg f) s = .next
      (settle (flow (putSet (peerRequest (putSet s o) f .upg) (activeSet s)))) ∧ exec (.rdc f) s = .next (settle (flow
      (putSet (peerRequest (putSet s o) f .rdc) (activeSet s)))) ∧ exec (.wbm f) s = .next (settle (flow (putSet (wbm
      (putSet s o) f) (activeSet s)))) ∧ exec (.evc f) s = .next (settle (flow (putSet (evc (putSet s o) f) (activeSet
      s))))) ∧
  (∀ (s : State) (f : Frame) (t : Txn), TakenNow s f → awaiting s f = some t →
    t.wbWait.contains (f.line * 64, f.src) = true →
    exec (.wbm f) s = .next (settle (flow (putTxn (wback (dropTaken s f) f)
      { t with wbWait := t.wbWait.erase (f.line * 64, f.src), got := t.got ++ [(f.line * 64, f.data, decide (128 ≤ f.opcode), tagSlot s f.tag, f.tag)] })))
      ∧ exec (.evc f) s = .next (settle (flow (putTxn (wback (dropTaken s f) f)
      { t with wbWait := t.wbWait.erase (f.line * 64, f.src) })))) ∧
  (∀ (s : State) (f : Frame) (t : Txn), TakenNow s f → awaiting s f = some t →
    t.wbWait.contains (f.line * 64, f.src) = false →
    exec (.wbm f) s = .next (settle (flow (putTxn (wback (dropTaken s f) f)
      { t with wbGot := t.wbGot ++ [(f.line * 64, f.src)], got := t.got ++ [(f.line * 64, f.data, decide (128 ≤ f.opcode), tagSlot s f.tag, f.tag)] })))
      ∧ exec (.evc f) s = .next (settle (flow (putTxn (wback (dropTaken s f) f)
      { t with wbGot := t.wbGot ++ [(f.line * 64, f.src)] })))) ∧
  (∀ (s : State) (f : Frame) (u : State) (w : WbFlight), u = dropTaken s f →
    u.coh.wb.find? (fun w => decide (w.dev = f.src ∧ w.line = f.line * 64 ∧ w.txid = f.txid)) = some w →
    exec (.wback f) s = .next (settle (flow ({ u with coh := { u.coh with wb := u.coh.wb.erase w } })))) ∧
  (∀ (s : State) (f : Frame) (u : State), u = dropTaken s f →
    u.coh.wb.find? (fun w => decide (w.dev = f.src ∧ w.line = f.line * 64 ∧ w.txid = f.txid)) = none →
    exec (.wback f) s = .next (settle (flow (unmatched u f))))

/-- SNPI, SNPS, FWDS and FWDO on a line with no open transaction are served at once; with one they are held with it, but
SNPI that crosses an UPG is served. RSPI takes its holder off the transaction; RSPS keeps the line shared; RSPD and FACKD
hand over the modified line, RSPD keeping it shared after SNPS; RSPWB waits for the writeback unless it came first; FACK
notes the forward, the line shared after FWDS. DATS, DATE and DATM fill the line in S, E and M, GNTE makes it E with its
data, DATC answers with the data alone. A frame that matches nothing raises "unmatched frame". -/
def Obligations.SnoopsAnswersAndGrants : Prop :=
  (∀ (s u : State) (f : Frame), u = dropTaken s f → openOn u f = none →
    exec (.snpi f) s = .next (settle (flow (openSnoop u f (takenSet s f)))) ∧ exec (.snps f) s = .next (settle (flow
      (openSnoop u f (takenSet s f)))) ∧ exec (.fwds f) s = .next (settle (flow (openSnoop u f (takenSet s f)))) ∧
      exec (.fwdo f) s = .next (settle (flow (openSnoop u f (takenSet s f))))) ∧
  (∀ (s u : State) (f : Frame) (t : Txn), u = dropTaken s f → openOn u f = some t →
    exec (.snps f) s = .next (settle (flow (putTxn u { t with held := t.held ++ [(f, takenSet s f)] }))) ∧ exec (.fwds
      f) s = .next (settle (flow (putTxn u { t with held := t.held ++ [(f, takenSet s f)] }))) ∧ exec (.fwdo f) s =
      .next (settle (flow (putTxn u { t with held := t.held ++ [(f, takenSet s f)] })))) ∧
  (∀ (s u : State) (f : Frame) (t : Txn) (c : Nat), u = dropTaken s f → openOn u f = some t → t.ask = some (3, c) →
    exec (.snpi f) s = .next (settle (flow (openSnoop u f (takenSet s f))))) ∧
  (∀ (s u : State) (f : Frame) (t : Txn), u = dropTaken s f → openOn u f = some t →
    (t.ask.map (fun a => a.1)).getD 0 ≠ 3 →
    exec (.snpi f) s = .next (settle (flow (putTxn u { t with held := t.held ++ [(f, takenSet s f)] })))) ∧
  (∀ (s u : State) (f : Frame) (t : Txn), TakenNow s f → u = dropTaken s f → answered u f = some t →
    exec (.rspi f) s = .next (settle (flow (putTxn u { t with peers := t.peers.erase (f.line * 64, f.src) })))) ∧
  (∀ (s u : State) (f : Frame) (t : Txn), TakenNow s f → u = dropTaken s f → answered u f = some t →
    exec (.rsps f) s = .next (settle (flow (putTxn u
      { t with peers := t.peers.erase (f.line * 64, f.src), kept := t.kept ++ [(f.line * 64, 16)] })))) ∧
  (∀ (s u : State) (f : Frame) (t : Txn), TakenNow s f → u = dropTaken s f → answered u f = some t →
    snpsKind t.req.kind = true →
    exec (.rspd f) s = .next (settle (flow (putTxn u
      { t with peers := t.peers.erase (f.line * 64, f.src), got := t.got ++ [carriedLine u f], kept := t.kept ++ [(f.line * 64, 16)] })))) ∧
  (∀ (s u : State) (f : Frame) (t : Txn), TakenNow s f → u = dropTaken s f → answered u f = some t →
    snpsKind t.req.kind = false →
    exec (.rspd f) s = .next (settle (flow (putTxn u
      { t with peers := t.peers.erase (f.line * 64, f.src), got := t.got ++ [carriedLine u f] })))) ∧
  (∀ (s u : State) (f : Frame) (t : Txn), TakenNow s f → u = dropTaken s f → answered u f = some t →
    t.wbGot.contains (f.line * 64, f.src) = true →
    exec (.rspwb f) s = .next (settle (flow (putTxn u
      { t with peers := t.peers.erase (f.line * 64, f.src), wbGot := t.wbGot.erase (f.line * 64, f.src) })))) ∧
  (∀ (s u : State) (f : Frame) (t : Txn), TakenNow s f → u = dropTaken s f → answered u f = some t →
    t.wbGot.contains (f.line * 64, f.src) = false →
    exec (.rspwb f) s = .next (settle (flow (putTxn u
      { t with peers := t.peers.erase (f.line * 64, f.src), wbWait := t.wbWait ++ [(f.line * 64, f.src)] })))) ∧
  (∀ (s u : State) (f : Frame) (t : Txn), TakenNow s f → u = dropTaken s f → answered u f = some t →
    t.req.kind = .rds →
    exec (.fack f) s = .next (settle (flow (putTxn u
      { t with peers := t.peers.erase (f.line * 64, f.src), fwd := true, kept := t.kept ++ [(f.line * 64, 16)] }))) ∧
      exec (.fackd f) s = .next (settle (flow (putTxn u
      { t with peers := t.peers.erase (f.line * 64, f.src), fwd := true, got := t.got ++ [carriedLine u f], kept := t.kept ++ [(f.line * 64, 16)] })))) ∧
  (∀ (s u : State) (f : Frame) (t : Txn), TakenNow s f → u = dropTaken s f → answered u f = some t →
    t.req.kind ≠ .rds →
    exec (.fack f) s = .next (settle (flow (putTxn u
      { t with peers := t.peers.erase (f.line * 64, f.src), fwd := true }))) ∧ exec (.fackd f) s = .next (settle (flow
      (putTxn u
      { t with peers := t.peers.erase (f.line * 64, f.src), fwd := true, got := t.got ++ [carriedLine u f] })))) ∧
  (∀ (s u : State) (f : Frame), TakenNow s f → u = dropTaken s f → answered u f = none →
    exec (.rspi f) s = .next (settle (flow (unmatched u f))) ∧ exec (.rsps f) s = .next (settle (flow (unmatched u
      f))) ∧ exec (.rspd f) s = .next (settle (flow (unmatched u f))) ∧ exec (.rspwb f) s = .next (settle (flow
      (unmatched u f))) ∧ exec (.fack f) s = .next (settle (flow (unmatched u f))) ∧ exec (.fackd f) s = .next (settle
      (flow (unmatched u f)))) ∧
  (∀ (s u : State) (f : Frame) (o : OldSet) (t : Txn), TakenUnder s f o → u = dropTaken (putSet s o) f →
    answered u f = some t →
    exec (.rspi f) s = .next (settle (flow (putSet (putTxn u { t with peers := t.peers.erase (f.line * 64, f.src) })
      (activeSet s))))) ∧
  (∀ (s u v : State) (f : Frame) (o : OldSet) (t : Txn), TakenUnder s f o → u = dropTaken (putSet s o) f →
    granted u f = some t →
    v = (recallLine u { t with ask := none, phase := .recall, ans := some (f.data, decide (128 ≤ f.opcode)) }
      t.req.line).1 →
    exec (.datc f) s = .next (settle (flow (putSet (putTxn v (recallLine u
      { t with ask := none, phase := .recall, ans := some (f.data, decide (128 ≤ f.opcode)) } t.req.line).2)
      (activeSet s))))) ∧
  (∀ (s u v : State) (f : Frame) (t : Txn), TakenNow s f → u = dropTaken s f → granted u f = some t →
    v = (pcPut u t.req.dev t.req.line
      { pcGet u t.req.dev t.req.line with pstate := 1, data := f.data, pois := decide (128 ≤ f.opcode), lc := madeCheck f.data })
      →
    exec (.dats f) s = .next (settle (flow (putTxn (recallLine v { t with ask := .none, phase := .recall }
      t.req.line).1 (recallLine v { t with ask := .none, phase := .recall } t.req.line).2)))) ∧
  (∀ (s u v : State) (f : Frame) (t : Txn), TakenNow s f → u = dropTaken s f → granted u f = some t →
    v = (pcPut u t.req.dev t.req.line
      { pcGet u t.req.dev t.req.line with pstate := 2, data := f.data, pois := decide (128 ≤ f.opcode), lc := madeCheck f.data })
      →
    exec (.date f) s = .next (settle (flow (putTxn (recallLine v { t with ask := .none, phase := .recall }
      t.req.line).1 (recallLine v { t with ask := .none, phase := .recall } t.req.line).2)))) ∧
  (∀ (s u v : State) (f : Frame) (t : Txn), TakenNow s f → u = dropTaken s f → granted u f = some t →
    v = (pcPut u t.req.dev t.req.line
      { pcGet u t.req.dev t.req.line with pstate := 3, data := f.data, pois := decide (128 ≤ f.opcode), wtag := t.req.tag, lc := madeCheck f.data })
      →
    exec (.datm f) s = .next (settle (flow (putTxn (recallLine v { t with ask := .none, phase := .recall }
      t.req.line).1 (recallLine v { t with ask := .none, phase := .recall } t.req.line).2)))) ∧
  (∀ (s u v : State) (f : Frame) (t : Txn), TakenNow s f → u = dropTaken s f → granted u f = some t →
    v = (pcPut u t.req.dev t.req.line { pcGet u t.req.dev t.req.line with pstate := 2 }) →
    exec (.gnte f) s = .next (settle (flow (putTxn (recallLine v { t with ask := .none, phase := .recall }
      t.req.line).1 (recallLine v { t with ask := .none, phase := .recall } t.req.line).2)))) ∧
  (∀ (s u v : State) (f : Frame) (t : Txn), TakenNow s f → u = dropTaken s f → granted u f = some t → v = u →
    exec (.datc f) s = .next (settle (flow (putTxn (recallLine v
      { t with ask := .none, phase := .recall, ans := some (f.data, decide (128 ≤ f.opcode)) } t.req.line).1
      (recallLine v { t with ask := .none, phase := .recall, ans := some (f.data, decide (128 ≤ f.opcode)) }
      t.req.line).2)))) ∧
  (∀ (s u : State) (f : Frame), TakenNow s f → u = dropTaken s f → granted u f = none →
    exec (.dats f) s = .next (settle (flow (unmatched u f))) ∧ exec (.date f) s = .next (settle (flow (unmatched u
      f))) ∧ exec (.datm f) s = .next (settle (flow (unmatched u f))) ∧ exec (.gnte f) s = .next (settle (flow
      (unmatched u f))) ∧ exec (.datc f) s = .next (settle (flow (unmatched u f))))

/-- E2E_TIMEOUT with a request past POOL_E2E raises source 2 and ends the request; with a snoop past it the peer holds
nothing, a line it held exclusive stored poisoned; else a page move of this device or of a peer ends; with none due
nothing happens; in the clock in which it ends the timer waits for the clock's end. The end of a sweep recalls the lines
of isolated owners. HOME_PCFLUSH starts the flush of the quadrants it names; the completion clears the bit of a quadrant
with no line left, and takes up lines that came since. A write of HOME_DQADDRHI sends a directory query to the line's home
slice, which takes it in HOLD too. -/
def Obligations.PeerTimersSweepAndFlush : Prop :=
  (∀ (s : State) (d l : Nat) (t : Txn), ExpiryActs s 1 (if e2eNow s d l then some s.clock else none) →
    s.coh.txns.find? (askDue s d l) = some t →
    exec (.e2eTimeout d l) s = .next (settle (flow (askExpires (raisePool s 2 d) t)))) ∧
  (∀ (s : State) (d l : Nat) (t : Txn), ExpiryActs s 1 (if e2eNow s d l then some s.clock else none) →
    s.coh.txns.find? (askDue s d l) = none → s.coh.txns.find? (snoopDue s d l) = some t →
    exec (.e2eTimeout d l) s = .next (settle (flow (snoopExpires (raisePool s 2 d) t d)))) ∧
  (∀ (s : State) (d l : Nat) (m : Move), ExpiryActs s 1 (if e2eNow s d l then some s.clock else none) →
    s.coh.txns.find? (askDue s d l) = none → s.coh.txns.find? (snoopDue s d l) = none →
    s.tier.moves.find? (moveDue s d l) = some m → exec (.e2eTimeout d l) s = .next (settle (flow (moveTimeout s m)))) ∧
  (∀ (s : State) (d l : Nat), ExpiryActs s 1 (if e2eNow s d l then some s.clock else none) →
    s.coh.txns.find? (askDue s d l) = none → s.coh.txns.find? (snoopDue s d l) = none →
    s.tier.moves.find? (moveDue s d l) = none → s.tier.peerMoves.find? (peerMoveDue s d l) = none →
    exec (.e2eTimeout d l) s = .next (settle (flow (s)))) ∧
  (∀ (s : State) (d l : Nat) (x : PeerMove), ExpiryActs s 1 (if e2eNow s d l then some s.clock else none) →
    s.coh.txns.find? (askDue s d l) = none → s.coh.txns.find? (snoopDue s d l) = none →
    s.tier.moves.find? (moveDue s d l) = none → s.tier.peerMoves.find? (peerMoveDue s d l) = some x →
    exec (.e2eTimeout d l) s = .next (settle (flow (endPeerMove (raisePool s 2 d) x)))) ∧
  (∀ (s : State) (d l : Nat), e2eNow s d l = true → s.closing = false →
    exec (.e2eTimeout d l) s = .next { s with deferred := s.deferred ++ [.e2eTimeout d l] }) ∧
  (∀ (s u : State), s.coh.sweep = true → u = { s with coh := { s.coh with sweep := false } } →
    exec .directorySweepEnd s = .next (settle (flow (sweepPc (sweepDir u (u.coh.dir.map (fun e => e.1))) (u.coh.pc.map
      (fun e => e.1)))))) ∧
  (∀ (s : State), s.coh.sweep = false → exec .directorySweepEnd s = .next (settle (flow (s)))) ∧
  (∀ (s : State) (l : Nat), ownerLost s (decodeDir (dirWord s l)) = true → lineOpen s s.devId l = false →
    sweepDir s [l] = openRecall s (s.devId, l)) ∧
  (∀ (s : State) (p : Path) (v : Word), MayWrite s p Reg.HOME_PCFLUSH →
    exec (.poolCacheFlush p v) s = .next (settle (flow (settle (wrPcflush s v))))) ∧
  (∀ (s : State) (q : Fin 4), s.coh.flush.contains q.val = false →
    exec (.poolCacheFlushComplete q) s = .next (settle (s))) ∧
  (∀ (s : State) (q : Fin 4), s.coh.flush.contains q.val = true → flushed s q = true →
    exec (.poolCacheFlushComplete q) s = .next (settle
      (({ s with coh := { s.coh with flush := s.coh.flush.erase q.val } }).setBit Reg.HOME_PCFLUSH q false))) ∧
  (∀ (s : State) (q : Fin 4), s.coh.flush.contains q.val = true → flushed s q = false →
    exec (.poolCacheFlushComplete q) s = .next (settle (flow (flushLines s q (s.coh.pc.map (fun e => e.1)))))) ∧
  (∀ (s u : State) (p : Path) (v : Word) (r : Req), MayWrite s p Reg.HOME_DQADDRHI →
    u = s.setReg Reg.HOME_DQADDRHI (v &&& 0x3FFF#32) →
    r = mkInternal (takeId u).1 (takeId u).2 .dqry 7 (takeId u).1.devId (u.fld Reg.HOME_DQADDRLO 31 6 * 64 + u.fld
      Reg.HOME_DQADDRHI 13 0 * 2 ^ 32) → holding (takeId u).1 = true →
    exec (.directoryQueryRegister p v) s = .next (settle (enter (takeId u).1 r))) ∧
  (∀ (s u : State) (p : Path) (v : Word) (r : Req), MayWrite s p Reg.HOME_DQADDRHI →
    u = s.setReg Reg.HOME_DQADDRHI (v &&& 0x3FFF#32) →
    r = mkInternal (takeId u).1 (takeId u).2 .dqry 7 (takeId u).1.devId (u.fld Reg.HOME_DQADDRLO 31 6 * 64 + u.fld
      Reg.HOME_DQADDRHI 13 0 * 2 ^ 32) → holding (takeId u).1 = false →
    exec (.directoryQueryRegister p v) s = .next (settle (submit (takeId u).1 r)))

/-- On a READY channel REFRESH_WINDOW_START begins a window whose number is new; DRAM_COMMAND_ISSUE issues the first
command that the order and the device allow, and a read or write leaves its queue; RDT_THROTTLE_EXPIRY ends the throttles
of a sluice whose windows have passed, by name of channel and sluice; ZQ calibration changes nothing; DQS tracking out of
range stops the channel with cause 2; loss of PHY lock raises local 14 and loses it with cause 3; a CA parity or write CRC
error is raised and retried, the 16th retry within 1 ms stopping it. A channel that is not READY does none of these. -/
def Obligations.DramService : Prop :=
  (∀ (s : State) (c : Fin 24), readyChan s c = true → windowIdx s c ≠ (s.chan c).widx →
    exec (.refreshWindowStart c) s = .next (settle (windowBegin s c))) ∧
  (∀ (s : State) (c : Fin 24), windowIdx s c = (s.chan c).widx → exec (.refreshWindowStart c) s = .next (settle (s))) ∧
  (∀ (s u : State) (c : Fin 24) (b : Fin 2) (k : Nat) (d : DCmd), u = windowSync s c → readyChan u c = true →
    u.fld (Reg.DMC_STAT c) 31 29 ≠ 3 → (issuable u c b)[k]? = some d →
    exec (.dramCommandIssue c b k) s = .next (settle (queueStat (issue u c b d) c))) ∧
  (∀ (s u : State) (c : Fin 24) (b : Fin 2) (k : Nat), u = windowSync s c →
    u.fld (Reg.DMC_STAT c) 31 29 = 3 ∨ (issuable u c b)[k]? = none →
    exec (.dramCommandIssue c b k) s = .next (settle (u))) ∧
  (∀ (s : State) (c : Fin 24) (x : Fin 256), exec (.rdtThrottleExpiry c x) s = .next (settle
    ({ s with slu := { s.slu with throttles := s.slu.throttles.filter (fun t => !decide (t.sluice = x.val ∧ t.ch = c.val ∧ t.until_ ≤ (s.chan c).window)) } }))) ∧
  (∀ (s : State) (c : Fin 24), exec (.zqCalibration c) s = .next (settle (s)) ∧ exec (.dqsTracking c false) s = .next
    (settle (s)) ∧ exec (.dqsTracking c true) s = .next (settle (chanLost s c 2))) ∧
  (∀ (s : State) (c : Fin 24), readyChan s c = true →
    exec (.phyLockLost c) s = .next (settle (chanLost (raiseChan s c 14 none {}) c 3))) ∧
  (∀ (s u : State) (c : Fin 24) (x : Bool), readyChan s c = true → u = raiseChan s c (if x then 4 else 3) none {} →
    exec (.caParityOrWriteCrcError c x false) s = .next (settle (u.setChan c { u.chan c with retries := [u.clock] }))) ∧
  (∀ (s u : State) (c : Fin 24) (x : Bool), readyChan s c = true → u = raiseChan s c (if x then 4 else 3) none {} →
    15 ≤ ((u.chan c).retries.filter (fun t => decide (u.clock < t + msClocks))).length →
    exec (.caParityOrWriteCrcError c x true) s = .next (settle (chanStop (u.setChan c
      { u.chan c with retries := (u.chan c).retries.filter (fun t => decide (u.clock < t + msClocks)) ++ [u.clock] })
      c))) ∧
  (∀ (s : State) (c : Fin 24) (x a : Bool) (b : Fin 2) (k : Nat), readyChan s c = false →
    exec (.refreshWindowStart c) s = .next (settle (s)) ∧ exec (.dramCommandIssue c b k) s = .next (settle (s)) ∧ exec
      (.phyLockLost c) s = .next (settle (s)) ∧ exec (.caParityOrWriteCrcError c x a) s = .next (settle (s))) ∧
  (∀ (s : State) (c b : Nat) (e : RdEntry), issue s c b (.read e) = tick ((activate s c e.burst e.sluice).setChan c
    { (activate s c e.burst e.sluice).chan c with rdq := ((activate s c e.burst e.sluice).chan c).rdq.erase e })
    (bChan c) 0 1)

/-- DMC_CTL.EN enables a channel whose isolating source is clear and, cleared, loses a READY one with cause 6; CECLR
clears the correction count. START trains an enabled channel that is neither READY nor in training, and training ends with
its result unless the channel was disabled. A frequency change begins only in HOLD, on whole sets of READY channels with
the timing set trained, else it is refused with its code; it ends the HOLD step. A rebuild of a degraded parity set
starts, and ends with DMC_PARREB 0x3FF and source 13. sPPR needs a READY channel, hPPR a disabled one; a second is refused
with 4; its end reports the result. In TEST with no transition, with the key armed: OP 1 stores the burst that
DMC_TESTDATA and the four DMC_TESTCHK words give; OP 2 the data and the burst check word alone, the check symbols as the
code computes them; OP 3 reads the burst with its four check words; OP 4 reads it through the decoder. In any other mode,
or during a transition, the key is consumed and nothing else changes. -/
def Obligations.DramTrainingRepairAndTest : Prop :=
  (∀ (s : State) (p : Path) (c : Fin 24), MayWrite s p (Reg.DMC_CTL c) →
    isolated s (uChan c) = false ∨ canEnable s (uChan c) = true →
    exec (.dmcCtlEnWrite p c true) s = .next (settle (takeWrite ((unisolate s (uChan c)).setBit (Reg.DMC_CTL c) 0
      true) (Reg.DMC_CTL c)))) ∧
  (∀ (s : State) (p : Path) (c : Fin 24), MayWrite s p (Reg.DMC_CTL c) →
    readyChan (s.setBit (Reg.DMC_CTL c) 0 false) c = true →
    exec (.dmcCtlEnWrite p c false) s = .next (settle (takeWrite (chanLost (s.setBit (Reg.DMC_CTL c) 0 false) c 6)
      (Reg.DMC_CTL c)))) ∧
  (∀ (s : State) (p : Path) (c : Fin 24), MayWrite s p (Reg.DMC_CTL c) →
    exec (.dmcCeclr p c) s = .next (settle (s.setF (Reg.DMC_CECNT c) 15 0 0))) ∧
  (∀ (s : State) (p : Path) (c : Fin 24) (k : Fin 4), MayWriteGk s p (Reg.DMC_TRAIN c) →
    s.bit (Reg.DMC_CTL c) 0 = true → readyChan s c = false → (s.chan c).training = false →
    exec (.trainingStart p c k) s = .next (settle (trainStart (disarm s p) c k))) ∧
  (∀ (s : State) (p : Path) (c : Fin 24) (k : Fin 4), MayWriteGk s p (Reg.DMC_TRAIN c) →
    s.bit (Reg.DMC_CTL c) 0 = false ∨ readyChan s c = true ∨ (s.chan c).training = true →
    exec (.trainingStart p c k) s = .next (settle (disarm s p))) ∧
  (∀ (s : State) (c : Fin 24) (k : BitVec 4) (d : Bool), (s.chan c).training = true → s.bit (Reg.DMC_CTL c) 0 = true →
    exec (.trainingComplete c k d) s = .next (settle (followWarn (trainEnd s c k.toNat d) c))) ∧
  (∀ (s : State) (c : Fin 24) (k : BitVec 4) (d : Bool), (s.chan c).training = false →
    exec (.trainingComplete c k d) s = .next (settle (s))) ∧
  (∀ (s : State) (p : Path) (k : Fin 4) (m : BitVec 24), MayWriteGk s p Reg.DMC_FCHG →
    exec (.frequencyChange p k m) s = .next (settle (fchgStart ((disarm s p).setReg Reg.DMC_FCHG (BitVec.ofNat 32
      (k.val * 2 ^ 24 + m.toNat) &&& 0x03FFFFFF#32)) k m.toNat))) ∧
  (∀ (s : State) (k m : Nat), s.dram.fchg.isSome = true → fchgStart s k m = fchgRefuse s 5) ∧
  (∀ (s : State) (k m : Nat), s.dram.fchg = none → s.code ≠ Mode.hold → fchgStart s k m = fchgRefuse s 2) ∧
  (∀ (s : State) (k m : Nat), s.dram.fchg = none → s.code = Mode.hold → s.changing = false →
    (bitsOf 24 0 m).any (fun c => !readyChan s c) = true → fchgStart s k m = fchgRefuse s 3) ∧
  (∀ (s : State) (f : BitVec 24), s.dram.fchg = none → exec (.frequencyChangeComplete f) s = .next (settle (s))) ∧
  (∀ (s u : State) (f : BitVec 24) (k m : Nat), s.dram.fchg = some (k, m) →
    u = fchgChans s k (f.toNat &&& m) (bitsOf 24 0 m) →
    exec (.frequencyChangeComplete f) s = .next (settle (stepEnds (({ u with dram := { u.dram with fchg := none } } :
      State).setReg Reg.DMC_FSTAT (BitVec.ofNat 32 (b2n (f.toNat &&& m ≠ 0) * 2 ^ 28 + (f.toNat &&& m))))))) ∧
  (∀ (s : State) (p : Path) (c : Fin 24) (n : Nat), MayWrite s p (Reg.DMC_PARREB c) → readyChan s c = true →
    (s.chan c).rebuild.isSome = true → s.bit (Reg.DMC_PARREB c) 30 = false → setOfChan s c = some n →
    setPar s n = true → setOff s n = false →
    exec (.parityRebuildStart p c) s = .next (settle ((s.setReg (Reg.DMC_PARREB c) 0x40000000#32).setF (Reg.DMC_STAT
      c) 31 29 5))) ∧
  (∀ (s : State) (p : Path) (c : Fin 24), MayWrite s p (Reg.DMC_PARREB c) →
    readyChan s c = false ∨ (s.chan c).rebuild = none → exec (.parityRebuildStart p c) s = .next (settle (s))) ∧
  (∀ (s u : State) (c : Fin 24), s.bit (Reg.DMC_PARREB c) 30 = true →
    u = (s.setReg (Reg.DMC_PARREB c) 0x3FF#32).setChan c { s.chan c with rebuild := none } →
    exec (.parityRebuildComplete c) s = .next (settle (raiseChan (tick (u.setF (Reg.DMC_STAT c) 31 29 (if (u.chan
      c).selfRef then 3 else 2)) bSweep 6 (2 ^ log2c (u.setF (Reg.DMC_STAT c) 31 29 (if (u.chan c).selfRef then 3 else
      2)) c / 64 - (s.chan c).rebuild.getD 0)) c 13 none {}))) ∧
  (∀ (s : State) (c : Fin 24), s.bit (Reg.DMC_PARREB c) 30 = false →
    exec (.parityRebuildComplete c) s = .next (settle (s))) ∧
  (∀ (s u : State) (p : Path) (c : Fin 24) (k : Fin 16) (b : Fin 2) (a : Fin 32) (r : BitVec 17), MayWriteGk s p
    (Reg.DMC_PPR c) → u = (disarm s p).setReg (Reg.DMC_PPR c) (pprWord 1 k b a r &&& 0xFFF1FFFF#32) →
    (u.chan c).ppr.isSome = true →
    exec (.sppr p c k b a r) s = .next (settle (raise (u.setF (Reg.DMC_PPRSTAT c) 30 28 4) Src.pprFailed))) ∧
  (∀ (s u : State) (p : Path) (c : Fin 24) (k : Fin 16) (b : Fin 2) (a : Fin 32) (r : BitVec 17), MayWriteGk s p
    (Reg.DMC_PPR c) → u = (disarm s p).setReg (Reg.DMC_PPR c) (pprWord 1 k b a r &&& 0xFFF1FFFF#32) →
    (u.chan c).ppr = none → readyChan u c = true →
    exec (.sppr p c k b a r) s = .next (settle ((u.setReg (Reg.DMC_PPRSTAT c) 0x80000000#32).setChan c
      { u.chan c with ppr := some (pprWord 1 k b a r) }))) ∧
  (∀ (s u : State) (p : Path) (c : Fin 24) (k : Fin 16) (b : Fin 2) (a : Fin 32) (r : BitVec 17), MayWriteGk s p
    (Reg.DMC_PPR c) → u = (disarm s p).setReg (Reg.DMC_PPR c) (pprWord 1 k b a r &&& 0xFFF1FFFF#32) →
    (u.chan c).ppr = none → readyChan u c = false →
    exec (.sppr p c k b a r) s = .next (settle (raise (u.setF (Reg.DMC_PPRSTAT c) 30 28 2) Src.pprFailed))) ∧
  (∀ (s u : State) (p : Path) (c : Fin 24) (k : Fin 16) (b : Fin 2) (a : Fin 32) (r : BitVec 17), MayWriteGk s p
    (Reg.DMC_PPR c) → u = (disarm s p).setReg (Reg.DMC_PPR c) (pprWord 2 k b a r &&& 0xFFF1FFFF#32) →
    (u.chan c).ppr.isSome = true →
    exec (.hppr p c k b a r) s = .next (settle (raise (u.setF (Reg.DMC_PPRSTAT c) 30 28 4) Src.pprFailed))) ∧
  (∀ (s u : State) (p : Path) (c : Fin 24) (k : Fin 16) (b : Fin 2) (a : Fin 32) (r : BitVec 17), MayWriteGk s p
    (Reg.DMC_PPR c) → u = (disarm s p).setReg (Reg.DMC_PPR c) (pprWord 2 k b a r &&& 0xFFF1FFFF#32) →
    (u.chan c).ppr = none → readyChan u c = false → u.bit (Reg.DMC_CTL c) 0 = false → (u.chan c).training = false →
    exec (.hppr p c k b a r) s = .next (settle ((u.setReg (Reg.DMC_PPRSTAT c) 0x80000000#32).setChan c
      { u.chan c with ppr := some (pprWord 2 k b a r) }))) ∧
  (∀ (s u : State) (p : Path) (c : Fin 24) (k : Fin 16) (b : Fin 2) (a : Fin 32) (r : BitVec 17), MayWriteGk s p
    (Reg.DMC_PPR c) → u = (disarm s p).setReg (Reg.DMC_PPR c) (pprWord 2 k b a r &&& 0xFFF1FFFF#32) →
    (u.chan c).ppr = none → readyChan u c = true →
    exec (.hppr p c k b a r) s = .next (settle (raise (u.setF (Reg.DMC_PPRSTAT c) 30 28 2) Src.pprFailed))) ∧
  (∀ (s u : State) (c : Fin 24) (v : Word) (l : List Nat), (s.chan c).ppr = some v →
    u = (s.setChan c { s.chan c with ppr := none }).setReg (Reg.DMC_PPRSTAT c) 0 → fld v 31 30 = 1 →
    exec (.pprComplete c 0 l) s = .next (settle ((rowBursts u c v).foldl (fun s k => s.restoreBurst (l.contains k) k)
      u))) ∧
  (∀ (s u : State) (c : Fin 24) (v : Word) (r : Fin 4) (l : List Nat), (s.chan c).ppr = some v →
    u = (s.setChan c { s.chan c with ppr := none }).setReg (Reg.DMC_PPRSTAT c) (BitVec.ofNat 32 (r.val * 2 ^ 28)) →
    fld v 31 30 = 2 → r.val ≠ 0 →
    exec (.pprComplete c r l) s = .next (settle (raise (loseBursts u (rowBursts u c v)) Src.pprFailed))) ∧
  (∀ (s : State) (c : Fin 24) (r : Fin 4) (l : List Nat), (s.chan c).ppr = none →
    exec (.pprComplete c r l) s = .next (settle (s))) ∧
  (∀ (s u : State) (p : Path) (c : Fin 24), MayWriteGk s p (Reg.DMC_TESTCTL c) → s.code = Mode.test →
    s.changing = false → u = (disarm s p).setF (Reg.DMC_TESTCTL c) 2 0 1 →
    exec (.testWriteRaw p c) s = .next (settle (u.setBurst (burstKey c (testOffset u c)) (rawBurst (testData u c)
      (u.reg (Reg.DMC_TESTCHK c 3)) (some (u.reg (Reg.DMC_TESTCHK c 0), u.reg (Reg.DMC_TESTCHK c 1), u.reg
      (Reg.DMC_TESTCHK c 2))))))) ∧
  (∀ (s u : State) (p : Path) (c : Fin 24), MayWriteGk s p (Reg.DMC_TESTCTL c) → s.code = Mode.test →
    s.changing = false → u = (disarm s p).setF (Reg.DMC_TESTCTL c) 2 0 2 →
    exec (.testWriteBc p c) s = .next (settle (u.setBurst (burstKey c (testOffset u c)) (rawBurst (testData u c)
      (u.reg (Reg.DMC_TESTCHK c 3)) none)))) ∧
  (∀ (s u : State) (p : Path) (c : Fin 24), MayWriteGk s p (Reg.DMC_TESTCTL c) → s.code = Mode.test →
    s.changing = false → u = (disarm s p).setF (Reg.DMC_TESTCTL c) 2 0 3 →
    exec (.testReadRaw p c) s = .next (settle ((((putTest u c (u.burst (burstKey c (testOffset u c))).raw (checkWords
      (u.burst (burstKey c (testOffset u c)))).2.2.2).setReg (Reg.DMC_TESTCHK c 0) (checkWords (u.burst (burstKey c
      (testOffset u c)))).1).setReg (Reg.DMC_TESTCHK c 1) (checkWords (u.burst (burstKey c (testOffset u
      c)))).2.1).setReg (Reg.DMC_TESTCHK c 2) (checkWords (u.burst (burstKey c (testOffset u c)))).2.2.1))) ∧
  (∀ (s u : State) (p : Path) (c : Fin 24), MayWriteGk s p (Reg.DMC_TESTCTL c) → s.code = Mode.test →
    s.changing = false → u = (disarm s p).setF (Reg.DMC_TESTCTL c) 2 0 4 →
    exec (.testReadDecode p c) s = .next (settle (testDecode u c (burstKey c (testOffset u c))))) ∧
  (∀ (s : State) (p : Path) (c : Fin 24), MayWriteGk s p (Reg.DMC_TESTCTL c) →
    s.code ≠ Mode.test ∨ s.changing = true →
    exec (.testWriteRaw p c) s = .next (settle (disarm s p)) ∧ exec (.testWriteBc p c) s = .next (settle (disarm s p))
      ∧ exec (.testReadRaw p c) s = .next (settle (disarm s p)) ∧ exec (.testReadDecode p c) s = .next (settle (disarm
      s p)))

/-- COUNTER_CLEAR, at the end of its clock, zeroes every counter and restarts the samplers. A local schedule is refused
with RES 3 under a pool schedule and 1 when its tide has passed, else it is pending with its period; a pool schedule is
refused with 2 at a device that is no master and 1 less than 12,500 tides ahead, else SNAP goes to the members and is
taken here; cancel drops it. SNAPSHOT_LATCH at its tide latches the counters, or skips while a copy runs; the copy's end
shows the latches and their tide. A sampler whose counter has advanced by its period carries the excess over and records;
a sample that no request meets in 4,096 clocks is recorded as such. Pop and clear take records from the FIFO. -/
def Obligations.SnapshotsAndSamplers : Prop :=
  (∀ (s : State) (p : Path), MayWrite s p Reg.TEL_CTL →
    exec (.counterClear p) s = .next (settle ({ s with tel := { s.tel with clr := true } }))) ∧
  (∀ (s : State), s.tel.clr = true →
    telClear s = smpRestartAll { s with tel := { s.tel with cnt := [], clr := false } } (List.range 8)) ∧
  (∀ (s u : State) (p : Path) (k : Fin 64), MayWrite s p Reg.TEL_SNAPCTL →
    u = s.setReg Reg.TEL_SNAPCTL (BitVec.ofNat 32 (snapPeriod k.val)) → poolSched u = true →
    exec (.snapshotScheduleLocal p k) s = .next (settle (snapRes u 3))) ∧
  (∀ (s u : State) (p : Path) (k : Fin 64), MayWrite s p Reg.TEL_SNAPCTL →
    u = s.setReg Reg.TEL_SNAPCTL (BitVec.ofNat 32 (snapPeriod k.val)) → poolSched u = false → snapAt u ≤ u.tide →
    exec (.snapshotScheduleLocal p k) s = .next (settle (snapRes u 1))) ∧
  (∀ (s u : State) (p : Path) (k : Fin 64), MayWrite s p Reg.TEL_SNAPCTL →
    u = s.setReg Reg.TEL_SNAPCTL (BitVec.ofNat 32 (snapPeriod k.val)) → poolSched u = false → u.tide < snapAt u →
    exec (.snapshotScheduleLocal p k) s = .next (settle (setSched (snapRes u 0) (some
      { tide := snapAt u, period := u.fld Reg.TEL_SNAPCTL 5 0, pool := false })))) ∧
  (∀ (s u : State) (p : Path) (k : Fin 64), MayWrite s p Reg.TEL_SNAPCTL →
    u = s.setReg Reg.TEL_SNAPCTL (BitVec.ofNat 32 (snapPeriod k.val)) → isMaster u = false →
    exec (.snapshotSchedulePool p k) s = .next (settle (snapRes u 2))) ∧
  (∀ (s u : State) (p : Path) (k : Fin 64), MayWrite s p Reg.TEL_SNAPCTL →
    u = s.setReg Reg.TEL_SNAPCTL (BitVec.ofNat 32 (snapPeriod k.val)) → isMaster u = true →
    snapAt u < u.tide + 12500 → exec (.snapshotSchedulePool p k) s = .next (settle (snapRes u 1))) ∧
  (∀ (s u : State) (p : Path) (k : Fin 64), MayWrite s p Reg.TEL_SNAPCTL →
    u = s.setReg Reg.TEL_SNAPCTL (BitVec.ofNat 32 (snapPeriod k.val)) → isMaster u = true →
    u.tide + 12500 ≤ snapAt u →
    exec (.snapshotSchedulePool p k) s = .next (settle (snapSchedule (poolSendAll (snapRes u 0) 0x12 (natBytes 8
      (snapAt u) ++ [u.fld Reg.TEL_SNAPCTL 5 0]) (members u)) (snapAt u) (u.fld Reg.TEL_SNAPCTL 5 0)))) ∧
  (∀ (s u : State) (p : Path) (k : Nat), MayWrite s p Reg.TEL_SNAPCTL → k = s.fld Reg.TEL_SNAPCTL 5 0 →
    u = s.setReg Reg.TEL_SNAPCTL (BitVec.ofNat 32 (snapPeriod k)) →
    exec (.snapshotCancel p) s = .next (settle (setSched (snapRes u 0) none))) ∧
  (∀ (s : State) (x : Sched), s.tel.sched = some x → x.tide ≤ s.tide →
    exec .snapshotLatch s = .next (settle (setSched (snapTake s x.tide) (schedNext s x)))) ∧
  (∀ (s : State) (x : Sched), s.tel.sched = some x → s.tide < x.tide → exec .snapshotLatch s = .next (settle (s))) ∧
  (∀ (s : State) (t : Nat), s.tel.copy = none →
    snapTake s t = { s with tel := { s.tel with latches := s.tel.cnt, copy := some (t, s.clock) } }.setBit
      Reg.TEL_SNAPSTAT 30 true) ∧
  (∀ (s : State) (t : Nat), s.tel.copy.isSome = true → snapTake s t = raiseTel (s.hwBit Reg.TEL_SNAPSTAT 25) 1515 0) ∧
  (∀ (s u : State) (t c : Nat), s.tel.copy = some (t, c) →
    u = (({ s with tel := { s.tel with snap := s.tel.latches, latches := [], copy := none } }.setReg
      Reg.TEL_SNAPTIDE_LO (BitVec.ofNat 32 t)).setReg Reg.TEL_SNAPTIDE_HI (BitVec.ofNat 32 (t / 2 ^ 32))).setBit
      Reg.TEL_SNAPSTAT 30 false →
    exec .snapshotCopyComplete s = .next (settle (raiseTel (tick (u.setF Reg.TEL_SNAPSTAT 15 0 ((u.fld
      Reg.TEL_SNAPSTAT 15 0 + 1) % 65536)) bTide 6 1) 1514 0))) ∧
  (∀ (s : State), s.tel.copy = none → exec .snapshotCopyComplete s = .next (settle (s))) ∧
  (∀ (s : State) (n : Fin 8), (liveCnt s (smpCnt s n) + 2 ^ 48 - smGet 0 s.tel.base n) % 2 ^ 48 < smpPer s n ∨ smpEn s
    n = false → exec (.samplerCrossing n) s = .next (settle (s))) ∧
  (∀ (s : State) (n : Fin 8) (u : State) (m b : Nat), smpEn s n = true → m = smpCnt s n → b = smGet 0 s.tel.base n →
    smpPer s n ≤ (liveCnt s m + 2 ^ 48 - b) % 2 ^ 48 → m / 8 < 104 →
    u = { s with tel := { s.tel with base := smSet 0 s.tel.base n ((b + smpPer s n) % 2 ^ 48) } } →
    exec (.samplerCrossing n) s = .next (settle (pushSample u n 0 0 0 0))) ∧
  (∀ (s : State) (n : Fin 8) (e : Nat × Nat), ExpiryActs s 1 (some (e.2 + 4096)) →
    s.tel.waiting.find? (fun e => decide (e.1 = n.val ∧ e.2 + 4096 ≤ s.clock)) = some e →
    exec (.sampleNoRequestTimeout n) s = .next (settle (pushSample
      { s with tel := { s.tel with waiting := s.tel.waiting.erase e } } n 3 0 0 0))) ∧
  (∀ (s : State) (n : Fin 8), s.tel.waiting.find? (fun e => decide (e.1 = n.val ∧ e.2 + 4096 ≤ s.clock)) = none →
    exec (.sampleNoRequestTimeout n) s = .next (settle (s))) ∧
  (∀ (s : State) (p : Path), MayWrite s p Reg.TEL_SMPPOP →
    exec (.samplePop p) s = .next (settle ({ s with tel := { s.tel with fifo := s.tel.fifo.tail } }.setF
      Reg.TEL_SMPSTAT 7 0 s.tel.fifo.tail.length))) ∧
  (∀ (s : State) (p : Path), MayWrite s p Reg.TEL_SMPPOP →
    exec (.sampleClear p) s = .next (settle (({ s with tel := { s.tel with fifo := [] } }.setF Reg.TEL_SMPSTAT 31 16
      0).setF Reg.TEL_SMPSTAT 7 0 0))) ∧
  (∀ (s : State) (p : Path) (n : Fin 8) (v : Word), MayWrite s p (Reg.TEL_SMPCTL n) →
    exec (.samplerConfigWrite p n v) s = .next (settle (smpRestart (s.setReg (Reg.TEL_SMPCTL n) (v &&& 0x800007FF#32))
      n)))

/-- FAULT_ASSERTION of a present source is reported by its unit's rule, its array and place counted; a parity error of a
replay buffer starts a full retrain, one of a lay-by drops its oldest frame, counted in LOST; a reserved source, or a
device in reset, does nothing. FLT_FORCE (key armed) asserts once each source of a bit written 1, forced, by its path; one
that a unit has asserted in this clock counts once. FLT_STICKY clears the bits written 1 that no unit has set in the same
clock, and a level source that still holds asserts again. CAPPOP.POP removes the oldest capture, CLR empties the FIFO and
its overflow count, each before the captures of its clock. An event record goes to an enumerated function on a READY port,
marked as sent; with none unsent, or none that can take it, nothing happens; the oldest sideband message is sent. -/
def Obligations.FaultCollector : Prop :=
  (∀ (s : State) (c : Fin 1536) (i : Info) (a : Nat) (x : Bool) (k : Nat), s.inReset = false → srcPresent c = true →
    exec (.faultAssertion c i none) s = .next (settle (report s c { i with forced := false })) ∧ exec (.faultAssertion
      c i (some (a, x, k))) s = .next (settle (countPlace (bufferParity (report s c { i with forced := false }) c a) a
      x k))) ∧
  (∀ (s : State) (l : Nat), l < 32 →
    bufferParity s (Src.link l 7) (320 + l) = linkRetrain s l 5 ∧ ((s.link l).layby = [] →
    bufferParity s (Src.link l 7) (352 + l) = s) ∧ ((s.link l).layby ≠ [] →
    bufferParity s (Src.link l 7) (352 + l) = linkMirror ((s.setLink l
      { s.link l with layby := (s.link l).layby.tail }).setF (Reg.CNV_CNT l) 15 0 (satAdd 0xFFFF (s.fld (Reg.CNV_CNT
      l) 15 0) 1)) l)) ∧
  (∀ (s : State) (c : Fin 1536) (i : Info) (a : Option (Nat × Bool × Nat)), s.inReset = true ∨ srcPresent c = false →
    exec (.faultAssertion c i a) s = .next (settle (s))) ∧
  (∀ (s : State) (p : Path) (n : Fin 48) (v : Word), MayWriteGk s p (Reg.FLT_FORCE n) →
    exec (.faultForce p n v) s = .next (settle (forceAll (disarm s p)
      { forced := true, mkind := 7, mid := pathCode p } ((bitsOf 32 0 v.toNat).map (fun k => 32 * n.val + k))))) ∧
  (∀ (s : State) (i : Info) (a : Nat) (l : List Nat), forceAll s i [] = s ∧ (bit (smGet 0 s.acc.hwSet (stickyOff a))
    (a % 32) = false →
    forceAll s i (a :: l) = forceAll (raiseWith s a i) i l) ∧ (bit (smGet 0 s.acc.hwSet (stickyOff a)) (a % 32) = true
      → forceAll s i (a :: l) = forceAll (markForced s a) i l)) ∧
  (∀ (s : State) (p : Path) (n : Fin 48) (v : Word), MayWrite s p (Reg.FLT_STICKY n) →
    exec (.stickyClear p n v) s = .next (settle (levels (s.setReg (Reg.FLT_STICKY n) (s.reg (Reg.FLT_STICKY n) &&& ~~~
      (v &&& ~~~ smGet 0 s.acc.hwSet (Reg.FLT_STICKY n))))))) ∧
  (∀ (s : State) (p : Path), MayWrite s p Reg.FLT_CAPPOP →
    exec (.capturePop p) s = .next (settle (popCapture s)) ∧ exec (.captureClear p) s = .next (settle (clearCaptures
      s))) ∧
  (∀ (s : State) (l : List CapRec), l = capNow s ++ s.flt.lostNow →
    (popCapture s).flt.fifo = (capOld s).tail ++ l.take (64 - (capOld s).tail.length) ∧ (clearCaptures s).flt.fifo =
      l.take 64 ∧ (clearCaptures s).flt.ovf = 0) ∧
  (∀ (s : State), s.flt.now = 0 → s.flt.lostNow = [] →
    popCapture s = { s with flt := { s.flt with fifo := s.flt.fifo.tail } } ∧ clearCaptures s =
      { s with flt := { s.flt with fifo := [], ovf := 0 } }) ∧
  (∀ (s : State) (l : Fin 320) (k : Fin 4) (r : EvRec), (smGet [] s.evt.logs (4 * l.val + k.val)).find? (fun r =>
    !r.sent) = some r → canDeliver s l = true →
    exec (.eventRecordDelivery l k) s = .next (settle
      (({ s with evt := { s.evt with logs := smSet [] s.evt.logs (4 * l.val + k.val) (markSent (smGet [] s.evt.logs (4 * l.val + k.val))) } }).emit
      (.event l r.src r.cls (wantsIrq s l k))))) ∧
  (∀ (s : State) (l : Fin 320) (k : Fin 4), (smGet [] s.evt.logs (4 * l.val + k.val)).find? (fun r => !r.sent) = none
    ∨ canDeliver s l = false → exec (.eventRecordDelivery l k) s = .next (settle (s))) ∧
  (∀ (s : State) (r : EvRec) (l : List EvRec), s.evt.sbq = r :: l →
    exec .sidebandEventSend s = .next (settle (({ s with evt := { s.evt with sbq := l } }).emit (.sbEvent r.src
      r.cls)))) ∧
  (∀ (s : State), s.evt.sbq = [] → exec .sidebandEventSend s = .next (settle (s)))

/-- START with BUSY clear clears the rake's counters and records and begins at its first page; with BUSY set nothing
starts. RAKE_PAGE in a mode in which the rake works reads the bursts of its next page, or counts a page that it must skip;
past the range, on a held page, on one that waits for its set or its rank, in a pause or in another mode it waits. At the
range's end BUSY clears, its source is raised and a Scan Media command ends. A fuse record by its complement pair is
refused with RES 1 outside HOLD or during a transition or step, 2 for a spare in use, 3 with all 256 used; else the repair
runs as a HOLD step and ends verified, counted, or with RES 4. -/
def Obligations.RakeAndFieldRepair : Prop :=
  (∀ (s : State) (p : Path) (v : Word) (u : State), MayWrite s p Reg.RAKE_CTL →
    u = s.setF Reg.RAKE_CTL 3 1 (fld v 3 1) → bit v 0 = true → u.bit Reg.RAKE_STAT 31 = false →
    exec (.rakeStart p v) s = .next (settle
      ({ (clearRegs (rakeRewrites u) rakeRegs).setBit Reg.RAKE_STAT 31 true with rake := { next := rakeFirst ((clearRegs (rakeRewrites u) rakeRegs).setBit Reg.RAKE_STAT 31 true), last := rakeLast ((clearRegs (rakeRewrites u) rakeRegs).setBit Reg.RAKE_STAT 31 true) } }))) ∧
  (∀ (s : State) (p : Path) (v : Word) (u : State), MayWrite s p Reg.RAKE_CTL →
    u = s.setF Reg.RAKE_CTL 3 1 (fld v 3 1) → bit v 0 = false ∨ u.bit Reg.RAKE_STAT 31 = true →
    exec (.rakeStart p v) s = .next (settle (u))) ∧
  (∀ (s : State) (e : List (List (Nat × Word))), rakeRuns s = false ∨ s.rake.last < s.rake.next ∨ heldPage s
    s.rake.next = true ∨ paused s = true ∨ rakeWaits s s.rake.next = true → exec (.rakePage e) s = .next (settle (s))) ∧
  (∀ (s u : State) (e : List (List (Nat × Word))), rakeRuns s = true → s.rake.next ≤ s.rake.last →
    heldPage s s.rake.next = false → paused s = false → rakeWaits s s.rake.next = false →
    u = (if mapServed { s with rake := { s.rake with next := s.rake.next + 1 } } s.rake.next then writeBlock
      { s with rake := { s.rake with next := s.rake.next + 1 } } s.rake.next else
      { s with rake := { s.rake with next := s.rake.next + 1 } }) → pageServable u s.rake.next = true →
    eState (storedEntry u s.rake.next) ≤ 2 → malformed u (storedEntry u s.rake.next) = false →
    exec (.rakePage e) s = .next (settle (rakeBursts (charge u false 253 (runLocs (storedEntry u s.rake.next)).length
      .amber) s.rake.next (storedEntry u s.rake.next) 0 (runLocs (storedEntry u s.rake.next)) e))) ∧
  (∀ (s u : State), rakeRuns s = true → s.rake.last < s.rake.next →
    u = raise (s.setBit Reg.RAKE_STAT 31 false) Src.rakeDone → (u.port.bg.map (fun e => e.2) = some 0x4304 →
    exec .rakeDone s = .next (settle ({ u with port := { u.port with bg := none } }))) ∧ (u.port.bg.map (fun e => e.2)
      ≠ some 0x4304 → exec .rakeDone s = .next (settle (u)))) ∧
  (∀ (s : State), rakeRuns s = false ∨ s.rake.next ≤ s.rake.last → exec .rakeDone s = .next (settle (s))) ∧
  (∀ (s : State) (p : Path) (v : Word) (u : State), MayWriteGp s p (Reg.GEN_FUSEPROG 0) →
    u = s.setReg (Reg.GEN_FUSEPROG 0) v → u.code ≠ Mode.hold ∨ u.changing = true ∨ u.mode.step.isSome = true →
    exec (.fuseRepair p v) s = .next (settle (fuseResult u 1))) ∧
  (∀ (s : State) (p : Path) (v : Word) (u : State), MayWriteGp s p (Reg.GEN_FUSEPROG 0) →
    u = s.setReg (Reg.GEN_FUSEPROG 0) v → u.code = Mode.hold → u.changing = false → u.mode.step = none →
    u.sec.otp.fuses.any (fun r => decide (fld r 31 16 = fld v 31 16)) = true →
    exec (.fuseRepair p v) s = .next (settle (fuseResult u 2))) ∧
  (∀ (s : State) (p : Path) (v : Word) (u : State), MayWriteGp s p (Reg.GEN_FUSEPROG 0) →
    u = s.setReg (Reg.GEN_FUSEPROG 0) v → u.code = Mode.hold → u.changing = false → u.mode.step = none →
    u.sec.otp.fuses.any (fun r => decide (fld r 31 16 = fld v 31 16)) = false → 256 ≤ u.sec.otp.fuses.length →
    exec (.fuseRepair p v) s = .next (settle (fuseResult u 3))) ∧
  (∀ (s : State) (p : Path) (v : Word) (u : State), MayWriteGp s p (Reg.GEN_FUSEPROG 0) →
    u = s.setReg (Reg.GEN_FUSEPROG 0) v → u.code = Mode.hold → u.changing = false → u.mode.step = none →
    u.sec.otp.fuses.any (fun r => decide (fld r 31 16 = fld v 31 16)) = false → u.sec.otp.fuses.length < 256 →
    exec (.fuseRepair p v) s = .next (settle
      ({ u.setBit Reg.GEN_FUSESTAT 31 true with repair := { u.repair with run := some v }, mode := { u.mode with step := some 1 } }))) ∧
  (∀ (s u : State) (v : Word), s.repair.run = some v →
    u = { s.setBit Reg.GEN_FUSESTAT 31 false with repair := { s.repair with run := none } } →
    exec (.fuseRepairComplete true) s = .next (settle (stepEnds (fuseResult
      ({ u with sec := { u.sec with otp := { u.sec.otp with fuses := u.sec.otp.fuses ++ [v] } } }.setF
      Reg.GEN_FUSESTAT 8 0 (u.sec.otp.fuses.length + 1)) 0))) ∧ exec (.fuseRepairComplete false) s = .next (settle
      (stepEnds (raise (fuseResult u 4) Src.fuseFailed)))) ∧
  (∀ (s : State) (b : Bool), s.repair.run = none → exec (.fuseRepairComplete b) s = .next (settle (s)))

/-- A sluice window whose number is new opens, and one already open does not; DELIVERABLE_RECOMPUTE keeps the new D for
the next window, the rates as they stand in HOLD; urgency that has stood for 100 us is raised once. A housekeeping round
that has ended, or that a step of the tide has cut short, runs the model with the limits as they stood before the writes
of its clock, and not before its end, out of reset and with the function READY; the pause step takes effect at its tide,
and D follows. PLL_LOCK and D2D_TRAINING_COMPLETE make their units READY; a lost D2D module counts down, and the last one
of a link isolates it or, of the power die, sends the device to SAFE. A boundary-scan instruction changes the JTAG port
alone. -/
def Obligations.RoundsWindowsAndClocks : Prop :=
  (∀ (s : State), s.tide / 2 ^ wlog s = s.slu.window → exec .sluiceWindowOpen s = .next (settle (s))) ∧
  (∀ (s : State), s.tide / 2 ^ wlog s ≠ s.slu.window → exec .sluiceWindowOpen s = .next (settle (windowOpen s))) ∧
  (∀ (s u : State), u = (if s.code = Mode.hold then s else takeRates s) →
    exec .deliverableRecompute s = .next (settle
      ({ u with slu := { u.slu with pendD := some (deliverable u (u.fld Reg.SLU_CTL 15 8)) } }))) ∧
  (∀ (s u : State), ExpiryActs s 1 (if urgNow s then some s.clock else none) → u = followUrgc s (List.range 4) →
    urgDue u = [] → exec .urgencyPersistent s = .next (settle (u))) ∧
  (∀ (s u : State), ExpiryActs s 1 (if urgNow s then some s.clock else none) → u = followUrgc s (List.range 4) →
    urgDue u ≠ [] →
    exec .urgencyPersistent s = .next (settle (raiseSlu
      { u with slu := { u.slu with urgTold := u.slu.urgTold ++ urgDue u } } 5 none))) ∧
  (∀ (s : State) (l : List (Option (BitVec 16))), readyHk s = false ∨ s.inReset = true ∨ s.hk.cut = none ∧ (s.tide <
    625000 ∨ s.hk.round = some (s.tide / 625000)) → exec (.housekeepingRound l) s = .next (settle (s))) ∧
  (∀ (s u v : State) (l : List (Option (BitVec 16))) (k : Nat), readyHk s = true → s.inReset = false →
    k = s.tide / 625000 → s.hk.cut.isSome = true ∨ (k ≠ 0 ∧ s.hk.round ≠ some k) →
    u = { s with hk := { s.hk with round := some k, cut := none } } →
    v = showModel (chanHeat (limitsBefore u (fun u => setPause (averaged (thermal (readings u 0 384 l)))
      (s.hk.cut.getD (625000 * k)))) (List.range 24)) →
    exec (.housekeepingRound l) s = .next (settle (tick (v.setF Reg.HK_STAT 15 0 (v.fld Reg.HK_STAT 15 0 + 1)) bHouse
      0 1))) ∧
  (∀ (s : State) (f : State →
    State), s.hk.before = none ∨ s.hk.before.map (fun x => decide (x.1 = s.clock)) = some false →
    limitsBefore s f = f s) ∧
  (∀ (s : State) (f : State → State) (r : Word × Word × Word), s.hk.before = some (s.clock, r) →
    limitsBefore s f = setLimits (f (setLimits s r)) (limitsNow s)) ∧
  (∀ (s : State), s.hk.pend = none ∨ (s.hk.pend.map (fun t => decide (s.tide < t))) = some true →
    exec .pauseStepApply s = .next (settle (s))) ∧
  (∀ (s u : State) (t : Nat), s.hk.pend = some t → t ≤ s.tide →
    u = ({ s with hk := { s.hk with pend := none } }.setF Reg.HK_STAT 21 16 s.hk.step).setF Reg.SLU_DELIV 21 16
      s.hk.step → s.fld Reg.HK_STAT 21 16 ≠ s.hk.step →
    exec .pauseStepApply s = .next (settle
      ({ u with slu := { u.slu with pendD := some (deliverable u (u.fld Reg.SLU_CTL 15 8)) } }))) ∧
  (∀ (s u : State), s.tideU.pll = false → s.mode.resetLow = none → s.mode.supplyLow = false →
    u = { s with tideU := { s.tideU with pll := true, phase := 0 } } →
    exec .pllLock s = .next (settle (if s.code = Mode.boot ∨ !readyTmu s then u else setReadyTide u true))) ∧
  (∀ (s : State), s.tideU.pll = true → exec .pllLock s = .next (settle (s))) ∧
  (∀ (s : State) (d : Fin 3), s.mode.resetLow = none → s.mode.supplyLow = false →
    exec (.d2dTrainingComplete d) s = .next (settle (if d = 2 then setReadyHk (setReadyD2d s d true) true else
      setReadyD2d s d true))) ∧
  (∀ (s : State) (d : Fin 3), 1 < d2dMods s d →
    exec (.d2dModuleLost d) s = .next (settle (raise (setD2dMods s d (d2dMods s d - 1)) (1476 + d.val)))) ∧
  (∀ (s u : State) (d : Fin 3), d2dMods s d = 1 → u = setReadyD2d (setD2dMods s d 0) d false →
    exec (.d2dModuleLost d) s = .next (settle (if d = 2 then safeReact (raise u 1480) else isolate (raise u (1478 +
      d.val)) (1478 + d.val) {}))) ∧
  (∀ (s : State) (d : Fin 3), d2dMods s d = 0 → exec (.d2dModuleLost d) s = .next (settle (s))) ∧
  (∀ (s : State) (b : Bool), exec (.boundaryScanInstruction b) s = .next (settle ({ s with scan := b })))

/-- BOOT_IMAGE_CHECK, while the boot ROM checks images, checks the next: one that passes runs; one that fails raises its
source, and when both have failed no firmware runs. The NOR is erased and programmed by the sideband path in recovery
alone, one operation at a time. A token command does nothing in BOOT, ends with RESULT 12 while one runs, else begins with
the checks' result, END without a token by life-cycle state 0 or 1 and a free row. Its end gives RESULT: a failed check
raises "token rejected", OTP that does not take it 11, else it is applied, with a warm reset of cause 4 when the state
changes. An advance of a counter is refused with 4, 1, 2 and 3 in turn, 5 when OTP fails, else done. A write of PAL_FWCTL
with no firmware running only stores CMD. Staging takes the NOR slot that PREF does not name as its image, or sets RESULT
5 while a firmware command runs or the staging region is claimed. The swap is refused with RESULT 2 outside HOLD or in a
transition, 3 with nothing staged, 4 while pages move, 5 while a command or a HOLD step runs; else it runs as a HOLD step.
Confirmation writes TRY 0 and clears the trial bit, or, where the NOR fails (a free value), sets RESULT 6. A staging that
ends with an image that fails its checks sets RESULT 1, with a NOR that failed 6, else the boot header names the image; a
swap that ends gives every core the staged firmware and restarts all. With no command of its kind running, an end changes
nothing. -/
def Obligations.BootTokensAndFirmware : Prop :=
  (∀ (s : State), bootChecking s = false → exec .bootImageCheck s = .next (settle (s))) ∧
  (∀ (s u v : State) (i : Nat), bootChecking s = true → nextImage s = (u, i) →
    v = setBootRes u i (imageCheck u true (norImage u i)) → (imageCheck u true (norImage u i) = 1 →
    exec .bootImageCheck s = .next (settle (bootRuns v i (norImage u i)))) ∧ (imageCheck u true (norImage u i) ≠ 1 →
    (bootRes (raise v Src.bootRejected) 0 ≠ 0 ∧ bootRes (raise v Src.bootRejected) 1 ≠ 0 →
    exec .bootImageCheck s = .next (settle (bootFails (raise v Src.bootRejected)))) ∧ (bootRes (raise v
      Src.bootRejected) 0 = 0 ∨ bootRes (raise v Src.bootRejected) 1 = 0 →
    exec .bootImageCheck s = .next (settle (raise v Src.bootRejected))))) ∧
  (∀ (s u : State) (a : BitVec 24), s.inReset = false → recovering s = true →
    u = s.setF Reg.SEC_FLADDR 23 0 (a.toNat / 4 * 4) → writeRefused s .sideband Reg.SEC_FLADDR = false →
    (u.sec.flash = none →
    exec (.flashErase .sideband a) s = .next (settle
      ({ u.setBit Reg.SEC_FLADDR 30 true with sec := { u.sec with flash := some (true, a.toNat / 4096 * 4096, 0) } })))
      ∧ (u.sec.flash.isSome = true → exec (.flashErase .sideband a) s = .next (settle (u)))) ∧
  (∀ (s u : State) (v : Word), s.inReset = false → recovering s = true →
    writeRefused s .sideband Reg.SEC_FLDATA = false → s.sec.flash = none →
    u = (s.setF Reg.SEC_FLADDR 23 0 (s.fld Reg.SEC_FLADDR 23 0 + 4)).setBit Reg.SEC_FLADDR 30 true →
    exec (.flashProgram .sideband v) s = .next (settle
      ({ u with sec := { u.sec with flash := some (false, s.fld Reg.SEC_FLADDR 23 0, v) } }))) ∧
  (∀ (s : State) (v : Word), s.inReset = false → recovering s = true →
    writeRefused s .sideband Reg.SEC_FLDATA = false → s.sec.flash.isSome = true →
    exec (.flashProgram .sideband v) s = .next (settle (s))) ∧
  (∀ (s : State) (p : Path) (a : BitVec 24) (v : Word), s.inReset = false → recovering s = false ∨ p ≠ .sideband →
    exec (.flashErase p a) s = .next (settle (refuse s p true Reg.SEC_FLADDR)) ∧ exec (.flashProgram p v) s = .next
      (settle (refuse s p true Reg.SEC_FLDATA))) ∧
  (∀ (s u : State) (e : Bool) (a : Nat) (v : Word), s.sec.flash = some (e, a, v) →
    u = { s with sec := { s.sec with flash := none } }.setBit Reg.SEC_FLADDR 30 false →
    exec .flashOperationComplete s = .next (settle (putNor u a (if e then List.replicate 4096 0xFF else toBytes 4
      v.toNat)))) ∧
  (∀ (s : State), s.sec.flash = none → exec .flashOperationComplete s = .next (settle (s))) ∧
  (∀ (s : State) (p : Path) (v : Word) (w : Nat), MayWrite s p Reg.SEC_TOKDATA → w = s.fld Reg.SEC_TOKADDR 9 0 →
    exec (.tokenBufferWrite p v) s = .next (settle
      ({ s.setF Reg.SEC_TOKADDR 9 0 ((w + 1) % 1024) with sec := { s.sec with token := putBytes s.sec.token (4 * w) v.toNat 4 } }))) ∧
  (∀ (s u : State) (p : Path), MayWriteGp s p (Reg.SEC_TOKCMD 0) → u = s.setF (Reg.SEC_TOKCMD 0) 31 30 1 →
    u.code = Mode.boot → exec (.tokenCommand p) s = .next (settle (u))) ∧
  (∀ (s u : State) (p : Path), MayWriteGp s p (Reg.SEC_TOKCMD 0) → u = s.setF (Reg.SEC_TOKCMD 0) 31 30 1 →
    u.code ≠ Mode.boot → u.bit Reg.SEC_TOKSTAT 31 = true →
    exec (.tokenCommand p) s = .next (settle (u.setF Reg.SEC_TOKSTAT 30 27 12))) ∧
  (∀ (s u : State) (p : Path), MayWriteGp s p (Reg.SEC_TOKCMD 0) → u = s.setF (Reg.SEC_TOKCMD 0) 31 30 1 →
    u.code ≠ Mode.boot → u.bit Reg.SEC_TOKSTAT 31 = false →
    exec (.tokenCommand p) s = .next (settle (tokBegin u (tokenCheck u)))) ∧
  (∀ (s u : State) (p : Path), MayWriteGp s p (Reg.SEC_TOKCMD 0) → u = s.setF (Reg.SEC_TOKCMD 0) 31 30 2 →
    u.code = Mode.boot → exec (.endWithoutToken p) s = .next (settle (u))) ∧
  (∀ (s u : State) (p : Path), MayWriteGp s p (Reg.SEC_TOKCMD 0) → u = s.setF (Reg.SEC_TOKCMD 0) 31 30 2 →
    u.code ≠ Mode.boot → u.bit Reg.SEC_TOKSTAT 31 = true →
    exec (.endWithoutToken p) s = .next (settle (u.setF Reg.SEC_TOKSTAT 30 27 12))) ∧
  (∀ (s u : State) (p : Path), MayWriteGp s p (Reg.SEC_TOKCMD 0) → u = s.setF (Reg.SEC_TOKCMD 0) 31 30 2 →
    u.code ≠ Mode.boot → u.bit Reg.SEC_TOKSTAT 31 = false → 1 < lcState u →
    exec (.endWithoutToken p) s = .next (settle (tokBegin u (tokFail 7)))) ∧
  (∀ (s u : State) (p : Path), MayWriteGp s p (Reg.SEC_TOKCMD 0) → u = s.setF (Reg.SEC_TOKCMD 0) 31 30 2 →
    u.code ≠ Mode.boot → u.bit Reg.SEC_TOKSTAT 31 = false → lcState u ≤ 1 → rowFree u 5 = true →
    exec (.endWithoutToken p) s = .next (settle (tokBegin u
      { kind := 4, result := 0, row := some 5, prov := none, revoke := none, reset := true }))) ∧
  (∀ (s : State) (t : TokRun), (t.row = none →
    tokBegin s t = { s.setBit Reg.SEC_TOKSTAT 31 true with sec := { s.sec with tok := some t } }) ∧ (t.row ≠ none →
    tokBegin s t = raise { s.setBit Reg.SEC_TOKSTAT 31 true with sec := { s.sec with tok := some t } } Src.lcStarted)) ∧
  (∀ (s : State), s.sec.tok = none →
    exec (.tokenCommandComplete true) s = .next (settle (s)) ∧ exec (.tokenCommandComplete false) s = .next (settle
      (s))) ∧
  (∀ (s : State) (t : TokRun) (b : Bool), s.sec.tok = some t → t.result ≠ 0 →
    exec (.tokenCommandComplete b) s = .next (settle (raise (tokEnd s t.result) Src.tokenRejected))) ∧
  (∀ (s : State) (t : TokRun), s.sec.tok = some t → t.result = 0 →
    exec (.tokenCommandComplete false) s = .next (settle (raise (tokEnd s 11) Src.otpProgram)) ∧ (t.reset = true →
    exec (.tokenCommandComplete true) s = .next (settle (deviceReset (tokEnd (tokApply s t) 0) false 4))) ∧ (t.reset =
      false → exec (.tokenCommandComplete true) s = .next (settle (tokEnd (tokApply s t) 0)))) ∧
  (∀ (s u : State) (p : Path) (k : Fin 4) (v : Fin 512) (b : Bool), MayWriteGp s p (Reg.SEC_ARB 0) →
    u = (s.setF (Reg.SEC_ARB 0) 25 24 k.val).setF (Reg.SEC_ARB 0) 8 0 v.val →
    k.val = 3 ∨ k.val ≠ 0 ∧ ownerNow u = none →
    exec (.antiRollbackAdvance p k v b) s = .next (settle (arbResult u 4))) ∧
  (∀ (s u : State) (p : Path) (k : Fin 4) (v : Fin 512) (b : Bool), MayWriteGp s p (Reg.SEC_ARB 0) →
    u = (s.setF (Reg.SEC_ARB 0) 25 24 k.val).setF (Reg.SEC_ARB 0) 8 0 v.val →
    k.val ≠ 3 ∧ (k.val = 0 ∨ ownerNow u ≠ none) → v.val ≤ svnOf u.sec.otp k.val ((ownerNow u).getD 0) →
    exec (.antiRollbackAdvance p k v b) s = .next (settle (arbResult u 1))) ∧
  (∀ (s u : State) (p : Path) (k : Fin 4) (v : Fin 512) (b : Bool), MayWriteGp s p (Reg.SEC_ARB 0) →
    u = (s.setF (Reg.SEC_ARB 0) 25 24 k.val).setF (Reg.SEC_ARB 0) 8 0 v.val →
    k.val ≠ 3 ∧ (k.val = 0 ∨ ownerNow u ≠ none) → svnOf u.sec.otp k.val ((ownerNow u).getD 0) < v.val →
    (if k.val = 0 then 256 else 64) < v.val → exec (.antiRollbackAdvance p k v b) s = .next (settle (arbResult u 2))) ∧
  (∀ (s u : State) (p : Path) (k : Fin 4) (v : Fin 512) (b : Bool), MayWriteGp s p (Reg.SEC_ARB 0) →
    u = (s.setF (Reg.SEC_ARB 0) 25 24 k.val).setF (Reg.SEC_ARB 0) 8 0 v.val →
    k.val ≠ 3 ∧ (k.val = 0 ∨ ownerNow u ≠ none) → svnOf u.sec.otp k.val ((ownerNow u).getD 0) < v.val →
    v.val ≤ (if k.val = 0 then 256 else 64) → (activeSvns u k.val).any (fun x => decide (x < v.val)) = true →
    exec (.antiRollbackAdvance p k v b) s = .next (settle (arbResult u 3))) ∧
  (∀ (s u : State) (p : Path) (k : Fin 4) (v : Fin 512), MayWriteGp s p (Reg.SEC_ARB 0) →
    u = (s.setF (Reg.SEC_ARB 0) 25 24 k.val).setF (Reg.SEC_ARB 0) 8 0 v.val →
    k.val ≠ 3 ∧ (k.val = 0 ∨ ownerNow u ≠ none) → svnOf u.sec.otp k.val ((ownerNow u).getD 0) < v.val →
    v.val ≤ (if k.val = 0 then 256 else 64) → (activeSvns u k.val).any (fun x => decide (x < v.val)) = false →
    exec (.antiRollbackAdvance p k v false) s = .next (settle (raise (arbResult u 5) Src.otpProgram))) ∧
  (∀ (s u : State) (p : Path) (k : Fin 4) (v : Fin 512), MayWriteGp s p (Reg.SEC_ARB 0) →
    u = (s.setF (Reg.SEC_ARB 0) 25 24 k.val).setF (Reg.SEC_ARB 0) 8 0 v.val →
    k.val ≠ 3 ∧ (k.val = 0 ∨ ownerNow u ≠ none) → svnOf u.sec.otp k.val ((ownerNow u).getD 0) < v.val →
    v.val ≤ (if k.val = 0 then 256 else 64) → (activeSvns u k.val).any (fun x => decide (x < v.val)) = false →
    exec (.antiRollbackAdvance p k v true) s = .next (settle (raise (arbCount (arbResult
      { u with sec := { u.sec with otp := { u.sec.otp with svn := smSet 0 u.sec.otp.svn (svnKey k.val ((ownerNow u).getD 0)) v.val } } }
      0)) Src.arbAdvanced))) ∧
  (∀ (s u : State) (p : Path), MayWriteGk s p Reg.PAL_FWCTL → u = (disarm s p).setF Reg.PAL_FWCTL 1 0 1 →
    firmwareRuns u = false → exec (.firmwareStage p) s = .next (settle (u))) ∧
  (∀ (s u : State) (p : Path), MayWriteGk s p Reg.PAL_FWCTL → u = (disarm s p).setF Reg.PAL_FWCTL 1 0 2 →
    firmwareRuns u = false → exec (.firmwareSwap p) s = .next (settle (u))) ∧
  (∀ (s u : State) (p : Path), MayWriteGk s p Reg.PAL_FWCTL → u = (disarm s p).setF Reg.PAL_FWCTL 1 0 3 →
    firmwareRuns u = false → exec (.firmwareConfirm p) s = .next (settle (u))) ∧
  (∀ (s u : State) (p : Path), MayWriteGk s p Reg.PAL_FWCTL → u = (disarm s p).setF Reg.PAL_FWCTL 1 0 1 →
    firmwareRuns u = true → fwBusy u = true ∨ u.sets.staging.isSome = true →
    exec (.firmwareStage p) s = .next (settle (activateEnds (fwResult u 5)))) ∧
  (∀ (s u : State) (p : Path), MayWriteGk s p Reg.PAL_FWCTL → u = (disarm s p).setF Reg.PAL_FWCTL 1 0 1 →
    firmwareRuns u = true → fwBusy u = false → u.sets.staging = none →
    exec (.firmwareStage p) s = .next (settle
      ({ u.setBit Reg.PAL_FWSTAT 31 true with sec := { u.sec with fwCmd := some (1, norImage u (idleImage u), 0) } }))) ∧
  (∀ (s u : State) (p : Path), MayWriteGk s p Reg.PAL_FWCTL → u = (disarm s p).setF Reg.PAL_FWCTL 1 0 2 →
    firmwareRuns u = true → u.code ≠ Mode.hold ∨ u.changing = true →
    exec (.firmwareSwap p) s = .next (settle (activateEnds (fwResult u 2)))) ∧
  (∀ (s u : State) (p : Path), MayWriteGk s p Reg.PAL_FWCTL → u = (disarm s p).setF Reg.PAL_FWCTL 1 0 2 →
    firmwareRuns u = true → u.code = Mode.hold → u.changing = false → u.sec.staged = none →
    exec (.firmwareSwap p) s = .next (settle (activateEnds (fwResult u 3)))) ∧
  (∀ (s u : State) (p : Path) (b : List Byte), MayWriteGk s p Reg.PAL_FWCTL →
    u = (disarm s p).setF Reg.PAL_FWCTL 1 0 2 → firmwareRuns u = true → u.code = Mode.hold → u.changing = false →
    u.sec.staged = some b → movesActive u = true →
    exec (.firmwareSwap p) s = .next (settle (activateEnds (fwResult u 4)))) ∧
  (∀ (s u : State) (p : Path) (b : List Byte), MayWriteGk s p Reg.PAL_FWCTL →
    u = (disarm s p).setF Reg.PAL_FWCTL 1 0 2 → firmwareRuns u = true → u.code = Mode.hold → u.changing = false →
    u.sec.staged = some b → movesActive u = false → fwBusy u = true ∨ u.mode.step.isSome = true →
    exec (.firmwareSwap p) s = .next (settle (activateEnds (fwResult u 5)))) ∧
  (∀ (s u : State) (p : Path) (b : List Byte), MayWriteGk s p Reg.PAL_FWCTL →
    u = (disarm s p).setF Reg.PAL_FWCTL 1 0 2 → firmwareRuns u = true → u.code = Mode.hold → u.changing = false →
    u.sec.staged = some b → movesActive u = false → fwBusy u = false → u.mode.step = none →
    exec (.firmwareSwap p) s = .next (settle
      ({ u.setBit Reg.PAL_FWSTAT 31 true with sec := { u.sec with fwCmd := some (2, b, 0) }, mode := { u.mode with step := some 2 } }))) ∧
  (∀ (s u : State) (p : Path), MayWriteGk s p Reg.PAL_FWCTL → u = (disarm s p).setF Reg.PAL_FWCTL 1 0 3 →
    firmwareRuns u = true → fwBusy u = true → exec (.firmwareConfirm p) s = .next (settle (fwResult u 5))) ∧
  (∀ (s u : State) (p : Path), MayWriteGk s p Reg.PAL_FWCTL → u = (disarm s p).setF Reg.PAL_FWCTL 1 0 3 →
    firmwareRuns u = true → fwBusy u = false → (Config.norFails u.fresh = true →
    exec (.firmwareConfirm p) s = .next (settle (fwResult u.draw 6))) ∧ (Config.norFails u.fresh = false →
    exec (.firmwareConfirm p) s = .next (settle (fwResult ((setBootHeader u.draw (bootHeader u.draw).1 0).setBit
      Reg.PAL_FWSTAT 24 false) 0)))) ∧
  (∀ (s : State) (b : List Byte) (k : Nat), s.sec.fwCmd = some (1, b, k) → (imageCheck s true b ≠ 1 →
    ∀ x, exec (.firmwareStageComplete x) s = .next (settle (activateEnds (fwEnd s 1)))) ∧ (imageCheck s true b = 1 →
    exec (.firmwareStageComplete false) s = .next (settle (activateEnds (fwEnd s 6))) ∧ exec (.firmwareStageComplete
      true) s = .next (settle (stageDone s b k)))) ∧
  (∀ (s : State) (b : List Byte) (how : Nat), how ≠ 1 →
    ∀ u, u = setBootHeader { fwEnd s 0 with sec := { (fwEnd s 0).sec with staged := some b } } (idleImage s) (if how =
      2 then 0xA5 else 0x5A) →
    stageDone s b how = activateEnds ((u.setBit Reg.PAL_FWSTAT 25 true).setBit Reg.PAL_FWSTAT 22 (decide (idleImage s
      = 1)))) ∧
  (∀ (s : State) (b : List Byte) (k : Nat), s.sec.fwCmd = some (2, b, k) → k ≠ 1 → ∀ u v, u = coresRestart s b →
    v = (((fwEnd u 0).setBit Reg.PAL_FWSTAT 24 true).setBit Reg.PAL_FWSTAT 25 false).setBit Reg.PAL_FWSTAT 23 (u.bit
      Reg.PAL_FWSTAT 22) →
    exec .firmwareSwapComplete s = .next (settle (stepEnds
      { v with sec := { v.sec with runHdr := imgHdr b, staged := none } }))) ∧
  (∀ (s : State) (b : Bool), s.sec.fwCmd = none →
    exec (.firmwareStageComplete b) s = .next (settle (s)) ∧ exec .firmwareSwapComplete s = .next (settle (s)))

/-- With the power die dead no slot command acts. An enable from OFF or LATCHED starts, or is refused with ENRES 1 by
invalid words, 2 by sticky bits (from OFF, those of an ISOLATE reaction: DEDUCED, log entry 237); else it stands. A
disable of a slot in RAMP or ON is refused with 3 while its channel is enabled, else turns the gate off with CAUSE 5. PG
is given at the end of its 10 ns tick, in RAMP with the fault timer stopped. The timer starts in RAMP or ON, stops, and
FTIME after its start is a fault of cause 1, at the end of its tick; a fast trip is of cause 2, a power-limit trip outside
RAMP of cause 3. A fault of the tick of a disable is recorded and the slot stays in OFF. A fault with RETRY waits RDLY,
without it latches. At RDLY's end fewer than three retries in 60 s ramp again, else the slot latches. Inputs and feeds are
followed. -/
def Obligations.SlotPower : Prop :=
  (∀ (s : State) (n : Fin 48) (w : Fin 3) (b : Bool), s.slot.dead = true →
    exec (.slotEnable n) s = .next (settle (s)) ∧ exec (.slotDisable n) s = .next (settle (s)) ∧ exec
      (.faultTimerStart n) s = .next (settle (s)) ∧ exec (.faultTimerStop n) s = .next (settle (s)) ∧ exec (.fastTrip
      n) s = .next (settle (s)) ∧ exec (.powerLimitTrip n) s = .next (settle (s)) ∧ exec (.inputCollapse n) s = .next
      (settle (s)) ∧ exec (.inputAboveUvth n) s = .next (settle (s)) ∧ exec (.retryDelayEnd n) s = .next (settle (s))
      ∧ exec (.inputGood n w) s = .next (settle (s)) ∧ exec (.feedLost n w) s = .next (settle (s)) ∧ exec
      (.reverseCurrentTurnoff n b) s = .next (settle (s))) ∧
  (∀ (s : State) (n : Fin 48), s.slot.dead = true → (ExpiryActs s slotTick (some (s.clock / slotTick)) →
    exec (.slotPowerGood n) s = .next (settle (s))) ∧ (ExpiryActs s slotTick (timerDue s n) →
    exec (.faultTimerExpiry n) s = .next (settle (s)))) ∧
  (∀ (s : State) (n : Fin 48), s.closing = false →
    exec (.slotPowerGood n) s = .next { s with deferred := s.deferred ++ [.slotPowerGood n] } ∧ (timerDue s n = some
      (s.clock / slotTick) →
    exec (.faultTimerExpiry n) s = .next { s with deferred := s.deferred ++ [.faultTimerExpiry n] })) ∧
  (∀ (s : State) (n : Fin 48) (x : Slot), s.slot.dead = false → x = s.slotOf n → x.state = 0 → slotValid x = true →
    x.iso.any (sticky s) = false →
    exec (.slotEnable n) s = .next (settle (setSlot (unisolate s (uSlot n)) n (slotBegin
      { x with en := true, iso := [] } 4)))) ∧
  (∀ (s : State) (n : Fin 48) (x : Slot), s.slot.dead = false → x = s.slotOf n → x.state = 0 → slotValid x = true →
    x.iso.any (sticky s) = true →
    exec (.slotEnable n) s = .next (settle (raise (setSlot s n { x with en := true, enres := 2 }) Src.slotRefused))) ∧
  (∀ (s : State) (n : Fin 48) (x : Slot), s.slot.dead = false → x = s.slotOf n → x.state = 0 → slotValid x = false →
    exec (.slotEnable n) s = .next (settle (raise (setSlot s n { x with en := true, enres := 1 }) Src.slotRefused))) ∧
  (∀ (s : State) (n : Fin 48) (x : Slot), s.slot.dead = false → x = s.slotOf n → x.state = 5 → slotValid x = false →
    exec (.slotEnable n) s = .next (settle (raise (setSlot s n { x with en := true, enres := 1 }) Src.slotRefused))) ∧
  (∀ (s : State) (n : Fin 48) (x : Slot), s.slot.dead = false → x = s.slotOf n → x.state = 5 → slotValid x = true →
    (sticky s (Src.slot n 1) || x.iso.any (sticky s)) = true →
    exec (.slotEnable n) s = .next (settle (raise (setSlot s n { x with en := true, enres := 2 }) Src.slotRefused))) ∧
  (∀ (s : State) (n : Fin 48) (x : Slot), s.slot.dead = false → x = s.slotOf n → x.state = 5 → slotValid x = true →
    (sticky s (Src.slot n 1) || x.iso.any (sticky s)) = false →
    exec (.slotEnable n) s = .next (settle (setSlot (unisolate s (uSlot n)) n (slotBegin
      { x with en := true, retries := [], iso := [] } 4)))) ∧
  (∀ (s : State) (n : Fin 48) (x : Slot), s.slot.dead = false → x = s.slotOf n → x.state ≠ 0 → x.state ≠ 5 →
    exec (.slotEnable n) s = .next (settle (setSlot s n { x with en := true, enres := 0 }))) ∧
  (∀ (x : Slot) (r : Nat), (x.input = true →
    slotBegin x r = orDrive { x with state := 2, enres := 0 }) ∧ (x.input = false →
    slotBegin x r = orDrive { x with state := 1, enres := r })) ∧
  (∀ (x : Slot), (x.state = 0 ∨ (x.state = 5 ∧ x.iso ≠ []) →
    orDrive x = { x with onA := false, onB := false }) ∧ (x.state ≠ 0 ∧ (x.state = 5 → x.iso = []) →
    orDrive x = { x with onA := x.feedA, onB := x.feedB && !x.feedA })) ∧
  (∀ (s : State) (n : Fin 48) (x : Slot), s.slot.dead = false → x = s.slotOf n → x.state = 0 →
    exec (.slotDisable n) s = .next (settle (setSlot s n { x with en := false, enres := 0 }))) ∧
  (∀ (s : State) (n : Fin 48) (x : Slot), s.slot.dead = false → x = s.slotOf n → x.state = 2 ∨ x.state = 3 →
    s.bit (Reg.DMC_CTL (n.val / 2)) 0 = true →
    exec (.slotDisable n) s = .next (settle (raise (setSlot s n { x with en := false, enres := 3 }) Src.slotRefused))) ∧
  (∀ (s : State) (n : Fin 48) (x : Slot), s.slot.dead = false → x = s.slotOf n → x.state = 2 ∨ x.state = 3 →
    s.bit (Reg.DMC_CTL (n.val / 2)) 0 = false →
    exec (.slotDisable n) s = .next (settle (setSlot s n (orDrive
      { gateOff x (if x.faultAt = some (s.clock / slotTick) then x.cause else 5) 0 with en := false, enres := 0, latch := false, offAt := some (s.clock / slotTick), offTimer := x.timer })))) ∧
  (∀ (s : State) (n : Fin 48) (x : Slot), s.slot.dead = false → x = s.slotOf n → x.state ≠ 0 →
    x.state ≠ 2 ∧ x.state ≠ 3 →
    exec (.slotDisable n) s = .next (settle (setSlot s n (orDrive
      { gateOff x (if x.faultAt = some (s.clock / slotTick) then x.cause else 5) 0 with en := false, enres := 0, latch := false, offAt := none, offTimer := none })))) ∧
  (∀ (s : State) (n : Fin 48) (x : Slot), ExpiryActs s slotTick (some (s.clock / slotTick)) → s.slot.dead = false →
    x = s.slotOf n → (x.state = 2 → x.timer = none →
    exec (.slotPowerGood n) s = .next (settle (setSlot s n { x with state := 3, pg := true, powered := true }))) ∧
      (x.state ≠ 2 ∨ x.timer.isSome = true → exec (.slotPowerGood n) s = .next (settle (s)))) ∧
  (∀ (s : State) (n : Fin 48) (x : Slot), s.slot.dead = false → x = s.slotOf n → x.state = 2 ∨ x.state = 3 →
    x.timer = none → exec (.faultTimerStart n) s = .next (settle (setSlot s n { x with timer := some s.clock }))) ∧
  (∀ (s : State) (n : Fin 48) (x : Slot), s.slot.dead = false → x = s.slotOf n →
    (x.state ≠ 2 ∧ x.state ≠ 3) ∨ x.timer.isSome = true → exec (.faultTimerStart n) s = .next (settle (s))) ∧
  (∀ (s : State) (n : Fin 48) (x : Slot), s.slot.dead = false → x = s.slotOf n →
    exec (.faultTimerStop n) s = .next (settle (setSlot s n { x with timer := none }))) ∧
  (∀ (s : State) (n : Fin 48) (t : Nat), ExpiryActs s slotTick (timerDue s n) → s.slot.dead = false →
    timerDue s n = some t → (t ≤ s.clock / slotTick →
    exec (.faultTimerExpiry n) s = .next (settle (slotFault s n 1))) ∧ (s.clock / slotTick < t →
    exec (.faultTimerExpiry n) s = .next (settle (s)))) ∧
  (∀ (s : State) (n : Fin 48), ExpiryActs s slotTick (timerDue s n) → s.slot.dead = false → timerDue s n = none →
    exec (.faultTimerExpiry n) s = .next (settle (s))) ∧
  (∀ (s : State) (n : Nat) (x : Slot), x = s.slotOf n → (x.offAt ≠ some (s.clock / slotTick) →
    timerDue s n = x.timer.map (fun t => t / 25 + slotFTIME x * 100000)) ∧ (x.offAt = some (s.clock / slotTick) →
    timerDue s n = x.offTimer.map (fun t => t / 25 + slotFTIME x * 100000))) ∧
  (∀ (s : State) (n : Fin 48), s.slot.dead = false → exec (.fastTrip n) s = .next (settle (slotFault s n 2))) ∧
  (∀ (s : State) (n : Fin 48) (x : Slot), s.slot.dead = false → x = s.slotOf n → (x.state ≠ 2 →
    exec (.powerLimitTrip n) s = .next (settle (slotFault s n 3))) ∧ (x.state = 2 →
    exec (.powerLimitTrip n) s = .next (settle (s)))) ∧
  (∀ (s : State) (n c : Nat) (x : Slot), x = s.slotOf n → (x.state ≠ 2 ∧ x.state ≠ 3 →
    x.state ≠ 0 ∨ x.offAt ≠ some (s.clock / slotTick) → slotFault s n c = s) ∧ (x.state = 0 →
    x.offAt = some (s.clock / slotTick) →
    slotFault s n c = raise (setSlot s n { x with cause := c, offAt := none }) (Src.slot n 0)) ∧ (x.state = 2 ∨
      x.state = 3 → slotRETRY x = true →
    slotFault s n c = raise (setSlot s n
      { gateOff x c 4 with faultAt := some (s.clock / slotTick), delay := some (s.clock + slotRDLY x * secClocks) })
      (Src.slot n 0)) ∧ (x.state = 2 ∨ x.state = 3 → slotRETRY x = false →
    slotFault s n c = raise (setSlot s n { gateOff x c 5 with faultAt := some (s.clock / slotTick), latch := true })
      (Src.slot n 0))) ∧
  (∀ (s : State), (s.clock + 1) % slotTick = 0 →
    latchEnd s = (s.slot.slots.filter (fun e => e.2.latch)).foldl (fun s e => raise (setSlot s e.1
      { s.slotOf e.1 with latch := false }) (Src.slot e.1 1)) s) ∧
  (∀ (s : State) (n : Fin 48) (x : Slot), s.slot.dead = false → x = s.slotOf n →
    exec (.inputAboveUvth n) s = .next (settle (setSlot s n { x with low := false }))) ∧
  (∀ (s : State) (n : Nat) (x : Slot), x = s.slotOf n → (x.low = true → inputLow s n = s) ∧ (x.low = false →
    inputLow s n = raise (setSlot s n { x with low := true, input := false }) (Src.slot n 2))) ∧
  (∀ (s : State) (n : Fin 48) (x : Slot) (u : State), s.slot.dead = false → u = inputLow s n → x = u.slotOf n →
    (x.state = 2 ∨ x.state = 3 →
    exec (.inputCollapse n) s = .next (settle (setSlot u n (gateOff x 4 1)))) ∧ (x.state ≠ 2 ∧ x.state ≠ 3 →
    exec (.inputCollapse n) s = .next (settle (u)))) ∧
  (∀ (s : State) (n : Fin 48) (x : Slot), s.slot.dead = false → x = s.slotOf n →
    exec (.inputGood n 0) s = .next (settle (setSlot s n (orDrive { x with feedA := true }))) ∧ exec (.inputGood n 1)
      s = .next (settle (setSlot s n (orDrive { x with feedB := true }))) ∧ (x.low = true →
    exec (.inputGood n 2) s = .next (settle (s))) ∧ (x.low = false →
    exec (.inputGood n 2) s = .next (settle (setSlot s n
      { x with input := true, state := if x.state = 1 then 2 else x.state })))) ∧
  (∀ (s : State) (n : Fin 48) (x : Slot) (a b : State), s.slot.dead = false → x = s.slotOf n →
    a = raise (setSlot s n (orDrive { x with feedA := false })) (Src.slot n 3) →
    b = raise (setSlot s n (orDrive { x with feedB := false })) (Src.slot n 3) →
    exec (.feedLost n 0) s = .next (settle (if x.feedB then a else inputLow a n)) ∧ exec (.feedLost n 1) s = .next
      (settle (if x.feedA then b else inputLow b n)) ∧ exec (.feedLost n 2) s = .next (settle (inputLow s n))) ∧
  (∀ (s : State) (n : Fin 48) (x : Slot), s.slot.dead = false → x = s.slotOf n →
    exec (.reverseCurrentTurnoff n true) s = .next (settle (raise (setSlot s n { x with onB := false }) (Src.slot n
      3))) ∧ exec (.reverseCurrentTurnoff n false) s = .next (settle (raise (setSlot s n
      { x with onA := false, onB := x.onB || (x.onA && x.feedB) }) (Src.slot n 3)))) ∧
  (∀ (s : State) (n : Fin 48) (x : Slot) (t : Nat), s.slot.dead = false → x = s.slotOf n → x.delay = some t →
    x.state = 4 → t / slotTick ≤ s.clock / slotTick → ((slotRetries s x).length < 3 →
    exec (.retryDelayEnd n) s = .next (settle (setSlot s n
      { x with delay := none, retries := slotRetries s x ++ [s.clock], state := if x.input then 2 else 1 }))) ∧ (3 ≤
      (slotRetries s x).length →
    exec (.retryDelayEnd n) s = .next (settle (raise (setSlot s n { x with delay := none, state := 5 }) (Src.slot n
      1))))) ∧
  (∀ (s : State) (n : Fin 48) (x : Slot), s.slot.dead = false → x = s.slotOf n → (x.delay = none →
    exec (.retryDelayEnd n) s = .next (settle (s))) ∧ (∀ t, x.delay = some t →
    (x.state ≠ 4 ∨ s.clock / slotTick < t / slotTick) → exec (.retryDelayEnd n) s = .next (settle (s))))

/-- A frame that a link which is not up receives is ignored. A slot with a parity error or lanes that disagree is a parity
error on its lanes; a good one acts: its ACK first, then, when it is next in sequence, the frame, and a reserved type is a
protocol error. A slot of a link that is not up, or whose time has not come, sends nothing; a link with nothing to send
sends an idle slot with the current ACK; a launch that may go leaves as a new frame; a full replay buffer sends no new
frame, and a slot that an Ihlo-F link leaves empty (R480; at width 4 its place is the model's choice, log entry 197) sends
none: a frame that arrives then goes to the lay-by. TMO after its timer started (at the end of that clock) the replay
buffer is sent again; at the limit the link renegotiates with a failed lane, else retrains. A lane window of 1 ms clears
its counts. CNV_CTL, CNV_TRAIN and CNV_LAYBY.CLR act by their rules. -/
def Obligations.LinkService : Prop :=
  (∀ (s : State) (l : Fin 32) (f : Frame) (bad : List (Fin 9)) (dis fal gen : Bool) (fix : Fin 3), linkUp s l.val =
    false → exec (.frameReceive l f bad dis fal (gen, fix)) s = .next (settle (s))) ∧
  (∀ (s u : State) (l : Fin 32) (f : Frame) (bad : List (Fin 9)) (dis fal gen : Bool) (fix : Fin 3), linkUp s l.val =
    true → u = (if s.bit (Reg.CNV_STAT l) 26 then corrected s l fix else s) → bad ≠ [] ∨ dis = true →
    exec (.frameReceive l f bad dis fal (gen, fix)) s = .next (settle (parityError (u.setLink (linkPair l)
      { u.link (linkPair l) with fallow := fal }) l (bad.map Fin.val)))) ∧
  (∀ (s u : State) (l : Fin 32) (f : Frame) (fal gen : Bool) (fix : Fin 3), linkUp s l.val = true →
    u = (if s.bit (Reg.CNV_STAT l) 26 then corrected s l fix else s) →
    exec (.frameReceive l f [] false fal (gen, fix)) s = .next (settle (goodFrame (u.setLink (linkPair l)
      { u.link (linkPair l) with fallow := fal }) l f gen))) ∧
  (∀ (s : State) (l n : Nat), n ≠ 0 →
    corrected s l n = s.setF (Reg.CNV_FEC l) 15 0 (satAdd 0xFFFF (s.fld (Reg.CNV_FEC l) 15 0) n)) ∧
  (∀ (s u v : State) (l : Nat) (f : Frame) (gen : Bool), (s.link l).rxPend = none → u = useAck s l f.ack →
    linkUp u l = true → f.ty ≠ 0 → f.seq = expSeq u l → v = acceptNext u l →
    goodFrame s l f gen = (if 6 ≤ f.ty ∧ f.ty ≤ 14 then raiseLink v l 6 0xF f.seq else if f.ty = 15 then v else handle
      v l f)) ∧
  (∀ (s u : State) (l : Nat) (f : Frame) (gen : Bool), (s.link l).rxPend = none → u = useAck s l f.ack →
    linkUp u l = false ∨ f.ty = 0 ∨ f.seq ≠ expSeq u l → goodFrame s l f gen = u) ∧
  (∀ (s : State) (l a : Nat), ackBad s l a = true → useAck s l a = linkRetrain (raiseLink s l 6 0xF a) l 5) ∧
  (∀ (s v : State) (l : Fin 32), v = padArrive s l → linkUp v l.val = false ∨ slotNow v l = false →
    exec (.slotTransmit l) s = .next (settle (v))) ∧
  (∀ (s v : State) (l : Fin 32), v = padArrive s l → linkUp v l.val = true → slotNow v l = true →
    slotAbsent v l = true → exec (.slotTransmit l) s = .next (settle (slotEnd (slotSkip v l) l))) ∧
  (∀ (s u v : State) (l : Fin 32), v = padArrive s l → linkUp v l.val = true → slotNow v l = true →
    slotAbsent v l = false → 1024 ≤ (v.link l.val).rbuf.length → (v.link l.val).arriving = none →
    slotFallow v l = false → u = (slotStart v l).setBit (Reg.CNV_STAT l) 23 false →
    v.bit (Reg.CNV_STAT l) 23 = false → u.bit (Reg.CNV_STAT l) 23 = false →
    exec (.slotTransmit l) s = .next (settle (slotEnd (putSlot u l { ack := curAck u l } false) l))) ∧
  (∀ (s u v : State) (l : Fin 32), v = padArrive s l → linkUp v l.val = true → slotNow v l = true →
    slotAbsent v l = false → (v.link l.val).rbuf.length < 1024 → (v.link l.val).arriving = none →
    slotFallow v l = false → (v.link l.val).lm = [] → (v.link l.val).layby = [] → (v.link l.val).hold = 0 →
    (v.link l.val).seed = none → u = (slotStart v l).setBit (Reg.CNV_STAT l) 23 false →
    v.bit (Reg.CNV_STAT l) 23 = false → u.bit (Reg.CNV_STAT l) 23 = false → pickLaunch u l (coursesAhead v l) = none →
    exec (.slotTransmit l) s = .next (settle (slotEnd (putSlot u l { ack := curAck u l } false) l))) ∧
  (∀ (s u v : State) (l : Fin 32) (y : Launch) (c : Option (Nat × Nat)), v = padArrive s l → linkUp v l.val = true →
    slotNow v l = true → slotAbsent v l = false → (v.link l.val).rbuf.length < 1024 → (v.link l.val).arriving = none →
    slotFallow v l = false → (v.link l.val).lm = [] → (v.link l.val).layby = [] → (v.link l.val).hold = 0 →
    (v.link l.val).seed = none → u = (slotStart v l).setBit (Reg.CNV_STAT l) 23 false →
    v.bit (Reg.CNV_STAT l) 23 = false → u.bit (Reg.CNV_STAT l) 23 = false →
    pickLaunch u l (coursesAhead v l) = some (y, c) →
    exec (.slotTransmit l) s = .next (settle (slotEnd (sendNew (launchCount u l y c) l y.frame false) l))) ∧
  (∀ (s : State) (l : Nat) (f : Frame) (b : Bool) (x : Link) (g : Frame), x = s.link l →
    g = stampTide s { f with seq := nextSeq s l, ack := curAck s l } →
    sendNew s l f b = putSlot (tick (linkMirror ((s.setLink l
      { x with rbuf := x.rbuf ++ [g], timer := if x.rbuf = [] then some s.clock else x.timer }).setF (Reg.CNV_SEQA l)
      11 0 ((nextSeq s l + 1) % 4096)) l) (bLink l) 0 1) l g b) ∧
  (∀ (s u : State) (l : Fin 32) (t : Nat), ExpiryActs s 1 (replayDue s l) → (s.link l.val).timer = some t →
    linkUp s l.val = true → t + s.fld (Reg.CNV_REPLAY l) 12 0 ≤ s.clock → u = replayStart s l →
    (s.link l).reps < u.fld (Reg.CNV_REPLAY l) 27 24 → exec (.replayTimeout l) s = .next (settle (u))) ∧
  (∀ (s u : State) (l : Fin 32) (t : Nat), ExpiryActs s 1 (replayDue s l) → (s.link l.val).timer = some t →
    linkUp s l.val = true → t + s.fld (Reg.CNV_REPLAY l) 12 0 ≤ s.clock → u = replayStart s l →
    u.fld (Reg.CNV_REPLAY l) 27 24 ≤ (s.link l.val).reps →
    exec (.replayTimeout l) s = .next (settle (replayLimit u l))) ∧
  (∀ (s v : State) (l : Nat), v = (raiseLink s l 2 0xF (((s.link l).rbuf.head?.map Frame.seq).getD 0)).setLink l
    { (raiseLink s l 2 0xF (((s.link l).rbuf.head?.map Frame.seq).getD 0)).link l with reps := 0 } →
    (laneFailed v l = true → replayLimit s l = startReneg v l (ownReqw v l)) ∧ (laneFailed v l = false →
    replayLimit s l = linkRetrain v l 3)) ∧
  (∀ (s : State) (l : Fin 32), ExpiryActs s 1 (replayDue s l) → (s.link l.val).timer = none ∨ linkUp s l.val = false →
    exec (.replayTimeout l) s = .next (settle (s))) ∧
  (∀ (s : State) (l : Fin 32), replayDue s l = some s.clock → s.closing = false →
    exec (.replayTimeout l) s = .next { s with deferred := s.deferred ++ [.replayTimeout l] }) ∧
  (∀ (s : State) (l : Fin 32), s.clock < (s.link l.val).winFrom + msClocks →
    exec (.laneErrorWindowEnd l) s = .next (settle (s))) ∧
  (∀ (s u : State) (l : Fin 32), (s.link l.val).winFrom + msClocks ≤ s.clock →
    u = (List.range 9).foldl (fun s p => if laneHealth s l p = 1 then setHealth s l p 0 else s) s →
    exec (.laneErrorWindowEnd l) s = .next (settle (u.setLink l { u.link l with winErr := [], winFrom := u.clock }))) ∧
  (∀ (s : State) (l : Fin 32) (p : Path), MayWrite s p (Reg.CNV_LAYBY l) →
    exec (.linkCounterClear p l) s = .next (settle ((List.range 9).foldl (fun s p => s.setF (Reg.CNV_LANEERR l p) 15 0
      0) (((s.setF (Reg.CNV_LAYBY l) 26 16 0).setReg (Reg.CNV_CNT l) 0).setReg (Reg.CNV_FEC l) 0)))) ∧
  (∀ (s u : State) (p : Path) (l : Fin 32) (w : Fin 4), MayWriteGk s p (Reg.CNV_TRAIN l) →
    u = (disarm s p).setF (Reg.CNV_TRAIN l) 3 2 w.val →
    exec (.renegotiate p l w) s = .next (settle (startReneg u l w.val))) ∧
  (∀ (s u : State) (p : Path) (l : Fin 32) (w : Fin 4), MayWriteGk s p (Reg.CNV_TRAIN l) →
    w.val = (disarm s p).fld (Reg.CNV_TRAIN l) 3 2 → u = (disarm s p).setF (Reg.CNV_TRAIN l) 3 2 w.val →
    (linkUp u l = true →
    exec (.retrain p l) s = .next (settle (((linkRetrain u l 0).setBit (Reg.CNV_TRAIN l) 0 true).setLink l
      { (linkRetrain u l 0).link l with ownReq := true }))) ∧ (linkUp u l = false →
    exec (.retrain p l) s = .next (settle (u)))) ∧
  (∀ (s u : State) (p : Path) (l : Fin 32) (v : Word), MayWriteGk s p (Reg.CNV_CTL l) →
    u = (disarm s p).setReg (Reg.CNV_CTL l) (setBit (v &&& 0xF0001#32) 0 (bit v 0 && !(isolated (disarm s p) (uLink l)
      && !canEnable (disarm s p) (uLink l)))) →
    (bit v 0 && !(isolated (disarm s p) (uLink l) && !canEnable (disarm s p) (uLink l))) = true →
    linkState u l = LinkState.off ∨ (linkState u l = LinkState.failed ∧ (disarm s p).bit (Reg.CNV_CTL l) 0 = false ∧
      ((disarm s p).link l).isolatedEn = true) →
    exec (.cnvCtlWrite p l v) s = .next (settle (takeWrite (linkDetect u l) (Reg.CNV_CTL l)))) ∧
  (∀ (s u : State) (p : Path) (l : Fin 32) (v : Word), MayWriteGk s p (Reg.CNV_CTL l) →
    u = (disarm s p).setReg (Reg.CNV_CTL l) (setBit (v &&& 0xF0001#32) 0 (bit v 0 && !(isolated (disarm s p) (uLink l)
      && !canEnable (disarm s p) (uLink l)))) →
    (bit v 0 && !(isolated (disarm s p) (uLink l) && !canEnable (disarm s p) (uLink l))) = true →
    linkState u l ≠ LinkState.off →
    linkState u l ≠ LinkState.failed ∨ (disarm s p).bit (Reg.CNV_CTL l) 0 = true ∨ ((disarm s p).link l).isolatedEn =
      false → exec (.cnvCtlWrite p l v) s = .next (settle (takeWrite (u) (Reg.CNV_CTL l)))) ∧
  (∀ (s u : State) (p : Path) (l : Fin 32) (v : Word), MayWriteGk s p (Reg.CNV_CTL l) →
    u = (disarm s p).setReg (Reg.CNV_CTL l) (setBit (v &&& 0xF0001#32) 0 (bit v 0 && !(isolated (disarm s p) (uLink l)
      && !canEnable (disarm s p) (uLink l)))) → bit v 0 = true →
    (isolated (disarm s p) (uLink l) && !canEnable (disarm s p) (uLink l)) = true →
    exec (.cnvCtlWrite p l v) s = .next (settle (takeWrite (u) (Reg.CNV_CTL l)))) ∧
  (∀ (s u : State) (p : Path) (l : Fin 32) (v : Word), MayWriteGk s p (Reg.CNV_CTL l) →
    u = (disarm s p).setReg (Reg.CNV_CTL l) (setBit (v &&& 0xF0001#32) 0 (bit v 0 && !(isolated (disarm s p) (uLink l)
      && !canEnable (disarm s p) (uLink l)))) → bit v 0 = false →
    exec (.cnvCtlWrite p l v) s = .next (settle (takeWrite ((if linkState u l = LinkState.off then u else linkLeave u
      l 6 LinkState.off)) (Reg.CNV_CTL l))))

/-- A REQUEST to a link that is not up is ignored; with no own REQUEST open it is answered by GRANT, with one open by the
lower device ID, then link number. A GRANT to the requester makes it choose width and maps: none fails the link, idle
lanes are trained first, else SWITCH. A SWITCH ends the follower's renegotiation, an ABORT the attempt, or the link when
no width qualifies. With no answer in time (at the end of that clock) the end aborts and asks again, at the third time it
retrains. A trained lane leaves the lanes in training; the last one brings SWITCH, and a lane that fails another choice.
Training blocks act in their states alone. A link that leaves LOCK late fails; lost lock retrains. -/
def Obligations.LinkNegotiation : Prop :=
  (∀ (s : State) (l : Fin 32) (m : LmMsg), linkUp s l.val = false → exec (.lmRequest l m) s = .next (settle (s))) ∧
  (∀ (s u : State) (l : Fin 32) (m : LmMsg), linkUp s l.val = true →
    u = s.setLink l { s.link l with peerOk := m.rxok, peerW := m.reqw } →
    (u.link l.val).request = none ∨ leads u l.val m.dev m.link = false →
    exec (.lmRequest l m) s = .next (settle (grant u l))) ∧
  (∀ (s u : State) (l : Fin 32) (m : LmMsg), linkUp s l.val = true →
    u = s.setLink l { s.link l with peerOk := m.rxok, peerW := m.reqw } → (u.link l.val).request.isSome = true →
    leads u l.val m.dev m.link = true → exec (.lmRequest l m) s = .next (settle (setLead u l true))) ∧
  (∀ (s u v : State) (l : Fin 32) (w : Nat), w = ((s.link l).request).getD (maxW s l) →
    u = setLinkState (setLead s l false) l LinkState.reneg →
    v = (if linkState s l = LinkState.active then linkRep u l else u) →
    grant s l = lmSend ((v.setBit (Reg.CNV_TRAIN l) 4 true).setLink l
      { v.link l with request := none, answerBy := none }) l 2 w 0 0 0 false) ∧
  (∀ (s u : State) (l : Fin 32) (m : LmMsg), linkState s l.val = LinkState.reneg →
    (s.link l.val).request.isSome = true →
    u = setLead (s.setLink l { s.link l with peerOk := m.rxok, peerW := m.reqw }) l true →
    exec (.lmGrant l m) s = .next (settle (leadChoose u l))) ∧
  (∀ (s : State) (l : Fin 32) (m : LmMsg), linkState s l.val ≠ LinkState.reneg ∨ (s.link l.val).request = none →
    exec (.lmGrant l m) s = .next (settle (s))) ∧
  (∀ (s : State) (l : Nat) (c : Option (Nat × Word × Word)), c = chooseMap s l ((s.link l).request.getD (maxW s l))
    (s.link l).peerW → (c = none →
    leadChoose s l = linkFail (sendNew s l { ty := 15, data := lmPayload s l 4 0 0 0 0 false } (slotFallow s l)) l 1)
      ∧ (∀ w tx rx, c = some (w, tx, rx) → newLanes s l tx rx = (0, 0) →
    leadChoose s l = sendSwitch s l w tx rx) ∧ (∀ w tx rx, c = some (w, tx, rx) → newLanes s l tx rx ≠ (0, 0) →
    leadChoose s l = (s.setLink l { s.link l with laneTrain := some (newLanes s l tx rx), answerBy := none }).emit
      (.link l 2 [(newLanes s l tx rx).1, (newLanes s l tx rx).2]))) ∧
  (∀ (s u : State) (l : Fin 32) (m : LmMsg), linkState s l.val = LinkState.reneg →
    u = s.setLink l { s.link l with rxPend := some (m.txmap, m.mapgen) } →
    exec (.lmSwitch l m) s = .next (settle (endReneg u l m.width m.rxmap m.mapgen))) ∧
  (∀ (s : State) (l : Fin 32) (m : LmMsg), linkState s l.val ≠ LinkState.reneg →
    exec (.lmSwitch l m) s = .next (settle (s)) ∧ exec (.lmAbort l) s = .next (settle (s))) ∧
  (∀ (s : State) (l : Fin 32), linkState s l.val = LinkState.reneg →
    (chooseMap s l ((s.link l).request.getD (maxW s l)) (s.link l).peerW = none →
    exec (.lmAbort l) s = .next (settle (linkFail s l 1))) ∧ (chooseMap s l ((s.link l).request.getD (maxW s l))
      (s.link l).peerW ≠ none → exec (.lmAbort l) s = .next (settle (reset4 s l)))) ∧
  (∀ (s u v : State) (l : Fin 32) (t : Nat), ExpiryActs s 1 (s.link l).answerBy →
    linkState s l.val = LinkState.reneg → (s.link l.val).answerBy = some t → t ≤ s.clock →
    u = reset4 (lmSend s l 4 0 0 0 0 false) l → v = u.setLink l { u.link l with aborts := (s.link l).aborts + 1 } →
    (2 ≤ (s.link l).aborts → exec (.renegTimeout l) s = .next (settle (linkRetrain v l 5))) ∧ ((s.link l).aborts < 2 →
    exec (.renegTimeout l) s = .next (settle (startReneg v l ((s.link l).request.getD (maxW s l)))))) ∧
  (∀ (s : State) (l : Fin 32), ExpiryActs s 1 (s.link l).answerBy →
    (s.link l.val).answerBy = none ∨ linkState s l.val ≠ LinkState.reneg →
    exec (.renegTimeout l) s = .next (settle (s))) ∧
  (∀ (s : State) (l : Fin 32), (s.link l.val).answerBy = some s.clock → s.closing = false →
    exec (.renegTimeout l) s = .next { s with deferred := s.deferred ++ [.renegTimeout l] }) ∧
  (∀ (s : State) (l : Fin 32) (p : Fin 9) (rx ok : Bool), (s.link l.val).laneTrain = none →
    exec (.laneTrainingComplete l p rx ok) s = .next (settle (s))) ∧
  (∀ (s u : State) (l : Fin 32) (p : Fin 9) (a b : Nat), (s.link l.val).laneTrain = some (a, b) →
    u = setHealth s l p 2 → exec (.laneTrainingComplete l p true false) s = .next (settle (leadChoose u l))) ∧
  (∀ (s : State) (l : Fin 32) (p : Fin 9) (a b : Nat), (s.link l.val).laneTrain = some (a, b) →
    exec (.laneTrainingComplete l p false false) s = .next (settle (leadChoose (s.setLink l
      { s.link l with peerOk := (s.link l).peerOk - (if (s.link l).peerOk.testBit p then 2 ^ p.val else 0) }) l))) ∧
  (∀ (s u : State) (l : Fin 32) (p : Fin 9) (a b : Nat), (s.link l.val).laneTrain = some (a, b) →
    b.testBit p.val = true → a ≠ 0 ∨ b ≠ 2 ^ p.val → u = setHealth s l p 0 →
    exec (.laneTrainingComplete l p true true) s = .next (settle (u.setLink l
      { u.link l with laneTrain := some (a, b - 2 ^ p.val) }))) ∧
  (∀ (s u : State) (l : Fin 32) (p : Fin 9) (w : Nat) (tx m : Word), (s.link l.val).laneTrain = some (0, 2 ^ p.val) →
    u = setHealth s l p 0 → chooseMap u l ((u.link l).request.getD (maxW u l)) (u.link l).peerW = some (w, tx, m) →
    exec (.laneTrainingComplete l p true true) s = .next (settle (sendSwitch u l w tx m))) ∧
  (∀ (s : State) (l : Fin 32) (b : TrainBlock) (k : BitVec 9), linkState s l.val ≠ LinkState.detect →
    linkState s l.val ≠ LinkState.lock → linkState s l.val ≠ LinkState.config →
    exec (.tbDetect l b) s = .next (settle (s)) ∧ exec (.tbLock l k b) s = .next (settle (s)) ∧ exec (.tbConfig l b) s
      = .next (settle (s)) ∧ exec (.tbConfigAck l) s = .next (settle (s)) ∧ exec (.tbEcho l b) s = .next (settle (s))
      ∧ exec (.tbEchoReply l b) s = .next (settle (s)) ∧ exec (.tbGo l) s = .next (settle (s))) ∧
  (∀ (s u : State) (l : Fin 32) (b : TrainBlock), linkState s l.val = LinkState.detect →
    u = setLinkState s l LinkState.lock → (b.mode = s.bit (Reg.CNV_STAT l) 26 →
    exec (.tbDetect l b) s = .next (settle (sendTb (u.setLink l { u.link l with lockAt := u.clock }) l 2 0 0))) ∧
      (b.mode ≠ s.bit (Reg.CNV_STAT l) 26 → exec (.tbDetect l b) s = .next (settle (linkFail s l 4)))) ∧
  (∀ (s u v : State) (l : Fin 32) (k : BitVec 9) (b : TrainBlock), linkState s l.val = LinkState.lock →
    u = (List.range 9).foldl (fun s p => setHealth s l p (if k.toNat.testBit p then 0 else 2)) s →
    v = learnPeer (u.setLink l { u.link l with locked := k.toNat }) l b → (k.toNat % 512 ≠ 0 ∧ b.rxok % 512 ≠ 0 →
    ∀ w, w = (setLinkState v l LinkState.config).setBit (Reg.CNV_TRAIN l) 0 false →
    exec (.tbLock l k b) s = .next (settle (sendTb (sendTb w l 3 0 0) l 5 (w.clock % 2 ^ 31) 0))) ∧ (k.toNat % 512 = 0
      ∨ b.rxok % 512 = 0 → exec (.tbLock l k b) s = .next (settle (v)))) ∧
  (∀ (s : State) (l : Fin 32) (b : TrainBlock), linkState s l.val = LinkState.config →
    exec (.tbConfig l b) s = .next (settle (linkConfigured (sendTb (setPeer (learnPeer s l b) l b) l 4 0 0) l))) ∧
  (∀ (s : State) (l : Nat) (b : TrainBlock), setPeer s l b = s.setReg (Reg.CNV_PEER l) (BitVec.ofNat 32 (2 ^ 31 +
    b.dev % 1024 * 2 ^ 16 + b.link % 32 * 2 ^ 8 + b2n b.mode))) ∧
  (∀ (s : State) (l : Fin 32) (b : TrainBlock), linkState s l.val = LinkState.config →
    exec (.tbConfigAck l) s = .next (settle (linkConfigured (s.setLink l { s.link l with configAck := true }) l)) ∧
      exec (.tbEcho l b) s = .next (settle (sendTb s.draw l 6 b.stamp (Config.freeNat s.fresh % 4096))) ∧ exec (.tbGo
      l) s = .next (settle (linkConfigured s l))) ∧
  (∀ (s u : State) (l : Fin 32) (b : TrainBlock) (r : Nat), linkState s l.val = LinkState.config →
    r = ((s.clock + 2 ^ 31 - b.stamp % 2 ^ 31) % 2 ^ 31 - b.turn) % 2 ^ 16 →
    u = (setPeer (learnPeer s l b) l b).setReg (Reg.CNV_DELAY l) (BitVec.ofNat 32 (r * 2 ^ 16 + r / 2)) →
    exec (.tbEchoReply l b) s = .next (settle (linkConfigured (u.setLink l { u.link l with echoed := true }) l))) ∧
  (∀ (s : State) (l : Fin 32), ExpiryActs s 1 (some ((s.link l).lockAt + 20 * msClocks)) →
    linkState s l.val ≠ LinkState.lock → exec (.lockTimeout l) s = .next (settle (s))) ∧
  (∀ (s : State) (l : Fin 32), (s.link l).lockAt + 20 * msClocks = s.clock → s.closing = false →
    exec (.lockTimeout l) s = .next { s with deferred := s.deferred ++ [.lockTimeout l] }) ∧
  (∀ (s : State) (l : Fin 32), ExpiryActs s 1 (some ((s.link l).lockAt + 20 * msClocks)) →
    linkState s l.val = LinkState.lock → ((s.link l).lockAt + 20 * msClocks ≤ s.clock →
    exec (.lockTimeout l) s = .next (settle (linkFail s l 1))) ∧ (s.clock < (s.link l).lockAt + 20 * msClocks →
    exec (.lockTimeout l) s = .next (settle (s)))) ∧
  (∀ (s : State) (l : Fin 32), exec (.laneLockLost l) s = .next (settle (linkRetrain s l 2))) ∧
  (∀ (s : State) (l k : Nat), (linkUp s l = false → linkRetrain s l k = s) ∧ (linkUp s l = true →
    linkRetrain s l k = linkLeave s l k LinkState.lock))

/-- In HOLD the frames of a move stay in the take buffers, and so does a request whose key slot changes; else a frame
acts, under the set active when the device took it, and leaves them. MVREQ is answered by MVABT in SAFE, by MVREF with 1
for a page that is not TZ or cannot be served, 3 for a busy one, 2 with no cells, else the page is held and MVGO goes out.
MVGET is answered by MVABT in SAFE or for a page that cannot be sent, else its recall begins. MVGO sends the source's
lines; MVREF and MVABT end the move with STAT 2; MVDONE of the phase awaited writes the entry, gives back the run and ends
the move. MVDATA gathers lines, and the last one stores the page. MVCLR makes the peer's page TZ. A frame that nothing
waits for raises "unmatched frame". A message enters its core's queue while it has room, and rides on otherwise. -/
def Obligations.MovesWithPeers : Prop :=
  (∀ (s : State) (f : Frame), holding s = true →
    exec (.mvreq f) s = .next (settle (s)) ∧ exec (.mvgo f) s = .next (settle (s)) ∧ exec (.mvref f) s = .next (settle
      (s)) ∧ exec (.mvdata f) s = .next (settle (s)) ∧ exec (.mvdone f) s = .next (settle (s)) ∧ exec (.mvget f) s =
      .next (settle (s)) ∧ exec (.mvclr f) s = .next (settle (s)) ∧ exec (.mvabt f) s = .next (settle (s))) ∧
  (∀ (s : State) (f : Frame), moveKeyWaits s f = true →
    exec (.mvreq f) s = .next (settle (s)) ∧ exec (.mvget f) s = .next (settle (s))) ∧
  (∀ (s : State) (f : Frame) (o : OldSet), TakenUnder s f o → holding s = false →
    exec (.mvgo f) s = .next (settle (flow (putSet (dropTaken (mvgo (putSet s o) f) f) (activeSet s)))) ∧ exec
      (.mvdata f) s = .next (settle (flow (putSet (dropTaken (mvdata (putSet s o) f) f) (activeSet s)))) ∧ exec
      (.mvdone f) s = .next (settle (flow (putSet (dropTaken (mvdone (putSet s o) f) f) (activeSet s)))) ∧ exec
      (.mvclr f) s = .next (settle (flow (putSet (dropTaken (mvclr (putSet s o) f) f) (activeSet s)))) ∧ exec (.mvabt
      f) s = .next (settle (flow (putSet (dropTaken (mvabt (putSet s o) f) f) (activeSet s))))) ∧
  (∀ (s : State) (f : Frame), holding s = false → TakenNow s f → moveKeyWaits s f = false → s.code = Mode.safe →
    exec (.mvreq f) s = .next (settle (flow (dropTaken (abortTo s f) f)))) ∧
  (∀ (s : State) (f : Frame), holding s = false → TakenNow s f → moveKeyWaits s f = false → s.code ≠ Mode.safe →
    pageGood s (pageOf (f.line * 64)) = false ∨ eState (storedEntry s (pageOf (f.line * 64))) < 4 →
    exec (.mvreq f) s = .next (settle (flow (dropTaken (sendMove s f.src 3 f.txid f.tag (f.line * 64) (BitVec.ofNat
      512 1) false) f)))) ∧
  (∀ (s : State) (f : Frame), holding s = false → TakenNow s f → moveKeyWaits s f = false → s.code ≠ Mode.safe →
    pageGood s (pageOf (f.line * 64)) = true → 4 ≤ eState (storedEntry s (pageOf (f.line * 64))) →
    pageBusy s (pageOf (f.line * 64)) = true →
    exec (.mvreq f) s = .next (settle (flow (dropTaken (sendMove s f.src 3 f.txid f.tag (f.line * 64) (BitVec.ofNat
      512 3) false) f)))) ∧
  (∀ (s : State) (f : Frame), holding s = false → TakenNow s f → moveKeyWaits s f = false → s.code ≠ Mode.safe →
    pageGood s (pageOf (f.line * 64)) = true → 4 ≤ eState (storedEntry s (pageOf (f.line * 64))) →
    pageBusy s (pageOf (f.line * 64)) = false → tagSlot s f.tag = none →
    exec (.mvreq f) s = .next (settle (flow (dropTaken (abortTo (keyRefused s Src.noKeySelection 0 (pageOf (f.line *
      64) * 4096) {}) f) f)))) ∧
  (∀ (s v : State) (f : Frame) (k : Nat), holding s = false → TakenNow s f → moveKeyWaits s f = false →
    s.code ≠ Mode.safe → pageGood s (pageOf (f.line * 64)) = true →
    4 ≤ eState (storedEntry s (pageOf (f.line * 64))) → pageBusy s (pageOf (f.line * 64)) = false →
    tagSlot s f.tag = some k → keyLoaded s k = true → v = writeBlock s (pageOf (f.line * 64)) →
    ∀ w, allocate v false (allocSet v (storedEntry s (pageOf (f.line * 64))) false 4) 4 false (pageOf (f.line * 64)) =
      (w, none) →
    exec (.mvreq f) s = .next (settle (flow (dropTaken (sendMove w f.src 3 f.txid f.tag (f.line * 64) (BitVec.ofNat
      512 2) false) f)))) ∧
  (∀ (s v : State) (f : Frame) (k n : Nat), holding s = false → TakenNow s f → moveKeyWaits s f = false →
    s.code ≠ Mode.safe → pageGood s (pageOf (f.line * 64)) = true →
    4 ≤ eState (storedEntry s (pageOf (f.line * 64))) → pageBusy s (pageOf (f.line * 64)) = false →
    tagSlot s f.tag = some k → keyLoaded s k = true → v = writeBlock s (pageOf (f.line * 64)) →
    n = allocSet v (storedEntry s (pageOf (f.line * 64))) false 4 →
    ∀ w r left x, allocate v false n 4 false (pageOf (f.line * 64)) = (w, some (r, left)) →
    x =
      { dev := f.src, mid := f.txid, page := (pageOf (f.line * 64)), tag := f.tag, sending := false, run := r, rid := n, since := w.clock, key := k, cset := takenSet w f, release := left }
      →
    exec (.mvreq f) s = .next (settle (flow (dropTaken (sendMove
      { w with tier := { w.tier with peerMoves := w.tier.peerMoves ++ [x] } } f.src 2 f.txid f.tag ((pageOf (f.line *
      64)) * 4096) 0 false) f)))) ∧
  (∀ (s : State) (f : Frame), holding s = false → TakenNow s f → moveKeyWaits s f = false →
    s.code = Mode.safe ∨ pageServable s (pageOf (f.line * 64)) = false ∨ mapUnread s (pageOf (f.line * 64)) = true ∨
      eState (storedEntry s (pageOf (f.line * 64))) = Ent.tr ∨ pageBusy s (pageOf (f.line * 64)) = true →
    exec (.mvget f) s = .next (settle (flow (dropTaken (abortTo s f) f)))) ∧
  (∀ (s v : State) (f : Frame) (k : Nat) (x : PeerMove), holding s = false → TakenNow s f → moveKeyWaits s f = false →
    s.code ≠ Mode.safe → pageServable s (pageOf (f.line * 64)) = true → mapUnread s (pageOf (f.line * 64)) = false →
    eState (storedEntry s (pageOf (f.line * 64))) ≠ Ent.tr → pageBusy s (pageOf (f.line * 64)) = false →
    tagSlot s f.tag = some k → keyLoaded s k = true →
    v = { (takeId s).1 with tier := { (takeId s).1.tier with peerMoves := (takeId s).1.tier.peerMoves ++ [x] } } →
    x =
      { dev := f.src, mid := f.txid, page := (pageOf (f.line * 64)), tag := f.tag, sending := true, rid := (takeId s).2, since := (takeId s).1.clock, key := k, cset := takenSet (takeId s).1 f }
      →
    exec (.mvget f) s = .next (settle (flow (dropTaken (submit (dropBuffer v (pageOf (f.line * 64)))
      { mkInternal v (takeId s).2 .move 2 v.devId ((pageOf (f.line * 64)) * 4096) with tag := f.tag, slot := some k })
      f)))) ∧
  (∀ (s v : State) (f : Frame) (m : Move) (ls : List (Line × Bool)), holding s = false → TakenNow s f →
    s.tier.moves.find? (fun m => decide (m.id % 65536 = f.txid ∧ m.phase = 4 ∧ m.dev = f.src)) = some m →
    (if m.lines ≠ [] then (s, linesOfMap m.lines) else pageNow s m.page (m.key.getD 0) []) = (v, ls) →
    exec (.mvgo f) s = .next (settle (flow (dropTaken (sendPage (putMove v
      { m with phase := 5, npois := poisonCount ls, since := v.clock, lines := [] }) m.dev m.id m.tag (m.ppage * 4096)
      ls) f)))) ∧
  (∀ (s : State) (f : Frame) (m : Move), holding s = false → TakenNow s f →
    s.tier.moves.find? (fun m => decide (m.id % 65536 = f.txid ∧ movePeer m = some f.src) && [4].contains m.phase) =
      some m → m.phase ≠ 7 → exec (.mvref f) s = .next (settle (flow (dropTaken (moveFail s m 2 []) f)))) ∧
  (∀ (s : State) (f : Frame) (m : Move), holding s = false → TakenNow s f → peerMoveOf s f = none →
    s.tier.moves.find? (fun m => decide (m.id % 65536 = f.txid ∧ movePeer m = some f.src) && [3, 4, 5, 6, 7].contains
      m.phase) = some m →
    exec (.mvabt f) s = .next (settle (flow (dropTaken (moveFail s m 2 (if m.phase = 7 then m.release ++ entryRuns
      m.new else [])) f)))) ∧
  (∀ (s : State) (f : Frame) (x : PeerMove), holding s = false → TakenNow s f → peerMoveOf s f = some x →
    exec (.mvabt f) s = .next (settle (flow (dropTaken (endPeerMove s x) f)))) ∧
  (∀ (s : State) (f : Frame) (x : PeerMove), holding s = false → TakenNow s f → peerMoveOf s f = some x →
    x.done = false →
    exec (.mvclr f) s = .next (settle (flow (dropTaken (peerDone (putPage s x.page (mkEnt Ent.tz (eOwn (storedEntry s
      x.page)) (eSet (storedEntry s x.page)) 0) 0) x (entryRuns (storedEntry s x.page))) f)))) ∧
  (∀ (s : State) (f : Frame) (x : PeerMove), holding s = false → TakenNow s f → peerMoveOf s f = some x →
    x.done = true → exec (.mvclr f) s = .next (settle (flow (dropTaken (s) f)))) ∧
  (∀ (s v : State) (x : PeerMove) (runs : List Run), pushAll s runs = (v, []) →
    peerDone s x runs = sendMove (dropPeerMove v x) x.dev 5 x.mid x.tag (x.page * 4096) 0 false) ∧
  (∀ (s : State) (f : Frame), holding s = false → TakenNow s f → peerMoveOf s f = none → s.tier.moves = [] →
    exec (.mvgo f) s = .next (settle (flow (dropTaken (unmatchedMove s f) f))) ∧ exec (.mvref f) s = .next (settle
      (flow (dropTaken (unmatchedMove s f) f))) ∧ exec (.mvdata f) s = .next (settle (flow (dropTaken (unmatchedMove s
      f) f))) ∧ exec (.mvdone f) s = .next (settle (flow (dropTaken (unmatchedMove s f) f))) ∧ exec (.mvclr f) s =
      .next (settle (flow (dropTaken (unmatchedMove s f) f))) ∧ exec (.mvabt f) s = .next (settle (flow (dropTaken
      (unmatchedMove s f) f)))) ∧
  (∀ (s : State) (f : Frame) (v : State) (x y : PeerMove), holding s = false → TakenNow s f →
    peerMoveOf s f = some x → x.sending = false → x.done = false →
    y =
      { x with lines := smInsert (smErase x.lines (f.line % 64)) (f.line % 64) (f.data, decide (128 ≤ f.opcode)), since := s.clock }
      → v = { s with tier := { s.tier with peerMoves := s.tier.peerMoves.map (fun z => if z = x then y else z) } } →
    (y.lines.length ≠ 64 → exec (.mvdata f) s = .next (settle (flow (dropTaken v f)))) ∧ (y.lines.length = 64 →
    exec (.mvdata f) s = .next (settle (flow (dropTaken (peerStore v y) f))))) ∧
  (∀ (s : State) (f : Frame) (m n : Move), holding s = false → TakenNow s f → peerMoveOf s f = none →
    s.tier.moves.find? (fun m => decide (m.id % 65536 = f.txid ∧ m.phase = 6 ∧ eDev m.old = f.src)) = some m →
    n =
      { m with lines := smInsert (smErase m.lines (f.line % 64)) (f.line % 64) (f.data, decide (128 ≤ f.opcode)), since := s.clock }
      → n.lines.length < 64 → exec (.mvdata f) s = .next (settle (flow (dropTaken (putMove s n) f)))) ∧
  (∀ (s : State) (f : Frame) (m n : Move), holding s = false → TakenNow s f → peerMoveOf s f = none →
    s.tier.moves.find? (fun m => decide (m.id % 65536 = f.txid ∧ m.phase = 6 ∧ eDev m.old = f.src)) = some m →
    n =
      { m with lines := smInsert (smErase m.lines (f.line % 64)) (f.line % 64) (f.data, decide (128 ≤ f.opcode)), since := s.clock }
      → 64 ≤ n.lines.length → m.cset = s.sets.swaps →
    exec (.mvdata f) s = .next (settle (flow (dropTaken (moveLines s n (linesOfMap n.lines)) f)))) ∧
  (∀ (s v : State) (f : Frame) (m : Move), holding s = false → TakenNow s f →
    s.tier.moves.find? (fun m => decide (m.id % 65536 = f.txid)) = some m → m.phase = 5 → m.dev = f.src →
    v = putPage s m.page (BitVec.ofNat 64 (Ent.tr * 2 ^ 61 + eOwn m.old * 2 ^ 56 + eSet m.old * 2 ^ 51 + m.dev * 2 ^
      41 + m.ppage * 2 ^ 7)) 0 →
    exec (.mvdone f) s = .next (settle (flow (dropTaken (moveEnd v m (if m.npois = 0 then 0 else 3) (storedEntry v
      m.page) m.npois (entryRuns m.old)) f)))) ∧
  (∀ (s v : State) (f : Frame) (m : Move), holding s = false → TakenNow s f →
    s.tier.moves.find? (fun m => decide (m.id % 65536 = f.txid)) = some m → m.phase = 7 → eDev m.old = f.src →
    v = endLost (setEntry s m.page m.new) m.page →
    exec (.mvdone f) s = .next (settle (flow (dropTaken (moveEnd v m (if m.npois = 0 then 0 else 3) (storedEntry v
      m.page) m.npois m.release) f)))) ∧
  (∀ (s u : State) (f : Frame) (n : Nat), u = dropTaken s f → n = f.opcode % 16 → msgCount (s.core n) < 56 →
    exec (.msgFrame f) s = .next (settle (u.setCore n ((u.core n).enqueue (u.clock / CLK)
      { kind := 0, snd := 16, sdev := f.src, score := f.txid % 16, spl := f.opcode.testBit 4, data := f.data })))) ∧
  (∀ (s : State) (f : Frame), 56 ≤ msgCount (s.core (f.opcode % 16)) → exec (.msgFrame f) s = .next (settle (s)))

/-- A TIDE frame is noted with its HOPS; a member that is not the master follows it when it comes from its parent, and
goes to SAFE when its generation differs; a device outside a pool hears candidates while it forms one, joins by a BEACON
when enabled, else ignores it. TIDE frames are sent once in each 2^20 tides. A limit of 2^21 tides above 2 clocks raises
its source once; a parent lost brings holdover, which ends when the new one is READY; the alarm comes once. A candidate of
4 periods becomes master. HBEAT is answered, HBACK noted, losses excluded; a standby that hears none probes, and takes
over with a majority or goes to SAFE. -/
def Obligations.TideAndHeartbeat : Prop :=
  (∀ (s u v : State) (l : Fin 32) (f : Frame) (a : Nat) (k : Fin 16), u = tick (dropTaken s f) bTide 0 1 →
    v = { u with tideU := { u.tideU with peerHops := smSet 0 u.tideU.peerHops l (pay f 19 1) } } → inPool v = true →
    isMaster v = true → exec (.tideFrame l f a k) s = .next (settle (v))) ∧
  (∀ (s u v : State) (l : Fin 32) (f : Frame) (a : Nat) (k : Fin 16), u = tick (dropTaken s f) bTide 0 1 →
    v = { u with tideU := { u.tideU with peerHops := smSet 0 u.tideU.peerHops l (pay f 19 1) } } → inPool v = true →
    isMaster v = false → u.tideU.parent ≠ some l.val →
    exec (.tideFrame l f a k) s = .next (settle (if genAt v (pay f 0 8) ≠ pay f 8 3 then swapMiss v else v))) ∧
  (∀ (s u v : State) (l : Fin 32) (f : Frame) (a : Nat) (k : Fin 16), u = tick (dropTaken s f) bTide 0 1 →
    v = { u with tideU := { u.tideU with peerHops := smSet 0 u.tideU.peerHops l (pay f 19 1) } } → inPool v = true →
    isMaster v = false → u.tideU.parent = some l.val → ∀ w, w = followParent v f (tideError u l (pay f 0 8) a k) →
    exec (.tideFrame l f a k) s = .next (settle (if genAt w (pay f 0 8) ≠ pay f 8 3 then swapMiss w else w))) ∧
  (∀ (s u v : State) (l : Fin 32) (f : Frame) (a : Nat) (k : Fin 16), u = tick (dropTaken s f) bTide 0 1 →
    v = { u with tideU := { u.tideU with peerHops := smSet 0 u.tideU.peerHops l (pay f 19 1) } } → inPool v = false →
    (pay f 11 1).testBit 2 = true →
    exec (.tideFrame l f a k) s = .next (settle (if v.bit Reg.POOL_CFG 4 then hearCandidate v (pay f 16 2 % 1024, pay
      f 18 1 % 16) else v))) ∧
  (∀ (s u v : State) (l : Fin 32) (f : Frame) (a : Nat) (k : Fin 16), u = tick (dropTaken s f) bTide 0 1 →
    v = { u with tideU := { u.tideU with peerHops := smSet 0 u.tideU.peerHops l (pay f 19 1) } } → inPool v = false →
    (pay f 11 1).testBit 2 = false →
    ((pay f 11 1).testBit 0 && v.bit Reg.POOL_CFG 0 && v.bit Reg.POOL_CFG 1 && decide (role v = 0)) = true →
    exec (.tideFrame l f a k) s = .next (settle (beaconJoin v l f (tideError u l (pay f 0 8) a k)))) ∧
  (∀ (s u v : State) (l : Fin 32) (f : Frame) (a : Nat) (k : Fin 16), u = tick (dropTaken s f) bTide 0 1 →
    v = { u with tideU := { u.tideU with peerHops := smSet 0 u.tideU.peerHops l (pay f 19 1) } } → inPool v = false →
    (pay f 11 1).testBit 2 = false →
    ((pay f 11 1).testBit 0 && v.bit Reg.POOL_CFG 0 && v.bit Reg.POOL_CFG 1 && decide (role v = 0)) = false →
    exec (.tideFrame l f a k) s = .next (settle (v))) ∧
  (∀ (s : State), s.tide % 2 ^ 20 ≠ 0 ∨ s.tideU.sent = some (s.tide / 2 ^ 20) →
    exec .tideFrameSend s = .next (settle (s))) ∧
  (∀ (s u : State), s.tide % 2 ^ 20 = 0 → s.tideU.sent ≠ some (s.tide / 2 ^ 20) →
    u = { s with tideU := { s.tideU with sent := some (s.tide / 2 ^ 20) } } → (inPool u = true →
    exec .tideFrameSend s = .next (settle (sendTides (sendTides u false false ((childDirs u).filterMap (faceLink u)))
      true false (beaconLinks u)))) ∧ (inPool u = false → u.bit Reg.POOL_CFG 0 = true → u.bit Reg.POOL_CFG 4 = true →
    exec .tideFrameSend s = .next (settle (formingSend u))) ∧ (inPool u = false →
    u.bit Reg.POOL_CFG 0 = false ∨ u.bit Reg.POOL_CFG 4 = false → exec .tideFrameSend s = .next (settle (u)))) ∧
  (∀ (s : State) (t : Nat), s.tideU.excess = some t → TideExpiryActs s (some (t + 2 ^ 21)) → (t + 2 ^ 21 ≤ s.tide →
    exec .tideErrorLimit s = .next (settle (raisePool { s with tideU := { s.tideU with excess := none } } 8 (masterId
      s)))) ∧ (s.tide < t + 2 ^ 21 → exec .tideErrorLimit s = .next (settle (s)))) ∧
  (∀ (s : State), s.tideU.excess = none → exec .tideErrorLimit s = .next (settle (s))) ∧
  (∀ (s : State) (l : Nat), s.tideU.parent = some l → readyLink s l = false → inPool s = true →
    ∀ x, (faceLink s (linkDir l) = x ∧ x ≠ none ∨ faceLink s (linkDir l) = none ∧ x = (List.range 32).find? (fun k =>
      readyLink s k && decide (smGet 0 s.tideU.peerHops k < s.tideU.hops))) →
    exec .tideParentLost s = .next (settle (raisePool
      ({ s with tideU := { s.tideU with parent := x, holdFrom := s.clock } }.setBit Reg.POOL_STAT 27 true) 9
      s.devId))) ∧
  (∀ (s : State), (s.tideU.parent = none ∨ (∃ l, l < 32 ∧ s.tideU.parent = some l ∧ (readyLink s l = true ∨ inPool s =
    false))) → exec .tideParentLost s = .next (settle (s))) ∧
  (∀ (s : State) (l : Nat), s.tideU.parent = some l → (readyLink s l = true →
    exec .holdoverEnd s = .next (settle (s.setBit Reg.POOL_STAT 27 false))) ∧ (readyLink s l = false →
    exec .holdoverEnd s = .next (settle (s)))) ∧
  (∀ (s : State), s.tideU.parent = none → exec .holdoverEnd s = .next (settle (s))) ∧
  (∀ (s : State), tideAt s ≤ s.tide → s.tideU.alarmed ≠ some (tideAt s) →
    exec .tideAlarm s = .next (settle (raisePool { s with tideU := { s.tideU with alarmed := some (tideAt s) } } 16
      s.devId))) ∧
  (∀ (s : State), s.tide < tideAt s ∨ s.tideU.alarmed = some (tideAt s) → exec .tideAlarm s = .next (settle (s))) ∧
  (∀ (s u : State) (t : Word) (p n : Nat), s.pool.cand = some (s.devId, p, n) → 4 ≤ n → role s = 0 →
    s.bit Reg.POOL_CFG 0 = true → s.bit Reg.POOL_CFG 4 = true → masterCapable s = true → u = poolEpoch s t →
    exec (.masterElection t) s = .next (settle (applyMemb (setRole u 3)
      { tide := 0, gen := 1, add := [u.devId], remove := [] }))) ∧
  (∀ (s u : State) (t : Word), u = s.setReg Reg.POOL_TOPO t →
    ∀ v, v = tideJump (setStandby (setMaster u u.devId) u.devId) 0 0 true →
    poolEpoch s t =
      { v with pool := { v.pool with cand := none, capable := [(v.devId, poolPrio v)], reports := [], hbSent := none }, tideU := { v.tideU with hops := 0, parent := none, sent := none } }) ∧
  (∀ (s : State) (t : Word), s.pool.cand = none ∨ role s ≠ 0 ∨ s.bit Reg.POOL_CFG 4 = false →
    exec (.masterElection t) s = .next (settle (s))) ∧
  (∀ (s u : State) (f : Frame), u = dropTaken s f → inPool u = true → f.src = masterId u →
    exec (.hbeat f) s = .next (settle (poolSend { u with pool := { u.pool with hbAt := u.tide } } f.src 0x06 (natBytes
      8 (pay f 0 8))))) ∧
  (∀ (s u : State) (f : Frame), u = dropTaken s f → inPool u = true → f.src ≠ masterId u →
    exec (.hbeat f) s = .next (settle (poolSend u f.src 0x06 (natBytes 8 (pay f 0 8))))) ∧
  (∀ (s u : State) (f : Frame), u = dropTaken s f → inPool u = false → exec (.hbeat f) s = .next (settle (u))) ∧
  (∀ (s u : State) (f : Frame), u = dropTaken s f → u.pool.probing = none → isMaster u = true →
    exec (.hback f) s = .next (settle ({ u with pool := { u.pool with misses := smSet 0 u.pool.misses f.src 0 } }))) ∧
  (∀ (s u : State) (f : Frame), u = dropTaken s f → u.pool.probing = none → isMaster u = false →
    exec (.hback f) s = .next (settle (u))) ∧
  (∀ (s u : State) (f : Frame) (t : Nat) (l : List Nat), u = dropTaken s f → u.pool.probing = some (t, l) →
    (l.contains f.src = true → exec (.hback f) s = .next (settle (u))) ∧ (l.contains f.src = false →
    exec (.hback f) s = .next (settle ({ u with pool := { u.pool with probing := some (t, l ++ [f.src]) } })))) ∧
  (∀ (s u : State) (o : List Nat), isMaster s = true → inPool s = true → s.pool.hbSent ≠ some (s.tide / hbTides) →
    o = (members s).filter (fun d => decide (d ≠ s.devId)) → u = poolSendAll s 0x05 (natBytes 8 s.tide) o →
    exec .heartbeatSend s = .next (settle
      ({ u with pool := { u.pool with hbSent := some (s.tide / hbTides), misses := o.foldl (fun m d => smSet 0 m d (smGet 0 m d + 1)) u.pool.misses } }))) ∧
  (∀ (s : State), isMaster s = false ∨ inPool s = false ∨ s.pool.hbSent = some (s.tide / hbTides) →
    exec .heartbeatSend s = .next (settle (s))) ∧
  (∀ (s : State), isMaster s = true → lostMembers s ≠ [] → TideExpiryActs s (some (s.tide / hbTides * hbTides)) →
    exec .heartbeatMissLimit s = .next (settle (judgeQuorum (masterMemb s 0 [] (lostMembers s)) (members s).length))) ∧
  (∀ (s : State), isMaster s = false ∨ lostMembers s = [] → TideExpiryActs s (some (s.tide / hbTides * hbTides)) →
    exec .heartbeatMissLimit s = .next (settle (s))) ∧
  (∀ (s : State), inPool s = true → role s = 2 → s.pool.probing = none → s.pool.hbAt + 4 * hbTides ≤ s.tide →
    TideExpiryActs s (some (s.pool.hbAt + 4 * hbTides)) →
    exec .standbyProbeStart s = .next (settle (poolSendAll
      { s with pool := { s.pool with probing := some (s.tide, []) } } 0x05 (natBytes 8 s.tide) (members s)))) ∧
  (∀ (s : State), inPool s = false ∨ role s ≠ 2 ∨ s.pool.probing.isSome = true ∨ s.tide < s.pool.hbAt + 4 * hbTides →
    TideExpiryActs s (some (s.pool.hbAt + 4 * hbTides)) → exec .standbyProbeStart s = .next (settle (s))) ∧
  (∀ (s u : State) (t : Nat) (l a : List Nat), s.pool.probing = some (t, l) →
    TideExpiryActs s (some (t + 4 * hbTides)) → t + 4 * hbTides ≤ s.tide →
    a = l.filter (fun d => isMember s d && decide (d ≠ s.devId)) →
    u = { s with pool := { s.pool with probing := none } } → ((members s).length < 2 * (a.length + 1) →
    exec .standbyProbeEnd s = .next (settle (takeOver u a))) ∧ (2 * (a.length + 1) ≤ (members s).length →
    exec .standbyProbeEnd s = .next (settle (safeReact u)))) ∧
  (∀ (s : State), s.pool.probing = none → exec .standbyProbeEnd s = .next (settle (s))) ∧
  (∀ (s : State) (t : Nat) (l : List Nat), s.pool.probing = some (t, l) → s.tide < t + 4 * hbTides →
    exec .standbyProbeEnd s = .next (settle (s))) ∧
  (∀ (s : State), inPool s = true → isMaster s = false → s.pool.hbAt + 16 * hbTides ≤ s.tide →
    TideExpiryActs s (some (s.pool.hbAt + 16 * hbTides)) → exec .heartbeatLoss s = .next (settle (noQuorum s))) ∧
  (∀ (s : State), inPool s = false ∨ isMaster s = true ∨ s.tide < s.pool.hbAt + 16 * hbTides →
    TideExpiryActs s (some (s.pool.hbAt + 16 * hbTides)) → exec .heartbeatLoss s = .next (settle (s))) ∧
  (∀ (s u : State) (f : Frame), u = dropTaken s f → inPool u = true →
    exec (.takeover f) s = .next (settle (setParent (memberRole (setMaster
      { u with pool := { u.pool with hbAt := u.tide } } f.src))))) ∧
  (∀ (s u : State) (f : Frame), u = dropTaken s f → inPool u = false → exec (.takeover f) s = .next (settle (u))) ∧
  (∀ (s u : State) (f : Frame), u = dropTaken s f → inPool u = true →
    exec (.snap f) s = .next (settle (snapSchedule u (pay f 0 8) (pay f 8 1)))) ∧
  (∀ (s u : State) (f : Frame), u = dropTaken s f → inPool u = false → exec (.snap f) s = .next (settle (u)))

/-- JOIN reaches the master alone: it refuses a member with 1, a wrong position with 2, a full pool with 3, else answers
WELCOME and schedules the change ahead. WELCOME and REFUSE act on a joining device, LEAVE on the master. MEMB is taken
with its tide; due changes apply in the order of their tides. ROUTE applies; a link report reaches the master; PROBE gives
a course its length and a course seed starts the seeding or a PROBE. ARMED reaches the master; COMMIT that is late or
names another set is a missed swap, else committed and acknowledged; CMACK is noted; FINAL excludes, or sends a named
device to SAFE; an abort drops an armed set; a calendar segment goes to the shadow. POOL_CFG is written. -/
def Obligations.PoolMembership : Prop :=
  (∀ (s u : State) (f : Frame), u = dropTaken s f → isMaster u = false → exec (.join f) s = .next (settle (u))) ∧
  (∀ (s u : State) (f : Frame), u = dropTaken s f → isMaster u = true → isMember u f.src = true →
    exec (.join f) s = .next (settle (poolSend u f.src 0x03 [1]))) ∧
  (∀ (s u : State) (f : Frame), u = dropTaken s f → isMaster u = true → isMember u f.src = false →
    neighboursMatch u f.src = false →
    exec (.join f) s = .next (settle (raisePool (poolSend u f.src 0x03 [2]) 14 f.src))) ∧
  (∀ (s u : State) (f : Frame), u = dropTaken s f → isMaster u = true → isMember u f.src = false →
    neighboursMatch u f.src = true → topoDX u * topoDY u ≤ (members u).length →
    exec (.join f) s = .next (settle (poolSend u f.src 0x03 [3]))) ∧
  (∀ (s u : State) (f : Frame), u = dropTaken s f → isMaster u = true → isMember u f.src = false →
    neighboursMatch u f.src = true → (members u).length < topoDX u * topoDY u → ∀ v w t g, t = aheadTide u →
    g = (mgen u.draw + 1) % 65536 →
    v = poolSend u.draw f.src 0x02 (natBytes 8 t ++ natBytes 3 (setGen u.draw) ++ natBytes 2 g) →
    w = sendMembs v t g true [f.src] (membParts 41 (members v)) →
    exec (.join f) s = .next (settle (masterMemb (if (pay f 0 1).testBit 4 then
      { w with pool := { w.pool with capable := w.pool.capable ++ [(f.src, pay f 0 1 % 16)] } } else w) t [f.src]
      []))) ∧
  (∀ (s u : State) (f : Frame), u = dropTaken s f → role u ≠ 4 → exec (.welcome f) s = .next (settle (u))) ∧
  (∀ (s u v : State) (f : Frame), u = dropTaken s f → role u = 4 → v = u.setF Reg.PAL_SETSTAT 23 0 (pay f 8 3) →
    exec (.welcome f) s = .next (settle (takeMemb
      { v with pool := { v.pool with welcome := some (pay f 0 8, pay f 8 3, pay f 11 2) } }
      { tide := pay f 0 8, gen := pay f 11 2, add := [v.devId], remove := [] }))) ∧
  (∀ (s u : State) (f : Frame), u = dropTaken s f → role u = 4 →
    exec (.refuse f) s = .next (settle (raisePool (setRole (ownReference
      { u with pool := { u.pool with joining := false } }) 0) 13 f.src))) ∧
  (∀ (s u : State) (f : Frame), u = dropTaken s f → role u ≠ 4 → exec (.refuse f) s = .next (settle (u))) ∧
  (∀ (s u : State) (f : Frame), u = dropTaken s f → isMaster u = true → isMember u f.src = true →
    exec (.leave f) s = .next (settle (masterMemb u.draw (aheadTide u) [] [f.src]))) ∧
  (∀ (s u : State) (f : Frame), u = dropTaken s f → isMaster u = false ∨ isMember u f.src = false →
    exec (.leave f) s = .next (settle (u))) ∧
  (∀ (s u : State) (f : Frame), u = dropTaken s f →
    exec (.memb f) s = .next (settle (takeMemb u
      { tide := pay f 0 8, gen := pay f 8 2, add := membIds f true, remove := membIds f false }))) ∧
  (∀ (s : State) (c : MembChg), (c.tide = 0 → takeMemb s c = applyMemb s c) ∧ (c.tide ≠ 0 →
    takeMemb s c = { s with pool := { s.pool with changes := s.pool.changes ++ [c] } })) ∧
  (∀ (s : State) (c : MembChg), s.pool.changes = [c] → (c.tide ≤ s.tide →
    exec .membershipApply s = .next (settle (applyMemb { s with pool := { s.pool with changes := [] } } c))) ∧ (s.tide
      < c.tide → exec .membershipApply s = .next (settle (s)))) ∧
  (∀ (s : State), s.pool.changes = [] → exec .membershipApply s = .next (settle (s))) ∧
  (∀ (s u : State) (f : Frame), u = dropTaken s f →
    exec (.route f) s = .next (settle (applyRoute u (pay f 0 1 % 4) (pay f 1 1) (pay f 2 1) (pay f 3 1) (pay f 4 4)))) ∧
  (∀ (s u : State) (f : Frame), u = dropTaken s f → isMaster u = true →
    exec (.linkrep f) s = .next (settle (takeReport u f.src (pay f 4 1 % 32) (nfld (pay f 0 4) 28 27) (decide (nfld
      (pay f 0 4) 31 29 = 4 ∨ nfld (pay f 0 4) 31 29 = 5))))) ∧
  (∀ (s u : State) (f : Frame), u = dropTaken s f → isMaster u = false → exec (.linkrep f) s = .next (settle (u))) ∧
  (∀ (s u : State) (f : Frame) (e : Nat × Nat), u = dropTaken s f →
    u.pool.probe.find? (fun e => decide (e.1 = f.tag)) = some e →
    exec (.probe f) s = .next (settle
      ({ u with pool := { u.pool with probe := u.pool.probe.erase e, course := smSet 0 u.pool.course e.1 (u.tide - e.2) } }))) ∧
  (∀ (s u : State) (f : Frame), u = dropTaken s f → u.pool.probe.find? (fun e => decide (e.1 = f.tag)) = none →
    exec (.probe f) s = .next (settle (u))) ∧
  (∀ (s : State) (l : Fin 32) (n : Nat), isOrigin s l.val = true → linkUp s l.val = true →
    n = smGet 0 s.pool.course l.val → (n = 0 →
    exec (.courseSeed l) s = .next (settle (launchOn
      { s with pool := { s.pool with probe := s.pool.probe ++ [(l.val, s.tide)] } }
      { ty := 5, dest := { s with pool := { s.pool with probe := s.pool.probe ++ [(l.val, s.tide)] } }.devId, opcode := 0x10, tag := l }
      2 (some l)))) ∧ (n ≠ 0 →
    exec (.courseSeed l) s = .next (settle (s.setLink l
      { s.link l with seed := some (0, n, ceilDiv n 16), hold := n })))) ∧
  (∀ (s : State) (l : Fin 32), isOrigin s l.val = false ∨ linkUp s l.val = false →
    exec (.courseSeed l) s = .next (settle (s))) ∧
  (∀ (s : State), TideExpiryActs s (if s.pool.credits.any (fun c => decide (c.2 + 4096 = s.tide)) then some s.tide
    else none) →
    exec .reservedCreditLapse s = .next (settle
      ({ s with pool := { s.pool with credits := s.pool.credits.filter (fun c => decide (s.tide < c.2 + 4096)) } }))) ∧
  (∀ (s u : State) (f : Frame), u = dropTaken s f → isMaster u = true → isMember u f.src = true →
    exec (.armed f) s = .next (settle (recordArmed u f.src (pay f 8 3)))) ∧
  (∀ (s u : State) (f : Frame), u = dropTaken s f → isMaster u = false ∨ isMember u f.src = false →
    exec (.armed f) s = .next (settle (u))) ∧
  (∀ (s u : State) (f : Frame) (t g : Nat), u = dropTaken s f → t = pay f 0 8 → g = pay f 8 3 →
    t < u.tide + 1250 ∨ setArmed u = false ∨ g ≠ shadowGen u → exec (.commit f) s = .next (settle (swapMiss u))) ∧
  (∀ (s u : State) (f : Frame) (t g : Nat), u = dropTaken s f → t = pay f 0 8 → g = pay f 8 3 → u.tide + 1250 ≤ t →
    setArmed u = true → g = shadowGen u → committed u = false →
    ∀ v, v = poolSend (markCommitted u t) (masterId (markCommitted u t)) 0x0C (tideGen t g) →
    (standbyId v = masterId v → exec (.commit f) s = .next (settle (v))) ∧ (standbyId v ≠ masterId v →
    standbyId v = v.devId →
    exec (.commit f) s = .next (settle ({ v with pool := { v.pool with cmack := v.pool.cmack ++ [v.devId] } }))) ∧
      (standbyId v ≠ masterId v → standbyId v ≠ v.devId →
    exec (.commit f) s = .next (settle (poolSend v (standbyId v) 0x0C (tideGen t g))))) ∧
  (∀ (s u : State) (f : Frame), u = dropTaken s f → u.pool.cmack.contains f.src = true →
    exec (.cmack f) s = .next (settle (u))) ∧
  (∀ (s u : State) (f : Frame), u = dropTaken s f → u.pool.cmack.contains f.src = false →
    exec (.cmack f) s = .next (settle ({ u with pool := { u.pool with cmack := u.pool.cmack ++ [f.src] } }))) ∧
  (∀ (s u : State) (f : Frame) (t : Nat), u = dropTaken s f → t = pay f 0 8 → (finalNames f).contains u.devId = true →
    (u.tide < t →
    exec (.final f) s = .next (settle ({ u with sets := { u.sets with missed := true, commitTide := t } }))) ∧ (t ≤
      u.tide → exec (.final f) s = .next (settle (swapMiss u)))) ∧
  (∀ (s u : State) (f : Frame) (t : Nat), u = dropTaken s f → t = pay f 0 8 →
    (finalNames f).contains u.devId = false → (u.tide < t →
    exec (.final f) s = .next (settle
      ({ u with sets := { u.sets with excludeAt := u.sets.excludeAt ++ finalNames f, commitTide := t } }))) ∧ (t ≤
      u.tide → exec (.final f) s = .next (settle (excludeAll u (finalNames f))))) ∧
  (∀ (s u : State) (f : Frame), u = dropTaken s f → (committed u = true ∨ setArmed u = false →
    exec (.poolAbort f) s = .next (settle (u))) ∧ (committed u = false → setArmed u = true →
    exec (.poolAbort f) s = .next (settle (noticeAll (setLast (u.setBit Reg.PAL_SETSTAT 31 false) 2) 2 0 coreList)))) ∧
  (∀ (s u : State) (f : Frame), u = dropTaken s f → setArmed u = true ∨ calSegments ≤ pay f 0 2 →
    exec (.calseg f) s = .next (settle (u))) ∧
  (∀ (s u : State) (f : Frame), u = dropTaken s f → setArmed u = false → pay f 0 2 < calSegments →
    exec (.calseg f) s = .next (settle
      ({ u with sets := { u.sets with shadow := tabPut u.sets.shadow 0x20 (62 * pay f 0 2) (pay f 2 62) 62 } }))) ∧
  (∀ (s u : State) (p : Path) (v : Word), MayWriteGk s p Reg.POOL_CFG →
    u = (disarm s p).setReg Reg.POOL_CFG (v &&& 0x003FFF1B#32) → (bit v 2 = false →
    exec (.poolCfgWrite p v) s = .next (settle (u))) ∧ (bit v 2 = true →
    exec (.poolCfgWrite p v) s = .next (settle (poolLeave u)))) ∧
  (∀ (s u : State) (p : Path), MayWriteGk s p Reg.POOL_CFG →
    u = (disarm s p).setReg Reg.POOL_CFG (((disarm s p).reg Reg.POOL_CFG ||| 4#32) &&& 0x003FFF1B#32) →
    exec (.poolLeave p) s = .next (settle (poolLeave u))) ∧
  (∀ (s : State), (inPool s = false → poolLeave s = s) ∧ (inPool s = true → isMaster s = true →
    poolLeave s = masterMemb s.draw (aheadTide s) [] [s.devId]) ∧ (inPool s = true → isMaster s = false →
    poolLeave s = poolSend (setRole s 5) (masterId s) 0x04 []))

/-- For c the grain number of location L and w its place in the grain of G bytes: a parity set places it at position (s
mod 6 + 1 + c mod 5) mod 6 of stripe s = c div 5, offset s x G + w; a set of 3 x 2^k channels at position 2^k x d + c mod
2^k, offset t x G + w, with q = c >> k, t = q div 3, d = (q mod 3 + t mod 3) mod 3; a set of 2^k channels at position c
mod 2^k, offset (c >> k) x G + w. The map is one-to-one: position and offset give the location back. -/
def Obligations.LocationsArePlacedOneToOne : Prop :=
  (∀ (L g n c w : Nat), c = L / 2 ^ g → w = L % 2 ^ g →
    locatePos n true g L = ((c / 5 % 6 + 1 + c % 5) % 6, c / 5 * 2 ^ g + w) ∧ locOf n true g ((c / 5 % 6 + 1 + c % 5)
      % 6) (c / 5 * 2 ^ g + w) = some L) ∧
  (∀ (L g k c w q : Nat), c = L / 2 ^ g → w = L % 2 ^ g → q = c / 2 ^ k →
    locatePos (3 * 2 ^ k) false g L = (2 ^ k * ((q % 3 + q / 3 % 3) % 3) + c % 2 ^ k, q / 3 * 2 ^ g + w) ∧ locOf (3 *
      2 ^ k) false g (2 ^ k * ((q % 3 + q / 3 % 3) % 3) + c % 2 ^ k) (q / 3 * 2 ^ g + w) = some L) ∧
  (∀ (L g k c w : Nat), c = L / 2 ^ g → w = L % 2 ^ g →
    locatePos (2 ^ k) false g L = (c % 2 ^ k, c / 2 ^ k * 2 ^ g + w) ∧ locOf (2 ^ k) false g (c % 2 ^ k) (c / 2 ^ k *
      2 ^ g + w) = some L)

/-- The home slice of a DPA is a number below 4 whose bit i is the exclusive-OR of the bits i of the seventeen 2-bit
fields DPA[13:12] to DPA[45:44]; every line of a page has the page's home slice. -/
def Obligations.HomeSliceOfAPage : Prop :=
  (∀ (a : Nat), homeSlice a < 4) ∧
  (∀ (a i : Nat), i < 2 →
    (homeSlice a).testBit i = (List.range 17).foldr (fun k b => (a.testBit (12 + 2 * k + i)).xor b) false) ∧
  (∀ (p l : Nat), l < 64 → homeSlice (4096 * p + 64 * l) = homeSlice (4096 * p))

/-- No command of the table ends in a fault or a refusal, in any state and with any operands: exec answers a next state,
and so does every one of the next n steps, for every n, whether the queue holds commands or the device idles. -/
def Obligations.EveryRunGoesOn : Prop :=
  (∀ (c : Instr) (s : State), ∃ t, exec c s = .next t) ∧
  (∀ (n : Nat) (s : State), RunSafe n s)

/-- From every state in which no reaction of class ISOLATE, TRIM or SAFE is owed, a step that answers a next state,
whatever command stands in front and on an empty queue too, leaves none owed: each command ends with every reaction that
its assertions raised carried out. -/
def Obligations.ReactionsNeverStayOwed : Prop :=
  ∀ (s t : State), Quiet s → step s = .next t → Quiet t

/-- The machine right after reset owes no reaction and has an empty queue of commands (the queue is the model's, log entry
1). -/
def Obligations.NoReactionOwedAtReset : Prop :=
  Quiet State.reset ∧ QueueWf State.reset ∧ State.reset.pending = []

/-- For every Tamane instruction with every operand its encoding admits, the word built from its opcode, fields, func, xfn
and xarg reads back as that instruction; every word that reads as an instruction is the word built from it, so no bit of a
word is dropped and no two instructions share a word, TMR alone having a field, rs2, that the table neither uses nor marks
MBZ and that is ignored; the words that read as none are exactly those that ILLEGAL_INSTRUCTION traps as illegal. For
which commands a word exists: the three parts of coreWord name them. -/
def Obligations.TamaneWordsReadBack : Prop :=
  (∀ (i : Instr) (w : Word), coreWord i = some w → ∃ c, legalInstr c w = some i) ∧
  (∀ (c : Fin 16) (i : Instr) (w : Word), legalInstr c w = some i →
    coreWord i = some w ∨ (∃ a b, i = .tmr c a b) ∧ coreWord i = some (wordX (regField w 21) (regField w 16) 0 0x08
      0)) ∧
  (∀ (c : Fin 16) (w : Word), illegalWord w = (legalInstr c w).isNone)

/-- A timer's expiry that comes in the clock (for paludier timers the paludier clock, for pool timers the tide) of its
deadline changes nothing but that it waits for the end of that clock, where it is carried out if no arrival of the clock
has ended its wait: the key, index-pair, hold-limit, SAFE-capture, watchdog, WAIT, WAITT, staging, host-message, ARM,
FINAL, BISnp, extent-response, urgency and sample timers, the tide error, heartbeat and standby timers, and reserved
credits. (Replay, renegotiation, lock, end-to-end and slot timers: with their families. That a command may be queued ahead
of the arrival is the model's choice, log entry 251.) -/
def Obligations.ExpiriesGiveWayInTheirClock : Prop :=
  (∀ (s : State) (p : Path), (keyClock s.acc.keys p).map (fun c => c + 65536) = some s.clock → s.closing = false →
    exec (.keyExpiry p) s = .next { s with deferred := s.deferred ++ [.keyExpiry p] }) ∧
  (∀ (s : State) (n : Fin 4), (winOf s n).held.map (fun h => h.2.2 + 65536) = some s.clock → s.closing = false →
    exec (.idxPairTimeout n) s = .next { s with deferred := s.deferred ++ [.idxPairTimeout n] }) ∧
  (∀ (s : State), limitDue s = some s.clock → s.closing = false →
    exec .holdLimitExpiry s = .next { s with deferred := s.deferred ++ [.holdLimitExpiry] }) ∧
  (∀ (s : State), s.mode.safecapEnd = some s.clock → s.closing = false →
    exec .safecapExpiry s = .next { s with deferred := s.deferred ++ [.safecapExpiry] }) ∧
  (∀ (s : State) (c : Fin 16), (s.core c).wdog ≠ 0 → some (wdogDue (s.core c)) = some (s.clock / CLK) →
    s.closing = false → exec (.watchdogExpiry c) s = .next { s with deferred := s.deferred ++ [.watchdogExpiry c] }) ∧
  (∀ (s : State) (c : Fin 16), waitDue s c = some (s.clock / CLK) → s.closing = false →
    exec (.waitTimeout c) s = .next { s with deferred := s.deferred ++ [.waitTimeout c] }) ∧
  (∀ (s : State) (c : Fin 16), waitDue s c = some (s.clock / CLK) → s.closing = false →
    exec (.waittTideReached c) s = .next { s with deferred := s.deferred ++ [.waittTideReached c] }) ∧
  (∀ (s : State), s.sets.staging.map (fun g => g.clock + 10 * secClocks) = some s.clock → s.closing = false →
    exec .stagingClaimLapse s = .next { s with deferred := s.deferred ++ [.stagingClaimLapse] }) ∧
  (∀ (s : State) (c : Fin 16) (q : Fin 65536), (messageDue s c q).map HostMsg.until_ = some s.clock →
    s.closing = false →
    exec (.hostMessageTimeout c q) s = .next { s with deferred := s.deferred ++ [.hostMessageTimeout c q] }) ∧
  (∀ (s : State), s.pool.armFrom.map (fun c => c + 10 * msClocks) = some s.clock → s.closing = false →
    exec .armWaitTimeout s = .next { s with deferred := s.deferred ++ [.armWaitTimeout] }) ∧
  (∀ (s : State) (l : Fin 256) (line : Nat), (bisnpOf s l line).map (fun b => b.since + s.fld (Reg.HPX_TMO (l / 16))
    15 0 * usClocks) = some s.clock → s.closing = false →
    exec (.bisnpTimeout l line) s = .next { s with deferred := s.deferred ++ [.bisnpTimeout l line] }) ∧
  (∀ (s : State) (i : Fin 4096), dcdDue s i = some s.clock → s.closing = false →
    exec (.dcdResponseTimeout i) s = .next { s with deferred := s.deferred ++ [.dcdResponseTimeout i] }) ∧
  (∀ (s : State), (if urgNow s then some s.clock else none) = some s.clock → s.closing = false →
    exec .urgencyPersistent s = .next { s with deferred := s.deferred ++ [.urgencyPersistent] }) ∧
  (∀ (s : State) (n : Fin 8), (sampleDue s n).map (fun e => e.2 + 4096) = some s.clock → s.closing = false →
    exec (.sampleNoRequestTimeout n) s = .next { s with deferred := s.deferred ++ [.sampleNoRequestTimeout n] }) ∧
  (∀ (s : State), s.pool.commitT.map (fun t => t - 10000) = some s.tide → s.closing = false →
    exec .finalSend s = .next { s with deferred := s.deferred ++ [.finalSend] }) ∧
  (∀ (s : State), s.tideU.excess.map (fun t => t + 2 ^ 21) = some s.tide → s.closing = false →
    exec .tideErrorLimit s = .next { s with deferred := s.deferred ++ [.tideErrorLimit] }) ∧
  (∀ (s : State), some (s.tide / hbTides * hbTides) = some s.tide → s.closing = false →
    exec .heartbeatMissLimit s = .next { s with deferred := s.deferred ++ [.heartbeatMissLimit] }) ∧
  (∀ (s : State), some (s.pool.hbAt + 4 * hbTides) = some s.tide → s.closing = false →
    exec .standbyProbeStart s = .next { s with deferred := s.deferred ++ [.standbyProbeStart] }) ∧
  (∀ (s : State), s.pool.probing.map (fun p => p.1 + 4 * hbTides) = some s.tide → s.closing = false →
    exec .standbyProbeEnd s = .next { s with deferred := s.deferred ++ [.standbyProbeEnd] }) ∧
  (∀ (s : State), some (s.pool.hbAt + 16 * hbTides) = some s.tide → s.closing = false →
    exec .heartbeatLoss s = .next { s with deferred := s.deferred ++ [.heartbeatLoss] }) ∧
  (∀ (s : State), (if s.pool.credits.any (fun c => decide (c.2 + 4096 = s.tide)) then some s.tide else none) = some
    s.tide → s.closing = false →
    exec .reservedCreditLapse s = .next { s with deferred := s.deferred ++ [.reservedCreditLapse] })
end

