-- ==== Sys2Proof/Laws/Bits.lean ====
section
/-! SUPPORT. The laws of bit fields: a field reads what was written to it, and a write of one field leaves the others. -/

namespace Sys2Proof.Laws

open Sys2Proof.Machine

/-- Every bit of a number with a field written. -/
theorem testBit_nset (n v : Nat) {hi lo : Nat} (h : lo ≤ hi) (i : Nat) :
    (nset n hi lo v).testBit i = if lo ≤ i ∧ i ≤ hi then v.testBit (i - lo) else n.testBit i := by
  obtain ⟨k, hk⟩ : ∃ k, hi + 1 - lo = k := ⟨_, rfl⟩
  have hn : n = 2 ^ lo * (2 ^ k * (n / 2 ^ lo / 2 ^ k) + n / 2 ^ lo % 2 ^ k) + n % 2 ^ lo := by
    rw [Nat.div_add_mod, Nat.div_add_mod]
  have hs : nset n hi lo v = 2 ^ lo * (2 ^ k * (n / 2 ^ lo / 2 ^ k) + v % 2 ^ k) + n % 2 ^ lo := by
    unfold nset nfld
    simp only [hk]
    generalize v % 2 ^ k = w
    have e : n - n / 2 ^ lo % 2 ^ k * 2 ^ lo = 2 ^ lo * (2 ^ k * (n / 2 ^ lo / 2 ^ k)) + n % 2 ^ lo := by
      conv_lhs => lhs; rw [hn]
      rw [Nat.mul_add, Nat.mul_comm (n / 2 ^ lo % 2 ^ k)]
      omega
    rw [e, Nat.mul_add, Nat.mul_comm w]
    omega
  have hb : n % 2 ^ lo < 2 ^ lo := Nat.mod_lt _ (Nat.two_pow_pos lo)
  have hv : v % 2 ^ k < 2 ^ k := Nat.mod_lt _ (Nat.two_pow_pos k)
  have hf : n / 2 ^ lo % 2 ^ k < 2 ^ k := Nat.mod_lt _ (Nat.two_pow_pos k)
  rw [hs, Nat.testBit_two_pow_mul_add _ hb, Nat.testBit_two_pow_mul_add _ hv]
  conv_rhs => rhs; rw [hn, Nat.testBit_two_pow_mul_add _ hb, Nat.testBit_two_pow_mul_add _ hf]
  by_cases h1 : i < lo
  · have : ¬ (lo ≤ i ∧ i ≤ hi) := by omega
    simp [h1, this]
  · by_cases h2 : i - lo < k
    · have : lo ≤ i ∧ i ≤ hi := by omega
      simp [h1, h2, this, Nat.testBit_mod_two_pow]
    · have : ¬ (lo ≤ i ∧ i ≤ hi) := by omega
      simp [h1, h2, this]

/-- Every bit of a field. -/
theorem testBit_nfld (n hi lo i : Nat) : (nfld n hi lo).testBit i = (decide (i < hi + 1 - lo) && n.testBit (lo + i)) := by
  simp [nfld, Nat.testBit_mod_two_pow, Nat.testBit_div_two_pow, Nat.add_comm]

theorem testBit_setFld {w : Nat} (x : BitVec w) {hi lo : Nat} (v : Nat) (h : lo ≤ hi) (i : Nat) :
    (setFld x hi lo v).toNat.testBit i =
      (decide (i < w) && if lo ≤ i ∧ i ≤ hi then v.testBit (i - lo) else x.toNat.testBit i) := by
  simp [setFld, BitVec.toNat_ofNat, Nat.testBit_mod_two_pow, testBit_nset _ _ h]

/-- A field reads what was written to it, cut to its width. -/
theorem fld_setFld_same {w : Nat} (x : BitVec w) {hi lo : Nat} (v : Nat) (h : lo ≤ hi) (hw : hi < w) :
    fld (setFld x hi lo v) hi lo = v % 2 ^ (hi + 1 - lo) := by
  apply Nat.eq_of_testBit_eq
  intro i
  simp only [fld, testBit_nfld, testBit_setFld x v h, Nat.testBit_mod_two_pow]
  by_cases hi' : i < hi + 1 - lo
  · have h1 : lo + i < w := by omega
    have h2 : lo ≤ lo + i ∧ lo + i ≤ hi := by omega
    simp [hi', h1, h2]
  · simp [hi']

/-- A write of one field leaves a field that shares no bit with it. -/
theorem fld_setFld_disjoint {w : Nat} (x : BitVec w) {hi lo h l : Nat} (v : Nat) (ho : lo ≤ hi)
    (hd : h < lo ∨ hi < l) (hw : h < w) (hl : l ≤ h) : fld (setFld x hi lo v) h l = fld x h l := by
  apply Nat.eq_of_testBit_eq
  intro i
  simp only [fld, testBit_nfld, testBit_setFld x v ho]
  by_cases hi' : i < h + 1 - l
  · have h1 : l + i < w := by omega
    have h2 : ¬ (lo ≤ l + i ∧ l + i ≤ hi) := by omega
    simp [h1, h2]
  · simp [hi']

theorem bit_setFld_disjoint {w : Nat} (x : BitVec w) {hi lo i : Nat} (v : Nat) (ho : lo ≤ hi)
    (hd : i < lo ∨ hi < i) (hw : i < w) : bit (setFld x hi lo v) i = bit x i := by
  have h2 : ¬ (lo ≤ i ∧ i ≤ hi) := by omega
  simp [bit, testBit_setFld x v ho, hw, h2]

theorem bit_setBit_same {w : Nat} (x : BitVec w) (i : Nat) (b : Bool) (h : i < w) : bit (setBit x i b) i = b := by
  unfold bit setBit
  rw [testBit_setFld x _ (Nat.le_refl i)]
  cases b <;> simp [h]

theorem bit_setBit_ne {w : Nat} (x : BitVec w) {i j : Nat} (b : Bool) (h : j < w) (hn : j ≠ i) :
    bit (setBit x i b) j = bit x j := by
  unfold setBit
  exact bit_setFld_disjoint x _ (Nat.le_refl i) (by omega) h

theorem fld_setBit_disjoint {w : Nat} (x : BitVec w) {i h l : Nat} (b : Bool) (hd : h < i ∨ i < l) (hw : h < w)
    (hl : l ≤ h) : fld (setBit x i b) h l = fld x h l := by
  unfold setBit
  exact fld_setFld_disjoint x _ (Nat.le_refl i) hd hw hl

end Sys2Proof.Laws
end

