-- ==== Sys2Proof/Laws/SMap.lean ====
section
/-! SUPPORT. The laws of sparse data: a read after a write, and that a write keeps the canonical form. -/

namespace Sys2Proof.Laws

open Sys2Proof.Machine

variable {α : Type}

theorem smGet_smErase_same (d : α) (m : SMap α) (k : Nat) : smGet d (smErase m k) k = d := by
  induction m with
  | nil => rfl
  | cons e r ih =>
    obtain ⟨k', v⟩ := e
    by_cases h : k = k'
    · simpa [smErase, h] using (by simpa [h] using ih)
    · simp [smErase, smGet, h, ih]

theorem smGet_smErase_ne (d : α) (m : SMap α) {k j : Nat} (h : j ≠ k) :
    smGet d (smErase m k) j = smGet d m j := by
  induction m with
  | nil => rfl
  | cons e r ih =>
    obtain ⟨k', v⟩ := e
    by_cases hk : k = k'
    · subst hk; simp [smErase, smGet, h, ih]
    · by_cases hj : j = k'
      · simp [smErase, smGet, hk, hj]
      · simp [smErase, smGet, hk, hj, ih]

theorem smGet_smInsert_ne (d : α) (m : SMap α) {k j : Nat} (v : α) (h : j ≠ k) :
    smGet d (smInsert m k v) j = smGet d m j := by
  induction m with
  | nil => simp [smInsert, smGet, h]
  | cons e r ih =>
    obtain ⟨k', v'⟩ := e
    by_cases hlt : k < k'
    · simp [smInsert, hlt, smGet, h]
    · simp [smInsert, hlt, smGet, ih]

/-- A key that the list does not hold reads its new value after an insertion. -/
theorem smGet_smInsert_same (d : α) (m : SMap α) (k : Nat) (v : α) (h : ∀ w, (k, w) ∉ m) :
    smGet d (smInsert m k v) k = v := by
  induction m with
  | nil => simp [smInsert, smGet]
  | cons e r ih =>
    obtain ⟨k', v'⟩ := e
    have hk : k ≠ k' := by
      intro he; subst he; exact h v' (by simp)
    by_cases hlt : k < k'
    · simp [smInsert, hlt, smGet]
    · simp only [smInsert, hlt, if_false, smGet, hk]
      exact ih (fun w hw => h w (by simp [hw]))

theorem not_mem_smErase (m : SMap α) (k : Nat) (w : α) : (k, w) ∉ smErase m k := by
  induction m with
  | nil => simp [smErase]
  | cons e r ih =>
    obtain ⟨k', v⟩ := e
    by_cases h : k = k'
    · simp [smErase, h]; simpa [h] using ih
    · simp [smErase, h, ih]

/-- A read of the key just written gives the value written. -/
@[simp] theorem smGet_smSet_same [DecidableEq α] (d : α) (m : SMap α) (k : Nat) (v : α) :
    smGet d (smSet d m k v) k = v := by
  unfold smSet
  split
  · rename_i h; rw [smGet_smErase_same, h]
  · exact smGet_smInsert_same d _ k v (not_mem_smErase m k)

/-- A write of one key leaves every other key's reading, whatever the two unlisted readings are. -/
theorem smGet_smSet_ne [DecidableEq α] (d d' : α) (m : SMap α) {k j : Nat} (v : α) (h : j ≠ k) :
    smGet d' (smSet d m k v) j = smGet d' m j := by
  unfold smSet
  split
  · exact smGet_smErase_ne d' m h
  · rw [smGet_smInsert_ne d' _ v h, smGet_smErase_ne d' m h]

theorem smRising_weaken {m : SMap α} {a b : Nat} (hab : a ≤ b) (h : smRising (some b) m = true) :
    smRising (some a) m = true := by
  cases m with
  | nil => rfl
  | cons e r =>
    obtain ⟨k, v⟩ := e
    simp only [smRising, Bool.and_eq_true, decide_eq_true_eq] at h ⊢
    exact ⟨by omega, h.2⟩

theorem smRising_none {m : SMap α} {b : Nat} (h : smRising (some b) m = true) :
    smRising .none m = true := by
  cases m with
  | nil => rfl
  | cons e r =>
    obtain ⟨k, v⟩ := e
    simp only [smRising, Bool.and_eq_true, decide_eq_true_eq] at h ⊢
    exact h.2

theorem smRising_smErase {m : SMap α} {b k : Nat} (h : smRising (some b) m = true) :
    smRising (some b) (smErase m k) = true := by
  induction m generalizing b with
  | nil => rfl
  | cons e r ih =>
    obtain ⟨k', v⟩ := e
    simp only [smRising, Bool.and_eq_true, decide_eq_true_eq] at h
    by_cases hk : k = k'
    · simp only [smErase, hk, if_true]
      have := ih h.2
      rw [hk] at this
      exact smRising_weaken (Nat.le_of_lt h.1) this
    · simp only [smErase, hk, if_false, smRising, Bool.and_eq_true, decide_eq_true_eq]
      exact ⟨h.1, ih h.2⟩

theorem smRising_smInsert {m : SMap α} {b k : Nat} {v : α} (hb : b < k)
    (h : smRising (some b) m = true) (hk : ∀ w, (k, w) ∉ m) :
    smRising (some b) (smInsert m k v) = true := by
  induction m generalizing b with
  | nil => simp [smInsert, smRising, hb]
  | cons e r ih =>
    obtain ⟨k', v'⟩ := e
    simp only [smRising, Bool.and_eq_true, decide_eq_true_eq] at h
    have hne : k ≠ k' := by
      intro he; subst he; exact hk v' (by simp)
    by_cases hlt : k < k'
    · simp only [smInsert, hlt, if_true, smRising, Bool.and_eq_true, decide_eq_true_eq]
      exact ⟨hb, trivial, h.2⟩
    · simp only [smInsert, hlt, if_false, smRising, Bool.and_eq_true, decide_eq_true_eq]
      exact ⟨h.1, ih (by omega) h.2 (fun w hw => hk w (by simp [hw]))⟩

/-- Rising keys, said without a first bound. -/
theorem smRising_none_iff (m : SMap α) :
    smRising .none m = true ↔ m = [] ∨ ∃ k v r, m = (k, v) :: r ∧ smRising (some k) r = true := by
  cases m with
  | nil => simp [smRising]
  | cons e r => obtain ⟨k, v⟩ := e; simp [smRising]

theorem smRising_none_smErase {m : SMap α} (k : Nat) (h : smRising .none m = true) :
    smRising .none (smErase m k) = true := by
  cases m with
  | nil => rfl
  | cons e r =>
    obtain ⟨k', v⟩ := e
    have hr : smRising (some k') r = true := by simpa [smRising] using h
    by_cases hk : k = k'
    · simp only [smErase, hk, if_true]
      exact smRising_none (smRising_smErase hr)
    · simp only [smErase, hk, if_false, smRising]
      exact smRising_smErase hr

theorem smRising_none_smInsert {m : SMap α} (k : Nat) (v : α) (h : smRising .none m = true)
    (hk : ∀ w, (k, w) ∉ m) : smRising .none (smInsert m k v) = true := by
  cases m with
  | nil => rfl
  | cons e r =>
    obtain ⟨k', v'⟩ := e
    have hr : smRising (some k') r = true := by simpa [smRising] using h
    have hne : k ≠ k' := by
      intro he; subst he; exact hk v' (by simp)
    by_cases hlt : k < k'
    · simp [smInsert, hlt, smRising, hr]
    · simp only [smInsert, hlt, if_false, smRising]
      exact smRising_smInsert (by omega) hr (fun w hw => hk w (by simp [hw]))

theorem mem_smErase {m : SMap α} {k : Nat} {e : Nat × α} (h : e ∈ smErase m k) : e ∈ m := by
  induction m with
  | nil => simp [smErase] at h
  | cons x r ih =>
    obtain ⟨k', v⟩ := x
    by_cases hk : k = k'
    · simp only [smErase, hk, if_true] at h
      exact List.mem_cons_of_mem _ (ih (by rw [hk]; exact h))
    · simp only [smErase, hk, if_false, List.mem_cons] at h
      rcases h with h | h
      · simp [h]
      · exact List.mem_cons_of_mem _ (ih h)

theorem mem_smInsert {m : SMap α} {k : Nat} {v : α} {e : Nat × α} (h : e ∈ smInsert m k v) :
    e = (k, v) ∨ e ∈ m := by
  induction m with
  | nil => simpa [smInsert] using h
  | cons x r ih =>
    obtain ⟨k', v'⟩ := x
    by_cases hlt : k < k'
    · simpa [smInsert, hlt] using h
    · simp only [smInsert, hlt, if_false, List.mem_cons] at h
      rcases h with h | h
      · simp [h]
      · rcases ih h with h | h
        · exact Or.inl h
        · exact Or.inr (by simp [h])

/-- A write keeps the canonical form. -/
theorem smWf_smSet [DecidableEq α] (d : Nat → α) (m : SMap α) (k : Nat) (v : α) (h : smWf d m = true) :
    smWf d (smSet (d k) m k v) = true := by
  simp only [smWf, Bool.and_eq_true, List.all_eq_true, decide_eq_true_eq] at h ⊢
  obtain ⟨hr, hd⟩ := h
  unfold smSet
  split
  · exact ⟨smRising_none_smErase k hr, fun e he => hd e (mem_smErase he)⟩
  · rename_i hv
    refine ⟨smRising_none_smInsert k v (smRising_none_smErase k hr) (not_mem_smErase m k), ?_⟩
    intro e he
    rcases mem_smInsert he with h | h
    · subst h; exact hv
    · exact hd e (mem_smErase h)

theorem smErase_smErase (m : SMap α) (k : Nat) : smErase (smErase m k) k = smErase m k := by
  induction m with
  | nil => rfl
  | cons e r ih =>
    obtain ⟨k', v⟩ := e
    by_cases h : k = k'
    · subst h; simp [smErase, ih]
    · simp [smErase, h, ih]

theorem smErase_smInsert (m : SMap α) (k : Nat) (v : α) : smErase (smInsert m k v) k = smErase m k := by
  induction m with
  | nil => simp [smInsert, smErase]
  | cons e r ih =>
    obtain ⟨k', v'⟩ := e
    by_cases hlt : k < k'
    · simp [smInsert, hlt, smErase]
    · by_cases h : k = k'
      · subst h; simp [smInsert, smErase, ih]
      · simp [smInsert, hlt, smErase, h, ih]

/-- Of two writes of one key the second stands. -/
@[simp] theorem smSet_smSet_same [DecidableEq α] (d : α) (m : SMap α) (k : Nat) (v w : α) :
    smSet d (smSet d m k v) k w = smSet d m k w := by
  have h : smErase (smSet d m k v) k = smErase m k := by
    unfold smSet
    split
    · exact smErase_smErase m k
    · rw [smErase_smInsert, smErase_smErase]
  unfold smSet at h ⊢
  rw [h]

end Sys2Proof.Laws
end

