-- ==== Sys2Proof/Laws/State.lean ====
section
/-! SUPPORT. What each update of State leaves as it was, field by field, and what a read after it gives: no later proof needs to
unfold a record update. -/

namespace Sys2Proof.Laws

open Sys2Proof.Machine

/-! ### State.setReg -/

@[simp] theorem setReg_pending (s : State) (off : Nat) (v : Word) : (s.setReg off v).pending = s.pending := (rfl)
@[simp] theorem setReg_clock (s : State) (off : Nat) (v : Word) : (s.setReg off v).clock = s.clock := (rfl)
@[simp] theorem setReg_deferred (s : State) (off : Nat) (v : Word) : (s.setReg off v).deferred = s.deferred := (rfl)
@[simp] theorem setReg_closing (s : State) (off : Nat) (v : Word) : (s.setReg off v).closing = s.closing := (rfl)
@[simp] theorem setReg_fresh (s : State) (off : Nat) (v : Word) : (s.setReg off v).fresh = s.fresh := (rfl)
@[simp] theorem setReg_out (s : State) (off : Nat) (v : Word) : (s.setReg off v).out = s.out := (rfl)
@[simp] theorem setReg_shadow (s : State) (off : Nat) (v : Word) : (s.setReg off v).shadow = s.shadow := (rfl)
@[simp] theorem setReg_acc (s : State) (off : Nat) (v : Word) : (s.setReg off v).acc = s.acc := (rfl)
@[simp] theorem setReg_mode (s : State) (off : Nat) (v : Word) : (s.setReg off v).mode = s.mode := (rfl)
@[simp] theorem setReg_wipe (s : State) (off : Nat) (v : Word) : (s.setReg off v).wipe = s.wipe := (rfl)
@[simp] theorem setReg_flt (s : State) (off : Nat) (v : Word) : (s.setReg off v).flt = s.flt := (rfl)
@[simp] theorem setReg_evt (s : State) (off : Nat) (v : Word) : (s.setReg off v).evt = s.evt := (rfl)
@[simp] theorem setReg_cores (s : State) (off : Nat) (v : Word) : (s.setReg off v).cores = s.cores := (rfl)
@[simp] theorem setReg_sets (s : State) (off : Nat) (v : Word) : (s.setReg off v).sets = s.sets := (rfl)
@[simp] theorem setReg_port (s : State) (off : Nat) (v : Word) : (s.setReg off v).port = s.port := (rfl)
@[simp] theorem setReg_coh (s : State) (off : Nat) (v : Word) : (s.setReg off v).coh = s.coh := (rfl)
@[simp] theorem setReg_tier (s : State) (off : Nat) (v : Word) : (s.setReg off v).tier = s.tier := (rfl)
@[simp] theorem setReg_keys (s : State) (off : Nat) (v : Word) : (s.setReg off v).keys = s.keys := (rfl)
@[simp] theorem setReg_dram (s : State) (off : Nat) (v : Word) : (s.setReg off v).dram = s.dram := (rfl)
@[simp] theorem setReg_slu (s : State) (off : Nat) (v : Word) : (s.setReg off v).slu = s.slu := (rfl)
@[simp] theorem setReg_slot (s : State) (off : Nat) (v : Word) : (s.setReg off v).slot = s.slot := (rfl)
@[simp] theorem setReg_pool (s : State) (off : Nat) (v : Word) : (s.setReg off v).pool = s.pool := (rfl)
@[simp] theorem setReg_tideU (s : State) (off : Nat) (v : Word) : (s.setReg off v).tideU = s.tideU := (rfl)
@[simp] theorem setReg_tel (s : State) (off : Nat) (v : Word) : (s.setReg off v).tel = s.tel := (rfl)
@[simp] theorem setReg_sec (s : State) (off : Nat) (v : Word) : (s.setReg off v).sec = s.sec := (rfl)
@[simp] theorem setReg_rake (s : State) (off : Nat) (v : Word) : (s.setReg off v).rake = s.rake := (rfl)
@[simp] theorem setReg_repair (s : State) (off : Nat) (v : Word) : (s.setReg off v).repair = s.repair := (rfl)
@[simp] theorem setReg_hk (s : State) (off : Nat) (v : Word) : (s.setReg off v).hk = s.hk := (rfl)
@[simp] theorem setReg_scan (s : State) (off : Nat) (v : Word) : (s.setReg off v).scan = s.scan := (rfl)

/-! ### State.setSreg -/

@[simp] theorem setSreg_pending (s : State) (off : Nat) (v : Word) : (s.setSreg off v).pending = s.pending := (rfl)
@[simp] theorem setSreg_clock (s : State) (off : Nat) (v : Word) : (s.setSreg off v).clock = s.clock := (rfl)
@[simp] theorem setSreg_deferred (s : State) (off : Nat) (v : Word) : (s.setSreg off v).deferred = s.deferred := (rfl)
@[simp] theorem setSreg_closing (s : State) (off : Nat) (v : Word) : (s.setSreg off v).closing = s.closing := (rfl)
@[simp] theorem setSreg_fresh (s : State) (off : Nat) (v : Word) : (s.setSreg off v).fresh = s.fresh := (rfl)
@[simp] theorem setSreg_out (s : State) (off : Nat) (v : Word) : (s.setSreg off v).out = s.out := (rfl)
@[simp] theorem setSreg_regs (s : State) (off : Nat) (v : Word) : (s.setSreg off v).regs = s.regs := (rfl)
@[simp] theorem setSreg_acc (s : State) (off : Nat) (v : Word) : (s.setSreg off v).acc = s.acc := (rfl)
@[simp] theorem setSreg_mode (s : State) (off : Nat) (v : Word) : (s.setSreg off v).mode = s.mode := (rfl)
@[simp] theorem setSreg_wipe (s : State) (off : Nat) (v : Word) : (s.setSreg off v).wipe = s.wipe := (rfl)
@[simp] theorem setSreg_flt (s : State) (off : Nat) (v : Word) : (s.setSreg off v).flt = s.flt := (rfl)
@[simp] theorem setSreg_evt (s : State) (off : Nat) (v : Word) : (s.setSreg off v).evt = s.evt := (rfl)
@[simp] theorem setSreg_cores (s : State) (off : Nat) (v : Word) : (s.setSreg off v).cores = s.cores := (rfl)
@[simp] theorem setSreg_sets (s : State) (off : Nat) (v : Word) : (s.setSreg off v).sets = s.sets := (rfl)
@[simp] theorem setSreg_port (s : State) (off : Nat) (v : Word) : (s.setSreg off v).port = s.port := (rfl)
@[simp] theorem setSreg_coh (s : State) (off : Nat) (v : Word) : (s.setSreg off v).coh = s.coh := (rfl)
@[simp] theorem setSreg_tier (s : State) (off : Nat) (v : Word) : (s.setSreg off v).tier = s.tier := (rfl)
@[simp] theorem setSreg_keys (s : State) (off : Nat) (v : Word) : (s.setSreg off v).keys = s.keys := (rfl)
@[simp] theorem setSreg_dram (s : State) (off : Nat) (v : Word) : (s.setSreg off v).dram = s.dram := (rfl)
@[simp] theorem setSreg_slu (s : State) (off : Nat) (v : Word) : (s.setSreg off v).slu = s.slu := (rfl)
@[simp] theorem setSreg_slot (s : State) (off : Nat) (v : Word) : (s.setSreg off v).slot = s.slot := (rfl)
@[simp] theorem setSreg_pool (s : State) (off : Nat) (v : Word) : (s.setSreg off v).pool = s.pool := (rfl)
@[simp] theorem setSreg_tideU (s : State) (off : Nat) (v : Word) : (s.setSreg off v).tideU = s.tideU := (rfl)
@[simp] theorem setSreg_tel (s : State) (off : Nat) (v : Word) : (s.setSreg off v).tel = s.tel := (rfl)
@[simp] theorem setSreg_sec (s : State) (off : Nat) (v : Word) : (s.setSreg off v).sec = s.sec := (rfl)
@[simp] theorem setSreg_rake (s : State) (off : Nat) (v : Word) : (s.setSreg off v).rake = s.rake := (rfl)
@[simp] theorem setSreg_repair (s : State) (off : Nat) (v : Word) : (s.setSreg off v).repair = s.repair := (rfl)
@[simp] theorem setSreg_hk (s : State) (off : Nat) (v : Word) : (s.setSreg off v).hk = s.hk := (rfl)
@[simp] theorem setSreg_scan (s : State) (off : Nat) (v : Word) : (s.setSreg off v).scan = s.scan := (rfl)

/-! ### State.draw -/

@[simp] theorem draw_pending (s : State) : (s.draw).pending = s.pending := (rfl)
@[simp] theorem draw_clock (s : State) : (s.draw).clock = s.clock := (rfl)
@[simp] theorem draw_deferred (s : State) : (s.draw).deferred = s.deferred := (rfl)
@[simp] theorem draw_closing (s : State) : (s.draw).closing = s.closing := (rfl)
@[simp] theorem draw_out (s : State) : (s.draw).out = s.out := (rfl)
@[simp] theorem draw_regs (s : State) : (s.draw).regs = s.regs := (rfl)
@[simp] theorem draw_shadow (s : State) : (s.draw).shadow = s.shadow := (rfl)
@[simp] theorem draw_acc (s : State) : (s.draw).acc = s.acc := (rfl)
@[simp] theorem draw_mode (s : State) : (s.draw).mode = s.mode := (rfl)
@[simp] theorem draw_wipe (s : State) : (s.draw).wipe = s.wipe := (rfl)
@[simp] theorem draw_flt (s : State) : (s.draw).flt = s.flt := (rfl)
@[simp] theorem draw_evt (s : State) : (s.draw).evt = s.evt := (rfl)
@[simp] theorem draw_cores (s : State) : (s.draw).cores = s.cores := (rfl)
@[simp] theorem draw_sets (s : State) : (s.draw).sets = s.sets := (rfl)
@[simp] theorem draw_port (s : State) : (s.draw).port = s.port := (rfl)
@[simp] theorem draw_coh (s : State) : (s.draw).coh = s.coh := (rfl)
@[simp] theorem draw_tier (s : State) : (s.draw).tier = s.tier := (rfl)
@[simp] theorem draw_keys (s : State) : (s.draw).keys = s.keys := (rfl)
@[simp] theorem draw_dram (s : State) : (s.draw).dram = s.dram := (rfl)
@[simp] theorem draw_slu (s : State) : (s.draw).slu = s.slu := (rfl)
@[simp] theorem draw_slot (s : State) : (s.draw).slot = s.slot := (rfl)
@[simp] theorem draw_pool (s : State) : (s.draw).pool = s.pool := (rfl)
@[simp] theorem draw_tideU (s : State) : (s.draw).tideU = s.tideU := (rfl)
@[simp] theorem draw_tel (s : State) : (s.draw).tel = s.tel := (rfl)
@[simp] theorem draw_sec (s : State) : (s.draw).sec = s.sec := (rfl)
@[simp] theorem draw_rake (s : State) : (s.draw).rake = s.rake := (rfl)
@[simp] theorem draw_repair (s : State) : (s.draw).repair = s.repair := (rfl)
@[simp] theorem draw_hk (s : State) : (s.draw).hk = s.hk := (rfl)
@[simp] theorem draw_scan (s : State) : (s.draw).scan = s.scan := (rfl)

/-! ### State.emit -/

@[simp] theorem emit_pending (s : State) (r : Resp) : (s.emit r).pending = s.pending := (rfl)
@[simp] theorem emit_clock (s : State) (r : Resp) : (s.emit r).clock = s.clock := (rfl)
@[simp] theorem emit_deferred (s : State) (r : Resp) : (s.emit r).deferred = s.deferred := (rfl)
@[simp] theorem emit_closing (s : State) (r : Resp) : (s.emit r).closing = s.closing := (rfl)
@[simp] theorem emit_fresh (s : State) (r : Resp) : (s.emit r).fresh = s.fresh := (rfl)
@[simp] theorem emit_regs (s : State) (r : Resp) : (s.emit r).regs = s.regs := (rfl)
@[simp] theorem emit_shadow (s : State) (r : Resp) : (s.emit r).shadow = s.shadow := (rfl)
@[simp] theorem emit_acc (s : State) (r : Resp) : (s.emit r).acc = s.acc := (rfl)
@[simp] theorem emit_mode (s : State) (r : Resp) : (s.emit r).mode = s.mode := (rfl)
@[simp] theorem emit_wipe (s : State) (r : Resp) : (s.emit r).wipe = s.wipe := (rfl)
@[simp] theorem emit_flt (s : State) (r : Resp) : (s.emit r).flt = s.flt := (rfl)
@[simp] theorem emit_evt (s : State) (r : Resp) : (s.emit r).evt = s.evt := (rfl)
@[simp] theorem emit_cores (s : State) (r : Resp) : (s.emit r).cores = s.cores := (rfl)
@[simp] theorem emit_sets (s : State) (r : Resp) : (s.emit r).sets = s.sets := (rfl)
@[simp] theorem emit_port (s : State) (r : Resp) : (s.emit r).port = s.port := (rfl)
@[simp] theorem emit_coh (s : State) (r : Resp) : (s.emit r).coh = s.coh := (rfl)
@[simp] theorem emit_tier (s : State) (r : Resp) : (s.emit r).tier = s.tier := (rfl)
@[simp] theorem emit_keys (s : State) (r : Resp) : (s.emit r).keys = s.keys := (rfl)
@[simp] theorem emit_dram (s : State) (r : Resp) : (s.emit r).dram = s.dram := (rfl)
@[simp] theorem emit_slu (s : State) (r : Resp) : (s.emit r).slu = s.slu := (rfl)
@[simp] theorem emit_slot (s : State) (r : Resp) : (s.emit r).slot = s.slot := (rfl)
@[simp] theorem emit_pool (s : State) (r : Resp) : (s.emit r).pool = s.pool := (rfl)
@[simp] theorem emit_tideU (s : State) (r : Resp) : (s.emit r).tideU = s.tideU := (rfl)
@[simp] theorem emit_tel (s : State) (r : Resp) : (s.emit r).tel = s.tel := (rfl)
@[simp] theorem emit_sec (s : State) (r : Resp) : (s.emit r).sec = s.sec := (rfl)
@[simp] theorem emit_rake (s : State) (r : Resp) : (s.emit r).rake = s.rake := (rfl)
@[simp] theorem emit_repair (s : State) (r : Resp) : (s.emit r).repair = s.repair := (rfl)
@[simp] theorem emit_hk (s : State) (r : Resp) : (s.emit r).hk = s.hk := (rfl)
@[simp] theorem emit_scan (s : State) (r : Resp) : (s.emit r).scan = s.scan := (rfl)

/-! ### State.setLive -/

@[simp] theorem setLive_pending (s : State) (id off v n : Nat) : (s.setLive id off v n).pending = s.pending := (rfl)
@[simp] theorem setLive_clock (s : State) (id off v n : Nat) : (s.setLive id off v n).clock = s.clock := (rfl)
@[simp] theorem setLive_deferred (s : State) (id off v n : Nat) : (s.setLive id off v n).deferred = s.deferred := (rfl)
@[simp] theorem setLive_closing (s : State) (id off v n : Nat) : (s.setLive id off v n).closing = s.closing := (rfl)
@[simp] theorem setLive_fresh (s : State) (id off v n : Nat) : (s.setLive id off v n).fresh = s.fresh := (rfl)
@[simp] theorem setLive_out (s : State) (id off v n : Nat) : (s.setLive id off v n).out = s.out := (rfl)
@[simp] theorem setLive_regs (s : State) (id off v n : Nat) : (s.setLive id off v n).regs = s.regs := (rfl)
@[simp] theorem setLive_shadow (s : State) (id off v n : Nat) : (s.setLive id off v n).shadow = s.shadow := (rfl)
@[simp] theorem setLive_acc (s : State) (id off v n : Nat) : (s.setLive id off v n).acc = s.acc := (rfl)
@[simp] theorem setLive_mode (s : State) (id off v n : Nat) : (s.setLive id off v n).mode = s.mode := (rfl)
@[simp] theorem setLive_wipe (s : State) (id off v n : Nat) : (s.setLive id off v n).wipe = s.wipe := (rfl)
@[simp] theorem setLive_flt (s : State) (id off v n : Nat) : (s.setLive id off v n).flt = s.flt := (rfl)
@[simp] theorem setLive_evt (s : State) (id off v n : Nat) : (s.setLive id off v n).evt = s.evt := (rfl)
@[simp] theorem setLive_cores (s : State) (id off v n : Nat) : (s.setLive id off v n).cores = s.cores := (rfl)
@[simp] theorem setLive_port (s : State) (id off v n : Nat) : (s.setLive id off v n).port = s.port := (rfl)
@[simp] theorem setLive_coh (s : State) (id off v n : Nat) : (s.setLive id off v n).coh = s.coh := (rfl)
@[simp] theorem setLive_tier (s : State) (id off v n : Nat) : (s.setLive id off v n).tier = s.tier := (rfl)
@[simp] theorem setLive_keys (s : State) (id off v n : Nat) : (s.setLive id off v n).keys = s.keys := (rfl)
@[simp] theorem setLive_dram (s : State) (id off v n : Nat) : (s.setLive id off v n).dram = s.dram := (rfl)
@[simp] theorem setLive_slu (s : State) (id off v n : Nat) : (s.setLive id off v n).slu = s.slu := (rfl)
@[simp] theorem setLive_slot (s : State) (id off v n : Nat) : (s.setLive id off v n).slot = s.slot := (rfl)
@[simp] theorem setLive_pool (s : State) (id off v n : Nat) : (s.setLive id off v n).pool = s.pool := (rfl)
@[simp] theorem setLive_tideU (s : State) (id off v n : Nat) : (s.setLive id off v n).tideU = s.tideU := (rfl)
@[simp] theorem setLive_tel (s : State) (id off v n : Nat) : (s.setLive id off v n).tel = s.tel := (rfl)
@[simp] theorem setLive_sec (s : State) (id off v n : Nat) : (s.setLive id off v n).sec = s.sec := (rfl)
@[simp] theorem setLive_rake (s : State) (id off v n : Nat) : (s.setLive id off v n).rake = s.rake := (rfl)
@[simp] theorem setLive_repair (s : State) (id off v n : Nat) : (s.setLive id off v n).repair = s.repair := (rfl)
@[simp] theorem setLive_hk (s : State) (id off v n : Nat) : (s.setLive id off v n).hk = s.hk := (rfl)
@[simp] theorem setLive_scan (s : State) (id off v n : Nat) : (s.setLive id off v n).scan = s.scan := (rfl)

/-! ### State.setCore -/

@[simp] theorem setCore_pending (s : State) (n : Nat) (c : Core) : (s.setCore n c).pending = s.pending := (rfl)
@[simp] theorem setCore_clock (s : State) (n : Nat) (c : Core) : (s.setCore n c).clock = s.clock := (rfl)
@[simp] theorem setCore_deferred (s : State) (n : Nat) (c : Core) : (s.setCore n c).deferred = s.deferred := (rfl)
@[simp] theorem setCore_closing (s : State) (n : Nat) (c : Core) : (s.setCore n c).closing = s.closing := (rfl)
@[simp] theorem setCore_fresh (s : State) (n : Nat) (c : Core) : (s.setCore n c).fresh = s.fresh := (rfl)
@[simp] theorem setCore_out (s : State) (n : Nat) (c : Core) : (s.setCore n c).out = s.out := (rfl)
@[simp] theorem setCore_regs (s : State) (n : Nat) (c : Core) : (s.setCore n c).regs = s.regs := (rfl)
@[simp] theorem setCore_shadow (s : State) (n : Nat) (c : Core) : (s.setCore n c).shadow = s.shadow := (rfl)
@[simp] theorem setCore_acc (s : State) (n : Nat) (c : Core) : (s.setCore n c).acc = s.acc := (rfl)
@[simp] theorem setCore_mode (s : State) (n : Nat) (c : Core) : (s.setCore n c).mode = s.mode := (rfl)
@[simp] theorem setCore_wipe (s : State) (n : Nat) (c : Core) : (s.setCore n c).wipe = s.wipe := (rfl)
@[simp] theorem setCore_flt (s : State) (n : Nat) (c : Core) : (s.setCore n c).flt = s.flt := (rfl)
@[simp] theorem setCore_evt (s : State) (n : Nat) (c : Core) : (s.setCore n c).evt = s.evt := (rfl)
@[simp] theorem setCore_sets (s : State) (n : Nat) (c : Core) : (s.setCore n c).sets = s.sets := (rfl)
@[simp] theorem setCore_port (s : State) (n : Nat) (c : Core) : (s.setCore n c).port = s.port := (rfl)
@[simp] theorem setCore_coh (s : State) (n : Nat) (c : Core) : (s.setCore n c).coh = s.coh := (rfl)
@[simp] theorem setCore_tier (s : State) (n : Nat) (c : Core) : (s.setCore n c).tier = s.tier := (rfl)
@[simp] theorem setCore_keys (s : State) (n : Nat) (c : Core) : (s.setCore n c).keys = s.keys := (rfl)
@[simp] theorem setCore_dram (s : State) (n : Nat) (c : Core) : (s.setCore n c).dram = s.dram := (rfl)
@[simp] theorem setCore_slu (s : State) (n : Nat) (c : Core) : (s.setCore n c).slu = s.slu := (rfl)
@[simp] theorem setCore_slot (s : State) (n : Nat) (c : Core) : (s.setCore n c).slot = s.slot := (rfl)
@[simp] theorem setCore_pool (s : State) (n : Nat) (c : Core) : (s.setCore n c).pool = s.pool := (rfl)
@[simp] theorem setCore_tideU (s : State) (n : Nat) (c : Core) : (s.setCore n c).tideU = s.tideU := (rfl)
@[simp] theorem setCore_tel (s : State) (n : Nat) (c : Core) : (s.setCore n c).tel = s.tel := (rfl)
@[simp] theorem setCore_sec (s : State) (n : Nat) (c : Core) : (s.setCore n c).sec = s.sec := (rfl)
@[simp] theorem setCore_rake (s : State) (n : Nat) (c : Core) : (s.setCore n c).rake = s.rake := (rfl)
@[simp] theorem setCore_repair (s : State) (n : Nat) (c : Core) : (s.setCore n c).repair = s.repair := (rfl)
@[simp] theorem setCore_hk (s : State) (n : Nat) (c : Core) : (s.setCore n c).hk = s.hk := (rfl)
@[simp] theorem setCore_scan (s : State) (n : Nat) (c : Core) : (s.setCore n c).scan = s.scan := (rfl)

/-! ### State.setChan -/

@[simp] theorem setChan_pending (s : State) (n : Nat) (c : Chan) : (s.setChan n c).pending = s.pending := (rfl)
@[simp] theorem setChan_clock (s : State) (n : Nat) (c : Chan) : (s.setChan n c).clock = s.clock := (rfl)
@[simp] theorem setChan_deferred (s : State) (n : Nat) (c : Chan) : (s.setChan n c).deferred = s.deferred := (rfl)
@[simp] theorem setChan_closing (s : State) (n : Nat) (c : Chan) : (s.setChan n c).closing = s.closing := (rfl)
@[simp] theorem setChan_fresh (s : State) (n : Nat) (c : Chan) : (s.setChan n c).fresh = s.fresh := (rfl)
@[simp] theorem setChan_out (s : State) (n : Nat) (c : Chan) : (s.setChan n c).out = s.out := (rfl)
@[simp] theorem setChan_regs (s : State) (n : Nat) (c : Chan) : (s.setChan n c).regs = s.regs := (rfl)
@[simp] theorem setChan_shadow (s : State) (n : Nat) (c : Chan) : (s.setChan n c).shadow = s.shadow := (rfl)
@[simp] theorem setChan_acc (s : State) (n : Nat) (c : Chan) : (s.setChan n c).acc = s.acc := (rfl)
@[simp] theorem setChan_mode (s : State) (n : Nat) (c : Chan) : (s.setChan n c).mode = s.mode := (rfl)
@[simp] theorem setChan_wipe (s : State) (n : Nat) (c : Chan) : (s.setChan n c).wipe = s.wipe := (rfl)
@[simp] theorem setChan_flt (s : State) (n : Nat) (c : Chan) : (s.setChan n c).flt = s.flt := (rfl)
@[simp] theorem setChan_evt (s : State) (n : Nat) (c : Chan) : (s.setChan n c).evt = s.evt := (rfl)
@[simp] theorem setChan_cores (s : State) (n : Nat) (c : Chan) : (s.setChan n c).cores = s.cores := (rfl)
@[simp] theorem setChan_sets (s : State) (n : Nat) (c : Chan) : (s.setChan n c).sets = s.sets := (rfl)
@[simp] theorem setChan_port (s : State) (n : Nat) (c : Chan) : (s.setChan n c).port = s.port := (rfl)
@[simp] theorem setChan_coh (s : State) (n : Nat) (c : Chan) : (s.setChan n c).coh = s.coh := (rfl)
@[simp] theorem setChan_tier (s : State) (n : Nat) (c : Chan) : (s.setChan n c).tier = s.tier := (rfl)
@[simp] theorem setChan_keys (s : State) (n : Nat) (c : Chan) : (s.setChan n c).keys = s.keys := (rfl)
@[simp] theorem setChan_slu (s : State) (n : Nat) (c : Chan) : (s.setChan n c).slu = s.slu := (rfl)
@[simp] theorem setChan_slot (s : State) (n : Nat) (c : Chan) : (s.setChan n c).slot = s.slot := (rfl)
@[simp] theorem setChan_pool (s : State) (n : Nat) (c : Chan) : (s.setChan n c).pool = s.pool := (rfl)
@[simp] theorem setChan_tideU (s : State) (n : Nat) (c : Chan) : (s.setChan n c).tideU = s.tideU := (rfl)
@[simp] theorem setChan_tel (s : State) (n : Nat) (c : Chan) : (s.setChan n c).tel = s.tel := (rfl)
@[simp] theorem setChan_sec (s : State) (n : Nat) (c : Chan) : (s.setChan n c).sec = s.sec := (rfl)
@[simp] theorem setChan_rake (s : State) (n : Nat) (c : Chan) : (s.setChan n c).rake = s.rake := (rfl)
@[simp] theorem setChan_repair (s : State) (n : Nat) (c : Chan) : (s.setChan n c).repair = s.repair := (rfl)
@[simp] theorem setChan_hk (s : State) (n : Nat) (c : Chan) : (s.setChan n c).hk = s.hk := (rfl)
@[simp] theorem setChan_scan (s : State) (n : Nat) (c : Chan) : (s.setChan n c).scan = s.scan := (rfl)

/-! ### State.setSubp -/

@[simp] theorem setSubp_pending (s : State) (p : Nat) (v : SubPort) : (s.setSubp p v).pending = s.pending := (rfl)
@[simp] theorem setSubp_clock (s : State) (p : Nat) (v : SubPort) : (s.setSubp p v).clock = s.clock := (rfl)
@[simp] theorem setSubp_deferred (s : State) (p : Nat) (v : SubPort) : (s.setSubp p v).deferred = s.deferred := (rfl)
@[simp] theorem setSubp_closing (s : State) (p : Nat) (v : SubPort) : (s.setSubp p v).closing = s.closing := (rfl)
@[simp] theorem setSubp_fresh (s : State) (p : Nat) (v : SubPort) : (s.setSubp p v).fresh = s.fresh := (rfl)
@[simp] theorem setSubp_out (s : State) (p : Nat) (v : SubPort) : (s.setSubp p v).out = s.out := (rfl)
@[simp] theorem setSubp_regs (s : State) (p : Nat) (v : SubPort) : (s.setSubp p v).regs = s.regs := (rfl)
@[simp] theorem setSubp_shadow (s : State) (p : Nat) (v : SubPort) : (s.setSubp p v).shadow = s.shadow := (rfl)
@[simp] theorem setSubp_acc (s : State) (p : Nat) (v : SubPort) : (s.setSubp p v).acc = s.acc := (rfl)
@[simp] theorem setSubp_mode (s : State) (p : Nat) (v : SubPort) : (s.setSubp p v).mode = s.mode := (rfl)
@[simp] theorem setSubp_wipe (s : State) (p : Nat) (v : SubPort) : (s.setSubp p v).wipe = s.wipe := (rfl)
@[simp] theorem setSubp_flt (s : State) (p : Nat) (v : SubPort) : (s.setSubp p v).flt = s.flt := (rfl)
@[simp] theorem setSubp_evt (s : State) (p : Nat) (v : SubPort) : (s.setSubp p v).evt = s.evt := (rfl)
@[simp] theorem setSubp_cores (s : State) (p : Nat) (v : SubPort) : (s.setSubp p v).cores = s.cores := (rfl)
@[simp] theorem setSubp_sets (s : State) (p : Nat) (v : SubPort) : (s.setSubp p v).sets = s.sets := (rfl)
@[simp] theorem setSubp_coh (s : State) (p : Nat) (v : SubPort) : (s.setSubp p v).coh = s.coh := (rfl)
@[simp] theorem setSubp_tier (s : State) (p : Nat) (v : SubPort) : (s.setSubp p v).tier = s.tier := (rfl)
@[simp] theorem setSubp_keys (s : State) (p : Nat) (v : SubPort) : (s.setSubp p v).keys = s.keys := (rfl)
@[simp] theorem setSubp_dram (s : State) (p : Nat) (v : SubPort) : (s.setSubp p v).dram = s.dram := (rfl)
@[simp] theorem setSubp_slu (s : State) (p : Nat) (v : SubPort) : (s.setSubp p v).slu = s.slu := (rfl)
@[simp] theorem setSubp_slot (s : State) (p : Nat) (v : SubPort) : (s.setSubp p v).slot = s.slot := (rfl)
@[simp] theorem setSubp_pool (s : State) (p : Nat) (v : SubPort) : (s.setSubp p v).pool = s.pool := (rfl)
@[simp] theorem setSubp_tideU (s : State) (p : Nat) (v : SubPort) : (s.setSubp p v).tideU = s.tideU := (rfl)
@[simp] theorem setSubp_tel (s : State) (p : Nat) (v : SubPort) : (s.setSubp p v).tel = s.tel := (rfl)
@[simp] theorem setSubp_sec (s : State) (p : Nat) (v : SubPort) : (s.setSubp p v).sec = s.sec := (rfl)
@[simp] theorem setSubp_rake (s : State) (p : Nat) (v : SubPort) : (s.setSubp p v).rake = s.rake := (rfl)
@[simp] theorem setSubp_repair (s : State) (p : Nat) (v : SubPort) : (s.setSubp p v).repair = s.repair := (rfl)
@[simp] theorem setSubp_hk (s : State) (p : Nat) (v : SubPort) : (s.setSubp p v).hk = s.hk := (rfl)
@[simp] theorem setSubp_scan (s : State) (p : Nat) (v : SubPort) : (s.setSubp p v).scan = s.scan := (rfl)

/-! ### State.setLogDev -/

@[simp] theorem setLogDev_pending (s : State) (l : Nat) (v : LogDev) : (s.setLogDev l v).pending = s.pending := (rfl)
@[simp] theorem setLogDev_clock (s : State) (l : Nat) (v : LogDev) : (s.setLogDev l v).clock = s.clock := (rfl)
@[simp] theorem setLogDev_deferred (s : State) (l : Nat) (v : LogDev) : (s.setLogDev l v).deferred = s.deferred := (rfl)
@[simp] theorem setLogDev_closing (s : State) (l : Nat) (v : LogDev) : (s.setLogDev l v).closing = s.closing := (rfl)
@[simp] theorem setLogDev_fresh (s : State) (l : Nat) (v : LogDev) : (s.setLogDev l v).fresh = s.fresh := (rfl)
@[simp] theorem setLogDev_out (s : State) (l : Nat) (v : LogDev) : (s.setLogDev l v).out = s.out := (rfl)
@[simp] theorem setLogDev_regs (s : State) (l : Nat) (v : LogDev) : (s.setLogDev l v).regs = s.regs := (rfl)
@[simp] theorem setLogDev_shadow (s : State) (l : Nat) (v : LogDev) : (s.setLogDev l v).shadow = s.shadow := (rfl)
@[simp] theorem setLogDev_acc (s : State) (l : Nat) (v : LogDev) : (s.setLogDev l v).acc = s.acc := (rfl)
@[simp] theorem setLogDev_mode (s : State) (l : Nat) (v : LogDev) : (s.setLogDev l v).mode = s.mode := (rfl)
@[simp] theorem setLogDev_wipe (s : State) (l : Nat) (v : LogDev) : (s.setLogDev l v).wipe = s.wipe := (rfl)
@[simp] theorem setLogDev_flt (s : State) (l : Nat) (v : LogDev) : (s.setLogDev l v).flt = s.flt := (rfl)
@[simp] theorem setLogDev_evt (s : State) (l : Nat) (v : LogDev) : (s.setLogDev l v).evt = s.evt := (rfl)
@[simp] theorem setLogDev_cores (s : State) (l : Nat) (v : LogDev) : (s.setLogDev l v).cores = s.cores := (rfl)
@[simp] theorem setLogDev_sets (s : State) (l : Nat) (v : LogDev) : (s.setLogDev l v).sets = s.sets := (rfl)
@[simp] theorem setLogDev_coh (s : State) (l : Nat) (v : LogDev) : (s.setLogDev l v).coh = s.coh := (rfl)
@[simp] theorem setLogDev_tier (s : State) (l : Nat) (v : LogDev) : (s.setLogDev l v).tier = s.tier := (rfl)
@[simp] theorem setLogDev_keys (s : State) (l : Nat) (v : LogDev) : (s.setLogDev l v).keys = s.keys := (rfl)
@[simp] theorem setLogDev_dram (s : State) (l : Nat) (v : LogDev) : (s.setLogDev l v).dram = s.dram := (rfl)
@[simp] theorem setLogDev_slu (s : State) (l : Nat) (v : LogDev) : (s.setLogDev l v).slu = s.slu := (rfl)
@[simp] theorem setLogDev_slot (s : State) (l : Nat) (v : LogDev) : (s.setLogDev l v).slot = s.slot := (rfl)
@[simp] theorem setLogDev_pool (s : State) (l : Nat) (v : LogDev) : (s.setLogDev l v).pool = s.pool := (rfl)
@[simp] theorem setLogDev_tideU (s : State) (l : Nat) (v : LogDev) : (s.setLogDev l v).tideU = s.tideU := (rfl)
@[simp] theorem setLogDev_tel (s : State) (l : Nat) (v : LogDev) : (s.setLogDev l v).tel = s.tel := (rfl)
@[simp] theorem setLogDev_sec (s : State) (l : Nat) (v : LogDev) : (s.setLogDev l v).sec = s.sec := (rfl)
@[simp] theorem setLogDev_rake (s : State) (l : Nat) (v : LogDev) : (s.setLogDev l v).rake = s.rake := (rfl)
@[simp] theorem setLogDev_repair (s : State) (l : Nat) (v : LogDev) : (s.setLogDev l v).repair = s.repair := (rfl)
@[simp] theorem setLogDev_hk (s : State) (l : Nat) (v : LogDev) : (s.setLogDev l v).hk = s.hk := (rfl)
@[simp] theorem setLogDev_scan (s : State) (l : Nat) (v : LogDev) : (s.setLogDev l v).scan = s.scan := (rfl)

/-! ### State.setKeySlot -/

@[simp] theorem setKeySlot_pending (s : State) (k : Nat) (v : KeySlot) : (s.setKeySlot k v).pending = s.pending := (rfl)
@[simp] theorem setKeySlot_clock (s : State) (k : Nat) (v : KeySlot) : (s.setKeySlot k v).clock = s.clock := (rfl)
@[simp] theorem setKeySlot_deferred (s : State) (k : Nat) (v : KeySlot) : (s.setKeySlot k v).deferred = s.deferred := (rfl)
@[simp] theorem setKeySlot_closing (s : State) (k : Nat) (v : KeySlot) : (s.setKeySlot k v).closing = s.closing := (rfl)
@[simp] theorem setKeySlot_fresh (s : State) (k : Nat) (v : KeySlot) : (s.setKeySlot k v).fresh = s.fresh := (rfl)
@[simp] theorem setKeySlot_out (s : State) (k : Nat) (v : KeySlot) : (s.setKeySlot k v).out = s.out := (rfl)
@[simp] theorem setKeySlot_regs (s : State) (k : Nat) (v : KeySlot) : (s.setKeySlot k v).regs = s.regs := (rfl)
@[simp] theorem setKeySlot_shadow (s : State) (k : Nat) (v : KeySlot) : (s.setKeySlot k v).shadow = s.shadow := (rfl)
@[simp] theorem setKeySlot_acc (s : State) (k : Nat) (v : KeySlot) : (s.setKeySlot k v).acc = s.acc := (rfl)
@[simp] theorem setKeySlot_mode (s : State) (k : Nat) (v : KeySlot) : (s.setKeySlot k v).mode = s.mode := (rfl)
@[simp] theorem setKeySlot_wipe (s : State) (k : Nat) (v : KeySlot) : (s.setKeySlot k v).wipe = s.wipe := (rfl)
@[simp] theorem setKeySlot_flt (s : State) (k : Nat) (v : KeySlot) : (s.setKeySlot k v).flt = s.flt := (rfl)
@[simp] theorem setKeySlot_evt (s : State) (k : Nat) (v : KeySlot) : (s.setKeySlot k v).evt = s.evt := (rfl)
@[simp] theorem setKeySlot_cores (s : State) (k : Nat) (v : KeySlot) : (s.setKeySlot k v).cores = s.cores := (rfl)
@[simp] theorem setKeySlot_sets (s : State) (k : Nat) (v : KeySlot) : (s.setKeySlot k v).sets = s.sets := (rfl)
@[simp] theorem setKeySlot_port (s : State) (k : Nat) (v : KeySlot) : (s.setKeySlot k v).port = s.port := (rfl)
@[simp] theorem setKeySlot_coh (s : State) (k : Nat) (v : KeySlot) : (s.setKeySlot k v).coh = s.coh := (rfl)
@[simp] theorem setKeySlot_tier (s : State) (k : Nat) (v : KeySlot) : (s.setKeySlot k v).tier = s.tier := (rfl)
@[simp] theorem setKeySlot_dram (s : State) (k : Nat) (v : KeySlot) : (s.setKeySlot k v).dram = s.dram := (rfl)
@[simp] theorem setKeySlot_slu (s : State) (k : Nat) (v : KeySlot) : (s.setKeySlot k v).slu = s.slu := (rfl)
@[simp] theorem setKeySlot_slot (s : State) (k : Nat) (v : KeySlot) : (s.setKeySlot k v).slot = s.slot := (rfl)
@[simp] theorem setKeySlot_pool (s : State) (k : Nat) (v : KeySlot) : (s.setKeySlot k v).pool = s.pool := (rfl)
@[simp] theorem setKeySlot_tideU (s : State) (k : Nat) (v : KeySlot) : (s.setKeySlot k v).tideU = s.tideU := (rfl)
@[simp] theorem setKeySlot_tel (s : State) (k : Nat) (v : KeySlot) : (s.setKeySlot k v).tel = s.tel := (rfl)
@[simp] theorem setKeySlot_sec (s : State) (k : Nat) (v : KeySlot) : (s.setKeySlot k v).sec = s.sec := (rfl)
@[simp] theorem setKeySlot_rake (s : State) (k : Nat) (v : KeySlot) : (s.setKeySlot k v).rake = s.rake := (rfl)
@[simp] theorem setKeySlot_repair (s : State) (k : Nat) (v : KeySlot) : (s.setKeySlot k v).repair = s.repair := (rfl)
@[simp] theorem setKeySlot_hk (s : State) (k : Nat) (v : KeySlot) : (s.setKeySlot k v).hk = s.hk := (rfl)
@[simp] theorem setKeySlot_scan (s : State) (k : Nat) (v : KeySlot) : (s.setKeySlot k v).scan = s.scan := (rfl)

/-! ### State.setF -/

@[simp] theorem setF_pending (s : State) (off hi lo v : Nat) : (s.setF off hi lo v).pending = s.pending := (rfl)
@[simp] theorem setF_clock (s : State) (off hi lo v : Nat) : (s.setF off hi lo v).clock = s.clock := (rfl)
@[simp] theorem setF_deferred (s : State) (off hi lo v : Nat) : (s.setF off hi lo v).deferred = s.deferred := (rfl)
@[simp] theorem setF_closing (s : State) (off hi lo v : Nat) : (s.setF off hi lo v).closing = s.closing := (rfl)
@[simp] theorem setF_fresh (s : State) (off hi lo v : Nat) : (s.setF off hi lo v).fresh = s.fresh := (rfl)
@[simp] theorem setF_out (s : State) (off hi lo v : Nat) : (s.setF off hi lo v).out = s.out := (rfl)
@[simp] theorem setF_shadow (s : State) (off hi lo v : Nat) : (s.setF off hi lo v).shadow = s.shadow := (rfl)
@[simp] theorem setF_acc (s : State) (off hi lo v : Nat) : (s.setF off hi lo v).acc = s.acc := (rfl)
@[simp] theorem setF_mode (s : State) (off hi lo v : Nat) : (s.setF off hi lo v).mode = s.mode := (rfl)
@[simp] theorem setF_wipe (s : State) (off hi lo v : Nat) : (s.setF off hi lo v).wipe = s.wipe := (rfl)
@[simp] theorem setF_flt (s : State) (off hi lo v : Nat) : (s.setF off hi lo v).flt = s.flt := (rfl)
@[simp] theorem setF_evt (s : State) (off hi lo v : Nat) : (s.setF off hi lo v).evt = s.evt := (rfl)
@[simp] theorem setF_cores (s : State) (off hi lo v : Nat) : (s.setF off hi lo v).cores = s.cores := (rfl)
@[simp] theorem setF_sets (s : State) (off hi lo v : Nat) : (s.setF off hi lo v).sets = s.sets := (rfl)
@[simp] theorem setF_port (s : State) (off hi lo v : Nat) : (s.setF off hi lo v).port = s.port := (rfl)
@[simp] theorem setF_coh (s : State) (off hi lo v : Nat) : (s.setF off hi lo v).coh = s.coh := (rfl)
@[simp] theorem setF_tier (s : State) (off hi lo v : Nat) : (s.setF off hi lo v).tier = s.tier := (rfl)
@[simp] theorem setF_keys (s : State) (off hi lo v : Nat) : (s.setF off hi lo v).keys = s.keys := (rfl)
@[simp] theorem setF_dram (s : State) (off hi lo v : Nat) : (s.setF off hi lo v).dram = s.dram := (rfl)
@[simp] theorem setF_slu (s : State) (off hi lo v : Nat) : (s.setF off hi lo v).slu = s.slu := (rfl)
@[simp] theorem setF_slot (s : State) (off hi lo v : Nat) : (s.setF off hi lo v).slot = s.slot := (rfl)
@[simp] theorem setF_pool (s : State) (off hi lo v : Nat) : (s.setF off hi lo v).pool = s.pool := (rfl)
@[simp] theorem setF_tideU (s : State) (off hi lo v : Nat) : (s.setF off hi lo v).tideU = s.tideU := (rfl)
@[simp] theorem setF_tel (s : State) (off hi lo v : Nat) : (s.setF off hi lo v).tel = s.tel := (rfl)
@[simp] theorem setF_sec (s : State) (off hi lo v : Nat) : (s.setF off hi lo v).sec = s.sec := (rfl)
@[simp] theorem setF_rake (s : State) (off hi lo v : Nat) : (s.setF off hi lo v).rake = s.rake := (rfl)
@[simp] theorem setF_repair (s : State) (off hi lo v : Nat) : (s.setF off hi lo v).repair = s.repair := (rfl)
@[simp] theorem setF_hk (s : State) (off hi lo v : Nat) : (s.setF off hi lo v).hk = s.hk := (rfl)
@[simp] theorem setF_scan (s : State) (off hi lo v : Nat) : (s.setF off hi lo v).scan = s.scan := (rfl)

/-! ### State.setBit -/

@[simp] theorem setBit_pending (s : State) (off i : Nat) (b : Bool) : (s.setBit off i b).pending = s.pending := (rfl)
@[simp] theorem setBit_clock (s : State) (off i : Nat) (b : Bool) : (s.setBit off i b).clock = s.clock := (rfl)
@[simp] theorem setBit_deferred (s : State) (off i : Nat) (b : Bool) : (s.setBit off i b).deferred = s.deferred := (rfl)
@[simp] theorem setBit_closing (s : State) (off i : Nat) (b : Bool) : (s.setBit off i b).closing = s.closing := (rfl)
@[simp] theorem setBit_fresh (s : State) (off i : Nat) (b : Bool) : (s.setBit off i b).fresh = s.fresh := (rfl)
@[simp] theorem setBit_out (s : State) (off i : Nat) (b : Bool) : (s.setBit off i b).out = s.out := (rfl)
@[simp] theorem setBit_shadow (s : State) (off i : Nat) (b : Bool) : (s.setBit off i b).shadow = s.shadow := (rfl)
@[simp] theorem setBit_acc (s : State) (off i : Nat) (b : Bool) : (s.setBit off i b).acc = s.acc := (rfl)
@[simp] theorem setBit_mode (s : State) (off i : Nat) (b : Bool) : (s.setBit off i b).mode = s.mode := (rfl)
@[simp] theorem setBit_wipe (s : State) (off i : Nat) (b : Bool) : (s.setBit off i b).wipe = s.wipe := (rfl)
@[simp] theorem setBit_flt (s : State) (off i : Nat) (b : Bool) : (s.setBit off i b).flt = s.flt := (rfl)
@[simp] theorem setBit_evt (s : State) (off i : Nat) (b : Bool) : (s.setBit off i b).evt = s.evt := (rfl)
@[simp] theorem setBit_cores (s : State) (off i : Nat) (b : Bool) : (s.setBit off i b).cores = s.cores := (rfl)
@[simp] theorem setBit_sets (s : State) (off i : Nat) (b : Bool) : (s.setBit off i b).sets = s.sets := (rfl)
@[simp] theorem setBit_port (s : State) (off i : Nat) (b : Bool) : (s.setBit off i b).port = s.port := (rfl)
@[simp] theorem setBit_coh (s : State) (off i : Nat) (b : Bool) : (s.setBit off i b).coh = s.coh := (rfl)
@[simp] theorem setBit_tier (s : State) (off i : Nat) (b : Bool) : (s.setBit off i b).tier = s.tier := (rfl)
@[simp] theorem setBit_keys (s : State) (off i : Nat) (b : Bool) : (s.setBit off i b).keys = s.keys := (rfl)
@[simp] theorem setBit_dram (s : State) (off i : Nat) (b : Bool) : (s.setBit off i b).dram = s.dram := (rfl)
@[simp] theorem setBit_slu (s : State) (off i : Nat) (b : Bool) : (s.setBit off i b).slu = s.slu := (rfl)
@[simp] theorem setBit_slot (s : State) (off i : Nat) (b : Bool) : (s.setBit off i b).slot = s.slot := (rfl)
@[simp] theorem setBit_pool (s : State) (off i : Nat) (b : Bool) : (s.setBit off i b).pool = s.pool := (rfl)
@[simp] theorem setBit_tideU (s : State) (off i : Nat) (b : Bool) : (s.setBit off i b).tideU = s.tideU := (rfl)
@[simp] theorem setBit_tel (s : State) (off i : Nat) (b : Bool) : (s.setBit off i b).tel = s.tel := (rfl)
@[simp] theorem setBit_sec (s : State) (off i : Nat) (b : Bool) : (s.setBit off i b).sec = s.sec := (rfl)
@[simp] theorem setBit_rake (s : State) (off i : Nat) (b : Bool) : (s.setBit off i b).rake = s.rake := (rfl)
@[simp] theorem setBit_repair (s : State) (off i : Nat) (b : Bool) : (s.setBit off i b).repair = s.repair := (rfl)
@[simp] theorem setBit_hk (s : State) (off i : Nat) (b : Bool) : (s.setBit off i b).hk = s.hk := (rfl)
@[simp] theorem setBit_scan (s : State) (off i : Nat) (b : Bool) : (s.setBit off i b).scan = s.scan := (rfl)

/-! ### State.setTide -/

@[simp] theorem setTide_pending (s : State) (t : Nat) : (s.setTide t).pending = s.pending := (rfl)
@[simp] theorem setTide_clock (s : State) (t : Nat) : (s.setTide t).clock = s.clock := (rfl)
@[simp] theorem setTide_deferred (s : State) (t : Nat) : (s.setTide t).deferred = s.deferred := (rfl)
@[simp] theorem setTide_closing (s : State) (t : Nat) : (s.setTide t).closing = s.closing := (rfl)
@[simp] theorem setTide_fresh (s : State) (t : Nat) : (s.setTide t).fresh = s.fresh := (rfl)
@[simp] theorem setTide_out (s : State) (t : Nat) : (s.setTide t).out = s.out := (rfl)
@[simp] theorem setTide_shadow (s : State) (t : Nat) : (s.setTide t).shadow = s.shadow := (rfl)
@[simp] theorem setTide_acc (s : State) (t : Nat) : (s.setTide t).acc = s.acc := (rfl)
@[simp] theorem setTide_mode (s : State) (t : Nat) : (s.setTide t).mode = s.mode := (rfl)
@[simp] theorem setTide_wipe (s : State) (t : Nat) : (s.setTide t).wipe = s.wipe := (rfl)
@[simp] theorem setTide_flt (s : State) (t : Nat) : (s.setTide t).flt = s.flt := (rfl)
@[simp] theorem setTide_evt (s : State) (t : Nat) : (s.setTide t).evt = s.evt := (rfl)
@[simp] theorem setTide_cores (s : State) (t : Nat) : (s.setTide t).cores = s.cores := (rfl)
@[simp] theorem setTide_sets (s : State) (t : Nat) : (s.setTide t).sets = s.sets := (rfl)
@[simp] theorem setTide_port (s : State) (t : Nat) : (s.setTide t).port = s.port := (rfl)
@[simp] theorem setTide_coh (s : State) (t : Nat) : (s.setTide t).coh = s.coh := (rfl)
@[simp] theorem setTide_tier (s : State) (t : Nat) : (s.setTide t).tier = s.tier := (rfl)
@[simp] theorem setTide_keys (s : State) (t : Nat) : (s.setTide t).keys = s.keys := (rfl)
@[simp] theorem setTide_dram (s : State) (t : Nat) : (s.setTide t).dram = s.dram := (rfl)
@[simp] theorem setTide_slu (s : State) (t : Nat) : (s.setTide t).slu = s.slu := (rfl)
@[simp] theorem setTide_slot (s : State) (t : Nat) : (s.setTide t).slot = s.slot := (rfl)
@[simp] theorem setTide_pool (s : State) (t : Nat) : (s.setTide t).pool = s.pool := (rfl)
@[simp] theorem setTide_tideU (s : State) (t : Nat) : (s.setTide t).tideU = s.tideU := (rfl)
@[simp] theorem setTide_tel (s : State) (t : Nat) : (s.setTide t).tel = s.tel := (rfl)
@[simp] theorem setTide_sec (s : State) (t : Nat) : (s.setTide t).sec = s.sec := (rfl)
@[simp] theorem setTide_rake (s : State) (t : Nat) : (s.setTide t).rake = s.rake := (rfl)
@[simp] theorem setTide_repair (s : State) (t : Nat) : (s.setTide t).repair = s.repair := (rfl)
@[simp] theorem setTide_hk (s : State) (t : Nat) : (s.setTide t).hk = s.hk := (rfl)
@[simp] theorem setTide_scan (s : State) (t : Nat) : (s.setTide t).scan = s.scan := (rfl)

/-! ### State.hwBit -/

@[simp] theorem hwBit_pending (s : State) (off i : Nat) : (s.hwBit off i).pending = s.pending := (rfl)
@[simp] theorem hwBit_clock (s : State) (off i : Nat) : (s.hwBit off i).clock = s.clock := (rfl)
@[simp] theorem hwBit_deferred (s : State) (off i : Nat) : (s.hwBit off i).deferred = s.deferred := (rfl)
@[simp] theorem hwBit_closing (s : State) (off i : Nat) : (s.hwBit off i).closing = s.closing := (rfl)
@[simp] theorem hwBit_fresh (s : State) (off i : Nat) : (s.hwBit off i).fresh = s.fresh := (rfl)
@[simp] theorem hwBit_out (s : State) (off i : Nat) : (s.hwBit off i).out = s.out := (rfl)
@[simp] theorem hwBit_shadow (s : State) (off i : Nat) : (s.hwBit off i).shadow = s.shadow := (rfl)
@[simp] theorem hwBit_mode (s : State) (off i : Nat) : (s.hwBit off i).mode = s.mode := (rfl)
@[simp] theorem hwBit_wipe (s : State) (off i : Nat) : (s.hwBit off i).wipe = s.wipe := (rfl)
@[simp] theorem hwBit_flt (s : State) (off i : Nat) : (s.hwBit off i).flt = s.flt := (rfl)
@[simp] theorem hwBit_evt (s : State) (off i : Nat) : (s.hwBit off i).evt = s.evt := (rfl)
@[simp] theorem hwBit_cores (s : State) (off i : Nat) : (s.hwBit off i).cores = s.cores := (rfl)
@[simp] theorem hwBit_sets (s : State) (off i : Nat) : (s.hwBit off i).sets = s.sets := (rfl)
@[simp] theorem hwBit_port (s : State) (off i : Nat) : (s.hwBit off i).port = s.port := (rfl)
@[simp] theorem hwBit_coh (s : State) (off i : Nat) : (s.hwBit off i).coh = s.coh := (rfl)
@[simp] theorem hwBit_tier (s : State) (off i : Nat) : (s.hwBit off i).tier = s.tier := (rfl)
@[simp] theorem hwBit_keys (s : State) (off i : Nat) : (s.hwBit off i).keys = s.keys := (rfl)
@[simp] theorem hwBit_dram (s : State) (off i : Nat) : (s.hwBit off i).dram = s.dram := (rfl)
@[simp] theorem hwBit_slu (s : State) (off i : Nat) : (s.hwBit off i).slu = s.slu := (rfl)
@[simp] theorem hwBit_slot (s : State) (off i : Nat) : (s.hwBit off i).slot = s.slot := (rfl)
@[simp] theorem hwBit_pool (s : State) (off i : Nat) : (s.hwBit off i).pool = s.pool := (rfl)
@[simp] theorem hwBit_tideU (s : State) (off i : Nat) : (s.hwBit off i).tideU = s.tideU := (rfl)
@[simp] theorem hwBit_tel (s : State) (off i : Nat) : (s.hwBit off i).tel = s.tel := (rfl)
@[simp] theorem hwBit_sec (s : State) (off i : Nat) : (s.hwBit off i).sec = s.sec := (rfl)
@[simp] theorem hwBit_rake (s : State) (off i : Nat) : (s.hwBit off i).rake = s.rake := (rfl)
@[simp] theorem hwBit_repair (s : State) (off i : Nat) : (s.hwBit off i).repair = s.repair := (rfl)
@[simp] theorem hwBit_hk (s : State) (off i : Nat) : (s.hwBit off i).hk = s.hk := (rfl)
@[simp] theorem hwBit_scan (s : State) (off i : Nat) : (s.hwBit off i).scan = s.scan := (rfl)

/-! ### State.noteWrite -/

@[simp] theorem noteWrite_pending (s : State) (off rw : Nat) : (s.noteWrite off rw).pending = s.pending := (rfl)
@[simp] theorem noteWrite_clock (s : State) (off rw : Nat) : (s.noteWrite off rw).clock = s.clock := (rfl)
@[simp] theorem noteWrite_deferred (s : State) (off rw : Nat) : (s.noteWrite off rw).deferred = s.deferred := (rfl)
@[simp] theorem noteWrite_closing (s : State) (off rw : Nat) : (s.noteWrite off rw).closing = s.closing := (rfl)
@[simp] theorem noteWrite_fresh (s : State) (off rw : Nat) : (s.noteWrite off rw).fresh = s.fresh := (rfl)
@[simp] theorem noteWrite_out (s : State) (off rw : Nat) : (s.noteWrite off rw).out = s.out := (rfl)
@[simp] theorem noteWrite_regs (s : State) (off rw : Nat) : (s.noteWrite off rw).regs = s.regs := (rfl)
@[simp] theorem noteWrite_shadow (s : State) (off rw : Nat) : (s.noteWrite off rw).shadow = s.shadow := (rfl)
@[simp] theorem noteWrite_mode (s : State) (off rw : Nat) : (s.noteWrite off rw).mode = s.mode := (rfl)
@[simp] theorem noteWrite_wipe (s : State) (off rw : Nat) : (s.noteWrite off rw).wipe = s.wipe := (rfl)
@[simp] theorem noteWrite_flt (s : State) (off rw : Nat) : (s.noteWrite off rw).flt = s.flt := (rfl)
@[simp] theorem noteWrite_evt (s : State) (off rw : Nat) : (s.noteWrite off rw).evt = s.evt := (rfl)
@[simp] theorem noteWrite_cores (s : State) (off rw : Nat) : (s.noteWrite off rw).cores = s.cores := (rfl)
@[simp] theorem noteWrite_sets (s : State) (off rw : Nat) : (s.noteWrite off rw).sets = s.sets := (rfl)
@[simp] theorem noteWrite_port (s : State) (off rw : Nat) : (s.noteWrite off rw).port = s.port := (rfl)
@[simp] theorem noteWrite_coh (s : State) (off rw : Nat) : (s.noteWrite off rw).coh = s.coh := (rfl)
@[simp] theorem noteWrite_tier (s : State) (off rw : Nat) : (s.noteWrite off rw).tier = s.tier := (rfl)
@[simp] theorem noteWrite_keys (s : State) (off rw : Nat) : (s.noteWrite off rw).keys = s.keys := (rfl)
@[simp] theorem noteWrite_dram (s : State) (off rw : Nat) : (s.noteWrite off rw).dram = s.dram := (rfl)
@[simp] theorem noteWrite_slu (s : State) (off rw : Nat) : (s.noteWrite off rw).slu = s.slu := (rfl)
@[simp] theorem noteWrite_slot (s : State) (off rw : Nat) : (s.noteWrite off rw).slot = s.slot := (rfl)
@[simp] theorem noteWrite_pool (s : State) (off rw : Nat) : (s.noteWrite off rw).pool = s.pool := (rfl)
@[simp] theorem noteWrite_tideU (s : State) (off rw : Nat) : (s.noteWrite off rw).tideU = s.tideU := (rfl)
@[simp] theorem noteWrite_tel (s : State) (off rw : Nat) : (s.noteWrite off rw).tel = s.tel := (rfl)
@[simp] theorem noteWrite_sec (s : State) (off rw : Nat) : (s.noteWrite off rw).sec = s.sec := (rfl)
@[simp] theorem noteWrite_rake (s : State) (off rw : Nat) : (s.noteWrite off rw).rake = s.rake := (rfl)
@[simp] theorem noteWrite_repair (s : State) (off rw : Nat) : (s.noteWrite off rw).repair = s.repair := (rfl)
@[simp] theorem noteWrite_hk (s : State) (off rw : Nat) : (s.noteWrite off rw).hk = s.hk := (rfl)
@[simp] theorem noteWrite_scan (s : State) (off rw : Nat) : (s.noteWrite off rw).scan = s.scan := (rfl)

/-! ### Reads after writes -/

@[simp] theorem reg_setReg_same (s : State) (off : Nat) (v : Word) : (s.setReg off v).reg off = v := by
  simp [State.reg, State.setReg]

theorem reg_setReg_ne (s : State) {off o : Nat} (v : Word) (h : o ≠ off) : (s.setReg off v).reg o = s.reg o := by
  simp [State.reg, State.setReg, smGet_smSet_ne _ _ _ _ h]

@[simp] theorem core_setCore_same (s : State) (n : Nat) (c : Core) : (s.setCore n c).core n = c := by
  simp [State.core, State.setCore]

theorem core_setCore_ne (s : State) {n m : Nat} (c : Core) (h : m ≠ n) : (s.setCore n c).core m = s.core m := by
  simp [State.core, State.setCore, smGet_smSet_ne _ _ _ _ h]

@[simp] theorem chan_setChan_same (s : State) (n : Nat) (c : Chan) : (s.setChan n c).chan n = c := by
  simp [State.chan, State.setChan]

theorem chan_setChan_ne (s : State) {n m : Nat} (c : Chan) (h : m ≠ n) : (s.setChan n c).chan m = s.chan m := by
  simp [State.chan, State.setChan, smGet_smSet_ne _ _ _ _ h]

@[simp] theorem keySlot_setKeySlot_same (s : State) (n : Nat) (c : KeySlot) : (s.setKeySlot n c).keySlot n = c := by
  simp [State.keySlot, State.setKeySlot]

@[simp] theorem subp_setSubp_same (s : State) (n : Nat) (c : SubPort) : (s.setSubp n c).subp n = c := by
  simp [State.subp, State.setSubp]

@[simp] theorem logDev_setLogDev_same (s : State) (n : Nat) (c : LogDev) : (s.setLogDev n c).logDev n = c := by
  simp [State.logDev, State.setLogDev]

/-- A register write leaves a register file's canonical form. -/
theorem regs_wf_setReg (s : State) (off : Nat) (v : Word) (h : smWf resetWord s.regs = true) :
    smWf resetWord (s.setReg off v).regs = true := smWf_smSet resetWord s.regs off v h

/-- A bit that hardware sets is set, and the other registers stay. -/
theorem reg_hwBit (s : State) (off i o : Nat) : (s.hwBit off i).reg o = (s.setBit off i true).reg o := (rfl)
theorem reg_hwBit_ne (s : State) {off o : Nat} (i : Nat) (h : o ≠ off) : (s.hwBit off i).reg o = s.reg o := by
  rw [reg_hwBit]; exact reg_setReg_ne s _ h

/-! ### Registers seen through other updates -/

@[simp] theorem reg_noteWrite (s : State) (off rw : Nat) (o : Nat) : (s.noteWrite off rw).reg o = s.reg o := (rfl)
@[simp] theorem core_hwBit (s : State) (off i : Nat) (o : Nat) : (s.hwBit off i).core o = s.core o := (rfl)
@[simp] theorem core_noteWrite (s : State) (off rw : Nat) (o : Nat) : (s.noteWrite off rw).core o = s.core o := (rfl)
@[simp] theorem reg_setSreg (s : State) (off : Nat) (v : Word) (o : Nat) : (s.setSreg off v).reg o = s.reg o := (rfl)
@[simp] theorem reg_draw (s : State) (o : Nat) : (s.draw).reg o = s.reg o := (rfl)
@[simp] theorem reg_emit (s : State) (r : Resp) (o : Nat) : (s.emit r).reg o = s.reg o := (rfl)
@[simp] theorem reg_setLive (s : State) (id off v n : Nat) (o : Nat) : (s.setLive id off v n).reg o = s.reg o := (rfl)
@[simp] theorem reg_setCore (s : State) (n : Nat) (c : Core) (o : Nat) : (s.setCore n c).reg o = s.reg o := (rfl)
@[simp] theorem reg_setChan (s : State) (n : Nat) (c : Chan) (o : Nat) : (s.setChan n c).reg o = s.reg o := (rfl)
@[simp] theorem reg_setSubp (s : State) (p : Nat) (v : SubPort) (o : Nat) : (s.setSubp p v).reg o = s.reg o := (rfl)
@[simp] theorem reg_setLogDev (s : State) (l : Nat) (v : LogDev) (o : Nat) : (s.setLogDev l v).reg o = s.reg o := (rfl)
@[simp] theorem reg_setKeySlot (s : State) (k : Nat) (v : KeySlot) (o : Nat) : (s.setKeySlot k v).reg o = s.reg o := (rfl)
@[simp] theorem core_setReg (s : State) (off : Nat) (v : Word) (o : Nat) : (s.setReg off v).core o = s.core o := (rfl)
@[simp] theorem core_setSreg (s : State) (off : Nat) (v : Word) (o : Nat) : (s.setSreg off v).core o = s.core o := (rfl)
@[simp] theorem core_draw (s : State) (o : Nat) : (s.draw).core o = s.core o := (rfl)
@[simp] theorem core_emit (s : State) (r : Resp) (o : Nat) : (s.emit r).core o = s.core o := (rfl)
@[simp] theorem core_setLive (s : State) (id off v n : Nat) (o : Nat) : (s.setLive id off v n).core o = s.core o := (rfl)
@[simp] theorem core_setChan (s : State) (n : Nat) (c : Chan) (o : Nat) : (s.setChan n c).core o = s.core o := (rfl)
@[simp] theorem core_setSubp (s : State) (p : Nat) (v : SubPort) (o : Nat) : (s.setSubp p v).core o = s.core o := (rfl)
@[simp] theorem core_setLogDev (s : State) (l : Nat) (v : LogDev) (o : Nat) : (s.setLogDev l v).core o = s.core o := (rfl)
@[simp] theorem core_setKeySlot (s : State) (k : Nat) (v : KeySlot) (o : Nat) : (s.setKeySlot k v).core o = s.core o := (rfl)
@[simp] theorem core_setF (s : State) (off hi lo v : Nat) (o : Nat) : (s.setF off hi lo v).core o = s.core o := (rfl)
@[simp] theorem core_setBit (s : State) (off i : Nat) (b : Bool) (o : Nat) : (s.setBit off i b).core o = s.core o := (rfl)
@[simp] theorem core_setTide (s : State) (t : Nat) (o : Nat) : (s.setTide t).core o = s.core o := (rfl)

theorem setCore_setCore (s : State) (n : Nat) (a b : Core) : (s.setCore n a).setCore n b = s.setCore n b := by
  simp [State.setCore]

theorem setReg_setReg (s : State) (off : Nat) (a b : Word) : (s.setReg off a).setReg off b = s.setReg off b := by
  simp [State.setReg]

end Sys2Proof.Laws
end

