-- ==== Sys2Proof/Laws/Cores.lean ====
section
/-! SUPPORT. General registers and what ending an instruction does to the state. -/

namespace Sys2Proof.Laws

open Sys2Proof.Machine

@[simp] theorem getT_zero (s : State) (n : Nat) : getT s n 0 = 0 := rfl

/-- t0 keeps nothing that is written to it. -/
@[simp] theorem setT_zero (s : State) (n : Nat) (v : DWord) : setT s n 0 v = s := rfl

/-- A general register other than t0 reads what was written to it. -/
theorem getT_setT_same (s : State) (n : Nat) {r : Fin 32} (v : DWord) (h : r ≠ 0) : getT (setT s n r v) n r = v := by
  simp [getT, setT, h]

theorem getT_setT_other (s : State) (n : Nat) {r q : Fin 32} (v : DWord) (h : q ≠ r) :
    getT (setT s n r v) n q = getT s n q := by
  by_cases hr : r = 0
  · subst hr; rfl
  · have hv : q.val ≠ r.val := fun e => h (Fin.ext e)
    simp [getT, setT, hr, smGet_smSet_ne _ _ _ _ hv]

theorem getT_setT_core (s : State) {n m : Nat} (r q : Fin 32) (v : DWord) (h : m ≠ n) :
    getT (setT s n r v) m q = getT s m q := by
  by_cases hr : r = 0
  · subst hr; rfl
  · simp [getT, setT, hr, core_setCore_ne _ _ h]

/-- A counter's advance touches the live counters alone. -/
theorem tick_eq (s : State) (b c n : Nat) : ∃ m, tick s b c n = { s with tel := { s.tel with cnt := m } } := by
  unfold tick
  split
  · exact ⟨_, rfl⟩
  · exact ⟨s.tel.cnt, rfl⟩

@[simp] theorem tick_core (s : State) (b c n k : Nat) : (tick s b c n).core k = s.core k := by
  obtain ⟨m, h⟩ := tick_eq s b c n; rw [h]; rfl

/-- All that the end of an instruction changes: its register, its pc, INSTRET and the live counters. -/
theorem coreDone_eq (s : State) (n : Nat) (rd : Fin 32) (v : DWord) :
    ∃ m, coreDone s n rd v =
      { (setT s n rd v).setCore n { (setT s n rd v).core n with
          pc := ((setT s n rd v).core n).pc + 4, instret := ((setT s n rd v).core n).instret + 1, wait := .none } with
        tel := { s.tel with cnt := m } } := by
  have ht : (setT s n rd v).tel = s.tel := by
    unfold setT; split <;> rfl
  unfold coreDone
  obtain ⟨m1, h1⟩ := tick_eq ((setT s n rd v).setCore n { (setT s n rd v).core n with
    pc := ((setT s n rd v).core n).pc + 4, instret := ((setT s n rd v).core n).instret + 1, wait := .none }) (bCore n) 0 1
  obtain ⟨m2, h2⟩ := tick_eq (tick ((setT s n rd v).setCore n { (setT s n rd v).core n with
    pc := ((setT s n rd v).core n).pc + 4, instret := ((setT s n rd v).core n).instret + 1, wait := .none }) (bCore n) 0 1)
    (bCore n) 1 1
  refine ⟨m2, ?_⟩
  simp only at h2 ⊢
  rw [h2, h1]
  simp [State.setCore, ht]

/-- The end of an instruction leaves every other core as it was. -/
theorem coreDone_core_ne (s : State) {n m : Nat} (rd : Fin 32) (v : DWord) (h : m ≠ n) :
    (coreDone s n rd v).core m = s.core m := by
  have ht : (setT s n rd v).core m = s.core m := by
    unfold setT; split
    · rfl
    · exact core_setCore_ne _ _ h
  simp [coreDone, core_setCore_ne _ _ h, ht]

@[simp] theorem coreDone_pc (s : State) (n : Nat) (rd : Fin 32) (v : DWord) :
    ((coreDone s n rd v).core n).pc = (s.core n).pc + 4 := by
  have ht : ((setT s n rd v).core n).pc = (s.core n).pc := by
    unfold setT; split
    · rfl
    · simp
  simp [coreDone, ht]

/-- The end of an instruction writes no register, table, memory or queue beside its core and the live counters. -/
theorem coreDone_frame (s : State) (n : Nat) (rd : Fin 32) (v : DWord) :
    (coreDone s n rd v).regs = s.regs ∧ (coreDone s n rd v).shadow = s.shadow ∧ (coreDone s n rd v).sets = s.sets ∧
      (coreDone s n rd v).flt = s.flt ∧ (coreDone s n rd v).pending = s.pending ∧ (coreDone s n rd v).dram = s.dram ∧
      (coreDone s n rd v).tier = s.tier ∧ (coreDone s n rd v).coh = s.coh ∧ (coreDone s n rd v).out = s.out := by
  obtain ⟨m, h⟩ := coreDone_eq s n rd v
  rw [h]
  unfold setT
  split <;> exact ⟨rfl, rfl, rfl, rfl, rfl, rfl, rfl, rfl, rfl⟩

/-- An instruction that a core issues, with a fetch that passes, has its own effect. -/
theorem onIssue_issuing {s : State} {c : Fin 16} (f : State → State)
    (h : issues s c.val = true ∧ (coreLoad s c.val .fetch (s.core c.val).pc.toNat 4).isOk = true) : onIssue s c f = f s := by
  obtain ⟨h1, h2⟩ := h
  unfold onIssue
  rw [if_pos h1]
  cases hc : coreLoad s c.val .fetch (s.core c.val).pc.toNat 4 with
  | error k => rw [hc] at h2; cases h2
  | ok v => rfl

end Sys2Proof.Laws
end

