-- ==== Sys2Proof/Laws/Exec.lean ====
section
/-! SUPPORT. One equation a command: `exec` of it is its meaning. They spare a proof the unfolding of `exec` and its many arms. -/

namespace Sys2Proof.Laws

open Sys2Proof.Machine

theorem exec_registerWrite (p : Path) (width : Nat) (off : Nat) (val : Nat) (s : State) :
    exec (.registerWrite p width off val) s = execRegisterWrite p width off val s := rfl
theorem exec_registerPairLowRead (p : Path) (width : Nat) (off : Nat) (s : State) :
    exec (.registerPairLowRead p width off) s = execRegisterPairLowRead p width off s := rfl
theorem exec_sidebandRegisterMessage (ops : List SbOp) (s : State) :
    exec (.sidebandRegisterMessage ops) s = execSidebandRegisterMessage ops s := rfl
theorem exec_gpVWrite (p : Path) (off : Nat) (v : Word) (s : State) :
    exec (.gpVWrite p off v) s = execGpVWrite p off v s := rfl
theorem exec_gpCWrite (p : Path) (off : Nat) (v : Word) (s : State) :
    exec (.gpCWrite p off v) s = execGpCWrite p off v s := rfl
theorem exec_gpSequenceTimeout (s : State) :
    exec (.gpSequenceTimeout) s = execGpSequenceTimeout s := rfl
theorem exec_keyArm (p : Path) (v : Word) (s : State) :
    exec (.keyArm p v) s = execKeyArm p v s := rfl
theorem exec_keyExpiry (p : Path) (s : State) :
    exec (.keyExpiry p) s = execKeyExpiry p s := rfl
theorem exec_idxAddrWrite (p : Path) (n : Fin 4) (v : Word) (s : State) :
    exec (.idxAddrWrite p n v) s = execIdxAddrWrite p n v s := rfl
theorem exec_idxDataRead (p : Path) (n : Fin 4) (s : State) :
    exec (.idxDataRead p n) s = execIdxDataRead p n s := rfl
theorem exec_idxDataWrite (p : Path) (n : Fin 4) (v : Word) (s : State) :
    exec (.idxDataWrite p n v) s = execIdxDataWrite p n v s := rfl
theorem exec_idxTargetDone (n : Fin 4) (s : State) :
    exec (.idxTargetDone n) s = execIdxTargetDone n s := rfl
theorem exec_idxPairTimeout (n : Fin 4) (s : State) :
    exec (.idxPairTimeout n) s = execIdxPairTimeout n s := rfl
theorem exec_modeRequestRise (p : Path) (s : State) :
    exec (.modeRequestRise p) s = execModeRequestRise p s := rfl
theorem exec_modeRequestRun (p : Path) (s : State) :
    exec (.modeRequestRun p) s = execModeRequestRun p s := rfl
theorem exec_modeRequestDrain (p : Path) (s : State) :
    exec (.modeRequestDrain p) s = execModeRequestDrain p s := rfl
theorem exec_modeRequestHold (p : Path) (s : State) :
    exec (.modeRequestHold p) s = execModeRequestHold p s := rfl
theorem exec_modeRequestTest (p : Path) (s : State) :
    exec (.modeRequestTest p) s = execModeRequestTest p s := rfl
theorem exec_modeRequestOther (p : Path) (target : Fin 8) (s : State) :
    exec (.modeRequestOther p target) s = execModeRequestOther p target s := rfl
theorem exec_modeTransitionEnd (s : State) :
    exec (.modeTransitionEnd) s = execModeTransitionEnd s := rfl
theorem exec_holdEntryComplete (s : State) :
    exec (.holdEntryComplete) s = execHoldEntryComplete s := rfl
theorem exec_holdExitComplete (s : State) :
    exec (.holdExitComplete) s = execHoldExitComplete s := rfl
theorem exec_holdLimitExpiry (s : State) :
    exec (.holdLimitExpiry) s = execHoldLimitExpiry s := rfl
theorem exec_holdLimitWrite (p : Path) (v : Word) (s : State) :
    exec (.holdLimitWrite p v) s = execHoldLimitWrite p v s := rfl
theorem exec_safecapExpiry (s : State) :
    exec (.safecapExpiry) s = execSafecapExpiry s := rfl
theorem exec_coldReset (cause : Fin 8) (s : State) :
    exec (.coldReset cause) s = execColdReset cause s := rfl
theorem exec_warmReset (cause : Fin 8) (s : State) :
    exec (.warmReset cause) s = execWarmReset cause s := rfl
theorem exec_genRstWarm (p : Path) (s : State) :
    exec (.genRstWarm p) s = execGenRstWarm p s := rfl
theorem exec_genRstCold (p : Path) (s : State) :
    exec (.genRstCold p) s = execGenRstCold p s := rfl
theorem exec_resetNLow (clocks : Nat) (s : State) :
    exec (.resetNLow clocks) s = execResetNLow clocks s := rfl
theorem exec_resetNRelease (s : State) :
    exec (.resetNRelease) s = execResetNRelease s := rfl
theorem exec_supplyUndervoltage (clocks : Nat) (s : State) :
    exec (.supplyUndervoltage clocks) s = execSupplyUndervoltage clocks s := rfl
theorem exec_powerDieSupplyLoss (s : State) :
    exec (.powerDieSupplyLoss) s = execPowerDieSupplyLoss s := rfl
theorem exec_portReset (what : PortReset) (s : State) :
    exec (.portReset what) s = execPortReset what s := rfl
theorem exec_perstRelease (n : Fin 16) (k : Fin 4) (s : State) :
    exec (.perstRelease n k) s = execPerstRelease n k s := rfl
theorem exec_bitternKeysDone (s : State) :
    exec (.bitternKeysDone) s = execBitternKeysDone s := rfl
theorem exec_bitternSramDone (s : State) :
    exec (.bitternSramDone) s = execBitternSramDone s := rfl
theorem exec_bitternMapBlockWritten (set : Fin 24) (block : Nat) (s : State) :
    exec (.bitternMapBlockWritten set block) s = execBitternMapBlockWritten set block s := rfl
theorem exec_bitternMapPhaseEnd (set : Fin 24) (s : State) :
    exec (.bitternMapPhaseEnd set) s = execBitternMapPhaseEnd set s := rfl
theorem exec_bitternCellsZeroised (set : Fin 24) (cells : Nat) (s : State) :
    exec (.bitternCellsZeroised set cells) s = execBitternCellsZeroised set cells s := rfl
theorem exec_bitternDataPhaseEnd (set : Fin 24) (s : State) :
    exec (.bitternDataPhaseEnd set) s = execBitternDataPhaseEnd set s := rfl
theorem exec_setServable (set : Fin 24) (s : State) :
    exec (.setServable set) s = execSetServable set s := rfl
theorem exec_add (c : Fin 16) (rd rs1 rs2 : Fin 32) (s : State) :
    exec (.add c rd rs1 rs2) s = execAdd c rd rs1 rs2 s := rfl
theorem exec_sub (c : Fin 16) (rd rs1 rs2 : Fin 32) (s : State) :
    exec (.sub c rd rs1 rs2) s = execSub c rd rs1 rs2 s := rfl
theorem exec_and (c : Fin 16) (rd rs1 rs2 : Fin 32) (s : State) :
    exec (.and c rd rs1 rs2) s = execAnd c rd rs1 rs2 s := rfl
theorem exec_or (c : Fin 16) (rd rs1 rs2 : Fin 32) (s : State) :
    exec (.or c rd rs1 rs2) s = execOr c rd rs1 rs2 s := rfl
theorem exec_xor (c : Fin 16) (rd rs1 rs2 : Fin 32) (s : State) :
    exec (.xor c rd rs1 rs2) s = execXor c rd rs1 rs2 s := rfl
theorem exec_sll (c : Fin 16) (rd rs1 rs2 : Fin 32) (s : State) :
    exec (.sll c rd rs1 rs2) s = execSll c rd rs1 rs2 s := rfl
theorem exec_srl (c : Fin 16) (rd rs1 rs2 : Fin 32) (s : State) :
    exec (.srl c rd rs1 rs2) s = execSrl c rd rs1 rs2 s := rfl
theorem exec_sra (c : Fin 16) (rd rs1 rs2 : Fin 32) (s : State) :
    exec (.sra c rd rs1 rs2) s = execSra c rd rs1 rs2 s := rfl
theorem exec_slt (c : Fin 16) (rd rs1 rs2 : Fin 32) (s : State) :
    exec (.slt c rd rs1 rs2) s = execSlt c rd rs1 rs2 s := rfl
theorem exec_sltu (c : Fin 16) (rd rs1 rs2 : Fin 32) (s : State) :
    exec (.sltu c rd rs1 rs2) s = execSltu c rd rs1 rs2 s := rfl
theorem exec_min (c : Fin 16) (rd rs1 rs2 : Fin 32) (s : State) :
    exec (.min c rd rs1 rs2) s = execMin c rd rs1 rs2 s := rfl
theorem exec_max (c : Fin 16) (rd rs1 rs2 : Fin 32) (s : State) :
    exec (.max c rd rs1 rs2) s = execMax c rd rs1 rs2 s := rfl
theorem exec_minu (c : Fin 16) (rd rs1 rs2 : Fin 32) (s : State) :
    exec (.minu c rd rs1 rs2) s = execMinu c rd rs1 rs2 s := rfl
theorem exec_maxu (c : Fin 16) (rd rs1 rs2 : Fin 32) (s : State) :
    exec (.maxu c rd rs1 rs2) s = execMaxu c rd rs1 rs2 s := rfl
theorem exec_mul (c : Fin 16) (rd rs1 rs2 : Fin 32) (s : State) :
    exec (.mul c rd rs1 rs2) s = execMul c rd rs1 rs2 s := rfl
theorem exec_mulh (c : Fin 16) (rd rs1 rs2 : Fin 32) (s : State) :
    exec (.mulh c rd rs1 rs2) s = execMulh c rd rs1 rs2 s := rfl
theorem exec_mulhu (c : Fin 16) (rd rs1 rs2 : Fin 32) (s : State) :
    exec (.mulhu c rd rs1 rs2) s = execMulhu c rd rs1 rs2 s := rfl
theorem exec_div (c : Fin 16) (rd rs1 rs2 : Fin 32) (s : State) :
    exec (.div c rd rs1 rs2) s = execDiv c rd rs1 rs2 s := rfl
theorem exec_divu (c : Fin 16) (rd rs1 rs2 : Fin 32) (s : State) :
    exec (.divu c rd rs1 rs2) s = execDivu c rd rs1 rs2 s := rfl
theorem exec_rem (c : Fin 16) (rd rs1 rs2 : Fin 32) (s : State) :
    exec (.rem c rd rs1 rs2) s = execRem c rd rs1 rs2 s := rfl
theorem exec_remu (c : Fin 16) (rd rs1 rs2 : Fin 32) (s : State) :
    exec (.remu c rd rs1 rs2) s = execRemu c rd rs1 rs2 s := rfl
theorem exec_popc (c : Fin 16) (rd rs1 : Fin 32) (s : State) :
    exec (.popc c rd rs1) s = execPopc c rd rs1 s := rfl
theorem exec_clz (c : Fin 16) (rd rs1 : Fin 32) (s : State) :
    exec (.clz c rd rs1) s = execClz c rd rs1 s := rfl
theorem exec_ctz (c : Fin 16) (rd rs1 : Fin 32) (s : State) :
    exec (.ctz c rd rs1) s = execCtz c rd rs1 s := rfl
theorem exec_addi (c : Fin 16) (rd rs1 : Fin 32) (imm : BitVec 16) (s : State) :
    exec (.addi c rd rs1 imm) s = execAddi c rd rs1 imm s := rfl
theorem exec_andi (c : Fin 16) (rd rs1 : Fin 32) (imm : BitVec 16) (s : State) :
    exec (.andi c rd rs1 imm) s = execAndi c rd rs1 imm s := rfl
theorem exec_ori (c : Fin 16) (rd rs1 : Fin 32) (imm : BitVec 16) (s : State) :
    exec (.ori c rd rs1 imm) s = execOri c rd rs1 imm s := rfl
theorem exec_xori (c : Fin 16) (rd rs1 : Fin 32) (imm : BitVec 16) (s : State) :
    exec (.xori c rd rs1 imm) s = execXori c rd rs1 imm s := rfl
theorem exec_slti (c : Fin 16) (rd rs1 : Fin 32) (imm : BitVec 16) (s : State) :
    exec (.slti c rd rs1 imm) s = execSlti c rd rs1 imm s := rfl
theorem exec_sltiu (c : Fin 16) (rd rs1 : Fin 32) (imm : BitVec 16) (s : State) :
    exec (.sltiu c rd rs1 imm) s = execSltiu c rd rs1 imm s := rfl
theorem exec_slli (c : Fin 16) (rd rs1 : Fin 32) (sh : Fin 64) (s : State) :
    exec (.slli c rd rs1 sh) s = execSlli c rd rs1 sh s := rfl
theorem exec_srli (c : Fin 16) (rd rs1 : Fin 32) (sh : Fin 64) (s : State) :
    exec (.srli c rd rs1 sh) s = execSrli c rd rs1 sh s := rfl
theorem exec_srai (c : Fin 16) (rd rs1 : Fin 32) (sh : Fin 64) (s : State) :
    exec (.srai c rd rs1 sh) s = execSrai c rd rs1 sh s := rfl
theorem exec_lui (c : Fin 16) (rd : Fin 32) (imm : BitVec 16) (s : State) :
    exec (.lui c rd imm) s = execLui c rd imm s := rfl
theorem exec_shori (c : Fin 16) (rd rs1 : Fin 32) (imm : BitVec 16) (s : State) :
    exec (.shori c rd rs1 imm) s = execShori c rd rs1 imm s := rfl
theorem exec_jalr (c : Fin 16) (rd rs1 : Fin 32) (imm : BitVec 16) (s : State) :
    exec (.jalr c rd rs1 imm) s = execJalr c rd rs1 imm s := rfl
theorem exec_lb (c : Fin 16) (rd rs1 : Fin 32) (off : BitVec 16) (s : State) :
    exec (.lb c rd rs1 off) s = execLb c rd rs1 off s := rfl
theorem exec_lh (c : Fin 16) (rd rs1 : Fin 32) (off : BitVec 16) (s : State) :
    exec (.lh c rd rs1 off) s = execLh c rd rs1 off s := rfl
theorem exec_lw (c : Fin 16) (rd rs1 : Fin 32) (off : BitVec 16) (s : State) :
    exec (.lw c rd rs1 off) s = execLw c rd rs1 off s := rfl
theorem exec_ld (c : Fin 16) (rd rs1 : Fin 32) (off : BitVec 16) (s : State) :
    exec (.ld c rd rs1 off) s = execLd c rd rs1 off s := rfl
theorem exec_lbu (c : Fin 16) (rd rs1 : Fin 32) (off : BitVec 16) (s : State) :
    exec (.lbu c rd rs1 off) s = execLbu c rd rs1 off s := rfl
theorem exec_lhu (c : Fin 16) (rd rs1 : Fin 32) (off : BitVec 16) (s : State) :
    exec (.lhu c rd rs1 off) s = execLhu c rd rs1 off s := rfl
theorem exec_lwu (c : Fin 16) (rd rs1 : Fin 32) (off : BitVec 16) (s : State) :
    exec (.lwu c rd rs1 off) s = execLwu c rd rs1 off s := rfl
theorem exec_sb (c : Fin 16) (rs2 rs1 : Fin 32) (off : BitVec 16) (s : State) :
    exec (.sb c rs2 rs1 off) s = execSb c rs2 rs1 off s := rfl
theorem exec_sh (c : Fin 16) (rs2 rs1 : Fin 32) (off : BitVec 16) (s : State) :
    exec (.sh c rs2 rs1 off) s = execSh c rs2 rs1 off s := rfl
theorem exec_sw (c : Fin 16) (rs2 rs1 : Fin 32) (off : BitVec 16) (s : State) :
    exec (.sw c rs2 rs1 off) s = execSw c rs2 rs1 off s := rfl
theorem exec_sd (c : Fin 16) (rs2 rs1 : Fin 32) (off : BitVec 16) (s : State) :
    exec (.sd c rs2 rs1 off) s = execSd c rs2 rs1 off s := rfl
theorem exec_beq (c : Fin 16) (rs1 rs2 : Fin 32) (off : BitVec 16) (s : State) :
    exec (.beq c rs1 rs2 off) s = execBeq c rs1 rs2 off s := rfl
theorem exec_bne (c : Fin 16) (rs1 rs2 : Fin 32) (off : BitVec 16) (s : State) :
    exec (.bne c rs1 rs2 off) s = execBne c rs1 rs2 off s := rfl
theorem exec_blt (c : Fin 16) (rs1 rs2 : Fin 32) (off : BitVec 16) (s : State) :
    exec (.blt c rs1 rs2 off) s = execBlt c rs1 rs2 off s := rfl
theorem exec_bge (c : Fin 16) (rs1 rs2 : Fin 32) (off : BitVec 16) (s : State) :
    exec (.bge c rs1 rs2 off) s = execBge c rs1 rs2 off s := rfl
theorem exec_bltu (c : Fin 16) (rs1 rs2 : Fin 32) (off : BitVec 16) (s : State) :
    exec (.bltu c rs1 rs2 off) s = execBltu c rs1 rs2 off s := rfl
theorem exec_bgeu (c : Fin 16) (rs1 rs2 : Fin 32) (off : BitVec 16) (s : State) :
    exec (.bgeu c rs1 rs2 off) s = execBgeu c rs1 rs2 off s := rfl
theorem exec_jal (c : Fin 16) (rd : Fin 32) (off : BitVec 16) (s : State) :
    exec (.jal c rd off) s = execJal c rd off s := rfl
theorem exec_amoAdd (c : Fin 16) (rd rs1 rs2 : Fin 32) (w : Bool) (s : State) :
    exec (.amoAdd c rd rs1 rs2 w) s = execAmoAdd c rd rs1 rs2 w s := rfl
theorem exec_amoSwp (c : Fin 16) (rd rs1 rs2 : Fin 32) (w : Bool) (s : State) :
    exec (.amoSwp c rd rs1 rs2 w) s = execAmoSwp c rd rs1 rs2 w s := rfl
theorem exec_amoCas (c : Fin 16) (rd rs1 rs2 : Fin 32) (w : Bool) (s : State) :
    exec (.amoCas c rd rs1 rs2 w) s = execAmoCas c rd rs1 rs2 w s := rfl
theorem exec_amoMax (c : Fin 16) (rd rs1 rs2 : Fin 32) (w u : Bool) (s : State) :
    exec (.amoMax c rd rs1 rs2 w u) s = execAmoMax c rd rs1 rs2 w u s := rfl
theorem exec_fence (c : Fin 16) (sel : Fin 8) (s : State) :
    exec (.fence c sel) s = execFence c sel s := rfl
theorem exec_fenceRelease (c : Fin 16) (s : State) :
    exec (.fenceRelease c) s = execFenceRelease c s := rfl
theorem exec_trap (c : Fin 16) (code : BitVec 10) (s : State) :
    exec (.trap c code) s = execTrap c code s := rfl
theorem exec_halt (c : Fin 16) (s : State) :
    exec (.halt c) s = execHalt c s := rfl
theorem exec_eret (c : Fin 16) (s : State) :
    exec (.eret c) s = execEret c s := rfl
theorem exec_csrr (c : Fin 16) (rd : Fin 32) (csr : Fin 32) (s : State) :
    exec (.csrr c rd csr) s = execCsrr c rd csr s := rfl
theorem exec_csrw (c : Fin 16) (rs1 : Fin 32) (csr : Fin 32) (s : State) :
    exec (.csrw c rs1 csr) s = execCsrw c rs1 csr s := rfl
theorem exec_tmr (c : Fin 16) (rd rs1 : Fin 32) (s : State) :
    exec (.tmr c rd rs1) s = execTmr c rd rs1 s := rfl
theorem exec_tmw (c : Fin 16) (rd rs1 rs2 : Fin 32) (s : State) :
    exec (.tmw c rd rs1 rs2) s = execTmw c rd rs1 rs2 s := rfl
theorem exec_pmov (c : Fin 16) (rd rs1 rs2 : Fin 32) (s : State) :
    exec (.pmov c rd rs1 rs2) s = execPmov c rd rs1 rs2 s := rfl
theorem exec_pzero (c : Fin 16) (rd rs1 : Fin 32) (s : State) :
    exec (.pzero c rd rs1) s = execPzero c rd rs1 s := rfl
theorem exec_pprobe (c : Fin 16) (rd rs1 : Fin 32) (s : State) :
    exec (.pprobe c rd rs1) s = execPprobe c rd rs1 s := rfl
theorem exec_dqry (c : Fin 16) (rd rs1 : Fin 32) (s : State) :
    exec (.dqry c rd rs1) s = execDqry c rd rs1 s := rfl
theorem exec_send (c : Fin 16) (rd rs1 rs2 : Fin 32) (s : State) :
    exec (.send c rd rs1 rs2) s = execSend c rd rs1 rs2 s := rfl
theorem exec_sendStallRelease (c : Fin 16) (s : State) :
    exec (.sendStallRelease c) s = execSendStallRelease c s := rfl
theorem exec_recv (c : Fin 16) (rd rs1 : Fin 32) (s : State) :
    exec (.recv c rd rs1) s = execRecv c rd rs1 s := rfl
theorem exec_wait (c : Fin 16) (rd rs1 rs2 : Fin 32) (s : State) :
    exec (.wait c rd rs1 rs2) s = execWait c rd rs1 rs2 s := rfl
theorem exec_waitEventWake (c : Fin 16) (s : State) :
    exec (.waitEventWake c) s = execWaitEventWake c s := rfl
theorem exec_waitTimeout (c : Fin 16) (s : State) :
    exec (.waitTimeout c) s = execWaitTimeout c s := rfl
theorem exec_waitt (c : Fin 16) (rd rs1 rs2 : Fin 32) (s : State) :
    exec (.waitt c rd rs1 rs2) s = execWaitt c rd rs1 rs2 s := rfl
theorem exec_waittEventWake (c : Fin 16) (s : State) :
    exec (.waittEventWake c) s = execWaittEventWake c s := rfl
theorem exec_waittTideReached (c : Fin 16) (s : State) :
    exec (.waittTideReached c) s = execWaittTideReached c s := rfl
theorem exec_tide (c : Fin 16) (rd : Fin 32) (s : State) :
    exec (.tide c rd) s = execTide c rd s := rfl
theorem exec_cntr (c : Fin 16) (rd rs1 : Fin 32) (snap : Bool) (s : State) :
    exec (.cntr c rd rs1 snap) s = execCntr c rd rs1 snap s := rfl
theorem exec_rgr (c : Fin 16) (rd rs1 : Fin 32) (s : State) :
    exec (.rgr c rd rs1) s = execRgr c rd rs1 s := rfl
theorem exec_rgw (c : Fin 16) (rs1 rs2 : Fin 32) (s : State) :
    exec (.rgw c rs1 rs2) s = execRgw c rs1 rs2 s := rfl
theorem exec_rgwApplied (c : Fin 16) (s : State) :
    exec (.rgwApplied c) s = execRgwApplied c s := rfl
theorem exec_setarm (c : Fin 16) (rd : Fin 32) (s : State) :
    exec (.setarm c rd) s = execSetarm c rd s := rfl
theorem exec_watchdogExpiry (c : Fin 16) (s : State) :
    exec (.watchdogExpiry c) s = execWatchdogExpiry c s := rfl
theorem exec_pageMoveComplete (c : Fin 16) (slot : Fin 8) (errs : List (List (Nat × Word))) (s : State) :
    exec (.pageMoveComplete c slot errs) s = execPageMoveComplete c slot errs s := rfl
theorem exec_coreRestart (p : Path) (c : Fin 16) (s : State) :
    exec (.coreRestart p c) s = execCoreRestart p c s := rfl
theorem exec_coreRestartDeferred (c : Fin 16) (s : State) :
    exec (.coreRestartDeferred c) s = execCoreRestartDeferred c s := rfl
theorem exec_glxLoadImageStart (m : Issuer) (data : List Byte) (s : State) :
    exec (.glxLoadImageStart m data) s = execGlxLoadImageStart m data s := rfl
theorem exec_glxLoadImageData (m : Issuer) (off : Nat) (data : List Byte) (s : State) :
    exec (.glxLoadImageData m off data) s = execGlxLoadImageData m off data s := rfl
theorem exec_glxLoadImageEnd (m : Issuer) (off : Nat) (data : List Byte) (s : State) :
    exec (.glxLoadImageEnd m off data) s = execGlxLoadImageEnd m off data s := rfl
theorem exec_imageLoadComplete (s : State) :
    exec (.imageLoadComplete) s = execImageLoadComplete s := rfl
theorem exec_stagingClaimLapse (s : State) :
    exec (.stagingClaimLapse) s = execStagingClaimLapse s := rfl
theorem exec_glxProgramMessage (m : Issuer) (c : Fin 16) (msg : Line) (s : State) :
    exec (.glxProgramMessage m c msg) s = execGlxProgramMessage m c msg s := rfl
theorem exec_hostMessageTimeout (c : Fin 16) (seq : Fin 65536) (s : State) :
    exec (.hostMessageTimeout c seq) s = execHostMessageTimeout c seq s := rfl
theorem exec_glxGetLoadStatus (m : Issuer) (s : State) :
    exec (.glxGetLoadStatus m) s = execGlxGetLoadStatus m s := rfl
theorem exec_glxGetAliasLayout (m : Issuer) (s : State) :
    exec (.glxGetAliasLayout m) s = execGlxGetAliasLayout m s := rfl
theorem exec_glxGetReadiness (m : Issuer) (s : State) :
    exec (.glxGetReadiness m) s = execGlxGetReadiness m s := rfl
theorem exec_hostreply (c : Fin 16) (s : State) :
    exec (.hostreply c) s = execHostreply c s := rfl
theorem exec_armreq (c : Fin 16) (s : State) :
    exec (.armreq c) s = execArmreq c s := rfl
theorem exec_abortreq (c : Fin 16) (s : State) :
    exec (.abortreq c) s = execAbortreq c s := rfl
theorem exec_dcdadd (c : Fin 16) (s : State) :
    exec (.dcdadd c) s = execDcdadd c s := rfl
theorem exec_dcdrel (c : Fin 16) (s : State) :
    exec (.dcdrel c) s = execDcdrel c s := rfl
theorem exec_log (c : Fin 16) (s : State) :
    exec (.log c) s = execLog c s := rfl
theorem exec_setinfo (c : Fin 16) (s : State) :
    exec (.setinfo c) s = execSetinfo c s := rfl
theorem exec_setArm (p : Path) (s : State) :
    exec (.setArm p) s = execSetArm p s := rfl
theorem exec_setAbort (p : Path) (s : State) :
    exec (.setAbort p) s = execSetAbort p s := rfl
theorem exec_localCommit (p : Path) (s : State) :
    exec (.localCommit p) s = execLocalCommit p s := rfl
theorem exec_armWaitTimeout (s : State) :
    exec (.armWaitTimeout) s = execArmWaitTimeout s := rfl
theorem exec_finalSend (s : State) :
    exec (.finalSend) s = execFinalSend s := rfl
theorem exec_configSetSwap (s : State) :
    exec (.configSetSwap) s = execConfigSetSwap s := rfl
theorem exec_memRd (ld : Fin 256) (mtag : Nat) (hpa : Nat) (snp : Snoop) (s : State) :
    exec (.memRd ld mtag hpa snp) s = execMemRd ld mtag hpa snp s := rfl
theorem exec_memRdData (ld : Fin 256) (mtag : Nat) (hpa : Nat) (s : State) :
    exec (.memRdData ld mtag hpa) s = execMemRdData ld mtag hpa s := rfl
theorem exec_memInv (ld : Fin 256) (mtag : Nat) (hpa : Nat) (s : State) :
    exec (.memInv ld mtag hpa) s = execMemInv ld mtag hpa s := rfl
theorem exec_memInvNt (ld : Fin 256) (mtag : Nat) (hpa : Nat) (s : State) :
    exec (.memInvNt ld mtag hpa) s = execMemInvNt ld mtag hpa s := rfl
theorem exec_memSpecRd (ld : Fin 256) (mtag : Nat) (hpa : Nat) (s : State) :
    exec (.memSpecRd ld mtag hpa) s = execMemSpecRd ld mtag hpa s := rfl
theorem exec_memClnEvct (ld : Fin 256) (mtag : Nat) (hpa : Nat) (s : State) :
    exec (.memClnEvct ld mtag hpa) s = execMemClnEvct ld mtag hpa s := rfl
theorem exec_memWr (ld : Fin 256) (mtag : Nat) (hpa : Nat) (data : Line) (poison : Bool) (s : State) :
    exec (.memWr ld mtag hpa data poison) s = execMemWr ld mtag hpa data poison s := rfl
theorem exec_memWrPtl (ld : Fin 256) (mtag : Nat) (hpa : Nat) (data : Line) (mask : BitVec 64) (poison : Bool) (s : State) :
    exec (.memWrPtl ld mtag hpa data mask poison) s = execMemWrPtl ld mtag hpa data mask poison s := rfl
theorem exec_biConflict (ld : Fin 256) (line : Nat) (s : State) :
    exec (.biConflict ld line) s = execBiConflict ld line s := rfl
theorem exec_birsp (ld : Fin 256) (line : Nat) (keeps : Bool) (s : State) :
    exec (.birsp ld line keeps) s = execBirsp ld line keeps s := rfl
theorem exec_bisnpTimeout (ld : Fin 256) (line : Nat) (s : State) :
    exec (.bisnpTimeout ld line) s = execBisnpTimeout ld line s := rfl
theorem exec_homeSliceAdmission (h : Fin 4) (s : State) :
    exec (.homeSliceAdmission h) s = execHomeSliceAdmission h s := rfl
theorem exec_channelWriteAccept (ch : Fin 24) (s : State) :
    exec (.channelWriteAccept ch) s = execChannelWriteAccept ch s := rfl
theorem exec_readDataReturn (txn : Nat) (errs : List (List (Nat × Word))) (s : State) :
    exec (.readDataReturn txn errs) s = execReadDataReturn txn errs s := rfl
theorem exec_hostLinkTrained (n : Fin 16) (k : Fin 4) (width : Fin 5) (rate : Fin 6 × LinkChange) (s : State) :
    exec (.hostLinkTrained n k width rate) s = execHostLinkTrained n k width rate s := rfl
theorem exec_hostLinkDown (n : Fin 16) (k : Fin 4) (s : State) :
    exec (.hostLinkDown n k) s = execHostLinkDown n k s := rfl
theorem exec_viralReceived (n : Fin 16) (k : Fin 4) (s : State) :
    exec (.viralReceived n k) s = execViralReceived n k s := rfl
theorem exec_cxlIoConfigRequest (ld : Fin 256) (req : CfgReq) (s : State) :
    exec (.cxlIoConfigRequest ld req) s = execCxlIoConfigRequest ld req s := rfl
theorem exec_hpxLdcntWrite (p : Path) (n : Fin 16) (v : Word) (s : State) :
    exec (.hpxLdcntWrite p n v) s = execHpxLdcntWrite p n v s := rfl
theorem exec_addDcResponse (ld : Fin 256) (start : Nat) (blocks : Nat) (accept : Bool) (s : State) :
    exec (.addDcResponse ld start blocks accept) s = execAddDcResponse ld start blocks accept s := rfl
theorem exec_releaseDc (ld : Fin 256) (start : Nat) (blocks : Nat) (s : State) :
    exec (.releaseDc ld start blocks) s = execReleaseDc ld start blocks s := rfl
theorem exec_dcdResponseTimeout (e : Fin 4096) (s : State) :
    exec (.dcdResponseTimeout e) s = execDcdResponseTimeout e s := rfl
theorem exec_getEventRecords (m : Issuer) (log : Fin 4) (s : State) :
    exec (.getEventRecords m log) s = execGetEventRecords m log s := rfl
theorem exec_clearEventRecords (m : Issuer) (log : Fin 4) (count : Nat) (s : State) :
    exec (.clearEventRecords m log count) s = execClearEventRecords m log count s := rfl
theorem exec_getEventInterruptPolicy (m : Issuer) (s : State) :
    exec (.getEventInterruptPolicy m) s = execGetEventInterruptPolicy m s := rfl
theorem exec_setEventInterruptPolicy (m : Issuer) (policy : Nat) (s : State) :
    exec (.setEventInterruptPolicy m policy) s = execSetEventInterruptPolicy m policy s := rfl
theorem exec_getFwInfo (m : Issuer) (s : State) :
    exec (.getFwInfo m) s = execGetFwInfo m s := rfl
theorem exec_transferFw (m : Issuer) (slot : Bool) (off : Nat) (data : List Byte) (s : State) :
    exec (.transferFw m slot off data) s = execTransferFw m slot off data s := rfl
theorem exec_activateFw (m : Issuer) (slot : Bool) (online : Bool) (s : State) :
    exec (.activateFw m slot online) s = execActivateFw m slot online s := rfl
theorem exec_getTimestamp (m : Issuer) (s : State) :
    exec (.getTimestamp m) s = execGetTimestamp m s := rfl
theorem exec_setTimestamp (m : Issuer) (ns : Nat) (s : State) :
    exec (.setTimestamp m ns) s = execSetTimestamp m ns s := rfl
theorem exec_getSupportedLogs (m : Issuer) (s : State) :
    exec (.getSupportedLogs m) s = execGetSupportedLogs m s := rfl
theorem exec_getLog (m : Issuer) (vendor : Bool) (s : State) :
    exec (.getLog m vendor) s = execGetLog m vendor s := rfl
theorem exec_identifyMemoryDevice (m : Issuer) (s : State) :
    exec (.identifyMemoryDevice m) s = execIdentifyMemoryDevice m s := rfl
theorem exec_getPoisonList (m : Issuer) (s : State) :
    exec (.getPoisonList m) s = execGetPoisonList m s := rfl
theorem exec_clearPoison (m : Issuer) (line : Nat) (data : Line) (s : State) :
    exec (.clearPoison m line data) s = execClearPoison m line data s := rfl
theorem exec_injectPoison (m : Issuer) (line : Nat) (s : State) :
    exec (.injectPoison m line) s = execInjectPoison m line s := rfl
theorem exec_getScanMediaCapabilities (m : Issuer) (s : State) :
    exec (.getScanMediaCapabilities m) s = execGetScanMediaCapabilities m s := rfl
theorem exec_scanMedia (m : Issuer) (first : Nat) (last : Nat) (s : State) :
    exec (.scanMedia m first last) s = execScanMedia m first last s := rfl
theorem exec_getScanMediaResults (m : Issuer) (s : State) :
    exec (.getScanMediaResults m) s = execGetScanMediaResults m s := rfl
theorem exec_getDcConfiguration (m : Issuer) (s : State) :
    exec (.getDcConfiguration m) s = execGetDcConfiguration m s := rfl
theorem exec_getDcExtentList (m : Issuer) (s : State) :
    exec (.getDcExtentList m) s = execGetDcExtentList m s := rfl
theorem exec_getLdInfo (m : Issuer) (s : State) :
    exec (.getLdInfo m) s = execGetLdInfo m s := rfl
theorem exec_getLdAllocations (m : Issuer) (s : State) :
    exec (.getLdAllocations m) s = execGetLdAllocations m s := rfl
theorem exec_mailboxUnsupported (m : Issuer) (opcode : Nat) (s : State) :
    exec (.mailboxUnsupported m opcode) s = execMailboxUnsupported m opcode s := rfl
theorem exec_spdmGetVersion (m : Issuer) (s : State) :
    exec (.spdmGetVersion m) s = execSpdmGetVersion m s := rfl
theorem exec_spdmGetCapabilities (m : Issuer) (s : State) :
    exec (.spdmGetCapabilities m) s = execSpdmGetCapabilities m s := rfl
theorem exec_spdmNegotiateAlgorithms (m : Issuer) (s : State) :
    exec (.spdmNegotiateAlgorithms m) s = execSpdmNegotiateAlgorithms m s := rfl
theorem exec_spdmGetDigests (m : Issuer) (s : State) :
    exec (.spdmGetDigests m) s = execSpdmGetDigests m s := rfl
theorem exec_spdmGetCertificate (m : Issuer) (slot : Fin 4) (s : State) :
    exec (.spdmGetCertificate m slot) s = execSpdmGetCertificate m slot s := rfl
theorem exec_spdmChallenge (m : Issuer) (s : State) :
    exec (.spdmChallenge m) s = execSpdmChallenge m s := rfl
theorem exec_spdmGetMeasurements (m : Issuer) (s : State) :
    exec (.spdmGetMeasurements m) s = execSpdmGetMeasurements m s := rfl
theorem exec_spdmKeyExchange (m : Issuer) (s : State) :
    exec (.spdmKeyExchange m) s = execSpdmKeyExchange m s := rfl
theorem exec_spdmFinish (m : Issuer) (s : State) :
    exec (.spdmFinish m) s = execSpdmFinish m s := rfl
theorem exec_spdmHeartbeat (m : Issuer) (s : State) :
    exec (.spdmHeartbeat m) s = execSpdmHeartbeat m s := rfl
theorem exec_spdmKeyUpdate (m : Issuer) (s : State) :
    exec (.spdmKeyUpdate m) s = execSpdmKeyUpdate m s := rfl
theorem exec_spdmEndSession (m : Issuer) (s : State) :
    exec (.spdmEndSession m) s = execSpdmEndSession m s := rfl
theorem exec_spdmGetCsr (m : Issuer) (s : State) :
    exec (.spdmGetCsr m) s = execSpdmGetCsr m s := rfl
theorem exec_spdmSetCertificate (m : Issuer) (slot : Fin 4) (chain : List Byte) (s : State) :
    exec (.spdmSetCertificate m slot chain) s = execSpdmSetCertificate m slot chain s := rfl
theorem exec_spdmChunkSend (m : Issuer) (s : State) :
    exec (.spdmChunkSend m) s = execSpdmChunkSend m s := rfl
theorem exec_spdmChunkGet (m : Issuer) (s : State) :
    exec (.spdmChunkGet m) s = execSpdmChunkGet m s := rfl
theorem exec_releasePushResume (s : State) :
    exec (.releasePushResume) s = execReleasePushResume s := rfl
theorem exec_heapDecodeComplete (q : Fin 4) (errs : List (List (Nat × Word))) (s : State) :
    exec (.heapDecodeComplete q errs) s = execHeapDecodeComplete q errs s := rfl
theorem exec_heapJobStart (q : Fin 4) (s : State) :
    exec (.heapJobStart q) s = execHeapJobStart q s := rfl
theorem exec_cryInject (p : Path) (v : Word) (s : State) :
    exec (.cryInject p v) s = execCryInject p v s := rfl
theorem exec_pageBufferFlush (p : Path) (v : Word) (s : State) :
    exec (.pageBufferFlush p v) s = execPageBufferFlush p v s := rfl
theorem exec_engineEnableWrite (p : Path) (xe : Bool) (v : Word) (s : State) :
    exec (.engineEnableWrite p xe v) s = execEngineEnableWrite p xe v s := rfl
theorem exec_keyLoad (p : Path) (slot : BitVec 12) (s : State) :
    exec (.keyLoad p slot) s = execKeyLoad p slot s := rfl
theorem exec_keyDestroy (p : Path) (slot : BitVec 12) (s : State) :
    exec (.keyDestroy p slot) s = execKeyDestroy p slot s := rfl
theorem exec_keySlotChangeComplete (s : State) :
    exec (.keySlotChangeComplete) s = execKeySlotChangeComplete s := rfl
theorem exec_ephemeralKeyLoad (p : Path) (slot : BitVec 12) (s : State) :
    exec (.ephemeralKeyLoad p slot) s = execEphemeralKeyLoad p slot s := rfl
theorem exec_rds (f : Frame) (s : State) :
    exec (.rds f) s = execRds f s := rfl
theorem exec_rdo (f : Frame) (s : State) :
    exec (.rdo f) s = execRdo f s := rfl
theorem exec_upg (f : Frame) (s : State) :
    exec (.upg f) s = execUpg f s := rfl
theorem exec_rdc (f : Frame) (s : State) :
    exec (.rdc f) s = execRdc f s := rfl
theorem exec_wbm (f : Frame) (s : State) :
    exec (.wbm f) s = execWbm f s := rfl
theorem exec_evc (f : Frame) (s : State) :
    exec (.evc f) s = execEvc f s := rfl
theorem exec_snpi (f : Frame) (s : State) :
    exec (.snpi f) s = execSnpi f s := rfl
theorem exec_snps (f : Frame) (s : State) :
    exec (.snps f) s = execSnps f s := rfl
theorem exec_fwds (f : Frame) (s : State) :
    exec (.fwds f) s = execFwds f s := rfl
theorem exec_fwdo (f : Frame) (s : State) :
    exec (.fwdo f) s = execFwdo f s := rfl
theorem exec_rspi (f : Frame) (s : State) :
    exec (.rspi f) s = execRspi f s := rfl
theorem exec_rsps (f : Frame) (s : State) :
    exec (.rsps f) s = execRsps f s := rfl
theorem exec_rspd (f : Frame) (s : State) :
    exec (.rspd f) s = execRspd f s := rfl
theorem exec_rspwb (f : Frame) (s : State) :
    exec (.rspwb f) s = execRspwb f s := rfl
theorem exec_fack (f : Frame) (s : State) :
    exec (.fack f) s = execFack f s := rfl
theorem exec_fackd (f : Frame) (s : State) :
    exec (.fackd f) s = execFackd f s := rfl
theorem exec_dats (f : Frame) (s : State) :
    exec (.dats f) s = execDats f s := rfl
theorem exec_date (f : Frame) (s : State) :
    exec (.date f) s = execDate f s := rfl
theorem exec_datm (f : Frame) (s : State) :
    exec (.datm f) s = execDatm f s := rfl
theorem exec_gnte (f : Frame) (s : State) :
    exec (.gnte f) s = execGnte f s := rfl
theorem exec_datc (f : Frame) (s : State) :
    exec (.datc f) s = execDatc f s := rfl
theorem exec_wback (f : Frame) (s : State) :
    exec (.wback f) s = execWback f s := rfl
theorem exec_directorySweepEnd (s : State) :
    exec (.directorySweepEnd) s = execDirectorySweepEnd s := rfl
theorem exec_poolCacheFlush (p : Path) (v : Word) (s : State) :
    exec (.poolCacheFlush p v) s = execPoolCacheFlush p v s := rfl
theorem exec_poolCacheFlushComplete (q : Fin 4) (s : State) :
    exec (.poolCacheFlushComplete q) s = execPoolCacheFlushComplete q s := rfl
theorem exec_directoryQueryRegister (p : Path) (v : Word) (s : State) :
    exec (.directoryQueryRegister p v) s = execDirectoryQueryRegister p v s := rfl
theorem exec_refreshWindowStart (c : Fin 24) (s : State) :
    exec (.refreshWindowStart c) s = execRefreshWindowStart c s := rfl
theorem exec_dramCommandIssue (c : Fin 24) (sub : Fin 2) (skip : Nat) (s : State) :
    exec (.dramCommandIssue c sub skip) s = execDramCommandIssue c sub skip s := rfl
theorem exec_rdtThrottleExpiry (c : Fin 24) (x : Fin 256) (s : State) :
    exec (.rdtThrottleExpiry c x) s = execRdtThrottleExpiry c x s := rfl
theorem exec_zqCalibration (c : Fin 24) (s : State) :
    exec (.zqCalibration c) s = execZqCalibration c s := rfl
theorem exec_dqsTracking (c : Fin 24) (out : Bool) (s : State) :
    exec (.dqsTracking c out) s = execDqsTracking c out s := rfl
theorem exec_trainingStart (p : Path) (c : Fin 24) (tset : Fin 4) (s : State) :
    exec (.trainingStart p c tset) s = execTrainingStart p c tset s := rfl
theorem exec_trainingComplete (c : Fin 24) (ok : BitVec 4) (differ : Bool) (s : State) :
    exec (.trainingComplete c ok differ) s = execTrainingComplete c ok differ s := rfl
theorem exec_dmcCtlEnWrite (p : Path) (c : Fin 24) (en : Bool) (s : State) :
    exec (.dmcCtlEnWrite p c en) s = execDmcCtlEnWrite p c en s := rfl
theorem exec_dmcCeclr (p : Path) (c : Fin 24) (s : State) :
    exec (.dmcCeclr p c) s = execDmcCeclr p c s := rfl
theorem exec_parityRebuildStart (p : Path) (c : Fin 24) (s : State) :
    exec (.parityRebuildStart p c) s = execParityRebuildStart p c s := rfl
theorem exec_parityRebuildComplete (c : Fin 24) (s : State) :
    exec (.parityRebuildComplete c) s = execParityRebuildComplete c s := rfl
theorem exec_frequencyChange (p : Path) (tset : Fin 4) (mask : BitVec 24) (s : State) :
    exec (.frequencyChange p tset mask) s = execFrequencyChange p tset mask s := rfl
theorem exec_frequencyChangeComplete (failed : BitVec 24) (s : State) :
    exec (.frequencyChangeComplete failed) s = execFrequencyChangeComplete failed s := rfl
theorem exec_sppr (p : Path) (c : Fin 24) (lrank : Fin 16) (sub : Fin 2) (bank : Fin 32) (row : BitVec 17) (s : State) :
    exec (.sppr p c lrank sub bank row) s = execSppr p c lrank sub bank row s := rfl
theorem exec_hppr (p : Path) (c : Fin 24) (lrank : Fin 16) (sub : Fin 2) (bank : Fin 32) (row : BitVec 17) (s : State) :
    exec (.hppr p c lrank sub bank row) s = execHppr p c lrank sub bank row s := rfl
theorem exec_pprComplete (c : Fin 24) (res : Fin 4) (lost : List Nat) (s : State) :
    exec (.pprComplete c res lost) s = execPprComplete c res lost s := rfl
theorem exec_testWriteRaw (p : Path) (c : Fin 24) (s : State) :
    exec (.testWriteRaw p c) s = execTestWriteRaw p c s := rfl
theorem exec_testWriteBc (p : Path) (c : Fin 24) (s : State) :
    exec (.testWriteBc p c) s = execTestWriteBc p c s := rfl
theorem exec_testReadRaw (p : Path) (c : Fin 24) (s : State) :
    exec (.testReadRaw p c) s = execTestReadRaw p c s := rfl
theorem exec_testReadDecode (p : Path) (c : Fin 24) (s : State) :
    exec (.testReadDecode p c) s = execTestReadDecode p c s := rfl
theorem exec_sluiceWindowOpen (s : State) :
    exec (.sluiceWindowOpen) s = execSluiceWindowOpen s := rfl
theorem exec_deliverableRecompute (s : State) :
    exec (.deliverableRecompute) s = execDeliverableRecompute s := rfl
theorem exec_urgencyPersistent (s : State) :
    exec (.urgencyPersistent) s = execUrgencyPersistent s := rfl
theorem exec_frameReceive (l : Fin 32) (f : Frame) (bad : List (Fin 9)) (disagree fallow : Bool) (gen : Bool × Fin 3) (s : State) :
    exec (.frameReceive l f bad disagree fallow gen) s = execFrameReceive l f bad disagree fallow gen s := rfl
theorem exec_slotTransmit (l : Fin 32) (s : State) :
    exec (.slotTransmit l) s = execSlotTransmit l s := rfl
theorem exec_replayTimeout (l : Fin 32) (s : State) :
    exec (.replayTimeout l) s = execReplayTimeout l s := rfl
theorem exec_laneErrorWindowEnd (l : Fin 32) (s : State) :
    exec (.laneErrorWindowEnd l) s = execLaneErrorWindowEnd l s := rfl
theorem exec_lmRequest (l : Fin 32) (m : LmMsg) (s : State) :
    exec (.lmRequest l m) s = execLmRequest l m s := rfl
theorem exec_lmGrant (l : Fin 32) (m : LmMsg) (s : State) :
    exec (.lmGrant l m) s = execLmGrant l m s := rfl
theorem exec_lmSwitch (l : Fin 32) (m : LmMsg) (s : State) :
    exec (.lmSwitch l m) s = execLmSwitch l m s := rfl
theorem exec_lmAbort (l : Fin 32) (s : State) :
    exec (.lmAbort l) s = execLmAbort l s := rfl
theorem exec_renegTimeout (l : Fin 32) (s : State) :
    exec (.renegTimeout l) s = execRenegTimeout l s := rfl
theorem exec_laneTrainingComplete (l : Fin 32) (p : Fin 9) (rx ok : Bool) (s : State) :
    exec (.laneTrainingComplete l p rx ok) s = execLaneTrainingComplete l p rx ok s := rfl
theorem exec_renegotiate (p : Path) (l : Fin 32) (w : Fin 4) (s : State) :
    exec (.renegotiate p l w) s = execRenegotiate p l w s := rfl
theorem exec_retrain (p : Path) (l : Fin 32) (s : State) :
    exec (.retrain p l) s = execRetrain p l s := rfl
theorem exec_cnvCtlWrite (p : Path) (l : Fin 32) (v : Word) (s : State) :
    exec (.cnvCtlWrite p l v) s = execCnvCtlWrite p l v s := rfl
theorem exec_linkCounterClear (p : Path) (l : Fin 32) (s : State) :
    exec (.linkCounterClear p l) s = execLinkCounterClear p l s := rfl
theorem exec_tbDetect (l : Fin 32) (b : TrainBlock) (s : State) :
    exec (.tbDetect l b) s = execTbDetect l b s := rfl
theorem exec_tbLock (l : Fin 32) (locked : BitVec 9) (b : TrainBlock) (s : State) :
    exec (.tbLock l locked b) s = execTbLock l locked b s := rfl
theorem exec_tbConfig (l : Fin 32) (b : TrainBlock) (s : State) :
    exec (.tbConfig l b) s = execTbConfig l b s := rfl
theorem exec_tbConfigAck (l : Fin 32) (s : State) :
    exec (.tbConfigAck l) s = execTbConfigAck l s := rfl
theorem exec_tbEcho (l : Fin 32) (b : TrainBlock) (s : State) :
    exec (.tbEcho l b) s = execTbEcho l b s := rfl
theorem exec_tbEchoReply (l : Fin 32) (b : TrainBlock) (s : State) :
    exec (.tbEchoReply l b) s = execTbEchoReply l b s := rfl
theorem exec_tbGo (l : Fin 32) (s : State) :
    exec (.tbGo l) s = execTbGo l s := rfl
theorem exec_lockTimeout (l : Fin 32) (s : State) :
    exec (.lockTimeout l) s = execLockTimeout l s := rfl
theorem exec_laneLockLost (l : Fin 32) (s : State) :
    exec (.laneLockLost l) s = execLaneLockLost l s := rfl
theorem exec_msgFrame (f : Frame) (s : State) :
    exec (.msgFrame f) s = execMsgFrame f s := rfl
theorem exec_mvreq (f : Frame) (s : State) :
    exec (.mvreq f) s = execMvreq f s := rfl
theorem exec_mvgo (f : Frame) (s : State) :
    exec (.mvgo f) s = execMvgo f s := rfl
theorem exec_mvref (f : Frame) (s : State) :
    exec (.mvref f) s = execMvref f s := rfl
theorem exec_mvdata (f : Frame) (s : State) :
    exec (.mvdata f) s = execMvdata f s := rfl
theorem exec_mvdone (f : Frame) (s : State) :
    exec (.mvdone f) s = execMvdone f s := rfl
theorem exec_mvget (f : Frame) (s : State) :
    exec (.mvget f) s = execMvget f s := rfl
theorem exec_mvclr (f : Frame) (s : State) :
    exec (.mvclr f) s = execMvclr f s := rfl
theorem exec_mvabt (f : Frame) (s : State) :
    exec (.mvabt f) s = execMvabt f s := rfl
theorem exec_tideFrame (l : Fin 32) (f : Frame) (arrival : Nat) (fine : Fin 16) (s : State) :
    exec (.tideFrame l f arrival fine) s = execTideFrame l f arrival fine s := rfl
theorem exec_tideFrameSend (s : State) :
    exec (.tideFrameSend) s = execTideFrameSend s := rfl
theorem exec_tideErrorLimit (s : State) :
    exec (.tideErrorLimit) s = execTideErrorLimit s := rfl
theorem exec_tideParentLost (s : State) :
    exec (.tideParentLost) s = execTideParentLost s := rfl
theorem exec_tideAlarm (s : State) :
    exec (.tideAlarm) s = execTideAlarm s := rfl
theorem exec_masterElection (topo : Word) (s : State) :
    exec (.masterElection topo) s = execMasterElection topo s := rfl
theorem exec_join (f : Frame) (s : State) :
    exec (.join f) s = execJoin f s := rfl
theorem exec_welcome (f : Frame) (s : State) :
    exec (.welcome f) s = execWelcome f s := rfl
theorem exec_refuse (f : Frame) (s : State) :
    exec (.refuse f) s = execRefuse f s := rfl
theorem exec_leave (f : Frame) (s : State) :
    exec (.leave f) s = execLeave f s := rfl
theorem exec_hbeat (f : Frame) (s : State) :
    exec (.hbeat f) s = execHbeat f s := rfl
theorem exec_hback (f : Frame) (s : State) :
    exec (.hback f) s = execHback f s := rfl
theorem exec_heartbeatSend (s : State) :
    exec (.heartbeatSend) s = execHeartbeatSend s := rfl
theorem exec_heartbeatMissLimit (s : State) :
    exec (.heartbeatMissLimit) s = execHeartbeatMissLimit s := rfl
theorem exec_standbyProbeStart (s : State) :
    exec (.standbyProbeStart) s = execStandbyProbeStart s := rfl
theorem exec_standbyProbeEnd (s : State) :
    exec (.standbyProbeEnd) s = execStandbyProbeEnd s := rfl
theorem exec_heartbeatLoss (s : State) :
    exec (.heartbeatLoss) s = execHeartbeatLoss s := rfl
theorem exec_memb (f : Frame) (s : State) :
    exec (.memb f) s = execMemb f s := rfl
theorem exec_membershipApply (s : State) :
    exec (.membershipApply) s = execMembershipApply s := rfl
theorem exec_route (f : Frame) (s : State) :
    exec (.route f) s = execRoute f s := rfl
theorem exec_linkrep (f : Frame) (s : State) :
    exec (.linkrep f) s = execLinkrep f s := rfl
theorem exec_armed (f : Frame) (s : State) :
    exec (.armed f) s = execArmed f s := rfl
theorem exec_commit (f : Frame) (s : State) :
    exec (.commit f) s = execCommit f s := rfl
theorem exec_cmack (f : Frame) (s : State) :
    exec (.cmack f) s = execCmack f s := rfl
theorem exec_final (f : Frame) (s : State) :
    exec (.final f) s = execFinal f s := rfl
theorem exec_poolAbort (f : Frame) (s : State) :
    exec (.poolAbort f) s = execPoolAbort f s := rfl
theorem exec_calseg (f : Frame) (s : State) :
    exec (.calseg f) s = execCalseg f s := rfl
theorem exec_probe (f : Frame) (s : State) :
    exec (.probe f) s = execProbe f s := rfl
theorem exec_courseSeed (l : Fin 32) (s : State) :
    exec (.courseSeed l) s = execCourseSeed l s := rfl
theorem exec_takeover (f : Frame) (s : State) :
    exec (.takeover f) s = execTakeover f s := rfl
theorem exec_snap (f : Frame) (s : State) :
    exec (.snap f) s = execSnap f s := rfl
theorem exec_reservedCreditLapse (s : State) :
    exec (.reservedCreditLapse) s = execReservedCreditLapse s := rfl
theorem exec_e2eTimeout (dev line : Nat) (s : State) :
    exec (.e2eTimeout dev line) s = execE2eTimeout dev line s := rfl
theorem exec_poolLeave (p : Path) (s : State) :
    exec (.poolLeave p) s = execPoolLeave p s := rfl
theorem exec_poolCfgWrite (p : Path) (v : Word) (s : State) :
    exec (.poolCfgWrite p v) s = execPoolCfgWrite p v s := rfl
theorem exec_rakeStart (p : Path) (v : Word) (s : State) :
    exec (.rakeStart p v) s = execRakeStart p v s := rfl
theorem exec_rakePage (errs : List (List (Nat × Word))) (s : State) :
    exec (.rakePage errs) s = execRakePage errs s := rfl
theorem exec_rakeDone (s : State) :
    exec (.rakeDone) s = execRakeDone s := rfl
theorem exec_fuseRepair (p : Path) (v : Word) (s : State) :
    exec (.fuseRepair p v) s = execFuseRepair p v s := rfl
theorem exec_fuseRepairComplete (ok : Bool) (s : State) :
    exec (.fuseRepairComplete ok) s = execFuseRepairComplete ok s := rfl
theorem exec_faultAssertion (src : Fin 1536) (info : Info) (place : Option (Nat × Bool × Nat)) (s : State) :
    exec (.faultAssertion src info place) s = execFaultAssertion src info place s := rfl
theorem exec_faultForce (p : Path) (n : Fin 48) (v : Word) (s : State) :
    exec (.faultForce p n v) s = execFaultForce p n v s := rfl
theorem exec_stickyClear (p : Path) (n : Fin 48) (v : Word) (s : State) :
    exec (.stickyClear p n v) s = execStickyClear p n v s := rfl
theorem exec_capturePop (p : Path) (s : State) :
    exec (.capturePop p) s = execCapturePop p s := rfl
theorem exec_captureClear (p : Path) (s : State) :
    exec (.captureClear p) s = execCaptureClear p s := rfl
theorem exec_eventRecordDelivery (ld : Fin 320) (log : Fin 4) (s : State) :
    exec (.eventRecordDelivery ld log) s = execEventRecordDelivery ld log s := rfl
theorem exec_sidebandEventSend (s : State) :
    exec (.sidebandEventSend) s = execSidebandEventSend s := rfl
theorem exec_bootImageCheck (s : State) :
    exec (.bootImageCheck) s = execBootImageCheck s := rfl
theorem exec_tokenBufferWrite (p : Path) (v : Word) (s : State) :
    exec (.tokenBufferWrite p v) s = execTokenBufferWrite p v s := rfl
theorem exec_tokenCommand (p : Path) (s : State) :
    exec (.tokenCommand p) s = execTokenCommand p s := rfl
theorem exec_endWithoutToken (p : Path) (s : State) :
    exec (.endWithoutToken p) s = execEndWithoutToken p s := rfl
theorem exec_tokenCommandComplete (ok : Bool) (s : State) :
    exec (.tokenCommandComplete ok) s = execTokenCommandComplete ok s := rfl
theorem exec_antiRollbackAdvance (p : Path) (kind : Fin 4) (value : Fin 512) (ok : Bool) (s : State) :
    exec (.antiRollbackAdvance p kind value ok) s = execAntiRollbackAdvance p kind value ok s := rfl
theorem exec_flashErase (p : Path) (addr : BitVec 24) (s : State) :
    exec (.flashErase p addr) s = execFlashErase p addr s := rfl
theorem exec_flashProgram (p : Path) (v : Word) (s : State) :
    exec (.flashProgram p v) s = execFlashProgram p v s := rfl
theorem exec_slotEnable (n : Fin 48) (s : State) :
    exec (.slotEnable n) s = execSlotEnable n s := rfl
theorem exec_slotDisable (n : Fin 48) (s : State) :
    exec (.slotDisable n) s = execSlotDisable n s := rfl
theorem exec_slotPowerGood (n : Fin 48) (s : State) :
    exec (.slotPowerGood n) s = execSlotPowerGood n s := rfl
theorem exec_faultTimerExpiry (n : Fin 48) (s : State) :
    exec (.faultTimerExpiry n) s = execFaultTimerExpiry n s := rfl
theorem exec_fastTrip (n : Fin 48) (s : State) :
    exec (.fastTrip n) s = execFastTrip n s := rfl
theorem exec_powerLimitTrip (n : Fin 48) (s : State) :
    exec (.powerLimitTrip n) s = execPowerLimitTrip n s := rfl
theorem exec_inputCollapse (n : Fin 48) (s : State) :
    exec (.inputCollapse n) s = execInputCollapse n s := rfl
theorem exec_inputGood (n : Fin 48) (w : Fin 3) (s : State) :
    exec (.inputGood n w) s = execInputGood n w s := rfl
theorem exec_feedLost (n : Fin 48) (w : Fin 3) (s : State) :
    exec (.feedLost n w) s = execFeedLost n w s := rfl
theorem exec_reverseCurrentTurnoff (n : Fin 48) (b : Bool) (s : State) :
    exec (.reverseCurrentTurnoff n b) s = execReverseCurrentTurnoff n b s := rfl
theorem exec_retryDelayEnd (n : Fin 48) (s : State) :
    exec (.retryDelayEnd n) s = execRetryDelayEnd n s := rfl
theorem exec_housekeepingRound (rd : List (Option (BitVec 16))) (s : State) :
    exec (.housekeepingRound rd) s = execHousekeepingRound rd s := rfl
theorem exec_pauseStepApply (s : State) :
    exec (.pauseStepApply) s = execPauseStepApply s := rfl
theorem exec_counterClear (p : Path) (s : State) :
    exec (.counterClear p) s = execCounterClear p s := rfl
theorem exec_snapshotScheduleLocal (p : Path) (period : Fin 64) (s : State) :
    exec (.snapshotScheduleLocal p period) s = execSnapshotScheduleLocal p period s := rfl
theorem exec_snapshotSchedulePool (p : Path) (period : Fin 64) (s : State) :
    exec (.snapshotSchedulePool p period) s = execSnapshotSchedulePool p period s := rfl
theorem exec_snapshotCancel (p : Path) (s : State) :
    exec (.snapshotCancel p) s = execSnapshotCancel p s := rfl
theorem exec_snapshotLatch (s : State) :
    exec (.snapshotLatch) s = execSnapshotLatch s := rfl
theorem exec_snapshotCopyComplete (s : State) :
    exec (.snapshotCopyComplete) s = execSnapshotCopyComplete s := rfl
theorem exec_samplerCrossing (n : Fin 8) (s : State) :
    exec (.samplerCrossing n) s = execSamplerCrossing n s := rfl
theorem exec_sampleNoRequestTimeout (n : Fin 8) (s : State) :
    exec (.sampleNoRequestTimeout n) s = execSampleNoRequestTimeout n s := rfl
theorem exec_samplePop (p : Path) (s : State) :
    exec (.samplePop p) s = execSamplePop p s := rfl
theorem exec_sampleClear (p : Path) (s : State) :
    exec (.sampleClear p) s = execSampleClear p s := rfl
theorem exec_samplerConfigWrite (p : Path) (n : Fin 8) (v : Word) (s : State) :
    exec (.samplerConfigWrite p n v) s = execSamplerConfigWrite p n v s := rfl
theorem exec_firmwareStage (p : Path) (s : State) :
    exec (.firmwareStage p) s = execFirmwareStage p s := rfl
theorem exec_firmwareStageComplete (ok : Bool) (s : State) :
    exec (.firmwareStageComplete ok) s = execFirmwareStageComplete ok s := rfl
theorem exec_firmwareSwap (p : Path) (s : State) :
    exec (.firmwareSwap p) s = execFirmwareSwap p s := rfl
theorem exec_firmwareSwapComplete (s : State) :
    exec (.firmwareSwapComplete) s = execFirmwareSwapComplete s := rfl
theorem exec_firmwareConfirm (p : Path) (s : State) :
    exec (.firmwareConfirm p) s = execFirmwareConfirm p s := rfl
theorem exec_illegalInstruction (c : Fin 16) (word : Word) (s : State) :
    exec (.illegalInstruction c word) s = execIllegalInstruction c word s := rfl
theorem exec_faultTimerStart (n : Fin 48) (s : State) :
    exec (.faultTimerStart n) s = execFaultTimerStart n s := rfl
theorem exec_faultTimerStop (n : Fin 48) (s : State) :
    exec (.faultTimerStop n) s = execFaultTimerStop n s := rfl
theorem exec_inputAboveUvth (n : Fin 48) (s : State) :
    exec (.inputAboveUvth n) s = execInputAboveUvth n s := rfl
theorem exec_supplyRestored (s : State) :
    exec (.supplyRestored) s = execSupplyRestored s := rfl
theorem exec_pllLock (s : State) :
    exec (.pllLock) s = execPllLock s := rfl
theorem exec_d2dTrainingComplete (d : Fin 3) (s : State) :
    exec (.d2dTrainingComplete d) s = execD2dTrainingComplete d s := rfl
theorem exec_d2dModuleLost (d : Fin 3) (s : State) :
    exec (.d2dModuleLost d) s = execD2dModuleLost d s := rfl
theorem exec_holdoverEnd (s : State) :
    exec (.holdoverEnd) s = execHoldoverEnd s := rfl
theorem exec_phyLockLost (c : Fin 24) (s : State) :
    exec (.phyLockLost c) s = execPhyLockLost c s := rfl
theorem exec_caParityOrWriteCrcError (c : Fin 24) (crc again : Bool) (s : State) :
    exec (.caParityOrWriteCrcError c crc again) s = execCaParityOrWriteCrcError c crc again s := rfl
theorem exec_heapEncodeComplete (q : Fin 4) (bad : Bool) (s : State) :
    exec (.heapEncodeComplete q bad) s = execHeapEncodeComplete q bad s := rfl
theorem exec_ideKmMessage (m : Issuer) (ok : IdeStream × Bool) (s : State) :
    exec (.ideKmMessage m ok) s = execIdeKmMessage m ok s := rfl
theorem exec_flashOperationComplete (s : State) :
    exec (.flashOperationComplete) s = execFlashOperationComplete s := rfl
theorem exec_boundaryScanInstruction (scan : Bool) (s : State) :
    exec (.boundaryScanInstruction scan) s = execBoundaryScanInstruction scan s := rfl

end Sys2Proof.Laws
end

