-- ==== Sys2Proof/Laws/Fabric.lean ====
section
/-! SUPPORT. A register write at the fabric, by the guard of its register. -/

namespace Sys2Proof.Laws

open Sys2Proof.Machine

/-- The facts about an offset that lead a write to its register's own effect. -/
structure PlainOff (off : Nat) (d : RegDesc) : Prop where
  canon : canonOff off = off
  addr : isIdxAddr off = none
  data : isIdxData off = none
  key : off ≠ Reg.GRD_KEY
  flash : off ≠ Reg.SEC_FLADDR ∧ off ≠ Reg.SEC_FLDATA
  desc : regDesc off = some d

theorem flashBarred_no {s : State} {p : Path} {off : Nat} (h : off ≠ Reg.SEC_FLADDR ∧ off ≠ Reg.SEC_FLDATA) :
    flashBarred s p off = false := by
  simp [flashBarred, h.1, h.2]

/-- A GK register's write with the key armed and no sequence open consumes the key and has the register's effect. -/
theorem applyWrite_gk {s : State} {p : Path} {off : Nat} {d : RegDesc} (v : Word) (h : PlainOff off d) (hg : d.guard = .gk)
    (hr : writeRefused s p off = false) (hs : s.acc.gp = none) (hk : keyArmed s p = true) :
    (applyWrite s p off v).1 = regEffect (disarm s p) p d off v := by
  simp [applyWrite, h.canon, hr, h.addr, h.data, writeWord, flashBarred_no h.flash, h.key, h.desc, hg, gkWrite, gpSettle,
    gpAbort, hs, hk]

/-- A register that hardware does not update of itself notes no write. -/
theorem takeWrite_no {s : State} {off : Nat} {d : RegDesc} (h : regDesc off = some d) (g : hwUpdated.contains d.base = false) :
    takeWrite s off = s := by
  simp only [takeWrite, h, g, Bool.false_eq_true, if_false]

/-- A write of a register without guard has the register's effect. -/
theorem applyWrite_none {s : State} {p : Path} {off : Nat} {d : RegDesc} (v : Word) (h : PlainOff off d) (hg : d.guard = .none)
    (hr : writeRefused s p off = false) : (applyWrite s p off v).1 = regEffect s p d off v := by
  simp [applyWrite, h.canon, hr, h.addr, h.data, writeWord, flashBarred_no h.flash, h.key, h.desc, hg]

/-- A whole complement-pair sequence that nothing stands against has its register's effect, on the state as it was. -/
theorem gpWhole_eq {s : State} {p : Path} {off : Nat} (v : Word) (eff : Word → State → State) (h : MayWriteGp s p off) :
    gpWhole s p off v eff = eff v s := by
  obtain ⟨h1, h2, h3⟩ := h
  have e : closeGp (gpOpen s p off v) = s := by
    unfold gpOpen gpAbort gpSettle
    simp only [h3]
    show ({ s with acc := { s.acc with gp := none } } : State) = s
    rw [← h3]
  have k : ¬ (s.clock + 65 ≤ s.clock) := by omega
  unfold gpWhole
  rw [if_neg (by rw [h1]; decide), if_neg (by rw [h2]; decide)]
  have o : (gpOpen s p off v).acc.gp = some { path := p, off := off, val := v, clock := s.clock } := by
    unfold gpOpen gpAbort gpSettle
    simp only [h3]
  have oc : (gpOpen s p off v).clock = s.clock := by
    unfold gpOpen gpAbort gpSettle
    simp only [h3]
  have os : gpSettle (gpOpen s p off v) = gpOpen s p off v := by
    unfold gpSettle
    rw [o]
    simp only [oc, if_neg k]
  unfold gpClose
  simp only [os, o, and_self, if_true, e]

end Sys2Proof.Laws
end

