-- ==== Sys2Proof/Laws/Faults.lean ====
section
/-! SUPPORT. What an assertion of a fault source can change: registers of the collector, EVT_LINEHIT and EVT_STAT, the capture FIFO,
the owed reactions, event logs and queues, EVPEND of cores, and live counters; nothing else. -/

namespace Sys2Proof.Laws

open Sys2Proof.Machine

/-- The registers that an assertion may write. -/
def collectorReg (off : Nat) : Prop :=
  (Reg.FLT_STICKY 0 ≤ off ∧ off < Reg.FLT_STICKY 48) ∨ off = Reg.EVT_LINEHIT ∨ off = Reg.EVT_STAT

/-- Two states that differ in nothing but what an assertion may change. -/
structure SameBut (s t : State) : Prop where
  pending : t.pending = s.pending
  clock : t.clock = s.clock
  deferred : t.deferred = s.deferred
  closing : t.closing = s.closing
  fresh : t.fresh = s.fresh
  out : t.out = s.out
  regs : ∀ off, ¬ collectorReg off → t.reg off = s.reg off
  shadow : t.shadow = s.shadow
  acc : t.acc = { s.acc with hwSet := t.acc.hwSet }
  mode : t.mode = s.mode
  wipe : t.wipe = s.wipe
  sets : t.sets = s.sets
  port : t.port = s.port
  coh : t.coh = s.coh
  tier : t.tier = s.tier
  keys : t.keys = s.keys
  dram : t.dram = s.dram
  slu : t.slu = s.slu
  slot : t.slot = s.slot
  pool : t.pool = s.pool
  tideU : t.tideU = s.tideU
  sec : t.sec = s.sec
  rake : t.rake = s.rake
  repair : t.repair = s.repair
  hk : t.hk = s.hk
  scan : t.scan = s.scan

theorem SameBut.refl (s : State) : SameBut s s := by constructor <;> intros <;> rfl

theorem SameBut.trans {a b c : State} (h : SameBut a b) (g : SameBut b c) : SameBut a c := by
  constructor
  all_goals first
    | (intro off ho; rw [g.regs off ho, h.regs off ho])
    | (rw [g.acc, h.acc])
    | (first
        | rw [g.pending, h.pending] | rw [g.clock, h.clock] | rw [g.deferred, h.deferred] | rw [g.closing, h.closing] | rw [g.fresh, h.fresh] | rw [g.out, h.out]
        | rw [g.shadow, h.shadow] | rw [g.mode, h.mode] | rw [g.wipe, h.wipe]
        | rw [g.sets, h.sets] | rw [g.port, h.port] | rw [g.coh, h.coh] | rw [g.tier, h.tier] | rw [g.keys, h.keys]
        | rw [g.dram, h.dram] | rw [g.slu, h.slu] | rw [g.slot, h.slot] | rw [g.pool, h.pool]
        | rw [g.tideU, h.tideU] | rw [g.sec, h.sec] | rw [g.rake, h.rake] | rw [g.repair, h.repair]
        | rw [g.hk, h.hk] | rw [g.scan, h.scan])

theorem sameBut_tick (s : State) (b c n : Nat) : SameBut s (tick s b c n) := by
  unfold tick
  split <;> (constructor <;> intros <;> rfl)

theorem sameBut_setCore (s : State) (n : Nat) (c : Core) : SameBut s (s.setCore n c) := by
  constructor <;> intros <;> rfl

theorem sameBut_latchOn (b : Nat) (l : List Nat) (s : State) : SameBut s (latchOn s b l) := by
  induction l generalizing s with
  | nil => exact SameBut.refl s
  | cons n r ih => exact (sameBut_setCore s n _).trans (ih _)

theorem sameBut_setReg {s : State} {off : Nat} (v : Word) (h : collectorReg off) : SameBut s (s.setReg off v) := by
  constructor
  case regs => intro o ho; exact reg_setReg_ne s v (fun e => ho (e ▸ h))
  all_goals rfl

theorem sameBut_hwBit (s : State) {off : Nat} (i : Nat) (h : collectorReg off) : SameBut s (s.hwBit off i) := by
  constructor
  case regs => intro o ho; exact reg_hwBit_ne s i (fun e => ho (e ▸ h))
  all_goals rfl

theorem sameBut_addRecord (s : State) (r : EvRec) (ld : Nat) : SameBut s (addRecord s r ld) := by
  unfold addRecord
  dsimp only
  split
  · refine SameBut.trans ?_ (sameBut_tick _ _ _ _)
    constructor <;> intros <;> rfl
  · refine SameBut.trans (b := { s with evt := { s.evt with full := _ } }) ?_ (sameBut_setReg _ (Or.inr (Or.inr rfl)))
    constructor <;> intros <;> rfl

theorem sameBut_addRecords (r : EvRec) (l : List Nat) (s : State) : SameBut s (addRecords s r l) := by
  induction l generalizing s with
  | nil => exact SameBut.refl s
  | cons n t ih => exact (sameBut_addRecord s r n).trans (ih _)

theorem sameBut_sidebandEvent (s : State) (r : EvRec) : SameBut s (sidebandEvent s r) := by
  unfold sidebandEvent
  split
  · split
    · constructor <;> intros <;> rfl
    · exact sameBut_setReg _ (Or.inr (Or.inr rfl))
  · exact SameBut.refl s

theorem sameBut_routeLine (s : State) (src : Nat) : SameBut s (routeLine s src) := by
  unfold routeLine
  split
  · exact SameBut.refl s
  · dsimp only
    split
    · exact sameBut_latchOn _ _ _
    · exact (sameBut_latchOn _ _ _).trans (sameBut_hwBit _ _ (Or.inr (Or.inl rfl)))

theorem sameBut_notify (s : State) (src cls tide : Nat) (i : Info) (cap : CapRec) :
    SameBut s (notify s src cls tide i cap) := by
  unfold notify
  dsimp only
  split
  · exact ((sameBut_routeLine s src).trans (sameBut_addRecords _ _ _)).trans (sameBut_sidebandEvent _ _)
  · exact (sameBut_routeLine s src).trans (sameBut_sidebandEvent _ _)

theorem sameBut_fillCaps (s : State) (old caps : List CapRec) : SameBut s (fillCaps s old caps) := by
  constructor <;> intros <;> rfl

theorem sameBut_capture (s : State) (r : CapRec) : SameBut s (capture s r) := by
  unfold capture
  dsimp only
  split
  · exact (sameBut_fillCaps s _ _).trans (sameBut_tick _ _ _ _)
  · exact sameBut_fillCaps s _ _

theorem stickyOff_collector {src : Nat} (h : src < 1536) : collectorReg (stickyOff src) := by
  left
  have : src / 32 < 48 := by omega
  constructor <;> (show _ ; simp only [stickyOff, Reg.FLT_STICKY]; omega)

/-- The first part of an assertion: the sticky bit. -/
theorem sameBut_rise (s : State) {src : Nat} (h : src < 1536) (p : Prop) [Decidable p] :
    SameBut s (if p then tick (setSticky s src) bTide 3 1 else s) := by
  split
  · exact (sameBut_hwBit _ _ (stickyOff_collector h)).trans (sameBut_tick _ _ _ _)
  · exact SameBut.refl s

theorem sameBut_owe (s : State) (p : Prop) [Decidable p] (l : List React) :
    SameBut s (if p then { s with flt := { s.flt with react := l } } else s) := by
  split
  · constructor <;> intros <;> rfl
  · exact SameBut.refl s

theorem sameBut_notifyIf (s : State) (p : Prop) [Decidable p] (src cls tide : Nat) (i : Info) (cap : CapRec) :
    SameBut s (if p then notify s src cls tide i cap else s) := by
  split
  · exact sameBut_notify s src cls tide i cap
  · exact SameBut.refl s

theorem sameBut_captureIf (s : State) (p : Prop) [Decidable p] (w : CapRec) :
    SameBut s (if p then capture s w else s) := by
  split
  · exact sameBut_capture s w
  · exact SameBut.refl s

theorem sameBut_assertAt (s : State) {src : Nat} (h : src < 1536) (tide : Nat) (i : Info) :
    SameBut s (assertAt s src tide i) := by
  unfold assertAt
  dsimp only
  exact (sameBut_rise s h _).trans ((sameBut_captureIf _ _ _).trans ((sameBut_notifyIf _ _ _ _ _ _ _).trans
    (sameBut_owe _ _ _)))

/-- All that a source's assertion can change. -/
theorem sameBut_raiseWith (s : State) {src : Nat} (h : src < 1536) (i : Info) : SameBut s (raiseWith s src i) := by
  unfold raiseWith
  split
  · exact SameBut.refl s
  · split
    · split
      · exact SameBut.refl s
      · constructor <;> intros <;> rfl
    · exact sameBut_assertAt s h _ i

theorem sameBut_raise (s : State) {src : Nat} (h : src < 1536) : SameBut s (raise s src) := sameBut_raiseWith s h {}

end Sys2Proof.Laws
end

