-- ==== Sys2Proof/Laws/Fields.lean ====
section
/-! SUPPORT. The laws of register fields: a field of a register reads what was written to it; other fields and other registers
stay. -/

namespace Sys2Proof.Laws

open Sys2Proof.Machine

theorem fld_setF_same (s : State) (off v : Nat) {hi lo : Nat} (h : lo ≤ hi) (hw : hi < 32) :
    (s.setF off hi lo v).fld off hi lo = v % 2 ^ (hi + 1 - lo) := by
  simp [State.fld, State.setF, fld_setFld_same _ v h hw]

theorem fld_setF_disjoint (s : State) (off v : Nat) {hi lo h l : Nat} (ho : lo ≤ hi) (hd : h < lo ∨ hi < l) (hw : h < 32)
    (hl : l ≤ h) : (s.setF off hi lo v).fld off h l = s.fld off h l := by
  simp [State.fld, State.setF, fld_setFld_disjoint _ v ho hd hw hl]

theorem fld_setF_other (s : State) {off o : Nat} (hi lo v h l : Nat) (ho : o ≠ off) :
    (s.setF off hi lo v).fld o h l = s.fld o h l := by
  simp [State.fld, State.setF, reg_setReg_ne s _ ho]

theorem bit_setF_disjoint (s : State) (off v : Nat) {hi lo i : Nat} (ho : lo ≤ hi) (hd : i < lo ∨ hi < i) (hw : i < 32) :
    (s.setF off hi lo v).bit off i = s.bit off i := by
  simp [State.bit, State.setF, bit_setFld_disjoint _ v ho hd hw]

theorem bit_setF_other (s : State) {off o : Nat} (hi lo v i : Nat) (ho : o ≠ off) :
    (s.setF off hi lo v).bit o i = s.bit o i := by
  simp [State.bit, State.setF, reg_setReg_ne s _ ho]

theorem bit_setBit_at (s : State) (off i : Nat) (b : Bool) (h : i < 32) : (s.setBit off i b).bit off i = b := by
  simp [State.bit, State.setBit, bit_setBit_same _ i b h]

theorem bit_setBit_else (s : State) (off : Nat) {i j : Nat} (b : Bool) (h : j < 32) (hn : j ≠ i) :
    (s.setBit off i b).bit off j = s.bit off j := by
  simp [State.bit, State.setBit, bit_setBit_ne _ b h hn]

theorem bit_setBit_other (s : State) {off o : Nat} (i j : Nat) (b : Bool) (ho : o ≠ off) :
    (s.setBit off i b).bit o j = s.bit o j := by
  simp [State.bit, State.setBit, reg_setReg_ne s _ ho]

theorem fld_setBit_at (s : State) (off : Nat) {i h l : Nat} (b : Bool) (hd : h < i ∨ i < l) (hw : h < 32) (hl : l ≤ h) :
    (s.setBit off i b).fld off h l = s.fld off h l := by
  simp [State.fld, State.setBit, fld_setBit_disjoint _ b hd hw hl]

theorem fld_setBit_other (s : State) {off o : Nat} (i : Nat) (b : Bool) (h l : Nat) (ho : o ≠ off) :
    (s.setBit off i b).fld o h l = s.fld o h l := by
  simp [State.fld, State.setBit, reg_setReg_ne s _ ho]

theorem reg_setBit_ne (s : State) {off o : Nat} (i : Nat) (b : Bool) (h : o ≠ off) :
    (s.setBit off i b).reg o = s.reg o := by
  unfold State.setBit
  exact reg_setReg_ne s _ h

theorem reg_setF_ne (s : State) {off o : Nat} (hi lo v : Nat) (h : o ≠ off) : (s.setF off hi lo v).reg o = s.reg o := by
  unfold State.setF
  exact reg_setReg_ne s _ h

end Sys2Proof.Laws
end

