-- ==== Sys2Proof/Laws/HostMem.lean ====
section
/-! SUPPORT. What a host request does at its port. -/

namespace Sys2Proof.Laws

open Sys2Proof.Machine

variable {s : State} {i : Instr} {k : ReqKind} {ld mtag hpa a mask : Nat} {d : Line} {p h : Bool}

/-- A port that is down, or BOOT, takes no request. -/
theorem hostRequest_down (hu : ¬HostUp s ld) : hostRequest s i k ld mtag hpa d mask p = s := by
  unfold hostRequest
  rw [if_pos]
  cases hp : portUp s ld
  · rfl
  · simpa [HostUp, hp] using hu

/-- In HOLD the request is held as it came. -/
theorem hostRequest_held (hu : HostTakes s ld) (hh : holding s = true) :
    hostRequest s i k ld mtag hpa d mask p = { s with port := { s.port with held := s.port.held ++ [i] } } := by
  unfold hostRequest
  simp only [hu.1.1, hh, hu.1.2, hu.2, if_true, Bool.not_true, decide_false, Bool.or_self, Bool.false_eq_true, if_false]

/-- A request whose address a decoder claims meets the ingress checks. -/
theorem hostRequest_claimed (hu : HostTakes s ld) (hh : holding s = false) (hd : ldDecode s ld hpa = some (a, h)) :
    hostRequest s i k ld mtag hpa d mask p =
      hostIngress (counted s ld (decide (k = .memWr ∨ k = .memWrPtl))) k ld mtag a h d mask p := by
  have e : ldDecode (counted s ld (decide (k = .memWr ∨ k = .memWrPtl))) ld hpa = some (a, h) := by
    obtain ⟨m, hm⟩ := tick_eq s (bHost (ld / 16)) (if decide (k = .memWr ∨ k = .memWrPtl) then 1 else 0) 1
    unfold counted; rw [hm]; exact hd
  unfold hostRequest
  unfold counted at e ⊢
  simp only [hu.1.1, hh, hu.1.2, hu.2, Bool.not_true, decide_false, Bool.or_self, Bool.false_eq_true, if_false]
  rw [e]

/-- A request through an invalid window is refused at the port with its source. -/
theorem hostIngress_window (hb : badTagres s ld (a / 2 ^ 46 % 16) = false)
    (h8 : (tagres s ld (a / 2 ^ 46 % 16)).testBit 31 = false) :
    hostIngress s k ld mtag a h d mask p = refuseAtPort s k ld mtag 8 (a % 2 ^ 46 / 64 * 64) := by
  unfold hostIngress; simp only [hb, h8, Bool.not_false, Bool.false_eq_true, if_false, if_true]

/-- A request outside the ACCEPTED extents is refused at the port with its source. -/
theorem hostIngress_extent (hb : badTagres s ld (a / 2 ^ 46 % 16) = false)
    (h8 : (tagres s ld (a / 2 ^ 46 % 16)).testBit 31 = true)
    (h7 : inExtent s ld (a % 2 ^ 46 / 64 * 64) = false) :
    hostIngress s k ld mtag a h d mask p = refuseAtPort s k ld mtag 7 (a % 2 ^ 46 / 64 * 64) := by
  unfold hostIngress; simp only [hb, h8, h7, Bool.not_true, Bool.not_false, Bool.false_eq_true, if_false, if_true]

/-- A request that passes the checks goes to its home slice as ingress fixed it, unless a recall waits for it. -/
theorem hostIngress_passes (hp : IngressPasses s ld a (decide (k = .memWr ∨ k = .memWrPtl) || decide (k = .memInv ∨ k = .memInvNT)))
    (hs : s.code ≠ Mode.safe) (hw : (decide (k = .memWr ∨ k = .memWrPtl) && p) = false)
    (hr : asWriteback (takeId s).1 (hostReq s k ld mtag a h d mask p) ld mtag = none) :
    hostIngress s k ld mtag a h d mask p = submit (takeId s).1 (hostReq s k ld mtag a h d mask p) := by
  obtain ⟨h0, h1, h2, h3⟩ := hp
  have h4 : ((decide (k = .memWr ∨ k = .memWrPtl) || decide (k = .memInv ∨ k = .memInvNT)) &&
      (tagres s ld (a / 2 ^ 46 % 16)).testBit 30) = false := by
    cases hc : (decide (k = .memWr ∨ k = .memWrPtl) || decide (k = .memInv ∨ k = .memInvNT))
    · rfl
    · rw [h3 hc]; rfl
  unfold hostIngress
  simp only [h0, h1, h2, h4, hw, hs, Bool.not_true, Bool.false_eq_true, if_false]
  show (match asWriteback (takeId s).1 (hostReq s k ld mtag a h d mask p) ld mtag with
    | some s => flow s
    | .none => submit (takeId s).1 (hostReq s k ld mtag a h d mask p)) = _
  rw [hr]

/-- In SAFE a request that passes the checks is answered with poison. -/
theorem hostIngress_safe (hp : IngressPasses s ld a (decide (k = .memWr ∨ k = .memWrPtl) || decide (k = .memInv ∨ k = .memInvNT)))
    (hs : s.code = Mode.safe) (hw : (decide (k = .memWr ∨ k = .memWrPtl) && p) = false) :
    hostIngress s k ld mtag a h d mask p = answerAtPort s k ld mtag 0 true := by
  obtain ⟨h0, h1, h2, h3⟩ := hp
  have h4 : ((decide (k = .memWr ∨ k = .memWrPtl) || decide (k = .memInv ∨ k = .memInvNT)) &&
      (tagres s ld (a / 2 ^ 46 % 16)).testBit 30) = false := by
    cases hc : (decide (k = .memWr ∨ k = .memWrPtl) || decide (k = .memInv ∨ k = .memInvNT))
    · rfl
    · rw [h3 hc]; rfl
  unfold hostIngress
  simp only [h0, h1, h2, h4, hw, hs, Bool.not_true, Bool.false_eq_true, if_false, if_true]

theorem counted_eq (s : State) (ld : Nat) (w : Bool) : ∃ m, counted s ld w = { s with tel := { s.tel with cnt := m } } :=
  tick_eq s (bHost (ld / 16)) (if w then 1 else 0) 1

theorem nextFree_counted (s : State) (w : Bool) (n f : Nat) : nextFree (counted s ld w) n f = nextFree s n f := by
  have hu : ∀ n, txUsed (counted s ld w) n = txUsed s n := by
    intro n; obtain ⟨m, hm⟩ := counted_eq s ld w; rw [hm]; rfl
  induction f generalizing n with
  | zero => rfl
  | succ f ih => simp only [nextFree, hu, ih]

/-- Counting a request does not change how ingress fixes it. -/
theorem hostReq_counted (w : Bool) : hostReq (counted s ld w) k ld mtag a h d mask p = hostReq s k ld mtag a h d mask p := by
  have e : (takeId (counted s ld w)).2 = (takeId s).2 := by
    have hn : (counted s ld w).coh.nextTx = s.coh.nextTx := by
      obtain ⟨m, hm⟩ := counted_eq s ld w; rw [hm]
    simp only [takeId, nextFree_counted, hn]
  obtain ⟨m, hm⟩ := counted_eq s ld w
  unfold hostReq
  rw [e, hm]
  rfl

/-- Where no open transaction recalls the line from the logical device, its write is a request. -/
theorem asWriteback_none {r : Req} {w : Bool}
    (hb : s.coh.txns.find? (fun t => t.bi.contains (lineName s r.dev r.line, ld)) = none) :
    asWriteback (takeId (counted s ld w)).1 r ld mtag = none := by
  have hl : lineName (takeId (counted s ld w)).1 r.dev r.line = lineName s r.dev r.line := by
    have hd : (takeId (counted s ld w)).1.devId = s.devId := by
      show (counted s ld w).devId = s.devId
      obtain ⟨m, hm⟩ := counted_eq s ld w; rw [hm]; rfl
    unfold lineName; rw [hd]
  have ht : (takeId (counted s ld w)).1.coh.txns = s.coh.txns := by
    show (counted s ld w).coh.txns = s.coh.txns
    obtain ⟨m, hm⟩ := counted_eq s ld w; rw [hm]
  unfold asWriteback
  split
  · simp only [hl, ht, hb, Option.map_none]
  · rfl

theorem hostReq_dev : (hostReq s k ld mtag a h d mask p).dev = (poolTarget s (a % 2 ^ 46 / 64 * 64)).1 := rfl

theorem hostReq_line : (hostReq s k ld mtag a h d mask p).line = (poolTarget s (a % 2 ^ 46 / 64 * 64)).2 := rfl

/-- A state that differs in the telemetry counters alone. -/
def Counts (s t : State) : Prop := ∃ m, t = { s with tel := { s.tel with cnt := m } }

theorem Counts.refl (s : State) : Counts s s := ⟨_, rfl⟩

theorem Counts.trans {s t u : State} (h : Counts s t) (g : Counts t u) : Counts s u := by
  obtain ⟨m, rfl⟩ := h
  obtain ⟨n, rfl⟩ := g
  exact ⟨n, rfl⟩

theorem Counts.tick (s : State) (b c n : Nat) : Counts s (tick s b c n) := tick_eq s b c n

theorem Counts.ite {s t u : State} {p : Prop} [Decidable p] (h : Counts s t) (g : Counts s u) : Counts s (if p then t else u) := by
  split <;> assumption

theorem cipherOne_eq (c : Nat) (b : Nat × Nat × Burst) (s : State) (k : Nat) : Counts s (cipherOne c b s k) := by
  unfold cipherOne
  split
  · rename_i e _
    refine Counts.ite ?_ (.refl s)
    simp only
    generalize pairUnit _ _ _ = u
    have h : Counts s (Machine.tick s (bXe u) c 1) := .tick _ _ _ _
    generalize Machine.tick s (bXe u) c 1 = t at h
    refine h.trans ?_
    have g : ∀ p : Prop, ∀ [Decidable p], Counts t (if p then Machine.tick t (bXe u) 2 1 else t) :=
      fun p _ => .ite (.tick _ _ _ _) (.refl _)
    exact (g (2 ^ 42 ≤ e.tweak)).trans (.ite (.refl _) (.tick _ _ _ _))
  · exact .refl s

/-- The engine counters of a write change telemetry alone. -/
theorem countCipher_eq (s : State) (c : Nat) (b : Nat × Nat × Burst) :
    ∃ m, countCipher s c b = { s with tel := { s.tel with cnt := m } } := by
  unfold countCipher
  generalize List.range 4 = l
  induction l generalizing s with
  | nil => exact ⟨_, rfl⟩
  | cons k l ih =>
    rw [List.foldl_cons]
    obtain ⟨m, hm⟩ := cipherOne_eq c b s k
    rw [hm]
    exact Counts.trans ⟨m, rfl⟩ (ih _)

end Sys2Proof.Laws
end

