-- ==== Sys2Proof/Laws/Modes.lean ====
section
/-! SUPPORT. What the operations of the mode machine do to GEN_MODE. -/

namespace Sys2Proof.Laws

open Sys2Proof.Machine

theorem beginTrans_regs (s : State) (m k : Nat) (q : Bool) : (beginTrans s m k q).regs =
    (if q then (s.setBit Reg.GEN_MODE 8 true).setF Reg.GEN_MODE 14 12 1 else s.setBit Reg.GEN_MODE 8 true).regs := by
  unfold beginTrans
  cases q <;> dsimp only

/-- Every register after a transition has begun. -/
theorem beginTrans_reg (s : State) (m k : Nat) (q : Bool) (o : Nat) : (beginTrans s m k q).reg o =
    (if q then (s.setBit Reg.GEN_MODE 8 true).setF Reg.GEN_MODE 14 12 1 else s.setBit Reg.GEN_MODE 8 true).reg o := by
  unfold State.reg
  rw [beginTrans_regs]

/-- Two states with the same registers and the same state of the mode machine. -/
def SameRegs (s t : State) : Prop := t.regs = s.regs ∧ t.mode = s.mode

theorem SameRegs.trans {a b c : State} (h : SameRegs a b) (g : SameRegs b c) : SameRegs a c :=
  ⟨g.1.trans h.1, g.2.trans h.2⟩

theorem sameRegs_poisonAnswer (s : State) (r : Req) : SameRegs s (poisonAnswer s r) := by
  unfold poisonAnswer
  split
  · split <;> exact ⟨rfl, rfl⟩
  · exact ⟨rfl, rfl⟩

theorem sameRegs_poisonAnswers (l : List Req) (s : State) : SameRegs s (poisonAnswers s l) := by
  induction l generalizing s with
  | nil => exact ⟨rfl, rfl⟩
  | cons r l ih => exact (sameRegs_poisonAnswer s r).trans (ih _)

theorem sameRegs_poisonHeld (l : List Instr) (s : State) : SameRegs s (poisonHeld s l) := by
  induction l generalizing s with
  | nil => exact ⟨rfl, rfl⟩
  | cons i l ih =>
    refine SameRegs.trans (b := (match i with
      | .memRd ld tag _ _ => s.emit (.memData ld tag 0 true 2)
      | .memRdData ld tag _ => s.emit (.memData ld tag 0 true 2)
      | .memInv ld tag _ => s.emit (.memDone ld tag 2)
      | .memInvNt ld tag _ => s.emit (.memDone ld tag 2)
      | .memClnEvct ld tag _ => s.emit (.memDone ld tag 2)
      | .memWr ld tag _ _ _ => s.emit (.memDone ld tag 2)
      | .memWrPtl ld tag _ _ _ _ => s.emit (.memDone ld tag 2)
      | _ => s)) ?_ (ih _)
    split <;> exact ⟨rfl, rfl⟩

/-- The stop of the rake on entering SAFE leaves every register but RAKE_STAT. -/
theorem sameRegs_poisonWaiting (s : State) : SameRegs s (poisonWaiting s) := by
  unfold poisonWaiting
  dsimp only
  have a := sameRegs_poisonAnswers (s.coh.ingress.filter isHostReq) { s with coh := { s.coh with
    ingress := (s.coh.ingress.filter (fun r => !isHostReq r)).map (fun r => { r with turnedAway := true }) } }
  generalize poisonAnswers _ _ = y at a ⊢
  have b := sameRegs_poisonHeld y.port.held { y with port := { y.port with held := [] } }
  exact ⟨b.1.trans a.1, b.2.trans a.2⟩

theorem rakeStop_reg (s : State) {o : Nat} (h : o ≠ Reg.RAKE_STAT) (p : Prop) [Decidable p] :
    (if p then (s.setBit Reg.RAKE_STAT 31 false).setBit Reg.RAKE_STAT 30 true else s).reg o = s.reg o ∧
      (if p then (s.setBit Reg.RAKE_STAT 31 false).setBit Reg.RAKE_STAT 30 true else s).mode = s.mode := by
  split
  · exact ⟨(reg_setBit_ne _ _ _ h).trans (reg_setBit_ne _ _ _ h), by simp⟩
  · exact ⟨rfl, rfl⟩

/-- Entering SAFE leaves every register but RAKE_STAT and GEN_MODEX, and the transition in progress. -/
theorem enterSafe_frame (s : State) {o : Nat} (h : o ≠ Reg.RAKE_STAT) (g : o ≠ Reg.GEN_MODEX) :
    (enterSafe s).reg o = s.reg o ∧ (enterSafe s).mode.trans = s.mode.trans ∧
      (enterSafe s).mode.trimOwed = s.mode.trimOwed := by
  unfold enterSafe
  dsimp only
  have h2 := sameRegs_poisonWaiting s
  generalize poisonWaiting s = z at h2 ⊢
  have h3 := rakeStop_reg z h (z.bit Reg.RAKE_STAT 31 = true)
  generalize (if z.bit Reg.RAKE_STAT 31 = true then (z.setBit Reg.RAKE_STAT 31 false).setBit Reg.RAKE_STAT 30 true
    else z) = w at h3 ⊢
  have hz : z.reg o = s.reg o := by unfold State.reg; rw [h2.1]
  have hm : w.mode = s.mode := h3.2.trans h2.2
  have hw : (w.setBit Reg.GEN_MODEX 8 false).reg o = s.reg o := (reg_setBit_ne w _ _ g).trans (h3.1.trans hz)
  have hx : (w.setBit Reg.GEN_MODEX 8 false).mode = s.mode := hm
  generalize w.setBit Reg.GEN_MODEX 8 false = x at hw hx ⊢
  split <;> exact ⟨hw, congrArg ModeS.trans hx, congrArg ModeS.trimOwed hx⟩

theorem not_collector_mode : ¬ collectorReg Reg.GEN_MODE := by
  rintro (h | h | h)
  · exact absurd h.1 (by decide)
  · exact absurd h (by decide)
  · exact absurd h (by decide)

/-- GEN_MODE and the transition after a change of mode: the code and the previous code are written, nothing else. -/
theorem setCode_frame (s : State) (n : Nat) :
    (setCode s n).reg Reg.GEN_MODE = (if n = s.code then s
      else (s.setF Reg.GEN_MODE 6 4 s.code).setF Reg.GEN_MODE 2 0 n).reg Reg.GEN_MODE ∧
    (setCode s n).mode.trans = s.mode.trans ∧ (setCode s n).mode.trimOwed = s.mode.trimOwed := by
  unfold setCode
  dsimp only
  split
  · exact ⟨rfl, rfl, rfl⟩
  · have hy : ((s.setF Reg.GEN_MODE 6 4 s.code).setF Reg.GEN_MODE 2 0 n).mode = s.mode := rfl
    generalize (s.setF Reg.GEN_MODE 6 4 s.code).setF Reg.GEN_MODE 2 0 n = y at hy ⊢
    have h1 := sameBut_latchOn 2 coreList y
    change SameBut y (latchAll y 2) at h1
    have e1 := h1.regs _ not_collector_mode
    have e2 := h1.mode
    generalize latchAll y 2 = z at e1 e2 ⊢
    have h2 : SameBut z (if n = Mode.hold ∨ s.code = Mode.hold then latchAll z 9 else z) := by
      split
      · exact sameBut_latchOn 9 coreList z
      · exact SameBut.refl z
    have e3 := h2.regs _ not_collector_mode
    have e4 := h2.mode
    generalize (if n = Mode.hold ∨ s.code = Mode.hold then latchAll z 9 else z) = w at e3 e4 ⊢
    have h3 : ∀ x : State, x.reg Reg.GEN_MODE = y.reg Reg.GEN_MODE → x.mode.trans = y.mode.trans →
        x.mode.trimOwed = y.mode.trimOwed →
        (raise (if n = Mode.safe then enterSafe x else x) Src.modeChanged).reg Reg.GEN_MODE = y.reg Reg.GEN_MODE ∧
        (raise (if n = Mode.safe then enterSafe x else x) Src.modeChanged).mode.trans = s.mode.trans ∧
        (raise (if n = Mode.safe then enterSafe x else x) Src.modeChanged).mode.trimOwed = s.mode.trimOwed := by
      intro x a b c
      have r := sameBut_raise (if n = Mode.safe then enterSafe x else x) (src := Src.modeChanged) (by decide)
      rw [r.regs _ not_collector_mode, r.mode]
      split
      · have f := enterSafe_frame x (o := Reg.GEN_MODE) (by decide) (by decide)
        exact ⟨f.1.trans a, f.2.1.trans (b.trans (congrArg ModeS.trans hy)),
          f.2.2.trans (c.trans (congrArg ModeS.trimOwed hy))⟩
      · exact ⟨a, b.trans (congrArg ModeS.trans hy), c.trans (congrArg ModeS.trimOwed hy)⟩
    apply h3
    · split
      · exact (reg_setBit_ne w _ _ (by decide)).trans (e3.trans e1)
      · exact e3.trans e1
    · have e := congrArg ModeS.trans (e4.trans e2)
      split
      · simpa using e
      · exact e
    · have e := congrArg ModeS.trimOwed (e4.trans e2)
      split
      · simpa using e
      · exact e

end Sys2Proof.Laws
end

