-- ==== Sys2Proof/Laws/Peers.lean ====
section
/-! SUPPORT. What a peer's request does at the slice that it arrives at (R27, R263, R532, R658). -/

namespace Sys2Proof.Laws

open Sys2Proof.Machine

variable {s : State} {f : Frame} {k : ReqKind}

/-- In SAFE it is answered with poison. -/
theorem peerRequest_safe (h : s.code = Mode.safe) :
    peerRequest s f k = refuseReq (dropTaken s f) { req := peerReq s f k 0 } := by rw [peerRequest, if_pos h]

/-- In HOLD the slice takes it while its wait buffer has room. -/
theorem peerRequest_hold (h : s.code ≠ Mode.safe) (h2 : holding s = true) (h3 : holdFits s (peerIn s f k) = true) :
    peerRequest s f k = submit (dropTaken (takeId s).1 f) (peerIn s f k) := by
  rw [peerRequest, if_neg h, if_pos h2, if_pos h3]

/-- Without room it rides on. -/
theorem peerRequest_noRoom (h : s.code ≠ Mode.safe) (h2 : holding s = true) (h3 : holdFits s (peerIn s f k) = false) :
    peerRequest s f k = s := by rw [peerRequest, if_neg h, if_pos h2, h3]; rfl

/-- While its page is held, or no reframe is free for it, it rides on. -/
theorem peerRequest_rides (h : s.code ≠ Mode.safe) (h2 : holding s = false) (h3 : rides s (peerIn s f k) = true) :
    peerRequest s f k = s := by rw [peerRequest, if_neg h, h2, if_neg (by decide), if_pos h3]

/-- Else the slice tries it. -/
theorem peerRequest_tries (h : s.code ≠ Mode.safe) (h2 : holding s = false) (h3 : rides s (peerIn s f k) = false) :
    peerRequest s f k = peerTry s f (peerIn s f k) := by
  rw [peerRequest, if_neg h, h2, if_neg (by decide), h3, if_neg (by decide)]

/-- One that its slice admits in this clock leaves the take buffer. -/
theorem peerTry_admitted {r : Req} {u : State} (hu : u = submit (takeId s).1 r)
    (h : u.coh.ingress.any (fun x => decide (x.id = r.id)) = false) : peerTry s f r = dropTaken u f := by
  rw [peerTry, ← hu, h, if_neg (by decide)]

/-- One that finds no lane rides on. -/
theorem peerTry_full {r : Req} {u : State} (hu : u = submit (takeId s).1 r)
    (h : u.coh.ingress.any (fun x => decide (x.id = r.id)) = true) :
    peerTry s f r = { u with coh := { u.coh with ingress := u.coh.ingress.filter (fun x => decide (x.id ≠ r.id)) } } := by
  rw [peerTry, ← hu, if_pos h]

end Sys2Proof.Laws
end

