-- ==== Sys2Proof/Laws/Pool.lean ====
section
/-! SUPPORT. The members of the pool. -/

namespace Sys2Proof.Laws

open Sys2Proof.Machine

theorem mem_wordMembers (k : Nat) (v : Word) (d : Nat) :
    d ∈ wordMembers k v ↔ d / 32 = k ∧ Machine.bit v (d % 32) = true := by
  have hb : v = 0 → Machine.bit v (d % 32) = false := by rintro rfl; simp [Machine.bit]
  unfold wordMembers
  split
  · rename_i h
    simp [hb h]
  · simp only [List.mem_map, List.mem_filter, List.mem_range]
    constructor
    · rintro ⟨i, ⟨hi, hv⟩, rfl⟩
      have e1 : (32 * k + i) / 32 = k := by omega
      have e2 : (32 * k + i) % 32 = i := by omega
      rw [e1, e2]
      exact ⟨rfl, hv⟩
    · rintro ⟨rfl, hv⟩
      exact ⟨d % 32, ⟨Nat.mod_lt _ (by decide), hv⟩, by omega⟩

/-- A device is listed exactly when it has a position in POOL_MEMB and its bit is set (R521). -/
theorem mem_members (s : State) (d : Nat) : d ∈ members s ↔ d < 1024 ∧ isMember s d = true := by
  simp only [members, List.mem_flatMap, List.mem_range, mem_wordMembers, isMember, State.bit]
  constructor
  · rintro ⟨k, hk, rfl, h⟩
    exact ⟨by omega, h⟩
  · rintro ⟨hd, h⟩
    exact ⟨d / 32, by omega, rfl, h⟩

end Sys2Proof.Laws
end

