-- ==== Sys2Proof/Laws/Reset.lean ====
section
/-! SUPPORT. What boot step 1 and a device reset leave. -/

namespace Sys2Proof.Laws

open Sys2Proof.Machine

/-- A read of a list from which the entries of some keys have been taken out. -/
theorem smGet_filter {α : Type} (d : α) (p : Nat → Bool) (m : SMap α) (k : Nat) :
    smGet d (m.filter (fun e => p e.1)) k = if p k then smGet d m k else d := by
  induction m with
  | nil => simp [smGet]
  | cons e r ih =>
    obtain ⟨a, v⟩ := e
    cases hp : p a
    · simp only [List.filter_cons, hp, Bool.false_eq_true, if_false, ih]
      by_cases hk : k = a
      · subst hk; simp [hp]
      · simp [smGet, hk]
    · simp only [List.filter_cons, hp, if_true, smGet]
      by_cases hk : k = a
      · subst hk; simp [hp]
      · simp [hk, ih]

/-- Before the collector runs, an assertion changes no register. -/
theorem raise_early_reg (s : State) (src off : Nat) (h : s.wipe.sramDone = false) : (raise s src).reg off = s.reg off := by
  unfold raise raiseWith
  split
  · rfl
  · simp only [h, Bool.not_false, if_true]; split <;> rfl

/-- The registers that boot step 1 fills. -/
def bootRegs : List Nat := [Reg.SEC_STATE, Reg.SEC_KEYSTAT, Reg.SEC_ARBCNT, Reg.GEN_FUSESTAT]

theorem drawN_reg (n : Nat) (s : State) (off : Nat) : (drawN n s).reg off = s.reg off := by
  induction n generalizing s with
  | zero => rfl
  | succ n ih => simp only [drawN]; rw [ih]; rfl

theorem drawN_wipe (n : Nat) (s : State) : (drawN n s).wipe = s.wipe := by
  induction n generalizing s with
  | zero => rfl
  | succ n ih => simp only [drawN]; rw [ih]; rfl

theorem newNonce_reg (s : State) (off : Nat) : (newNonce s).reg off = s.reg off := by
  unfold newNonce
  rw [drawN_reg]
  rfl

theorem newNonce_wipe (s : State) : (newNonce s).wipe = s.wipe := by
  unfold newNonce
  rw [drawN_wipe]

theorem arbCount_reg (s : State) (off : Nat) (h : off ≠ Reg.SEC_ARBCNT) : (arbCount s).reg off = s.reg off := by
  unfold arbCount
  dsimp only
  rw [reg_setF_ne _ _ _ _ h, reg_setF_ne _ _ _ _ h, reg_setF_ne _ _ _ _ h]

theorem arbCount_wipe (s : State) : (arbCount s).wipe = s.wipe := by
  unfold arbCount
  dsimp only
  simp

theorem reg_sec (s : State) (x : SecS) (off : Nat) : State.reg { s with sec := x } off = s.reg off := (rfl)

/-- Boot step 1 fills its registers and no other while the collector does not run. -/
theorem bootStep1_reg (s : State) (off : Nat) (h : s.wipe.sramDone = false) (ho : off ∉ bootRegs) :
    (bootStep1 s).reg off = s.reg off := by
  simp only [bootRegs, List.mem_cons, List.not_mem_nil, or_false, not_or] at ho
  obtain ⟨h1, h2, h3, h4⟩ := ho
  unfold bootStep1
  dsimp only
  split
  · rw [raise_early_reg, newNonce_reg, reg_setReg_ne _ _ h4, arbCount_reg _ _ h3, reg_setReg_ne _ _ h2, reg_setReg_ne _ _ h1,
      reg_sec]
    rw [newNonce_wipe]
    simp [arbCount_wipe, h]
  · rw [newNonce_reg, reg_setReg_ne _ _ h4, arbCount_reg _ _ h3, reg_setReg_ne _ _ h2, reg_setReg_ne _ _ h1, reg_sec]

/-- What the stages of boot step 1 leave of the state outside registers, collector and security block. -/
structure BootKeeps (s t : State) : Prop where
  pending : t.pending = s.pending
  cores : t.cores = s.cores
  wipe : t.wipe = s.wipe
  keys : t.keys = s.keys
  tier : t.tier = s.tier
  coh : t.coh = s.coh
  dram : t.dram = s.dram
  port : t.port = s.port
  owed : t.flt.react = s.flt.react

theorem BootKeeps.trans {a b c : State} (h : BootKeeps a b) (g : BootKeeps b c) : BootKeeps a c :=
  ⟨g.1.trans h.1, g.2.trans h.2, g.3.trans h.3, g.4.trans h.4, g.5.trans h.5, g.6.trans h.6, g.7.trans h.7, g.8.trans h.8,
    g.9.trans h.9⟩

theorem bootKeeps_setReg (s : State) (off : Nat) (v : Word) : BootKeeps s (s.setReg off v) := by
  constructor <;> simp

theorem bootKeeps_setF (s : State) (off hi lo v : Nat) : BootKeeps s (s.setF off hi lo v) := by
  constructor <;> simp

theorem bootKeeps_drawN (n : Nat) (s : State) : BootKeeps s (drawN n s) := by
  induction n generalizing s with
  | zero => constructor <;> rfl
  | succ n ih => exact BootKeeps.trans (by constructor <;> rfl) (ih s.draw)

theorem bootKeeps_newNonce (s : State) : BootKeeps s (newNonce s) :=
  BootKeeps.trans (b := { s with sec := { s.sec with nonce := s.fresh } }) (by constructor <;> rfl) (bootKeeps_drawN 8 _)

theorem bootKeeps_arbCount (s : State) : BootKeeps s (arbCount s) :=
  ((bootKeeps_setF _ _ _ _ _).trans (bootKeeps_setF _ _ _ _ _)).trans (bootKeeps_setF _ _ _ _ _)

theorem bootKeeps_raise (s : State) (src : Nat) (h : s.wipe.sramDone = false) : BootKeeps s (raise s src) := by
  unfold raise raiseWith
  split
  · constructor <;> rfl
  · simp only [h, Bool.not_false, if_true]; split <;> constructor <;> rfl

/-- Boot step 1 touches registers, the collector and the security block only. -/
theorem bootKeeps_bootStep1 (s : State) (h : s.wipe.sramDone = false) : BootKeeps s (bootStep1 s) := by
  have h1 : ∀ (x : SecS) (a b c : State → Word), BootKeeps s (newNonce (State.setReg (arbCount
      (State.setReg (State.setReg { s with sec := x } Reg.SEC_STATE (a s)) Reg.SEC_KEYSTAT
        (b (State.setReg { s with sec := x } Reg.SEC_STATE (a s))))) Reg.GEN_FUSESTAT (c s))) := by
    intro x a b c
    have h0 : BootKeeps s { s with sec := x } := by constructor <;> rfl
    exact ((((h0.trans (bootKeeps_setReg _ _ _)).trans (bootKeeps_setReg _ _ _)).trans (bootKeeps_arbCount _)).trans
      (bootKeeps_setReg _ _ _)).trans (bootKeeps_newNonce _)
  have hk := h1 { s.sec with otp := owedDestructions s.sec.otp, boot2 := bootFacts (owedDestructions s.sec.otp) }
    (fun _ => secStateWord (owedDestructions s.sec.otp)) secKeyWord
    (fun _ => BitVec.ofNat 32 (owedDestructions s.sec.otp).fuses.length)
  unfold bootStep1
  dsimp only at hk ⊢
  split
  · exact hk.trans (bootKeeps_raise _ _ (by rw [hk.wipe]; exact h))
  · exact hk

/-- A token command that a reset cuts touches OTP and the draws alone. -/
theorem bootKeeps_tokCut (s : State) : BootKeeps s (tokCut s) := by
  unfold tokCut
  split
  · constructor <;> rfl
  · dsimp only
    split <;> (constructor <;> rfl)

/-- What a reset hands to boot step 1. -/
theorem resetState_wipe (s : State) (cold : Bool) (cause : Nat) : (resetState s cold cause).wipe = {} := rfl

theorem resetState_react (s : State) (cold : Bool) (cause : Nat) : (resetState s cold cause).flt.react = [] := by
  cases cold <;> rfl

/-- The reset's own register writes and its fresh GEN values leave the rest. -/
theorem deviceReset_spec (s : State) (cold : Bool) (cause : Nat) :
    ∃ t : State, BootKeeps { resetState (tokCut s) cold cause with keys := { base := (tokCut s).fresh } } t ∧
      deviceReset s cold cause = bootStep1 t := by
  refine ⟨_, ?_, rfl⟩
  cases cold <;> (constructor <;> rfl)

/-- A device reset leaves these as `resetState` has them, and every key slot EMPTY with a fresh GEN. -/
theorem deviceReset_keeps (s : State) (cold : Bool) (cause : Nat) :
    BootKeeps { resetState (tokCut s) cold cause with keys := { base := (tokCut s).fresh } } (deviceReset s cold cause) := by
  obtain ⟨t, h, e⟩ := deviceReset_spec s cold cause
  rw [e]
  exact h.trans (bootKeeps_bootStep1 t (by rw [h.wipe]; rfl))

theorem deviceReset_keys (s : State) (cold : Bool) (cause : Nat) :
    (deviceReset s cold cause).keys = { base := (tokCut s).fresh } := (deviceReset_keeps s cold cause).keys

theorem deviceReset_tier (s : State) (cold : Bool) (cause : Nat) : (deviceReset s cold cause).tier = {} :=
  (deviceReset_keeps s cold cause).tier

theorem deviceReset_coh (s : State) (cold : Bool) (cause : Nat) : (deviceReset s cold cause).coh = {} :=
  (deviceReset_keeps s cold cause).coh

theorem deviceReset_cores (s : State) (cold : Bool) (cause : Nat) : (deviceReset s cold cause).cores = [] :=
  (deviceReset_keeps s cold cause).cores

theorem deviceReset_wipe (s : State) (cold : Bool) (cause : Nat) : (deviceReset s cold cause).wipe = {} :=
  (deviceReset_keeps s cold cause).wipe

theorem deviceReset_pending (s : State) (cold : Bool) (cause : Nat) : (deviceReset s cold cause).pending = s.pending :=
  (deviceReset_keeps s cold cause).pending.trans (bootKeeps_tokCut s).pending

theorem tokCut_regs (s : State) : (tokCut s).regs = s.regs := by
  unfold tokCut
  split
  · rfl
  · split <;> rfl

theorem tokCut_reg (s : State) (off : Nat) : (tokCut s).reg off = s.reg off := by
  unfold State.reg; rw [tokCut_regs]

/-- A reset leaves no reaction owed: what boot step 1 finds is latched until the collector can hold it (R588). -/
theorem deviceReset_react (s : State) (cold : Bool) (cause : Nat) : (deviceReset s cold cause).flt.react = [] :=
  (deviceReset_keeps s cold cause).owed.trans (resetState_react _ cold cause)

theorem deviceReset_dram (s : State) (cold : Bool) (cause : Nat) : (deviceReset s cold cause).dram.bursts = s.dram.bursts := by
  rw [(deviceReset_keeps s cold cause).dram]
  exact (congrArg DramS.bursts (bootKeeps_tokCut s).dram : (tokCut s).dram.bursts = s.dram.bursts)

end Sys2Proof.Laws
end

