-- ==== Sys2Proof/Laws/Settle.lean ====
section
/-! SUPPORT. What the operations that end every command do: `settle` leaves no reaction owed and changes nothing where none is
owed; `done`, `flowDone` and `access` answer a next state. -/

namespace Sys2Proof.Laws

open Sys2Proof.Machine

/-- However many reactions raise others, none is owed in the end. -/
theorem settleN_react (n : Nat) (s : State) : (settleN n s).flt.react = [] := by
  induction n generalizing s with
  | zero => rfl
  | succ n ih =>
    cases h : s.flt.react with
    | nil => simp [settleN, h]
    | cons r l => simp only [settleN, h]; exact ih _

@[simp] theorem settle_react (s : State) : (settle s).flt.react = [] := settleN_react 8 s

/-- Where nothing is owed, `settle` is the identity. -/
theorem settle_of_quiet (s : State) (h : s.flt.react = []) : settle s = s := by
  simp [settle, settleN, h]

@[simp] theorem settle_settle (s : State) : settle (settle s) = settle s := settle_of_quiet _ (settle_react s)

theorem done_eq (s : State) : done s = .next (settle s) := rfl

theorem flowDone_eq (s : State) : flowDone s = .next (settle (flow s)) := rfl

/-- A command that ends with `done` answers a state in which no reaction is owed. -/
theorem done_react {s t : State} (h : done s = .next t) : t.flt.react = [] := by
  cases h; exact settle_react s

theorem flowDone_react {s t : State} (h : flowDone s = .next t) : t.flt.react = [] := done_react h

/-- A register access leaves a device in reset as it is; on any other it takes effect, its reactions are carried out, and the
memory path goes on. -/
theorem access_cases (s : State) (f : State → State) :
    (s.inReset = true ∧ access s f = .next s) ∨
      (s.inReset = false ∧ access s f = .next (settle (flow (settle (f s))))) := by
  cases h : s.inReset
  · exact Or.inr ⟨rfl, by simp [access, h, flowDone_eq]⟩
  · exact Or.inl ⟨rfl, by simp [access, h]⟩

/-- A register access keeps "no reaction owed". -/
theorem access_react {s t : State} {f : State → State} (hq : s.flt.react = []) (h : access s f = .next t) :
    t.flt.react = [] := by
  rcases access_cases s f with ⟨_, e⟩ | ⟨_, e⟩
  · rw [e] at h; cases h; exact hq
  · rw [e] at h; cases h; exact settle_react _

end Sys2Proof.Laws
end

