-- ==== Sys2Proof/Laws/Tick.lean ====
section
/-! SUPPORT. What one core clock without a command does to the reactions owed. -/

namespace Sys2Proof.Laws

open Sys2Proof.Machine

/-- The state at the start of the next clock. -/
def nextClock (s : State) : State :=
  { s with clock := s.clock + 1, acc := { s.acc with hwSet := [], swSet := [] }, tier := { s.tier with ended := [] } }

theorem clockTick_reset (s : State) (h : s.inReset = true) : clockTick s = nextClock s :=
  if_pos (show (nextClock s).inReset = true from h)

theorem clockTick_runs (s : State) (h : s.inReset = false) : ∃ u, clockTick s = settle u :=
  ⟨_, if_neg (fun e => absurd (h.symm.trans (show s.inReset = true from e)) (by decide))⟩

/-- A clock keeps "no reaction owed". -/
theorem clockTick_react (s : State) (hq : s.flt.react = []) : (clockTick s).flt.react = [] := by
  cases h : s.inReset
  · obtain ⟨u, e⟩ := clockTick_runs s h
    rw [e]; exact settle_react u
  · rw [clockTick_reset s h]; exact hq

/-- So does the work at its end. -/
theorem clockEnd_react (s : State) (hq : s.flt.react = []) : (clockEnd s).flt.react = [] := by
  unfold clockEnd; split
  · exact hq
  · exact settle_react _

/-- An expiry put off is one of the commands. -/
theorem expire_exec (i : Timer) (s : State) : ∃ c, expire i s = exec c s := by
  cases i
  case keyExpiry p => exact ⟨.keyExpiry p, rfl⟩
  case idxPairTimeout n => exact ⟨.idxPairTimeout n, rfl⟩
  case holdLimitExpiry => exact ⟨.holdLimitExpiry, rfl⟩
  case safecapExpiry => exact ⟨.safecapExpiry, rfl⟩
  case watchdogExpiry c => exact ⟨.watchdogExpiry c, rfl⟩
  case waitTimeout c => exact ⟨.waitTimeout c, rfl⟩
  case waittTideReached c => exact ⟨.waittTideReached c, rfl⟩
  case stagingClaimLapse => exact ⟨.stagingClaimLapse, rfl⟩
  case hostMessageTimeout c q => exact ⟨.hostMessageTimeout c q, rfl⟩
  case armWaitTimeout => exact ⟨.armWaitTimeout, rfl⟩
  case finalSend => exact ⟨.finalSend, rfl⟩
  case bisnpTimeout d l => exact ⟨.bisnpTimeout d l, rfl⟩
  case addDcResponse d x b a => exact ⟨.addDcResponse d x b a, rfl⟩
  case releaseDc d x b => exact ⟨.releaseDc d x b, rfl⟩
  case dcdResponseTimeout e => exact ⟨.dcdResponseTimeout e, rfl⟩
  case urgencyPersistent => exact ⟨.urgencyPersistent, rfl⟩
  case replayTimeout l => exact ⟨.replayTimeout l, rfl⟩
  case renegTimeout l => exact ⟨.renegTimeout l, rfl⟩
  case lockTimeout l => exact ⟨.lockTimeout l, rfl⟩
  case tideErrorLimit => exact ⟨.tideErrorLimit, rfl⟩
  case heartbeatMissLimit => exact ⟨.heartbeatMissLimit, rfl⟩
  case standbyProbeStart => exact ⟨.standbyProbeStart, rfl⟩
  case standbyProbeEnd => exact ⟨.standbyProbeEnd, rfl⟩
  case heartbeatLoss => exact ⟨.heartbeatLoss, rfl⟩
  case reservedCreditLapse => exact ⟨.reservedCreditLapse, rfl⟩
  case e2eTimeout d l => exact ⟨.e2eTimeout d l, rfl⟩
  case slotPowerGood n => exact ⟨.slotPowerGood n, rfl⟩
  case faultTimerExpiry n => exact ⟨.faultTimerExpiry n, rfl⟩
  case sampleNoRequestTimeout n => exact ⟨.sampleNoRequestTimeout n, rfl⟩

/-- What every command keeps, the end of a clock keeps up to the clock's own work. -/
theorem closeClock_ends {P : State → Prop} (hx : ∀ (c : Instr) (s : State), ∃ t, exec c s = .next t ∧ (P s → P t)) :
    ∀ (l : List Timer) (s : State), ∃ t, closeClock l s = .next (clockTick { clockEnd t with closing := false }) ∧ (P s → P t)
  | [], s => ⟨s, rfl, id⟩
  | i :: l, s => by
    obtain ⟨c, e⟩ := expire_exec i s
    obtain ⟨u, eu, hu⟩ := hx c s
    obtain ⟨t, et, ht⟩ := closeClock_ends hx l u
    exact ⟨t, by rw [closeClock, e, eu]; exact et, ht ∘ hu⟩

end Sys2Proof.Laws
end

