-- ==== Sys2Proof/Laws/Timers.lean ====
section
/-! SUPPORT. What an expiry does in the clock of its deadline, and after it. -/

namespace Sys2Proof.Laws

open Sys2Proof.Machine

variable {s : State} {i : Timer} {per : Nat} {due : Option Nat} {f : State → Host.Outcome State Fault Refusal}

/-- An expiry whose own clock has ended, or is about to end, is carried out. -/
theorem atDue_acts (h : ExpiryActs s per due) : atDue i per due s f = f s := by
  unfold atDue; rw [if_neg]; simpa [ExpiryActs] using h

/-- The same for a deadline counted in tides. -/
theorem atTide_acts (h : TideExpiryActs s due) : atTide i due s f = f s := by
  unfold atTide; rw [if_neg]; simpa [TideExpiryActs] using h

/-- In its own tide an expiry waits for the tide's end. -/
theorem atTide_waits (h : due = some s.tide) (hc : s.closing = false) :
    atTide i due s f = .next { s with deferred := s.deferred ++ [i] } := by
  unfold atTide; rw [if_pos]; simp [h, hc]

/-- In its own clock an expiry waits for the clock's end. -/
theorem atDue_waits (h : due = some (s.clock / per)) (hc : s.closing = false) :
    atDue i per due s f = .next { s with deferred := s.deferred ++ [i] } := by
  unfold atDue; rw [if_pos]; simp [h, hc]

/-- At its clock's end an expiry put off is carried out. -/
theorem atDue_one (hc : s.closing = true) : atDue i 1 due s f = f s :=
  atDue_acts (by simp [ExpiryActs, hc, Nat.mod_one])

theorem atEnd_acts (hc : s.closing = true) : atEnd i s f = f s := by unfold atEnd; rw [if_pos hc]

theorem atEnd_waits (hc : s.closing = false) : atEnd i s f = .next { s with deferred := i :: s.deferred } := by
  unfold atEnd; rw [if_neg]; simp [hc]

end Sys2Proof.Laws
end

