-- ==== Sys2Proof/Laws/Words.lean ====
section
/-! SUPPORT. The fields of a Tamane word that is built from its fields, and the word that the fields of a word build. -/

namespace Sys2Proof.Laws

open Sys2Proof Sys2Proof.Machine

variable {op func : Nat} {a b d : Fin 32} {i : BitVec 16} {c : Fin 16}

theorem wordA_toNat (ho : op < 64) (hf : func < 2048) :
    (wordA op a b d func).toNat = op * 67108864 + a.val * 2097152 + b.val * 65536 + d.val * 2048 + func := by
  have := a.isLt; have := b.isLt; have := d.isLt
  simp only [wordA, BitVec.toNat_ofNat]
  norm_num
  omega

theorem wordI_toNat (ho : op < 64) :
    (wordI op a b i).toNat = op * 67108864 + a.val * 2097152 + b.val * 65536 + i.toNat := by
  have := a.isLt; have := b.isLt; have := i.isLt
  simp only [wordI, BitVec.toNat_ofNat]
  norm_num
  omega

/-- A register field from the number in it. -/
theorem regField_eq {w : Word} {lo : Nat} {r : Fin 32} (h : fld w (lo + 4) lo = r.val) : regField w lo = r := by
  apply Fin.ext
  simp only [regField, h, Fin.ofNat]
  exact Nat.mod_eq_of_lt r.isLt

/-- The three register fields, the opcode and the func field of a word of format A. -/
theorem wordA_fields (ho : op < 64) (hf : func < 2048) :
    fld (wordA op a b d func) 31 26 = op ∧ regField (wordA op a b d func) 21 = a ∧ regField (wordA op a b d func) 16 = b ∧
      regField (wordA op a b d func) 11 = d ∧ fld (wordA op a b d func) 10 0 = func := by
  have ha := a.isLt; have hb := b.isLt; have hd := d.isLt
  have h := wordA_toNat (a := a) (b := b) (d := d) ho hf
  refine ⟨?_, regField_eq ?_, regField_eq ?_, regField_eq ?_, ?_⟩ <;> unfold fld nfld <;> rw [h] <;> norm_num <;> omega

/-- The same of formats I, M and B. -/
theorem wordI_fields (ho : op < 64) :
    fld (wordI op a b i) 31 26 = op ∧ regField (wordI op a b i) 21 = a ∧ regField (wordI op a b i) 16 = b ∧
      immField (wordI op a b i) = i := by
  have ha := a.isLt; have hb := b.isLt; have hi := i.isLt
  have h := wordI_toNat (a := a) (b := b) (i := i) ho
  refine ⟨?_, regField_eq ?_, regField_eq ?_, ?_⟩
  · unfold fld nfld; rw [h]; norm_num; omega
  · unfold fld nfld; rw [h]; norm_num; omega
  · unfold fld nfld; rw [h]; norm_num; omega
  · apply BitVec.eq_of_toNat_eq
    unfold immField fld nfld
    rw [BitVec.toNat_ofNat, h]; norm_num; omega

theorem legalInstr_alu (hf : func < 2048) : legalInstr c (wordA 0 a b d func) = aluInstr c a b d func := by
  obtain ⟨h1, h2, h3, h4, h5⟩ := wordA_fields (a := a) (b := b) (d := d) (op := 0) (by decide) hf
  unfold legalInstr; simp only [h1, h2, h3, h4, h5]

theorem legalInstr_amo (hf : func < 2048) : legalInstr c (wordA 0x30 a b d func) = amoInstr c a b d func := by
  obtain ⟨h1, h2, h3, h4, h5⟩ := wordA_fields (a := a) (b := b) (d := d) (op := 0x30) (by decide) hf
  unfold legalInstr; simp only [h1, h2, h3, h4, h5]

theorem legalInstr_sys {xfn arg : Nat} (hx : xfn < 64) (ha : arg < 32) :
    legalInstr c (wordX a b d xfn arg) = sysInstr c a b d xfn arg := by
  have hf : xfn * 32 + arg < 2048 := by omega
  obtain ⟨h1, h2, h3, h4, h5⟩ := wordA_fields (a := a) (b := b) (d := d) (op := 0x3F) (by decide) hf
  have k := wordA_toNat (a := a) (b := b) (d := d) (op := 0x3F) (by decide) hf
  have ha2 := a.isLt; have hb := b.isLt; have hd := d.isLt
  have h6 : fld (wordA 0x3F a b d (xfn * 32 + arg)) 10 5 = xfn := by
    unfold fld nfld; rw [k]; norm_num; omega
  have h7 : fld (wordA 0x3F a b d (xfn * 32 + arg)) 4 0 = arg := by
    unfold fld nfld; rw [k]; norm_num; omega
  unfold wordX legalInstr; simp only [h1, h2, h3, h4, h6, h7]

theorem legalInstr_imm (ho : op < 64) (h : op ≠ 0) (h30 : op ≠ 0x30) (h3f : op ≠ 0x3F) :
    legalInstr c (wordI op a b i) = immInstr c a b i op := by
  obtain ⟨h1, h2, h3, h4⟩ := wordI_fields (a := a) (b := b) (i := i) ho
  unfold legalInstr; simp only [h1, h2, h3, h4]

/-- A register field of a word is its bits. -/
theorem regField_val (w : Word) (lo : Nat) : (regField w lo).val = w.toNat / 2 ^ lo % 32 := by
  simp only [regField, Fin.ofNat, fld, nfld]
  rw [show lo + 4 + 1 - lo = 5 by omega]
  omega

/-- The fields of a word give it back: formats A and X. -/
theorem wordA_back (w : Word) :
    wordA (fld w 31 26) (regField w 21) (regField w 16) (regField w 11) (fld w 10 0) = w := by
  have hw := w.isLt
  apply BitVec.eq_of_toNat_eq
  simp only [wordA, BitVec.toNat_ofNat, regField_val, fld, nfld]
  norm_num at hw ⊢
  omega

/-- Formats I, M and B. -/
theorem wordI_back (w : Word) : wordI (fld w 31 26) (regField w 21) (regField w 16) (immField w) = w := by
  have hw := w.isLt
  apply BitVec.eq_of_toNat_eq
  simp only [wordI, BitVec.toNat_ofNat, regField_val, immField, fld, nfld]
  norm_num at hw ⊢
  omega

theorem func_back (w : Word) : fld w 10 5 * 32 + fld w 4 0 = fld w 10 0 := by
  simp only [fld, nfld]; norm_num; omega

end Sys2Proof.Laws
end

