-- ==== Sys2Proof/Tests/Bench.lean ====
section
/-! SUPPORT. Small states for the tests and the witnesses. -/

namespace Sys2Proof.Tests

open Sys2Proof Sys2Proof.Machine

/-- The device in a mode, with the bittern's on-die phases ended. -/
def bench (mode : Nat) : State :=
  { State.reset.setReg Reg.GEN_MODE (BitVec.ofNat 32 mode) with wipe := { keysDone := true, sramDone := true } }

/-- The descriptor of a register's table. -/
def descOf (off : Nat) : RegDesc := (regDesc off).getD ⟨0, 0, 0, 0, 0, 0, 0, 0, 0, .none, false, false⟩

/-- The device in RUN with every unit READY, its power on, and interleave set 0 of one channel of 16 GiB that maps 16,384 pages;
the bittern has brought the set to a phase (5: done). -/
def oneSet (phase : Nat) : State :=
  let s := (((bench 2).setReg Reg.SEC_STATE 0x41000000).setReg (Reg.DMC_GEOM 0) 0x00220000)
  let s := [0, 1, 2, 3, 4, 5, 6, 7].foldl (fun s i => s.setReg (Reg.RDY_0 + 4 * i) 0xFFFFFFFF) s
  let m := tabPut (tabPut (tabPut [] 4 0 0x80000001 4) 4 8 0 8) 4 16 16384 8
  { s with sets := { active := m, shadow := m }, wipe := { s.wipe with sets := [(0, { phase := phase })] } }

/-- The same with set 0 servable. -/
def served (phase : Nat) : State := (oneSet phase).setReg Reg.GEN_SETSRV 1

/-- The device in RUN, in which every core is READY and core 3 has these registers, queue and memories. -/
def cored (k : Core) : State := ((bench 2).setReg Reg.RDY_5 0x1FFFF).setCore 3 k

/-- A load whose last chunk has come while a set is armed. -/
def loadEnded : State :=
  { (bench 2).setReg Reg.PAL_SETSTAT 0x80000000 with
    sets := { staging := some { path := 1000, bytes := [0], clock := 0, ended := true } } }

/-- The device as the master of a pool in which it is alone, in RUN with every core READY. -/
def mastered : State :=
  (((bench 2).setReg Reg.RDY_5 0x1FFFF).setReg Reg.POOL_STAT 0x60000000).setReg (Reg.POOL_MEMB 0) 1

/-- Device 0 with a role in a pool of devices 0 and 5, whose master is device 5. -/
def membered (r : Nat) : State :=
  (((bench 2).setReg Reg.POOL_STAT (BitVec.ofNat 32 (r * 2 ^ 29))).setReg (Reg.POOL_MEMB 0) 0x21).setReg Reg.POOL_TOPO 0x1400

/-- Core 3 calls DCDADD for the first 256 MiB of logical device 0, which is bound on port 0. -/
def offering : State :=
  let s := cored { status := 5, cause := 6, tval := 4, t := [(12, 0x10000000)] }
  let s := (s.setReg Reg.RDY_6 1).setReg (Reg.HPX_STAT 0) 0x80
  { s with port := { ldcnt := [(0, 0x1)], ld := [(0, { enumerated := true })] } }

/-- Logical device 0 in a mode, with port 0 up, a decoder of 256 MiB at address 0, an ACCEPTED extent there, and window 0 valid. -/
def hosted (mode : Nat) : State :=
  let s := ((bench mode).setReg Reg.RDY_6 1).setReg (Reg.HPX_STAT 0) 0x80
  { s with
    sets := { active := tabPut [] 1 0 0x80000000 4 }
    port := { ldcnt := [(0, 0x1)], ext := [(0, { start := 0, blocks := 1, ld := 0, state := 2 })]
              ld := [(0, { enumerated := true, decs := [(0, some ⟨0, 0x10000000, 0, 1, 256, false⟩)] })] } }

/-- The same with every credit of the port given out. -/
def creditless : State := { hosted 2 with port := { (hosted 2).port with held := List.replicate 1024 (.memRdData 0 0 0) } }

/-- Page 0 with an entry, in RUN; task tag 0 selects key slot 0, which is loaded. -/
def tagged (e : DWord) : State :=
  let s := (served 5).setReg Reg.GEN_MODE 2
  setEntry { s with
    sets := { s.sets with active := tabPut s.sets.active 2 0 0x8000 2 }
    keys := { slots := [(0, { state := 1, gen := 1, key := 1 })] } } 0 e

/-- An event record that has not been sent. -/
def evRec : EvRec := { src := 0, cls := 1, tide := 0, cap := [], sent := false }

/-- A T2 write whose page's encode runs in heap crystallizer 0, for a write of zeros to page 0; the job, its transaction, and what
the end of the encode comes to step by step. -/
def encT : Txn := { req := mkInternal (bench 2) 7 .memWr 0 0 0, wdata := some (0, 0, false, 0, 0) }
def encJ : HeapJob := { quad := 0, kind := 2, page := 0, txn := 7, slot := 0, running := true, decoded := true }
def encS : State :=
  let s := tagged (mkEnt 2 0 0 (3 * 2 ^ 37))
  { s with coh := { txns := [encT] }, tier := { s.tier with jobs := [encJ] } }
def encV : State := tick (dropJob encS encJ) (bHc 0) 0 1
def encU : State × Bool := if codes2 encV 0 [] then verifyFails encV 0 0 true [] else (encV, false)
def encForm : Option (List Nat) × Nat := heapForm encU.1 [] encU.2
def encPlan : State × Plan := planT2 (tick (tick encU.1 (bHc 0) 2 1) (bHc 0) 1 encForm.2) 0 0 0 [] 0 encU.2

end Sys2Proof.Tests
end

