-- ==== Sys2Proof/Tests/Slice0.lean ====
section
/-! SUPPORT. Tests: a command that each check of WellFormed refuses, worked examples and table values of spec/ (each names its
source), and single steps on small states. -/

namespace Sys2Proof.Tests

open Sys2Proof Sys2Proof.Machine

set_option Elab.async false

/-! ### An ill-formed command for each check -/

theorem test_wf_width : (Instr.registerWrite .sideband 12 0 0).wf = false := by decide
theorem test_wf_span : (Instr.registerWrite .sideband 64 0x3FFFFFC 0).wf = false := by decide
theorem test_wf_value : (Instr.registerWrite .sideband 8 0 256).wf = false := by decide
theorem test_wf_space : (Instr.gpVWrite .sideband 0x4000000 0).wf = false := by decide
theorem test_wf_message_empty : (Instr.sidebandRegisterMessage []).wf = false := by decide
theorem test_wf_message_long : (Instr.sidebandRegisterMessage (List.replicate 17 ⟨0, 0, 0⟩)).wf = false := by decide
theorem test_wf_message_code : (Instr.sidebandRegisterMessage [⟨256, 0, 0⟩]).wf = false := by decide
theorem test_wf_message_space : (Instr.sidebandRegisterMessage [⟨0, 0x4000000, 0⟩]).wf = false := by decide
theorem test_wf_cold_cause : (Instr.coldReset 3).wf = false := by decide
theorem test_wf_warm_cause : (Instr.warmReset 2).wf = false := by decide
theorem test_wf_block : (Instr.bitternMapBlockWritten 0 0x200000).wf = false := by decide
theorem test_wf_cells : (Instr.bitternCellsZeroised 0 0).wf = false := by decide
theorem test_wf_host_tag : (Instr.memInv 0 0x10000 0).wf = false := by decide
theorem test_wf_host_line : (Instr.memInv 0 0 32).wf = false := by decide
theorem test_wf_line : (Instr.birsp 0 1 false).wf = false := by decide
theorem test_wf_frame : (Instr.rds { dest := 1024 }).wf = false := by decide
theorem test_wf_lm : (Instr.lmRequest 0 ⟨0, 0, 32, 0, 0, 0, 0, false⟩).wf = false := by decide
theorem test_wf_block_lanes : (Instr.tbDetect 0 ⟨0, 0, false, 0, 512, false, false, 0, 0⟩).wf = false := by decide
theorem test_wf_cfg_read : (Instr.cxlIoConfigRequest 0 (.read 4096)).wf = false := by decide
theorem test_wf_cfg_ways : (Instr.cxlIoConfigRequest 0 (.commit 0 0 1 0 0 256 false)).wf = false := by decide
theorem test_wf_info : (Instr.faultAssertion 0 { akind := 8 } none).wf = false := by decide
theorem test_wf_symbol : (Instr.rakePage [[(20, 1)]]).wf = false := by decide
theorem test_wf_payload : (Instr.glxLoadImageStart .sideband (List.replicate (2 ^ 20 + 1) 0)).wf = false := by
  show payloadOk _ = false
  unfold payloadOk
  rw [List.length_replicate]
  decide
theorem test_wf_extent : (Instr.addDcResponse 0 0 (2 ^ 36) true).wf = false := by decide
theorem test_wf_policy : (Instr.setEventInterruptPolicy .sideband (2 ^ 32)).wf = false := by decide
theorem test_wf_timestamp : (Instr.setTimestamp .sideband (2 ^ 64)).wf = false := by decide
theorem test_wf_scan : (Instr.scanMedia .sideband 0 (2 ^ 64)).wf = false := by decide
theorem test_wf_opcode : (Instr.mailboxUnsupported .sideband 0x10000).wf = false := by decide
theorem test_wf_lost_page : (Instr.pprComplete 0 0 [2 ^ 34]).wf = false := by decide
theorem test_wf_peer : (Instr.e2eTimeout 1024 0).wf = false := by decide
theorem test_wf_readings : (Instr.housekeepingRound (List.replicate 385 none)).wf = false := by decide +kernel

/-! ### Worked examples and table values of the spec -/

/-- spec/01: "DPA 0x0123_4567_8000 ... so the page's home slice is HA2". -/
theorem test_home_slice : homeSlice 0x012345678000 = 2 := by decide

/-- spec/11, locating a byte of a T1 line: position 2 of six channels, offset 0x3_6157_5170. -/
theorem test_locate : locatePos 6 false 12 0x0014480C0170 = (2, 0x361575170) := by decide

/-- spec/07: the TU entry of set 3 and the T1 entry of set 2 with two cells from cell 0x0340_0C10. -/
theorem test_entry_tu : tuEntry 3 = 0xA018000000000000 := by decide
theorem test_entry_t1 : mkEnt Ent.t1 0 2 (1 * 2 ^ 35 + 0x03400C10) = 0x2010000803400C10 := by decide
theorem test_entry_empty : emptyRun 0x20100007FFFFFFFF = true := by decide

/-- spec/04, spec/11 and spec/13: the global numbers of three sources. -/
theorem test_source_core : Src.core 5 0 = 1300 := by decide
theorem test_source_chan : Src.chan 14 7 = 615 := by decide
theorem test_source_link : Src.link 19 5 = 925 := by decide

/-- Line A of spec/08. -/
def lineA : List Nat :=
  natBytes 8 0x00007F3A00412000 ++ natBytes 8 0x00007F3A00412040 ++ natBytes 8 0 ++ natBytes 8 0x00007F3A0041207F ++
    natBytes 8 0x00007F3A00411FE0 ++ natBytes 8 0 ++ natBytes 8 0x00007F3A00412010 ++ natBytes 8 5

/-- The two sectors of line A, as the table of spec/08 gives their bytes. -/
def codeA : List Nat :=
  [0x22, 0x00, 0x20, 0x41, 0x00, 0x3A, 0x7F, 0x00, 0x00, 0x5B, 0x00, 0x40, 0x00, 0x7F, 0xE0, 0x00, 0x10, 0x05] ++
    List.replicate 14 0

theorem test_line_a_encodes : grainEncode true true true lineA = (2, codeA) := by decide +kernel
theorem test_line_a_decodes : grainDecode 2 codeA = some lineA := by decide +kernel

/-- Line B of spec/08. -/
def lineB : List Nat := [3, 0, 0, 17, 0xFFFFFFFE, 0, 1, 0, 200, 0, 0, 0x10000, 0, 0, 7, 0].flatMap (natBytes 4)

def codeB : List Nat := [0x03, 0x01, 0x14, 0x04, 0x03, 0x08, 0x04, 0x13, 0xE1, 0x81, 0x0C, 0x10, 0x00, 0x70, 0x00, 0x00]

theorem test_line_b_encodes : grainEncode true true true lineB = (1, codeB) := by decide +kernel
theorem test_line_b_decodes : grainDecode 1 codeB = some lineB := by decide +kernel

/-- R289: a string whose header has an ENC that no encoding uses is rejected. -/
theorem test_line_rejected : grainDecode 1 (4 :: List.replicate 15 0) = none := by decide +kernel

/-- A line of zeros has size code 0 (R283). -/
theorem test_line_zero : grainEncode true true true (List.replicate 64 0) = (0, []) := by decide +kernel

/-! ### Words of Tamane instructions, written out from the formats and the encoding table of spec/04 -/

/-- ADDI t3, t0, 1: opcode 000001, rd 00011, rs1 00000, imm16 1. -/
theorem test_word_addi : legalInstr 3 0b00000100011000000000000000000001 = some (.addi 3 3 0 1) := rfl

/-- SUB t1, t2, t3: opcode 000000, rd 00001, rs1 00010, rs2 00011, func 1. -/
theorem test_word_sub : legalInstr 3 0b00000000001000100001100000000001 = some (.sub 3 1 2 3) := rfl

/-- BNE t4, t5, −1: opcode 0x21, rs1 00100, rs2 00101, off16 all ones. -/
theorem test_word_bne : legalInstr 3 0b10000100100001011111111111111111 = some (.bne 3 4 5 0xFFFF) := rfl

/-- AMO.ADD of a word, t4, t5, t3: opcode 0x30, func with W 0 and OP 0. -/
theorem test_word_amo : legalInstr 3 0b11000000100001010001100000000000 = some (.amoAdd 3 4 5 3 false) := rfl

/-- TMW t6, t10, t11: opcode 0x3F, xfn 0x09, xarg 0. -/
theorem test_word_tmw : legalInstr 3 0b11111100110010100101100100100000 = some (.tmw 3 6 10 11) := rfl

/-- R112: opcode 0x0D is reserved. -/
theorem test_word_reserved : legalInstr 3 0x34000000 = none := rfl

/-! ### Single steps -/

/-- The registers t1 to t31 of core 3 that are not 0 after a command. -/
def regsAfter (i : Instr) (s : State) : SMap DWord :=
  match exec i s with
  | .next s => (s.core 3).t
  | _ => []

/-- spec/04, encoding a pool address: ORI places 0x00A9, and a SHORI shifts it left by 16 and takes in 0xC123. -/
theorem test_ori : regsAfter (.ori 3 5 0 0x00A9) (cored {}) = [(5, 0xA9)] := by decide +kernel
theorem test_shori : regsAfter (.shori 3 5 5 0xC123) (cored { t := [(5, 0xA9)] }) = [(5, 0xA9C123)] := by decide +kernel

/-- R114 on one core: a division by zero gives all ones. -/
theorem test_div_by_zero : regsAfter (.div 3 1 2 0) (cored { t := [(2, 7)] }) = [(1, 0xFFFFFFFFFFFFFFFF), (2, 7)] := by
  decide +kernel

/-- R100: t0 discards what is written to it. -/
theorem test_t0_discards : regsAfter (.addi 3 0 2 1) (cored { t := [(2, 7)] }) = [(2, 7)] := by decide +kernel

/-- R158, R154: TRAP 5 at pc 0x10000 saves the next pc, cause 6 and the code, and goes on at TVEC. -/
theorem test_trap :
    (match exec (.trap 3 5) (cored { status := 0, pc := 0x10000, tvec := 0x12000 }) with
      | .next s => decide (((s.core 3).epc, (s.core 3).cause, (s.core 3).tval, (s.core 3).pc) = (0x10004, 6, 5, 0x12000))
      | _ => false) = true := by decide +kernel

/-- A step takes the front command: the queue's rest stays. -/
theorem test_step_queue :
    (match step { cored {} with pending := [.ori 3 5 0 1, .ori 3 6 0 2] } with
      | .next s => decide (s.pending = [.ori 3 6 0 2] ∧ (s.core 3).t = [(5, 1)])
      | _ => false) = true := by decide +kernel

end Sys2Proof.Tests
end

