-- ==== Sys2Proof/Tests/Witnesses.lean ====
section
/-! SUPPORT. For every clause of a statement that has hypotheses, a concrete state and operands that meet all of them
together. -/

namespace Sys2Proof.Tests

open Sys2Proof Sys2Proof.Machine

set_option linter.unusedVariables false
set_option Elab.async false

theorem witness_SettleAndFlowAtRest_1 :
    ∃ (s : State), (s.flt.react = []) :=
  ⟨State.reset, by decide +kernel⟩

theorem witness_SettleAndFlowAtRest_2 :
    ∃ (s : State), (pushBis s s.coh.txns = s) ∧ (flowStep s = none) ∧ (s.tier.moves.filterMap (moveJob s) = []) ∧
      (s.tier.peerMoves.filterMap (peerJob s) = []) :=
  ⟨State.reset, by decide +kernel⟩

theorem witness_StepRunsTheFrontCommand_1 :
    ∃ (s : State), (s.pending = []) :=
  ⟨State.reset, by decide +kernel⟩

theorem witness_StepRunsTheFrontCommand_2 :
    ∃ (c : Timer) (r : List Timer) (s t : State), (expire c s = .next t) :=
  ⟨(.holdLimitExpiry), [], State.reset, (settle (limitExpiry State.reset)), rfl⟩

theorem witness_PlainWritesFollowFieldTypes_1 :
    ∃ (s : State) (p : Path) (off val : Nat) (d : RegDesc), (s.inReset = false) ∧ (writeRefused s p (off) = false) ∧
      (flashBarred s p off = false) ∧ (accessBytes p 32 off = some 4) ∧ (off % 4 = 0) ∧ (canonOff off = off) ∧
      (windowOf off = none) ∧ (off ≠ Reg.GRD_KEY) ∧ (regDesc off = some d) ∧ (d.guard = .none) ∧ (d.setHeld = false) ∧
      (effectOf d.base = none) :=
  ⟨(bench 2), .sideband, (Reg.GRD_STAT), 0, (descOf (Reg.GRD_STAT)), by decide +kernel⟩

theorem witness_PlainWritesFollowFieldTypes_2 :
    ∃ (s : State) (p : Path) (off val : Nat) (d : RegDesc), (s.inReset = false) ∧ (writeRefused s p (off) = false) ∧
      (flashBarred s p off = false) ∧ (accessBytes p 32 off = some 4) ∧ (off % 4 = 0) ∧ (canonOff off = off) ∧
      (windowOf off = none) ∧ (off ≠ Reg.GRD_KEY) ∧ (regDesc off = some d) ∧ (d.guard = .none) ∧ (d.setHeld = true) ∧
      (setArmed s = false) :=
  ⟨(bench 2), .sideband, (Reg.FLT_CLASS 0), 0, (descOf (Reg.FLT_CLASS 0)), by decide +kernel⟩

theorem witness_PlainWritesFollowFieldTypes_3 :
    ∃ (s : State) (off : Nat) (d : RegDesc), (regDesc off = some d) :=
  ⟨(bench 2), (Reg.GRD_STAT), (descOf (Reg.GRD_STAT)), by decide +kernel⟩

theorem witness_PlainWritesFollowFieldTypes_4 :
    ∃ (d : RegDesc) (old v : Word) (i : Nat), (i < 32) :=
  ⟨(descOf (Reg.GRD_STAT)), 0, 0, 31, by decide +kernel⟩

theorem witness_PlainWritesFollowFieldTypes_5 :
    ∃ (s : State) (p : Path) (width off val b : Nat), (s.inReset = false) ∧ (accessBytes p width off = some b) ∧ ((off
      % b ≠ 0 ∨ b < 4)) :=
  ⟨(bench 2), .sideband, 16, 4, 0, 2, by decide +kernel⟩

theorem witness_PairReadsAreOneValue_1 :
    ∃ (s : State) (p : Path) (off : Nat), (s.inReset = false) ∧ (accessBytes p 32 off = some 4) ∧ (off % 4 = 0) ∧
      (canonOff off = off) ∧ (readRefused s p off = false) ∧ (windowOf off = none) ∧ (isPairLow off = true) ∧ (hiOf
      s.acc.hi p off = none) ∧ (off ≠ Reg.SEC_TOKDATA) ∧ (off ≠ Reg.HOME_DQDATLO) :=
  ⟨(bench 2), .sideband, Reg.TIDE_NOW_LO, by decide +kernel⟩

theorem witness_PairReadsAreOneValue_2 :
    ∃ (s : State) (p q : Path) (off : Nat), (isPairLow off = true) :=
  ⟨(bench 2), .sideband, (.host 0), Reg.TIDE_NOW_LO, by decide +kernel⟩

theorem witness_PairReadsAreOneValue_3 :
    ∃ (s : State) (p : Path) (off : Nat) (v : Word), (hiOf s.acc.hi p off = some v) ∧ (off ≠ Reg.HOME_DQDATLO) ∧ (off
      ≠ Reg.HOME_DQDATHI) :=
  ⟨({ bench 2 with acc := { hi := [(.sideband, 4, 7)] } }), .sideband, 4, 7, by decide +kernel⟩

theorem witness_SidebandMessagesAnswerEveryOperation_1 :
    ∃ (s : State) (ops : List SbOp), (s.inReset = false) ∧ (1 ≤ ops.length) ∧ (ops.length ≤ 16) :=
  ⟨(bench 2), [{ code := 0, off := 4, val := 0 }], by decide +kernel⟩

theorem witness_SidebandMessagesAnswerEveryOperation_2 :
    ∃ (s : State) (o : SbOp), (2 ≤ o.code) :=
  ⟨(bench 2), { code := 2, off := 0, val := 0 }, by decide +kernel⟩

theorem witness_SidebandMessagesAnswerEveryOperation_3 :
    ∃ (s : State) (o : SbOp), (o.code < 2) ∧ (o.off % 4 ≠ 0) :=
  ⟨(bench 2), { code := 1, off := 2, val := 0 }, by decide +kernel⟩

theorem witness_ComplementPairs_1 :
    ∃ (s : State) (p : Path) (off : Nat) (v : Word) (d : RegDesc), (s.inReset = false) ∧ (writeRefused s p (off) =
      false) ∧ (isGp off = true) ∧ (canonOff off = off) ∧ (windowOf off = none) ∧ (off ≠ Reg.GRD_KEY) ∧ (flashBarred s
      p off = false) ∧ (off = gpBase off) ∧ (regDesc off = some d) ∧ (d.guard = .gp) ∧ (s.acc.gp = none) :=
  ⟨(bench 2), .sideband, (Reg.GRD_TESTG 0), 5, (descOf (Reg.GRD_TESTG 0)), by decide +kernel⟩

theorem witness_ComplementPairs_2 :
    ∃ (s : State) (p : Path) (v : Word) (c : Nat), (s.inReset = false) ∧ (writeRefused s p (Reg.GRD_TESTG 1) = false)
      ∧ (s.acc.gp = some { path := p, off := Reg.GRD_TESTG 0, val := v, clock := c }) ∧ (s.clock < c + 65) :=
  ⟨({ bench 2 with acc := { gp := some { path := .sideband, off := Reg.GRD_TESTG 0, val := 5, clock := 0 } } }),
    .sideband, 5, 0, by decide +kernel⟩

theorem witness_ComplementPairs_3 :
    ∃ (s : State) (p : Path) (off : Nat) (v w : Word) (d : RegDesc) (c : Nat), (s.inReset = false) ∧ (writeRefused s p
      (off) = false) ∧ (isGp off = true) ∧ (canonOff off = off) ∧ (windowOf off = none) ∧ (off ≠ Reg.GRD_KEY) ∧
      (flashBarred s p off = false) ∧ (off ≠ gpBase off) ∧ (regDesc off = some d) ∧ (d.guard = .gp) ∧ (s.acc.gp = some
      { path := p, off := d.base, val := v, clock := c }) ∧ (d.base + 4 = off) ∧ (w ≠ ~~~ v) ∧ (s.clock < c + 65) :=
  ⟨({ bench 2 with acc := { gp := some { path := .sideband, off := Reg.GRD_TESTG 0, val := 5, clock := 0 } } }),
    .sideband, (Reg.GRD_TESTG 1), 5, 6, (descOf (Reg.GRD_TESTG 0)), 0, by decide +kernel⟩

theorem witness_ComplementPairs_4 :
    ∃ (s : State) (p : Path) (off : Nat) (w : Word) (d : RegDesc), (s.inReset = false) ∧ (writeRefused s p (off) =
      false) ∧ (isGp off = true) ∧ (canonOff off = off) ∧ (windowOf off = none) ∧ (off ≠ Reg.GRD_KEY) ∧ (flashBarred s
      p off = false) ∧ (off ≠ gpBase off) ∧ (regDesc off = some d) ∧ (d.guard = .gp) ∧ (s.acc.gp = none) :=
  ⟨(bench 2), .sideband, (Reg.GRD_TESTG 1), 6, (descOf (Reg.GRD_TESTG 0)), by decide +kernel⟩

theorem witness_ComplementPairs_5 :
    ∃ (s : State) (g : GpSeq), (s.inReset = false) ∧ (s.acc.gp = some g) ∧ (g.clock + 65 ≤ s.clock) :=
  ⟨({ bench 2 with clock := 65, acc := { gp := some { path := .sideband, off := Reg.GRD_TESTG 0, val := 5, clock := 0 } } }),
    { path := .sideband, off := Reg.GRD_TESTG 0, val := 5, clock := 0 }, by decide +kernel⟩

theorem witness_ComplementPairs_6 :
    ∃ (s : State) (g : GpSeq), (s.inReset = false) ∧ (s.acc.gp = some g) ∧ (s.clock < g.clock + 65) :=
  ⟨({ bench 2 with clock := 64, acc := { gp := some { path := .sideband, off := Reg.GRD_TESTG 0, val := 5, clock := 0 } } }),
    { path := .sideband, off := Reg.GRD_TESTG 0, val := 5, clock := 0 }, by decide +kernel⟩

theorem witness_KeyGuardArmsAndConsumes_1 :
    ∃ (s : State) (p : Path), (s.inReset = false) ∧ (writeRefused s p (Reg.GRD_KEY) = false) ∧ (s.acc.gp = none) :=
  ⟨(bench 2), (.host 0), by decide +kernel⟩

theorem witness_KeyGuardArmsAndConsumes_2 :
    ∃ (s : State) (p : Path) (v : Word), (s.inReset = false) ∧ (writeRefused s p (Reg.GRD_KEY) = false) ∧ (s.acc.gp =
      none) ∧ (v ≠ keyValue) :=
  ⟨(bench 2), (.host 0), 0, by decide +kernel⟩

theorem witness_KeyGuardArmsAndConsumes_3 :
    ∃ (s : State) (p : Path) (off : Nat) (eff : State → State), (s.acc.gp = none) ∧ (keyArmed s p = true) :=
  ⟨({ bench 2 with acc := { keys := [(.host 0, 0)] } }), (.host 0), Reg.SEC_EPHEM, id, by decide +kernel⟩

theorem witness_KeyGuardArmsAndConsumes_4 :
    ∃ (s : State) (p : Path) (off : Nat) (eff : State → State), (s.acc.gp = none) ∧ (keyArmed s p = false) :=
  ⟨(bench 2), (.host 0), Reg.SEC_EPHEM, id, by decide +kernel⟩

theorem witness_KeyGuardArmsAndConsumes_5 :
    ∃ (s : State) (p : Path) (c : Nat), (ExpiryActs s 1 (some (c + 65536))) ∧ (s.inReset = false) ∧ (keyClock
      s.acc.keys p = some c) ∧ (c + 65536 ≤ s.clock) :=
  ⟨({ bench 2 with clock := 65537, acc := { keys := [(.host 0, 0)] } }), (.host 0), 0, by decide +kernel⟩

theorem witness_KeyGuardArmsAndConsumes_6 :
    ∃ (s : State) (p : Path) (c : Nat), (ExpiryActs s 1 (some (c + 65536))) ∧ (s.inReset = false) ∧ (keyClock
      s.acc.keys p = some c) ∧ (s.clock < c + 65536) :=
  ⟨({ bench 2 with clock := 65535, acc := { keys := [(.host 0, 0)] } }), (.host 0), 0, by decide +kernel⟩

theorem witness_IndirectWindowAccesses_1 :
    ∃ (s : State) (p : Path) (n : Fin 4) (v : Word), (s.inReset = false) ∧ (writeRefused s p (Reg.IDX_ADDR n) = false)
      ∧ ((winOf s n).held = none) :=
  ⟨(bench 2), (.core 0 false), 2, 5, by decide +kernel⟩

theorem witness_IndirectWindowAccesses_2 :
    ∃ (s : State) (p : Path) (n : Fin 4), (s.inReset = false) ∧ (readRefused s p (Reg.IDX_DATA n) = false) ∧ (winOf s
      n = {}) ∧ (bit (s.reg (Reg.IDX_ADDR n)) 27 = false) ∧ (fld (s.reg (Reg.IDX_ADDR n)) 31 28 = 2) ∧ (pkgWordAt (fld
      (s.reg (Reg.IDX_ADDR n)) 23 0) = true) ∧ (s.slot.dead = false) ∧ (readyD2d s 2 = true) :=
  ⟨(((bench 2).setReg Reg.RDY_4 0x04000000).setReg (Reg.IDX_ADDR 2) 0x20001000), (.core 0 false), 2,
    by decide +kernel⟩

theorem witness_IndirectWindowAccesses_3 :
    ∃ (s : State) (p : Path) (n : Fin 4), (s.inReset = false) ∧ (readRefused s p (Reg.IDX_DATA n) = false) ∧ (winOf s
      n = {}) ∧ (bit (s.reg (Reg.IDX_ADDR n)) 27 = false) ∧ (winAbsent s n (fld (s.reg (Reg.IDX_ADDR n)) 31 28) (fld
      (s.reg (Reg.IDX_ADDR n)) 23 0) = true) :=
  ⟨((bench 2).setReg (Reg.IDX_ADDR 2) 0xF0001000), (.core 0 false), 2, by decide +kernel⟩

theorem witness_IndirectWindowAccesses_4 :
    ∃ (s : State) (p : Path) (n : Fin 4) (v : Word), (s.inReset = false) ∧ (writeRefused s p (Reg.IDX_DATA n) = false)
      ∧ (winOf s n = {}) ∧ (bit (s.reg (Reg.IDX_ADDR n)) 27 = false) ∧ (bit (s.reg (Reg.IDX_ADDR n)) 26 = false) ∧
      (fld (s.reg (Reg.IDX_ADDR n)) 31 28 = 2) ∧ (s.slot.dead = false) ∧ (readyD2d s 2 = true) :=
  ⟨(((bench 2).setReg Reg.RDY_4 0x04000000).setReg (Reg.IDX_ADDR 2) 0x20001000), (.core 0 false), 2, 9,
    by decide +kernel⟩

theorem witness_IndirectWindowAccesses_5 :
    ∃ (s : State) (p : Path) (n : Fin 4) (v : Word), (s.inReset = false) ∧ (writeRefused s p (Reg.IDX_DATA n) = false)
      ∧ (winOf s n = {}) ∧ (bit (s.reg (Reg.IDX_ADDR n)) 26 = true) :=
  ⟨((bench 2).setReg (Reg.IDX_ADDR 2) 0x14000004), (.core 0 false), 2, 9, by decide +kernel⟩

theorem witness_IndirectWindowAccesses_6 :
    ∃ (s : State) (n : Fin 4) (a : WinAcc), (s.inReset = false) ∧ (winOf s n = { busy := some a }) ∧ (a.target = 2) ∧
      (pkgWordAt a.waddr = true) ∧ (s.slot.dead = false) ∧ (readyD2d s 2 = true) :=
  ⟨({ (bench 2).setReg Reg.RDY_4 0x04000000 with acc := { win := [(2, { busy := some { path := .core 0 false, target := 2, waddr := 0x1000, pair := false, write := true, val := 7, pairC := none, rd := none } })] } }),
    2,
    { path := .core 0 false, target := 2, waddr := 0x1000, pair := false, write := true, val := 7, pairC := none, rd := none },
    by decide +kernel⟩

theorem witness_IndirectWindowAccesses_7 :
    ∃ (s : State) (n : Fin 4) (p : Path) (v : Word) (c : Nat), (ExpiryActs s 1 (some (c + 65536))) ∧ (s.inReset =
      false) ∧ (winOf s n = { held := some (p, v, c) }) ∧ (c + 65536 ≤ s.clock) :=
  ⟨({ bench 2 with clock := 65537, acc := { win := [(2, { held := some (.core 0 false, 1, 0) })] } }), 2, (.core 0
    false), 1, 0, by decide +kernel⟩

theorem witness_ModeRequestsStartTransitions_1 :
    ∃ (s : State) (p : Path), (MayWriteGk s p Reg.GEN_MODEREQ) ∧ (s.mode.trans = none) ∧ ((requested s p 1).changing =
      false) ∧ ((requested s p 1).code = Mode.safe) ∧ (lcAllows (requested s p 1) 1 = true) ∧ (stickyOfClass
      (requested s p 1) 5 = false) ∧ (readySec (requested s p 1) = true) :=
  ⟨({ ((bench 7).setReg Reg.SEC_STATE 0x40000000).setReg Reg.RDY_4 0x20000000 with acc := { keys := [(.sideband, 0)] } }),
    .sideband, by decide +kernel⟩

theorem witness_ModeRequestsStartTransitions_2 :
    ∃ (s : State) (p : Path), (MayWriteGk s p Reg.GEN_MODEREQ) ∧ (s.mode.trans = none) ∧ ((requested s p 1).changing =
      false) ∧ ((requested s p 1).code = Mode.safe) ∧ (lcAllows (requested s p 1) 1 = true) ∧ (readySec (requested s p
      1) = false) :=
  ⟨({ (bench 7).setReg Reg.SEC_STATE 0x40000000 with acc := { keys := [(.sideband, 0)] } }), .sideband,
    by decide +kernel⟩

theorem witness_ModeRequestsStartTransitions_3 :
    ∃ (s : State) (p : Path), (MayWriteGk s p Reg.GEN_MODEREQ) ∧ (s.mode.trans = none) ∧ ((requested s p 2).changing =
      false) ∧ ((requested s p 2).code = Mode.rise) ∧ (lcAllows (requested s p 2) 2 = true) ∧ (enabledReady (requested
      s p 2) = true) :=
  ⟨({ (((((bench 1).setReg Reg.SEC_STATE 0x40000000).setReg Reg.RDY_4 0x7FFFFFFF).setReg Reg.RDY_5 0x1FFFF).setReg Reg.CRY_UNITEN 0).setReg Reg.CRY_XEEN 0 with acc := { keys := [(.sideband, 0)] } }),
    .sideband, by decide +kernel⟩

theorem witness_ModeRequestsStartTransitions_4 :
    ∃ (s : State) (p : Path), (MayWriteGk s p Reg.GEN_MODEREQ) ∧ (s.mode.trans = none) ∧ ((requested s p 2).changing =
      false) ∧ ((requested s p 2).code = Mode.drain) ∧ (lcAllows (requested s p 2) 2 = true) :=
  ⟨({ (bench 4).setReg Reg.SEC_STATE 0x40000000 with acc := { keys := [(.sideband, 0)] } }), .sideband,
    by decide +kernel⟩

theorem witness_ModeRequestsStartTransitions_5 :
    ∃ (s : State) (p : Path), (MayWriteGk s p Reg.GEN_MODEREQ) ∧ (s.mode.trans = none) ∧ ((requested s p 2).changing =
      false) ∧ ((requested s p 2).code = Mode.hold) ∧ (lcAllows (requested s p 2) 2 = true) :=
  ⟨({ (bench 5).setReg Reg.SEC_STATE 0x40000000 with acc := { keys := [(.sideband, 0)] } }), .sideband,
    by decide +kernel⟩

theorem witness_ModeRequestsStartTransitions_6 :
    ∃ (s : State) (p : Path), (MayWriteGk s p Reg.GEN_MODEREQ) ∧ (s.mode.trans = none) ∧ ((requested s p 4).changing =
      false) ∧ ((requested s p 4).code = Mode.run) ∧ (lcAllows (requested s p 4) 4 = true) :=
  ⟨({ (bench 2).setReg Reg.SEC_STATE 0x40000000 with acc := { keys := [(.sideband, 0)] } }), .sideband,
    by decide +kernel⟩

theorem witness_ModeRequestsStartTransitions_7 :
    ∃ (s : State) (p : Path), (MayWriteGk s p Reg.GEN_MODEREQ) ∧ (s.mode.trans = none) ∧ ((requested s p 5).changing =
      false) ∧ ((requested s p 5).code = Mode.run) ∧ (lcAllows (requested s p 5) 5 = true) :=
  ⟨({ (bench 2).setReg Reg.SEC_STATE 0x40000000 with acc := { keys := [(.sideband, 0)] } }), .sideband,
    by decide +kernel⟩

theorem witness_ModeRequestsStartTransitions_8 :
    ∃ (s : State) (p : Path), (MayWriteGk s p Reg.GEN_MODEREQ) ∧ (s.mode.trans = none) ∧ ((requested s p 6).changing =
      false) ∧ ((requested s p 6).code = Mode.run) ∧ (lcAllows (requested s p 6) 6 = true) ∧ (extentsFree (requested s
      p 6) = true) ∧ ((requested s p 6).fld Reg.POOL_STAT 31 29 = 0) :=
  ⟨({ (bench 2).setReg Reg.SEC_STATE 0x40000000 with acc := { keys := [(.sideband, 0)] } }), .sideband,
    by decide +kernel⟩

theorem witness_ModeRequestsStartTransitions_9 :
    ∃ (s : State) (p : Path) (k : Fin 8), (k = 0 ∨ k = 3 ∨ k = 7) ∧ (MayWriteGk s p Reg.GEN_MODEREQ) ∧ (s.mode.trans =
      none) ∧ ((requested s p k).changing = false) ∧ ((requested s p k).code ≠ Mode.test) :=
  ⟨({ (bench 2).setReg Reg.SEC_STATE 0x40000000 with acc := { keys := [(.sideband, 0)] } }), .sideband, 3,
    by decide +kernel⟩

theorem witness_ModeRequestsStartTransitions_10 :
    ∃ (s : State) (p : Path) (t : Trans), (MayWriteGk s p Reg.GEN_MODEREQ) ∧ (s.mode.trans = some t) ∧ (t.react =
      false ∨ t.since ≠ s.clock) :=
  ⟨{ ((bench 2).setReg Reg.SEC_STATE 0x40000000).setBit Reg.GEN_MODE 8 true with mode := { trans := some { goal := 4, req := true, kind := 0, ends := 0 } }, acc := { keys := [(.sideband, 0)] } },
    .sideband, { goal := 4, req := true, kind := 0, ends := 0 }, by decide +kernel⟩

theorem witness_ModeRequestsStartTransitions_11 :
    ∃ (s : State) (t : Trans), (s.mode.trans = some t) ∧ (t.react = true) ∧ (t.since = s.clock) :=
  ⟨({ bench 2 with mode := { trans := some { goal := 3, req := false, kind := 0, ends := 0, react := true } } }),
    { goal := 3, req := false, kind := 0, ends := 0, react := true }, by decide +kernel⟩

theorem witness_ModeRequestsStartTransitions_12 :
    ∃ (s : State) (p : Path) (k : Fin 8), (MayWriteGk s p Reg.GEN_MODEREQ) ∧ ((requested s p k).changing = false) ∧
      ((requested s p k).code = Mode.test) :=
  ⟨({ (bench 6).setReg Reg.SEC_STATE 0x40000000 with acc := { keys := [(.sideband, 0)] } }), .sideband, 3,
    by decide +kernel⟩

theorem witness_TransitionsEndAndTimeOut_1 :
    ∃ (s : State) (t : Trans), (s.mode.trans = some t) ∧ (t.kind = 0) ∧ (t.goal ≠ Mode.rise) ∧ (s.code ≠ Mode.hold) :=
  ⟨({ bench 2 with mode := { trans := some { goal := 3, req := true, kind := 0, ends := 0 } } }),
    { goal := 3, req := true, kind := 0, ends := 0 }, by decide +kernel⟩

theorem witness_TransitionsEndAndTimeOut_2 :
    ∃ (s : State) (t : Trans), (s.mode.trans = some t) ∧ (t.kind = 1) ∧ (s.coh.txns = []) ∧ ((endTrans (selfRefreshAll
      s true (List.range 24)) t).mode.limitOwed = false) ∧ ((endTrans (selfRefreshAll s true (List.range 24))
      t).sec.activate = 0) :=
  ⟨({ bench 2 with mode := { trans := some { goal := 5, req := true, kind := 1, ends := 0 } } }),
    { goal := 5, req := true, kind := 1, ends := 0 }, by decide +kernel⟩

theorem witness_TransitionsEndAndTimeOut_3 :
    ∃ (s : State) (t : Trans), (s.mode.trans = some t) ∧ (t.kind = 2) :=
  ⟨({ bench 5 with mode := { trans := some { goal := 2, req := true, kind := 2, ends := 0 } } }),
    { goal := 2, req := true, kind := 2, ends := 0 }, by decide +kernel⟩

theorem witness_TransitionsEndAndTimeOut_4 :
    ∃ (s : State) (t : Trans), (t.goal < 8) ∧ (s.mode.trimOwed = false) :=
  ⟨({ bench 2 with mode := { trans := some { goal := 7, req := true, kind := 0, ends := 0 } } }),
    { goal := 7, req := true, kind := 0, ends := 0 }, by decide +kernel⟩

theorem witness_TransitionsEndAndTimeOut_5 :
    ∃ (s : State), (ExpiryActs s 1 (limitDue s)) ∧ (limitPassed s = true) ∧ (s.mode.trans = none) ∧ (s.code =
      Mode.hold) ∧ (s.mode.step = none) :=
  ⟨({ bench 5 with clock := 2500000000, mode := { holdFrom := some 0 } }), by decide +kernel⟩

theorem witness_TransitionsEndAndTimeOut_6 :
    ∃ (s : State) (t : Trans), (ExpiryActs s 1 (limitDue s)) ∧ (limitPassed s = true) ∧ (s.mode.trans = some t) ∧
      (t.kind = 1) :=
  ⟨({ bench 2 with clock := 2500000000, mode := { holdFrom := some 0, trans := some { goal := 5, req := true, kind := 1, ends := 0 } } }),
    { goal := 5, req := true, kind := 1, ends := 0 }, by decide +kernel⟩

theorem witness_TransitionsEndAndTimeOut_7 :
    ∃ (s : State), (ExpiryActs s 1 (limitDue s)) ∧ (limitPassed s = false) :=
  ⟨(bench 5), by decide +kernel⟩

theorem witness_TransitionsEndAndTimeOut_8 :
    ∃ (s : State) (p : Path) (v : Word), (MayWrite s p Reg.GEN_HOLDLIM) :=
  ⟨(bench 2), .sideband, 60000, by decide +kernel⟩

theorem witness_TransitionsEndAndTimeOut_9 :
    ∃ (s : State) (c : Nat), (ExpiryActs s 1 (some c)) ∧ (s.mode.safecapEnd = some c) ∧ (c ≤ s.clock) :=
  ⟨({ bench 2 with clock := 1, mode := { safecapEnd := some 0 } }), 0, by decide +kernel⟩

theorem witness_TransitionsEndAndTimeOut_10 :
    ∃ (s : State) (c : Nat), (ExpiryActs s 1 (some c)) ∧ (s.mode.safecapEnd = some c) ∧ (s.clock < c) :=
  ⟨({ bench 2 with mode := { safecapEnd := some 1 } }), 1, by decide +kernel⟩

theorem witness_ResetsStart_1 :
    ∃ (s : State) (c : Fin 8), (c.val ≤ 2) :=
  ⟨(bench 2), 2, by decide +kernel⟩

theorem witness_ResetsStart_2 :
    ∃ (s : State) (c : Fin 8), (3 ≤ c.val ∧ c.val ≤ 5) :=
  ⟨(bench 2), 4, by decide +kernel⟩

theorem witness_ResetsStart_3 :
    ∃ (s : State) (p : Path), (MayWriteGk s p Reg.GEN_RST) :=
  ⟨({ bench 2 with acc := { keys := [(.sideband, 0)] } }), .sideband, by decide +kernel⟩

theorem witness_ResetsStart_4 :
    ∃ (s : State) (p : Path), (MayWriteGk s p Reg.GEN_RST) :=
  ⟨({ bench 2 with acc := { keys := [(.sideband, 0)] } }), .sideband, by decide +kernel⟩

theorem witness_ResetsStart_5 :
    ∃ (s : State) (n : Nat), (25000 ≤ n) :=
  ⟨(bench 2), 25000, by decide +kernel⟩

theorem witness_ResetsStart_6 :
    ∃ (s : State) (n : Nat), (n < 20000) :=
  ⟨(bench 2), 19999, by decide +kernel⟩

theorem witness_ResetsStart_7 :
    ∃ (s : State) (c : Nat), (s.mode.resetLow = some c) ∧ (s.mode.supplyLow = false) :=
  ⟨({ bench 0 with mode := { resetLow := some 0 } }), 0, by decide +kernel⟩

theorem witness_ResetsStart_8 :
    ∃ (s : State) (n : Nat), (5000 ≤ n) :=
  ⟨(bench 2), 5000, by decide +kernel⟩

theorem witness_ResetsStart_9 :
    ∃ (s : State), (s.mode.supplyLow = true) ∧ (s.mode.resetLow = none) :=
  ⟨({ bench 0 with mode := { supplyLow := true } }), by decide +kernel⟩

theorem witness_ResetsLeaveTheirRegisters_1 :
    ∃ (s : State) (cold : Bool) (cause off : Nat), (off ∉ [Reg.GEN_RSTCAUSE, Reg.SEC_STATE, Reg.SEC_KEYSTAT,
      Reg.SEC_ARBCNT, Reg.GEN_FUSESTAT]) :=
  ⟨(bench 2), false, 3, Reg.GEN_HOSTACC, by decide +kernel⟩

theorem witness_ResetsLeaveTheirRegisters_2 :
    ∃ (s : State) (cold : Bool) (cause : Nat), (cause < 8) :=
  ⟨(bench 2), false, 3, by decide +kernel⟩

theorem witness_BitternPhases_1 :
    ∃ (s : State), (s.code = Mode.boot) ∧ (s.inReset = false) ∧ (s.wipe.keysDone = false) :=
  ⟨State.reset, by decide +kernel⟩

theorem witness_BitternPhases_2 :
    ∃ (s : State), (s.inReset = false) ∧ (s.wipe.keysDone = true) ∧ (s.wipe.sramDone = false) ∧ (s.flt.early.any (fun
      e => decide (e.1 = Src.otpRead)) = false) :=
  ⟨({ State.reset with wipe := { keysDone := true } }), by decide +kernel⟩

theorem witness_BitternPhases_3 :
    ∃ (s u : State) (n : Fin 24) (b : Nat), ((setWipe s n).phase = 3) ∧ (nextBlock (setWipe s n) (mapBlocks s n) =
      some b) ∧ (u = putWipe (charge s false 254 1024 .amber) n
      { setWipe (charge s false 254 1024 .amber) n with blocks := (setWipe (charge s false 254 1024 .amber) n).blocks ++ [b] }) :=
  ⟨(oneSet 3), _, 0, 0, by decide +kernel, by decide +kernel, rfl⟩

theorem witness_BitternPhases_4 :
    ∃ (s : State) (n : Fin 24), ((setWipe s n).phase = 3) ∧ (nextBlock (setWipe s n) (mapBlocks s n) = none) :=
  ⟨({ bench 2 with wipe := { keysDone := true, sramDone := true, sets := [(0, { phase := 3 })] } }), 0,
    by decide +kernel⟩

theorem witness_BitternPhases_5 :
    ∃ (s u : State) (n : Fin 24) (k : Nat), ((setWipe s n).phase = 4) ∧ ((setWipe s n).front + k ≤ setCapacity s n /
      1024) ∧ (u = zeroise s n (1024 * (setWipe s n).front) (1024 * ((setWipe s n).front + k))) :=
  ⟨({ bench 2 with wipe := { keysDone := true, sramDone := true, sets := [(0, { phase := 4 })] } }), _, 0, 0,
    by decide +kernel, by decide +kernel, rfl⟩

theorem witness_BitternPhases_6 :
    ∃ (s : State) (n : Fin 24), ((setWipe s n).phase = 4) ∧ (setCapacity s n / 1024 ≤ (setWipe s n).front) :=
  ⟨({ bench 2 with wipe := { keysDone := true, sramDone := true, sets := [(0, { phase := 4 })] } }), 0,
    by decide +kernel⟩

theorem witness_BitternPhases_7 :
    ∃ (s : State) (n : Fin 24), (needsMet s n = true) ∧ (setServable s n = false) ∧ ((setWipe s n).phase = 5) :=
  ⟨(oneSet 5), 0, by decide +kernel⟩

theorem witness_IntegerInstructions_1 :
    ∃ (s : State) (c : Fin 16) (rd rs1 rs2 : Fin 32) (a b : DWord), (Issuing s c) ∧ (getT s c rs1 = a) ∧ (getT s c rs2
      = b) :=
  ⟨(cored {}), 3, 5, 6, 7, 0, 0, by decide +kernel⟩

theorem witness_IntegerInstructions_2 :
    ∃ (s : State) (c : Fin 16) (rd rs1 rs2 : Fin 32) (a b : DWord), (Issuing s c) ∧ (getT s c rs1 = a) ∧ (getT s c rs2
      = b) :=
  ⟨(cored {}), 3, 5, 6, 7, 0, 0, by decide +kernel⟩

theorem witness_IntegerInstructions_3 :
    ∃ (s : State) (c : Fin 16) (rd rs1 rs2 : Fin 32) (a b : DWord), (Issuing s c) ∧ (getT s c rs1 = a) ∧ (getT s c rs2
      = b) :=
  ⟨(cored {}), 3, 5, 6, 7, 0, 0, by decide +kernel⟩

theorem witness_IntegerInstructions_4 :
    ∃ (s : State) (c : Fin 16) (rd rs1 rs2 : Fin 32) (a b : DWord), (Issuing s c) ∧ (getT s c rs1 = a) ∧ (getT s c rs2
      = b) :=
  ⟨(cored {}), 3, 5, 6, 7, 0, 0, by decide +kernel⟩

theorem witness_IntegerInstructions_5 :
    ∃ (s : State) (c : Fin 16) (rd rs1 rs2 : Fin 32) (a b : DWord), (Issuing s c) ∧ (getT s c rs1 = a) ∧ (getT s c rs2
      = b) :=
  ⟨(cored {}), 3, 5, 6, 7, 0, 0, by decide +kernel⟩

theorem witness_IntegerInstructions_6 :
    ∃ (s : State) (c : Fin 16) (rd rs1 rs2 : Fin 32) (a b : DWord), (Issuing s c) ∧ (getT s c rs1 = a) ∧ (getT s c rs2
      = b) :=
  ⟨(cored {}), 3, 5, 6, 7, 0, 0, by decide +kernel⟩

theorem witness_IntegerInstructions_7 :
    ∃ (s : State) (c : Fin 16) (rd rs1 rs2 : Fin 32) (a b : DWord), (Issuing s c) ∧ (getT s c rs1 = a) ∧ (getT s c rs2
      = b) :=
  ⟨(cored {}), 3, 5, 6, 7, 0, 0, by decide +kernel⟩

theorem witness_IntegerInstructions_8 :
    ∃ (s : State) (c : Fin 16) (rd rs1 rs2 : Fin 32) (a b : DWord), (Issuing s c) ∧ (getT s c rs1 = a) ∧ (getT s c rs2
      = b) :=
  ⟨(cored {}), 3, 5, 6, 7, 0, 0, by decide +kernel⟩

theorem witness_IntegerInstructions_9 :
    ∃ (s : State) (c : Fin 16) (rd rs1 rs2 : Fin 32) (a b : DWord), (Issuing s c) ∧ (getT s c rs1 = a) ∧ (getT s c rs2
      = b) :=
  ⟨(cored {}), 3, 5, 6, 7, 0, 0, by decide +kernel⟩

theorem witness_IntegerInstructions_10 :
    ∃ (s : State) (c : Fin 16) (rd rs1 rs2 : Fin 32) (a b : DWord), (Issuing s c) ∧ (getT s c rs1 = a) ∧ (getT s c rs2
      = b) :=
  ⟨(cored {}), 3, 5, 6, 7, 0, 0, by decide +kernel⟩

theorem witness_IntegerInstructions_11 :
    ∃ (s : State) (c : Fin 16) (rd rs1 rs2 : Fin 32) (a b : DWord), (Issuing s c) ∧ (getT s c rs1 = a) ∧ (getT s c rs2
      = b) :=
  ⟨(cored {}), 3, 5, 6, 7, 0, 0, by decide +kernel⟩

theorem witness_IntegerInstructions_12 :
    ∃ (s : State) (c : Fin 16) (rd rs1 rs2 : Fin 32) (a b : DWord), (Issuing s c) ∧ (getT s c rs1 = a) ∧ (getT s c rs2
      = b) :=
  ⟨(cored {}), 3, 5, 6, 7, 0, 0, by decide +kernel⟩

theorem witness_IntegerInstructions_13 :
    ∃ (s : State) (c : Fin 16) (rd rs1 rs2 : Fin 32) (a b : DWord), (Issuing s c) ∧ (getT s c rs1 = a) ∧ (getT s c rs2
      = b) :=
  ⟨(cored {}), 3, 5, 6, 7, 0, 0, by decide +kernel⟩

theorem witness_IntegerInstructions_14 :
    ∃ (s : State) (c : Fin 16) (rd rs1 rs2 : Fin 32) (a b : DWord), (Issuing s c) ∧ (getT s c rs1 = a) ∧ (getT s c rs2
      = b) :=
  ⟨(cored {}), 3, 5, 6, 7, 0, 0, by decide +kernel⟩

theorem witness_IntegerInstructions_15 :
    ∃ (s : State) (c : Fin 16) (rd rs1 rs2 : Fin 32) (a b : DWord), (Issuing s c) ∧ (getT s c rs1 = a) ∧ (getT s c rs2
      = b) :=
  ⟨(cored {}), 3, 5, 6, 7, 0, 0, by decide +kernel⟩

theorem witness_IntegerInstructions_16 :
    ∃ (s : State) (c : Fin 16) (rd rs1 rs2 : Fin 32) (a b : DWord), (Issuing s c) ∧ (getT s c rs1 = a) ∧ (getT s c rs2
      = b) :=
  ⟨(cored {}), 3, 5, 6, 7, 0, 0, by decide +kernel⟩

theorem witness_IntegerInstructions_17 :
    ∃ (s : State) (c : Fin 16) (rd rs1 rs2 : Fin 32) (a b : DWord), (Issuing s c) ∧ (getT s c rs1 = a) ∧ (getT s c rs2
      = b) :=
  ⟨(cored {}), 3, 5, 6, 7, 0, 0, by decide +kernel⟩

theorem witness_IntegerInstructions_18 :
    ∃ (s : State) (c : Fin 16) (rd rs1 rs2 : Fin 32) (a b : DWord), (Issuing s c) ∧ (getT s c rs1 = a) ∧ (getT s c rs2
      = b) :=
  ⟨(cored {}), 3, 5, 6, 7, 0, 0, by decide +kernel⟩

theorem witness_IntegerInstructions_19 :
    ∃ (s : State) (c : Fin 16) (rd rs1 rs2 : Fin 32) (a b : DWord), (Issuing s c) ∧ (getT s c rs1 = a) ∧ (getT s c rs2
      = b) :=
  ⟨(cored {}), 3, 5, 6, 7, 0, 0, by decide +kernel⟩

theorem witness_IntegerInstructions_20 :
    ∃ (s : State) (c : Fin 16) (rd rs1 rs2 : Fin 32) (a b : DWord), (Issuing s c) ∧ (getT s c rs1 = a) ∧ (getT s c rs2
      = b) :=
  ⟨(cored {}), 3, 5, 6, 7, 0, 0, by decide +kernel⟩

theorem witness_IntegerInstructions_21 :
    ∃ (s : State) (c : Fin 16) (rd rs1 rs2 : Fin 32) (a b : DWord), (Issuing s c) ∧ (getT s c rs1 = a) ∧ (getT s c rs2
      = b) :=
  ⟨(cored {}), 3, 5, 6, 7, 0, 0, by decide +kernel⟩

theorem witness_IntegerInstructions_22 :
    ∃ (s : State) (c : Fin 16) (rd rs1 : Fin 32) (a : DWord), (Issuing s c) ∧ (getT s c rs1 = a) :=
  ⟨(cored {}), 3, 5, 6, 0, by decide +kernel⟩

theorem witness_IntegerInstructions_23 :
    ∃ (s : State) (c : Fin 16) (rd rs1 : Fin 32) (a : DWord), (Issuing s c) ∧ (getT s c rs1 = a) :=
  ⟨(cored {}), 3, 5, 6, 0, by decide +kernel⟩

theorem witness_IntegerInstructions_24 :
    ∃ (s : State) (c : Fin 16) (rd rs1 : Fin 32) (a : DWord), (Issuing s c) ∧ (getT s c rs1 = a) :=
  ⟨(cored {}), 3, 5, 6, 0, by decide +kernel⟩

theorem witness_IntegerInstructions_25 :
    ∃ (s : State) (c : Fin 16) (rd rs1 : Fin 32) (i : BitVec 16) (a : DWord), (Issuing s c) ∧ (getT s c rs1 = a) :=
  ⟨(cored {}), 3, 5, 6, 7, 0, by decide +kernel⟩

theorem witness_IntegerInstructions_26 :
    ∃ (s : State) (c : Fin 16) (rd rs1 : Fin 32) (i : BitVec 16) (a : DWord), (Issuing s c) ∧ (getT s c rs1 = a) :=
  ⟨(cored {}), 3, 5, 6, 7, 0, by decide +kernel⟩

theorem witness_IntegerInstructions_27 :
    ∃ (s : State) (c : Fin 16) (rd rs1 : Fin 32) (i : BitVec 16) (a : DWord), (Issuing s c) ∧ (getT s c rs1 = a) :=
  ⟨(cored {}), 3, 5, 6, 7, 0, by decide +kernel⟩

theorem witness_IntegerInstructions_28 :
    ∃ (s : State) (c : Fin 16) (rd rs1 : Fin 32) (i : BitVec 16) (a : DWord), (Issuing s c) ∧ (getT s c rs1 = a) :=
  ⟨(cored {}), 3, 5, 6, 7, 0, by decide +kernel⟩

theorem witness_IntegerInstructions_29 :
    ∃ (s : State) (c : Fin 16) (rd rs1 : Fin 32) (i : BitVec 16) (a : DWord), (Issuing s c) ∧ (getT s c rs1 = a) :=
  ⟨(cored {}), 3, 5, 6, 7, 0, by decide +kernel⟩

theorem witness_IntegerInstructions_30 :
    ∃ (s : State) (c : Fin 16) (rd rs1 : Fin 32) (i : BitVec 16) (a : DWord), (Issuing s c) ∧ (getT s c rs1 = a) :=
  ⟨(cored {}), 3, 5, 6, 7, 0, by decide +kernel⟩

theorem witness_IntegerInstructions_31 :
    ∃ (s : State) (c : Fin 16) (rd rs1 : Fin 32) (i : BitVec 16) (a : DWord), (Issuing s c) ∧ (getT s c rs1 = a) :=
  ⟨(cored {}), 3, 5, 6, 7, 0, by decide +kernel⟩

theorem witness_IntegerInstructions_32 :
    ∃ (s : State) (c : Fin 16) (rd rs1 : Fin 32) (n : Fin 64) (a : DWord), (Issuing s c) ∧ (getT s c rs1 = a) :=
  ⟨(cored {}), 3, 5, 6, 7, 0, by decide +kernel⟩

theorem witness_IntegerInstructions_33 :
    ∃ (s : State) (c : Fin 16) (rd rs1 : Fin 32) (n : Fin 64) (a : DWord), (Issuing s c) ∧ (getT s c rs1 = a) :=
  ⟨(cored {}), 3, 5, 6, 7, 0, by decide +kernel⟩

theorem witness_IntegerInstructions_34 :
    ∃ (s : State) (c : Fin 16) (rd rs1 : Fin 32) (n : Fin 64) (a : DWord), (Issuing s c) ∧ (getT s c rs1 = a) :=
  ⟨(cored {}), 3, 5, 6, 7, 0, by decide +kernel⟩

theorem witness_IntegerInstructions_35 :
    ∃ (s : State) (c : Fin 16) (rd : Fin 32) (i : BitVec 16), (Issuing s c) :=
  ⟨(cored {}), 3, 5, 7, by decide +kernel⟩

theorem witness_DivisionCorners_1 :
    ∃ (s : State) (c : Fin 16) (rd rs1 rs2 : Fin 32) (a b : DWord), (Issuing s c) ∧ (getT s c rs1 = a) ∧ (getT s c rs2
      = b) :=
  ⟨(cored {}), 3, 5, 6, 7, 0, 0, by decide +kernel⟩

theorem witness_DivisionCorners_2 :
    ∃ (a b : DWord), (b ≠ 0) :=
  ⟨7, 2, by decide +kernel⟩

theorem witness_DivisionCorners_3 :
    ∃ (a b : DWord), (b ≠ 0) ∧ (a ≠ BitVec.intMin 64 ∨ b ≠ -1#64) :=
  ⟨7, 2, by decide +kernel⟩

theorem witness_ProductHalvesAndBitCounts_1 :
    ∃ (a : DWord), (a ≠ 0) :=
  ⟨1, by decide +kernel⟩

theorem witness_ProductHalvesAndBitCounts_2 :
    ∃ (a : DWord), (a ≠ 0) :=
  ⟨6, by decide +kernel⟩

theorem witness_InstructionEndFrame_1 :
    ∃ (s : State) (n m : Nat) (rd q : Fin 32) (v : DWord), (q ≠ rd ∨ m ≠ n) :=
  ⟨(cored {}), 3, 3, 5, 6, 7, by decide +kernel⟩

theorem witness_InstructionEndFrame_2 :
    ∃ (s : State) (n m : Nat) (rd : Fin 32) (v : DWord), (m ≠ n) :=
  ⟨(cored {}), 3, 4, 5, 6, by decide +kernel⟩

theorem witness_BranchesAndJumps_1 :
    ∃ (s : State) (c : Fin 16) (rs1 rs2 : Fin 32) (off : BitVec 16) (a b : DWord), (Issuing s c) ∧ (getT s c rs1 = a)
      ∧ (getT s c rs2 = b) ∧ (a = b) :=
  ⟨(cored { t := [] }), 3, 5, 6, 7, 0, 0, by decide +kernel⟩

theorem witness_BranchesAndJumps_2 :
    ∃ (s : State) (c : Fin 16) (rs1 rs2 : Fin 32) (off : BitVec 16) (a b : DWord), (Issuing s c) ∧ (getT s c rs1 = a)
      ∧ (getT s c rs2 = b) ∧ (a ≠ b) :=
  ⟨(cored { t := [(6, 1)] }), 3, 5, 6, 7, 0, 1, by decide +kernel⟩

theorem witness_BranchesAndJumps_3 :
    ∃ (s : State) (c : Fin 16) (rs1 rs2 : Fin 32) (off : BitVec 16) (a b : DWord), (Issuing s c) ∧ (getT s c rs1 = a)
      ∧ (getT s c rs2 = b) ∧ (a.slt b = true) :=
  ⟨(cored { t := [(6, 1)] }), 3, 5, 6, 7, 0, 1, by decide +kernel⟩

theorem witness_BranchesAndJumps_4 :
    ∃ (s : State) (c : Fin 16) (rs1 rs2 : Fin 32) (off : BitVec 16) (a b : DWord), (Issuing s c) ∧ (getT s c rs1 = a)
      ∧ (getT s c rs2 = b) ∧ (a.slt b = false) :=
  ⟨(cored { t := [(5, 1)] }), 3, 5, 6, 7, 1, 0, by decide +kernel⟩

theorem witness_BranchesAndJumps_5 :
    ∃ (s : State) (c : Fin 16) (rs1 rs2 : Fin 32) (off : BitVec 16) (a b : DWord), (Issuing s c) ∧ (getT s c rs1 = a)
      ∧ (getT s c rs2 = b) ∧ (a.ult b = true) :=
  ⟨(cored { t := [(6, 1)] }), 3, 5, 6, 7, 0, 1, by decide +kernel⟩

theorem witness_BranchesAndJumps_6 :
    ∃ (s : State) (c : Fin 16) (rs1 rs2 : Fin 32) (off : BitVec 16) (a b : DWord), (Issuing s c) ∧ (getT s c rs1 = a)
      ∧ (getT s c rs2 = b) ∧ (a.ult b = false) :=
  ⟨(cored { t := [(5, 1)] }), 3, 5, 6, 7, 1, 0, by decide +kernel⟩

theorem witness_BranchesAndJumps_7 :
    ∃ (s : State) (c : Fin 16) (rs1 rs2 : Fin 32) (off : BitVec 16) (a b : DWord), (Issuing s c) ∧ (getT s c rs1 = a)
      ∧ (getT s c rs2 = b) ∧ (¬ (a = b)) :=
  ⟨(cored { t := [(6, 1)] }), 3, 5, 6, 7, 0, 1, by decide +kernel⟩

theorem witness_BranchesAndJumps_8 :
    ∃ (s : State) (c : Fin 16) (rs1 rs2 : Fin 32) (off : BitVec 16) (a b : DWord), (Issuing s c) ∧ (getT s c rs1 = a)
      ∧ (getT s c rs2 = b) ∧ (¬ (a ≠ b)) :=
  ⟨(cored { t := [] }), 3, 5, 6, 7, 0, 0, by decide +kernel⟩

theorem witness_BranchesAndJumps_9 :
    ∃ (s : State) (c : Fin 16) (rs1 rs2 : Fin 32) (off : BitVec 16) (a b : DWord), (Issuing s c) ∧ (getT s c rs1 = a)
      ∧ (getT s c rs2 = b) ∧ (¬ (a.slt b = true)) :=
  ⟨(cored { t := [(5, 1)] }), 3, 5, 6, 7, 1, 0, by decide +kernel⟩

theorem witness_BranchesAndJumps_10 :
    ∃ (s : State) (c : Fin 16) (rs1 rs2 : Fin 32) (off : BitVec 16) (a b : DWord), (Issuing s c) ∧ (getT s c rs1 = a)
      ∧ (getT s c rs2 = b) ∧ (¬ (a.slt b = false)) :=
  ⟨(cored { t := [(6, 1)] }), 3, 5, 6, 7, 0, 1, by decide +kernel⟩

theorem witness_BranchesAndJumps_11 :
    ∃ (s : State) (c : Fin 16) (rs1 rs2 : Fin 32) (off : BitVec 16) (a b : DWord), (Issuing s c) ∧ (getT s c rs1 = a)
      ∧ (getT s c rs2 = b) ∧ (¬ (a.ult b = true)) :=
  ⟨(cored { t := [(5, 1)] }), 3, 5, 6, 7, 1, 0, by decide +kernel⟩

theorem witness_BranchesAndJumps_12 :
    ∃ (s : State) (c : Fin 16) (rs1 rs2 : Fin 32) (off : BitVec 16) (a b : DWord), (Issuing s c) ∧ (getT s c rs1 = a)
      ∧ (getT s c rs2 = b) ∧ (¬ (a.ult b = false)) :=
  ⟨(cored { t := [(6, 1)] }), 3, 5, 6, 7, 0, 1, by decide +kernel⟩

theorem witness_BranchesAndJumps_13 :
    ∃ (s : State) (c : Fin 16) (rd : Fin 32) (off : BitVec 16), (Issuing s c) :=
  ⟨(cored {}), 3, 5, 6, by decide +kernel⟩

theorem witness_BranchesAndJumps_14 :
    ∃ (s : State) (c : Fin 16) (rd rs1 : Fin 32) (i : BitVec 16) (a : DWord), (Issuing s c) ∧ (getT s c rs1 = a) :=
  ⟨(cored {}), 3, 5, 5, 6, 0, by decide +kernel⟩

theorem witness_LoadsAndStores_1 :
    ∃ (s : State) (c : Fin 16) (rd rs1 : Fin 32) (off : BitVec 16) (p : Place), (Issuing s c) ∧ ((memAddr s c rs1
      off).toNat % 1 = 0) ∧ (placeOf s c .load (memAddr s c rs1 off).toNat 1 = some p) ∧ (parityBad s c p 1 = false) :=
  ⟨(cored {}), 3, 5, 6, 0, (.lmem 0), by decide +kernel⟩

theorem witness_LoadsAndStores_2 :
    ∃ (s : State) (c : Fin 16) (rd rs1 : Fin 32) (off : BitVec 16) (p : Place), (Issuing s c) ∧ ((memAddr s c rs1
      off).toNat % 2 = 0) ∧ (placeOf s c .load (memAddr s c rs1 off).toNat 2 = some p) ∧ (parityBad s c p 2 = false) :=
  ⟨(cored {}), 3, 5, 6, 0, (.lmem 0), by decide +kernel⟩

theorem witness_LoadsAndStores_3 :
    ∃ (s : State) (c : Fin 16) (rd rs1 : Fin 32) (off : BitVec 16) (p : Place), (Issuing s c) ∧ ((memAddr s c rs1
      off).toNat % 4 = 0) ∧ (placeOf s c .load (memAddr s c rs1 off).toNat 4 = some p) ∧ (parityBad s c p 4 = false) :=
  ⟨(cored {}), 3, 5, 6, 0, (.lmem 0), by decide +kernel⟩

theorem witness_LoadsAndStores_4 :
    ∃ (s : State) (c : Fin 16) (rd rs1 : Fin 32) (off : BitVec 16) (p : Place), (Issuing s c) ∧ ((memAddr s c rs1
      off).toNat % 8 = 0) ∧ (placeOf s c .load (memAddr s c rs1 off).toNat 8 = some p) ∧ (parityBad s c p 8 = false) :=
  ⟨(cored {}), 3, 5, 6, 0, (.lmem 0), by decide +kernel⟩

theorem witness_LoadsAndStores_5 :
    ∃ (s : State) (c : Fin 16) (rd rs1 : Fin 32) (off : BitVec 16) (p : Place), (Issuing s c) ∧ ((memAddr s c rs1
      off).toNat % 1 = 0) ∧ (placeOf s c .load (memAddr s c rs1 off).toNat 1 = some p) ∧ (parityBad s c p 1 = false) :=
  ⟨(cored {}), 3, 5, 6, 0, (.lmem 0), by decide +kernel⟩

theorem witness_LoadsAndStores_6 :
    ∃ (s : State) (c : Fin 16) (rd rs1 : Fin 32) (off : BitVec 16) (p : Place), (Issuing s c) ∧ ((memAddr s c rs1
      off).toNat % 2 = 0) ∧ (placeOf s c .load (memAddr s c rs1 off).toNat 2 = some p) ∧ (parityBad s c p 2 = false) :=
  ⟨(cored {}), 3, 5, 6, 0, (.lmem 0), by decide +kernel⟩

theorem witness_LoadsAndStores_7 :
    ∃ (s : State) (c : Fin 16) (rd rs1 : Fin 32) (off : BitVec 16) (p : Place), (Issuing s c) ∧ ((memAddr s c rs1
      off).toNat % 4 = 0) ∧ (placeOf s c .load (memAddr s c rs1 off).toNat 4 = some p) ∧ (parityBad s c p 4 = false) :=
  ⟨(cored {}), 3, 5, 6, 0, (.lmem 0), by decide +kernel⟩

theorem witness_LoadsAndStores_8 :
    ∃ (s : State) (c : Fin 16) (rs2 rs1 : Fin 32) (off : BitVec 16) (p : Place), (Issuing s c) ∧ ((memAddr s c rs1
      off).toNat % 1 = 0) ∧ (placeOf s c .store (memAddr s c rs1 off).toNat 1 = some p) :=
  ⟨(cored {}), 3, 5, 6, 0, (.lmem 0), by decide +kernel⟩

theorem witness_LoadsAndStores_9 :
    ∃ (s : State) (c : Fin 16) (rs2 rs1 : Fin 32) (off : BitVec 16) (p : Place), (Issuing s c) ∧ ((memAddr s c rs1
      off).toNat % 2 = 0) ∧ (placeOf s c .store (memAddr s c rs1 off).toNat 2 = some p) :=
  ⟨(cored {}), 3, 5, 6, 0, (.lmem 0), by decide +kernel⟩

theorem witness_LoadsAndStores_10 :
    ∃ (s : State) (c : Fin 16) (rs2 rs1 : Fin 32) (off : BitVec 16) (p : Place), (Issuing s c) ∧ ((memAddr s c rs1
      off).toNat % 4 = 0) ∧ (placeOf s c .store (memAddr s c rs1 off).toNat 4 = some p) :=
  ⟨(cored {}), 3, 5, 6, 0, (.lmem 0), by decide +kernel⟩

theorem witness_LoadsAndStores_11 :
    ∃ (s : State) (c : Fin 16) (rs2 rs1 : Fin 32) (off : BitVec 16) (p : Place), (Issuing s c) ∧ ((memAddr s c rs1
      off).toNat % 8 = 0) ∧ (placeOf s c .store (memAddr s c rs1 off).toNat 8 = some p) :=
  ⟨(cored {}), 3, 5, 6, 0, (.lmem 0), by decide +kernel⟩

theorem witness_LoadsAndStores_12 :
    ∃ (s : State) (c : Fin 16) (rd rs1 : Fin 32) (off : BitVec 16), (Issuing s c) ∧ ((memAddr s c rs1 off).toNat % 4 ≠
      0) :=
  ⟨(cored {}), 3, 5, 6, 2, by decide +kernel⟩

theorem witness_LoadsAndStores_13 :
    ∃ (s : State) (c : Fin 16) (rd rs1 : Fin 32) (off : BitVec 16), (Issuing s c) ∧ ((memAddr s c rs1 off).toNat % 8 ≠
      0) :=
  ⟨(cored {}), 3, 5, 6, 4, by decide +kernel⟩

theorem witness_LoadsAndStores_14 :
    ∃ (s : State) (c : Fin 16) (rd rs1 : Fin 32) (off : BitVec 16), (Issuing s c) ∧ ((memAddr s c rs1 off).toNat % 2 ≠
      0) :=
  ⟨(cored {}), 3, 5, 6, 1, by decide +kernel⟩

theorem witness_LoadsAndStores_15 :
    ∃ (s : State) (c : Fin 16) (rd rs1 : Fin 32) (off : BitVec 16), (Issuing s c) ∧ (placeOf s c .load (memAddr s c
      rs1 off).toNat 1 = none) :=
  ⟨(cored { t := [(6, 0x40000)] }), 3, 5, 6, 0, by decide +kernel⟩

theorem witness_LoadsAndStores_16 :
    ∃ (s : State) (c : Fin 16) (rd rs1 : Fin 32) (off : BitVec 16), (Issuing s c) ∧ (placeOf s c .store (memAddr s c
      rs1 off).toNat 1 = none) :=
  ⟨(cored { t := [(6, 0x40000)] }), 3, 5, 6, 0, by decide +kernel⟩

theorem witness_StoreThenLoad_1 :
    ∃ (m : SMap Byte) (a b v n k : Nat), (b + k ≤ a ∨ a + n ≤ b) :=
  ⟨[], 0, 8, 1, 8, 4, by decide +kernel⟩

theorem witness_StoreThenLoad_2 :
    ∃ (m : SMap Byte) (i j a b v n k : Nat), (a + n ≤ 0x1000000) ∧ (b + k ≤ 0x1000000) ∧ (i ≠ j ∨ b + k ≤ a ∨ a + n ≤
      b) :=
  ⟨[], 4, 4, 0, 8, 1, 8, 4, by decide +kernel⟩

theorem witness_StoreThenLoad_3 :
    ∃ (s : State) (n m : Nat) (p : Place) (size v : Nat), (m ≠ n) :=
  ⟨(cored {}), 3, 4, (.lmem 0), 4, 5, by decide +kernel⟩

theorem witness_TakingATrap_1 :
    ∃ (s : State) (n k v : Nat), (bit (s.core n).status 2 = false) :=
  ⟨(cored {}), 3, 0, 0, by decide +kernel⟩

theorem witness_TakingATrap_2 :
    ∃ (s : State) (n m k v : Nat), (bit (s.core n).status 2 = false) ∧ (m ≠ n) :=
  ⟨(cored {}), 3, 4, 0, 0, by decide +kernel⟩

theorem witness_TakingATrap_3 :
    ∃ (s : State) (n k v : Nat), (bit (s.core n).status 2 = true) :=
  ⟨(cored { status := 5 }), 3, 0, 0, by decide +kernel⟩

theorem witness_TakingATrap_4 :
    ∃ (pl : Nat), (pl < 2) :=
  ⟨1, by decide +kernel⟩

theorem witness_ControlAndStatusRegisters_1 :
    ∃ (s : State) (c : Fin 16) (rd csr : Fin 32), (Issuing s c) ∧ (csr.val < 14) ∧ ((supervisor s c || ownerReads csr)
      = true) :=
  ⟨(cored {}), 3, 5, 0, by decide +kernel⟩

theorem witness_ControlAndStatusRegisters_2 :
    ∃ (s : State) (c : Fin 16) (rd csr : Fin 32), (Issuing s c) ∧ (14 ≤ csr.val) :=
  ⟨(cored {}), 3, 5, 14, by decide +kernel⟩

theorem witness_ControlAndStatusRegisters_3 :
    ∃ (s : State) (c : Fin 16) (rd csr : Fin 32), (Issuing s c) ∧ (csr.val < 14) ∧ (supervisor s c = false) ∧
      (ownerReads csr = false) :=
  ⟨(cored { status := 0, pc := 0x10000 }), 3, 5, 1, by decide +kernel⟩

theorem witness_ControlAndStatusRegisters_4 :
    ∃ (s : State) (c : Fin 16) (rs1 csr : Fin 32), (Issuing s c) ∧ (csr.val < 14) ∧ ((supervisor s c || ownerWrites
      csr) = true) :=
  ⟨(cored {}), 3, 5, 8, by decide +kernel⟩

theorem witness_ControlAndStatusRegisters_5 :
    ∃ (s : State) (c : Fin 16) (rs1 csr : Fin 32), (Issuing s c) ∧ (csr.val < 14) ∧ (supervisor s c = false) ∧ (csr ≠
      6) :=
  ⟨(cored { status := 0, pc := 0x10000 }), 3, 5, 1, by decide +kernel⟩

theorem witness_ControlAndStatusRegisters_6 :
    ∃ (s : State) (n k : Nat) (v : DWord), (k = 5 ∨ k = 9 ∨ k = 10 ∨ k = 11 ∨ k = 12) :=
  ⟨(cored {}), 3, 5, 0, by decide +kernel⟩

theorem witness_TrapHaltAndReturn_1 :
    ∃ (s : State) (c : Fin 16) (code : BitVec 10), (Issuing s c) ∧ (bit (s.core c).status 2 = false) :=
  ⟨(cored {}), 3, 5, by decide +kernel⟩

theorem witness_TrapHaltAndReturn_2 :
    ∃ (s : State) (c : Fin 16), (Issuing s c) ∧ (supervisor s c = true) :=
  ⟨(cored {}), 3, by decide +kernel⟩

theorem witness_TrapHaltAndReturn_3 :
    ∃ (s : State) (c : Fin 16), (Issuing s c) ∧ (supervisor s c = false) ∧ (bit (s.core c).status 2 = false) :=
  ⟨(cored { status := 0, pc := 0x10000 }), 3, by decide +kernel⟩

theorem witness_TrapHaltAndReturn_4 :
    ∃ (s : State) (c : Fin 16), (Issuing s c) ∧ (supervisor s c = true) :=
  ⟨(cored {}), 3, by decide +kernel⟩

theorem witness_TrapHaltAndReturn_5 :
    ∃ (s : State) (c : Fin 16), (Issuing s c) ∧ (supervisor s c = false) :=
  ⟨(cored { status := 0, pc := 0x10000 }), 3, by decide +kernel⟩

theorem witness_TrapHaltAndReturn_6 :
    ∃ (s : State) (c : Fin 16) (w : Word), (Issuing s c) ∧ (illegalWord w = true) :=
  ⟨(cored {}), 3, 0xF8000000, by decide +kernel⟩

theorem witness_TrapHaltAndReturn_7 :
    ∃ (s : State) (c : Fin 16), (ExpiryActs s CLK (if (s.core c.val).wdog = 0 then none else some (wdogDue (s.core
      c.val)))) ∧ (s.inReset = false) ∧ ((s.core c).wdog ≠ 0) ∧ ((s.core c).wdogAt / 2 + 1024 * (s.core c).wdog.toNat
      ≤ s.clock / 2) :=
  ⟨{ cored { wdog := 1 } with clock := 2050 }, 3, by decide +kernel⟩

theorem witness_TrapHaltAndReturn_8 :
    ∃ (s : State) (c : Fin 16), (ExpiryActs s CLK (if (s.core c.val).wdog = 0 then none else some (wdogDue (s.core
      c.val)))) ∧ (s.inReset = false) ∧ ((s.core c).wdog = 0 ∨ s.clock / 2 < (s.core c).wdogAt / 2 + 1024 * (s.core
      c).wdog.toNat) :=
  ⟨{ cored { wdog := 1 } with clock := 2047 }, 3, by decide +kernel⟩

theorem witness_TrapHaltAndReturn_9 :
    ∃ (s : State) (p : Path) (c : Fin 16), (MayWriteGk s p (Reg.PAL_CORECTL c)) ∧ (canEnable s (uCore c) = true) ∧
      (anySlotBusy s c = false) :=
  ⟨{ cored {} with acc := { keys := [(.sideband, 0)] } }, .sideband, 3, by decide +kernel⟩

theorem witness_TrapHaltAndReturn_10 :
    ∃ (s : State) (p : Path) (c : Fin 16), (MayWriteGk s p (Reg.PAL_CORECTL c)) ∧ (canEnable s (uCore c) = true) ∧
      (anySlotBusy s c = true) :=
  ⟨{ cored {} with acc := { keys := [(.sideband, 0)] }, tier := { moves := [{ id := 1, core := 3, slot := 0, page := 0, tgt := 2, old := 0 }] } },
    .sideband, 3, by decide +kernel⟩

theorem witness_TrapHaltAndReturn_11 :
    ∃ (s : State) (c : Fin 16), (s.inReset = false) ∧ ((s.core c).restartHeld = true) ∧ (anySlotBusy s c = false) ∧
      ((s.core c).atBoundary = false ∨ (s.core c).wait = none) :=
  ⟨(cored { restartHeld := true }), 3, by decide +kernel⟩

theorem witness_WaitingAndEvents_1 :
    ∃ (s : State) (c : Fin 16) (rd rs1 rs2 : Fin 32), (Issuing s c) ∧ (evView s c &&& getT s c rs1 ≠ 0) :=
  ⟨(cored { t := [(6, 4)], evpend := 4 }), 3, 5, 6, 7, by decide +kernel⟩

theorem witness_WaitingAndEvents_2 :
    ∃ (s : State) (c : Fin 16) (rd rs1 rs2 : Fin 32), (Issuing s c) ∧ (evView s c &&& getT s c rs1 = 0) :=
  ⟨(cored {}), 3, 5, 6, 7, by decide +kernel⟩

theorem witness_WaitingAndEvents_3 :
    ∃ (s : State) (c : Fin 16) (rd rs1 rs2 : Fin 32), (Issuing s c) ∧ (evView s c &&& getT s c rs2 ≠ 0) :=
  ⟨(cored { t := [(7, 4)], evpend := 4 }), 3, 5, 6, 7, by decide +kernel⟩

theorem witness_WaitingAndEvents_4 :
    ∃ (s : State) (c : Fin 16) (rd rs1 rs2 : Fin 32), (Issuing s c) ∧ (evView s c &&& getT s c rs2 = 0) ∧ ((getT s c
      rs1).toNat ≤ s.tide) :=
  ⟨(cored {}), 3, 5, 6, 7, by decide +kernel⟩

theorem witness_WaitingAndEvents_5 :
    ∃ (s : State) (c : Fin 16) (rd rs1 rs2 : Fin 32), (Issuing s c) ∧ (evView s c &&& getT s c rs2 = 0) ∧ (s.tide <
      (getT s c rs1).toNat) :=
  ⟨(cored { t := [(6, 1)] }), 3, 5, 6, 7, by decide +kernel⟩

theorem witness_WaitingAndEvents_6 :
    ∃ (s : State) (c : Fin 16) (rd : Fin 32) (m : DWord) (t : Option Nat), (goesOn s c = true) ∧ ((s.core c).wait =
      some (.events rd m t)) ∧ (evView s c &&& m ≠ 0) :=
  ⟨(cored { wait := some (.events 5 4 none), evpend := 4 }), 3, 5, 4, none, by decide +kernel⟩

theorem witness_WaitingAndEvents_7 :
    ∃ (s : State) (c : Fin 16) (rd : Fin 32) (m : DWord) (t : Nat), (goesOn s c = true) ∧ ((s.core c).wait = some
      (.events rd m (some t))) ∧ (ExpiryActs s CLK (some t)) ∧ (t ≤ s.clock / CLK) ∧ (evView s c &&& m = 0) :=
  ⟨{ cored { wait := some (.events 5 4 (some 0)) } with clock := 4 }, 3, 5, 4, 0, by decide +kernel⟩

theorem witness_WaitingAndEvents_8 :
    ∃ (s : State) (c : Fin 16) (rd : Fin 32) (m : DWord) (t : Nat), (goesOn s c = true) ∧ ((s.core c).wait = some
      (.events rd m (some t))) ∧ (s.clock / CLK < t) :=
  ⟨(cored { wait := some (.events 5 4 (some 1)) }), 3, 5, 4, 1, by decide +kernel⟩

theorem witness_WaitingAndEvents_9 :
    ∃ (s : State) (c : Fin 16) (rd : Fin 32) (m : DWord) (t : Nat), (goesOn s c = true) ∧ ((s.core c).wait = some
      (.tide rd t m)) ∧ (evView s c &&& m ≠ 0) :=
  ⟨(cored { wait := some (.tide 5 9 4), evpend := 4 }), 3, 5, 4, 9, by decide +kernel⟩

theorem witness_WaitingAndEvents_10 :
    ∃ (s : State) (c : Fin 16) (rd : Fin 32) (m : DWord) (t : Nat), (goesOn s c = true) ∧ ((s.core c).wait = some
      (.tide rd t m)) ∧ (s.closing = true) ∧ ((s.clock + 1) % CLK = 0) ∧ (t ≤ s.tide) ∧ (evView s c &&& m = 0) :=
  ⟨{ cored { wait := some (.tide 5 0 4) } with clock := 1, closing := true }, 3, 5, 4, 0, by decide +kernel⟩

theorem witness_WaitingAndEvents_11 :
    ∃ (s : State) (c : Fin 16) (rd : Fin 32), (Issuing s c) :=
  ⟨(cored {}), 3, 5, by decide +kernel⟩

theorem witness_WaitingAndEvents_12 :
    ∃ (s : State) (c : Fin 16) (rd rs1 : Fin 32) (snap : Bool) (k : Nat), (Issuing s c) ∧ (getT s c rs1 = BitVec.ofNat
      64 k) ∧ (k < 2048) :=
  ⟨(cored { t := [(6, 2047)] }), 3, 5, 6, true, 2047, by decide +kernel⟩

theorem witness_WaitingAndEvents_13 :
    ∃ (s : State) (c : Fin 16) (rd rs1 : Fin 32) (snap : Bool), (Issuing s c) ∧ (2048 ≤ (getT s c rs1).toNat) :=
  ⟨(cored { t := [(6, 2048)] }), 3, 5, 6, true, by decide +kernel⟩

theorem witness_MessagesBetweenCores_1 :
    ∃ (s : State) (c : Fin 16) (rd rs1 rs2 : Fin 32) (n : Nat) (l : Line), (Issuing s c) ∧ (n < 16) ∧ ((getT s c
      rs1).toNat = 16 * s.devId + n) ∧ ((lineLoad s c (getT s c rs2).toNat).toOption = some l) ∧ (readyCore s n =
      true) ∧ (msgCount (s.core n) < 56) :=
  ⟨(cored { t := [(6, 4)] }), 3, 5, 6, 7, 4, 0, by decide +kernel⟩

theorem witness_MessagesBetweenCores_2 :
    ∃ (s : State) (c : Fin 16) (rd rs1 rs2 : Fin 32) (n : Nat) (l : Line), (Issuing s c) ∧ (n < 16) ∧ ((getT s c
      rs1).toNat = 16 * s.devId + n) ∧ ((lineLoad s c (getT s c rs2).toNat).toOption = some l) ∧ (readyCore s n =
      true) ∧ (56 ≤ msgCount (s.core n)) :=
  ⟨(cored { t := [(6, 3)], queue := List.replicate 56 { kind := 0, sdev := 0, score := 0, spl := true, data := 0 } }),
    3, 5, 6, 7, 3, 0, by decide +kernel⟩

theorem witness_MessagesBetweenCores_3 :
    ∃ (s : State) (c : Fin 16) (rd rs1 rs2 : Fin 32) (n : Nat) (l : Line), (Issuing s c) ∧ (n < 16) ∧ ((getT s c
      rs1).toNat = 16 * s.devId + n) ∧ ((lineLoad s c (getT s c rs2).toNat).toOption = some l) ∧ (readyCore s n =
      false) :=
  ⟨((cored {}).setReg Reg.RDY_5 0x1FFF8), 3, 5, 6, 7, 0, 0, by decide +kernel⟩

theorem witness_MessagesBetweenCores_4 :
    ∃ (s : State) (c : Fin 16) (rd rs1 rs2 : Fin 32) (l : Line), (Issuing s c) ∧ (inPool s = false) ∧ ((getT s c
      rs1).toNat < 2 ^ 14) ∧ ((getT s c rs1).toNat / 16 ≠ s.devId) ∧ ((lineLoad s c (getT s c rs2).toNat).toOption =
      some l) :=
  ⟨(cored { t := [(6, 16)] }), 3, 5, 6, 7, 0, by decide +kernel⟩

theorem witness_MessagesBetweenCores_5 :
    ∃ (s : State) (c : Fin 16) (rd : Fin 32) (n : Nat) (l : Line), (goesOn s c = true) ∧ ((s.core c).wait = some
      (.send rd s.devId n l)) ∧ (readyCore s n = true) ∧ (msgCount (s.core n) < 56) :=
  ⟨(cored { wait := some (.send 5 0 4 0) }), 3, 5, 4, 0, by decide +kernel⟩

theorem witness_MessagesBetweenCores_6 :
    ∃ (s : State) (c : Fin 16) (rd rs1 : Fin 32), (Issuing s c) ∧ ((s.core c).queue = []) ∧ ((getT s c rs1).toNat % 64
      = 0) :=
  ⟨(cored {}), 3, 5, 6, by decide +kernel⟩

theorem witness_MessagesBetweenCores_7 :
    ∃ (s t : State) (c : Fin 16) (rd rs1 : Fin 32) (e : QEntry) (r : List QEntry), (Issuing s c) ∧ ((s.core c).queue =
      e :: r) ∧ ((lineStore s c (getT s c rs1).toNat e.data).toOption = some t) :=
  ⟨(cored { queue := [{ kind := 0, sdev := 0, score := 1, spl := true, data := 0 }] }), (cored
    { queue := [{ kind := 0, sdev := 0, score := 1, spl := true, data := 0 }] }), 3, 5, 6,
    { kind := 0, sdev := 0, score := 1, spl := true, data := 0 }, [], by decide +kernel⟩

theorem witness_MessagesBetweenCores_8 :
    ∃ (s : State) (c : Fin 16) (a : Nat) (l : Line), (a % 64 ≠ 0) :=
  ⟨(cored {}), 3, 8, 0, by decide +kernel⟩

theorem witness_RegisterSpaceFromCores_1 :
    ∃ (s : State) (c : Fin 16) (rd rs1 : Fin 32), (Issuing s c) ∧ ((getT s c rs1).toNat % 4 = 0) ∧ ((getT s c
      rs1).toNat < 2 ^ 26) ∧ (readRefused s (corePath s c) (canonOff (getT s c rs1).toNat) = false) ∧ ((s.core
      c).posted = []) ∧ (isIdxData (canonOff (getT s c rs1).toNat) = none) :=
  ⟨(cored {}), 3, 5, 6, by decide +kernel⟩

theorem witness_RegisterSpaceFromCores_2 :
    ∃ (s : State) (c : Fin 16) (rd rs1 : Fin 32), (Issuing s c) ∧ ((getT s c rs1).toNat % 4 = 0) ∧ ((getT s c
      rs1).toNat < 2 ^ 26) ∧ (readRefused s (corePath s c) (canonOff (getT s c rs1).toNat) = false) ∧ ((s.core
      c).posted ≠ []) :=
  ⟨(cored { posted := [(4, 0, false)] }), 3, 5, 6, by decide +kernel⟩

theorem witness_RegisterSpaceFromCores_3 :
    ∃ (s : State) (c : Fin 16) (rd rs1 : Fin 32), (Issuing s c) ∧ ((getT s c rs1).toNat % 4 = 0) ∧ ((getT s c
      rs1).toNat < 2 ^ 26) ∧ (readRefused s (corePath s c) (canonOff (getT s c rs1).toNat) = true) :=
  ⟨(cored { t := [(6, 0x3400000)], status := 0, pc := 0x10000 }), 3, 5, 6, by decide +kernel⟩

theorem witness_RegisterSpaceFromCores_4 :
    ∃ (s : State) (c : Fin 16) (rd rs1 : Fin 32), (Issuing s c) ∧ ((getT s c rs1).toNat % 4 ≠ 0) :=
  ⟨(cored { t := [(6, 2)] }), 3, 5, 6, by decide +kernel⟩

theorem witness_RegisterSpaceFromCores_5 :
    ∃ (s : State) (c : Fin 16) (rd rs1 : Fin 32), (Issuing s c) ∧ ((getT s c rs1).toNat % 4 = 0) ∧ (2 ^ 26 ≤ (getT s c
      rs1).toNat) :=
  ⟨(cored { t := [(6, 0x4000000)] }), 3, 5, 6, by decide +kernel⟩

theorem witness_RegisterSpaceFromCores_6 :
    ∃ (s : State) (c : Fin 16) (rs1 rs2 : Fin 32), (Issuing s c) ∧ ((getT s c rs1).toNat % 4 = 0) ∧ ((getT s c
      rs1).toNat < 2 ^ 26) ∧ (writeRefused s (corePath s c) (canonOff (getT s c rs1).toNat) = false) ∧ (flashBarred s
      (corePath s c) (canonOff (getT s c rs1).toNat) = false) ∧ ((isSetHeld (canonOff (getT s c rs1).toNat) &&
      setArmed s) = false) :=
  ⟨(cored {}), 3, 6, 7, by decide +kernel⟩

theorem witness_RegisterSpaceFromCores_7 :
    ∃ (s : State) (c : Fin 16) (off : Nat) (v : Word) (o : Bool) (r : List (Nat × Word × Bool)), (s.inReset = false) ∧
      ((s.core c).posted = (off, v, o) :: r) ∧ ((s.core c).wait = none) ∧ (((applyWrite (s.setCore c
      { s.core c with posted := r }) (.core c o) off v).1.core c).wait = none) :=
  ⟨(cored { posted := [(Reg.GRD_STAT, 1, false)] }), 3, Reg.GRD_STAT, 1, false, [], by decide +kernel⟩

theorem witness_RegisterSpaceFromCores_8 :
    ∃ (s : State) (c : Fin 16) (sel : Fin 8), (Issuing s c) ∧ (fenceDone s c sel = true) :=
  ⟨(cored {}), 3, 0, by decide +kernel⟩

theorem witness_RegisterSpaceFromCores_9 :
    ∃ (s : State) (c : Fin 16) (sel : Fin 8), (Issuing s c) ∧ (fenceDone s c sel = false) :=
  ⟨(cored { posted := [(4, 0, false)] }), 3, 1, by decide +kernel⟩

theorem witness_RegisterSpaceFromCores_10 :
    ∃ (s : State) (c : Fin 16) (sel : Nat), (goesOn s c = true) ∧ ((s.core c).wait = some (.fence sel)) ∧ (fenceDone s
      c sel = true) :=
  ⟨(cored { wait := some (.fence 1) }), 3, 1, by decide +kernel⟩

theorem witness_RegisterSpaceFromCores_11 :
    ∃ (s : State) (c : Fin 16) (rd : Fin 32), (Issuing s c) ∧ (supervisor s c = true) :=
  ⟨(cored {}), 3, 5, by decide +kernel⟩

theorem witness_RegisterSpaceFromCores_12 :
    ∃ (s : State) (c : Fin 16) (rd : Fin 32), (Issuing s c) ∧ (supervisor s c = false) :=
  ⟨(cored { status := 0, pc := 0x10000 }), 3, 5, by decide +kernel⟩

theorem witness_PageOperationsAndAtomics_1 :
    ∃ (s : State) (c : Fin 16) (rd rs1 : Fin 32), (Issuing s c) ∧ (s.code ≠ Mode.safe) ∧ (holding s = false) :=
  ⟨(cored {}), 3, 5, 6, by decide +kernel⟩

theorem witness_PageOperationsAndAtomics_2 :
    ∃ (s : State) (c : Fin 16) (rd rs1 rs2 : Fin 32), (Issuing s c) ∧ (s.code ≠ Mode.safe) ∧ (holding s = false) :=
  ⟨(cored {}), 3, 5, 6, 7, by decide +kernel⟩

theorem witness_PageOperationsAndAtomics_3 :
    ∃ (s : State) (c : Fin 16) (rd rs1 : Fin 32), (Issuing s c) ∧ (s.code ≠ Mode.safe) ∧ (holding s = false) :=
  ⟨(cored {}), 3, 5, 6, by decide +kernel⟩

theorem witness_PageOperationsAndAtomics_4 :
    ∃ (s : State) (c : Fin 16) (rd rs1 : Fin 32), (Issuing s c) ∧ (s.code ≠ Mode.safe) ∧ (holding s = false) :=
  ⟨(cored {}), 3, 5, 6, by decide +kernel⟩

theorem witness_PageOperationsAndAtomics_5 :
    ∃ (s : State) (c : Fin 16) (rd rs1 : Fin 32), (Issuing s c) ∧ (s.code ≠ Mode.safe) ∧ (holding s = false) :=
  ⟨(cored {}), 3, 5, 6, by decide +kernel⟩

theorem witness_PageOperationsAndAtomics_6 :
    ∃ (s : State) (c : Fin 16) (rd rs1 rs2 : Fin 32), (Issuing s c) ∧ (s.code = Mode.safe) :=
  ⟨((cored {}).setReg Reg.GEN_MODE 7), 3, 5, 6, 7, by decide +kernel⟩

theorem witness_PageOperationsAndAtomics_7 :
    ∃ (s : State) (c : Fin 16) (rd rs1 rs2 : Fin 32), (Issuing s c) ∧ (s.code ≠ Mode.safe) ∧ (holding s = false) :=
  ⟨(cored {}), 3, 5, 6, 7, by decide +kernel⟩

theorem witness_PageOperationsAndAtomics_8 :
    ∃ (s : State) (r : Req) (n : Nat) (d : DWord), (freeMoveSlot s n = none) :=
  ⟨{ bench 2 with tier := { moves := (List.range 8).map (fun k => { id := k, core := 3, slot := k, page := k, tgt := 2, old := 0 }) } },
    (mkInternal State.reset 0 .move 0 0 0), 3, 0, by decide +kernel⟩

theorem witness_PageOperationsAndAtomics_9 :
    ∃ (s : State) (r : Req) (n : Nat) (d : DWord) (k : Nat), (freeMoveSlot s n = some k) ∧ (2 ^ 46 ≤ r.line) :=
  ⟨(bench 2), (mkInternal State.reset 0 .move 0 0 0x400000000000), 3, 0, 0, by decide +kernel⟩

theorem witness_PageOperationsAndAtomics_10 :
    ∃ (s : State) (t : Txn) (n : Fin 16) (rd : Fin 32) (u : State) (x : Nat), (pmovError s t.req n (BitVec.ofNat 64
      t.req.b) = (u, some x)) :=
  ⟨(bench 2), { req := mkInternal State.reset 0 .move 0 0 0x400000000000, phase := .page }, 3, 5, (bench 2), 2,
    by decide +kernel⟩

theorem witness_PageOperationsAndAtomics_11 :
    ∃ (s : State) (c : Fin 16) (k : Fin 8) (e : List (List (Nat × Word))), (s.tier.moves.find? (fun m => decide
      (m.core.val = c.val ∧ m.slot = k.val ∧ m.phase = 1)) = none) :=
  ⟨(bench 2), 3, 0, [], by decide +kernel⟩

theorem witness_PageOperationsAndAtomics_12 :
    ∃ (s : State) (c : Fin 16) (k : Fin 8) (e : List (List (Nat × Word))) (m : Move), (s.tier.moves.find? (fun m =>
      decide (m.core.val = c.val ∧ m.slot = k.val ∧ m.phase = 1)) = some m) ∧ (holding s = true) :=
  ⟨{ bench 5 with tier := { moves := [{ id := 1, core := 3, slot := 0, page := 0, tgt := 2, old := 0, phase := 1 }] } },
    3, 0, [], { id := 1, core := 3, slot := 0, page := 0, tgt := 2, old := 0, phase := 1 }, by decide +kernel⟩

theorem witness_PageOperationsAndAtomics_13 :
    ∃ (s : State) (c : Fin 16) (k : Fin 8) (e : List (List (Nat × Word))) (m : Move), (s.tier.moves.find? (fun m =>
      decide (m.core.val = c.val ∧ m.slot = k.val ∧ m.phase = 1)) = some m) ∧ (holding s = false) ∧ (m.cset =
      s.sets.swaps) ∧ (m.lines ≠ []) :=
  ⟨{ bench 2 with tier := { moves := [{ id := 1, core := 3, slot := 0, page := 0, tgt := 2, old := 0, phase := 1, lines := [(0, (0, false))] }] } },
    3, 0, [],
    { id := 1, core := 3, slot := 0, page := 0, tgt := 2, old := 0, phase := 1, lines := [(0, (0, false))] },
    by decide +kernel⟩

theorem witness_PageOperationsAndAtomics_14 :
    ∃ (s : State) (c : Fin 16) (k : Fin 8) (e : List (List (Nat × Word))) (m : Move) (t : State) (l : List (Line ×
      Bool)), (s.tier.moves.find? (fun m => decide (m.core.val = c.val ∧ m.slot = k.val ∧ m.phase = 1)) = some m) ∧
      (holding s = false) ∧ (m.cset = s.sets.swaps) ∧ (m.lines = []) ∧ (moveRead (readMany s (pageReadKeys s m.old)
      e).1 m (readMany s (pageReadKeys s m.old) e).2 = (t, some l)) :=
  ⟨{ bench 2 with tier := { moves := [{ id := 1, core := 3, slot := 0, page := 0, tgt := 2, old := 0, phase := 1 }] } },
    3, 0, [], { id := 1, core := 3, slot := 0, page := 0, tgt := 2, old := 0, phase := 1 }, (moveRead (readMany
    { bench 2 with tier := { moves := [{ id := 1, core := 3, slot := 0, page := 0, tgt := 2, old := 0, phase := 1 }] } }
    (pageReadKeys
    { bench 2 with tier := { moves := [{ id := 1, core := 3, slot := 0, page := 0, tgt := 2, old := 0, phase := 1 }] } }
    0) []).1 { id := 1, core := 3, slot := 0, page := 0, tgt := 2, old := 0, phase := 1 } (readMany
    { bench 2 with tier := { moves := [{ id := 1, core := 3, slot := 0, page := 0, tgt := 2, old := 0, phase := 1 }] } }
    (pageReadKeys
    { bench 2 with tier := { moves := [{ id := 1, core := 3, slot := 0, page := 0, tgt := 2, old := 0, phase := 1 }] } }
    0) []).2).1, ((moveRead (readMany
    { bench 2 with tier := { moves := [{ id := 1, core := 3, slot := 0, page := 0, tgt := 2, old := 0, phase := 1 }] } }
    (pageReadKeys
    { bench 2 with tier := { moves := [{ id := 1, core := 3, slot := 0, page := 0, tgt := 2, old := 0, phase := 1 }] } }
    0) []).1 { id := 1, core := 3, slot := 0, page := 0, tgt := 2, old := 0, phase := 1 } (readMany
    { bench 2 with tier := { moves := [{ id := 1, core := 3, slot := 0, page := 0, tgt := 2, old := 0, phase := 1 }] } }
    (pageReadKeys
    { bench 2 with tier := { moves := [{ id := 1, core := 3, slot := 0, page := 0, tgt := 2, old := 0, phase := 1 }] } }
    0) []).2).2.getD []), by decide +kernel⟩

theorem witness_PageOperationsAndAtomics_15 :
    ∃ (s : State) (c : Fin 16) (rd rs1 rs2 : Fin 32) (w : Bool), (Issuing s c) ∧ ((getT s c rs1).toNat % (if w then 4
      else 8) = 0) ∧ ((getT s c rs1).toNat < 2 ^ 56) ∧ ((getT s c rs1).toNat / 2 ^ 46 = s.devId ∨ (inPool s = true ∧
      isMember s ((getT s c rs1).toNat / 2 ^ 46) = true)) ∧ (s.code ≠ Mode.safe) ∧ (holding s = false) :=
  ⟨(cored {}), 3, 5, 6, 7, false, by decide +kernel⟩

theorem witness_PageOperationsAndAtomics_16 :
    ∃ (s : State) (c : Fin 16) (rd rs1 rs2 : Fin 32) (w : Bool), (Issuing s c) ∧ ((getT s c rs1).toNat % (if w then 4
      else 8) = 0) ∧ ((getT s c rs1).toNat < 2 ^ 56) ∧ ((getT s c rs1).toNat / 2 ^ 46 = s.devId ∨ (inPool s = true ∧
      isMember s ((getT s c rs1).toNat / 2 ^ 46) = true)) ∧ (s.code ≠ Mode.safe) ∧ (holding s = false) :=
  ⟨(cored {}), 3, 5, 6, 7, false, by decide +kernel⟩

theorem witness_PageOperationsAndAtomics_17 :
    ∃ (s : State) (c : Fin 16) (rd rs1 rs2 : Fin 32) (w : Bool), (Issuing s c) ∧ ((getT s c rs1).toNat % (if w then 4
      else 8) = 0) ∧ ((getT s c rs1).toNat < 2 ^ 56) ∧ ((getT s c rs1).toNat / 2 ^ 46 = s.devId ∨ (inPool s = true ∧
      isMember s ((getT s c rs1).toNat / 2 ^ 46) = true)) ∧ (s.code ≠ Mode.safe) ∧ (holding s = false) :=
  ⟨(cored {}), 3, 5, 6, 7, false, by decide +kernel⟩

theorem witness_PageOperationsAndAtomics_18 :
    ∃ (s : State) (c : Fin 16) (rd rs1 rs2 : Fin 32) (w u : Bool), (Issuing s c) ∧ ((getT s c rs1).toNat % (if w then
      4 else 8) = 0) ∧ ((getT s c rs1).toNat < 2 ^ 56) ∧ ((getT s c rs1).toNat / 2 ^ 46 = s.devId ∨ (inPool s = true ∧
      isMember s ((getT s c rs1).toNat / 2 ^ 46) = true)) ∧ (s.code ≠ Mode.safe) ∧ (holding s = false) :=
  ⟨(cored {}), 3, 5, 6, 7, false, true, by decide +kernel⟩

theorem witness_PageOperationsAndAtomics_19 :
    ∃ (i : Instr) (s : State) (c : Fin 16) (rd rs1 rs2 : Fin 32) (k : ReqKind) (w : Bool), ((getT s c rs1).toNat % (if
      w then 4 else 8) ≠ 0) :=
  ⟨(.halt 3), (cored { t := [(6, 4)] }), 3, 5, 6, 7, .amoAdd, false, by decide +kernel⟩

theorem witness_PageOperationsAndAtomics_20 :
    ∃ (i : Instr) (s : State) (c : Fin 16) (rd rs1 rs2 : Fin 32) (k : ReqKind) (w : Bool), ((getT s c rs1).toNat % (if
      w then 4 else 8) = 0) ∧ (2 ^ 56 ≤ (getT s c rs1).toNat) :=
  ⟨(.halt 3), (cored { t := [(6, 0x100000000000000)] }), 3, 5, 6, 7, .amoAdd, false, by decide +kernel⟩

theorem witness_PageOperationsAndAtomics_21 :
    ∃ (i : Instr) (s : State) (c : Fin 16) (rd rs1 rs2 : Fin 32) (k : ReqKind) (w : Bool), ((getT s c rs1).toNat % (if
      w then 4 else 8) = 0) ∧ ((getT s c rs1).toNat < 2 ^ 56) ∧ ((getT s c rs1).toNat / 2 ^ 46 = s.devId) ∧ (s.code =
      Mode.safe) :=
  ⟨(.halt 3), ((cored {}).setReg Reg.GEN_MODE 7), 3, 5, 6, 7, .amoAdd, false, by decide +kernel⟩

theorem witness_PageOperationsAndAtomics_22 :
    ∃ (i : Instr) (s : State) (c : Fin 16) (rd rs1 rs2 : Fin 32) (k : ReqKind) (w : Bool), ((getT s c rs1).toNat % (if
      w then 4 else 8) = 0) ∧ ((getT s c rs1).toNat < 2 ^ 56) ∧ ((getT s c rs1).toNat / 2 ^ 46 = s.devId) ∧ (s.code ≠
      Mode.safe) ∧ (holding s = true) :=
  ⟨(.halt 3), ((cored {}).setReg Reg.GEN_MODE 5), 3, 5, 6, 7, .amoAdd, false, by decide +kernel⟩

theorem witness_MailboxCommands_1 :
    ∃ (s : State) (m : Issuer) (ld : Nat) (log : Fin 4), (s.inReset = false) ∧ (firmwareRuns s = true) ∧ (issuerLd m =
      some ld) :=
  ⟨((bench 2).setReg Reg.RDY_5 0x1FFFF), (.ld 5), 5, 0, by decide +kernel⟩

theorem witness_MailboxCommands_2 :
    ∃ (s : State) (m : Issuer) (ld : Nat), (s.inReset = false) ∧ (firmwareRuns s = true) ∧ (issuerLd m = some ld) :=
  ⟨((bench 2).setReg Reg.RDY_5 0x1FFFF), (.ld 5), 5, by decide +kernel⟩

theorem witness_MailboxCommands_3 :
    ∃ (s : State) (m : Issuer) (ld : Nat), (s.inReset = false) ∧ (firmwareRuns s = true) ∧ (issuerLd m = some ld) :=
  ⟨((bench 2).setReg Reg.RDY_5 0x1FFFF), (.ld 5), 5, by decide +kernel⟩

theorem witness_MailboxCommands_4 :
    ∃ (s : State) (m : Issuer) (ld : Nat), (s.inReset = false) ∧ (firmwareRuns s = true) ∧ (issuerLd m = some ld) :=
  ⟨((bench 2).setReg Reg.RDY_5 0x1FFFF), (.ld 5), 5, by decide +kernel⟩

theorem witness_MailboxCommands_5 :
    ∃ (s : State) (m : Issuer) (ld : Nat) (v : Bool), (s.inReset = false) ∧ (firmwareRuns s = true) ∧ (issuerLd m =
      some ld) :=
  ⟨((bench 2).setReg Reg.RDY_5 0x1FFFF), (.ld 5), 5, true, by decide +kernel⟩

theorem witness_MailboxCommands_6 :
    ∃ (s : State) (m : Issuer) (ld : Nat), (s.inReset = false) ∧ (firmwareRuns s = true) ∧ (issuerLd m = some ld) :=
  ⟨((bench 2).setReg Reg.RDY_5 0x1FFFF), (.ld 5), 5, by decide +kernel⟩

theorem witness_MailboxCommands_7 :
    ∃ (s : State) (m : Issuer) (ld : Nat), (s.inReset = false) ∧ (firmwareRuns s = true) ∧ (issuerLd m = some ld) :=
  ⟨((bench 2).setReg Reg.RDY_5 0x1FFFF), (.ld 5), 5, by decide +kernel⟩

theorem witness_MailboxCommands_8 :
    ∃ (s : State) (m : Issuer) (ld : Nat), (s.inReset = false) ∧ (firmwareRuns s = true) ∧ (issuerLd m = some ld) :=
  ⟨((bench 2).setReg Reg.RDY_5 0x1FFFF), (.ld 5), 5, by decide +kernel⟩

theorem witness_MailboxCommands_9 :
    ∃ (s : State) (m : Issuer) (ld : Nat), (s.inReset = false) ∧ (firmwareRuns s = true) ∧ (issuerLd m = some ld) :=
  ⟨((bench 2).setReg Reg.RDY_5 0x1FFFF), (.ld 5), 5, by decide +kernel⟩

theorem witness_MailboxCommands_10 :
    ∃ (s : State) (m : Issuer) (ld : Nat), (s.inReset = false) ∧ (firmwareRuns s = true) ∧ (issuerLd m = some ld) :=
  ⟨((bench 2).setReg Reg.RDY_5 0x1FFFF), (.ld 5), 5, by decide +kernel⟩

theorem witness_MailboxCommands_11 :
    ∃ (s : State) (m : Issuer) (ld : Nat), (s.inReset = false) ∧ (firmwareRuns s = true) ∧ (issuerLd m = some ld) :=
  ⟨((bench 2).setReg Reg.RDY_5 0x1FFFF), (.ld 5), 5, by decide +kernel⟩

theorem witness_MailboxCommands_12 :
    ∃ (s : State) (m : Issuer) (ld : Nat), (s.inReset = false) ∧ (firmwareRuns s = true) ∧ (issuerLd m = some ld) :=
  ⟨((bench 2).setReg Reg.RDY_5 0x1FFFF), (.ld 5), 5, by decide +kernel⟩

theorem witness_MailboxCommands_13 :
    ∃ (s : State) (p : Fin 64), (s.inReset = false) ∧ (firmwareRuns s = true) :=
  ⟨((bench 2).setReg Reg.RDY_5 0x1FFFF), 3, by decide +kernel⟩

theorem witness_MailboxCommands_14 :
    ∃ (s : State) (p : Fin 64), (s.inReset = false) ∧ (firmwareRuns s = true) :=
  ⟨((bench 2).setReg Reg.RDY_5 0x1FFFF), 3, by decide +kernel⟩

theorem witness_MailboxCommands_15 :
    ∃ (s : State) (m : Issuer), (s.inReset = false) ∧ (firmwareRuns s = true) ∧ (mayLoad s m = true) :=
  ⟨((bench 2).setReg Reg.RDY_5 0x1FFFF), .sideband, by decide +kernel⟩

theorem witness_MailboxCommands_16 :
    ∃ (s : State) (l : Fin 256), (s.inReset = false) ∧ (firmwareRuns s = true) :=
  ⟨((bench 2).setReg Reg.RDY_5 0x1FFFF), 3, by decide +kernel⟩

theorem witness_MailboxCommands_17 :
    ∃ (s : State) (l : Fin 256), (s.inReset = false) ∧ (firmwareRuns s = true) :=
  ⟨((bench 2).setReg Reg.RDY_5 0x1FFFF), 3, by decide +kernel⟩

theorem witness_MailboxCommands_18 :
    ∃ (s : State) (m : Issuer) (op : Nat), (s.inReset = false) ∧ (firmwareRuns s = true) ∧ (supportedOpcodes.contains
      op = false) :=
  ⟨((bench 2).setReg Reg.RDY_5 0x1FFFF), .sideband, 0x1234, by decide +kernel⟩

theorem witness_MailboxCommands_19 :
    ∃ (s : State) (m : Issuer), (s.inReset = false) ∧ (firmwareRuns s = false) :=
  ⟨(bench 2), .sideband, by decide +kernel⟩

theorem witness_MailboxCommands_20 :
    ∃ (s : State) (m : Issuer) (ld : Nat) (log : Fin 4) (n : Nat), (s.inReset = false) ∧ (firmwareRuns s = true) ∧
      (issuerLd m = some ld) ∧ (n ≠ 0) ∧ (n ≤ (smGet [] s.evt.logs (4 * ld + log)).length) :=
  ⟨{ ((bench 2).setReg Reg.RDY_5 0x1FFFF) with evt := { logs := [(20, [{ src := 0, cls := 1, tide := 0, cap := [], sent := true }])] } },
    (.ld 5), 5, 0, 1, by decide +kernel⟩

theorem witness_MailboxCommands_21 :
    ∃ (s : State) (m : Issuer) (ld : Nat) (log : Fin 4) (n : Nat), (s.inReset = false) ∧ (firmwareRuns s = true) ∧
      (issuerLd m = some ld) ∧ ((smGet [] s.evt.logs (4 * ld + log)).length < n) :=
  ⟨((bench 2).setReg Reg.RDY_5 0x1FFFF), (.ld 5), 5, 0, 1, by decide +kernel⟩

theorem witness_MailboxCommands_22 :
    ∃ (s : State) (m : Issuer) (ld : Nat) (v : Nat), (s.inReset = false) ∧ (firmwareRuns s = true) ∧ (issuerLd m =
      some ld) :=
  ⟨((bench 2).setReg Reg.RDY_5 0x1FFFF), (.ld 5), 5, 7, by decide +kernel⟩

theorem witness_MailboxCommands_23 :
    ∃ (s : State) (m : Issuer) (ld : Nat) (v : Nat), (s.inReset = false) ∧ (firmwareRuns s = true) ∧ (issuerLd m =
      some ld) :=
  ⟨((bench 2).setReg Reg.RDY_5 0x1FFFF), (.ld 5), 5, 7, by decide +kernel⟩

theorem witness_MailboxCommands_24 :
    ∃ (s : State) (m : Issuer) (ld : Nat) (x : Bool) (off : Nat) (d : List Byte), (s.inReset = false) ∧ (firmwareRuns
      s = true) ∧ (issuerLd m = some ld) ∧ (b2n x = idleImage s) ∧ (off + d.length ≤ 0x400000) ∧ (fwBusy s = false) :=
  ⟨(setBootHeader ((bench 2).setReg Reg.RDY_5 0x1FFFF) 0 0), (.ld 5), 5, true, 0, [], by decide +kernel⟩

theorem witness_MailboxCommands_25 :
    ∃ (s t : State) (m : Issuer) (ld : Nat) (x o : Bool), (s.inReset = false) ∧ (firmwareRuns s = true) ∧ (issuerLd m
      = some ld) ∧ (b2n x = idleImage s) ∧ (s.port.bg = none) ∧ (fwBusy s = false) ∧ (s.sets.staging = none) ∧ (t =
      { s with port := { s.port with bg := some (issuerKey m, 0x0202) } }) :=
  ⟨(setBootHeader ((bench 2).setReg Reg.RDY_5 0x1FFFF) 0 0),
    { (setBootHeader ((bench 2).setReg Reg.RDY_5 0x1FFFF) 0 0) with port := { (setBootHeader ((bench 2).setReg Reg.RDY_5 0x1FFFF) 0 0).port with bg := some (5, 0x0202) } },
    (.ld 5), 5, true, false, by decide +kernel⟩

theorem witness_MailboxCommands_26 :
    ∃ (s : State) (m : Issuer) (ld : Nat) (a : Nat) (d : Line), (s.inReset = false) ∧ (firmwareRuns s = true) ∧
      (issuerLd m = some ld) ∧ (ld < 256) ∧ ((tagres s ld (a / 2 ^ 46 % 16)).testBit 31 = true) ∧ ((tagres s ld (a / 2
      ^ 46 % 16)).testBit 30 = false) ∧ (inExtent s ld (a % 2 ^ 46) = true) ∧ (s.code ≠ Mode.safe) :=
  ⟨{ ((bench 2).setReg Reg.RDY_5 0x1FFFF) with port := { ext := [(0, { start := 0, blocks := 1, ld := 5, state := 2 })] }, sets := { active := tabPut [] 1 (4 * 80) 0x80000000 4 } },
    (.ld 5), 5, 0, 0, by decide +kernel⟩

theorem witness_MailboxCommands_27 :
    ∃ (s : State) (m : Issuer) (ld : Nat) (a : Nat), (s.inReset = false) ∧ (firmwareRuns s = true) ∧ (issuerLd m =
      some ld) ∧ (s.code = Mode.test) :=
  ⟨((bench 6).setReg Reg.RDY_5 0x1FFFF), (.ld 5), 5, 0, by decide +kernel⟩

theorem witness_MailboxCommands_28 :
    ∃ (s : State) (m : Issuer) (ld : Nat) (a : Nat), (s.inReset = false) ∧ (firmwareRuns s = true) ∧ (issuerLd m =
      some ld) ∧ (s.code ≠ Mode.test) :=
  ⟨((bench 2).setReg Reg.RDY_5 0x1FFFF), (.ld 5), 5, 0, by decide +kernel⟩

theorem witness_MailboxCommands_29 :
    ∃ (s : State) (m : Issuer) (ld : Nat) (a b : Nat), (s.inReset = false) ∧ (firmwareRuns s = true) ∧ (issuerLd m =
      some ld) ∧ (a ≤ b) ∧ (b < 2 ^ 46) ∧ (s.bit Reg.RAKE_STAT 31 = true) :=
  ⟨(((bench 2).setReg Reg.RDY_5 0x1FFFF).setReg Reg.RAKE_STAT 0x80000000), (.ld 5), 5, 0, 0, by decide +kernel⟩

theorem witness_MailboxCommands_30 :
    ∃ (s : State) (m : Issuer) (ld : Nat) (a b : Nat), (s.inReset = false) ∧ (firmwareRuns s = true) ∧ (issuerLd m =
      some ld) ∧ (b < a ∨ 2 ^ 46 ≤ b) :=
  ⟨((bench 2).setReg Reg.RDY_5 0x1FFFF), (.ld 5), 5, 1, 0, by decide +kernel⟩

theorem witness_MailboxCommands_31 :
    ∃ (s : State) (m : Issuer) (ld : Nat) (a b : Nat), (s.inReset = false) ∧ (firmwareRuns s = true) ∧ (issuerLd m =
      some ld) ∧ (a ≤ b) ∧ (b < 2 ^ 46) ∧ (s.bit Reg.RAKE_STAT 31 = false) ∧ (s.port.bg = none) ∧ ((scanArm s m a
      b).port.bg.isSome = true) :=
  ⟨((bench 2).setReg Reg.RDY_5 0x1FFFF), (.ld 5), 5, 0, 0, by decide +kernel⟩

theorem witness_ImageLoading_1 :
    ∃ (s : State) (m : Issuer) (d : List Byte), (s.inReset = false) ∧ (firmwareRuns s = true) ∧ (mayLoad s m = true) ∧
      (s.sets.staging = none) ∧ (fwBusy s = false) ∧ (chunkOk d = true) :=
  ⟨((bench 2).setReg Reg.RDY_5 0x1FFFF), .sideband, [0], by decide +kernel⟩

theorem witness_ImageLoading_2 :
    ∃ (s : State) (m : Issuer) (off : Nat) (d : List Byte) (g : Staging), (s.inReset = false) ∧ (firmwareRuns s =
      true) ∧ (mayLoad s m = true) ∧ (s.sets.staging = some g) ∧ (g.path = issuerKey m) ∧ (g.ended = false) ∧ (chunkOk
      d = true) ∧ (off = g.bytes.length) ∧ (off + d.length ≤ 0x400000) :=
  ⟨{ ((bench 2).setReg Reg.RDY_5 0x1FFFF) with sets := { staging := some { path := 1000, bytes := [0], clock := 0, ended := false } } },
    .sideband, 1, [0], { path := 1000, bytes := [0], clock := 0, ended := false }, by decide +kernel⟩

theorem witness_ImageLoading_3 :
    ∃ (s : State) (m : Issuer) (off : Nat) (d : List Byte) (g : Staging), (s.inReset = false) ∧ (firmwareRuns s =
      true) ∧ (mayLoad s m = true) ∧ (s.sets.staging = some g) ∧ (g.path = issuerKey m) ∧ (g.ended = false) ∧ (chunkOk
      d = true) ∧ (off ≠ g.bytes.length) :=
  ⟨{ ((bench 2).setReg Reg.RDY_5 0x1FFFF) with sets := { staging := some { path := 1000, bytes := [0], clock := 0, ended := false } } },
    .sideband, 2, [0], { path := 1000, bytes := [0], clock := 0, ended := false }, by decide +kernel⟩

theorem witness_ImageLoading_4 :
    ∃ (s : State) (m : Issuer) (g : Staging), (s.port.bg = none) :=
  ⟨((bench 2).setReg Reg.RDY_5 0x1FFFF), .sideband, { path := 1000, bytes := [0], clock := 0, ended := false },
    by decide +kernel⟩

theorem witness_ImageLoading_5 :
    ∃ (s : State) (g : Staging) (r : Nat) (t u : State), (s.sets.staging = some g) ∧ (g.ended = true) ∧ (r = (if
      setArmed s || committed s then 5 else loadResult (imageCheck s false g.bytes))) ∧ (t =
      { endStaging s with port := { s.port with bg := none } }.setReg Reg.PAL_LOADSTAT (BitVec.ofNat 32 (r * 2 ^ 28 +
      imgCores (imgHdr g.bytes)))) ∧ (u = (if r = 0 then imagePlace t g.bytes else raise t Src.imageRejected)) :=
  ⟨loadEnded, { path := 1000, bytes := [0], clock := 0, ended := true }, 5,
    ({ endStaging loadEnded with port := { loadEnded.port with bg := none } }.setReg Reg.PAL_LOADSTAT (BitVec.ofNat 32
    (5 * 2 ^ 28 + imgCores (imgHdr [0])))), (raise
    ({ endStaging loadEnded with port := { loadEnded.port with bg := none } }.setReg Reg.PAL_LOADSTAT (BitVec.ofNat 32
    (5 * 2 ^ 28 + imgCores (imgHdr [0])))) Src.imageRejected), by decide +kernel⟩

theorem witness_ImageLoading_6 :
    ∃ (s : State) (g : Staging), (s.sets.staging = some g) ∧ (g.ended = false) ∧ (g.clock + 25000000000 ≤ s.clock) ∧
      (ExpiryActs s 1 (some (g.clock + 25000000000))) :=
  ⟨{ bench 2 with clock := 25000000001, sets := { staging := some { path := 1000, bytes := [0], clock := 0, ended := false } } },
    { path := 1000, bytes := [0], clock := 0, ended := false }, by decide +kernel⟩

theorem witness_ImageLoading_7 :
    ∃ (s : State) (g : Staging), (s.sets.staging = some g) ∧ (s.clock < g.clock + 25000000000) :=
  ⟨{ bench 2 with sets := { staging := some { path := 1000, bytes := [0], clock := 0, ended := false } } },
    { path := 1000, bytes := [0], clock := 0, ended := false }, by decide +kernel⟩

theorem witness_ImageLoading_8 :
    ∃ (s : State) (l : Fin 256) (c : Fin 16) (msg : Line) (i : Image), (s.inReset = false) ∧ (firmwareRuns s = true) ∧
      (activeImage s c = some i) ∧ (imgHostMsg i.hdr = true) ∧ (msgCount (s.core c) < 56) :=
  ⟨(cored { imgA := some { hdr := List.replicate 7 0 ++ [1], sigs := [] } }), 3, 3, 0,
    { hdr := List.replicate 7 0 ++ [1], sigs := [] }, by decide +kernel⟩

theorem witness_ImageLoading_9 :
    ∃ (s : State) (c : Fin 16) (q : Fin 65536) (x : HostMsg), (s.sets.msgs.find? (fun x => decide (x.core = c.val ∧
      x.seq = q.val ∧ x.until_ ≤ s.clock) && !x.timedOut) = some x) ∧ (ExpiryActs s 1 (some x.until_)) :=
  ⟨{ bench 2 with clock := 1, sets := { msgs := [{ core := 3, port := 0, ld := 0, seq := 9, until_ := 0 }] } }, 3, 9,
    { core := 3, port := 0, ld := 0, seq := 9, until_ := 0 }, by decide +kernel⟩

theorem witness_SupervisorServices_1 :
    ∃ (s : State) (c : Fin 16), (serving s c 2 = true) :=
  ⟨(cored { status := 5, cause := 6, tval := 2 }), 3, by decide +kernel⟩

theorem witness_SupervisorServices_2 :
    ∃ (s : State) (c : Fin 16), (serving s c 3 = true) :=
  ⟨(cored { status := 5, cause := 6, tval := 3 }), 3, by decide +kernel⟩

theorem witness_SupervisorServices_3 :
    ∃ (s : State) (c : Fin 16), (serving s c 7 = true) :=
  ⟨(cored { status := 5, cause := 6, tval := 7 }), 3, by decide +kernel⟩

theorem witness_SupervisorServices_4 :
    ∃ (s : State) (c : Fin 16) (l : Line), (serving s c 6 = true) ∧ (exchangeLine s c (getT s c 10).toNat = some l) :=
  ⟨(cored { status := 5, cause := 6, tval := 6, t := [(10, 0xC000)] }), 3, 0, by decide +kernel⟩

theorem witness_SupervisorServices_5 :
    ∃ (s : State) (c : Fin 16) (l : Line) (x : HostMsg), (serving s c 1 = true) ∧ (exchangeLine s c (getT s c
      10).toNat = some l) ∧ (matchMsg (s.sets.msgs.filter (fun x => !x.timedOut)) c l = some x) :=
  ⟨{ (cored { status := 5, cause := 6, tval := 1, t := [(10, 0xC000)] }) with sets := { msgs := [{ core := 3, port := 0, ld := 0, seq := 0, until_ := 0 }] } },
    3, 0, { core := 3, port := 0, ld := 0, seq := 0, until_ := 0 }, by decide +kernel⟩

theorem witness_SupervisorServices_6 :
    ∃ (s : State) (c : Fin 16) (l : Line), (serving s c 1 = true) ∧ (exchangeLine s c (getT s c 10).toNat = some l) ∧
      (matchMsg (s.sets.msgs.filter (fun x => !x.timedOut)) c l = none) ∧ (matchMsg (s.sets.msgs.filter (fun x =>
      x.timedOut)) c l = none) :=
  ⟨(cored { status := 5, cause := 6, tval := 1, t := [(10, 0xC000)] }), 3, 0, by decide +kernel⟩

theorem witness_SupervisorServices_7 :
    ∃ (s : State) (c : Fin 16) (r : Nat), (serving s c 4 = true) ∧ (addsCapacity s = true) ∧ (errorOf (offerCheck s
      (getT s c 10).toNat (getT s c 11).toNat (getT s c 12).toNat) = some r) :=
  ⟨(cored { status := 5, cause := 6, tval := 4 }), 3, 2, by decide +kernel⟩

theorem witness_SupervisorServices_8 :
    ∃ (s : State) (c : Fin 16) (i : Nat) (e : Extent), (serving s c 4 = true) ∧ (addsCapacity s = true) ∧ ((offerCheck
      s (getT s c 10).toNat (getT s c 11).toNat (getT s c 12).toNat).toOption = some (i, e)) :=
  ⟨offering, 3, 0, { start := 0, blocks := 1, ld := 0, state := 1 }, by decide +kernel⟩

theorem witness_SupervisorServices_9 :
    ∃ (s : State) (c : Fin 16) (i : Nat) (e : Extent), (serving s c 5 = true) ∧ ((getT s c 12).toNat % 2 ^ 28 = 0) ∧
      (findExtent s (getT s c 10).toNat (getT s c 11).toNat ((getT s c 12).toNat / 2 ^ 28) [2] = some (i, e)) :=
  ⟨{ (cored { status := 5, cause := 6, tval := 5, t := [(12, 0x10000000)] }) with port := { ext := [(0, { start := 0, blocks := 1, ld := 0, state := 2 })] } },
    3, 0, { start := 0, blocks := 1, ld := 0, state := 2 }, by decide +kernel⟩

theorem witness_SupervisorServices_10 :
    ∃ (s : State) (c : Fin 16), (serving s c 5 = true) ∧ ((getT s c 12).toNat % 2 ^ 28 ≠ 0 ∨ findExtent s (getT s c
      10).toNat (getT s c 11).toNat ((getT s c 12).toNat / 2 ^ 28) [2] = none) :=
  ⟨(cored { status := 5, cause := 6, tval := 5 }), 3, by decide +kernel⟩

theorem witness_SupervisorServices_11 :
    ∃ (s : State) (c : Fin 16) (k : Nat) (f : State → State), (serving s c k = false) :=
  ⟨(cored {}), 3, 1, id, by decide +kernel⟩

theorem witness_SupervisorServices_12 :
    ∃ (s : State) (l : Fin 256) (a n i : Nat) (e : Extent), (s.closing = true) ∧ (s.inReset = false) ∧ (firmwareRuns s
      = true) ∧ (findExtent s l a n [1] = some (i, e)) :=
  ⟨{ ((bench 2).setReg Reg.RDY_5 0x1FFFF) with closing := true, port := { ext := [(0, { start := 0, blocks := 1, ld := 0, state := 1 })] } },
    0, 0, 1, 0, { start := 0, blocks := 1, ld := 0, state := 1 }, by decide +kernel⟩

theorem witness_SupervisorServices_13 :
    ∃ (s : State) (l : Fin 256) (a n : Nat) (b : Bool), (s.closing = true) ∧ (s.inReset = false) ∧ (firmwareRuns s =
      true) ∧ (findExtent s l a n [1] = none) :=
  ⟨{ ((bench 2).setReg Reg.RDY_5 0x1FFFF) with closing := true }, 0, 0, 1, true, by decide +kernel⟩

theorem witness_SupervisorServices_14 :
    ∃ (s : State) (l : Fin 256) (a n i : Nat) (e : Extent), (s.closing = true) ∧ (s.inReset = false) ∧ (firmwareRuns s
      = true) ∧ (findExtent s l a n [2, 3] = some (i, e)) :=
  ⟨{ ((bench 2).setReg Reg.RDY_5 0x1FFFF) with closing := true, port := { ext := [(0, { start := 0, blocks := 1, ld := 0, state := 2 })] } },
    0, 0, 1, 0, { start := 0, blocks := 1, ld := 0, state := 2 }, by decide +kernel⟩

theorem witness_SupervisorServices_15 :
    ∃ (s : State) (l : Fin 256) (a n : Nat), (s.closing = true) ∧ (s.inReset = false) ∧ (firmwareRuns s = true) ∧
      (findExtent s l a n [2, 3] = none) :=
  ⟨{ ((bench 2).setReg Reg.RDY_5 0x1FFFF) with closing := true }, 0, 0, 1, by decide +kernel⟩

theorem witness_SupervisorServices_16 :
    ∃ (s : State) (l : Fin 256) (a n : Nat) (b : Bool), (s.closing = false) :=
  ⟨(bench 2), 0, 0, 1, true, by decide +kernel⟩

theorem witness_SupervisorServices_17 :
    ∃ (s : State) (i : Fin 4096) (e : Extent), (ExpiryActs s 1 (dcdDue s i)) ∧ (smGet {} s.port.ext i = e) ∧ (e.since
      + dcdLimit s e.ld ≤ s.clock) ∧ (e.state = 1) :=
  ⟨{ bench 2 with clock := 1000000000000, port := { ext := [(0, { start := 0, blocks := 1, ld := 0, state := 1 })] } },
    0, { start := 0, blocks := 1, ld := 0, state := 1 }, by decide +kernel⟩

theorem witness_SupervisorServices_18 :
    ∃ (s : State) (i : Fin 4096) (e : Extent), (ExpiryActs s 1 (dcdDue s i)) ∧ (smGet {} s.port.ext i = e) ∧ (e.since
      + dcdLimit s e.ld ≤ s.clock) ∧ (e.state = 3) :=
  ⟨{ bench 2 with clock := 1000000000000, port := { ext := [(0, { start := 0, blocks := 1, ld := 0, state := 3 })] } },
    0, { start := 0, blocks := 1, ld := 0, state := 3 }, by decide +kernel⟩

theorem witness_SupervisorServices_19 :
    ∃ (s : State) (i : Fin 4096) (e : Extent), (smGet {} s.port.ext i = e) ∧ (s.clock < e.since + dcdLimit s e.ld ∨
      (e.state ≠ 1 ∧ e.state ≠ 3)) :=
  ⟨(bench 2), 0, {}, by decide +kernel⟩

theorem witness_ConfigurationSets_1 :
    ∃ (s : State) (p : Path), (MayWriteGk s p Reg.PAL_SETCMD) :=
  ⟨({ bench 2 with acc := { keys := [(.sideband, 0)] } }), .sideband, by decide +kernel⟩

theorem witness_ConfigurationSets_2 :
    ∃ (s : State), (setArmed s = true) :=
  ⟨((bench 2).setReg Reg.PAL_SETSTAT 0x80000000), by decide +kernel⟩

theorem witness_ConfigurationSets_3 :
    ∃ (s : State) (k n t : Nat), (setArmed s = false) ∧ (isMaster s = false) ∧ (armChecks s = some (k, n, t)) :=
  ⟨(cored { imgB := some { hdr := [], sigs := [] } }), 1, 3, 0, by decide +kernel⟩

theorem witness_ConfigurationSets_4 :
    ∃ (s : State), (setArmed s = false) ∧ (role s = 0) ∧ (armChecks s = none) :=
  ⟨(bench 2), by decide +kernel⟩

theorem witness_ConfigurationSets_5 :
    ∃ (s : State), (committed s = true) :=
  ⟨((bench 2).setReg Reg.PAL_SETSTAT 0xC0000000), by decide +kernel⟩

theorem witness_ConfigurationSets_6 :
    ∃ (s : State), (committed s = false) ∧ (setArmed s = false) :=
  ⟨(bench 2), by decide +kernel⟩

theorem witness_ConfigurationSets_7 :
    ∃ (s : State), (committed s = false) ∧ (setArmed s = true) :=
  ⟨((bench 2).setReg Reg.PAL_SETSTAT 0x80000000), by decide +kernel⟩

theorem witness_ConfigurationSets_8 :
    ∃ (s : State) (t : Nat), (setArmed s = true) ∧ (committed s = false) ∧ (inPool s = false) ∧ (t = (s.reg
      Reg.PAL_COMMITLO).toNat + 2 ^ 32 * (s.reg Reg.PAL_COMMITHI).toNat) :=
  ⟨(((bench 2).setReg Reg.PAL_SETSTAT 0x80000000).setReg Reg.PAL_COMMITLO 40000), 40000, by decide +kernel⟩

theorem witness_ConfigurationSets_9 :
    ∃ (s : State), (committed s = true) ∧ (s.sets.commitTide ≤ s.tide) :=
  ⟨((bench 2).setReg Reg.PAL_SETSTAT 0xC0000000), by decide +kernel⟩

theorem witness_ConfigurationSets_10 :
    ∃ (s : State), (s.tide < s.sets.commitTide) :=
  ⟨{ bench 2 with sets := { commitTide := 9 } }, by decide +kernel⟩

theorem witness_ConfigurationSets_11 :
    ∃ (s : State) (c : Nat), (ExpiryActs s 1 (some (c + 25000000))) ∧ (s.pool.armFrom = some c) ∧ (isMaster s = true)
      ∧ (c + 25000000 ≤ s.clock) ∧ (s.pool.commitT = none) :=
  ⟨{ mastered with clock := 25000001, pool := { armFrom := some 0 } }, 0, by decide +kernel⟩

theorem witness_ConfigurationSets_12 :
    ∃ (s : State), (s.pool.armFrom = none) :=
  ⟨(bench 2), by decide +kernel⟩

theorem witness_ConfigurationSets_13 :
    ∃ (s : State) (t : Nat), (TideExpiryActs s (some (t - 10000))) ∧ (s.pool.commitT = some t) ∧ (isMaster s = true) ∧
      (s.pool.finalSent = false) ∧ (t ≤ s.tide + 10000) :=
  ⟨{ mastered.setTide 1 with pool := { commitT := some 10000 } }, 10000, by decide +kernel⟩

theorem witness_ConfigurationSets_14 :
    ∃ (s : State) (t : Nat), (s.pool.commitT = some t) ∧ (s.tide + 10000 < t) :=
  ⟨{ bench 2 with pool := { commitT := some 10001 } }, 10001, by decide +kernel⟩

theorem witness_HostRequests_1 :
    ∃ (s : State) (ld : Fin 256) (tag hpa a : Nat) (h : Bool) (x : Snoop), (HostTakes s ld.val) ∧ (holding s = false)
      ∧ (ldDecode s ld hpa = some (a, h)) ∧ (IngressPasses s ld a false) ∧ (s.code ≠ Mode.safe) :=
  ⟨(hosted 2), 0, 1, 0, 0, false, .inv, by decide +kernel⟩

theorem witness_HostRequests_2 :
    ∃ (s : State) (ld : Fin 256) (tag hpa a : Nat) (h : Bool), (HostTakes s ld.val) ∧ (holding s = false) ∧ (ldDecode
      s ld hpa = some (a, h)) ∧ (IngressPasses s ld a false) ∧ (s.code ≠ Mode.safe) :=
  ⟨(hosted 2), 0, 1, 0, 0, false, by decide +kernel⟩

theorem witness_HostRequests_3 :
    ∃ (s : State) (ld : Fin 256) (tag hpa a : Nat) (h : Bool), (HostTakes s ld.val) ∧ (holding s = false) ∧ (ldDecode
      s ld hpa = some (a, h)) ∧ (IngressPasses s ld a true) ∧ (s.code ≠ Mode.safe) :=
  ⟨(hosted 2), 0, 1, 0, 0, false, by decide +kernel⟩

theorem witness_HostRequests_4 :
    ∃ (s : State) (ld : Fin 256) (tag hpa a : Nat) (h : Bool), (HostTakes s ld.val) ∧ (holding s = false) ∧ (ldDecode
      s ld hpa = some (a, h)) ∧ (IngressPasses s ld a true) ∧ (s.code ≠ Mode.safe) :=
  ⟨(hosted 2), 0, 1, 0, 0, false, by decide +kernel⟩

theorem witness_HostRequests_5 :
    ∃ (s : State) (ld : Fin 256) (tag hpa a : Nat) (h : Bool), (HostTakes s ld.val) ∧ (holding s = false) ∧ (ldDecode
      s ld hpa = some (a, h)) ∧ (IngressPasses s ld a false) ∧ (s.code ≠ Mode.safe) :=
  ⟨(hosted 2), 0, 1, 0, 0, false, by decide +kernel⟩

theorem witness_HostRequests_6 :
    ∃ (s : State) (ld : Fin 256) (tag hpa a : Nat) (h : Bool), (HostTakes s ld.val) ∧ (holding s = false) ∧ (ldDecode
      s ld hpa = some (a, h)) ∧ (IngressPasses s ld a false) ∧ (s.code ≠ Mode.safe) :=
  ⟨(hosted 2), 0, 1, 0, 0, false, by decide +kernel⟩

theorem witness_HostRequests_7 :
    ∃ (s : State) (ld : Fin 256) (tag hpa a : Nat) (h : Bool) (d : Line), (HostTakes s ld.val) ∧ (holding s = false) ∧
      (ldDecode s ld hpa = some (a, h)) ∧ (IngressPasses s ld a true) ∧ (s.code ≠ Mode.safe) ∧ (s.coh.txns.find? (fun
      t => t.bi.contains (lineName s (poolTarget s (a % 2 ^ 46 / 64 * 64)).1 (poolTarget s (a % 2 ^ 46 / 64 * 64)).2,
      ld.val)) = none) :=
  ⟨(hosted 2), 0, 1, 0, 0, false, 0, by decide +kernel⟩

theorem witness_HostRequests_8 :
    ∃ (s : State) (ld : Fin 256) (tag hpa a : Nat) (h : Bool) (d : Line) (b : BitVec 64), (HostTakes s ld.val) ∧
      (holding s = false) ∧ (ldDecode s ld hpa = some (a, h)) ∧ (IngressPasses s ld a true) ∧ (s.code ≠ Mode.safe) ∧
      (s.coh.txns.find? (fun t => t.bi.contains (lineName s (poolTarget s (a % 2 ^ 46 / 64 * 64)).1 (poolTarget s (a %
      2 ^ 46 / 64 * 64)).2, ld.val)) = none) :=
  ⟨(hosted 2), 0, 1, 0, 0, false, 0, 0, by decide +kernel⟩

theorem witness_HostRequests_9 :
    ∃ (s : State) (ld : Fin 256) (tag hpa : Nat) (x : Snoop) (d : Line) (b : BitVec 64) (q : Bool), (¬HostUp s ld.val) :=
  ⟨State.reset, 0, 0, 0, .inv, 0, 0, false, by decide +kernel⟩

theorem witness_HostRequests_10 :
    ∃ (s : State) (ld : Fin 256) (tag hpa : Nat) (x : Snoop) (d : Line) (b : BitVec 64) (q : Bool), (HostTakes s
      ld.val) ∧ (holding s = true) :=
  ⟨(hosted 5), 0, 0, 0, .inv, 0, 0, false, by decide +kernel⟩

theorem witness_HostRequests_11 :
    ∃ (s : State) (ld : Fin 256) (tag hpa : Nat) (x : Snoop) (d : Line) (b : BitVec 64) (q : Bool), (HostUp s ld.val)
      ∧ (noCredit s ld = true) :=
  ⟨creditless, 0, 0, 0, .inv, 0, 0, false, by decide +kernel⟩

theorem witness_HostRequests_12 :
    ∃ (s : State) (ld : Fin 256) (tag hpa : Nat) (x : Snoop) (d : Line) (b : BitVec 64) (q : Bool) (a : Nat) (h :
      Bool), (HostTakes s ld.val) ∧ (holding s = false) ∧ (ldDecode s ld hpa = some (a, h)) ∧ (badTagres s ld (a / 2 ^
      46 % 16) = true) :=
  ⟨{ hosted 2 with port := { (hosted 2).port with badTag := [(0, 0, 0)] } }, 0, 0, 0, .inv, 0, 0, false, 0, false,
    by decide +kernel⟩

theorem witness_HostRequests_13 :
    ∃ (s : State) (ld : Fin 256) (tag hpa : Nat) (x : Snoop) (d : Line) (b : BitVec 64) (q : Bool) (a : Nat) (h :
      Bool), (HostTakes s ld.val) ∧ (holding s = false) ∧ (ldDecode s ld hpa = some (a, h)) ∧ (badTagres s ld (a / 2 ^
      46 % 16) = false) ∧ ((tagres s ld (a / 2 ^ 46 % 16)).testBit 31 = false) :=
  ⟨{ hosted 2 with sets := {} }, 0, 0, 0, .inv, 0, 0, false, 0, false, by decide +kernel⟩

theorem witness_HostRequests_14 :
    ∃ (s : State) (ld : Fin 256) (tag hpa : Nat) (x : Snoop) (d : Line) (b : BitVec 64) (q : Bool) (a : Nat) (h :
      Bool), (HostTakes s ld.val) ∧ (holding s = false) ∧ (ldDecode s ld hpa = some (a, h)) ∧ (badTagres s ld (a / 2 ^
      46 % 16) = false) ∧ ((tagres s ld (a / 2 ^ 46 % 16)).testBit 31 = true) ∧ (inExtent s ld (a % 2 ^ 46 / 64 * 64)
      = false) :=
  ⟨{ hosted 2 with port := { (hosted 2).port with ext := [] } }, 0, 0, 0, .inv, 0, 0, false, 0, false,
    by decide +kernel⟩

theorem witness_HostRequests_15 :
    ∃ (s : State) (ld : Fin 256) (tag hpa : Nat) (x : Snoop) (d : Line) (b : BitVec 64) (a : Nat) (h : Bool),
      (HostTakes s ld.val) ∧ (holding s = false) ∧ (ldDecode s ld hpa = some (a, h)) ∧ (IngressPasses s ld a true) ∧
      (s.code = Mode.safe) :=
  ⟨(hosted 7), 0, 0, 0, .inv, 0, 0, 0, false, by decide +kernel⟩

theorem witness_BackInvalidationAndAdmission_1 :
    ∃ (s : State) (ld : Fin 256) (l : Nat) (b : BiSnp), (bisnpOf s ld l = some b) :=
  ⟨{ hosted 2 with clock := 1000000000, port := { (hosted 2).port with bisnp := [{ ld := 0, line := 64, since := 0, txn := 7 }] } },
    0, 64, { ld := 0, line := 64, since := 0, txn := 7 }, by decide +kernel⟩

theorem witness_BackInvalidationAndAdmission_2 :
    ∃ (s : State) (ld : Fin 256) (l : Nat) (k : Bool), (bisnpOf s ld l = none) :=
  ⟨(hosted 2), 0, 64, true, by decide +kernel⟩

theorem witness_BackInvalidationAndAdmission_3 :
    ∃ (s : State) (ld : Fin 256) (l : Nat) (b : BiSnp) (t : Txn) (k : Bool), (bisnpOf s ld l = some b) ∧ (getTxn
      (dropBisnp s b) b.txn = some t) :=
  ⟨{ hosted 2 with clock := 1000000000, port := { (hosted 2).port with bisnp := [{ ld := 0, line := 64, since := 0, txn := 7 }] } , coh := { txns := [{ req := { mkInternal (bench 2) 7 .memInv 0 0 64 with tag := 1 }, bi := [(64, 0)] }] } },
    0, 64, { ld := 0, line := 64, since := 0, txn := 7 },
    { req := { mkInternal (bench 2) 7 .memInv 0 0 64 with tag := 1 }, bi := [(64, 0)] }, true, by decide +kernel⟩

theorem witness_BackInvalidationAndAdmission_4 :
    ∃ (s : State) (ld : Fin 256) (l : Nat) (b : BiSnp) (k : Bool), (bisnpOf s ld l = some b) ∧ (getTxn (dropBisnp s b)
      b.txn = none) :=
  ⟨{ hosted 2 with clock := 1000000000, port := { (hosted 2).port with bisnp := [{ ld := 0, line := 64, since := 0, txn := 7 }] } },
    0, 64, { ld := 0, line := 64, since := 0, txn := 7 }, true, by decide +kernel⟩

theorem witness_BackInvalidationAndAdmission_5 :
    ∃ (s : State) (ld : Fin 256) (l : Nat) (b : BiSnp), (ExpiryActs s 1 (some (b.since + s.fld (Reg.HPX_TMO (ld.val /
      16)) 15 0 * usClocks))) ∧ (bisnpOf s ld l = some b) :=
  ⟨{ hosted 2 with clock := 1000000000, port := { (hosted 2).port with bisnp := [{ ld := 0, line := 64, since := 0, txn := 7 }] } },
    0, 64, { ld := 0, line := 64, since := 0, txn := 7 }, by decide +kernel⟩

theorem witness_BackInvalidationAndAdmission_6 :
    ∃ (s : State) (ld : Fin 256) (l : Nat), (bisnpOf s ld l = none) :=
  ⟨(hosted 2), 0, 64, by decide +kernel⟩

theorem witness_BackInvalidationAndAdmission_7 :
    ∃ (s : State) (h : Nat), (nextReq s h = none) :=
  ⟨(bench 2), 0, by decide +kernel⟩

theorem witness_BackInvalidationAndAdmission_8 :
    ∃ (s : State) (c : Fin 24), (nextWrite s c s.coh.txns = none) :=
  ⟨(bench 2), 0, by decide +kernel⟩

theorem witness_BackInvalidationAndAdmission_9 :
    ∃ (s : State) (c : Fin 24) (t : Txn) (b : Nat × Nat × Burst), (nextWrite s c s.coh.txns = some (t, b)) ∧
      (readyChan s c = true) :=
  ⟨{ served 5 with coh := { txns := [{ req := { mkInternal (bench 2) 7 .memInv 0 0 64 with tag := 1 }, phase := .wq, bursts := [(0, 1, zeroBurst)] }] } },
    0,
    { req := { mkInternal (bench 2) 7 .memInv 0 0 64 with tag := 1 }, phase := .wq, bursts := [(0, 1, zeroBurst)] },
    (0, 1, zeroBurst), by decide +kernel⟩

theorem witness_BackInvalidationAndAdmission_10 :
    ∃ (s : State) (n : Nat) (t : Txn) (e : List (List (Nat × Word))), (getTxn s n = some t) ∧ (t.phase = .dram ∨
      t.phase = .merge) ∧ (readsIssued s n = true) :=
  ⟨{ bench 2 with coh := { txns := [{ req := mkInternal (bench 2) 7 .memInv 0 0 64, phase := .dram }] } }, 7,
    { req := mkInternal (bench 2) 7 .memInv 0 0 64, phase := .dram }, [], by decide +kernel⟩

theorem witness_BackInvalidationAndAdmission_11 :
    ∃ (s : State) (n : Nat) (e : List (List (Nat × Word))), (getTxn s n = none) :=
  ⟨(bench 2), 0, [], by decide +kernel⟩

theorem witness_HostPorts_1 :
    ∃ (s : State) (n : Fin 16) (k : Fin 4), (subCount s n.val ≤ k.val) :=
  ⟨(bench 2), 0, 1, by decide +kernel⟩

theorem witness_HostPorts_2 :
    ∃ (s u t : State) (n : Fin 16) (k : Fin 4), (k.val < subCount s n.val) ∧ (u = ldReset (s.setSubp (4 * n.val +
      k.val) { s.subp (4 * n.val + k.val) with perst := false }) (ldsOfPort (s.setSubp (4 * n.val + k.val)
      { s.subp (4 * n.val + k.val) with perst := false }) (4 * n.val + k.val))) ∧ (t = State.setF
      { u with sec := { u.sec with sessions := u.sec.sessions.filter (fun x => decide (x.who ≠ Issuer.fm (Fin.ofNat 64 (4 * n.val + k.val)))) } }
      (Reg.HPX_STAT n) (8 * k + 7) (8 * k) 0) :=
  ⟨(hosted 2), (ldReset ((hosted 2).setSubp 0 { (hosted 2).subp 0 with perst := false }) (ldsOfPort ((hosted
    2).setSubp 0 { (hosted 2).subp 0 with perst := false }) 0)), ((fun u : State => State.setF
    { u with sec := { u.sec with sessions := [] } } (Reg.HPX_STAT 0) 7 0 0) (ldReset ((hosted 2).setSubp 0
    { (hosted 2).subp 0 with perst := false }) (ldsOfPort ((hosted 2).setSubp 0
    { (hosted 2).subp 0 with perst := false }) 0))), 0, 0, by decide +kernel⟩

theorem witness_HostPorts_3 :
    ∃ (s : State) (n : Fin 16) (k : Fin 4), ((s.subp (4 * n.val + k.val)).perst = false) ∧ (s.inReset = true ∨
      s.wipe.keysDone = false) :=
  ⟨State.reset, 0, 0, by decide +kernel⟩

theorem witness_HostPorts_4 :
    ∃ (s : State) (n : Fin 16) (k : Fin 4), ((s.subp (4 * n.val + k.val)).perst = false) ∧ (s.inReset = false) ∧
      (s.wipe.keysDone = true) :=
  ⟨(bench 2), 0, 0, by decide +kernel⟩

theorem witness_HostPorts_5 :
    ∃ (s : State) (n : Fin 16) (k : Fin 4) (w : Fin 5) (r : Fin 6), (linkMayTrain s (4 * n.val + k.val) = true) ∧
      (w.val ≤ portWidth s n.val) ∧ (portState s (4 * n.val + k.val) < 2) ∧ (firmwareRuns s = true) ∧ (s.code ≠
      Mode.boot) ∧ ((s.subp (4 * n.val + k.val)).isolated = false) :=
  ⟨(let s := (bench 2).setReg Reg.RDY_5 0x1FFFF; { s with port := { sub := [(0, { perst := true })] } }), 0, 0, 4, 5,
    by decide +kernel⟩

theorem witness_HostPorts_6 :
    ∃ (s : State) (n : Fin 16) (k : Fin 4) (w : Fin 5) (r : Fin 6), (linkMayTrain s (4 * n.val + k.val) = true) ∧
      (w.val ≤ portWidth s n.val) ∧ (portState s (4 * n.val + k.val) < 2) ∧ (firmwareRuns s = true) ∧ (s.code ≠
      Mode.boot) ∧ ((s.subp (4 * n.val + k.val)).isolated = false) :=
  ⟨(let s := (bench 2).setReg Reg.RDY_5 0x1FFFF; { s with port := { sub := [(0, { perst := true })] } }), 0, 0, 4, 5,
    by decide +kernel⟩

theorem witness_HostPorts_7 :
    ∃ (s : State) (n : Fin 16) (k : Fin 4) (w : Fin 5) (r : Fin 6), (s.inReset = true ∨ portState s (4 * n.val +
      k.val) < 2) :=
  ⟨State.reset, 0, 0, 0, 0, by decide +kernel⟩

theorem witness_HostPorts_8 :
    ∃ (s : State) (n : Fin 16) (k : Fin 4) (w : Fin 5) (r : Fin 6), (s.inReset = false) ∧ (2 ≤ portState s (4 * n.val
      + k.val)) ∧ ((s.subp (4 * n.val + k.val)).width = w.val ∨ (s.bit (Reg.HPX_L0P n) 3 = true ∧ s.fld (Reg.HPX_L0P
      n) 2 0 ≤ w.val ∧ w.val ≤ (s.subp (4 * n.val + k.val)).width)) :=
  ⟨{ (bench 2).setReg (Reg.HPX_STAT 0) 0x80 with port := { sub := [(0, { perst := true, width := 3 })] } }, 0, 0, 3,
    0, by decide +kernel⟩

theorem witness_HostPorts_9 :
    ∃ (s : State) (n : Fin 16) (k : Fin 4) (w : Fin 5) (r : Fin 6), (linkMayTrain s (4 * n.val + k.val) = false ∨
      portWidth s n.val < w.val) :=
  ⟨State.reset, 0, 0, 0, 0, by decide +kernel⟩

theorem witness_HostPorts_10 :
    ∃ (s : State) (n : Fin 16) (k : Fin 4), (s.inReset = false) ∧ (2 ≤ portState s (4 * n.val + k.val)) :=
  ⟨{ (bench 2).setReg (Reg.HPX_STAT 0) 0x80 with port := { sub := [(0, { perst := true })] } }, 0, 0,
    by decide +kernel⟩

theorem witness_HostPorts_11 :
    ∃ (s : State) (n : Fin 16) (k : Fin 4), (s.inReset = false) ∧ (2 ≤ portState s (4 * n.val + k.val)) :=
  ⟨{ (bench 2).setReg (Reg.HPX_STAT 0) 0x80 with port := { sub := [(0, { perst := true })] } }, 0, 0,
    by decide +kernel⟩

theorem witness_HostPorts_12 :
    ∃ (s : State) (n : Fin 16) (k : Fin 4), (s.inReset = true ∨ portState s (4 * n.val + k.val) < 2) :=
  ⟨(bench 2), 0, 0, by decide +kernel⟩

theorem witness_HostPorts_13 :
    ∃ (s : State) (l : Fin 256) (p : Nat) (q : CfgReq), (ldPort s l.val = some p) ∧ (s.inReset = false) ∧ ((s.subp
      p).perst = true) ∧ (s.code = Mode.boot) :=
  ⟨{ hosted 0 with port := { (hosted 0).port with sub := [(0, { perst := true })] } }, 0, 0, .enumerate,
    by decide +kernel⟩

theorem witness_HostPorts_14 :
    ∃ (s : State) (l : Fin 256) (q : CfgReq), (ldPort s l.val = none) :=
  ⟨{ bench 2 with port := { ldcnt := [(0, 0)] } }, 0, .enumerate, by decide +kernel⟩

theorem witness_HostPorts_15 :
    ∃ (s : State) (l : Fin 256) (p : Nat) (a : Nat), (ldPort s l.val = some p) ∧ (s.inReset = false) ∧ ((s.subp
      p).perst = true) ∧ (s.code ≠ Mode.boot) :=
  ⟨{ hosted 2 with port := { (hosted 2).port with sub := [(0, { perst := true, flit256 := true })] } }, 0, 0, 0,
    by decide +kernel⟩

theorem witness_HostPorts_16 :
    ∃ (s : State) (l : Fin 256) (p : Nat), (ldPort s l.val = some p) ∧ (s.inReset = false) ∧ ((s.subp p).perst = true)
      ∧ (s.code ≠ Mode.boot) :=
  ⟨{ hosted 2 with port := { (hosted 2).port with sub := [(0, { perst := true, flit256 := true })] } }, 0, 0,
    by decide +kernel⟩

theorem witness_HostPorts_17 :
    ∃ (s : State) (l : Fin 256) (p : Nat) (i : Fin 4) (b z k y g : Nat) (x : Bool), (ldPort s l.val = some p) ∧
      (s.inReset = false) ∧ ((s.subp p).perst = true) ∧ (s.code ≠ Mode.boot) ∧ ((decoderOk y g && (x || (s.subp
      p).flit256)) = true) :=
  ⟨{ hosted 2 with port := { (hosted 2).port with sub := [(0, { perst := true, flit256 := true })] } }, 0, 0, 0, 0, 0,
    0, 1, 256, false, by decide +kernel⟩

theorem witness_HostPorts_18 :
    ∃ (s : State) (l : Fin 256) (p : Nat) (i : Fin 4) (b z k y g : Nat) (x : Bool), (ldPort s l.val = some p) ∧
      (s.inReset = false) ∧ ((s.subp p).perst = true) ∧ (s.code ≠ Mode.boot) ∧ ((decoderOk y g && (x || (s.subp
      p).flit256)) = false) :=
  ⟨{ hosted 2 with port := { (hosted 2).port with sub := [(0, { perst := true, flit256 := true })] } }, 0, 0, 0, 0, 0,
    0, 5, 256, false, by decide +kernel⟩

theorem witness_HostPorts_19 :
    ∃ (s : State) (l : Fin 256) (p : Nat) (i : Fin 4), (ldPort s l.val = some p) ∧ (s.inReset = false) ∧ ((s.subp
      p).perst = true) ∧ (s.code ≠ Mode.boot) :=
  ⟨{ hosted 2 with port := { (hosted 2).port with sub := [(0, { perst := true, flit256 := true })] } }, 0, 0, 0,
    by decide +kernel⟩

theorem witness_HostPorts_20 :
    ∃ (s : State) (l : Fin 256) (p : Nat) (x : Bool), (ldPort s l.val = some p) ∧ (s.inReset = false) ∧ ((s.subp
      p).perst = true) ∧ (s.code ≠ Mode.boot) ∧ ((x && !(s.subp p).flit256) = false) :=
  ⟨{ hosted 2 with port := { (hosted 2).port with sub := [(0, { perst := true, flit256 := true })] } }, 0, 0, true,
    by decide +kernel⟩

theorem witness_HostPorts_21 :
    ∃ (s : State) (l : Fin 256) (p : Nat) (x : Bool), (ldPort s l.val = some p) ∧ (s.inReset = false) ∧ ((s.subp
      p).perst = true) ∧ (s.code ≠ Mode.boot) ∧ ((x && !(s.subp p).flit256) = true) :=
  ⟨{ hosted 2 with port := { (hosted 2).port with sub := [(0, { perst := true, flit256 := false })] } }, 0, 0, true,
    by decide +kernel⟩

theorem witness_HostPorts_22 :
    ∃ (s : State) (l : Fin 256) (p : Nat), (ldPort s l.val = some p) ∧ (s.inReset = false) ∧ ((s.subp p).perst = true)
      ∧ (s.code ≠ Mode.boot) :=
  ⟨{ hosted 2 with port := { (hosted 2).port with sub := [(0, { perst := true, flit256 := true })] } }, 0, 0,
    by decide +kernel⟩

theorem witness_HostPorts_23 :
    ∃ (s : State) (l : Fin 256) (p : Nat) (i : Fin 4), (ldPort s l.val = some p) ∧ (s.inReset = false) ∧ ((s.subp
      p).perst = true) ∧ (s.code ≠ Mode.boot) :=
  ⟨{ hosted 2 with port := { (hosted 2).port with sub := [(0, { perst := true, flit256 := true })] } }, 0, 0, 0,
    by decide +kernel⟩

theorem witness_HostPorts_24 :
    ∃ (s : State) (l : Fin 256) (p : Nat), (ldPort s l.val = some p) ∧ (s.inReset = false) ∧ ((s.subp p).perst = true)
      ∧ (s.code ≠ Mode.boot) :=
  ⟨{ hosted 2 with port := { (hosted 2).port with sub := [(0, { perst := true, flit256 := true })] } }, 0, 0,
    by decide +kernel⟩

theorem witness_HostPorts_25 :
    ∃ (s : State) (p : Path) (n : Fin 16) (v : Word), (MayWrite s p (Reg.HPX_LDCNT n)) ∧ (ldCount v 0 + ldCount v 1 +
      ldCount v 2 + ldCount v 3 ≤ 16) ∧ ([1, 2, 3].all (fun k => decide (k < subCount s n.val ∨ ldCount v k = 0)) =
      true) :=
  ⟨(bench 2), .sideband, 0, 4, by decide +kernel⟩

theorem witness_HostPorts_26 :
    ∃ (s : State) (p : Path) (n : Fin 16) (v : Word), (MayWrite s p (Reg.HPX_LDCNT n)) ∧ (16 < ldCount v 0 + ldCount v
      1 + ldCount v 2 + ldCount v 3 ∨ [1, 2, 3].any (fun k => decide (subCount s n.val ≤ k ∧ ldCount v k ≠ 0)) = true) :=
  ⟨(bench 2), .sideband, 0, 17, by decide +kernel⟩

theorem witness_Attestation_1 :
    ∃ (s : State) (m : Issuer), (firmwareRuns s = true) :=
  ⟨((bench 2).setReg Reg.RDY_5 0x1FFFF), .sideband, by decide +kernel⟩

theorem witness_Attestation_2 :
    ∃ (s : State) (m : Issuer), (firmwareRuns s = true) :=
  ⟨((bench 2).setReg Reg.RDY_5 0x1FFFF), .sideband, by decide +kernel⟩

theorem witness_Attestation_3 :
    ∃ (s : State) (m : Issuer), (firmwareRuns s = true) :=
  ⟨((bench 2).setReg Reg.RDY_5 0x1FFFF), .sideband, by decide +kernel⟩

theorem witness_Attestation_4 :
    ∃ (s : State) (m : Issuer), (firmwareRuns s = true) :=
  ⟨((bench 2).setReg Reg.RDY_5 0x1FFFF), .sideband, by decide +kernel⟩

theorem witness_Attestation_5 :
    ∃ (s : State) (m : Issuer), (firmwareRuns s = true) :=
  ⟨((bench 2).setReg Reg.RDY_5 0x1FFFF), .sideband, by decide +kernel⟩

theorem witness_Attestation_6 :
    ∃ (s : State) (m : Issuer), (firmwareRuns s = true) :=
  ⟨((bench 2).setReg Reg.RDY_5 0x1FFFF), .sideband, by decide +kernel⟩

theorem witness_Attestation_7 :
    ∃ (s : State) (m : Issuer), (firmwareRuns s = true) :=
  ⟨((bench 2).setReg Reg.RDY_5 0x1FFFF), .sideband, by decide +kernel⟩

theorem witness_Attestation_8 :
    ∃ (s : State) (m : Issuer), (firmwareRuns s = true) :=
  ⟨((bench 2).setReg Reg.RDY_5 0x1FFFF), .sideband, by decide +kernel⟩

theorem witness_Attestation_9 :
    ∃ (s : State) (m : Issuer) (k : Fin 4), (firmwareRuns s = true) ∧ (certStored s k = true) :=
  ⟨((bench 2).setReg Reg.RDY_5 0x1FFFF), .sideband, 0, by decide +kernel⟩

theorem witness_Attestation_10 :
    ∃ (s : State) (m : Issuer) (k : Fin 4), (firmwareRuns s = true) ∧ (certStored s k = false) :=
  ⟨{ ((bench 2).setReg Reg.RDY_5 0x1FFFF) with sec := { certBad := true } }, .sideband, 0, by decide +kernel⟩

theorem witness_Attestation_11 :
    ∃ (s : State) (m : Issuer), (firmwareRuns s = true) ∧ (s.sec.sessions.length < 16) :=
  ⟨((bench 2).setReg Reg.RDY_5 0x1FFFF), .sideband, by decide +kernel⟩

theorem witness_Attestation_12 :
    ∃ (s : State) (m : Issuer), (firmwareRuns s = true) ∧ (16 ≤ s.sec.sessions.length) :=
  ⟨{ ((bench 2).setReg Reg.RDY_5 0x1FFFF) with sec := { sessions := List.replicate 16 { who := .sideband, open_ := false } } },
    .sideband, by decide +kernel⟩

theorem witness_Attestation_13 :
    ∃ (s : State) (m : Issuer), (firmwareRuns s = true) ∧ (s.sec.sessions.any (fun x => decide (x.who = m) &&
      !x.open_) = true) :=
  ⟨{ ((bench 2).setReg Reg.RDY_5 0x1FFFF) with sec := { sessions := [{ who := .sideband, open_ := false }] } },
    .sideband, by decide +kernel⟩

theorem witness_Attestation_14 :
    ∃ (s : State) (m : Issuer), (firmwareRuns s = true) ∧ (s.sec.sessions.any (fun x => decide (x.who = m) &&
      !x.open_) = false) :=
  ⟨((bench 2).setReg Reg.RDY_5 0x1FFFF), .sideband, by decide +kernel⟩

theorem witness_Attestation_15 :
    ∃ (s : State) (m : Issuer), (firmwareRuns s = true) ∧ (inSession s m = true) :=
  ⟨{ ((bench 2).setReg Reg.RDY_5 0x1FFFF) with sec := { sessions := [{ who := .sideband, open_ := true }] } },
    .sideband, by decide +kernel⟩

theorem witness_Attestation_16 :
    ∃ (s : State) (m : Issuer), (firmwareRuns s = true) ∧ (inSession s m = true) :=
  ⟨{ ((bench 2).setReg Reg.RDY_5 0x1FFFF) with sec := { sessions := [{ who := .sideband, open_ := true }] } },
    .sideband, by decide +kernel⟩

theorem witness_Attestation_17 :
    ∃ (s : State) (m : Issuer), (firmwareRuns s = true) ∧ (inSession s m = true) :=
  ⟨{ ((bench 2).setReg Reg.RDY_5 0x1FFFF) with sec := { sessions := [{ who := .sideband, open_ := true }] } },
    .sideband, by decide +kernel⟩

theorem witness_Attestation_18 :
    ∃ (s : State) (m : Issuer), (firmwareRuns s = true) ∧ (inSession s m = false) :=
  ⟨((bench 2).setReg Reg.RDY_5 0x1FFFF), .sideband, by decide +kernel⟩

theorem witness_Attestation_19 :
    ∃ (s : State) (m : Issuer), (firmwareRuns s = true) ∧ (mayCertify s m = true) :=
  ⟨({ ((bench 2).setReg Reg.RDY_5 0x1FFFF) with sec := { sessions := [{ who := .sideband, open_ := true }] } }.setReg
    Reg.SEC_STATE 0x41000000), .sideband, by decide +kernel⟩

theorem witness_Attestation_20 :
    ∃ (s : State) (m : Issuer), (firmwareRuns s = true) ∧ (mayCertify s m = false) :=
  ⟨((bench 2).setReg Reg.RDY_5 0x1FFFF), .sideband, by decide +kernel⟩

theorem witness_Attestation_21 :
    ∃ (s : State) (m : Issuer) (k : Fin 4) (l : List Byte), (firmwareRuns s = true) ∧ (mayCertify s m = false) :=
  ⟨((bench 2).setReg Reg.RDY_5 0x1FFFF), .sideband, 1, [], by decide +kernel⟩

theorem witness_Attestation_22 :
    ∃ (s : State) (m : Issuer) (k : Fin 4) (l : List Byte), (firmwareRuns s = true) ∧ (mayCertify s m = true) ∧ (k = 0
      ∨ 14336 < l.length) :=
  ⟨({ ((bench 2).setReg Reg.RDY_5 0x1FFFF) with sec := { sessions := [{ who := .sideband, open_ := true }] } }.setReg
    Reg.SEC_STATE 0x41000000), .sideband, 0, [], by decide +kernel⟩

theorem witness_Attestation_23 :
    ∃ (s : State) (m : Issuer) (k : Fin 4) (l : List Byte), (firmwareRuns s = true) ∧ (mayCertify s m = true) ∧ (k ≠
      0) ∧ (l.length ≤ 14336) :=
  ⟨({ ((bench 2).setReg Reg.RDY_5 0x1FFFF) with sec := { sessions := [{ who := .sideband, open_ := true }] } }.setReg
    Reg.SEC_STATE 0x41000000), .sideband, 1, [], by decide +kernel⟩

theorem witness_Attestation_24 :
    ∃ (s : State) (m : Issuer) (p : Nat), (firmwareRuns s = true) ∧ (issuerPort s m = some p) ∧ (inSession s m = true)
      ∧ ((s.subp p).flit256 = true) :=
  ⟨{ ((bench 2).setReg Reg.RDY_5 0x1FFFF) with sec := { sessions := [{ who := .fm 3, open_ := true }] }, port := { sub := [(3, { flit256 := true })] } },
    (.fm 3), 3, by decide +kernel⟩

theorem witness_Attestation_25 :
    ∃ (s : State) (m : Issuer) (p : Nat), (firmwareRuns s = true) ∧ (issuerPort s m = some p) ∧ (inSession s m = true)
      ∧ ((s.subp p).flit256 = true) :=
  ⟨{ ((bench 2).setReg Reg.RDY_5 0x1FFFF) with sec := { sessions := [{ who := .fm 3, open_ := true }] }, port := { sub := [(3, { flit256 := true })] } },
    (.fm 3), 3, by decide +kernel⟩

theorem witness_Attestation_26 :
    ∃ (s : State) (m : Issuer) (p : Nat), (firmwareRuns s = true) ∧ (issuerPort s m = some p) ∧ (inSession s m = true) :=
  ⟨{ ((bench 2).setReg Reg.RDY_5 0x1FFFF) with sec := { sessions := [{ who := .fm 3, open_ := true }] }, port := { sub := [(3, { flit256 := true })] } },
    (.fm 3), 3, by decide +kernel⟩

theorem witness_Attestation_27 :
    ∃ (s : State) (m : Issuer) (p : Nat) (x : IdeStream) (b : Bool), (firmwareRuns s = true) ∧ (issuerPort s m = some
      p) ∧ (inSession s m = true) ∧ ((b && ((s.subp p).flit256 || decide (x = .link))) = false) :=
  ⟨{ ((bench 2).setReg Reg.RDY_5 0x1FFFF) with sec := { sessions := [{ who := .fm 3, open_ := true }] }, port := { sub := [(3, { flit256 := true })] } },
    (.fm 3), 3, .skid, false, by decide +kernel⟩

theorem witness_Attestation_28 :
    ∃ (s : State) (m : Issuer) (p : Nat) (x : IdeStream) (b : Bool), (firmwareRuns s = true) ∧ (issuerPort s m = some
      p) ∧ (inSession s m = false) :=
  ⟨((bench 2).setReg Reg.RDY_5 0x1FFFF), (.fm 3), 3, .link, true, by decide +kernel⟩

theorem witness_Attestation_29 :
    ∃ (s : State) (m : Issuer) (x : IdeStream) (b : Bool), (firmwareRuns s = true) ∧ (issuerPort s m = none) :=
  ⟨((bench 2).setReg Reg.RDY_5 0x1FFFF), .sideband, .link, true, by decide +kernel⟩

theorem witness_Attestation_30 :
    ∃ (s : State) (m : Issuer) (x : IdeStream) (b : Bool) (k : Fin 4) (l : List Byte), (firmwareRuns s = false) :=
  ⟨(bench 2), .sideband, .link, true, 0, [], by decide +kernel⟩

theorem witness_KeySlots_1 :
    ∃ (s : State) (p : Path) (k : BitVec 12), (MayWriteGk s p Reg.KEYS_CMD) ∧ (s.keys.cmd.isSome = true) :=
  ⟨{ bench 2 with acc := { keys := [(.sideband, 0)] }, keys := { cmd := some { slot := 1, load := true, key := 0, seq := 0, wrapped := true, own := false } } },
    .sideband, 1, by decide +kernel⟩

theorem witness_KeySlots_2 :
    ∃ (s : State) (p : Path) (k : BitVec 12), (MayWriteGk s p Reg.KEYS_CMD) ∧ (s.keys.cmd = none) :=
  ⟨({ bench 2 with acc := { keys := [(.sideband, 0)] } }), .sideband, 1, by decide +kernel⟩

theorem witness_KeySlots_3 :
    ∃ (s : State) (p : Path) (k : BitVec 12) (r : Nat), (MayWriteGk s p Reg.KEYS_CMD) ∧ (s.keys.cmd = none) ∧
      (loadCheck (((disarm s p).setF Reg.KEYS_CMD 31 30 1).setF Reg.KEYS_CMD 11 0 k.toNat) k.toNat = .inl r) :=
  ⟨({ bench 2 with acc := { keys := [(.sideband, 0)] } }), .sideband, 1, 5, by decide +kernel⟩

theorem witness_KeySlots_4 :
    ∃ (s : State) (p : Path) (k : BitVec 12), (MayWriteGk s p Reg.KEYS_CMD) ∧ (s.keys.cmd = none) :=
  ⟨({ bench 2 with acc := { keys := [(.sideband, 0)] } }), .sideband, 1, by decide +kernel⟩

theorem witness_KeySlots_5 :
    ∃ (s : State) (k : Nat), (okwkPresent s = false ∨ s.code = Mode.safe) :=
  ⟨(bench 7), 1, by decide +kernel⟩

theorem witness_KeySlots_6 :
    ∃ (s : State) (k : Nat), (okwkPresent s = true) ∧ (s.code ≠ Mode.safe) :=
  ⟨((bench 2).setReg Reg.SEC_STATE 0x50000000), 1, by decide +kernel⟩

theorem witness_KeySlots_7 :
    ∃ (s : State) (p : Path) (k : BitVec 12), (MayWriteGk s p Reg.SEC_EPHEM) ∧ (s.keys.cmd.isSome = true) :=
  ⟨{ bench 2 with acc := { keys := [(.sideband, 0)] }, keys := { cmd := some { slot := 1, load := true, key := 0, seq := 0, wrapped := true, own := false } } },
    .sideband, 1, by decide +kernel⟩

theorem witness_KeySlots_8 :
    ∃ (s : State) (p : Path) (k : BitVec 12) (t : State), (MayWriteGk s p Reg.SEC_EPHEM) ∧ (s.keys.cmd = none) ∧ (t =
      (disarm s p).setF Reg.SEC_EPHEM 11 0 k.toNat) ∧ (t.code = Mode.safe ∨ lcState t = 5) :=
  ⟨{ bench 7 with acc := { keys := [(.sideband, 0)] } }, .sideband, 1, ((disarm
    { bench 7 with acc := { keys := [(.sideband, 0)] } } .sideband).setF Reg.SEC_EPHEM 11 0 1), by decide +kernel⟩

theorem witness_KeySlots_9 :
    ∃ (s : State) (p : Path) (k : BitVec 12) (t : State), (MayWriteGk s p Reg.SEC_EPHEM) ∧ (s.keys.cmd = none) ∧ (t =
      (disarm s p).setF Reg.SEC_EPHEM 11 0 k.toNat) ∧ (t.code ≠ Mode.safe) ∧ (lcState t ≠ 5) :=
  ⟨{ bench 2 with acc := { keys := [(.sideband, 0)] } }, .sideband, 1, ((disarm
    { bench 2 with acc := { keys := [(.sideband, 0)] } } .sideband).setF Reg.SEC_EPHEM 11 0 1), by decide +kernel⟩

theorem witness_KeySlots_10 :
    ∃ (s : State) (a : KeyCmd), (s.keys.cmd = some a) ∧ (inflight s a.slot = 0) :=
  ⟨{ bench 2 with keys := { cmd := some { slot := 1, load := true, key := 0, seq := 0, wrapped := true, own := false } } },
    { slot := 1, load := true, key := 0, seq := 0, wrapped := true, own := false }, by decide +kernel⟩

theorem witness_KeySlots_11 :
    ∃ (s : State) (a : KeyCmd), (s.keys.cmd = some a) ∧ (inflight s a.slot ≠ 0) :=
  ⟨{ bench 2 with coh := { chain := [{ mkInternal (bench 2) 7 .memInv 0 0 64 with slot := some 1 }] }, keys := { cmd := some { slot := 1, load := true, key := 0, seq := 0, wrapped := true, own := false } } },
    { slot := 1, load := true, key := 0, seq := 0, wrapped := true, own := false }, by decide +kernel⟩

theorem witness_KeySlots_12 :
    ∃ (s : State), (s.keys.cmd = none) :=
  ⟨(bench 2), by decide +kernel⟩

theorem witness_Crystallizers_1 :
    ∃ (s : State) (q : Fin 4) (j : HeapJob), ((jobsOf s q).find? (fun j => !j.running && !(jobsOf s q).any (fun i =>
      i.running && (onDecoder i == onDecoder j)) && !pausedJob s j) = some j) ∧ (readyHc s q = true) :=
  ⟨{ (bench 2).setReg Reg.RDY_4 0xFFFFFFFF with tier := { jobs := [{ quad := 0, kind := 0, page := 0, txn := 7, slot := 0, running := false }] } },
    0, { quad := 0, kind := 0, page := 0, txn := 7, slot := 0, running := false }, by decide +kernel⟩

theorem witness_Crystallizers_2 :
    ∃ (s : State) (q : Fin 4), (jobsOf s q = []) :=
  ⟨(bench 2), 0, by decide +kernel⟩

theorem witness_Crystallizers_3 :
    ∃ (s : State) (q : Fin 4) (e : List (List (Nat × Word))) (b : Bool), ((jobsOf s q).any (fun j => j.running) =
      false) :=
  ⟨(bench 2), 0, [], false, by decide +kernel⟩

theorem witness_Crystallizers_4 :
    ∃ (s : State) (q : Fin 4) (e : List (List (Nat × Word))) (j : HeapJob), ((jobsOf s q).find? (fun j => j.running &&
      onDecoder j && !pausedJob s j) = some j) ∧ (jobSet s q true = s.sets.swaps) ∧ (pageServable s j.page = false ∨
      eState j.seen ≠ Ent.t2) :=
  ⟨{ bench 2 with tier := { jobs := [{ quad := 0, kind := 0, page := 0, txn := 7, slot := 0, running := true }] } },
    0, [], { quad := 0, kind := 0, page := 0, txn := 7, slot := 0, running := true }, by decide +kernel⟩

theorem witness_Crystallizers_5 :
    ∃ (s t : State) (q : Fin 4) (e : List (List (Nat × Word))) (j : HeapJob) (bad : List Nat) (l : List (Line ×
      Bool)), ((jobsOf s q).find? (fun j => j.running && onDecoder j && !pausedJob s j) = some j) ∧ (jobSet s q true =
      s.sets.swaps) ∧ (pageServable s j.page = true) ∧ (eState j.seen = Ent.t2) ∧ (eNb j.seen = 15) ∧ (readMany s
      (pageReadKeys s j.seen) e = (t, bad)) ∧ (readPage t j.seen j.page j.slot bad = some l) :=
  ⟨{ served 5 with tier := { jobs := [{ quad := 0, kind := 0, page := 0, txn := 7, slot := 0, running := true, seen := mkEnt 2 0 0 (15 * 2 ^ 37) }] } },
    (readMany
    { served 5 with tier := { jobs := [{ quad := 0, kind := 0, page := 0, txn := 7, slot := 0, running := true, seen := mkEnt 2 0 0 (15 * 2 ^ 37) }] } }
    (pageReadKeys
    { served 5 with tier := { jobs := [{ quad := 0, kind := 0, page := 0, txn := 7, slot := 0, running := true, seen := mkEnt 2 0 0 (15 * 2 ^ 37) }] } }
    (mkEnt 2 0 0 (15 * 2 ^ 37))) []).1, 0, [],
    { quad := 0, kind := 0, page := 0, txn := 7, slot := 0, running := true, seen := mkEnt 2 0 0 (15 * 2 ^ 37) },
    (readMany
    { served 5 with tier := { jobs := [{ quad := 0, kind := 0, page := 0, txn := 7, slot := 0, running := true, seen := mkEnt 2 0 0 (15 * 2 ^ 37) }] } }
    (pageReadKeys
    { served 5 with tier := { jobs := [{ quad := 0, kind := 0, page := 0, txn := 7, slot := 0, running := true, seen := mkEnt 2 0 0 (15 * 2 ^ 37) }] } }
    (mkEnt 2 0 0 (15 * 2 ^ 37))) []).2, ((readPage (readMany
    { served 5 with tier := { jobs := [{ quad := 0, kind := 0, page := 0, txn := 7, slot := 0, running := true, seen := mkEnt 2 0 0 (15 * 2 ^ 37) }] } }
    (pageReadKeys
    { served 5 with tier := { jobs := [{ quad := 0, kind := 0, page := 0, txn := 7, slot := 0, running := true, seen := mkEnt 2 0 0 (15 * 2 ^ 37) }] } }
    (mkEnt 2 0 0 (15 * 2 ^ 37))) []).1 (mkEnt 2 0 0 (15 * 2 ^ 37)) 0 0 (readMany
    { served 5 with tier := { jobs := [{ quad := 0, kind := 0, page := 0, txn := 7, slot := 0, running := true, seen := mkEnt 2 0 0 (15 * 2 ^ 37) }] } }
    (pageReadKeys
    { served 5 with tier := { jobs := [{ quad := 0, kind := 0, page := 0, txn := 7, slot := 0, running := true, seen := mkEnt 2 0 0 (15 * 2 ^ 37) }] } }
    (mkEnt 2 0 0 (15 * 2 ^ 37))) []).2).getD []), by decide +kernel⟩

theorem witness_Crystallizers_6 :
    ∃ (s : State) (q : Fin 4) (b : Bool) (j : HeapJob), ((jobsOf s q).find? (fun j => j.running && !onDecoder j &&
      !pausedJob s j) = some j) ∧ (jobSet s q false = s.sets.swaps) ∧ (j.kind ≠ 1) ∧ (getTxn (dropJob s j) j.txn =
      none) :=
  ⟨{ bench 2 with tier := { jobs := [{ quad := 0, kind := 2, page := 0, txn := 7, slot := 0, running := true, decoded := true }] } },
    0, false, { quad := 0, kind := 2, page := 0, txn := 7, slot := 0, running := true, decoded := true },
    by decide +kernel⟩

theorem witness_Crystallizers_7 :
    ∃ (s : State) (q : Fin 4) (b : Bool) (j : HeapJob) (m : Move), ((jobsOf s q).find? (fun j => j.running &&
      !onDecoder j && !pausedJob s j) = some j) ∧ (jobSet s q false = s.sets.swaps) ∧ (j.kind = 1) ∧ ((dropJob s
      j).tier.moves.find? (fun m => decide (m.id = j.txn ∧ m.phase = 3)) = some m) :=
  ⟨{ bench 2 with tier := { jobs := [{ quad := 0, kind := 1, page := 0, txn := 7, slot := 0, running := true }], moves := [{ id := 7, core := 3, slot := 0, page := 0, tgt := 2, old := 0, phase := 3 }] } },
    0, false, { quad := 0, kind := 1, page := 0, txn := 7, slot := 0, running := true },
    { id := 7, core := 3, slot := 0, page := 0, tgt := 2, old := 0, phase := 3 }, by decide +kernel⟩

theorem witness_Crystallizers_8 :
    ∃ (s : State) (q : Fin 4) (b : Bool) (j : HeapJob) (t : Txn) (n : Fin 16) (rd : Fin 32), ((jobsOf s q).find? (fun
      j => j.running && !onDecoder j && !pausedJob s j) = some j) ∧ (jobSet s q false = s.sets.swaps) ∧ (getTxn
      (dropJob s j) j.txn = some t) ∧ (j.kind = 3) ∧ (t.req.origin = .core n rd) :=
  ⟨{ bench 2 with coh := { txns := [{ req := { mkInternal (bench 2) 7 .pprobe 0 0 64 with origin := .core 1 2 } }] }, tier := { jobs := [{ quad := 0, kind := 3, page := 0, txn := 7, slot := 0, running := true }] } },
    0, false, { quad := 0, kind := 3, page := 0, txn := 7, slot := 0, running := true },
    { req := { mkInternal (bench 2) 7 .pprobe 0 0 64 with origin := .core 1 2 } }, 1, 2, by decide +kernel⟩

theorem witness_Crystallizers_9 :
    ∃ (s u v : State) (q : Fin 4) (b f : Bool) (j : HeapJob) (t : Txn) (l : Nat) (d : Line) (x : Bool) (k m : Nat) (lc
      : Nat) (pl : Plan), ((jobsOf s q).find? (fun j => j.running && !onDecoder j && !pausedJob s j) = some j) ∧
      (jobSet s q false = s.sets.swaps) ∧ (getTxn (dropJob s j) j.txn = some t) ∧ (j.kind = 2) ∧ (t.wdata = some (l,
      d, x, k, lc)) ∧ ((if codes2 (tick (dropJob s j) (bHc q) 0 1) j.page j.lines then verifyFails (tick (dropJob s j)
      (bHc q) 0 1) q j.page b j.lines else (tick (dropJob s j) (bHc q) 0 1, false)) = (u, f)) ∧ (heapForm u j.lines f
      = (none, m)) ∧ (planT2 (tick (tick u (bHc q) 2 1) (bHc q) 1 m) j.page (lineIdx l) k j.lines lc f = (v, pl)) :=
  ⟨encS, encU.1, encPlan.1, 0, true, encU.2, encJ, encT, 0, 0, false, 0, encForm.2, 0, encPlan.2, by decide +kernel,
    by decide +kernel, by decide +kernel, by decide +kernel, by decide +kernel, (Prod.eta _).symm, by decide +kernel,
    (Prod.eta _).symm⟩

theorem witness_Crystallizers_10 :
    ∃ (s : State) (p : Path) (v : Word), (MayWriteGk s p Reg.CRY_TEST) ∧ (s.code = Mode.test) ∧ (bit v 4 = true) ∧
      (fld v 3 0 < 12) :=
  ⟨{ bench 6 with acc := { keys := [(.sideband, 0)] } }, .sideband, 0x12, by decide +kernel⟩

theorem witness_Crystallizers_11 :
    ∃ (s : State) (p : Path) (v : Word), (MayWriteGk s p Reg.CRY_TEST) ∧ (s.code ≠ Mode.test) :=
  ⟨({ bench 2 with acc := { keys := [(.sideband, 0)] } }), .sideband, 0x12, by decide +kernel⟩

theorem witness_Crystallizers_12 :
    ∃ (s : State) (p : Path) (v : Word), (MayWrite s p Reg.CRY_PBFLUSH) :=
  ⟨(bench 2), .sideband, 1, by decide +kernel⟩

theorem witness_Crystallizers_13 :
    ∃ (s : State) (p : Path) (v : Word), (MayWrite s p Reg.CRY_XEEN) :=
  ⟨(bench 2), .sideband, 1, by decide +kernel⟩

theorem witness_Crystallizers_14 :
    ∃ (s : State) (p : Path) (v : Word), (MayWrite s p Reg.CRY_UNITEN) :=
  ⟨(bench 2), .sideband, 1, by decide +kernel⟩

theorem witness_Crystallizers_15 :
    ∃ (s : State) (v : Word) (u : Nat), (bit v u = true) ∧ (s.bit Reg.CRY_XEEN u = false) ∧ (canEnable s (uXe u) =
      true) :=
  ⟨((bench 2).setReg Reg.CRY_XEEN 0), 1, 0, by decide +kernel⟩

theorem witness_Crystallizers_16 :
    ∃ (s : State) (v : Word) (u : Nat), (bit v u = true) ∧ (s.bit Reg.CRY_XEEN u = false) ∧ (canEnable s (uXe u) =
      false) :=
  ⟨{ ((bench 2).setReg Reg.CRY_XEEN 0).setReg (stickyOff 0) 1 with flt := { isolated := [(uXe 0, 0)] } }, 1, 0,
    by decide +kernel⟩

theorem witness_Crystallizers_17 :
    ∃ (s : State) (v : Word) (u : Nat), (bit v u = false) ∧ (s.bit Reg.CRY_XEEN u = true) :=
  ⟨((bench 2).setReg Reg.CRY_XEEN 1), 0, 0, by decide +kernel⟩

theorem witness_CoherenceRequestsOfPeers_1 :
    ∃ (s : State) (f : Frame), (TakenNow s f) ∧ (s.code = Mode.safe) :=
  ⟨{ bench 7 with pool := { take := [(0, 0, {}, 0)] } }, {}, by decide +kernel⟩

theorem witness_CoherenceRequestsOfPeers_2 :
    ∃ (s : State) (f : Frame), (TakenNow s f) ∧ (s.code ≠ Mode.safe) ∧ (holding s = true) ∧ (holdFits s (peerIn s f
      .rds) = true) :=
  ⟨{ bench 5 with pool := { take := [(0, 0, {}, 0)] } }, {}, by decide +kernel⟩

theorem witness_CoherenceRequestsOfPeers_3 :
    ∃ (s : State) (f : Frame) (u : State), (TakenNow s f) ∧ (s.code ≠ Mode.safe) ∧ (holding s = false) ∧ (rides s
      (peerIn s f .rds) = false) ∧ (u = submit (takeId s).1 (peerIn s f .rds)) ∧ (u.coh.ingress.any (fun x => decide
      (x.id = (peerIn s f .rds).id)) = false) :=
  ⟨{ bench 2 with pool := { take := [(0, 0, {}, 0)] } }, {}, (submit (takeId
    ({ bench 2 with pool := { take := [(0, 0, {}, 0)] } })).1 (peerIn
    ({ bench 2 with pool := { take := [(0, 0, {}, 0)] } }) {} .rds)), by decide +kernel, by decide +kernel,
    by decide +kernel, by decide +kernel, rfl, by decide +kernel⟩

theorem witness_CoherenceRequestsOfPeers_4 :
    ∃ (s : State) (f : Frame), (TakenNow s f) ∧ (s.code = Mode.safe) :=
  ⟨{ bench 7 with pool := { take := [(0, 0, {}, 0)] } }, {}, by decide +kernel⟩

theorem witness_CoherenceRequestsOfPeers_5 :
    ∃ (s : State) (f : Frame), (TakenNow s f) ∧ (s.code ≠ Mode.safe) ∧ (holding s = true) ∧ (holdFits s (peerIn s f
      .rdo) = true) :=
  ⟨{ bench 5 with pool := { take := [(0, 0, {}, 0)] } }, {}, by decide +kernel⟩

theorem witness_CoherenceRequestsOfPeers_6 :
    ∃ (s : State) (f : Frame) (u : State), (TakenNow s f) ∧ (s.code ≠ Mode.safe) ∧ (holding s = false) ∧ (rides s
      (peerIn s f .rdo) = false) ∧ (u = submit (takeId s).1 (peerIn s f .rdo)) ∧ (u.coh.ingress.any (fun x => decide
      (x.id = (peerIn s f .rdo).id)) = false) :=
  ⟨{ bench 2 with pool := { take := [(0, 0, {}, 0)] } }, {}, (submit (takeId
    ({ bench 2 with pool := { take := [(0, 0, {}, 0)] } })).1 (peerIn
    ({ bench 2 with pool := { take := [(0, 0, {}, 0)] } }) {} .rdo)), by decide +kernel, by decide +kernel,
    by decide +kernel, by decide +kernel, rfl, by decide +kernel⟩

theorem witness_CoherenceRequestsOfPeers_7 :
    ∃ (s : State) (f : Frame), (TakenNow s f) ∧ (s.code = Mode.safe) :=
  ⟨{ bench 7 with pool := { take := [(0, 0, {}, 0)] } }, {}, by decide +kernel⟩

theorem witness_CoherenceRequestsOfPeers_8 :
    ∃ (s : State) (f : Frame), (TakenNow s f) ∧ (s.code ≠ Mode.safe) ∧ (holding s = true) ∧ (holdFits s (peerIn s f
      .upg) = true) :=
  ⟨{ bench 5 with pool := { take := [(0, 0, {}, 0)] } }, {}, by decide +kernel⟩

theorem witness_CoherenceRequestsOfPeers_9 :
    ∃ (s : State) (f : Frame) (u : State), (TakenNow s f) ∧ (s.code ≠ Mode.safe) ∧ (holding s = false) ∧ (rides s
      (peerIn s f .upg) = false) ∧ (u = submit (takeId s).1 (peerIn s f .upg)) ∧ (u.coh.ingress.any (fun x => decide
      (x.id = (peerIn s f .upg).id)) = false) :=
  ⟨{ bench 2 with pool := { take := [(0, 0, {}, 0)] } }, {}, (submit (takeId
    ({ bench 2 with pool := { take := [(0, 0, {}, 0)] } })).1 (peerIn
    ({ bench 2 with pool := { take := [(0, 0, {}, 0)] } }) {} .upg)), by decide +kernel, by decide +kernel,
    by decide +kernel, by decide +kernel, rfl, by decide +kernel⟩

theorem witness_CoherenceRequestsOfPeers_10 :
    ∃ (s : State) (f : Frame), (TakenNow s f) ∧ (s.code = Mode.safe) :=
  ⟨{ bench 7 with pool := { take := [(0, 0, {}, 0)] } }, {}, by decide +kernel⟩

theorem witness_CoherenceRequestsOfPeers_11 :
    ∃ (s : State) (f : Frame), (TakenNow s f) ∧ (s.code ≠ Mode.safe) ∧ (holding s = true) ∧ (holdFits s (peerIn s f
      .rdc) = true) :=
  ⟨{ bench 5 with pool := { take := [(0, 0, {}, 0)] } }, {}, by decide +kernel⟩

theorem witness_CoherenceRequestsOfPeers_12 :
    ∃ (s : State) (f : Frame) (u : State), (TakenNow s f) ∧ (s.code ≠ Mode.safe) ∧ (holding s = false) ∧ (rides s
      (peerIn s f .rdc) = false) ∧ (u = submit (takeId s).1 (peerIn s f .rdc)) ∧ (u.coh.ingress.any (fun x => decide
      (x.id = (peerIn s f .rdc).id)) = false) :=
  ⟨{ bench 2 with pool := { take := [(0, 0, {}, 0)] } }, {}, (submit (takeId
    ({ bench 2 with pool := { take := [(0, 0, {}, 0)] } })).1 (peerIn
    ({ bench 2 with pool := { take := [(0, 0, {}, 0)] } }) {} .rdc)), by decide +kernel, by decide +kernel,
    by decide +kernel, by decide +kernel, rfl, by decide +kernel⟩

theorem witness_CoherenceRequestsOfPeers_13 :
    ∃ (s : State) (f : Frame), (TakenNow s f) ∧ (awaiting s f = none) ∧ (s.code = Mode.safe) :=
  ⟨{ bench 7 with pool := { take := [(0, 0, {}, 0)] } }, {}, by decide +kernel⟩

theorem witness_CoherenceRequestsOfPeers_14 :
    ∃ (s : State) (f : Frame), (TakenNow s f) ∧ (awaiting s f = none) ∧ (s.code ≠ Mode.safe) ∧ (holding s = true) ∧
      (holdFits s (peerIn s f .wbm) = true) :=
  ⟨{ bench 5 with pool := { take := [(0, 0, {}, 0)] } }, {}, by decide +kernel⟩

theorem witness_CoherenceRequestsOfPeers_15 :
    ∃ (s : State) (f : Frame) (u : State), (TakenNow s f) ∧ (awaiting s f = none) ∧ (s.code ≠ Mode.safe) ∧ (holding s
      = false) ∧ (rides s (peerIn s f .wbm) = false) ∧ (u = submit (takeId s).1 (peerIn s f .wbm)) ∧
      (u.coh.ingress.any (fun x => decide (x.id = (peerIn s f .wbm).id)) = false) :=
  ⟨{ bench 2 with pool := { take := [(0, 0, {}, 0)] } }, {}, (submit (takeId
    ({ bench 2 with pool := { take := [(0, 0, {}, 0)] } })).1 (peerIn
    ({ bench 2 with pool := { take := [(0, 0, {}, 0)] } }) {} .wbm)), by decide +kernel, by decide +kernel,
    by decide +kernel, by decide +kernel, by decide +kernel, rfl, by decide +kernel⟩

theorem witness_CoherenceRequestsOfPeers_16 :
    ∃ (s : State) (f : Frame), (TakenNow s f) ∧ (awaiting s f = none) ∧ (s.code = Mode.safe) :=
  ⟨{ bench 7 with pool := { take := [(0, 0, {}, 0)] } }, {}, by decide +kernel⟩

theorem witness_CoherenceRequestsOfPeers_17 :
    ∃ (s : State) (f : Frame), (TakenNow s f) ∧ (awaiting s f = none) ∧ (s.code ≠ Mode.safe) ∧ (holding s = true) ∧
      (holdFits s (peerIn s f .evc) = true) :=
  ⟨{ bench 5 with pool := { take := [(0, 0, {}, 0)] } }, {}, by decide +kernel⟩

theorem witness_CoherenceRequestsOfPeers_18 :
    ∃ (s : State) (f : Frame) (u : State), (TakenNow s f) ∧ (awaiting s f = none) ∧ (s.code ≠ Mode.safe) ∧ (holding s
      = false) ∧ (rides s (peerIn s f .evc) = false) ∧ (u = submit (takeId s).1 (peerIn s f .evc)) ∧
      (u.coh.ingress.any (fun x => decide (x.id = (peerIn s f .evc).id)) = false) :=
  ⟨{ bench 2 with pool := { take := [(0, 0, {}, 0)] } }, {}, (submit (takeId
    ({ bench 2 with pool := { take := [(0, 0, {}, 0)] } })).1 (peerIn
    ({ bench 2 with pool := { take := [(0, 0, {}, 0)] } }) {} .evc)), by decide +kernel, by decide +kernel,
    by decide +kernel, by decide +kernel, by decide +kernel, rfl, by decide +kernel⟩

theorem witness_CoherenceRequestsOfPeers_19 :
    ∃ (s : State) (f : Frame), (TakenNow s f) ∧ (s.code ≠ Mode.safe) ∧ (holding s = true) ∧ (holdFits s (peerIn s f
      .rds) = false) :=
  ⟨{ bench 5 with coh := { chain := List.replicate 512 (mkInternal (bench 2) 7 .memInv 0 0 64) } }, {},
    by decide +kernel⟩

theorem witness_CoherenceRequestsOfPeers_20 :
    ∃ (s : State) (f : Frame), (TakenNow s f) ∧ (s.code ≠ Mode.safe) ∧ (holding s = false) ∧ (rides s (peerIn s f
      .rds) = true) :=
  ⟨{ bench 2 with coh := { txns := [{ req := mkInternal (bench 2) 7 .memWr 0 0 64, hold := true }] } }, { line := 1 },
    by decide +kernel⟩

theorem witness_CoherenceRequestsOfPeers_21 :
    ∃ (s : State) (f : Frame) (u : State), (TakenNow s f) ∧ (s.code ≠ Mode.safe) ∧ (holding s = false) ∧ (rides s
      (peerIn s f .rds) = false) ∧ (u = submit (takeId s).1 (peerIn s f .rds)) ∧ (u.coh.ingress.any (fun x => decide
      (x.id = (peerIn s f .rds).id)) = true) :=
  ⟨{ bench 2 with coh := { slots := [(1, 2), (17, 2)] } }, { line := 1 }, (submit (takeId
    ({ bench 2 with coh := { slots := [(1, 2), (17, 2)] } })).1 (peerIn
    ({ bench 2 with coh := { slots := [(1, 2), (17, 2)] } }) { line := 1 } .rds)), by decide +kernel,
    by decide +kernel, by decide +kernel, by decide +kernel, rfl, by decide +kernel⟩

theorem witness_CoherenceRequestsOfPeers_22 :
    ∃ (s : State) (f : Frame), (TakenNow s f) ∧ (s.code ≠ Mode.safe) ∧ (holding s = true) ∧ (holdFits s (peerIn s f
      .rdo) = false) :=
  ⟨{ bench 5 with coh := { chain := List.replicate 512 (mkInternal (bench 2) 7 .memInv 0 0 64) } }, {},
    by decide +kernel⟩

theorem witness_CoherenceRequestsOfPeers_23 :
    ∃ (s : State) (f : Frame), (TakenNow s f) ∧ (s.code ≠ Mode.safe) ∧ (holding s = false) ∧ (rides s (peerIn s f
      .rdo) = true) :=
  ⟨{ bench 2 with coh := { txns := [{ req := mkInternal (bench 2) 7 .memWr 0 0 64, hold := true }] } }, { line := 1 },
    by decide +kernel⟩

theorem witness_CoherenceRequestsOfPeers_24 :
    ∃ (s : State) (f : Frame) (u : State), (TakenNow s f) ∧ (s.code ≠ Mode.safe) ∧ (holding s = false) ∧ (rides s
      (peerIn s f .rdo) = false) ∧ (u = submit (takeId s).1 (peerIn s f .rdo)) ∧ (u.coh.ingress.any (fun x => decide
      (x.id = (peerIn s f .rdo).id)) = true) :=
  ⟨{ bench 2 with coh := { slots := [(1, 2), (17, 2)] } }, { line := 1 }, (submit (takeId
    ({ bench 2 with coh := { slots := [(1, 2), (17, 2)] } })).1 (peerIn
    ({ bench 2 with coh := { slots := [(1, 2), (17, 2)] } }) { line := 1 } .rdo)), by decide +kernel,
    by decide +kernel, by decide +kernel, by decide +kernel, rfl, by decide +kernel⟩

theorem witness_CoherenceRequestsOfPeers_25 :
    ∃ (s : State) (f : Frame), (TakenNow s f) ∧ (s.code ≠ Mode.safe) ∧ (holding s = true) ∧ (holdFits s (peerIn s f
      .upg) = false) :=
  ⟨{ bench 5 with coh := { chain := List.replicate 512 (mkInternal (bench 2) 7 .memInv 0 0 64) } }, {},
    by decide +kernel⟩

theorem witness_CoherenceRequestsOfPeers_26 :
    ∃ (s : State) (f : Frame), (TakenNow s f) ∧ (s.code ≠ Mode.safe) ∧ (holding s = false) ∧ (rides s (peerIn s f
      .upg) = true) :=
  ⟨{ bench 2 with coh := { txns := [{ req := mkInternal (bench 2) 7 .memWr 0 0 64, hold := true }] } }, { line := 1 },
    by decide +kernel⟩

theorem witness_CoherenceRequestsOfPeers_27 :
    ∃ (s : State) (f : Frame) (u : State), (TakenNow s f) ∧ (s.code ≠ Mode.safe) ∧ (holding s = false) ∧ (rides s
      (peerIn s f .upg) = false) ∧ (u = submit (takeId s).1 (peerIn s f .upg)) ∧ (u.coh.ingress.any (fun x => decide
      (x.id = (peerIn s f .upg).id)) = true) :=
  ⟨{ bench 2 with coh := { slots := [(1, 2), (17, 2)] } }, { line := 1 }, (submit (takeId
    ({ bench 2 with coh := { slots := [(1, 2), (17, 2)] } })).1 (peerIn
    ({ bench 2 with coh := { slots := [(1, 2), (17, 2)] } }) { line := 1 } .upg)), by decide +kernel,
    by decide +kernel, by decide +kernel, by decide +kernel, rfl, by decide +kernel⟩

theorem witness_CoherenceRequestsOfPeers_28 :
    ∃ (s : State) (f : Frame), (TakenNow s f) ∧ (s.code ≠ Mode.safe) ∧ (holding s = true) ∧ (holdFits s (peerIn s f
      .rdc) = false) :=
  ⟨{ bench 5 with coh := { chain := List.replicate 512 (mkInternal (bench 2) 7 .memInv 0 0 64) } }, {},
    by decide +kernel⟩

theorem witness_CoherenceRequestsOfPeers_29 :
    ∃ (s : State) (f : Frame), (TakenNow s f) ∧ (s.code ≠ Mode.safe) ∧ (holding s = false) ∧ (rides s (peerIn s f
      .rdc) = true) :=
  ⟨{ bench 2 with coh := { txns := [{ req := mkInternal (bench 2) 7 .memWr 0 0 64, hold := true }] } }, { line := 1 },
    by decide +kernel⟩

theorem witness_CoherenceRequestsOfPeers_30 :
    ∃ (s : State) (f : Frame) (u : State), (TakenNow s f) ∧ (s.code ≠ Mode.safe) ∧ (holding s = false) ∧ (rides s
      (peerIn s f .rdc) = false) ∧ (u = submit (takeId s).1 (peerIn s f .rdc)) ∧ (u.coh.ingress.any (fun x => decide
      (x.id = (peerIn s f .rdc).id)) = true) :=
  ⟨{ bench 2 with coh := { slots := [(1, 2), (17, 2)] } }, { line := 1 }, (submit (takeId
    ({ bench 2 with coh := { slots := [(1, 2), (17, 2)] } })).1 (peerIn
    ({ bench 2 with coh := { slots := [(1, 2), (17, 2)] } }) { line := 1 } .rdc)), by decide +kernel,
    by decide +kernel, by decide +kernel, by decide +kernel, rfl, by decide +kernel⟩

theorem witness_CoherenceRequestsOfPeers_31 :
    ∃ (s : State) (f : Frame), (TakenNow s f) ∧ (awaiting s f = none) ∧ (s.code ≠ Mode.safe) ∧ (holding s = true) ∧
      (holdFits s (peerIn s f .wbm) = false) :=
  ⟨{ bench 5 with coh := { chain := List.replicate 512 (mkInternal (bench 2) 7 .memInv 0 0 64) } }, {},
    by decide +kernel⟩

theorem witness_CoherenceRequestsOfPeers_32 :
    ∃ (s : State) (f : Frame), (TakenNow s f) ∧ (awaiting s f = none) ∧ (s.code ≠ Mode.safe) ∧ (holding s = false) ∧
      (rides s (peerIn s f .wbm) = true) :=
  ⟨{ bench 2 with coh := { txns := [{ req := mkInternal (bench 2) 7 .memWr 0 0 64, hold := true }] } }, { line := 1 },
    by decide +kernel⟩

theorem witness_CoherenceRequestsOfPeers_33 :
    ∃ (s : State) (f : Frame) (u : State), (TakenNow s f) ∧ (awaiting s f = none) ∧ (s.code ≠ Mode.safe) ∧ (holding s
      = false) ∧ (rides s (peerIn s f .wbm) = false) ∧ (u = submit (takeId s).1 (peerIn s f .wbm)) ∧
      (u.coh.ingress.any (fun x => decide (x.id = (peerIn s f .wbm).id)) = true) :=
  ⟨{ bench 2 with coh := { slots := [(1, 2), (17, 2)] } }, { line := 1 }, (submit (takeId
    ({ bench 2 with coh := { slots := [(1, 2), (17, 2)] } })).1 (peerIn
    ({ bench 2 with coh := { slots := [(1, 2), (17, 2)] } }) { line := 1 } .wbm)), by decide +kernel,
    by decide +kernel, by decide +kernel, by decide +kernel, by decide +kernel, rfl, by decide +kernel⟩

theorem witness_CoherenceRequestsOfPeers_34 :
    ∃ (s : State) (f : Frame), (TakenNow s f) ∧ (awaiting s f = none) ∧ (s.code ≠ Mode.safe) ∧ (holding s = true) ∧
      (holdFits s (peerIn s f .evc) = false) :=
  ⟨{ bench 5 with coh := { chain := List.replicate 512 (mkInternal (bench 2) 7 .memInv 0 0 64) } }, {},
    by decide +kernel⟩

theorem witness_CoherenceRequestsOfPeers_35 :
    ∃ (s : State) (f : Frame), (TakenNow s f) ∧ (awaiting s f = none) ∧ (s.code ≠ Mode.safe) ∧ (holding s = false) ∧
      (rides s (peerIn s f .evc) = true) :=
  ⟨{ bench 2 with coh := { txns := [{ req := mkInternal (bench 2) 7 .memWr 0 0 64, hold := true }] } }, { line := 1 },
    by decide +kernel⟩

theorem witness_CoherenceRequestsOfPeers_36 :
    ∃ (s : State) (f : Frame) (u : State), (TakenNow s f) ∧ (awaiting s f = none) ∧ (s.code ≠ Mode.safe) ∧ (holding s
      = false) ∧ (rides s (peerIn s f .evc) = false) ∧ (u = submit (takeId s).1 (peerIn s f .evc)) ∧
      (u.coh.ingress.any (fun x => decide (x.id = (peerIn s f .evc).id)) = true) :=
  ⟨{ bench 2 with coh := { slots := [(1, 2), (17, 2)] } }, { line := 1 }, (submit (takeId
    ({ bench 2 with coh := { slots := [(1, 2), (17, 2)] } })).1 (peerIn
    ({ bench 2 with coh := { slots := [(1, 2), (17, 2)] } }) { line := 1 } .evc)), by decide +kernel,
    by decide +kernel, by decide +kernel, by decide +kernel, by decide +kernel, rfl, by decide +kernel⟩

theorem witness_CoherenceRequestsOfPeers_37 :
    ∃ (s : State) (f : Frame) (o : OldSet), (TakenUnder s f o) :=
  ⟨{ bench 2 with sets := { (bench 2).sets with swaps := 1, olds := [{ num := 0, tables := [], regs := [] }] }, pool := { take := [(0, 0, {}, 0)] } },
    {}, { num := 0, tables := [], regs := [] }, by decide +kernel⟩

theorem witness_CoherenceRequestsOfPeers_38 :
    ∃ (s : State) (f : Frame) (t : Txn), (TakenNow s f) ∧ (awaiting s f = some t) ∧ (t.wbWait.contains (f.line * 64,
      f.src) = true) :=
  ⟨{ bench 2 with coh := { txns := [{ req := mkInternal (bench 2) 7 .memInv 0 0 64, wbWait := [(64, 5)] }] } },
    { src := 5, line := 1, txid := 7 }, { req := mkInternal (bench 2) 7 .memInv 0 0 64, wbWait := [(64, 5)] },
    by decide +kernel⟩

theorem witness_CoherenceRequestsOfPeers_39 :
    ∃ (s : State) (f : Frame) (t : Txn), (TakenNow s f) ∧ (awaiting s f = some t) ∧ (t.wbWait.contains (f.line * 64,
      f.src) = false) :=
  ⟨{ bench 2 with coh := { txns := [{ req := mkInternal (bench 2) 7 .memInv 0 0 64, peers := [(64, 5)] }] } },
    { src := 5, line := 1, txid := 7 }, { req := mkInternal (bench 2) 7 .memInv 0 0 64, peers := [(64, 5)] },
    by decide +kernel⟩

theorem witness_CoherenceRequestsOfPeers_40 :
    ∃ (s : State) (f : Frame) (u : State) (w : WbFlight), (u = dropTaken s f) ∧ (u.coh.wb.find? (fun w => decide
      (w.dev = f.src ∧ w.line = f.line * 64 ∧ w.txid = f.txid)) = some w) :=
  ⟨{ bench 2 with coh := { wb := [{ dev := 5, line := 64, txid := 7, wbm := true, quad := 0 }] } },
    { src := 5, line := 1, txid := 7 }, (dropTaken
    { bench 2 with coh := { wb := [{ dev := 5, line := 64, txid := 7, wbm := true, quad := 0 }] } }
    { src := 5, line := 1, txid := 7 }), { dev := 5, line := 64, txid := 7, wbm := true, quad := 0 },
    by decide +kernel⟩

theorem witness_CoherenceRequestsOfPeers_41 :
    ∃ (s : State) (f : Frame) (u : State), (u = dropTaken s f) ∧ (u.coh.wb.find? (fun w => decide (w.dev = f.src ∧
      w.line = f.line * 64 ∧ w.txid = f.txid)) = none) :=
  ⟨(bench 2), { src := 5 }, (dropTaken (bench 2) { src := 5 }), by decide +kernel⟩

theorem witness_SnoopsAnswersAndGrants_1 :
    ∃ (s u : State) (f : Frame), (u = dropTaken s f) ∧ (openOn u f = none) :=
  ⟨(bench 2), (dropTaken (bench 2) {}), {}, by decide +kernel⟩

theorem witness_SnoopsAnswersAndGrants_2 :
    ∃ (s u : State) (f : Frame) (t : Txn), (u = dropTaken s f) ∧ (openOn u f = some t) :=
  ⟨{ bench 2 with coh := { txns := [{ req := { mkInternal (bench 2) 7 .memRdData 0 5 64 with origin := .host 0 1 }, phase := .remote, ask := some (1, 0) }] } },
    (dropTaken
    { bench 2 with coh := { txns := [{ req := { mkInternal (bench 2) 7 .memRdData 0 5 64 with origin := .host 0 1 }, phase := .remote, ask := some (1, 0) }] } }
    { src := 5, line := 1, txid := 7 }), { src := 5, line := 1, txid := 7 },
    { req := { mkInternal (bench 2) 7 .memRdData 0 5 64 with origin := .host 0 1 }, phase := .remote, ask := some (1, 0) },
    by decide +kernel⟩

theorem witness_SnoopsAnswersAndGrants_3 :
    ∃ (s u : State) (f : Frame) (t : Txn) (c : Nat), (u = dropTaken s f) ∧ (openOn u f = some t) ∧ (t.ask = some (3,
      c)) :=
  ⟨{ bench 2 with coh := { txns := [{ req := { mkInternal (bench 2) 7 .memRdData 0 5 64 with origin := .host 0 1 }, phase := .remote, ask := some (3, 0) }] } },
    (dropTaken
    { bench 2 with coh := { txns := [{ req := { mkInternal (bench 2) 7 .memRdData 0 5 64 with origin := .host 0 1 }, phase := .remote, ask := some (3, 0) }] } }
    { src := 5, line := 1, txid := 7 }), { src := 5, line := 1, txid := 7 },
    { req := { mkInternal (bench 2) 7 .memRdData 0 5 64 with origin := .host 0 1 }, phase := .remote, ask := some (3, 0) },
    0, by decide +kernel⟩

theorem witness_SnoopsAnswersAndGrants_4 :
    ∃ (s u : State) (f : Frame) (t : Txn), (u = dropTaken s f) ∧ (openOn u f = some t) ∧ ((t.ask.map (fun a =>
      a.1)).getD 0 ≠ 3) :=
  ⟨{ bench 2 with coh := { txns := [{ req := { mkInternal (bench 2) 7 .memRdData 0 5 64 with origin := .host 0 1 }, phase := .remote, ask := some (1, 0) }] } },
    (dropTaken
    { bench 2 with coh := { txns := [{ req := { mkInternal (bench 2) 7 .memRdData 0 5 64 with origin := .host 0 1 }, phase := .remote, ask := some (1, 0) }] } }
    { src := 5, line := 1, txid := 7 }), { src := 5, line := 1, txid := 7 },
    { req := { mkInternal (bench 2) 7 .memRdData 0 5 64 with origin := .host 0 1 }, phase := .remote, ask := some (1, 0) },
    by decide +kernel⟩

theorem witness_SnoopsAnswersAndGrants_5 :
    ∃ (s u : State) (f : Frame) (t : Txn), (TakenNow s f) ∧ (u = dropTaken s f) ∧ (answered u f = some t) :=
  ⟨{ bench 2 with coh := { txns := [{ req := mkInternal (bench 2) 7 .memInv 0 0 64, peers := [(64, 5)] }] } },
    (dropTaken
    { bench 2 with coh := { txns := [{ req := mkInternal (bench 2) 7 .memInv 0 0 64, peers := [(64, 5)] }] } }
    { src := 5, line := 1, txid := 7 }), { src := 5, line := 1, txid := 7 },
    { req := mkInternal (bench 2) 7 .memInv 0 0 64, peers := [(64, 5)] }, by decide +kernel⟩

theorem witness_SnoopsAnswersAndGrants_6 :
    ∃ (s u : State) (f : Frame) (t : Txn), (TakenNow s f) ∧ (u = dropTaken s f) ∧ (answered u f = some t) :=
  ⟨{ bench 2 with coh := { txns := [{ req := mkInternal (bench 2) 7 .memInv 0 0 64, peers := [(64, 5)] }] } },
    (dropTaken
    { bench 2 with coh := { txns := [{ req := mkInternal (bench 2) 7 .memInv 0 0 64, peers := [(64, 5)] }] } }
    { src := 5, line := 1, txid := 7 }), { src := 5, line := 1, txid := 7 },
    { req := mkInternal (bench 2) 7 .memInv 0 0 64, peers := [(64, 5)] }, by decide +kernel⟩

theorem witness_SnoopsAnswersAndGrants_7 :
    ∃ (s u : State) (f : Frame) (t : Txn), (TakenNow s f) ∧ (u = dropTaken s f) ∧ (answered u f = some t) ∧ (snpsKind
      t.req.kind = true) :=
  ⟨{ bench 2 with coh := { txns := [{ req := mkInternal (bench 2) 7 .memRdData 0 0 64, peers := [(64, 5)] }] } },
    (dropTaken
    { bench 2 with coh := { txns := [{ req := mkInternal (bench 2) 7 .memRdData 0 0 64, peers := [(64, 5)] }] } }
    { src := 5, line := 1, txid := 7 }), { src := 5, line := 1, txid := 7 },
    { req := mkInternal (bench 2) 7 .memRdData 0 0 64, peers := [(64, 5)] }, by decide +kernel⟩

theorem witness_SnoopsAnswersAndGrants_8 :
    ∃ (s u : State) (f : Frame) (t : Txn), (TakenNow s f) ∧ (u = dropTaken s f) ∧ (answered u f = some t) ∧ (snpsKind
      t.req.kind = false) :=
  ⟨{ bench 2 with coh := { txns := [{ req := mkInternal (bench 2) 7 .memInv 0 0 64, peers := [(64, 5)] }] } },
    (dropTaken
    { bench 2 with coh := { txns := [{ req := mkInternal (bench 2) 7 .memInv 0 0 64, peers := [(64, 5)] }] } }
    { src := 5, line := 1, txid := 7 }), { src := 5, line := 1, txid := 7 },
    { req := mkInternal (bench 2) 7 .memInv 0 0 64, peers := [(64, 5)] }, by decide +kernel⟩

theorem witness_SnoopsAnswersAndGrants_9 :
    ∃ (s u : State) (f : Frame) (t : Txn), (TakenNow s f) ∧ (u = dropTaken s f) ∧ (answered u f = some t) ∧
      (t.wbGot.contains (f.line * 64, f.src) = true) :=
  ⟨{ bench 2 with coh := { txns := [{ req := mkInternal (bench 2) 7 .memInv 0 0 64, peers := [(64, 5)], wbGot := [(64, 5)] }] } },
    (dropTaken
    { bench 2 with coh := { txns := [{ req := mkInternal (bench 2) 7 .memInv 0 0 64, peers := [(64, 5)], wbGot := [(64, 5)] }] } }
    { src := 5, line := 1, txid := 7 }), { src := 5, line := 1, txid := 7 },
    { req := mkInternal (bench 2) 7 .memInv 0 0 64, peers := [(64, 5)], wbGot := [(64, 5)] }, by decide +kernel⟩

theorem witness_SnoopsAnswersAndGrants_10 :
    ∃ (s u : State) (f : Frame) (t : Txn), (TakenNow s f) ∧ (u = dropTaken s f) ∧ (answered u f = some t) ∧
      (t.wbGot.contains (f.line * 64, f.src) = false) :=
  ⟨{ bench 2 with coh := { txns := [{ req := mkInternal (bench 2) 7 .memInv 0 0 64, peers := [(64, 5)] }] } },
    (dropTaken
    { bench 2 with coh := { txns := [{ req := mkInternal (bench 2) 7 .memInv 0 0 64, peers := [(64, 5)] }] } }
    { src := 5, line := 1, txid := 7 }), { src := 5, line := 1, txid := 7 },
    { req := mkInternal (bench 2) 7 .memInv 0 0 64, peers := [(64, 5)] }, by decide +kernel⟩

theorem witness_SnoopsAnswersAndGrants_11 :
    ∃ (s u : State) (f : Frame) (t : Txn), (TakenNow s f) ∧ (u = dropTaken s f) ∧ (answered u f = some t) ∧
      (t.req.kind = .rds) :=
  ⟨{ bench 2 with coh := { txns := [{ req := mkInternal (bench 2) 7 .rds 0 0 64, peers := [(64, 5)] }] } }, (dropTaken
    { bench 2 with coh := { txns := [{ req := mkInternal (bench 2) 7 .rds 0 0 64, peers := [(64, 5)] }] } }
    { src := 5, line := 1, txid := 7 }), { src := 5, line := 1, txid := 7 },
    { req := mkInternal (bench 2) 7 .rds 0 0 64, peers := [(64, 5)] }, by decide +kernel⟩

theorem witness_SnoopsAnswersAndGrants_12 :
    ∃ (s u : State) (f : Frame) (t : Txn), (TakenNow s f) ∧ (u = dropTaken s f) ∧ (answered u f = some t) ∧
      (t.req.kind ≠ .rds) :=
  ⟨{ bench 2 with coh := { txns := [{ req := mkInternal (bench 2) 7 .memInv 0 0 64, peers := [(64, 5)] }] } },
    (dropTaken
    { bench 2 with coh := { txns := [{ req := mkInternal (bench 2) 7 .memInv 0 0 64, peers := [(64, 5)] }] } }
    { src := 5, line := 1, txid := 7 }), { src := 5, line := 1, txid := 7 },
    { req := mkInternal (bench 2) 7 .memInv 0 0 64, peers := [(64, 5)] }, by decide +kernel⟩

theorem witness_SnoopsAnswersAndGrants_13 :
    ∃ (s u : State) (f : Frame), (TakenNow s f) ∧ (u = dropTaken s f) ∧ (answered u f = none) :=
  ⟨(bench 2), (dropTaken (bench 2) {}), {}, by decide +kernel⟩

theorem witness_SnoopsAnswersAndGrants_14 :
    ∃ (s u : State) (f : Frame) (o : OldSet) (t : Txn), (TakenUnder s f o) ∧ (u = dropTaken (putSet s o) f) ∧
      (answered u f = some t) :=
  ⟨{ bench 2 with sets := { (bench 2).sets with swaps := 1, olds := [{ num := 0, tables := [], regs := [] }] }, pool := { take := [(0, 0, { src := 5, line := 1, txid := 7 }, 0)] }, coh := { txns := [{ req := mkInternal (bench 2) 7 .memInv 0 0 64, peers := [(64, 5)] }] } },
    _, { src := 5, line := 1, txid := 7 }, { num := 0, tables := [], regs := [] },
    { req := mkInternal (bench 2) 7 .memInv 0 0 64, peers := [(64, 5)] }, by decide +kernel, rfl, by decide +kernel⟩

theorem witness_SnoopsAnswersAndGrants_15 :
    ∃ (s u v : State) (f : Frame) (o : OldSet) (t : Txn), (TakenUnder s f o) ∧ (u = dropTaken (putSet s o) f) ∧
      (granted u f = some t) ∧ (v = (recallLine u
      { t with ask := none, phase := .recall, ans := some (f.data, decide (128 ≤ f.opcode)) } t.req.line).1) :=
  ⟨{ bench 2 with sets := { (bench 2).sets with swaps := 1, olds := [{ num := 0, tables := [], regs := [] }] }, pool := { take := [(0, 0, { src := 5, line := 1, txid := 7 }, 0)] }, coh := { txns := [{ req := { mkInternal (bench 2) 7 .memRdData 0 5 64 with origin := .host 0 1 }, phase := .remote, ask := some (1, 0) }] } },
    _, _, { src := 5, line := 1, txid := 7 }, { num := 0, tables := [], regs := [] },
    { req := { mkInternal (bench 2) 7 .memRdData 0 5 64 with origin := .host 0 1 }, phase := .remote, ask := some (1, 0) },
    by decide +kernel, rfl, by decide +kernel, rfl⟩

theorem witness_SnoopsAnswersAndGrants_16 :
    ∃ (s u v : State) (f : Frame) (t : Txn), (TakenNow s f) ∧ (u = dropTaken s f) ∧ (granted u f = some t) ∧ (v =
      (pcPut u t.req.dev t.req.line
      { pcGet u t.req.dev t.req.line with pstate := 1, data := f.data, pois := decide (128 ≤ f.opcode), lc := madeCheck f.data })) :=
  ⟨{ bench 2 with coh := { txns := [{ req := { mkInternal (bench 2) 7 .memRdData 0 5 64 with origin := .host 0 1 }, phase := .remote, ask := some (1, 0) }] } },
    _, _, { src := 5, line := 1, txid := 7 },
    { req := { mkInternal (bench 2) 7 .memRdData 0 5 64 with origin := .host 0 1 }, phase := .remote, ask := some (1, 0) },
    by decide +kernel, rfl, by decide +kernel, rfl⟩

theorem witness_SnoopsAnswersAndGrants_17 :
    ∃ (s u v : State) (f : Frame) (t : Txn), (TakenNow s f) ∧ (u = dropTaken s f) ∧ (granted u f = some t) ∧ (v =
      (pcPut u t.req.dev t.req.line
      { pcGet u t.req.dev t.req.line with pstate := 2, data := f.data, pois := decide (128 ≤ f.opcode), lc := madeCheck f.data })) :=
  ⟨{ bench 2 with coh := { txns := [{ req := { mkInternal (bench 2) 7 .memRdData 0 5 64 with origin := .host 0 1 }, phase := .remote, ask := some (1, 0) }] } },
    _, _, { src := 5, line := 1, txid := 7 },
    { req := { mkInternal (bench 2) 7 .memRdData 0 5 64 with origin := .host 0 1 }, phase := .remote, ask := some (1, 0) },
    by decide +kernel, rfl, by decide +kernel, rfl⟩

theorem witness_SnoopsAnswersAndGrants_18 :
    ∃ (s u v : State) (f : Frame) (t : Txn), (TakenNow s f) ∧ (u = dropTaken s f) ∧ (granted u f = some t) ∧ (v =
      (pcPut u t.req.dev t.req.line
      { pcGet u t.req.dev t.req.line with pstate := 3, data := f.data, pois := decide (128 ≤ f.opcode), wtag := t.req.tag, lc := madeCheck f.data })) :=
  ⟨{ bench 2 with coh := { txns := [{ req := { mkInternal (bench 2) 7 .memRdData 0 5 64 with origin := .host 0 1 }, phase := .remote, ask := some (1, 0) }] } },
    _, _, { src := 5, line := 1, txid := 7 },
    { req := { mkInternal (bench 2) 7 .memRdData 0 5 64 with origin := .host 0 1 }, phase := .remote, ask := some (1, 0) },
    by decide +kernel, rfl, by decide +kernel, rfl⟩

theorem witness_SnoopsAnswersAndGrants_19 :
    ∃ (s u v : State) (f : Frame) (t : Txn), (TakenNow s f) ∧ (u = dropTaken s f) ∧ (granted u f = some t) ∧ (v =
      (pcPut u t.req.dev t.req.line { pcGet u t.req.dev t.req.line with pstate := 2 })) :=
  ⟨{ bench 2 with coh := { txns := [{ req := { mkInternal (bench 2) 7 .memRdData 0 5 64 with origin := .host 0 1 }, phase := .remote, ask := some (1, 0) }] } },
    _, _, { src := 5, line := 1, txid := 7 },
    { req := { mkInternal (bench 2) 7 .memRdData 0 5 64 with origin := .host 0 1 }, phase := .remote, ask := some (1, 0) },
    by decide +kernel, rfl, by decide +kernel, rfl⟩

theorem witness_SnoopsAnswersAndGrants_20 :
    ∃ (s u v : State) (f : Frame) (t : Txn), (TakenNow s f) ∧ (u = dropTaken s f) ∧ (granted u f = some t) ∧ (v = u) :=
  ⟨{ bench 2 with coh := { txns := [{ req := { mkInternal (bench 2) 7 .memRdData 0 5 64 with origin := .host 0 1 }, phase := .remote, ask := some (1, 0) }] } },
    _, _, { src := 5, line := 1, txid := 7 },
    { req := { mkInternal (bench 2) 7 .memRdData 0 5 64 with origin := .host 0 1 }, phase := .remote, ask := some (1, 0) },
    by decide +kernel, rfl, by decide +kernel, rfl⟩

theorem witness_SnoopsAnswersAndGrants_21 :
    ∃ (s u : State) (f : Frame), (TakenNow s f) ∧ (u = dropTaken s f) ∧ (granted u f = none) :=
  ⟨(bench 2), (dropTaken (bench 2) {}), {}, by decide +kernel⟩

theorem witness_PeerTimersSweepAndFlush_1 :
    ∃ (s : State) (d l : Nat) (t : Txn), (ExpiryActs s 1 (if e2eNow s d l then some s.clock else none)) ∧
      (s.coh.txns.find? (askDue s d l) = some t) :=
  ⟨{ bench 2 with clock := 1000000000, coh := { txns := [{ req := { mkInternal (bench 2) 7 .memRdData 0 5 64 with origin := .host 0 1 }, phase := .remote, ask := some (1, 0) }] } },
    5, 64,
    { req := { mkInternal (bench 2) 7 .memRdData 0 5 64 with origin := .host 0 1 }, phase := .remote, ask := some (1, 0) },
    by decide +kernel⟩

theorem witness_PeerTimersSweepAndFlush_2 :
    ∃ (s : State) (d l : Nat) (t : Txn), (ExpiryActs s 1 (if e2eNow s d l then some s.clock else none)) ∧
      (s.coh.txns.find? (askDue s d l) = none) ∧ (s.coh.txns.find? (snoopDue s d l) = some t) :=
  ⟨{ bench 2 with clock := 1000000000, coh := { txns := [{ req := mkInternal (bench 2) 7 .memInv 0 0 64, peers := [(64, 5)] }] } },
    5, 64, { req := mkInternal (bench 2) 7 .memInv 0 0 64, peers := [(64, 5)] }, by decide +kernel⟩

theorem witness_PeerTimersSweepAndFlush_3 :
    ∃ (s : State) (d l : Nat) (m : Move), (ExpiryActs s 1 (if e2eNow s d l then some s.clock else none)) ∧
      (s.coh.txns.find? (askDue s d l) = none) ∧ (s.coh.txns.find? (snoopDue s d l) = none) ∧ (s.tier.moves.find?
      (moveDue s d l) = some m) :=
  ⟨{ bench 2 with clock := 1000000000, tier := { moves := [{ id := 1, core := 0, slot := 0, page := 0, tgt := 3, dev := 5, ppage := 0, old := 0, phase := 4 }] } },
    5, 64, { id := 1, core := 0, slot := 0, page := 0, tgt := 3, dev := 5, ppage := 0, old := 0, phase := 4 },
    by decide +kernel⟩

theorem witness_PeerTimersSweepAndFlush_4 :
    ∃ (s : State) (d l : Nat), (ExpiryActs s 1 (if e2eNow s d l then some s.clock else none)) ∧ (s.coh.txns.find?
      (askDue s d l) = none) ∧ (s.coh.txns.find? (snoopDue s d l) = none) ∧ (s.tier.moves.find? (moveDue s d l) =
      none) ∧ (s.tier.peerMoves.find? (peerMoveDue s d l) = none) :=
  ⟨(bench 2), 5, 64, by decide +kernel⟩

theorem witness_PeerTimersSweepAndFlush_5 :
    ∃ (s : State) (d l : Nat) (x : PeerMove), (ExpiryActs s 1 (if e2eNow s d l then some s.clock else none)) ∧
      (s.coh.txns.find? (askDue s d l) = none) ∧ (s.coh.txns.find? (snoopDue s d l) = none) ∧ (s.tier.moves.find?
      (moveDue s d l) = none) ∧ (s.tier.peerMoves.find? (peerMoveDue s d l) = some x) :=
  ⟨{ bench 2 with clock := 1000000000, tier := { peerMoves := [{ dev := 5, mid := 1, page := 0, tag := 0, sending := false }] } },
    5, 64, { dev := 5, mid := 1, page := 0, tag := 0, sending := false }, by decide +kernel⟩

theorem witness_PeerTimersSweepAndFlush_6 :
    ∃ (s : State) (d l : Nat), (e2eNow s d l = true) ∧ (s.closing = false) :=
  ⟨{ bench 2 with clock := e2eClocks (bench 2), tier := { peerMoves := [{ dev := 5, mid := 1, page := 0, tag := 0, sending := false }] } },
    5, 64, by decide +kernel⟩

theorem witness_PeerTimersSweepAndFlush_7 :
    ∃ (s u : State), (s.coh.sweep = true) ∧ (u = { s with coh := { s.coh with sweep := false } }) :=
  ⟨{ bench 2 with coh := { sweep := true } }, { bench 2 with coh := { sweep := false } }, by decide +kernel⟩

theorem witness_PeerTimersSweepAndFlush_8 :
    ∃ (s : State), (s.coh.sweep = false) :=
  ⟨(bench 2), by decide +kernel⟩

theorem witness_PeerTimersSweepAndFlush_9 :
    ∃ (s : State) (l : Nat), (ownerLost s (decodeDir (dirWord s l)) = true) ∧ (lineOpen s s.devId l = false) :=
  ⟨{ hosted 2 with port := { (hosted 2).port with sub := [(0, { isolated := true })] }, coh := { dir := [(64, encodeDir { hs := 2, hvec := 1 })] } },
    64, by decide +kernel⟩

theorem witness_PeerTimersSweepAndFlush_10 :
    ∃ (s : State) (p : Path) (v : Word), (MayWrite s p Reg.HOME_PCFLUSH) :=
  ⟨(bench 2), .sideband, 1, by decide +kernel⟩

theorem witness_PeerTimersSweepAndFlush_11 :
    ∃ (s : State) (q : Fin 4), (s.coh.flush.contains q.val = false) :=
  ⟨(bench 2), 0, by decide +kernel⟩

theorem witness_PeerTimersSweepAndFlush_12 :
    ∃ (s : State) (q : Fin 4), (s.coh.flush.contains q.val = true) ∧ (flushed s q = true) :=
  ⟨{ bench 2 with coh := { flush := [0] } }, 0, by decide +kernel⟩

theorem witness_PeerTimersSweepAndFlush_13 :
    ∃ (s : State) (q : Fin 4), (s.coh.flush.contains q.val = true) ∧ (flushed s q = false) :=
  ⟨{ bench 2 with coh := { flush := [0], wb := [{ dev := 5, line := 64, txid := 7, wbm := true, quad := 0 }] } }, 0,
    by decide +kernel⟩

theorem witness_PeerTimersSweepAndFlush_14 :
    ∃ (s u : State) (p : Path) (v : Word) (r : Req), (MayWrite s p Reg.HOME_DQADDRHI) ∧ (u = s.setReg
      Reg.HOME_DQADDRHI (v &&& 0x3FFF#32)) ∧ (r = mkInternal (takeId u).1 (takeId u).2 .dqry 7 (takeId u).1.devId
      (u.fld Reg.HOME_DQADDRLO 31 6 * 64 + u.fld Reg.HOME_DQADDRHI 13 0 * 2 ^ 32)) ∧ (holding (takeId u).1 = true) :=
  ⟨(bench 5), _, .sideband, 1, _, by decide +kernel, rfl, rfl, by decide +kernel⟩

theorem witness_PeerTimersSweepAndFlush_15 :
    ∃ (s u : State) (p : Path) (v : Word) (r : Req), (MayWrite s p Reg.HOME_DQADDRHI) ∧ (u = s.setReg
      Reg.HOME_DQADDRHI (v &&& 0x3FFF#32)) ∧ (r = mkInternal (takeId u).1 (takeId u).2 .dqry 7 (takeId u).1.devId
      (u.fld Reg.HOME_DQADDRLO 31 6 * 64 + u.fld Reg.HOME_DQADDRHI 13 0 * 2 ^ 32)) ∧ (holding (takeId u).1 = false) :=
  ⟨(bench 2), _, .sideband, 1, _, by decide +kernel, rfl, rfl, by decide +kernel⟩

theorem witness_DramService_1 :
    ∃ (s : State) (c : Fin 24), (readyChan s c = true) ∧ (windowIdx s c ≠ (s.chan c).widx) :=
  ⟨((served 5).setChan 0 { widx := 7 }), 0, by decide +kernel⟩

theorem witness_DramService_2 :
    ∃ (s : State) (c : Fin 24), (windowIdx s c = (s.chan c).widx) :=
  ⟨((bench 2).setReg (Reg.DMC_REF 0) 0x9840000), 0, by decide +kernel⟩

theorem witness_DramService_3 :
    ∃ (s u : State) (c : Fin 24) (b : Fin 2) (k : Nat) (d : DCmd), (u = windowSync s c) ∧ (readyChan u c = true) ∧
      (u.fld (Reg.DMC_STAT c) 31 29 ≠ 3) ∧ ((issuable u c b)[k]? = some d) :=
  ⟨(served 5), _, 0, 0, 0, (.refresh 0 0), rfl, by decide +kernel, by decide +kernel, by decide +kernel⟩

theorem witness_DramService_4 :
    ∃ (s u : State) (c : Fin 24) (b : Fin 2) (k : Nat), (u = windowSync s c) ∧ (u.fld (Reg.DMC_STAT c) 31 29 = 3 ∨
      (issuable u c b)[k]? = none) :=
  ⟨(served 5), _, 0, 0, 99, rfl, by decide +kernel⟩

theorem witness_DramService_5 :
    ∃ (s : State) (c : Fin 24), (readyChan s c = true) :=
  ⟨(served 5), 0, by decide +kernel⟩

theorem witness_DramService_6 :
    ∃ (s u : State) (c : Fin 24) (x : Bool), (readyChan s c = true) ∧ (u = raiseChan s c (if x then 4 else 3) none {}) :=
  ⟨(served 5), (raiseChan (served 5) 0 4 none {}), 0, true, by decide +kernel⟩

theorem witness_DramService_7 :
    ∃ (s u : State) (c : Fin 24) (x : Bool), (readyChan s c = true) ∧ (u = raiseChan s c (if x then 4 else 3) none {})
      ∧ (15 ≤ ((u.chan c).retries.filter (fun t => decide (u.clock < t + msClocks))).length) :=
  ⟨((served 5).setChan 0 { retries := List.replicate 15 0 }), (raiseChan ((served 5).setChan 0
    { retries := List.replicate 15 0 }) 0 4 none {}), 0, true, by decide +kernel⟩

theorem witness_DramService_8 :
    ∃ (s : State) (c : Fin 24) (x a : Bool) (b : Fin 2) (k : Nat), (readyChan s c = false) :=
  ⟨(bench 2), 0, true, true, 0, 0, by decide +kernel⟩

theorem witness_DramTrainingRepairAndTest_1 :
    ∃ (s : State) (p : Path) (c : Fin 24), (MayWrite s p (Reg.DMC_CTL c)) ∧ (isolated s (uChan c) = false ∨ canEnable
      s (uChan c) = true) :=
  ⟨(bench 2), .sideband, 0, by decide +kernel⟩

theorem witness_DramTrainingRepairAndTest_2 :
    ∃ (s : State) (p : Path) (c : Fin 24), (MayWrite s p (Reg.DMC_CTL c)) ∧ (readyChan (s.setBit (Reg.DMC_CTL c) 0
      false) c = true) :=
  ⟨(served 5), .sideband, 0, by decide +kernel⟩

theorem witness_DramTrainingRepairAndTest_3 :
    ∃ (s : State) (p : Path) (c : Fin 24), (MayWrite s p (Reg.DMC_CTL c)) :=
  ⟨(bench 2), .sideband, 0, by decide +kernel⟩

theorem witness_DramTrainingRepairAndTest_4 :
    ∃ (s : State) (p : Path) (c : Fin 24) (k : Fin 4), (MayWriteGk s p (Reg.DMC_TRAIN c)) ∧ (s.bit (Reg.DMC_CTL c) 0 =
      true) ∧ (readyChan s c = false) ∧ ((s.chan c).training = false) :=
  ⟨(({ bench 2 with acc := { keys := [(.sideband, 0)] } } : State).setReg (Reg.DMC_CTL 0) 1), .sideband, 0, 1,
    by decide +kernel⟩

theorem witness_DramTrainingRepairAndTest_5 :
    ∃ (s : State) (p : Path) (c : Fin 24) (k : Fin 4), (MayWriteGk s p (Reg.DMC_TRAIN c)) ∧ (s.bit (Reg.DMC_CTL c) 0 =
      false ∨ readyChan s c = true ∨ (s.chan c).training = true) :=
  ⟨(({ bench 2 with acc := { keys := [(.sideband, 0)] } } : State).setReg (Reg.DMC_CTL 0) 0), .sideband, 0, 1,
    by decide +kernel⟩

theorem witness_DramTrainingRepairAndTest_6 :
    ∃ (s : State) (c : Fin 24) (k : BitVec 4) (d : Bool), ((s.chan c).training = true) ∧ (s.bit (Reg.DMC_CTL c) 0 =
      true) :=
  ⟨(((bench 2).setChan 0 { training := true }).setReg (Reg.DMC_CTL 0) 1), 0, 15, false, by decide +kernel⟩

theorem witness_DramTrainingRepairAndTest_7 :
    ∃ (s : State) (c : Fin 24) (k : BitVec 4) (d : Bool), ((s.chan c).training = false) :=
  ⟨(bench 2), 0, 15, false, by decide +kernel⟩

theorem witness_DramTrainingRepairAndTest_8 :
    ∃ (s : State) (p : Path) (k : Fin 4) (m : BitVec 24), (MayWriteGk s p Reg.DMC_FCHG) :=
  ⟨{ bench 2 with acc := { keys := [(.sideband, 0)] } }, .sideband, 1, 1, by decide +kernel⟩

theorem witness_DramTrainingRepairAndTest_9 :
    ∃ (s : State) (k m : Nat), (s.dram.fchg.isSome = true) :=
  ⟨{ bench 5 with dram := { fchg := some (1, 1) } }, 1, 1, by decide +kernel⟩

theorem witness_DramTrainingRepairAndTest_10 :
    ∃ (s : State) (k m : Nat), (s.dram.fchg = none) ∧ (s.code ≠ Mode.hold) :=
  ⟨(bench 2), 1, 1, by decide +kernel⟩

theorem witness_DramTrainingRepairAndTest_11 :
    ∃ (s : State) (k m : Nat), (s.dram.fchg = none) ∧ (s.code = Mode.hold) ∧ (s.changing = false) ∧ ((bitsOf 24 0
      m).any (fun c => !readyChan s c) = true) :=
  ⟨(bench 5), 1, 1, by decide +kernel⟩

theorem witness_DramTrainingRepairAndTest_12 :
    ∃ (s : State) (f : BitVec 24), (s.dram.fchg = none) :=
  ⟨(bench 5), 1, by decide +kernel⟩

theorem witness_DramTrainingRepairAndTest_13 :
    ∃ (s u : State) (f : BitVec 24) (k m : Nat), (s.dram.fchg = some (k, m)) ∧ (u = fchgChans s k (f.toNat &&& m)
      (bitsOf 24 0 m)) :=
  ⟨{ bench 5 with dram := { fchg := some (1, 1) } }, (fchgChans { bench 5 with dram := { fchg := some (1, 1) } } 1 0
    [0]), 0, 1, 1, by decide +kernel⟩

theorem witness_DramTrainingRepairAndTest_14 :
    ∃ (s : State) (p : Path) (c : Fin 24) (n : Nat), (MayWrite s p (Reg.DMC_PARREB c)) ∧ (readyChan s c = true) ∧
      ((s.chan c).rebuild.isSome = true) ∧ (s.bit (Reg.DMC_PARREB c) 30 = false) ∧ (setOfChan s c = some n) ∧ (setPar
      s n = true) ∧ (setOff s n = false) :=
  ⟨(let m := tabPut [] 4 0 0x90000001 4;
    { (served 5).setChan 0 { rebuild := some 0 } with sets := { active := m, shadow := m } }), .sideband, 0, 0,
    by decide +kernel⟩

theorem witness_DramTrainingRepairAndTest_15 :
    ∃ (s : State) (p : Path) (c : Fin 24), (MayWrite s p (Reg.DMC_PARREB c)) ∧ (readyChan s c = false ∨ (s.chan
      c).rebuild = none) :=
  ⟨(bench 2), .sideband, 0, by decide +kernel⟩

theorem witness_DramTrainingRepairAndTest_16 :
    ∃ (s u : State) (c : Fin 24), (s.bit (Reg.DMC_PARREB c) 30 = true) ∧ (u = (s.setReg (Reg.DMC_PARREB c)
      0x3FF#32).setChan c { s.chan c with rebuild := none }) :=
  ⟨((served 5).setReg (Reg.DMC_PARREB 0) 0x40000000), ((((served 5).setReg (Reg.DMC_PARREB 0) 0x40000000).setReg
    (Reg.DMC_PARREB 0) 0x3FF).setChan 0
    { ((served 5).setReg (Reg.DMC_PARREB 0) 0x40000000).chan 0 with rebuild := none }), 0, by decide +kernel⟩

theorem witness_DramTrainingRepairAndTest_17 :
    ∃ (s : State) (c : Fin 24), (s.bit (Reg.DMC_PARREB c) 30 = false) :=
  ⟨(bench 2), 0, by decide +kernel⟩

theorem witness_DramTrainingRepairAndTest_18 :
    ∃ (s u : State) (p : Path) (c : Fin 24) (k : Fin 16) (b : Fin 2) (a : Fin 32) (r : BitVec 17), (MayWriteGk s p
      (Reg.DMC_PPR c)) ∧ (u = (disarm s p).setReg (Reg.DMC_PPR c) (pprWord 1 k b a r &&& 0xFFF1FFFF#32)) ∧ ((u.chan
      c).ppr.isSome = true) :=
  ⟨(({ bench 2 with acc := { keys := [(.sideband, 0)] } } : State).setChan 0 { ppr := some 0 }), _, .sideband, 0, 0,
    0, 0, 0, by decide +kernel, rfl, by decide +kernel⟩

theorem witness_DramTrainingRepairAndTest_19 :
    ∃ (s u : State) (p : Path) (c : Fin 24) (k : Fin 16) (b : Fin 2) (a : Fin 32) (r : BitVec 17), (MayWriteGk s p
      (Reg.DMC_PPR c)) ∧ (u = (disarm s p).setReg (Reg.DMC_PPR c) (pprWord 1 k b a r &&& 0xFFF1FFFF#32)) ∧ ((u.chan
      c).ppr = none) ∧ (readyChan u c = true) :=
  ⟨{ served 5 with acc := { keys := [(.sideband, 0)] } }, _, .sideband, 0, 0, 0, 0, 0, by decide +kernel, rfl,
    by decide +kernel, by decide +kernel⟩

theorem witness_DramTrainingRepairAndTest_20 :
    ∃ (s u : State) (p : Path) (c : Fin 24) (k : Fin 16) (b : Fin 2) (a : Fin 32) (r : BitVec 17), (MayWriteGk s p
      (Reg.DMC_PPR c)) ∧ (u = (disarm s p).setReg (Reg.DMC_PPR c) (pprWord 1 k b a r &&& 0xFFF1FFFF#32)) ∧ ((u.chan
      c).ppr = none) ∧ (readyChan u c = false) :=
  ⟨{ bench 2 with acc := { keys := [(.sideband, 0)] } }, _, .sideband, 0, 0, 0, 0, 0, by decide +kernel, rfl,
    by decide +kernel, by decide +kernel⟩

theorem witness_DramTrainingRepairAndTest_21 :
    ∃ (s u : State) (p : Path) (c : Fin 24) (k : Fin 16) (b : Fin 2) (a : Fin 32) (r : BitVec 17), (MayWriteGk s p
      (Reg.DMC_PPR c)) ∧ (u = (disarm s p).setReg (Reg.DMC_PPR c) (pprWord 2 k b a r &&& 0xFFF1FFFF#32)) ∧ ((u.chan
      c).ppr.isSome = true) :=
  ⟨(({ bench 2 with acc := { keys := [(.sideband, 0)] } } : State).setChan 0 { ppr := some 0 }), _, .sideband, 0, 0,
    0, 0, 0, by decide +kernel, rfl, by decide +kernel⟩

theorem witness_DramTrainingRepairAndTest_22 :
    ∃ (s u : State) (p : Path) (c : Fin 24) (k : Fin 16) (b : Fin 2) (a : Fin 32) (r : BitVec 17), (MayWriteGk s p
      (Reg.DMC_PPR c)) ∧ (u = (disarm s p).setReg (Reg.DMC_PPR c) (pprWord 2 k b a r &&& 0xFFF1FFFF#32)) ∧ ((u.chan
      c).ppr = none) ∧ (readyChan u c = false) ∧ (u.bit (Reg.DMC_CTL c) 0 = false) ∧ ((u.chan c).training = false) :=
  ⟨(({ bench 2 with acc := { keys := [(.sideband, 0)] } } : State).setReg (Reg.DMC_CTL 0) 0), _, .sideband, 0, 0, 0,
    0, 0, by decide +kernel, rfl, by decide +kernel, by decide +kernel, by decide +kernel, by decide +kernel⟩

theorem witness_DramTrainingRepairAndTest_23 :
    ∃ (s u : State) (p : Path) (c : Fin 24) (k : Fin 16) (b : Fin 2) (a : Fin 32) (r : BitVec 17), (MayWriteGk s p
      (Reg.DMC_PPR c)) ∧ (u = (disarm s p).setReg (Reg.DMC_PPR c) (pprWord 2 k b a r &&& 0xFFF1FFFF#32)) ∧ ((u.chan
      c).ppr = none) ∧ (readyChan u c = true) :=
  ⟨{ served 5 with acc := { keys := [(.sideband, 0)] } }, _, .sideband, 0, 0, 0, 0, 0, by decide +kernel, rfl,
    by decide +kernel, by decide +kernel⟩

theorem witness_DramTrainingRepairAndTest_24 :
    ∃ (s u : State) (c : Fin 24) (v : Word) (l : List Nat), ((s.chan c).ppr = some v) ∧ (u = (s.setChan c
      { s.chan c with ppr := none }).setReg (Reg.DMC_PPRSTAT c) 0) ∧ (fld v 31 30 = 1) :=
  ⟨((served 5).setChan 0 { ppr := some 0x40000000 }), ((((served 5).setChan 0 { ppr := some 0x40000000 }).setChan 0
    { ((served 5).setChan 0 { ppr := some 0x40000000 }).chan 0 with ppr := none }).setReg (Reg.DMC_PPRSTAT 0) 0), 0,
    0x40000000, [], by decide +kernel⟩

theorem witness_DramTrainingRepairAndTest_25 :
    ∃ (s u : State) (c : Fin 24) (v : Word) (r : Fin 4) (l : List Nat), ((s.chan c).ppr = some v) ∧ (u = (s.setChan c
      { s.chan c with ppr := none }).setReg (Reg.DMC_PPRSTAT c) (BitVec.ofNat 32 (r.val * 2 ^ 28))) ∧ (fld v 31 30 =
      2) ∧ (r.val ≠ 0) :=
  ⟨((served 5).setChan 0 { ppr := some 0x80000000 }), _, 0, 0x80000000, 1, [], by decide +kernel, rfl,
    by decide +kernel, by decide +kernel⟩

theorem witness_DramTrainingRepairAndTest_26 :
    ∃ (s : State) (c : Fin 24) (r : Fin 4) (l : List Nat), ((s.chan c).ppr = none) :=
  ⟨(bench 2), 0, 1, [], by decide +kernel⟩

theorem witness_DramTrainingRepairAndTest_27 :
    ∃ (s u : State) (p : Path) (c : Fin 24), (MayWriteGk s p (Reg.DMC_TESTCTL c)) ∧ (s.code = Mode.test) ∧ (s.changing
      = false) ∧ (u = (disarm s p).setF (Reg.DMC_TESTCTL c) 2 0 1) :=
  ⟨{ bench 6 with acc := { keys := [(.sideband, 0)] } }, _, .sideband, 0, by decide +kernel, by decide +kernel,
    by decide +kernel, rfl⟩

theorem witness_DramTrainingRepairAndTest_28 :
    ∃ (s u : State) (p : Path) (c : Fin 24), (MayWriteGk s p (Reg.DMC_TESTCTL c)) ∧ (s.code = Mode.test) ∧ (s.changing
      = false) ∧ (u = (disarm s p).setF (Reg.DMC_TESTCTL c) 2 0 2) :=
  ⟨{ bench 6 with acc := { keys := [(.sideband, 0)] } }, _, .sideband, 0, by decide +kernel, by decide +kernel,
    by decide +kernel, rfl⟩

theorem witness_DramTrainingRepairAndTest_29 :
    ∃ (s u : State) (p : Path) (c : Fin 24), (MayWriteGk s p (Reg.DMC_TESTCTL c)) ∧ (s.code = Mode.test) ∧ (s.changing
      = false) ∧ (u = (disarm s p).setF (Reg.DMC_TESTCTL c) 2 0 3) :=
  ⟨{ bench 6 with acc := { keys := [(.sideband, 0)] } }, _, .sideband, 0, by decide +kernel, by decide +kernel,
    by decide +kernel, rfl⟩

theorem witness_DramTrainingRepairAndTest_30 :
    ∃ (s u : State) (p : Path) (c : Fin 24), (MayWriteGk s p (Reg.DMC_TESTCTL c)) ∧ (s.code = Mode.test) ∧ (s.changing
      = false) ∧ (u = (disarm s p).setF (Reg.DMC_TESTCTL c) 2 0 4) :=
  ⟨{ bench 6 with acc := { keys := [(.sideband, 0)] } }, _, .sideband, 0, by decide +kernel, by decide +kernel,
    by decide +kernel, rfl⟩

theorem witness_DramTrainingRepairAndTest_31 :
    ∃ (s : State) (p : Path) (c : Fin 24), (MayWriteGk s p (Reg.DMC_TESTCTL c)) ∧ (s.code ≠ Mode.test ∨ s.changing =
      true) :=
  ⟨{ bench 2 with acc := { keys := [(.sideband, 0)] } }, .sideband, 0, by decide +kernel⟩

theorem witness_SnapshotsAndSamplers_1 :
    ∃ (s : State) (p : Path), (MayWrite s p Reg.TEL_CTL) :=
  ⟨(bench 2), .sideband, by decide +kernel⟩

theorem witness_SnapshotsAndSamplers_2 :
    ∃ (s : State), (s.tel.clr = true) :=
  ⟨{ bench 2 with tel := { clr := true } }, by decide +kernel⟩

theorem witness_SnapshotsAndSamplers_3 :
    ∃ (s u : State) (p : Path) (k : Fin 64), (MayWrite s p Reg.TEL_SNAPCTL) ∧ (u = s.setReg Reg.TEL_SNAPCTL
      (BitVec.ofNat 32 (snapPeriod k.val))) ∧ (poolSched u = true) :=
  ⟨({ bench 2 with tel := { sched := some { tide := 9, period := 0, pool := true } } }),
    (({ bench 2 with tel := { sched := some { tide := 9, period := 0, pool := true } } }).setReg Reg.TEL_SNAPCTL
    (BitVec.ofNat 32 (snapPeriod 0))), .sideband, 0, by decide +kernel⟩

theorem witness_SnapshotsAndSamplers_4 :
    ∃ (s u : State) (p : Path) (k : Fin 64), (MayWrite s p Reg.TEL_SNAPCTL) ∧ (u = s.setReg Reg.TEL_SNAPCTL
      (BitVec.ofNat 32 (snapPeriod k.val))) ∧ (poolSched u = false) ∧ (snapAt u ≤ u.tide) :=
  ⟨(bench 2), ((bench 2).setReg Reg.TEL_SNAPCTL (BitVec.ofNat 32 (snapPeriod 0))), .sideband, 0, by decide +kernel⟩

theorem witness_SnapshotsAndSamplers_5 :
    ∃ (s u : State) (p : Path) (k : Fin 64), (MayWrite s p Reg.TEL_SNAPCTL) ∧ (u = s.setReg Reg.TEL_SNAPCTL
      (BitVec.ofNat 32 (snapPeriod k.val))) ∧ (poolSched u = false) ∧ (u.tide < snapAt u) :=
  ⟨((bench 2).setReg Reg.TEL_SNAPAT_LO 9), (((bench 2).setReg Reg.TEL_SNAPAT_LO 9).setReg Reg.TEL_SNAPCTL
    (BitVec.ofNat 32 (snapPeriod 0))), .sideband, 0, by decide +kernel⟩

theorem witness_SnapshotsAndSamplers_6 :
    ∃ (s u : State) (p : Path) (k : Fin 64), (MayWrite s p Reg.TEL_SNAPCTL) ∧ (u = s.setReg Reg.TEL_SNAPCTL
      (BitVec.ofNat 32 (snapPeriod k.val))) ∧ (isMaster u = false) :=
  ⟨(bench 2), ((bench 2).setReg Reg.TEL_SNAPCTL (BitVec.ofNat 32 (snapPeriod 0))), .sideband, 0, by decide +kernel⟩

theorem witness_SnapshotsAndSamplers_7 :
    ∃ (s u : State) (p : Path) (k : Fin 64), (MayWrite s p Reg.TEL_SNAPCTL) ∧ (u = s.setReg Reg.TEL_SNAPCTL
      (BitVec.ofNat 32 (snapPeriod k.val))) ∧ (isMaster u = true) ∧ (snapAt u < u.tide + 12500) :=
  ⟨(mastered), ((mastered).setReg Reg.TEL_SNAPCTL (BitVec.ofNat 32 (snapPeriod 0))), .sideband, 0, by decide +kernel⟩

theorem witness_SnapshotsAndSamplers_8 :
    ∃ (s u : State) (p : Path) (k : Fin 64), (MayWrite s p Reg.TEL_SNAPCTL) ∧ (u = s.setReg Reg.TEL_SNAPCTL
      (BitVec.ofNat 32 (snapPeriod k.val))) ∧ (isMaster u = true) ∧ (u.tide + 12500 ≤ snapAt u) :=
  ⟨(mastered.setReg Reg.TEL_SNAPAT_LO 12500), ((mastered.setReg Reg.TEL_SNAPAT_LO 12500).setReg Reg.TEL_SNAPCTL
    (BitVec.ofNat 32 (snapPeriod 0))), .sideband, 0, by decide +kernel⟩

theorem witness_SnapshotsAndSamplers_9 :
    ∃ (s u : State) (p : Path) (k : Nat), (MayWrite s p Reg.TEL_SNAPCTL) ∧ (k = s.fld Reg.TEL_SNAPCTL 5 0) ∧ (u =
      s.setReg Reg.TEL_SNAPCTL (BitVec.ofNat 32 (snapPeriod k))) :=
  ⟨(bench 2), ((bench 2).setReg Reg.TEL_SNAPCTL (BitVec.ofNat 32 (snapPeriod 0))), .sideband, 0, by decide +kernel⟩

theorem witness_SnapshotsAndSamplers_10 :
    ∃ (s : State) (x : Sched), (s.tel.sched = some x) ∧ (x.tide ≤ s.tide) :=
  ⟨{ bench 2 with tel := { sched := some { tide := 0, period := 0, pool := true } } },
    { tide := 0, period := 0, pool := true }, by decide +kernel⟩

theorem witness_SnapshotsAndSamplers_11 :
    ∃ (s : State) (x : Sched), (s.tel.sched = some x) ∧ (s.tide < x.tide) :=
  ⟨{ bench 2 with tel := { sched := some { tide := 9, period := 0, pool := true } } },
    { tide := 9, period := 0, pool := true }, by decide +kernel⟩

theorem witness_SnapshotsAndSamplers_12 :
    ∃ (s : State) (t : Nat), (s.tel.copy = none) :=
  ⟨(bench 2), 0, by decide +kernel⟩

theorem witness_SnapshotsAndSamplers_13 :
    ∃ (s : State) (t : Nat), (s.tel.copy.isSome = true) :=
  ⟨{ bench 2 with tel := { copy := some (5, 0) } }, 0, by decide +kernel⟩

theorem witness_SnapshotsAndSamplers_14 :
    ∃ (s u : State) (t c : Nat), (s.tel.copy = some (t, c)) ∧ (u =
      (({ s with tel := { s.tel with snap := s.tel.latches, latches := [], copy := none } }.setReg Reg.TEL_SNAPTIDE_LO
      (BitVec.ofNat 32 t)).setReg Reg.TEL_SNAPTIDE_HI (BitVec.ofNat 32 (t / 2 ^ 32))).setBit Reg.TEL_SNAPSTAT 30
      false) :=
  ⟨{ bench 2 with tel := { copy := some (5, 0) } }, ((({ bench 2 with tel := {} }.setReg Reg.TEL_SNAPTIDE_LO 5).setReg
    Reg.TEL_SNAPTIDE_HI 0).setBit Reg.TEL_SNAPSTAT 30 false), 5, 0, by decide +kernel⟩

theorem witness_SnapshotsAndSamplers_15 :
    ∃ (s : State), (s.tel.copy = none) :=
  ⟨(bench 2), by decide +kernel⟩

theorem witness_SnapshotsAndSamplers_16 :
    ∃ (s : State) (n : Fin 8), ((liveCnt s (smpCnt s n) + 2 ^ 48 - smGet 0 s.tel.base n) % 2 ^ 48 < smpPer s n ∨ smpEn
      s n = false) :=
  ⟨(bench 2), 0, by decide +kernel⟩

theorem witness_SnapshotsAndSamplers_17 :
    ∃ (s : State) (n : Fin 8) (u : State) (m b : Nat), (smpEn s n = true) ∧ (m = smpCnt s n) ∧ (b = smGet 0 s.tel.base
      n) ∧ (smpPer s n ≤ (liveCnt s m + 2 ^ 48 - b) % 2 ^ 48) ∧ (m / 8 < 104) ∧ (u =
      { s with tel := { s.tel with base := smSet 0 s.tel.base n ((b + smpPer s n) % 2 ^ 48) } }) :=
  ⟨(({ bench 2 with tel := { cnt := [(0, 5)] } }.setReg (Reg.TEL_SMPCTL 0) 0x80000000).setReg (Reg.TEL_SMPPER 0) 5),
    0,
    { (({ bench 2 with tel := { cnt := [(0, 5)] } }.setReg (Reg.TEL_SMPCTL 0) 0x80000000).setReg (Reg.TEL_SMPPER 0) 5) with tel := { (({ bench 2 with tel := { cnt := [(0, 5)] } }.setReg (Reg.TEL_SMPCTL 0) 0x80000000).setReg (Reg.TEL_SMPPER 0) 5).tel with base := smSet 0 (({ bench 2 with tel := { cnt := [(0, 5)] } }.setReg (Reg.TEL_SMPCTL 0) 0x80000000).setReg (Reg.TEL_SMPPER 0) 5).tel.base 0 ((0 + smpPer (({ bench 2 with tel := { cnt := [(0, 5)] } }.setReg (Reg.TEL_SMPCTL 0) 0x80000000).setReg (Reg.TEL_SMPPER 0) 5) 0) % 2 ^ 48) } },
    0, 0, by decide +kernel⟩

theorem witness_SnapshotsAndSamplers_18 :
    ∃ (s : State) (n : Fin 8) (e : Nat × Nat), (ExpiryActs s 1 (some (e.2 + 4096))) ∧ (s.tel.waiting.find? (fun e =>
      decide (e.1 = n.val ∧ e.2 + 4096 ≤ s.clock)) = some e) :=
  ⟨{ bench 2 with clock := 4097, tel := { waiting := [(0, 0)] } }, 0, (0, 0), by decide +kernel⟩

theorem witness_SnapshotsAndSamplers_19 :
    ∃ (s : State) (n : Fin 8), (s.tel.waiting.find? (fun e => decide (e.1 = n.val ∧ e.2 + 4096 ≤ s.clock)) = none) :=
  ⟨(bench 2), 0, by decide +kernel⟩

theorem witness_SnapshotsAndSamplers_20 :
    ∃ (s : State) (p : Path), (MayWrite s p Reg.TEL_SMPPOP) :=
  ⟨(bench 2), .sideband, by decide +kernel⟩

theorem witness_SnapshotsAndSamplers_21 :
    ∃ (s : State) (p : Path), (MayWrite s p Reg.TEL_SMPPOP) :=
  ⟨(bench 2), .sideband, by decide +kernel⟩

theorem witness_SnapshotsAndSamplers_22 :
    ∃ (s : State) (p : Path) (n : Fin 8) (v : Word), (MayWrite s p (Reg.TEL_SMPCTL n)) :=
  ⟨(bench 2), .sideband, 0, 0, by decide +kernel⟩

theorem witness_FaultCollector_1 :
    ∃ (s : State) (c : Fin 1536) (i : Info) (a : Nat) (x : Bool) (k : Nat), (s.inReset = false) ∧ (srcPresent c =
      true) :=
  ⟨(bench 2), 0, {}, 0, false, 0, by decide +kernel⟩

theorem witness_FaultCollector_2 :
    ∃ (s : State) (l : Nat), (l < 32) :=
  ⟨(bench 2), 5, by decide +kernel⟩

theorem witness_FaultCollector_3 :
    ∃ (s : State) (c : Fin 1536) (i : Info) (a : Option (Nat × Bool × Nat)), (s.inReset = true ∨ srcPresent c = false) :=
  ⟨(bench 2), 1535, {}, none, by decide +kernel⟩

theorem witness_FaultCollector_4 :
    ∃ (s : State) (p : Path) (n : Fin 48) (v : Word), (MayWriteGk s p (Reg.FLT_FORCE n)) :=
  ⟨({ bench 2 with acc := { keys := [(.sideband, 0)] } }), .sideband, 0, 1, by decide +kernel⟩

theorem witness_FaultCollector_5 :
    ∃ (s : State) (p : Path) (n : Fin 48) (v : Word), (MayWrite s p (Reg.FLT_STICKY n)) :=
  ⟨(bench 2), .sideband, 0, 1, by decide +kernel⟩

theorem witness_FaultCollector_6 :
    ∃ (s : State) (p : Path), (MayWrite s p Reg.FLT_CAPPOP) :=
  ⟨(bench 2), .sideband, by decide +kernel⟩

theorem witness_FaultCollector_7 :
    ∃ (s : State) (l : List CapRec), (l = capNow s ++ s.flt.lostNow) :=
  ⟨(bench 2), _, rfl⟩

theorem witness_FaultCollector_8 :
    ∃ (s : State), (s.flt.now = 0) ∧ (s.flt.lostNow = []) :=
  ⟨(bench 2), by decide +kernel⟩

theorem witness_FaultCollector_9 :
    ∃ (s : State) (l : Fin 320) (k : Fin 4) (r : EvRec), ((smGet [] s.evt.logs (4 * l.val + k.val)).find? (fun r =>
      !r.sent) = some r) ∧ (canDeliver s l = true) :=
  ⟨{ hosted 2 with evt := { logs := [(0, [evRec])] } }, 0, 0, evRec, by decide +kernel⟩

theorem witness_FaultCollector_10 :
    ∃ (s : State) (l : Fin 320) (k : Fin 4), ((smGet [] s.evt.logs (4 * l.val + k.val)).find? (fun r => !r.sent) =
      none ∨ canDeliver s l = false) :=
  ⟨(bench 2), 0, 0, by decide +kernel⟩

theorem witness_FaultCollector_11 :
    ∃ (s : State) (r : EvRec) (l : List EvRec), (s.evt.sbq = r :: l) :=
  ⟨{ bench 2 with evt := { sbq := [evRec] } }, evRec, [], by decide +kernel⟩

theorem witness_FaultCollector_12 :
    ∃ (s : State), (s.evt.sbq = []) :=
  ⟨(bench 2), by decide +kernel⟩

theorem witness_RakeAndFieldRepair_1 :
    ∃ (s : State) (p : Path) (v : Word) (u : State), (MayWrite s p Reg.RAKE_CTL) ∧ (u = s.setF Reg.RAKE_CTL 3 1 (fld v
      3 1)) ∧ (bit v 0 = true) ∧ (u.bit Reg.RAKE_STAT 31 = false) :=
  ⟨(bench 2), .sideband, 1, ((bench 2).setF Reg.RAKE_CTL 3 1 0), by decide +kernel⟩

theorem witness_RakeAndFieldRepair_2 :
    ∃ (s : State) (p : Path) (v : Word) (u : State), (MayWrite s p Reg.RAKE_CTL) ∧ (u = s.setF Reg.RAKE_CTL 3 1 (fld v
      3 1)) ∧ (bit v 0 = false ∨ u.bit Reg.RAKE_STAT 31 = true) :=
  ⟨(bench 2), .sideband, 0, ((bench 2).setF Reg.RAKE_CTL 3 1 0), by decide +kernel⟩

theorem witness_RakeAndFieldRepair_3 :
    ∃ (s : State) (e : List (List (Nat × Word))), (rakeRuns s = false ∨ s.rake.last < s.rake.next ∨ heldPage s
      s.rake.next = true ∨ paused s = true ∨ rakeWaits s s.rake.next = true) :=
  ⟨(bench 2), [], by decide +kernel⟩

theorem witness_RakeAndFieldRepair_4 :
    ∃ (s u : State) (e : List (List (Nat × Word))), (rakeRuns s = true) ∧ (s.rake.next ≤ s.rake.last) ∧ (heldPage s
      s.rake.next = false) ∧ (paused s = false) ∧ (rakeWaits s s.rake.next = false) ∧ (u = (if mapServed
      { s with rake := { s.rake with next := s.rake.next + 1 } } s.rake.next then writeBlock
      { s with rake := { s.rake with next := s.rake.next + 1 } } s.rake.next else
      { s with rake := { s.rake with next := s.rake.next + 1 } })) ∧ (pageServable u s.rake.next = true) ∧ (eState
      (storedEntry u s.rake.next) ≤ 2) ∧ (malformed u (storedEntry u s.rake.next) = false) :=
  ⟨((setEntry (served 5) 0 (mkEnt 0 0 0 1000)).setReg Reg.RAKE_STAT 0x80000000), (if mapServed
    { ((setEntry (served 5) 0 (mkEnt 0 0 0 1000)).setReg Reg.RAKE_STAT 0x80000000) with rake := { ((setEntry (served 5) 0 (mkEnt 0 0 0 1000)).setReg Reg.RAKE_STAT 0x80000000).rake with next := ((setEntry (served 5) 0 (mkEnt 0 0 0 1000)).setReg Reg.RAKE_STAT 0x80000000).rake.next + 1 } }
    ((setEntry (served 5) 0 (mkEnt 0 0 0 1000)).setReg Reg.RAKE_STAT 0x80000000).rake.next then writeBlock
    { ((setEntry (served 5) 0 (mkEnt 0 0 0 1000)).setReg Reg.RAKE_STAT 0x80000000) with rake := { ((setEntry (served 5) 0 (mkEnt 0 0 0 1000)).setReg Reg.RAKE_STAT 0x80000000).rake with next := ((setEntry (served 5) 0 (mkEnt 0 0 0 1000)).setReg Reg.RAKE_STAT 0x80000000).rake.next + 1 } }
    ((setEntry (served 5) 0 (mkEnt 0 0 0 1000)).setReg Reg.RAKE_STAT 0x80000000).rake.next else
    { ((setEntry (served 5) 0 (mkEnt 0 0 0 1000)).setReg Reg.RAKE_STAT 0x80000000) with rake := { ((setEntry (served 5) 0 (mkEnt 0 0 0 1000)).setReg Reg.RAKE_STAT 0x80000000).rake with next := ((setEntry (served 5) 0 (mkEnt 0 0 0 1000)).setReg Reg.RAKE_STAT 0x80000000).rake.next + 1 } }),
    [], by decide +kernel, by decide +kernel, by decide +kernel, by decide +kernel, by decide +kernel, rfl,
    by decide +kernel, by decide +kernel, by decide +kernel⟩

theorem witness_RakeAndFieldRepair_5 :
    ∃ (s u : State), (rakeRuns s = true) ∧ (s.rake.last < s.rake.next) ∧ (u = raise (s.setBit Reg.RAKE_STAT 31 false)
      Src.rakeDone) :=
  ⟨({ bench 2 with rake := { next := 1, last := 0 } }.setReg Reg.RAKE_STAT 0x80000000), (raise
    (({ bench 2 with rake := { next := 1, last := 0 } }.setReg Reg.RAKE_STAT 0x80000000).setBit Reg.RAKE_STAT 31
    false) Src.rakeDone), by decide +kernel⟩

theorem witness_RakeAndFieldRepair_6 :
    ∃ (s : State), (rakeRuns s = false ∨ s.rake.next ≤ s.rake.last) :=
  ⟨(bench 2), by decide +kernel⟩

theorem witness_RakeAndFieldRepair_7 :
    ∃ (s : State) (p : Path) (v : Word) (u : State), (MayWriteGp s p (Reg.GEN_FUSEPROG 0)) ∧ (u = s.setReg
      (Reg.GEN_FUSEPROG 0) v) ∧ (u.code ≠ Mode.hold ∨ u.changing = true ∨ u.mode.step.isSome = true) :=
  ⟨(bench 2), .sideband, 7, ((bench 2).setReg (Reg.GEN_FUSEPROG 0) 7), by decide +kernel⟩

theorem witness_RakeAndFieldRepair_8 :
    ∃ (s : State) (p : Path) (v : Word) (u : State), (MayWriteGp s p (Reg.GEN_FUSEPROG 0)) ∧ (u = s.setReg
      (Reg.GEN_FUSEPROG 0) v) ∧ (u.code = Mode.hold) ∧ (u.changing = false) ∧ (u.mode.step = none) ∧
      (u.sec.otp.fuses.any (fun r => decide (fld r 31 16 = fld v 31 16)) = true) :=
  ⟨({ bench 5 with sec := { otp := { fuses := [7] } } }), .sideband, 7,
    (({ bench 5 with sec := { otp := { fuses := [7] } } }).setReg (Reg.GEN_FUSEPROG 0) 7), by decide +kernel⟩

theorem witness_RakeAndFieldRepair_9 :
    ∃ (s : State) (p : Path) (v : Word) (u : State), (MayWriteGp s p (Reg.GEN_FUSEPROG 0)) ∧ (u = s.setReg
      (Reg.GEN_FUSEPROG 0) v) ∧ (u.code = Mode.hold) ∧ (u.changing = false) ∧ (u.mode.step = none) ∧
      (u.sec.otp.fuses.any (fun r => decide (fld r 31 16 = fld v 31 16)) = false) ∧ (256 ≤ u.sec.otp.fuses.length) :=
  ⟨({ bench 5 with sec := { otp := { fuses := List.replicate 256 0x70000 } } }), .sideband, 7,
    (({ bench 5 with sec := { otp := { fuses := List.replicate 256 0x70000 } } }).setReg (Reg.GEN_FUSEPROG 0) 7),
    by decide +kernel⟩

theorem witness_RakeAndFieldRepair_10 :
    ∃ (s : State) (p : Path) (v : Word) (u : State), (MayWriteGp s p (Reg.GEN_FUSEPROG 0)) ∧ (u = s.setReg
      (Reg.GEN_FUSEPROG 0) v) ∧ (u.code = Mode.hold) ∧ (u.changing = false) ∧ (u.mode.step = none) ∧
      (u.sec.otp.fuses.any (fun r => decide (fld r 31 16 = fld v 31 16)) = false) ∧ (u.sec.otp.fuses.length < 256) :=
  ⟨(bench 5), .sideband, 7, ((bench 5).setReg (Reg.GEN_FUSEPROG 0) 7), by decide +kernel⟩

theorem witness_RakeAndFieldRepair_11 :
    ∃ (s u : State) (v : Word), (s.repair.run = some v) ∧ (u =
      { s.setBit Reg.GEN_FUSESTAT 31 false with repair := { s.repair with run := none } }) :=
  ⟨{ bench 5 with repair := { run := some 7 } },
    { ({ bench 5 with repair := { run := some 7 } } : State).setBit Reg.GEN_FUSESTAT 31 false with repair := {} }, 7,
    by decide +kernel⟩

theorem witness_RakeAndFieldRepair_12 :
    ∃ (s : State) (b : Bool), (s.repair.run = none) :=
  ⟨(bench 2), true, by decide +kernel⟩

theorem witness_RoundsWindowsAndClocks_1 :
    ∃ (s : State), (s.tide / 2 ^ wlog s = s.slu.window) :=
  ⟨(bench 2), by decide +kernel⟩

theorem witness_RoundsWindowsAndClocks_2 :
    ∃ (s : State), (s.tide / 2 ^ wlog s ≠ s.slu.window) :=
  ⟨{ bench 2 with slu := { window := 9 } }, by decide +kernel⟩

theorem witness_RoundsWindowsAndClocks_3 :
    ∃ (s u : State), (u = (if s.code = Mode.hold then s else takeRates s)) :=
  ⟨(bench 5), (bench 5), by decide +kernel⟩

theorem witness_RoundsWindowsAndClocks_4 :
    ∃ (s u : State), (ExpiryActs s 1 (if urgNow s then some s.clock else none)) ∧ (u = followUrgc s (List.range 4)) ∧
      (urgDue u = []) :=
  ⟨(bench 2), (followUrgc (bench 2) (List.range 4)), by decide +kernel⟩

theorem witness_RoundsWindowsAndClocks_5 :
    ∃ (s u : State), (ExpiryActs s 1 (if urgNow s then some s.clock else none)) ∧ (u = followUrgc s (List.range 4)) ∧
      (urgDue u ≠ []) :=
  ⟨{ bench 2 with clock := 250001, pool := { take := [(0, 0, { lap := 7 }, 0)] }, slu := { urgSince := [(0, some 0)] } },
    (followUrgc
    { bench 2 with clock := 250001, pool := { take := [(0, 0, { lap := 7 }, 0)] }, slu := { urgSince := [(0, some 0)] } }
    (List.range 4)), by decide +kernel⟩

theorem witness_RoundsWindowsAndClocks_6 :
    ∃ (s : State) (l : List (Option (BitVec 16))), (readyHk s = false ∨ s.inReset = true ∨ s.hk.cut = none ∧ (s.tide <
      625000 ∨ s.hk.round = some (s.tide / 625000))) :=
  ⟨(bench 2), [], by decide +kernel⟩

theorem witness_RoundsWindowsAndClocks_7 :
    ∃ (s u v : State) (l : List (Option (BitVec 16))) (k : Nat), (readyHk s = true) ∧ (s.inReset = false) ∧ (k =
      s.tide / 625000) ∧ (s.hk.cut.isSome = true ∨ (k ≠ 0 ∧ s.hk.round ≠ some k)) ∧ (u =
      { s with hk := { s.hk with round := some k, cut := none } }) ∧ (v = showModel (chanHeat (limitsBefore u (fun u
      => setPause (averaged (thermal (readings u 0 384 l))) (s.hk.cut.getD (625000 * k)))) (List.range 24))) :=
  ⟨(((bench 2).setReg Reg.RDY_4 0x47000000).setReg Reg.TIDE_NOW_LO 625000), _, _, [], 1, by decide +kernel,
    by decide +kernel, by decide +kernel, by decide +kernel, rfl, rfl⟩

theorem witness_RoundsWindowsAndClocks_8 :
    ∃ (s : State) (f : State → State), (s.hk.before = none ∨ s.hk.before.map (fun x => decide (x.1 = s.clock)) = some
      false) :=
  ⟨(bench 2), id, by decide +kernel⟩

theorem witness_RoundsWindowsAndClocks_9 :
    ∃ (s : State) (f : State → State) (r : Word × Word × Word), (s.hk.before = some (s.clock, r)) :=
  ⟨{ bench 2 with hk := { before := some (0, 0, 0, 0) } }, id, (0, 0, 0), by decide +kernel⟩

theorem witness_RoundsWindowsAndClocks_10 :
    ∃ (s : State), (s.hk.pend = none ∨ (s.hk.pend.map (fun t => decide (s.tide < t))) = some true) :=
  ⟨(bench 2), by decide +kernel⟩

theorem witness_RoundsWindowsAndClocks_11 :
    ∃ (s u : State) (t : Nat), (s.hk.pend = some t) ∧ (t ≤ s.tide) ∧ (u =
      ({ s with hk := { s.hk with pend := none } }.setF Reg.HK_STAT 21 16 s.hk.step).setF Reg.SLU_DELIV 21 16
      s.hk.step) ∧ (s.fld Reg.HK_STAT 21 16 ≠ s.hk.step) :=
  ⟨{ bench 2 with hk := { pend := some 0, step := 3 } },
    (({ { bench 2 with hk := { pend := some 0, step := 3 } } with hk := { step := 3 } }.setF Reg.HK_STAT 21 16 3).setF
    Reg.SLU_DELIV 21 16 3), 0, by decide +kernel⟩

theorem witness_RoundsWindowsAndClocks_12 :
    ∃ (s u : State), (s.tideU.pll = false) ∧ (s.mode.resetLow = none) ∧ (s.mode.supplyLow = false) ∧ (u =
      { s with tideU := { s.tideU with pll := true, phase := 0 } }) :=
  ⟨(bench 0), { bench 0 with tideU := { (bench 0).tideU with pll := true, phase := 0 } }, by decide +kernel⟩

theorem witness_RoundsWindowsAndClocks_13 :
    ∃ (s : State), (s.tideU.pll = true) :=
  ⟨{ bench 2 with tideU := { pll := true } }, by decide +kernel⟩

theorem witness_RoundsWindowsAndClocks_14 :
    ∃ (s : State) (d : Fin 3), (s.mode.resetLow = none) ∧ (s.mode.supplyLow = false) :=
  ⟨(bench 0), 2, by decide +kernel⟩

theorem witness_RoundsWindowsAndClocks_15 :
    ∃ (s : State) (d : Fin 3), (1 < d2dMods s d) :=
  ⟨(bench 2), 0, by decide +kernel⟩

theorem witness_RoundsWindowsAndClocks_16 :
    ∃ (s u : State) (d : Fin 3), (d2dMods s d = 1) ∧ (u = setReadyD2d (setD2dMods s d 0) d false) :=
  ⟨(setD2dMods (bench 2) 0 1), (setReadyD2d (setD2dMods (setD2dMods (bench 2) 0 1) 0 0) 0 false), 0,
    by decide +kernel⟩

theorem witness_RoundsWindowsAndClocks_17 :
    ∃ (s : State) (d : Fin 3), (d2dMods s d = 0) :=
  ⟨(setD2dMods (bench 2) 0 0), 0, by decide +kernel⟩

theorem witness_BootTokensAndFirmware_1 :
    ∃ (s : State), (bootChecking s = false) :=
  ⟨(bench 2), by decide +kernel⟩

theorem witness_BootTokensAndFirmware_2 :
    ∃ (s u v : State) (i : Nat), (bootChecking s = true) :=
  ⟨({ State.reset with mode := { imageCheck := true }, wipe := { keysDone := true, sramDone := true }, tideU := { pll := true } }),
    ({ State.reset with mode := { imageCheck := true }, wipe := { keysDone := true, sramDone := true }, tideU := { pll := true } }),
    ({ State.reset with mode := { imageCheck := true }, wipe := { keysDone := true, sramDone := true }, tideU := { pll := true } }),
    0, by decide +kernel⟩

theorem witness_BootTokensAndFirmware_3 :
    ∃ (s u : State) (a : BitVec 24), (s.inReset = false) ∧ (recovering s = true) ∧ (u = s.setF Reg.SEC_FLADDR 23 0
      (a.toNat / 4 * 4)) ∧ (writeRefused s .sideband Reg.SEC_FLADDR = false) :=
  ⟨((bench 7).setReg Reg.SEC_BOOTSTAT 0x80000000), (((bench 7).setReg Reg.SEC_BOOTSTAT 0x80000000).setF Reg.SEC_FLADDR
    23 0 4096), 4096, by decide +kernel⟩

theorem witness_BootTokensAndFirmware_4 :
    ∃ (s u : State) (v : Word), (s.inReset = false) ∧ (recovering s = true) ∧ (writeRefused s .sideband Reg.SEC_FLDATA
      = false) ∧ (s.sec.flash = none) ∧ (u = (s.setF Reg.SEC_FLADDR 23 0 (s.fld Reg.SEC_FLADDR 23 0 + 4)).setBit
      Reg.SEC_FLADDR 30 true) :=
  ⟨((bench 7).setReg Reg.SEC_BOOTSTAT 0x80000000), ((((bench 7).setReg Reg.SEC_BOOTSTAT 0x80000000).setF
    Reg.SEC_FLADDR 23 0 4).setBit Reg.SEC_FLADDR 30 true), 7, by decide +kernel⟩

theorem witness_BootTokensAndFirmware_5 :
    ∃ (s : State) (v : Word), (s.inReset = false) ∧ (recovering s = true) ∧ (writeRefused s .sideband Reg.SEC_FLDATA =
      false) ∧ (s.sec.flash.isSome = true) :=
  ⟨{ ((bench 7).setReg Reg.SEC_BOOTSTAT 0x80000000) with sec := { flash := some (true, 4096, 7) } }, 7,
    by decide +kernel⟩

theorem witness_BootTokensAndFirmware_6 :
    ∃ (s : State) (p : Path) (a : BitVec 24) (v : Word), (s.inReset = false) ∧ (recovering s = false ∨ p ≠ .sideband) :=
  ⟨(bench 2), .sideband, 0, 0, by decide +kernel⟩

theorem witness_BootTokensAndFirmware_7 :
    ∃ (s u : State) (e : Bool) (a : Nat) (v : Word), (s.sec.flash = some (e, a, v)) ∧ (u =
      { s with sec := { s.sec with flash := none } }.setBit Reg.SEC_FLADDR 30 false) :=
  ⟨{ ((bench 7).setReg Reg.SEC_BOOTSTAT 0x80000000) with sec := { flash := some (true, 4096, 7) } },
    ({ ((bench 7).setReg Reg.SEC_BOOTSTAT 0x80000000) with sec := {} }.setBit Reg.SEC_FLADDR 30 false), true, 4096, 7,
    by decide +kernel⟩

theorem witness_BootTokensAndFirmware_8 :
    ∃ (s : State), (s.sec.flash = none) :=
  ⟨(bench 2), by decide +kernel⟩

theorem witness_BootTokensAndFirmware_9 :
    ∃ (s : State) (p : Path) (v : Word) (w : Nat), (MayWrite s p Reg.SEC_TOKDATA) ∧ (w = s.fld Reg.SEC_TOKADDR 9 0) :=
  ⟨(bench 2), .sideband, 7, 0, by decide +kernel⟩

theorem witness_BootTokensAndFirmware_10 :
    ∃ (s u : State) (p : Path), (MayWriteGp s p (Reg.SEC_TOKCMD 0)) ∧ (u = s.setF (Reg.SEC_TOKCMD 0) 31 30 1) ∧
      (u.code = Mode.boot) :=
  ⟨(bench 0), ((bench 0).setF (Reg.SEC_TOKCMD 0) 31 30 1), .sideband, by decide +kernel⟩

theorem witness_BootTokensAndFirmware_11 :
    ∃ (s u : State) (p : Path), (MayWriteGp s p (Reg.SEC_TOKCMD 0)) ∧ (u = s.setF (Reg.SEC_TOKCMD 0) 31 30 1) ∧
      (u.code ≠ Mode.boot) ∧ (u.bit Reg.SEC_TOKSTAT 31 = true) :=
  ⟨(((bench 7).setReg Reg.SEC_TOKSTAT 0x80000000)), ((((bench 7).setReg Reg.SEC_TOKSTAT 0x80000000)).setF
    (Reg.SEC_TOKCMD 0) 31 30 1), .sideband, by decide +kernel⟩

theorem witness_BootTokensAndFirmware_12 :
    ∃ (s u : State) (p : Path), (MayWriteGp s p (Reg.SEC_TOKCMD 0)) ∧ (u = s.setF (Reg.SEC_TOKCMD 0) 31 30 1) ∧
      (u.code ≠ Mode.boot) ∧ (u.bit Reg.SEC_TOKSTAT 31 = false) :=
  ⟨(bench 7), ((bench 7).setF (Reg.SEC_TOKCMD 0) 31 30 1), .sideband, by decide +kernel⟩

theorem witness_BootTokensAndFirmware_13 :
    ∃ (s u : State) (p : Path), (MayWriteGp s p (Reg.SEC_TOKCMD 0)) ∧ (u = s.setF (Reg.SEC_TOKCMD 0) 31 30 2) ∧
      (u.code = Mode.boot) :=
  ⟨(bench 0), ((bench 0).setF (Reg.SEC_TOKCMD 0) 31 30 2), .sideband, by decide +kernel⟩

theorem witness_BootTokensAndFirmware_14 :
    ∃ (s u : State) (p : Path), (MayWriteGp s p (Reg.SEC_TOKCMD 0)) ∧ (u = s.setF (Reg.SEC_TOKCMD 0) 31 30 2) ∧
      (u.code ≠ Mode.boot) ∧ (u.bit Reg.SEC_TOKSTAT 31 = true) :=
  ⟨(((bench 7).setReg Reg.SEC_TOKSTAT 0x80000000)), ((((bench 7).setReg Reg.SEC_TOKSTAT 0x80000000)).setF
    (Reg.SEC_TOKCMD 0) 31 30 2), .sideband, by decide +kernel⟩

theorem witness_BootTokensAndFirmware_15 :
    ∃ (s u : State) (p : Path), (MayWriteGp s p (Reg.SEC_TOKCMD 0)) ∧ (u = s.setF (Reg.SEC_TOKCMD 0) 31 30 2) ∧
      (u.code ≠ Mode.boot) ∧ (u.bit Reg.SEC_TOKSTAT 31 = false) ∧ (1 < lcState u) :=
  ⟨((bench 7).setReg Reg.SEC_STATE 0x40000000), (((bench 7).setReg Reg.SEC_STATE 0x40000000).setF (Reg.SEC_TOKCMD 0)
    31 30 2), .sideband, by decide +kernel⟩

theorem witness_BootTokensAndFirmware_16 :
    ∃ (s u : State) (p : Path), (MayWriteGp s p (Reg.SEC_TOKCMD 0)) ∧ (u = s.setF (Reg.SEC_TOKCMD 0) 31 30 2) ∧
      (u.code ≠ Mode.boot) ∧ (u.bit Reg.SEC_TOKSTAT 31 = false) ∧ (lcState u ≤ 1) ∧ (rowFree u 5 = true) :=
  ⟨(bench 7), ((bench 7).setF (Reg.SEC_TOKCMD 0) 31 30 2), .sideband, by decide +kernel⟩

theorem witness_BootTokensAndFirmware_17 :
    ∃ (s : State), (s.sec.tok = none) :=
  ⟨(bench 2), by decide +kernel⟩

theorem witness_BootTokensAndFirmware_18 :
    ∃ (s : State) (t : TokRun) (b : Bool), (s.sec.tok = some t) ∧ (t.result ≠ 0) :=
  ⟨{ bench 2 with sec := { tok := some ({ kind := 1, result := 7, row := none, prov := none, revoke := none, reset := false }) } },
    ({ kind := 1, result := 7, row := none, prov := none, revoke := none, reset := false }), true, by decide +kernel⟩

theorem witness_BootTokensAndFirmware_19 :
    ∃ (s : State) (t : TokRun), (s.sec.tok = some t) ∧ (t.result = 0) :=
  ⟨{ bench 2 with sec := { tok := some ({ kind := 1, result := 0, row := (some 1), prov := none, revoke := none, reset := true }) } },
    ({ kind := 1, result := 0, row := (some 1), prov := none, revoke := none, reset := true }), by decide +kernel⟩

theorem witness_BootTokensAndFirmware_20 :
    ∃ (s u : State) (p : Path) (k : Fin 4) (v : Fin 512) (b : Bool), (MayWriteGp s p (Reg.SEC_ARB 0)) ∧ (u = (s.setF
      (Reg.SEC_ARB 0) 25 24 k.val).setF (Reg.SEC_ARB 0) 8 0 v.val) ∧ (k.val = 3 ∨ k.val ≠ 0 ∧ ownerNow u = none) :=
  ⟨(bench 2), (((bench 2).setF (Reg.SEC_ARB 0) 25 24 3).setF (Reg.SEC_ARB 0) 8 0 7), .sideband, 3, 7, true,
    by decide +kernel⟩

theorem witness_BootTokensAndFirmware_21 :
    ∃ (s u : State) (p : Path) (k : Fin 4) (v : Fin 512) (b : Bool), (MayWriteGp s p (Reg.SEC_ARB 0)) ∧ (u = (s.setF
      (Reg.SEC_ARB 0) 25 24 k.val).setF (Reg.SEC_ARB 0) 8 0 v.val) ∧ (k.val ≠ 3 ∧ (k.val = 0 ∨ ownerNow u ≠ none)) ∧
      (v.val ≤ svnOf u.sec.otp k.val ((ownerNow u).getD 0)) :=
  ⟨(bench 2), (((bench 2).setF (Reg.SEC_ARB 0) 25 24 0).setF (Reg.SEC_ARB 0) 8 0 0), .sideband, 0, 0, true,
    by decide +kernel⟩

theorem witness_BootTokensAndFirmware_22 :
    ∃ (s u : State) (p : Path) (k : Fin 4) (v : Fin 512) (b : Bool), (MayWriteGp s p (Reg.SEC_ARB 0)) ∧ (u = (s.setF
      (Reg.SEC_ARB 0) 25 24 k.val).setF (Reg.SEC_ARB 0) 8 0 v.val) ∧ (k.val ≠ 3 ∧ (k.val = 0 ∨ ownerNow u ≠ none)) ∧
      (svnOf u.sec.otp k.val ((ownerNow u).getD 0) < v.val) ∧ ((if k.val = 0 then 256 else 64) < v.val) :=
  ⟨(bench 2), (((bench 2).setF (Reg.SEC_ARB 0) 25 24 0).setF (Reg.SEC_ARB 0) 8 0 300), .sideband, 0, 300, true,
    by decide +kernel⟩

theorem witness_BootTokensAndFirmware_23 :
    ∃ (s u : State) (p : Path) (k : Fin 4) (v : Fin 512) (b : Bool), (MayWriteGp s p (Reg.SEC_ARB 0)) ∧ (u = (s.setF
      (Reg.SEC_ARB 0) 25 24 k.val).setF (Reg.SEC_ARB 0) 8 0 v.val) ∧ (k.val ≠ 3 ∧ (k.val = 0 ∨ ownerNow u ≠ none)) ∧
      (svnOf u.sec.otp k.val ((ownerNow u).getD 0) < v.val) ∧ (v.val ≤ (if k.val = 0 then 256 else 64)) ∧ ((activeSvns
      u k.val).any (fun x => decide (x < v.val)) = true) :=
  ⟨(bench 2), (((bench 2).setF (Reg.SEC_ARB 0) 25 24 0).setF (Reg.SEC_ARB 0) 8 0 7), .sideband, 0, 7, true,
    by decide +kernel⟩

theorem witness_BootTokensAndFirmware_24 :
    ∃ (s u : State) (p : Path) (k : Fin 4) (v : Fin 512), (MayWriteGp s p (Reg.SEC_ARB 0)) ∧ (u = (s.setF (Reg.SEC_ARB
      0) 25 24 k.val).setF (Reg.SEC_ARB 0) 8 0 v.val) ∧ (k.val ≠ 3 ∧ (k.val = 0 ∨ ownerNow u ≠ none)) ∧ (svnOf
      u.sec.otp k.val ((ownerNow u).getD 0) < v.val) ∧ (v.val ≤ (if k.val = 0 then 256 else 64)) ∧ ((activeSvns u
      k.val).any (fun x => decide (x < v.val)) = false) :=
  ⟨((bench 2).setReg Reg.SEC_STATE 0x08000000), ((((bench 2).setReg Reg.SEC_STATE 0x08000000).setF (Reg.SEC_ARB 0) 25
    24 1).setF (Reg.SEC_ARB 0) 8 0 7), .sideband, 1, 7, by decide +kernel⟩

theorem witness_BootTokensAndFirmware_25 :
    ∃ (s u : State) (p : Path) (k : Fin 4) (v : Fin 512), (MayWriteGp s p (Reg.SEC_ARB 0)) ∧ (u = (s.setF (Reg.SEC_ARB
      0) 25 24 k.val).setF (Reg.SEC_ARB 0) 8 0 v.val) ∧ (k.val ≠ 3 ∧ (k.val = 0 ∨ ownerNow u ≠ none)) ∧ (svnOf
      u.sec.otp k.val ((ownerNow u).getD 0) < v.val) ∧ (v.val ≤ (if k.val = 0 then 256 else 64)) ∧ ((activeSvns u
      k.val).any (fun x => decide (x < v.val)) = false) :=
  ⟨((bench 2).setReg Reg.SEC_STATE 0x08000000), ((((bench 2).setReg Reg.SEC_STATE 0x08000000).setF (Reg.SEC_ARB 0) 25
    24 1).setF (Reg.SEC_ARB 0) 8 0 7), .sideband, 1, 7, by decide +kernel⟩

theorem witness_BootTokensAndFirmware_26 :
    ∃ (s u : State) (p : Path), (MayWriteGk s p Reg.PAL_FWCTL) ∧ (u = (disarm s p).setF Reg.PAL_FWCTL 1 0 1) ∧
      (firmwareRuns u = false) :=
  ⟨({ (bench 2 : State) with acc := { keys := [(.sideband, 0)] } }), ((disarm
    ({ (bench 2 : State) with acc := { keys := [(.sideband, 0)] } }) .sideband).setF Reg.PAL_FWCTL 1 0 1), .sideband,
    by decide +kernel⟩

theorem witness_BootTokensAndFirmware_27 :
    ∃ (s u : State) (p : Path), (MayWriteGk s p Reg.PAL_FWCTL) ∧ (u = (disarm s p).setF Reg.PAL_FWCTL 1 0 2) ∧
      (firmwareRuns u = false) :=
  ⟨({ (bench 2 : State) with acc := { keys := [(.sideband, 0)] } }), ((disarm
    ({ (bench 2 : State) with acc := { keys := [(.sideband, 0)] } }) .sideband).setF Reg.PAL_FWCTL 1 0 2), .sideband,
    by decide +kernel⟩

theorem witness_BootTokensAndFirmware_28 :
    ∃ (s u : State) (p : Path), (MayWriteGk s p Reg.PAL_FWCTL) ∧ (u = (disarm s p).setF Reg.PAL_FWCTL 1 0 3) ∧
      (firmwareRuns u = false) :=
  ⟨({ (bench 2 : State) with acc := { keys := [(.sideband, 0)] } }), ((disarm
    ({ (bench 2 : State) with acc := { keys := [(.sideband, 0)] } }) .sideband).setF Reg.PAL_FWCTL 1 0 3), .sideband,
    by decide +kernel⟩

theorem witness_BootTokensAndFirmware_29 :
    ∃ (s u : State) (p : Path), (MayWriteGk s p Reg.PAL_FWCTL) ∧ (u = (disarm s p).setF Reg.PAL_FWCTL 1 0 1) ∧
      (firmwareRuns u = true) ∧ (fwBusy u = true ∨ u.sets.staging.isSome = true) :=
  ⟨({ (((bench 2).setReg Reg.RDY_5 0x1FFFF).setReg Reg.PAL_FWSTAT 0x80000000 : State) with acc := { keys := [(.sideband, 0)] } }),
    ((disarm
    ({ (((bench 2).setReg Reg.RDY_5 0x1FFFF).setReg Reg.PAL_FWSTAT 0x80000000 : State) with acc := { keys := [(.sideband, 0)] } })
    .sideband).setF Reg.PAL_FWCTL 1 0 1), .sideband, by decide +kernel⟩

theorem witness_BootTokensAndFirmware_30 :
    ∃ (s u : State) (p : Path), (MayWriteGk s p Reg.PAL_FWCTL) ∧ (u = (disarm s p).setF Reg.PAL_FWCTL 1 0 1) ∧
      (firmwareRuns u = true) ∧ (fwBusy u = false) ∧ (u.sets.staging = none) :=
  ⟨({ (((bench 2).setReg Reg.RDY_5 0x1FFFF) : State) with acc := { keys := [(.sideband, 0)] } }), ((disarm
    ({ (((bench 2).setReg Reg.RDY_5 0x1FFFF) : State) with acc := { keys := [(.sideband, 0)] } }) .sideband).setF
    Reg.PAL_FWCTL 1 0 1), .sideband, by decide +kernel⟩

theorem witness_BootTokensAndFirmware_31 :
    ∃ (s u : State) (p : Path), (MayWriteGk s p Reg.PAL_FWCTL) ∧ (u = (disarm s p).setF Reg.PAL_FWCTL 1 0 2) ∧
      (firmwareRuns u = true) ∧ (u.code ≠ Mode.hold ∨ u.changing = true) :=
  ⟨({ (((bench 2).setReg Reg.RDY_5 0x1FFFF) : State) with acc := { keys := [(.sideband, 0)] } }), ((disarm
    ({ (((bench 2).setReg Reg.RDY_5 0x1FFFF) : State) with acc := { keys := [(.sideband, 0)] } }) .sideband).setF
    Reg.PAL_FWCTL 1 0 2), .sideband, by decide +kernel⟩

theorem witness_BootTokensAndFirmware_32 :
    ∃ (s u : State) (p : Path), (MayWriteGk s p Reg.PAL_FWCTL) ∧ (u = (disarm s p).setF Reg.PAL_FWCTL 1 0 2) ∧
      (firmwareRuns u = true) ∧ (u.code = Mode.hold) ∧ (u.changing = false) ∧ (u.sec.staged = none) :=
  ⟨({ (((bench 5).setReg Reg.RDY_5 0x1FFFF) : State) with acc := { keys := [(.sideband, 0)] } }), ((disarm
    ({ (((bench 5).setReg Reg.RDY_5 0x1FFFF) : State) with acc := { keys := [(.sideband, 0)] } }) .sideband).setF
    Reg.PAL_FWCTL 1 0 2), .sideband, by decide +kernel⟩

theorem witness_BootTokensAndFirmware_33 :
    ∃ (s u : State) (p : Path) (b : List Byte), (MayWriteGk s p Reg.PAL_FWCTL) ∧ (u = (disarm s p).setF Reg.PAL_FWCTL
      1 0 2) ∧ (firmwareRuns u = true) ∧ (u.code = Mode.hold) ∧ (u.changing = false) ∧ (u.sec.staged = some b) ∧
      (movesActive u = true) :=
  ⟨({ ({ ((bench 5).setReg Reg.RDY_5 0x1FFFF) with sec := { staged := some [] }, tier := { moves := [{ id := 0, page := 0, core := 0, slot := 0, tgt := 0, old := 0 }] } } : State) with acc := { keys := [(.sideband, 0)] } }),
    ((disarm
    ({ ({ ((bench 5).setReg Reg.RDY_5 0x1FFFF) with sec := { staged := some [] }, tier := { moves := [{ id := 0, page := 0, core := 0, slot := 0, tgt := 0, old := 0 }] } } : State) with acc := { keys := [(.sideband, 0)] } })
    .sideband).setF Reg.PAL_FWCTL 1 0 2), .sideband, [], by decide +kernel⟩

theorem witness_BootTokensAndFirmware_34 :
    ∃ (s u : State) (p : Path) (b : List Byte), (MayWriteGk s p Reg.PAL_FWCTL) ∧ (u = (disarm s p).setF Reg.PAL_FWCTL
      1 0 2) ∧ (firmwareRuns u = true) ∧ (u.code = Mode.hold) ∧ (u.changing = false) ∧ (u.sec.staged = some b) ∧
      (movesActive u = false) ∧ (fwBusy u = true ∨ u.mode.step.isSome = true) :=
  ⟨({ ({ ((bench 5).setReg Reg.RDY_5 0x1FFFF) with sec := { staged := some [] }, mode := { step := some 1, imageCheck := false } } : State) with acc := { keys := [(.sideband, 0)] } }),
    ((disarm
    ({ ({ ((bench 5).setReg Reg.RDY_5 0x1FFFF) with sec := { staged := some [] }, mode := { step := some 1, imageCheck := false } } : State) with acc := { keys := [(.sideband, 0)] } })
    .sideband).setF Reg.PAL_FWCTL 1 0 2), .sideband, [], by decide +kernel⟩

theorem witness_BootTokensAndFirmware_35 :
    ∃ (s u : State) (p : Path) (b : List Byte), (MayWriteGk s p Reg.PAL_FWCTL) ∧ (u = (disarm s p).setF Reg.PAL_FWCTL
      1 0 2) ∧ (firmwareRuns u = true) ∧ (u.code = Mode.hold) ∧ (u.changing = false) ∧ (u.sec.staged = some b) ∧
      (movesActive u = false) ∧ (fwBusy u = false) ∧ (u.mode.step = none) :=
  ⟨({ ({ ((bench 5).setReg Reg.RDY_5 0x1FFFF) with sec := { staged := some [] } } : State) with acc := { keys := [(.sideband, 0)] } }),
    ((disarm
    ({ ({ ((bench 5).setReg Reg.RDY_5 0x1FFFF) with sec := { staged := some [] } } : State) with acc := { keys := [(.sideband, 0)] } })
    .sideband).setF Reg.PAL_FWCTL 1 0 2), .sideband, [], by decide +kernel⟩

theorem witness_BootTokensAndFirmware_36 :
    ∃ (s u : State) (p : Path), (MayWriteGk s p Reg.PAL_FWCTL) ∧ (u = (disarm s p).setF Reg.PAL_FWCTL 1 0 3) ∧
      (firmwareRuns u = true) ∧ (fwBusy u = true) :=
  ⟨({ (((bench 2).setReg Reg.RDY_5 0x1FFFF).setReg Reg.PAL_FWSTAT 0x80000000 : State) with acc := { keys := [(.sideband, 0)] } }),
    ((disarm
    ({ (((bench 2).setReg Reg.RDY_5 0x1FFFF).setReg Reg.PAL_FWSTAT 0x80000000 : State) with acc := { keys := [(.sideband, 0)] } })
    .sideband).setF Reg.PAL_FWCTL 1 0 3), .sideband, by decide +kernel⟩

theorem witness_BootTokensAndFirmware_37 :
    ∃ (s u : State) (p : Path), (MayWriteGk s p Reg.PAL_FWCTL) ∧ (u = (disarm s p).setF Reg.PAL_FWCTL 1 0 3) ∧
      (firmwareRuns u = true) ∧ (fwBusy u = false) :=
  ⟨({ (((bench 2).setReg Reg.RDY_5 0x1FFFF) : State) with acc := { keys := [(.sideband, 0)] } }), ((disarm
    ({ (((bench 2).setReg Reg.RDY_5 0x1FFFF) : State) with acc := { keys := [(.sideband, 0)] } }) .sideband).setF
    Reg.PAL_FWCTL 1 0 3), .sideband, by decide +kernel⟩

theorem witness_BootTokensAndFirmware_38 :
    ∃ (s : State) (b : List Byte) (k : Nat), (s.sec.fwCmd = some (1, b, k)) :=
  ⟨({ bench 2 with sec := { fwCmd := some (1, [], 0) } }), [], 0, by decide +kernel⟩

theorem witness_BootTokensAndFirmware_39 :
    ∃ (s : State) (b : List Byte) (how : Nat), (how ≠ 1) :=
  ⟨(bench 2), [], 0, by decide +kernel⟩

theorem witness_BootTokensAndFirmware_40 :
    ∃ (s : State) (b : List Byte) (k : Nat), (s.sec.fwCmd = some (2, b, k)) ∧ (k ≠ 1) :=
  ⟨({ bench 2 with sec := { fwCmd := some (2, [], 0) } }), [], 0, by decide +kernel⟩

theorem witness_BootTokensAndFirmware_41 :
    ∃ (s : State) (b : Bool), (s.sec.fwCmd = none) :=
  ⟨(bench 2), true, by decide +kernel⟩

theorem witness_SlotPower_1 :
    ∃ (s : State) (n : Fin 48) (w : Fin 3) (b : Bool), (s.slot.dead = true) :=
  ⟨{ bench 2 with slot := { dead := true } }, 0, 0, true, by decide +kernel⟩

theorem witness_SlotPower_2 :
    ∃ (s : State) (n : Fin 48), (s.slot.dead = true) :=
  ⟨{ bench 2 with slot := { dead := true } }, 0, by decide +kernel⟩

theorem witness_SlotPower_3 :
    ∃ (s : State) (n : Fin 48), (s.closing = false) :=
  ⟨(bench 2), 0, by decide +kernel⟩

theorem witness_SlotPower_4 :
    ∃ (s : State) (n : Fin 48) (x : Slot), (s.slot.dead = false) ∧ (x = s.slotOf n) ∧ (x.state = 0) ∧ (slotValid x =
      true) ∧ (x.iso.any (sticky s) = false) :=
  ⟨({ bench 2 with slot := { slots := [(0, {})] } }), 0, {}, by decide +kernel⟩

theorem witness_SlotPower_5 :
    ∃ (s : State) (n : Fin 48) (x : Slot), (s.slot.dead = false) ∧ (x = s.slotOf n) ∧ (x.state = 0) ∧ (slotValid x =
      true) ∧ (x.iso.any (sticky s) = true) :=
  ⟨({ (bench 2).setReg (stickyOff 0) 1 with slot := { slots := [(0, { iso := [0] })] } }), 0, { iso := [0] },
    by decide +kernel⟩

theorem witness_SlotPower_6 :
    ∃ (s : State) (n : Fin 48) (x : Slot), (s.slot.dead = false) ∧ (x = s.slotOf n) ∧ (x.state = 0) ∧ (slotValid x =
      false) :=
  ⟨({ bench 2 with slot := { slots := [(0, { cfg := 0 })] } }), 0, { cfg := 0 }, by decide +kernel⟩

theorem witness_SlotPower_7 :
    ∃ (s : State) (n : Fin 48) (x : Slot), (s.slot.dead = false) ∧ (x = s.slotOf n) ∧ (x.state = 5) ∧ (slotValid x =
      false) :=
  ⟨({ bench 2 with slot := { slots := [(0, { state := 5, cfg := 0 })] } }), 0, { state := 5, cfg := 0 },
    by decide +kernel⟩

theorem witness_SlotPower_8 :
    ∃ (s : State) (n : Fin 48) (x : Slot), (s.slot.dead = false) ∧ (x = s.slotOf n) ∧ (x.state = 5) ∧ (slotValid x =
      true) ∧ ((sticky s (Src.slot n 1) || x.iso.any (sticky s)) = true) :=
  ⟨({ (bench 2).setReg (stickyOff 0) 1 with slot := { slots := [(0, { state := 5, iso := [0] })] } }), 0,
    { state := 5, iso := [0] }, by decide +kernel⟩

theorem witness_SlotPower_9 :
    ∃ (s : State) (n : Fin 48) (x : Slot), (s.slot.dead = false) ∧ (x = s.slotOf n) ∧ (x.state = 5) ∧ (slotValid x =
      true) ∧ ((sticky s (Src.slot n 1) || x.iso.any (sticky s)) = false) :=
  ⟨({ bench 2 with slot := { slots := [(0, { state := 5 })] } }), 0, { state := 5 }, by decide +kernel⟩

theorem witness_SlotPower_10 :
    ∃ (s : State) (n : Fin 48) (x : Slot), (s.slot.dead = false) ∧ (x = s.slotOf n) ∧ (x.state ≠ 0) ∧ (x.state ≠ 5) :=
  ⟨({ bench 2 with slot := { slots := [(0, { state := 3 })] } }), 0, { state := 3 }, by decide +kernel⟩

theorem witness_SlotPower_11 :
    ∃ (s : State) (n : Fin 48) (x : Slot), (s.slot.dead = false) ∧ (x = s.slotOf n) ∧ (x.state = 0) :=
  ⟨({ bench 2 with slot := { slots := [(0, {})] } }), 0, {}, by decide +kernel⟩

theorem witness_SlotPower_12 :
    ∃ (s : State) (n : Fin 48) (x : Slot), (s.slot.dead = false) ∧ (x = s.slotOf n) ∧ (x.state = 2 ∨ x.state = 3) ∧
      (s.bit (Reg.DMC_CTL (n.val / 2)) 0 = true) :=
  ⟨({ (bench 2).setReg (Reg.DMC_CTL 0) 1 with slot := { slots := [(0, { state := 3 })] } }), 0, { state := 3 },
    by decide +kernel⟩

theorem witness_SlotPower_13 :
    ∃ (s : State) (n : Fin 48) (x : Slot), (s.slot.dead = false) ∧ (x = s.slotOf n) ∧ (x.state = 2 ∨ x.state = 3) ∧
      (s.bit (Reg.DMC_CTL (n.val / 2)) 0 = false) :=
  ⟨({ (bench 2).setReg (Reg.DMC_CTL 0) 0 with slot := { slots := [(0, { state := 3 })] } }), 0, { state := 3 },
    by decide +kernel⟩

theorem witness_SlotPower_14 :
    ∃ (s : State) (n : Fin 48) (x : Slot), (s.slot.dead = false) ∧ (x = s.slotOf n) ∧ (x.state ≠ 0) ∧ (x.state ≠ 2 ∧
      x.state ≠ 3) :=
  ⟨({ bench 2 with slot := { slots := [(0, { state := 1 })] } }), 0, { state := 1 }, by decide +kernel⟩

theorem witness_SlotPower_15 :
    ∃ (s : State) (n : Fin 48) (x : Slot), (ExpiryActs s slotTick (some (s.clock / slotTick))) ∧ (s.slot.dead = false)
      ∧ (x = s.slotOf n) :=
  ⟨({ bench 2 with clock := 24, closing := true, slot := { slots := [(0, { state := 2 })] } }), 0, { state := 2 },
    by decide +kernel⟩

theorem witness_SlotPower_16 :
    ∃ (s : State) (n : Fin 48) (x : Slot), (s.slot.dead = false) ∧ (x = s.slotOf n) ∧ (x.state = 2 ∨ x.state = 3) ∧
      (x.timer = none) :=
  ⟨({ bench 2 with slot := { slots := [(0, { state := 3 })] } }), 0, { state := 3 }, by decide +kernel⟩

theorem witness_SlotPower_17 :
    ∃ (s : State) (n : Fin 48) (x : Slot), (s.slot.dead = false) ∧ (x = s.slotOf n) ∧ ((x.state ≠ 2 ∧ x.state ≠ 3) ∨
      x.timer.isSome = true) :=
  ⟨({ bench 2 with slot := { slots := [(0, {})] } }), 0, {}, by decide +kernel⟩

theorem witness_SlotPower_18 :
    ∃ (s : State) (n : Fin 48) (x : Slot), (s.slot.dead = false) ∧ (x = s.slotOf n) :=
  ⟨({ bench 2 with slot := { slots := [(0, { state := 3 })] } }), 0, { state := 3 }, by decide +kernel⟩

theorem witness_SlotPower_19 :
    ∃ (s : State) (n : Fin 48) (t : Nat), (ExpiryActs s slotTick (timerDue s n)) ∧ (s.slot.dead = false) ∧ (timerDue s
      n = some t) :=
  ⟨({ bench 2 with clock := 2500000000, slot := { slots := [(0, { state := 3, timer := some 0 })] } }), 0, 1200000,
    by decide +kernel⟩

theorem witness_SlotPower_20 :
    ∃ (s : State) (n : Fin 48), (ExpiryActs s slotTick (timerDue s n)) ∧ (s.slot.dead = false) ∧ (timerDue s n = none) :=
  ⟨(bench 2), 0, by decide +kernel⟩

theorem witness_SlotPower_21 :
    ∃ (s : State) (n : Nat) (x : Slot), (x = s.slotOf n) :=
  ⟨(bench 2), 0, {}, by decide +kernel⟩

theorem witness_SlotPower_22 :
    ∃ (s : State) (n : Fin 48), (s.slot.dead = false) :=
  ⟨(bench 2), 0, by decide +kernel⟩

theorem witness_SlotPower_23 :
    ∃ (s : State) (n : Fin 48) (x : Slot), (s.slot.dead = false) ∧ (x = s.slotOf n) :=
  ⟨({ bench 2 with slot := { slots := [(0, { state := 3 })] } }), 0, { state := 3 }, by decide +kernel⟩

theorem witness_SlotPower_24 :
    ∃ (s : State) (n c : Nat) (x : Slot), (x = s.slotOf n) :=
  ⟨(bench 2), 0, 1, {}, by decide +kernel⟩

theorem witness_SlotPower_25 :
    ∃ (s : State), ((s.clock + 1) % slotTick = 0) :=
  ⟨{ bench 2 with clock := 24 }, by decide +kernel⟩

theorem witness_SlotPower_26 :
    ∃ (s : State) (n : Fin 48) (x : Slot), (s.slot.dead = false) ∧ (x = s.slotOf n) :=
  ⟨({ bench 2 with slot := { slots := [(0, { low := true })] } }), 0, { low := true }, by decide +kernel⟩

theorem witness_SlotPower_27 :
    ∃ (s : State) (n : Nat) (x : Slot), (x = s.slotOf n) :=
  ⟨(bench 2), 0, {}, by decide +kernel⟩

theorem witness_SlotPower_28 :
    ∃ (s : State) (n : Fin 48) (x : Slot) (u : State), (s.slot.dead = false) ∧ (u = inputLow s n) ∧ (x = u.slotOf n) :=
  ⟨({ bench 2 with slot := { slots := [(0, { low := true, state := 3 })] } }), 0, { low := true, state := 3 },
    (inputLow ({ bench 2 with slot := { slots := [(0, { low := true, state := 3 })] } }) 0), by decide +kernel⟩

theorem witness_SlotPower_29 :
    ∃ (s : State) (n : Fin 48) (x : Slot), (s.slot.dead = false) ∧ (x = s.slotOf n) :=
  ⟨({ bench 2 with slot := { slots := [(0, {})] } }), 0, {}, by decide +kernel⟩

theorem witness_SlotPower_30 :
    ∃ (s : State) (n : Fin 48) (x : Slot) (a b : State), (s.slot.dead = false) ∧ (x = s.slotOf n) ∧ (a = raise
      (setSlot s n (orDrive { x with feedA := false })) (Src.slot n 3)) ∧ (b = raise (setSlot s n (orDrive
      { x with feedB := false })) (Src.slot n 3)) :=
  ⟨(bench 2), 0, {}, _, _, by decide +kernel, by decide +kernel, rfl, rfl⟩

theorem witness_SlotPower_31 :
    ∃ (s : State) (n : Fin 48) (x : Slot), (s.slot.dead = false) ∧ (x = s.slotOf n) :=
  ⟨({ bench 2 with slot := { slots := [(0, {})] } }), 0, {}, by decide +kernel⟩

theorem witness_SlotPower_32 :
    ∃ (s : State) (n : Fin 48) (x : Slot) (t : Nat), (s.slot.dead = false) ∧ (x = s.slotOf n) ∧ (x.delay = some t) ∧
      (x.state = 4) ∧ (t / slotTick ≤ s.clock / slotTick) :=
  ⟨({ bench 2 with slot := { slots := [(0, { state := 4, delay := some 0 })] } }), 0, { state := 4, delay := some 0 },
    0, by decide +kernel⟩

theorem witness_SlotPower_33 :
    ∃ (s : State) (n : Fin 48) (x : Slot), (s.slot.dead = false) ∧ (x = s.slotOf n) :=
  ⟨({ bench 2 with slot := { slots := [(0, {})] } }), 0, {}, by decide +kernel⟩

theorem witness_LinkService_1 :
    ∃ (s : State) (l : Fin 32) (f : Frame) (bad : List (Fin 9)) (dis fal gen : Bool) (fix : Fin 3), (linkUp s l.val =
      false) :=
  ⟨(bench 2), 0, {}, [], false, false, false, 0, by decide +kernel⟩

theorem witness_LinkService_2 :
    ∃ (s u : State) (l : Fin 32) (f : Frame) (bad : List (Fin 9)) (dis fal gen : Bool) (fix : Fin 3), (linkUp s l.val
      = true) ∧ (u = (if s.bit (Reg.CNV_STAT l) 26 then corrected s l fix else s)) ∧ (bad ≠ [] ∨ dis = true) :=
  ⟨((bench 2).setReg (Reg.CNV_STAT 0) 0x80000000), _, 0, {}, [1], false, false, false, 0, by decide +kernel, rfl,
    by decide +kernel⟩

theorem witness_LinkService_3 :
    ∃ (s u : State) (l : Fin 32) (f : Frame) (fal gen : Bool) (fix : Fin 3), (linkUp s l.val = true) ∧ (u = (if s.bit
      (Reg.CNV_STAT l) 26 then corrected s l fix else s)) :=
  ⟨((bench 2).setReg (Reg.CNV_STAT 0) 0x80000000), _, 0, {}, false, false, 0, by decide +kernel, rfl⟩

theorem witness_LinkService_4 :
    ∃ (s : State) (l n : Nat), (n ≠ 0) :=
  ⟨(bench 2), 0, 1, by decide +kernel⟩

theorem witness_LinkService_5 :
    ∃ (s u v : State) (l : Nat) (f : Frame) (gen : Bool), ((s.link l).rxPend = none) ∧ (u = useAck s l f.ack) ∧
      (linkUp u l = true) ∧ (f.ty ≠ 0) ∧ (f.seq = expSeq u l) ∧ (v = acceptNext u l) :=
  ⟨((bench 2).setReg (Reg.CNV_STAT 0) 0x80000000), (useAck ((bench 2).setReg (Reg.CNV_STAT 0) 0x80000000) 0 4095),
    (acceptNext (useAck ((bench 2).setReg (Reg.CNV_STAT 0) 0x80000000) 0 4095) 0), 0, { ty := 15, ack := 4095 },
    false, by decide +kernel⟩

theorem witness_LinkService_6 :
    ∃ (s u : State) (l : Nat) (f : Frame) (gen : Bool), ((s.link l).rxPend = none) ∧ (u = useAck s l f.ack) ∧ (linkUp
      u l = false ∨ f.ty = 0 ∨ f.seq ≠ expSeq u l) :=
  ⟨((bench 2).setReg (Reg.CNV_STAT 0) 0x80000000), (useAck ((bench 2).setReg (Reg.CNV_STAT 0) 0x80000000) 0 4095), 0,
    { ack := 4095 }, false, by decide +kernel⟩

theorem witness_LinkService_7 :
    ∃ (s : State) (l a : Nat), (ackBad s l a = true) :=
  ⟨((bench 2).setReg (Reg.CNV_STAT 0) 0x80000000), 0, 5, by decide +kernel⟩

theorem witness_LinkService_8 :
    ∃ (s v : State) (l : Fin 32), (v = padArrive s l) ∧ (linkUp v l.val = false ∨ slotNow v l = false) :=
  ⟨(bench 2), _, 0, rfl, by decide +kernel⟩

theorem witness_LinkService_9 :
    ∃ (s v : State) (l : Fin 32), (v = padArrive s l) ∧ (linkUp v l.val = true) ∧ (slotNow v l = true) ∧ (slotAbsent v
      l = true) :=
  ⟨({ (bench 2).setReg (Reg.CNV_STAT 0) 0x9C000000 with clock := 0 }.setReg Reg.TIDE_NOW_LO 15), _, 0, rfl,
    by decide +kernel, by decide +kernel, by decide +kernel⟩

theorem witness_LinkService_10 :
    ∃ (s u v : State) (l : Fin 32), (v = padArrive s l) ∧ (linkUp v l.val = true) ∧ (slotNow v l = true) ∧ (slotAbsent
      v l = false) ∧ (1024 ≤ (v.link l.val).rbuf.length) ∧ ((v.link l.val).arriving = none) ∧ (slotFallow v l = false)
      ∧ (u = (slotStart v l).setBit (Reg.CNV_STAT l) 23 false) ∧ (v.bit (Reg.CNV_STAT l) 23 = false) ∧ (u.bit
      (Reg.CNV_STAT l) 23 = false) :=
  ⟨({ (bench 2).setReg (Reg.CNV_STAT 0) 0x80000000 with pool := { links := [(0, { rbuf := List.replicate 1024 {} })] } }),
    _, _, 0, rfl, by decide +kernel, by decide +kernel, by decide +kernel, by decide +kernel, by decide +kernel,
    by decide +kernel, rfl, by decide +kernel, by decide +kernel⟩

theorem witness_LinkService_11 :
    ∃ (s u v : State) (l : Fin 32), (v = padArrive s l) ∧ (linkUp v l.val = true) ∧ (slotNow v l = true) ∧ (slotAbsent
      v l = false) ∧ ((v.link l.val).rbuf.length < 1024) ∧ ((v.link l.val).arriving = none) ∧ (slotFallow v l = false)
      ∧ ((v.link l.val).lm = []) ∧ ((v.link l.val).layby = []) ∧ ((v.link l.val).hold = 0) ∧ ((v.link l.val).seed =
      none) ∧ (u = (slotStart v l).setBit (Reg.CNV_STAT l) 23 false) ∧ (v.bit (Reg.CNV_STAT l) 23 = false) ∧ (u.bit
      (Reg.CNV_STAT l) 23 = false) ∧ (pickLaunch u l (coursesAhead v l) = none) :=
  ⟨((bench 2).setReg (Reg.CNV_STAT 0) 0x80000000), _, _, 0, rfl, by decide +kernel, by decide +kernel,
    by decide +kernel, by decide +kernel, by decide +kernel, by decide +kernel, by decide +kernel, by decide +kernel,
    by decide +kernel, by decide +kernel, rfl, by decide +kernel, by decide +kernel, by decide +kernel⟩

theorem witness_LinkService_12 :
    ∃ (s u v : State) (l : Fin 32) (y : Launch) (c : Option (Nat × Nat)), (v = padArrive s l) ∧ (linkUp v l.val =
      true) ∧ (slotNow v l = true) ∧ (slotAbsent v l = false) ∧ ((v.link l.val).rbuf.length < 1024) ∧ ((v.link
      l.val).arriving = none) ∧ (slotFallow v l = false) ∧ ((v.link l.val).lm = []) ∧ ((v.link l.val).layby = []) ∧
      ((v.link l.val).hold = 0) ∧ ((v.link l.val).seed = none) ∧ (u = (slotStart v l).setBit (Reg.CNV_STAT l) 23
      false) ∧ (v.bit (Reg.CNV_STAT l) 23 = false) ∧ (u.bit (Reg.CNV_STAT l) 23 = false) ∧ (pickLaunch u l
      (coursesAhead v l) = some (y, c)) :=
  ⟨({ ((bench 2).setReg (Reg.CNV_STAT 0) 0x80000000 : State) with pool := { launch := [{ frame := {}, cls := 1, via := some 0 }] } }),
    _, _, 0, { frame := {}, cls := 1, via := some 0 }, none, rfl, by decide +kernel, by decide +kernel,
    by decide +kernel, by decide +kernel, by decide +kernel, by decide +kernel, by decide +kernel, by decide +kernel,
    by decide +kernel, by decide +kernel, rfl, by decide +kernel, by decide +kernel, by decide +kernel⟩

theorem witness_LinkService_13 :
    ∃ (s : State) (l : Nat) (f : Frame) (b : Bool) (x : Link) (g : Frame), (x = s.link l) ∧ (g = stampTide s
      { f with seq := nextSeq s l, ack := curAck s l }) :=
  ⟨((bench 2).setReg (Reg.CNV_STAT 0) 0x80000000), 0, {}, false, {}, { ack := 4095 }, by decide +kernel⟩

theorem witness_LinkService_14 :
    ∃ (s u : State) (l : Fin 32) (t : Nat), (ExpiryActs s 1 (replayDue s l)) ∧ ((s.link l.val).timer = some t) ∧
      (linkUp s l.val = true) ∧ (t + s.fld (Reg.CNV_REPLAY l) 12 0 ≤ s.clock) ∧ (u = replayStart s l) :=
  ⟨({ { (bench 2).setReg (Reg.CNV_STAT 0) 0x80000000 with pool := { links := [(0, { timer := some 0 })] } } with clock := 100000 }),
    (replayStart
    ({ { (bench 2).setReg (Reg.CNV_STAT 0) 0x80000000 with pool := { links := [(0, { timer := some 0 })] } } with clock := 100000 })
    0), 0, 0, by decide +kernel⟩

theorem witness_LinkService_15 :
    ∃ (s u : State) (l : Fin 32) (t : Nat), (ExpiryActs s 1 (replayDue s l)) ∧ ((s.link l.val).timer = some t) ∧
      (linkUp s l.val = true) ∧ (t + s.fld (Reg.CNV_REPLAY l) 12 0 ≤ s.clock) ∧ (u = replayStart s l) ∧ (u.fld
      (Reg.CNV_REPLAY l) 27 24 ≤ (s.link l.val).reps) :=
  ⟨({ { (bench 2).setReg (Reg.CNV_STAT 0) 0x80000000 with pool := { links := [(0, { timer := some 0, reps := 15 })] } } with clock := 100000 }),
    (replayStart
    ({ { (bench 2).setReg (Reg.CNV_STAT 0) 0x80000000 with pool := { links := [(0, { timer := some 0, reps := 15 })] } } with clock := 100000 })
    0), 0, 0, by decide +kernel⟩

theorem witness_LinkService_16 :
    ∃ (s v : State) (l : Nat), (v = (raiseLink s l 2 0xF (((s.link l).rbuf.head?.map Frame.seq).getD 0)).setLink l
      { (raiseLink s l 2 0xF (((s.link l).rbuf.head?.map Frame.seq).getD 0)).link l with reps := 0 }) :=
  ⟨(bench 2), ((raiseLink (bench 2) 0 2 0xF 0).setLink 0 { (raiseLink (bench 2) 0 2 0xF 0).link 0 with reps := 0 }),
    0, by decide +kernel⟩

theorem witness_LinkService_17 :
    ∃ (s : State) (l : Fin 32), (ExpiryActs s 1 (replayDue s l)) ∧ ((s.link l.val).timer = none ∨ linkUp s l.val =
      false) :=
  ⟨(bench 2), 0, by decide +kernel⟩

theorem witness_LinkService_18 :
    ∃ (s : State) (l : Fin 32), (replayDue s l = some s.clock) ∧ (s.closing = false) :=
  ⟨({ (bench 2).setReg (Reg.CNV_STAT 0) 0x80000000 with pool := { links := [(0, { timer := some 0 })] } }.setReg
    (Reg.CNV_REPLAY 0) 0), 0, by decide +kernel⟩

theorem witness_LinkService_19 :
    ∃ (s : State) (l : Fin 32), (s.clock < (s.link l.val).winFrom + msClocks) :=
  ⟨(bench 2), 0, by decide +kernel⟩

theorem witness_LinkService_20 :
    ∃ (s u : State) (l : Fin 32), ((s.link l.val).winFrom + msClocks ≤ s.clock) ∧ (u = (List.range 9).foldl (fun s p
      => if laneHealth s l p = 1 then setHealth s l p 0 else s) s) :=
  ⟨({ bench 2 with clock := 10000000 }), ({ bench 2 with clock := 10000000 }), 0, by decide +kernel⟩

theorem witness_LinkService_21 :
    ∃ (s : State) (l : Fin 32) (p : Path), (MayWrite s p (Reg.CNV_LAYBY l)) :=
  ⟨(bench 2), 0, .sideband, by decide +kernel⟩

theorem witness_LinkService_22 :
    ∃ (s u : State) (p : Path) (l : Fin 32) (w : Fin 4), (MayWriteGk s p (Reg.CNV_TRAIN l)) ∧ (u = (disarm s p).setF
      (Reg.CNV_TRAIN l) 3 2 w.val) :=
  ⟨({ bench 2 with acc := { keys := [(.sideband, 0)] } }), ((disarm
    ({ bench 2 with acc := { keys := [(.sideband, 0)] } }) .sideband).setF (Reg.CNV_TRAIN 0) 3 2 1), .sideband, 0, 1,
    by decide +kernel⟩

theorem witness_LinkService_23 :
    ∃ (s u : State) (p : Path) (l : Fin 32) (w : Fin 4), (MayWriteGk s p (Reg.CNV_TRAIN l)) ∧ (w.val = (disarm s
      p).fld (Reg.CNV_TRAIN l) 3 2) ∧ (u = (disarm s p).setF (Reg.CNV_TRAIN l) 3 2 w.val) :=
  ⟨({ bench 2 with acc := { keys := [(.sideband, 0)] } }), ((disarm
    ({ bench 2 with acc := { keys := [(.sideband, 0)] } }) .sideband).setF (Reg.CNV_TRAIN 0) 3 2 3), .sideband, 0, 3,
    by decide +kernel⟩

theorem witness_LinkService_24 :
    ∃ (s u : State) (p : Path) (l : Fin 32) (v : Word), (MayWriteGk s p (Reg.CNV_CTL l)) ∧ (u = (disarm s p).setReg
      (Reg.CNV_CTL l) (setBit (v &&& 0xF0001#32) 0 (bit v 0 && !(isolated (disarm s p) (uLink l) && !canEnable (disarm
      s p) (uLink l))))) ∧ ((bit v 0 && !(isolated (disarm s p) (uLink l) && !canEnable (disarm s p) (uLink l))) =
      true) ∧ (linkState u l = LinkState.off ∨ (linkState u l = LinkState.failed ∧ (disarm s p).bit (Reg.CNV_CTL l) 0
      = false ∧ ((disarm s p).link l).isolatedEn = true)) :=
  ⟨({ (bench 2 : State) with acc := { keys := [(.sideband, 0)] } }), ((disarm
    ({ (bench 2 : State) with acc := { keys := [(.sideband, 0)] } }) .sideband).setReg (Reg.CNV_CTL 0) 1), .sideband,
    0, 1, by decide +kernel⟩

theorem witness_LinkService_25 :
    ∃ (s u : State) (p : Path) (l : Fin 32) (v : Word), (MayWriteGk s p (Reg.CNV_CTL l)) ∧ (u = (disarm s p).setReg
      (Reg.CNV_CTL l) (setBit (v &&& 0xF0001#32) 0 (bit v 0 && !(isolated (disarm s p) (uLink l) && !canEnable (disarm
      s p) (uLink l))))) ∧ ((bit v 0 && !(isolated (disarm s p) (uLink l) && !canEnable (disarm s p) (uLink l))) =
      true) ∧ (linkState u l ≠ LinkState.off) ∧ (linkState u l ≠ LinkState.failed ∨ (disarm s p).bit (Reg.CNV_CTL l) 0
      = true ∨ ((disarm s p).link l).isolatedEn = false) :=
  ⟨({ ((bench 2).setReg (Reg.CNV_STAT 0) 0x80000000 : State) with acc := { keys := [(.sideband, 0)] } }), ((disarm
    ({ ((bench 2).setReg (Reg.CNV_STAT 0) 0x80000000 : State) with acc := { keys := [(.sideband, 0)] } })
    .sideband).setReg (Reg.CNV_CTL 0) 1), .sideband, 0, 1, by decide +kernel⟩

theorem witness_LinkService_26 :
    ∃ (s u : State) (p : Path) (l : Fin 32) (v : Word), (MayWriteGk s p (Reg.CNV_CTL l)) ∧ (u = (disarm s p).setReg
      (Reg.CNV_CTL l) (setBit (v &&& 0xF0001#32) 0 (bit v 0 && !(isolated (disarm s p) (uLink l) && !canEnable (disarm
      s p) (uLink l))))) ∧ (bit v 0 = true) ∧ ((isolated (disarm s p) (uLink l) && !canEnable (disarm s p) (uLink l))
      = true) :=
  ⟨({ ({ (bench 2).setReg (stickyOff 0) 1 with flt := { isolated := [(uLink 0, 0)] } } : State) with acc := { keys := [(.sideband, 0)] } }),
    ((disarm
    ({ ({ (bench 2).setReg (stickyOff 0) 1 with flt := { isolated := [(uLink 0, 0)] } } : State) with acc := { keys := [(.sideband, 0)] } })
    .sideband).setReg (Reg.CNV_CTL 0) 0), .sideband, 0, 1, by decide +kernel⟩

theorem witness_LinkService_27 :
    ∃ (s u : State) (p : Path) (l : Fin 32) (v : Word), (MayWriteGk s p (Reg.CNV_CTL l)) ∧ (u = (disarm s p).setReg
      (Reg.CNV_CTL l) (setBit (v &&& 0xF0001#32) 0 (bit v 0 && !(isolated (disarm s p) (uLink l) && !canEnable (disarm
      s p) (uLink l))))) ∧ (bit v 0 = false) :=
  ⟨({ ((bench 2).setReg (Reg.CNV_STAT 0) 0x80000000 : State) with acc := { keys := [(.sideband, 0)] } }), ((disarm
    ({ ((bench 2).setReg (Reg.CNV_STAT 0) 0x80000000 : State) with acc := { keys := [(.sideband, 0)] } })
    .sideband).setReg (Reg.CNV_CTL 0) 0), .sideband, 0, 0, by decide +kernel⟩

theorem witness_LinkNegotiation_1 :
    ∃ (s : State) (l : Fin 32) (m : LmMsg), (linkUp s l.val = false) :=
  ⟨(bench 2), 0, { reqw := 3, dev := 0, link := 0, rxok := 255, txmap := 0, rxmap := 0, width := 3, mapgen := true },
    by decide +kernel⟩

theorem witness_LinkNegotiation_2 :
    ∃ (s u : State) (l : Fin 32) (m : LmMsg), (linkUp s l.val = true) ∧ (u = s.setLink l
      { s.link l with peerOk := m.rxok, peerW := m.reqw }) ∧ ((u.link l.val).request = none ∨ leads u l.val m.dev
      m.link = false) :=
  ⟨((bench 2).setReg (Reg.CNV_STAT 0) 0x80000000), (((bench 2).setReg (Reg.CNV_STAT 0) 0x80000000).setLink 0
    { ((bench 2).setReg (Reg.CNV_STAT 0) 0x80000000).link 0 with peerOk := 255, peerW := 3 }), 0,
    { reqw := 3, dev := 0, link := 0, rxok := 255, txmap := 0, rxmap := 0, width := 3, mapgen := true },
    by decide +kernel⟩

theorem witness_LinkNegotiation_3 :
    ∃ (s u : State) (l : Fin 32) (m : LmMsg), (linkUp s l.val = true) ∧ (u = s.setLink l
      { s.link l with peerOk := m.rxok, peerW := m.reqw }) ∧ ((u.link l.val).request.isSome = true) ∧ (leads u l.val
      m.dev m.link = true) :=
  ⟨({ (bench 2).setReg (Reg.CNV_STAT 0) 0xA0000000 with pool := { links := [(0, { request := some 3 })] } }),
    (({ (bench 2).setReg (Reg.CNV_STAT 0) 0xA0000000 with pool := { links := [(0, { request := some 3 })] } }).setLink
    0
    { ({ (bench 2).setReg (Reg.CNV_STAT 0) 0xA0000000 with pool := { links := [(0, { request := some 3 })] } }).link 0 with peerOk := 255, peerW := 3 }),
    0, { reqw := 3, dev := 5, link := 0, rxok := 255, txmap := 0, rxmap := 0, width := 3, mapgen := true },
    by decide +kernel⟩

theorem witness_LinkNegotiation_4 :
    ∃ (s u v : State) (l : Fin 32) (w : Nat), (w = ((s.link l).request).getD (maxW s l)) ∧ (u = setLinkState (setLead
      s l false) l LinkState.reneg) ∧ (v = (if linkState s l = LinkState.active then linkRep u l else u)) :=
  ⟨((bench 2).setReg (Reg.CNV_STAT 0) 0x80000000), _, _, 0, _, rfl, rfl, rfl⟩

theorem witness_LinkNegotiation_5 :
    ∃ (s u : State) (l : Fin 32) (m : LmMsg), (linkState s l.val = LinkState.reneg) ∧ ((s.link l.val).request.isSome =
      true) ∧ (u = setLead (s.setLink l { s.link l with peerOk := m.rxok, peerW := m.reqw }) l true) :=
  ⟨({ (bench 2).setReg (Reg.CNV_STAT 0) 0xA0000000 with pool := { links := [(0, { request := some 3 })] } }), (setLead
    (({ (bench 2).setReg (Reg.CNV_STAT 0) 0xA0000000 with pool := { links := [(0, { request := some 3 })] } }).setLink
    0 { request := some 3, peerOk := 255, peerW := 3 }) 0 true), 0,
    { reqw := 3, dev := 0, link := 0, rxok := 255, txmap := 0, rxmap := 0, width := 3, mapgen := true },
    by decide +kernel⟩

theorem witness_LinkNegotiation_6 :
    ∃ (s : State) (l : Fin 32) (m : LmMsg), (linkState s l.val ≠ LinkState.reneg ∨ (s.link l.val).request = none) :=
  ⟨(bench 2), 0, { reqw := 3, dev := 0, link := 0, rxok := 255, txmap := 0, rxmap := 0, width := 3, mapgen := true },
    by decide +kernel⟩

theorem witness_LinkNegotiation_7 :
    ∃ (s : State) (l : Nat) (c : Option (Nat × Word × Word)), (c = chooseMap s l ((s.link l).request.getD (maxW s l))
      (s.link l).peerW) :=
  ⟨(bench 2), 0, none, by decide +kernel⟩

theorem witness_LinkNegotiation_8 :
    ∃ (s u : State) (l : Fin 32) (m : LmMsg), (linkState s l.val = LinkState.reneg) ∧ (u = s.setLink l
      { s.link l with rxPend := some (m.txmap, m.mapgen) }) :=
  ⟨({ (bench 2).setReg (Reg.CNV_STAT 0) 0xA0000000 with pool := { links := [(0, {  })] } }),
    (({ (bench 2).setReg (Reg.CNV_STAT 0) 0xA0000000 with pool := { links := [(0, {  })] } }).setLink 0
    { rxPend := some (0, true) }), 0,
    { reqw := 3, dev := 0, link := 0, rxok := 255, txmap := 0, rxmap := 0, width := 3, mapgen := true },
    by decide +kernel⟩

theorem witness_LinkNegotiation_9 :
    ∃ (s : State) (l : Fin 32) (m : LmMsg), (linkState s l.val ≠ LinkState.reneg) :=
  ⟨(bench 2), 0, { reqw := 3, dev := 0, link := 0, rxok := 255, txmap := 0, rxmap := 0, width := 3, mapgen := true },
    by decide +kernel⟩

theorem witness_LinkNegotiation_10 :
    ∃ (s : State) (l : Fin 32), (linkState s l.val = LinkState.reneg) :=
  ⟨({ (bench 2).setReg (Reg.CNV_STAT 0) 0xA0000000 with pool := { links := [(0, {  })] } }), 0, by decide +kernel⟩

theorem witness_LinkNegotiation_11 :
    ∃ (s u v : State) (l : Fin 32) (t : Nat), (ExpiryActs s 1 (s.link l).answerBy) ∧ (linkState s l.val =
      LinkState.reneg) ∧ ((s.link l.val).answerBy = some t) ∧ (t ≤ s.clock) ∧ (u = reset4 (lmSend s l 4 0 0 0 0 false)
      l) ∧ (v = u.setLink l { u.link l with aborts := (s.link l).aborts + 1 }) :=
  ⟨({ (({ (bench 2).setReg (Reg.CNV_STAT 0) 0xA0000000 with pool := { links := [(0, { answerBy := some 0 })] } }) : State) with clock := 1 }
    : State), (reset4 (lmSend
    ({ (({ (bench 2).setReg (Reg.CNV_STAT 0) 0xA0000000 with pool := { links := [(0, { answerBy := some 0 })] } }) : State) with clock := 1 }
    : State) 0 4 0 0 0 0 false) 0), ((reset4 (lmSend
    ({ (({ (bench 2).setReg (Reg.CNV_STAT 0) 0xA0000000 with pool := { links := [(0, { answerBy := some 0 })] } }) : State) with clock := 1 }
    : State) 0 4 0 0 0 0 false) 0).setLink 0
    { (reset4 (lmSend ({ (({ (bench 2).setReg (Reg.CNV_STAT 0) 0xA0000000 with pool := { links := [(0, { answerBy := some 0 })] } }) : State) with clock := 1 } : State) 0 4 0 0 0 0 false) 0).link 0 with aborts := 1 }),
    0, 0, by decide +kernel⟩

theorem witness_LinkNegotiation_12 :
    ∃ (s : State) (l : Fin 32), (ExpiryActs s 1 (s.link l).answerBy) ∧ ((s.link l.val).answerBy = none ∨ linkState s
      l.val ≠ LinkState.reneg) :=
  ⟨(bench 2), 0, by decide +kernel⟩

theorem witness_LinkNegotiation_13 :
    ∃ (s : State) (l : Fin 32), ((s.link l.val).answerBy = some s.clock) ∧ (s.closing = false) :=
  ⟨({ (bench 2).setReg (Reg.CNV_STAT 0) 0xA0000000 with pool := { links := [(0, { answerBy := some 0 })] } }), 0,
    by decide +kernel⟩

theorem witness_LinkNegotiation_14 :
    ∃ (s : State) (l : Fin 32) (p : Fin 9) (rx ok : Bool), ((s.link l.val).laneTrain = none) :=
  ⟨(bench 2), 0, 0, true, true, by decide +kernel⟩

theorem witness_LinkNegotiation_15 :
    ∃ (s u : State) (l : Fin 32) (p : Fin 9) (a b : Nat), ((s.link l.val).laneTrain = some (a, b)) ∧ (u = setHealth s
      l p 2) :=
  ⟨({ (bench 2).setReg (Reg.CNV_STAT 0) 0xA0000000 with pool := { links := [(0, { laneTrain := some (0, 1) })] } }),
    (setHealth
    ({ (bench 2).setReg (Reg.CNV_STAT 0) 0xA0000000 with pool := { links := [(0, { laneTrain := some (0, 1) })] } }) 0
    0 2), 0, 0, 0, 1, by decide +kernel⟩

theorem witness_LinkNegotiation_16 :
    ∃ (s : State) (l : Fin 32) (p : Fin 9) (a b : Nat), ((s.link l.val).laneTrain = some (a, b)) :=
  ⟨({ (bench 2).setReg (Reg.CNV_STAT 0) 0xA0000000 with pool := { links := [(0, { laneTrain := some (1, 0) })] } }),
    0, 0, 1, 0, by decide +kernel⟩

theorem witness_LinkNegotiation_17 :
    ∃ (s u : State) (l : Fin 32) (p : Fin 9) (a b : Nat), ((s.link l.val).laneTrain = some (a, b)) ∧ (b.testBit p.val
      = true) ∧ (a ≠ 0 ∨ b ≠ 2 ^ p.val) ∧ (u = setHealth s l p 0) :=
  ⟨({ (bench 2).setReg (Reg.CNV_STAT 0) 0xA0000000 with pool := { links := [(0, { laneTrain := some (0, 3) })] } }),
    (setHealth
    ({ (bench 2).setReg (Reg.CNV_STAT 0) 0xA0000000 with pool := { links := [(0, { laneTrain := some (0, 3) })] } }) 0
    0 0), 0, 0, 0, 3, by decide +kernel⟩

theorem witness_LinkNegotiation_18 :
    ∃ (s u : State) (l : Fin 32) (p : Fin 9) (w : Nat) (tx m : Word), ((s.link l.val).laneTrain = some (0, 2 ^ p.val))
      ∧ (u = setHealth s l p 0) ∧ (chooseMap u l ((u.link l).request.getD (maxW u l)) (u.link l).peerW = some (w, tx,
      m)) :=
  ⟨({ ((bench 2).setReg (Reg.CNV_CTL 0) 0xC0001).setReg (Reg.CNV_STAT 0) 0xA0000000 with pool := { links := [(0, { laneTrain := some (0, 1), peerOk := 255, peerW := 3 })] } }),
    (setHealth
    ({ ((bench 2).setReg (Reg.CNV_CTL 0) 0xC0001).setReg (Reg.CNV_STAT 0) 0xA0000000 with pool := { links := [(0, { laneTrain := some (0, 1), peerOk := 255, peerW := 3 })] } })
    0 0 0), 0, 0, 3, 0x76543210, 0x76543210, by decide +kernel⟩

theorem witness_LinkNegotiation_19 :
    ∃ (s : State) (l : Fin 32) (b : TrainBlock) (k : BitVec 9), (linkState s l.val ≠ LinkState.detect) ∧ (linkState s
      l.val ≠ LinkState.lock) ∧ (linkState s l.val ≠ LinkState.config) :=
  ⟨(bench 2), 0,
    { dev := 1, link := 0, mode := false, maxw := 3, rxok := 255, spare := false, req := false, stamp := 0, turn := 0 },
    0, by decide +kernel⟩

theorem witness_LinkNegotiation_20 :
    ∃ (s u : State) (l : Fin 32) (b : TrainBlock), (linkState s l.val = LinkState.detect) ∧ (u = setLinkState s l
      LinkState.lock) :=
  ⟨({ (bench 2).setReg (Reg.CNV_STAT 0) 0x20000000 with pool := { links := [(0, {  })] } }), (setLinkState
    ({ (bench 2).setReg (Reg.CNV_STAT 0) 0x20000000 with pool := { links := [(0, {  })] } }) 0 LinkState.lock), 0,
    { dev := 1, link := 0, mode := false, maxw := 3, rxok := 255, spare := false, req := false, stamp := 0, turn := 0 },
    by decide +kernel⟩

theorem witness_LinkNegotiation_21 :
    ∃ (s u v : State) (l : Fin 32) (k : BitVec 9) (b : TrainBlock), (linkState s l.val = LinkState.lock) ∧ (u =
      (List.range 9).foldl (fun s p => setHealth s l p (if k.toNat.testBit p then 0 else 2)) s) ∧ (v = learnPeer
      (u.setLink l { u.link l with locked := k.toNat }) l b) :=
  ⟨({ (bench 2).setReg (Reg.CNV_STAT 0) 0x40000000 with pool := { links := [(0, {  })] } }), ((List.range 9).foldl
    (fun s p => setHealth s 0 p (if (255 : Nat).testBit p then 0 else 2))
    ({ (bench 2).setReg (Reg.CNV_STAT 0) 0x40000000 with pool := { links := [(0, {  })] } })), (learnPeer
    (((List.range 9).foldl (fun s p => setHealth s 0 p (if (255 : Nat).testBit p then 0 else 2))
    ({ (bench 2).setReg (Reg.CNV_STAT 0) 0x40000000 with pool := { links := [(0, {  })] } })).setLink 0
    { ((List.range 9).foldl (fun s p => setHealth s 0 p (if (255 : Nat).testBit p then 0 else 2)) ({ (bench 2).setReg (Reg.CNV_STAT 0) 0x40000000 with pool := { links := [(0, {  })] } })).link 0 with locked := 255 })
    0
    { dev := 1, link := 0, mode := false, maxw := 3, rxok := 255, spare := false, req := false, stamp := 0, turn := 0 }),
    0, 255,
    { dev := 1, link := 0, mode := false, maxw := 3, rxok := 255, spare := false, req := false, stamp := 0, turn := 0 },
    by decide +kernel⟩

theorem witness_LinkNegotiation_22 :
    ∃ (s : State) (l : Fin 32) (b : TrainBlock), (linkState s l.val = LinkState.config) :=
  ⟨({ (bench 2).setReg (Reg.CNV_STAT 0) 0x60000000 with pool := { links := [(0, {  })] } }), 0,
    { dev := 1, link := 0, mode := false, maxw := 3, rxok := 255, spare := false, req := false, stamp := 0, turn := 0 },
    by decide +kernel⟩

theorem witness_LinkNegotiation_23 :
    ∃ (s : State) (l : Fin 32) (b : TrainBlock), (linkState s l.val = LinkState.config) :=
  ⟨({ (bench 2).setReg (Reg.CNV_STAT 0) 0x60000000 with pool := { links := [(0, {  })] } }), 0,
    { dev := 1, link := 0, mode := false, maxw := 3, rxok := 255, spare := false, req := false, stamp := 0, turn := 0 },
    by decide +kernel⟩

theorem witness_LinkNegotiation_24 :
    ∃ (s u : State) (l : Fin 32) (b : TrainBlock) (r : Nat), (linkState s l.val = LinkState.config) ∧ (r = ((s.clock +
      2 ^ 31 - b.stamp % 2 ^ 31) % 2 ^ 31 - b.turn) % 2 ^ 16) ∧ (u = (setPeer (learnPeer s l b) l b).setReg
      (Reg.CNV_DELAY l) (BitVec.ofNat 32 (r * 2 ^ 16 + r / 2))) :=
  ⟨({ (bench 2).setReg (Reg.CNV_STAT 0) 0x60000000 with pool := { links := [(0, {  })] } }), _, 0,
    { dev := 1, link := 0, mode := false, maxw := 3, rxok := 255, spare := false, req := false, stamp := 0, turn := 0 },
    _, by decide +kernel, rfl, rfl⟩

theorem witness_LinkNegotiation_25 :
    ∃ (s : State) (l : Fin 32), (ExpiryActs s 1 (some ((s.link l).lockAt + 20 * msClocks))) ∧ (linkState s l.val ≠
      LinkState.lock) :=
  ⟨(bench 2), 0, by decide +kernel⟩

theorem witness_LinkNegotiation_26 :
    ∃ (s : State) (l : Fin 32), ((s.link l).lockAt + 20 * msClocks = s.clock) ∧ (s.closing = false) :=
  ⟨{ (bench 2) with clock := 20 * msClocks }, 0, by decide +kernel⟩

theorem witness_LinkNegotiation_27 :
    ∃ (s : State) (l : Fin 32), (ExpiryActs s 1 (some ((s.link l).lockAt + 20 * msClocks))) ∧ (linkState s l.val =
      LinkState.lock) :=
  ⟨({ (bench 2).setReg (Reg.CNV_STAT 0) 0x40000000 with pool := { links := [(0, {  })] } }), 0, by decide +kernel⟩

theorem witness_MovesWithPeers_1 :
    ∃ (s : State) (f : Frame), (holding s = true) :=
  ⟨(bench 5), { src := 5, line := 0, txid := 7 }, by decide +kernel⟩

theorem witness_MovesWithPeers_2 :
    ∃ (s : State) (f : Frame), (moveKeyWaits s f = true) :=
  ⟨(let t := tagged (mkEnt 4 0 0 0); { t with clock := 1, keys := { slots := [(0, { state := 2 })] } }),
    { src := 5, line := 0, txid := 7 }, by decide +kernel⟩

theorem witness_MovesWithPeers_3 :
    ∃ (s : State) (f : Frame) (o : OldSet), (TakenUnder s f o) ∧ (holding s = false) :=
  ⟨{ bench 2 with sets := { (bench 2).sets with swaps := 1, olds := [{ num := 0, tables := [], regs := [] }] }, pool := { take := [(0, 0, {}, 0)] } },
    {}, { num := 0, tables := [], regs := [] }, by decide +kernel⟩

theorem witness_MovesWithPeers_4 :
    ∃ (s : State) (f : Frame), (holding s = false) ∧ (TakenNow s f) ∧ (moveKeyWaits s f = false) ∧ (s.code =
      Mode.safe) :=
  ⟨(bench 7), { src := 5, line := 0, txid := 7 }, by decide +kernel⟩

theorem witness_MovesWithPeers_5 :
    ∃ (s : State) (f : Frame), (holding s = false) ∧ (TakenNow s f) ∧ (moveKeyWaits s f = false) ∧ (s.code ≠
      Mode.safe) ∧ (pageGood s (pageOf (f.line * 64)) = false ∨ eState (storedEntry s (pageOf (f.line * 64))) < 4) :=
  ⟨(bench 2), { src := 5, line := 0, txid := 7 }, by decide +kernel⟩

theorem witness_MovesWithPeers_6 :
    ∃ (s : State) (f : Frame), (holding s = false) ∧ (TakenNow s f) ∧ (moveKeyWaits s f = false) ∧ (s.code ≠
      Mode.safe) ∧ (pageGood s (pageOf (f.line * 64)) = true) ∧ (4 ≤ eState (storedEntry s (pageOf (f.line * 64)))) ∧
      (pageBusy s (pageOf (f.line * 64)) = true) :=
  ⟨({ (({ setEntry (served 5) 0 (mkEnt 4 0 0 0) with port := {} } : State).setReg Reg.GEN_MODE 2) with tier := { (({ setEntry (served 5) 0 (mkEnt 4 0 0 0) with port := {} } : State).setReg Reg.GEN_MODE 2).tier with peerMoves := [{ dev := 5, mid := 7, page := 0, tag := 0, sending := false, rid := 0, run := 1000 }] } }),
    { src := 5, line := 0, txid := 7 }, by decide +kernel⟩

theorem witness_MovesWithPeers_7 :
    ∃ (s : State) (f : Frame), (holding s = false) ∧ (TakenNow s f) ∧ (moveKeyWaits s f = false) ∧ (s.code ≠
      Mode.safe) ∧ (pageGood s (pageOf (f.line * 64)) = true) ∧ (4 ≤ eState (storedEntry s (pageOf (f.line * 64)))) ∧
      (pageBusy s (pageOf (f.line * 64)) = false) ∧ (tagSlot s f.tag = none) :=
  ⟨(({ setEntry (served 5) 0 (mkEnt 4 0 0 0) with port := {} } : State).setReg Reg.GEN_MODE 2),
    { src := 5, line := 0, txid := 7 }, by decide +kernel⟩

theorem witness_MovesWithPeers_8 :
    ∃ (s v : State) (f : Frame) (k : Nat), (holding s = false) ∧ (TakenNow s f) ∧ (moveKeyWaits s f = false) ∧ (s.code
      ≠ Mode.safe) ∧ (pageGood s (pageOf (f.line * 64)) = true) ∧ (4 ≤ eState (storedEntry s (pageOf (f.line * 64))))
      ∧ (pageBusy s (pageOf (f.line * 64)) = false) ∧ (tagSlot s f.tag = some k) ∧ (keyLoaded s k = true) ∧ (v =
      writeBlock s (pageOf (f.line * 64))) :=
  ⟨(tagged (mkEnt 4 0 0 0)), _, { src := 5, line := 0, txid := 7 }, 0, by decide +kernel, by decide +kernel,
    by decide +kernel, by decide +kernel, by decide +kernel, by decide +kernel, by decide +kernel, by decide +kernel,
    by decide +kernel, rfl⟩

theorem witness_MovesWithPeers_9 :
    ∃ (s v : State) (f : Frame) (k n : Nat), (holding s = false) ∧ (TakenNow s f) ∧ (moveKeyWaits s f = false) ∧
      (s.code ≠ Mode.safe) ∧ (pageGood s (pageOf (f.line * 64)) = true) ∧ (4 ≤ eState (storedEntry s (pageOf (f.line *
      64)))) ∧ (pageBusy s (pageOf (f.line * 64)) = false) ∧ (tagSlot s f.tag = some k) ∧ (keyLoaded s k = true) ∧ (v
      = writeBlock s (pageOf (f.line * 64))) ∧ (n = allocSet v (storedEntry s (pageOf (f.line * 64))) false 4) :=
  ⟨(tagged (mkEnt 4 0 0 0)), _, { src := 5, line := 0, txid := 7 }, 0, _, by decide +kernel, by decide +kernel,
    by decide +kernel, by decide +kernel, by decide +kernel, by decide +kernel, by decide +kernel, by decide +kernel,
    by decide +kernel, rfl, rfl⟩

theorem witness_MovesWithPeers_10 :
    ∃ (s : State) (f : Frame), (holding s = false) ∧ (TakenNow s f) ∧ (moveKeyWaits s f = false) ∧ (s.code = Mode.safe
      ∨ pageServable s (pageOf (f.line * 64)) = false ∨ mapUnread s (pageOf (f.line * 64)) = true ∨ eState
      (storedEntry s (pageOf (f.line * 64))) = Ent.tr ∨ pageBusy s (pageOf (f.line * 64)) = true) :=
  ⟨(bench 2), { src := 5, line := 0, txid := 7 }, by decide +kernel⟩

theorem witness_MovesWithPeers_11 :
    ∃ (s v : State) (f : Frame) (k : Nat) (x : PeerMove), (holding s = false) ∧ (TakenNow s f) ∧ (moveKeyWaits s f =
      false) ∧ (s.code ≠ Mode.safe) ∧ (pageServable s (pageOf (f.line * 64)) = true) ∧ (mapUnread s (pageOf (f.line *
      64)) = false) ∧ (eState (storedEntry s (pageOf (f.line * 64))) ≠ Ent.tr) ∧ (pageBusy s (pageOf (f.line * 64)) =
      false) ∧ (tagSlot s f.tag = some k) ∧ (keyLoaded s k = true) ∧ (v =
      { (takeId s).1 with tier := { (takeId s).1.tier with peerMoves := (takeId s).1.tier.peerMoves ++ [x] } }) ∧ (x =
      { dev := f.src, mid := f.txid, page := (pageOf (f.line * 64)), tag := f.tag, sending := true, rid := (takeId s).2, since := (takeId s).1.clock, key := k, cset := takenSet (takeId s).1 f }) :=
  ⟨(tagged (mkEnt 0 0 0 1000)), _, { src := 5, line := 0, txid := 7 }, 0, _, by decide +kernel, by decide +kernel,
    by decide +kernel, by decide +kernel, by decide +kernel, by decide +kernel, by decide +kernel, by decide +kernel,
    by decide +kernel, by decide +kernel, rfl, rfl⟩

theorem witness_MovesWithPeers_12 :
    ∃ (s v : State) (f : Frame) (m : Move) (ls : List (Line × Bool)), (holding s = false) ∧ (TakenNow s f) ∧
      (s.tier.moves.find? (fun m => decide (m.id % 65536 = f.txid ∧ m.phase = 4 ∧ m.dev = f.src)) = some m) ∧ ((if
      m.lines ≠ [] then (s, linesOfMap m.lines) else pageNow s m.page (m.key.getD 0) []) = (v, ls)) :=
  ⟨({ bench 2 with tier := { moves := [{ id := 7, page := 0, core := 3, slot := 0, tgt := 3, dev := 5, old := 0, phase := 4 }] } }),
    _, { src := 5, line := 0, txid := 7 },
    ({ id := 7, page := 0, core := 3, slot := 0, tgt := 3, dev := 5, old := 0, phase := 4 }), _, by decide +kernel,
    by decide +kernel, by decide +kernel, rfl⟩

theorem witness_MovesWithPeers_13 :
    ∃ (s : State) (f : Frame) (m : Move), (holding s = false) ∧ (TakenNow s f) ∧ (s.tier.moves.find? (fun m => decide
      (m.id % 65536 = f.txid ∧ movePeer m = some f.src) && [4].contains m.phase) = some m) ∧ (m.phase ≠ 7) :=
  ⟨({ bench 2 with tier := { moves := [{ id := 7, page := 0, core := 3, slot := 0, tgt := 3, dev := 5, old := 0, phase := 4 }] } }),
    { src := 5, line := 0, txid := 7 },
    ({ id := 7, page := 0, core := 3, slot := 0, tgt := 3, dev := 5, old := 0, phase := 4 }), by decide +kernel⟩

theorem witness_MovesWithPeers_14 :
    ∃ (s : State) (f : Frame) (m : Move), (holding s = false) ∧ (TakenNow s f) ∧ (peerMoveOf s f = none) ∧
      (s.tier.moves.find? (fun m => decide (m.id % 65536 = f.txid ∧ movePeer m = some f.src) && [3, 4, 5, 6,
      7].contains m.phase) = some m) :=
  ⟨({ bench 2 with tier := { moves := [{ id := 7, page := 0, core := 3, slot := 0, tgt := 3, dev := 5, old := 0, phase := 5 }] } }),
    { src := 5, line := 0, txid := 7 },
    ({ id := 7, page := 0, core := 3, slot := 0, tgt := 3, dev := 5, old := 0, phase := 5 }), by decide +kernel⟩

theorem witness_MovesWithPeers_15 :
    ∃ (s : State) (f : Frame) (x : PeerMove), (holding s = false) ∧ (TakenNow s f) ∧ (peerMoveOf s f = some x) :=
  ⟨({ setEntry (served 5) 0 (mkEnt 0 0 0 1000) with tier := { (setEntry (served 5) 0 (mkEnt 0 0 0 1000)).tier with peerMoves := [{ dev := 5, mid := 7, page := 0, tag := 0, sending := true, rid := 0, run := 1000 }] } }),
    { src := 5, line := 0, txid := 7 },
    ({ dev := 5, mid := 7, page := 0, tag := 0, sending := true, rid := 0, run := 1000 }), by decide +kernel⟩

theorem witness_MovesWithPeers_16 :
    ∃ (s : State) (f : Frame) (x : PeerMove), (holding s = false) ∧ (TakenNow s f) ∧ (peerMoveOf s f = some x) ∧
      (x.done = false) :=
  ⟨({ setEntry (served 5) 0 (mkEnt 0 0 0 1000) with tier := { (setEntry (served 5) 0 (mkEnt 0 0 0 1000)).tier with peerMoves := [{ dev := 5, mid := 7, page := 0, tag := 0, sending := true, rid := 0, run := 1000 }] } }),
    { src := 5, line := 0, txid := 7 },
    ({ dev := 5, mid := 7, page := 0, tag := 0, sending := true, rid := 0, run := 1000 }), by decide +kernel⟩

theorem witness_MovesWithPeers_17 :
    ∃ (s : State) (f : Frame) (x : PeerMove), (holding s = false) ∧ (TakenNow s f) ∧ (peerMoveOf s f = some x) ∧
      (x.done = true) :=
  ⟨({ setEntry (served 5) 0 (mkEnt 0 0 0 1000) with tier := { (setEntry (served 5) 0 (mkEnt 0 0 0 1000)).tier with peerMoves := [{ dev := 5, mid := 7, page := 0, tag := 0, sending := true, rid := 0, run := 1000, done := true }] } }),
    { src := 5, line := 0, txid := 7 },
    ({ dev := 5, mid := 7, page := 0, tag := 0, sending := true, rid := 0, run := 1000, done := true }),
    by decide +kernel⟩

theorem witness_MovesWithPeers_18 :
    ∃ (s v : State) (x : PeerMove) (runs : List Run), (pushAll s runs = (v, [])) :=
  ⟨(bench 2), _, { dev := 5, mid := 7, page := 0, tag := 0, sending := true, rid := 0, run := 1000 }, [], rfl⟩

theorem witness_MovesWithPeers_19 :
    ∃ (s : State) (f : Frame), (holding s = false) ∧ (TakenNow s f) ∧ (peerMoveOf s f = none) ∧ (s.tier.moves = []) :=
  ⟨(bench 2), { src := 5, line := 0, txid := 7 }, by decide +kernel⟩

theorem witness_MovesWithPeers_20 :
    ∃ (s : State) (f : Frame) (v : State) (x y : PeerMove), (holding s = false) ∧ (TakenNow s f) ∧ (peerMoveOf s f =
      some x) ∧ (x.sending = false) ∧ (x.done = false) ∧ (y =
      { x with lines := smInsert (smErase x.lines (f.line % 64)) (f.line % 64) (f.data, decide (128 ≤ f.opcode)), since := s.clock })
      ∧ (v = { s with tier := { s.tier with peerMoves := s.tier.peerMoves.map (fun z => if z = x then y else z) } }) :=
  ⟨({ setEntry (served 5) 0 (mkEnt 0 0 0 1000) with tier := { (setEntry (served 5) 0 (mkEnt 0 0 0 1000)).tier with peerMoves := [{ dev := 5, mid := 7, page := 0, tag := 0, sending := false, rid := 0, run := 1000 }] } }),
    { src := 5, line := 0, txid := 7 }, _,
    ({ dev := 5, mid := 7, page := 0, tag := 0, sending := false, rid := 0, run := 1000 }), _, by decide +kernel,
    by decide +kernel, by decide +kernel, by decide +kernel, by decide +kernel, rfl, rfl⟩

theorem witness_MovesWithPeers_21 :
    ∃ (s : State) (f : Frame) (m n : Move), (holding s = false) ∧ (TakenNow s f) ∧ (peerMoveOf s f = none) ∧
      (s.tier.moves.find? (fun m => decide (m.id % 65536 = f.txid ∧ m.phase = 6 ∧ eDev m.old = f.src)) = some m) ∧ (n
      =
      { m with lines := smInsert (smErase m.lines (f.line % 64)) (f.line % 64) (f.data, decide (128 ≤ f.opcode)), since := s.clock })
      ∧ (n.lines.length < 64) :=
  ⟨({ bench 2 with tier := { moves := [{ id := 7, page := 0, core := 3, slot := 0, tgt := 0, dev := 5, old := (BitVec.ofNat 64 (3 * 2 ^ 61 + 5 * 2 ^ 41)), phase := 6 }] } }),
    { src := 5, line := 0, txid := 7 },
    ({ id := 7, page := 0, core := 3, slot := 0, tgt := 0, dev := 5, old := (BitVec.ofNat 64 (3 * 2 ^ 61 + 5 * 2 ^ 41)), phase := 6 }),
    _, by decide +kernel, by decide +kernel, by decide +kernel, by decide +kernel, rfl, by decide +kernel⟩

theorem witness_MovesWithPeers_22 :
    ∃ (s : State) (f : Frame) (m n : Move), (holding s = false) ∧ (TakenNow s f) ∧ (peerMoveOf s f = none) ∧
      (s.tier.moves.find? (fun m => decide (m.id % 65536 = f.txid ∧ m.phase = 6 ∧ eDev m.old = f.src)) = some m) ∧ (n
      =
      { m with lines := smInsert (smErase m.lines (f.line % 64)) (f.line % 64) (f.data, decide (128 ≤ f.opcode)), since := s.clock })
      ∧ (64 ≤ n.lines.length) ∧ (m.cset = s.sets.swaps) :=
  ⟨({ bench 2 with tier := { moves := [{ id := 7, page := 0, core := 3, slot := 0, tgt := 0, dev := 5, old := (BitVec.ofNat 64 (3 * 2 ^ 61 + 5 * 2 ^ 41)), phase := 6, lines := (List.range 64).map (fun i => (i, (1, false))) }] } }),
    { src := 5, line := 0, txid := 7 },
    ({ id := 7, page := 0, core := 3, slot := 0, tgt := 0, dev := 5, old := (BitVec.ofNat 64 (3 * 2 ^ 61 + 5 * 2 ^ 41)), phase := 6, lines := (List.range 64).map (fun i => (i, (1, false))) }),
    _, by decide +kernel, by decide +kernel, by decide +kernel, by decide +kernel, rfl, by decide +kernel,
    by decide +kernel⟩

theorem witness_MovesWithPeers_23 :
    ∃ (s v : State) (f : Frame) (m : Move), (holding s = false) ∧ (TakenNow s f) ∧ (s.tier.moves.find? (fun m =>
      decide (m.id % 65536 = f.txid)) = some m) ∧ (m.phase = 5) ∧ (m.dev = f.src) ∧ (v = putPage s m.page
      (BitVec.ofNat 64 (Ent.tr * 2 ^ 61 + eOwn m.old * 2 ^ 56 + eSet m.old * 2 ^ 51 + m.dev * 2 ^ 41 + m.ppage * 2 ^
      7)) 0) :=
  ⟨({ bench 2 with tier := { moves := [{ id := 7, page := 0, core := 3, slot := 0, tgt := 3, dev := 5, old := 0, phase := 5 }] } }),
    _, { src := 5, line := 0, txid := 7 },
    ({ id := 7, page := 0, core := 3, slot := 0, tgt := 3, dev := 5, old := 0, phase := 5 }), by decide +kernel,
    by decide +kernel, by decide +kernel, by decide +kernel, by decide +kernel, rfl⟩

theorem witness_MovesWithPeers_24 :
    ∃ (s v : State) (f : Frame) (m : Move), (holding s = false) ∧ (TakenNow s f) ∧ (s.tier.moves.find? (fun m =>
      decide (m.id % 65536 = f.txid)) = some m) ∧ (m.phase = 7) ∧ (eDev m.old = f.src) ∧ (v = endLost (setEntry s
      m.page m.new) m.page) :=
  ⟨({ bench 2 with tier := { moves := [{ id := 7, page := 0, core := 3, slot := 0, tgt := 0, dev := 5, old := (BitVec.ofNat 64 (3 * 2 ^ 61 + 5 * 2 ^ 41)), phase := 7 }] } }),
    _, { src := 5, line := 0, txid := 7 },
    ({ id := 7, page := 0, core := 3, slot := 0, tgt := 0, dev := 5, old := (BitVec.ofNat 64 (3 * 2 ^ 61 + 5 * 2 ^ 41)), phase := 7 }),
    by decide +kernel, by decide +kernel, by decide +kernel, by decide +kernel, by decide +kernel, rfl⟩

theorem witness_MovesWithPeers_25 :
    ∃ (s u : State) (f : Frame) (n : Nat), (u = dropTaken s f) ∧ (n = f.opcode % 16) ∧ (msgCount (s.core n) < 56) :=
  ⟨(bench 2), _, { src := 5, line := 0, txid := 7 }, _, rfl, rfl, by decide +kernel⟩

theorem witness_MovesWithPeers_26 :
    ∃ (s : State) (f : Frame), (56 ≤ msgCount (s.core (f.opcode % 16))) :=
  ⟨((bench 2).setCore 0
    { queue := List.replicate 56 { kind := 0, snd := 16, sdev := 0, score := 0, spl := false, data := 0 } }),
    { src := 5, line := 0, txid := 7 }, by decide +kernel⟩

theorem witness_TideAndHeartbeat_1 :
    ∃ (s u v : State) (l : Fin 32) (f : Frame) (a : Nat) (k : Fin 16), (u = tick (dropTaken s f) bTide 0 1) ∧ (v =
      { u with tideU := { u.tideU with peerHops := smSet 0 u.tideU.peerHops l (pay f 19 1) } }) ∧ (inPool v = true) ∧
      (isMaster v = true) :=
  ⟨(mastered), (tick (mastered) bTide 0 1),
    { (tick (mastered) bTide 0 1) with tideU := { (tick (mastered) bTide 0 1).tideU with peerHops := smSet 0 (tick (mastered) bTide 0 1).tideU.peerHops 0 (pay { src := 5, line := 0, txid := 7 } 19 1) } },
    0, { src := 5, line := 0, txid := 7 }, 0, 0, by decide +kernel⟩

theorem witness_TideAndHeartbeat_2 :
    ∃ (s u v : State) (l : Fin 32) (f : Frame) (a : Nat) (k : Fin 16), (u = tick (dropTaken s f) bTide 0 1) ∧ (v =
      { u with tideU := { u.tideU with peerHops := smSet 0 u.tideU.peerHops l (pay f 19 1) } }) ∧ (inPool v = true) ∧
      (isMaster v = false) ∧ (u.tideU.parent ≠ some l.val) :=
  ⟨(membered 1), (tick (membered 1) bTide 0 1),
    { (tick (membered 1) bTide 0 1) with tideU := { (tick (membered 1) bTide 0 1).tideU with peerHops := smSet 0 (tick (membered 1) bTide 0 1).tideU.peerHops 0 (pay { src := 5, line := 0, txid := 7 } 19 1) } },
    0, { src := 5, line := 0, txid := 7 }, 0, 0, by decide +kernel⟩

theorem witness_TideAndHeartbeat_3 :
    ∃ (s u v : State) (l : Fin 32) (f : Frame) (a : Nat) (k : Fin 16), (u = tick (dropTaken s f) bTide 0 1) ∧ (v =
      { u with tideU := { u.tideU with peerHops := smSet 0 u.tideU.peerHops l (pay f 19 1) } }) ∧ (inPool v = true) ∧
      (isMaster v = false) ∧ (u.tideU.parent = some l.val) :=
  ⟨({ membered 1 with tideU := { parent := some 0, hops := 1 } }), (tick
    ({ membered 1 with tideU := { parent := some 0, hops := 1 } }) bTide 0 1),
    { (tick ({ membered 1 with tideU := { parent := some 0, hops := 1 } }) bTide 0 1) with tideU := { (tick ({ membered 1 with tideU := { parent := some 0, hops := 1 } }) bTide 0 1).tideU with peerHops := smSet 0 (tick ({ membered 1 with tideU := { parent := some 0, hops := 1 } }) bTide 0 1).tideU.peerHops 0 (pay { src := 5, line := 0, txid := 7 } 19 1) } },
    0, { src := 5, line := 0, txid := 7 }, 0, 0, by decide +kernel⟩

theorem witness_TideAndHeartbeat_4 :
    ∃ (s u v : State) (l : Fin 32) (f : Frame) (a : Nat) (k : Fin 16), (u = tick (dropTaken s f) bTide 0 1) ∧ (v =
      { u with tideU := { u.tideU with peerHops := smSet 0 u.tideU.peerHops l (pay f 19 1) } }) ∧ (inPool v = false) ∧
      ((pay f 11 1).testBit 2 = true) :=
  ⟨(bench 2), (tick (bench 2) bTide 0 1),
    { (tick (bench 2) bTide 0 1) with tideU := { (tick (bench 2) bTide 0 1).tideU with peerHops := smSet 0 (tick (bench 2) bTide 0 1).tideU.peerHops 0 (pay { src := 5, ty := 4, data := 0x40000000000000000000000 } 19 1) } },
    0, { src := 5, ty := 4, data := 0x40000000000000000000000 }, 0, 0, by decide +kernel⟩

theorem witness_TideAndHeartbeat_5 :
    ∃ (s u v : State) (l : Fin 32) (f : Frame) (a : Nat) (k : Fin 16), (u = tick (dropTaken s f) bTide 0 1) ∧ (v =
      { u with tideU := { u.tideU with peerHops := smSet 0 u.tideU.peerHops l (pay f 19 1) } }) ∧ (inPool v = false) ∧
      ((pay f 11 1).testBit 2 = false) ∧ (((pay f 11 1).testBit 0 && v.bit Reg.POOL_CFG 0 && v.bit Reg.POOL_CFG 1 &&
      decide (role v = 0)) = true) :=
  ⟨((bench 2).setReg Reg.POOL_CFG 3), (tick ((bench 2).setReg Reg.POOL_CFG 3) bTide 0 1),
    { (tick ((bench 2).setReg Reg.POOL_CFG 3) bTide 0 1) with tideU := { (tick ((bench 2).setReg Reg.POOL_CFG 3) bTide 0 1).tideU with peerHops := smSet 0 (tick ((bench 2).setReg Reg.POOL_CFG 3) bTide 0 1).tideU.peerHops 0 (pay { src := 5, ty := 4, data := 0x10000000000000000000000 } 19 1) } },
    0, { src := 5, ty := 4, data := 0x10000000000000000000000 }, 0, 0, by decide +kernel⟩

theorem witness_TideAndHeartbeat_6 :
    ∃ (s u v : State) (l : Fin 32) (f : Frame) (a : Nat) (k : Fin 16), (u = tick (dropTaken s f) bTide 0 1) ∧ (v =
      { u with tideU := { u.tideU with peerHops := smSet 0 u.tideU.peerHops l (pay f 19 1) } }) ∧ (inPool v = false) ∧
      ((pay f 11 1).testBit 2 = false) ∧ (((pay f 11 1).testBit 0 && v.bit Reg.POOL_CFG 0 && v.bit Reg.POOL_CFG 1 &&
      decide (role v = 0)) = false) :=
  ⟨(bench 2), (tick (bench 2) bTide 0 1),
    { (tick (bench 2) bTide 0 1) with tideU := { (tick (bench 2) bTide 0 1).tideU with peerHops := smSet 0 (tick (bench 2) bTide 0 1).tideU.peerHops 0 (pay { src := 5, line := 0, txid := 7 } 19 1) } },
    0, { src := 5, line := 0, txid := 7 }, 0, 0, by decide +kernel⟩

theorem witness_TideAndHeartbeat_7 :
    ∃ (s : State), (s.tide % 2 ^ 20 ≠ 0 ∨ s.tideU.sent = some (s.tide / 2 ^ 20)) :=
  ⟨((bench 2).setTide 5), by decide +kernel⟩

theorem witness_TideAndHeartbeat_8 :
    ∃ (s u : State), (s.tide % 2 ^ 20 = 0) ∧ (s.tideU.sent ≠ some (s.tide / 2 ^ 20)) ∧ (u =
      { s with tideU := { s.tideU with sent := some (s.tide / 2 ^ 20) } }) :=
  ⟨(bench 2), { (bench 2 : State) with tideU := { (bench 2 : State).tideU with sent := some 0 } }, by decide +kernel⟩

theorem witness_TideAndHeartbeat_9 :
    ∃ (s : State) (t : Nat), (s.tideU.excess = some t) ∧ (TideExpiryActs s (some (t + 2 ^ 21))) :=
  ⟨({ bench 2 with tideU := { excess := some 0 } }), 0, by decide +kernel⟩

theorem witness_TideAndHeartbeat_10 :
    ∃ (s : State), (s.tideU.excess = none) :=
  ⟨(bench 2), by decide +kernel⟩

theorem witness_TideAndHeartbeat_11 :
    ∃ (s : State) (l : Nat), (s.tideU.parent = some l) ∧ (readyLink s l = false) ∧ (inPool s = true) :=
  ⟨({ membered 1 with tideU := { parent := some 0, hops := 1 } }), 0, by decide +kernel⟩

theorem witness_TideAndHeartbeat_12 :
    ∃ (s : State), (s.tideU.parent = none ∨ (∃ l, l < 32 ∧ s.tideU.parent = some l ∧ (readyLink s l = true ∨ inPool s
      = false))) :=
  ⟨(bench 2), by decide +kernel⟩

theorem witness_TideAndHeartbeat_13 :
    ∃ (s : State) (l : Nat), (s.tideU.parent = some l) :=
  ⟨({ membered 1 with tideU := { parent := some 0, hops := 1 } }), 0, by decide +kernel⟩

theorem witness_TideAndHeartbeat_14 :
    ∃ (s : State), (s.tideU.parent = none) :=
  ⟨(bench 2), by decide +kernel⟩

theorem witness_TideAndHeartbeat_15 :
    ∃ (s : State), (tideAt s ≤ s.tide) ∧ (s.tideU.alarmed ≠ some (tideAt s)) :=
  ⟨(((bench 2).setReg Reg.TIDE_AT_LO 0).setReg Reg.TIDE_AT_HI 0), by decide +kernel⟩

theorem witness_TideAndHeartbeat_16 :
    ∃ (s : State), (s.tide < tideAt s ∨ s.tideU.alarmed = some (tideAt s)) :=
  ⟨(bench 2), by decide +kernel⟩

theorem witness_TideAndHeartbeat_17 :
    ∃ (s u : State) (t : Word) (p n : Nat), (s.pool.cand = some (s.devId, p, n)) ∧ (4 ≤ n) ∧ (role s = 0) ∧ (s.bit
      Reg.POOL_CFG 0 = true) ∧ (s.bit Reg.POOL_CFG 4 = true) ∧ (masterCapable s = true) ∧ (u = poolEpoch s t) :=
  ⟨({ (bench 2).setReg Reg.POOL_CFG 0x19 with pool := { cand := some (0, 0, 4) } } : State), (poolEpoch
    ({ (bench 2).setReg Reg.POOL_CFG 0x19 with pool := { cand := some (0, 0, 4) } } : State) 0), 0, 0, 4,
    by decide +kernel⟩

theorem witness_TideAndHeartbeat_18 :
    ∃ (s u : State) (t : Word), (u = s.setReg Reg.POOL_TOPO t) :=
  ⟨(bench 2), ((bench 2).setReg Reg.POOL_TOPO 0), 0, by decide +kernel⟩

theorem witness_TideAndHeartbeat_19 :
    ∃ (s : State) (t : Word), (s.pool.cand = none ∨ role s ≠ 0 ∨ s.bit Reg.POOL_CFG 4 = false) :=
  ⟨(bench 2), 0, by decide +kernel⟩

theorem witness_TideAndHeartbeat_20 :
    ∃ (s u : State) (f : Frame), (u = dropTaken s f) ∧ (inPool u = true) ∧ (f.src = masterId u) :=
  ⟨(membered 1), (membered 1), { src := 5, line := 0, txid := 7 }, by decide +kernel⟩

theorem witness_TideAndHeartbeat_21 :
    ∃ (s u : State) (f : Frame), (u = dropTaken s f) ∧ (inPool u = true) ∧ (f.src ≠ masterId u) :=
  ⟨(mastered), (mastered), { src := 5, line := 0, txid := 7 }, by decide +kernel⟩

theorem witness_TideAndHeartbeat_22 :
    ∃ (s u : State) (f : Frame), (u = dropTaken s f) ∧ (inPool u = false) :=
  ⟨(bench 2), (bench 2), { src := 5, line := 0, txid := 7 }, by decide +kernel⟩

theorem witness_TideAndHeartbeat_23 :
    ∃ (s u : State) (f : Frame), (u = dropTaken s f) ∧ (u.pool.probing = none) ∧ (isMaster u = true) :=
  ⟨(mastered), (mastered), { src := 5, line := 0, txid := 7 }, by decide +kernel⟩

theorem witness_TideAndHeartbeat_24 :
    ∃ (s u : State) (f : Frame), (u = dropTaken s f) ∧ (u.pool.probing = none) ∧ (isMaster u = false) :=
  ⟨(membered 1), (membered 1), { src := 5, line := 0, txid := 7 }, by decide +kernel⟩

theorem witness_TideAndHeartbeat_25 :
    ∃ (s u : State) (f : Frame) (t : Nat) (l : List Nat), (u = dropTaken s f) ∧ (u.pool.probing = some (t, l)) :=
  ⟨({ (membered 2).setTide 70000 with pool := { probing := some (0, []) } }),
    ({ (membered 2).setTide 70000 with pool := { probing := some (0, []) } }), { src := 5, line := 0, txid := 7 }, 0,
    [], by decide +kernel⟩

theorem witness_TideAndHeartbeat_26 :
    ∃ (s u : State) (o : List Nat), (isMaster s = true) ∧ (inPool s = true) ∧ (s.pool.hbSent ≠ some (s.tide /
      hbTides)) ∧ (o = (members s).filter (fun d => decide (d ≠ s.devId))) ∧ (u = poolSendAll s 0x05 (natBytes 8
      s.tide) o) :=
  ⟨mastered, mastered, [], by decide +kernel⟩

theorem witness_TideAndHeartbeat_27 :
    ∃ (s : State), (isMaster s = false ∨ inPool s = false ∨ s.pool.hbSent = some (s.tide / hbTides)) :=
  ⟨(bench 2), by decide +kernel⟩

theorem witness_TideAndHeartbeat_28 :
    ∃ (s : State), (isMaster s = true) ∧ (lostMembers s ≠ []) ∧ (TideExpiryActs s (some (s.tide / hbTides * hbTides))) :=
  ⟨(let s := (membered 3).setTide 1; { s.setReg Reg.POOL_TOPO 0 with pool := { misses := [(5, 5)] } }),
    by decide +kernel⟩

theorem witness_TideAndHeartbeat_29 :
    ∃ (s : State), (isMaster s = false ∨ lostMembers s = []) ∧ (TideExpiryActs s (some (s.tide / hbTides * hbTides))) :=
  ⟨((bench 2).setTide 1), by decide +kernel⟩

theorem witness_TideAndHeartbeat_30 :
    ∃ (s : State), (inPool s = true) ∧ (role s = 2) ∧ (s.pool.probing = none) ∧ (s.pool.hbAt + 4 * hbTides ≤ s.tide) ∧
      (TideExpiryActs s (some (s.pool.hbAt + 4 * hbTides))) :=
  ⟨((membered 2).setTide 70000), by decide +kernel⟩

theorem witness_TideAndHeartbeat_31 :
    ∃ (s : State), (inPool s = false ∨ role s ≠ 2 ∨ s.pool.probing.isSome = true ∨ s.tide < s.pool.hbAt + 4 * hbTides)
      ∧ (TideExpiryActs s (some (s.pool.hbAt + 4 * hbTides))) :=
  ⟨(bench 2), by decide +kernel⟩

theorem witness_TideAndHeartbeat_32 :
    ∃ (s u : State) (t : Nat) (l a : List Nat), (s.pool.probing = some (t, l)) ∧ (TideExpiryActs s (some (t + 4 *
      hbTides))) ∧ (t + 4 * hbTides ≤ s.tide) ∧ (a = l.filter (fun d => isMember s d && decide (d ≠ s.devId))) ∧ (u =
      { s with pool := { s.pool with probing := none } }) :=
  ⟨({ (membered 2).setTide 70000 with pool := { probing := some (0, [5]) } }),
    ({ ({ (membered 2).setTide 70000 with pool := { probing := some (0, [5]) } } : State) with pool := {} }), 0, [5],
    [5], by decide +kernel⟩

theorem witness_TideAndHeartbeat_33 :
    ∃ (s : State), (s.pool.probing = none) :=
  ⟨(bench 2), by decide +kernel⟩

theorem witness_TideAndHeartbeat_34 :
    ∃ (s : State) (t : Nat) (l : List Nat), (s.pool.probing = some (t, l)) ∧ (s.tide < t + 4 * hbTides) :=
  ⟨({ bench 2 with pool := { probing := some (0, []) } }), 0, [], by decide +kernel⟩

theorem witness_TideAndHeartbeat_35 :
    ∃ (s : State), (inPool s = true) ∧ (isMaster s = false) ∧ (s.pool.hbAt + 16 * hbTides ≤ s.tide) ∧ (TideExpiryActs
      s (some (s.pool.hbAt + 16 * hbTides))) :=
  ⟨((membered 1).setTide 270000), by decide +kernel⟩

theorem witness_TideAndHeartbeat_36 :
    ∃ (s : State), (inPool s = false ∨ isMaster s = true ∨ s.tide < s.pool.hbAt + 16 * hbTides) ∧ (TideExpiryActs s
      (some (s.pool.hbAt + 16 * hbTides))) :=
  ⟨(bench 2), by decide +kernel⟩

theorem witness_TideAndHeartbeat_37 :
    ∃ (s u : State) (f : Frame), (u = dropTaken s f) ∧ (inPool u = true) :=
  ⟨(membered 1), (membered 1), { src := 5, line := 0, txid := 7 }, by decide +kernel⟩

theorem witness_TideAndHeartbeat_38 :
    ∃ (s u : State) (f : Frame), (u = dropTaken s f) ∧ (inPool u = false) :=
  ⟨(bench 2), (bench 2), { src := 5, line := 0, txid := 7 }, by decide +kernel⟩

theorem witness_TideAndHeartbeat_39 :
    ∃ (s u : State) (f : Frame), (u = dropTaken s f) ∧ (inPool u = true) :=
  ⟨(membered 1), (membered 1), { src := 5, line := 0, txid := 7 }, by decide +kernel⟩

theorem witness_TideAndHeartbeat_40 :
    ∃ (s u : State) (f : Frame), (u = dropTaken s f) ∧ (inPool u = false) :=
  ⟨(bench 2), (bench 2), { src := 5, line := 0, txid := 7 }, by decide +kernel⟩

theorem witness_PoolMembership_1 :
    ∃ (s u : State) (f : Frame), (u = dropTaken s f) ∧ (isMaster u = false) :=
  ⟨(bench 2), (bench 2), { src := 5, line := 0, txid := 7 }, by decide +kernel⟩

theorem witness_PoolMembership_2 :
    ∃ (s u : State) (f : Frame), (u = dropTaken s f) ∧ (isMaster u = true) ∧ (isMember u f.src = true) :=
  ⟨((membered 3).setReg Reg.POOL_TOPO 0), ((membered 3).setReg Reg.POOL_TOPO 0), { src := 5, line := 0, txid := 7 },
    by decide +kernel⟩

theorem witness_PoolMembership_3 :
    ∃ (s u : State) (f : Frame), (u = dropTaken s f) ∧ (isMaster u = true) ∧ (isMember u f.src = false) ∧
      (neighboursMatch u f.src = false) :=
  ⟨(mastered), (mastered), { src := 5, line := 0, txid := 7 }, by decide +kernel⟩

theorem witness_PoolMembership_4 :
    ∃ (s u : State) (f : Frame), (u = dropTaken s f) ∧ (isMaster u = true) ∧ (isMember u f.src = false) ∧
      (neighboursMatch u f.src = true) ∧ (topoDX u * topoDY u ≤ (members u).length) :=
  ⟨((mastered.setReg Reg.POOL_TOPO 0).setReg (Reg.POOL_MEMB 0) 2), ((mastered.setReg Reg.POOL_TOPO 0).setReg
    (Reg.POOL_MEMB 0) 2), { src := 0 }, by decide +kernel⟩

theorem witness_PoolMembership_5 :
    ∃ (s u : State) (f : Frame), (u = dropTaken s f) ∧ (isMaster u = true) ∧ (isMember u f.src = false) ∧
      (neighboursMatch u f.src = true) ∧ ((members u).length < topoDX u * topoDY u) :=
  ⟨(mastered.setReg Reg.POOL_TOPO 0x18000000), (mastered.setReg Reg.POOL_TOPO 0x18000000), { src := 1 },
    by decide +kernel⟩

theorem witness_PoolMembership_6 :
    ∃ (s u : State) (f : Frame), (u = dropTaken s f) ∧ (role u ≠ 4) :=
  ⟨(bench 2), (bench 2), { src := 5, line := 0, txid := 7 }, by decide +kernel⟩

theorem witness_PoolMembership_7 :
    ∃ (s u v : State) (f : Frame), (u = dropTaken s f) ∧ (role u = 4) ∧ (v = u.setF Reg.PAL_SETSTAT 23 0 (pay f 8 3)) :=
  ⟨((bench 2).setReg Reg.POOL_STAT 0x80000000), ((bench 2).setReg Reg.POOL_STAT 0x80000000), (((bench 2).setReg
    Reg.POOL_STAT 0x80000000).setF Reg.PAL_SETSTAT 23 0 0), { src := 5, line := 0, txid := 7 }, by decide +kernel⟩

theorem witness_PoolMembership_8 :
    ∃ (s u : State) (f : Frame), (u = dropTaken s f) ∧ (role u = 4) :=
  ⟨(((bench 2).setReg Reg.POOL_STAT 0x80000000)), (((bench 2).setReg Reg.POOL_STAT 0x80000000)),
    { src := 5, line := 0, txid := 7 }, by decide +kernel⟩

theorem witness_PoolMembership_9 :
    ∃ (s u : State) (f : Frame), (u = dropTaken s f) ∧ (role u ≠ 4) :=
  ⟨(bench 2), (bench 2), { src := 5, line := 0, txid := 7 }, by decide +kernel⟩

theorem witness_PoolMembership_10 :
    ∃ (s u : State) (f : Frame), (u = dropTaken s f) ∧ (isMaster u = true) ∧ (isMember u f.src = true) :=
  ⟨((membered 3).setReg Reg.POOL_TOPO 0), ((membered 3).setReg Reg.POOL_TOPO 0), { src := 5, line := 0, txid := 7 },
    by decide +kernel⟩

theorem witness_PoolMembership_11 :
    ∃ (s u : State) (f : Frame), (u = dropTaken s f) ∧ (isMaster u = false ∨ isMember u f.src = false) :=
  ⟨(bench 2), (bench 2), { src := 5, line := 0, txid := 7 }, by decide +kernel⟩

theorem witness_PoolMembership_12 :
    ∃ (s u : State) (f : Frame), (u = dropTaken s f) :=
  ⟨(bench 2), (bench 2), { src := 5, line := 0, txid := 7 }, by decide +kernel⟩

theorem witness_PoolMembership_13 :
    ∃ (s : State) (c : MembChg), (s.pool.changes = [c]) :=
  ⟨({ membered 1 with pool := { changes := [{ tide := 5, gen := 1, add := [], remove := [5] }] } }),
    { tide := 5, gen := 1, add := [], remove := [5] }, by decide +kernel⟩

theorem witness_PoolMembership_14 :
    ∃ (s : State), (s.pool.changes = []) :=
  ⟨(bench 2), by decide +kernel⟩

theorem witness_PoolMembership_15 :
    ∃ (s u : State) (f : Frame), (u = dropTaken s f) :=
  ⟨(bench 2), (bench 2), { src := 5, line := 0, txid := 7 }, by decide +kernel⟩

theorem witness_PoolMembership_16 :
    ∃ (s u : State) (f : Frame), (u = dropTaken s f) ∧ (isMaster u = true) :=
  ⟨(mastered), (mastered), { src := 5, line := 0, txid := 7 }, by decide +kernel⟩

theorem witness_PoolMembership_17 :
    ∃ (s u : State) (f : Frame), (u = dropTaken s f) ∧ (isMaster u = false) :=
  ⟨(bench 2), (bench 2), { src := 5, line := 0, txid := 7 }, by decide +kernel⟩

theorem witness_PoolMembership_18 :
    ∃ (s u : State) (f : Frame) (e : Nat × Nat), (u = dropTaken s f) ∧ (u.pool.probe.find? (fun e => decide (e.1 =
      f.tag)) = some e) :=
  ⟨({ bench 2 with pool := { probe := [(0, 0)] } }), ({ bench 2 with pool := { probe := [(0, 0)] } }),
    { src := 5, line := 0, txid := 7 }, (0, 0), by decide +kernel⟩

theorem witness_PoolMembership_19 :
    ∃ (s u : State) (f : Frame), (u = dropTaken s f) ∧ (u.pool.probe.find? (fun e => decide (e.1 = f.tag)) = none) :=
  ⟨(bench 2), (bench 2), { src := 5, line := 0, txid := 7 }, by decide +kernel⟩

theorem witness_PoolMembership_20 :
    ∃ (s : State) (l : Fin 32) (n : Nat), (isOrigin s l.val = true) ∧ (linkUp s l.val = true) ∧ (n = smGet 0
      s.pool.course l.val) :=
  ⟨((bench 2).setReg (Reg.CNV_STAT 0) 0x80000000), 0, 0, by decide +kernel⟩

theorem witness_PoolMembership_21 :
    ∃ (s : State) (l : Fin 32), (isOrigin s l.val = false ∨ linkUp s l.val = false) :=
  ⟨(bench 2), 0, by decide +kernel⟩

theorem witness_PoolMembership_22 :
    ∃ (s : State), (TideExpiryActs s (if s.pool.credits.any (fun c => decide (c.2 + 4096 = s.tide)) then some s.tide
      else none)) :=
  ⟨(bench 2), by decide +kernel⟩

theorem witness_PoolMembership_23 :
    ∃ (s u : State) (f : Frame), (u = dropTaken s f) ∧ (isMaster u = true) ∧ (isMember u f.src = true) :=
  ⟨((membered 3).setReg Reg.POOL_TOPO 0), ((membered 3).setReg Reg.POOL_TOPO 0), { src := 5, line := 0, txid := 7 },
    by decide +kernel⟩

theorem witness_PoolMembership_24 :
    ∃ (s u : State) (f : Frame), (u = dropTaken s f) ∧ (isMaster u = false ∨ isMember u f.src = false) :=
  ⟨(bench 2), (bench 2), { src := 5, line := 0, txid := 7 }, by decide +kernel⟩

theorem witness_PoolMembership_25 :
    ∃ (s u : State) (f : Frame) (t g : Nat), (u = dropTaken s f) ∧ (t = pay f 0 8) ∧ (g = pay f 8 3) ∧ (t < u.tide +
      1250 ∨ setArmed u = false ∨ g ≠ shadowGen u) :=
  ⟨(bench 2), (bench 2), { src := 5, line := 0, txid := 7 }, 0, 0, by decide +kernel⟩

theorem witness_PoolMembership_26 :
    ∃ (s u : State) (f : Frame) (t g : Nat), (u = dropTaken s f) ∧ (t = pay f 0 8) ∧ (g = pay f 8 3) ∧ (u.tide + 1250
      ≤ t) ∧ (setArmed u = true) ∧ (g = shadowGen u) ∧ (committed u = false) :=
  ⟨(((membered 1).setReg Reg.PAL_SETSTAT 0x80000001)), (((membered 1).setReg Reg.PAL_SETSTAT 0x80000001)),
    { src := 5, data := 0x200000000000007d0 }, 2000, 2, by decide +kernel⟩

theorem witness_PoolMembership_27 :
    ∃ (s u : State) (f : Frame), (u = dropTaken s f) ∧ (u.pool.cmack.contains f.src = true) :=
  ⟨({ bench 2 with pool := { cmack := [5] } }), ({ bench 2 with pool := { cmack := [5] } }),
    { src := 5, line := 0, txid := 7 }, by decide +kernel⟩

theorem witness_PoolMembership_28 :
    ∃ (s u : State) (f : Frame), (u = dropTaken s f) ∧ (u.pool.cmack.contains f.src = false) :=
  ⟨(bench 2), (bench 2), { src := 5, line := 0, txid := 7 }, by decide +kernel⟩

theorem witness_PoolMembership_29 :
    ∃ (s u : State) (f : Frame) (t : Nat), (u = dropTaken s f) ∧ (t = pay f 0 8) ∧ ((finalNames f).contains u.devId =
      true) :=
  ⟨(bench 2), (bench 2), { src := 5, data := 0x100000000000000000000 }, 0, by decide +kernel⟩

theorem witness_PoolMembership_30 :
    ∃ (s u : State) (f : Frame) (t : Nat), (u = dropTaken s f) ∧ (t = pay f 0 8) ∧ ((finalNames f).contains u.devId =
      false) :=
  ⟨(bench 2), (bench 2), { src := 5, line := 0, txid := 7 }, 0, by decide +kernel⟩

theorem witness_PoolMembership_31 :
    ∃ (s u : State) (f : Frame), (u = dropTaken s f) :=
  ⟨(bench 2), (bench 2), { src := 5, line := 0, txid := 7 }, by decide +kernel⟩

theorem witness_PoolMembership_32 :
    ∃ (s u : State) (f : Frame), (u = dropTaken s f) ∧ (setArmed u = true ∨ calSegments ≤ pay f 0 2) :=
  ⟨((bench 2).setReg Reg.PAL_SETSTAT 0x80000000), ((bench 2).setReg Reg.PAL_SETSTAT 0x80000000),
    { src := 5, line := 0, txid := 7 }, by decide +kernel⟩

theorem witness_PoolMembership_33 :
    ∃ (s u : State) (f : Frame), (u = dropTaken s f) ∧ (setArmed u = false) ∧ (pay f 0 2 < calSegments) :=
  ⟨(bench 2), (bench 2), { src := 5, line := 0, txid := 7 }, by decide +kernel⟩

theorem witness_PoolMembership_34 :
    ∃ (s u : State) (p : Path) (v : Word), (MayWriteGk s p Reg.POOL_CFG) ∧ (u = (disarm s p).setReg Reg.POOL_CFG (v
      &&& 0x003FFF1B#32)) :=
  ⟨({ bench 2 with acc := { keys := [(.sideband, 0)] } }), ((disarm
    ({ bench 2 with acc := { keys := [(.sideband, 0)] } }) .sideband).setReg Reg.POOL_CFG 1), .sideband, 1,
    by decide +kernel⟩

theorem witness_PoolMembership_35 :
    ∃ (s u : State) (p : Path), (MayWriteGk s p Reg.POOL_CFG) ∧ (u = (disarm s p).setReg Reg.POOL_CFG (((disarm s
      p).reg Reg.POOL_CFG ||| 4#32) &&& 0x003FFF1B#32)) :=
  ⟨({ bench 2 with acc := { keys := [(.sideband, 0)] } }), ((disarm
    ({ bench 2 with acc := { keys := [(.sideband, 0)] } }) .sideband).setReg Reg.POOL_CFG (((disarm
    ({ bench 2 with acc := { keys := [(.sideband, 0)] } }) .sideband).reg Reg.POOL_CFG ||| 4#32) &&& 0x003FFF1B#32)),
    .sideband, by decide +kernel⟩

theorem witness_LocationsArePlacedOneToOne_1 :
    ∃ (L g n c w : Nat), (c = L / 2 ^ g) ∧ (w = L % 2 ^ g) :=
  ⟨0x1234, 8, 6, 18, 52, by decide +kernel⟩

theorem witness_LocationsArePlacedOneToOne_2 :
    ∃ (L g k c w q : Nat), (c = L / 2 ^ g) ∧ (w = L % 2 ^ g) ∧ (q = c / 2 ^ k) :=
  ⟨0x0014480C0170, 12, 1, 0x014480C0, 0x170, 0xA24060, by decide +kernel⟩

theorem witness_LocationsArePlacedOneToOne_3 :
    ∃ (L g k c w : Nat), (c = L / 2 ^ g) ∧ (w = L % 2 ^ g) :=
  ⟨0x1234, 8, 2, 18, 52, by decide +kernel⟩

theorem witness_HomeSliceOfAPage_1 :
    ∃ (a i : Nat), (i < 2) :=
  ⟨0x3000, 1, by decide +kernel⟩

theorem witness_HomeSliceOfAPage_2 :
    ∃ (p l : Nat), (l < 64) :=
  ⟨7, 63, by decide +kernel⟩

theorem witness_ReactionsNeverStayOwed :
    ∃ (s t : State), (Quiet s) :=
  ⟨State.reset, State.reset, by decide +kernel⟩

theorem witness_TamaneWordsReadBack_1 :
    ∃ (i : Instr) (w : Word), (coreWord i = some w) :=
  ⟨(.addi 3 3 0 1), 0x04600001, by decide +kernel⟩

theorem witness_TamaneWordsReadBack_2 :
    ∃ (c : Fin 16) (i : Instr) (w : Word), (legalInstr c w = some i) :=
  ⟨3, (.amoAdd 3 4 5 3 false), 0xC0851800, by decide +kernel⟩

theorem witness_ExpiriesGiveWayInTheirClock_1 :
    ∃ (s : State) (p : Path), ((keyClock s.acc.keys p).map (fun c => c + 65536) = some s.clock) ∧ (s.closing = false) :=
  ⟨{ bench 2 with clock := 65536, acc := { keys := [(.sideband, 0)] } }, .sideband, by decide +kernel⟩

theorem witness_ExpiriesGiveWayInTheirClock_2 :
    ∃ (s : State) (n : Fin 4), ((winOf s n).held.map (fun h => h.2.2 + 65536) = some s.clock) ∧ (s.closing = false) :=
  ⟨{ bench 2 with clock := 65536, acc := { win := [(0, { held := some (.sideband, 0, 0) })] } }, 0, by decide +kernel⟩

theorem witness_ExpiriesGiveWayInTheirClock_3 :
    ∃ (s : State), (limitDue s = some s.clock) ∧ (s.closing = false) :=
  ⟨{ bench 5 with clock := holdLimit (bench 5), mode := { holdFrom := some 0 } }, by decide +kernel⟩

theorem witness_ExpiriesGiveWayInTheirClock_4 :
    ∃ (s : State), (s.mode.safecapEnd = some s.clock) ∧ (s.closing = false) :=
  ⟨{ bench 7 with mode := { safecapEnd := some 0 } }, by decide +kernel⟩

theorem witness_ExpiriesGiveWayInTheirClock_5 :
    ∃ (s : State) (c : Fin 16), ((s.core c).wdog ≠ 0) ∧ (some (wdogDue (s.core c)) = some (s.clock / CLK)) ∧
      (s.closing = false) :=
  ⟨{ (cored { wdog := 1 }) with clock := 1024 * CLK }, 3, by decide +kernel⟩

theorem witness_ExpiriesGiveWayInTheirClock_6 :
    ∃ (s : State) (c : Fin 16), (waitDue s c = some (s.clock / CLK)) ∧ (s.closing = false) :=
  ⟨(cored { wait := some (.events 1 0 (some 0)) }), 3, by decide +kernel⟩

theorem witness_ExpiriesGiveWayInTheirClock_7 :
    ∃ (s : State) (c : Fin 16), (waitDue s c = some (s.clock / CLK)) ∧ (s.closing = false) :=
  ⟨(cored { wait := some (.tide 1 0 0) }), 3, by decide +kernel⟩

theorem witness_ExpiriesGiveWayInTheirClock_8 :
    ∃ (s : State), (s.sets.staging.map (fun g => g.clock + 10 * secClocks) = some s.clock) ∧ (s.closing = false) :=
  ⟨{ bench 2 with clock := 10 * secClocks, sets := { staging := some { path := 1000, bytes := [0], clock := 0, ended := false } } },
    by decide +kernel⟩

theorem witness_ExpiriesGiveWayInTheirClock_9 :
    ∃ (s : State) (c : Fin 16) (q : Fin 65536), ((messageDue s c q).map HostMsg.until_ = some s.clock) ∧ (s.closing =
      false) :=
  ⟨{ bench 2 with sets := { msgs := [{ core := 0, port := 0, ld := 0, seq := 1, until_ := 0 }] } }, 0, 1,
    by decide +kernel⟩

theorem witness_ExpiriesGiveWayInTheirClock_10 :
    ∃ (s : State), (s.pool.armFrom.map (fun c => c + 10 * msClocks) = some s.clock) ∧ (s.closing = false) :=
  ⟨{ bench 2 with clock := 10 * msClocks, pool := { armFrom := some 0 } }, by decide +kernel⟩

theorem witness_ExpiriesGiveWayInTheirClock_11 :
    ∃ (s : State) (l : Fin 256) (line : Nat), ((bisnpOf s l line).map (fun b => b.since + s.fld (Reg.HPX_TMO (l / 16))
      15 0 * usClocks) = some s.clock) ∧ (s.closing = false) :=
  ⟨{ bench 2 with clock := (bench 2).fld (Reg.HPX_TMO 0) 15 0 * usClocks, port := { bisnp := [{ ld := 0, line := 64, since := 0, txn := 7 }] } },
    0, 64, by decide +kernel⟩

theorem witness_ExpiriesGiveWayInTheirClock_12 :
    ∃ (s : State) (i : Fin 4096), (dcdDue s i = some s.clock) ∧ (s.closing = false) :=
  ⟨{ bench 2 with clock := (bench 2).fld (Reg.HPX_TMO 0) 31 16 * msClocks, port := { ext := [(0, { start := 0, blocks := 1, state := 1 })] } },
    0, by decide +kernel⟩

theorem witness_ExpiriesGiveWayInTheirClock_13 :
    ∃ (s : State), ((if urgNow s then some s.clock else none) = some s.clock) ∧ (s.closing = false) :=
  ⟨{ bench 2 with clock := 100 * usClocks, slu := { urgSince := [(0, some 0)] } }, by decide +kernel⟩

theorem witness_ExpiriesGiveWayInTheirClock_14 :
    ∃ (s : State) (n : Fin 8), ((sampleDue s n).map (fun e => e.2 + 4096) = some s.clock) ∧ (s.closing = false) :=
  ⟨{ bench 2 with clock := 4096, tel := { waiting := [(0, 0)] } }, 0, by decide +kernel⟩

theorem witness_ExpiriesGiveWayInTheirClock_15 :
    ∃ (s : State), (s.pool.commitT.map (fun t => t - 10000) = some s.tide) ∧ (s.closing = false) :=
  ⟨{ mastered with pool := { commitT := some 10000 } }, by decide +kernel⟩

theorem witness_ExpiriesGiveWayInTheirClock_16 :
    ∃ (s : State), (s.tideU.excess.map (fun t => t + 2 ^ 21) = some s.tide) ∧ (s.closing = false) :=
  ⟨{ (bench 2).setTide 2097152 with tideU := { excess := some 0 } }, by decide +kernel⟩

theorem witness_ExpiriesGiveWayInTheirClock_17 :
    ∃ (s : State), (some (s.tide / hbTides * hbTides) = some s.tide) ∧ (s.closing = false) :=
  ⟨(bench 2), by decide +kernel⟩

theorem witness_ExpiriesGiveWayInTheirClock_18 :
    ∃ (s : State), (some (s.pool.hbAt + 4 * hbTides) = some s.tide) ∧ (s.closing = false) :=
  ⟨((bench 2).setTide (4 * hbTides)), by decide +kernel⟩

theorem witness_ExpiriesGiveWayInTheirClock_19 :
    ∃ (s : State), (s.pool.probing.map (fun p => p.1 + 4 * hbTides) = some s.tide) ∧ (s.closing = false) :=
  ⟨{ (bench 2).setTide (4 * hbTides) with pool := { probing := some (0, []) } }, by decide +kernel⟩

theorem witness_ExpiriesGiveWayInTheirClock_20 :
    ∃ (s : State), (some (s.pool.hbAt + 16 * hbTides) = some s.tide) ∧ (s.closing = false) :=
  ⟨((bench 2).setTide (16 * hbTides)), by decide +kernel⟩

theorem witness_ExpiriesGiveWayInTheirClock_21 :
    ∃ (s : State), ((if s.pool.credits.any (fun c => decide (c.2 + 4096 = s.tide)) then some s.tide else none) = some
      s.tide) ∧ (s.closing = false) :=
  ⟨{ (bench 2).setTide 4096 with pool := { credits := [(0, 0)] } }, by decide +kernel⟩

end Sys2Proof.Tests
end

section
/-! PROOF. The registers that a device reset leaves (spec/03 R84, R88; reset values R12): ResetsLeaveTheirRegisters. -/

namespace Sys2Proof.Proofs

open Sys2Proof.Machine Sys2Proof.Laws

/-! ### Registers across a device reset -/

theorem resetState_reg_cold (s : State) (cause off : Nat) : (resetState s true cause).reg off = resetWord off := rfl

theorem resetState_reg_warm (s : State) (cause off : Nat) :
    (resetState s false cause).reg off = if warmKeeps off then s.reg off else resetWord off :=
  smGet_filter (resetWord off) warmKeeps s.regs off

/-- What the reset itself leaves in a register, boot step 1 leaves there unless it fills the register. -/
theorem deviceReset_reg (s : State) (cold : Bool) (cause : Nat) {off : Nat} (h : off ∉ bootRegs) :
    (deviceReset s cold cause).reg off = ((if cold then resetState (tokCut s) cold cause
      else (resetState (tokCut s) cold cause).setReg Reg.RDY_2 (s.reg Reg.RDY_2 &&& 0xFFFF#32)).setReg Reg.GEN_RSTCAUSE
        (BitVec.ofNat 32 cause)).reg off := by
  rw [deviceReset, bootStep1_reg _ _ (by cases cold <;> rfl) h, tokCut_reg]
  rfl

theorem deviceReset_cold_reg (s : State) (cause : Nat) {off : Nat} (hb : off ∉ bootRegs) (hc : off ≠ Reg.GEN_RSTCAUSE) :
    (deviceReset s true cause).reg off = resetWord off := by
  rw [deviceReset_reg s true cause hb, reg_setReg_ne _ _ hc, if_pos rfl, resetState_reg_cold]

/-- A warm reset keeps the slot bits of RDY_2 (R68) and every register that `warmKeeps` names (R84). -/
theorem deviceReset_warm_reg (s : State) (cause : Nat) {off : Nat} (hb : off ∉ bootRegs) (hc : off ≠ Reg.GEN_RSTCAUSE) :
    (deviceReset s false cause).reg off = if off = Reg.RDY_2 then s.reg Reg.RDY_2 &&& 0xFFFF#32
      else if warmKeeps off then s.reg off else resetWord off := by
  rw [deviceReset_reg s false cause hb, reg_setReg_ne _ _ hc, if_neg (by decide)]
  by_cases hr : off = Reg.RDY_2
  · rw [if_pos hr, hr, reg_setReg_same]
  · rw [if_neg hr, reg_setReg_ne _ _ hr, resetState_reg_warm, tokCut_reg]

theorem deviceReset_cause (s : State) (cold : Bool) (cause : Nat) :
    (deviceReset s cold cause).reg Reg.GEN_RSTCAUSE = BitVec.ofNat 32 cause := by
  rw [deviceReset_reg s cold cause (by decide), reg_setReg_same]

/-! ### Reset values of a bank of registers (R12) -/

/-- A descriptor whose units can reach into the offsets from `lo` up to `hi`. -/
def nearOffsets (lo hi : Nat) (d : RegDesc) : Bool := decide (d.base < hi) && decide ((lo - d.base) / d.ustride < d.units)

theorem near_of_holds {d : RegDesc} {lo hi off : Nat} (hl : lo ≤ off) (hh : off < hi) (h : d.holds off = true) :
    nearOffsets lo hi d = true := by
  simp only [RegDesc.holds, Bool.and_eq_true, decide_eq_true_eq] at h
  obtain ⟨hbase, hunit, -⟩ := h
  have hdiv : (lo - d.base) / d.ustride ≤ (off - d.base) / d.ustride :=
    Nat.div_le_div_right (Nat.sub_le_sub_right hl _)
  simp [nearOffsets, Nat.lt_of_le_of_lt hbase hh, Nat.lt_of_le_of_lt hdiv hunit]

/-- An offset is looked up among the descriptors near it. -/
theorem findReg_filter_near {lo hi off : Nat} (hl : lo ≤ off) (hh : off < hi) (l : List RegDesc) :
    findReg off (l.filter (nearOffsets lo hi)) = findReg off l := by
  induction l with
  | nil => rfl
  | cons d r ih =>
    by_cases hd : d.holds off = true
    · simp [findReg, near_of_holds hl hh hd, hd]
    · rw [List.filter_cons]
      split <;> simp [findReg, hd, ih]

/-- Outside GEN_PARAM and FLT_CLASS, whose words differ from one to the next, a register's reset value is its table's. -/
theorem resetWord_of_desc {off : Nat} {d : RegDesc} (hp : 0x60 ≤ off) (hc : off < 0x2C00400 ∨ 0x2C00700 ≤ off)
    (h : regDesc off = some d) : resetWord off = BitVec.ofNat 32 d.reset := by
  have hparam : ¬ (0x40 ≤ off ∧ off < 0x60) := by omega
  have hclass : ¬ (0x2C00400 ≤ off ∧ off < 0x2C00700) := by omega
  simp only [resetWord, if_neg hparam, if_neg hclass, h, ite_self]

/-- Each of the `n` registers `f` is in a table that gives it the reset value `w`, looked up near the bank. -/
def bankResets (f : Nat → Nat) (n : Nat) (w : Word) : Bool :=
  decide (0x60 ≤ f 0 ∧ (f n ≤ 0x2C00400 ∨ 0x2C00700 ≤ f 0)) && (List.range n).all fun k =>
    decide (f 0 ≤ f k ∧ f k < f n) && decide ((findReg (f k) (regTable.filter (nearOffsets (f 0) (f n)))).map
      (fun d => BitVec.ofNat 32 d.reset) = some w)

theorem resetWord_of_bankResets {f : Nat → Nat} {n : Nat} {w : Word} (h : bankResets f n w = true) :
    ∀ k < n, resetWord (f k) = w := by
  intro k hk
  simp only [bankResets, Bool.and_eq_true, decide_eq_true_eq, List.all_eq_true, List.mem_range] at h
  obtain ⟨⟨hp, hc⟩, hall⟩ := h
  obtain ⟨⟨hl, hh⟩, hf⟩ := hall k hk
  rw [findReg_filter_near hl hh] at hf
  obtain ⟨d, hd, rfl⟩ := Option.map_eq_some_iff.1 hf
  exact resetWord_of_desc (by omega) (by omega) hd

/-- Settles O12: boot step 1 leaves what the reset's own writes made of the registers; the reset values are read off the
tables. -/
theorem resetsLeaveTheirRegisters : Obligations.ResetsLeaveTheirRegisters := by
  unfold Obligations.ResetsLeaveTheirRegisters
  refine ⟨?_, ?_, ?_, ?_, ?_⟩
  · intro s cold cause off ho
    obtain ⟨hc, hb⟩ : off ≠ Reg.GEN_RSTCAUSE ∧ off ∉ bootRegs := by
      rwa [List.mem_cons, not_or] at ho
    cases cold with
    | true => exact deviceReset_cold_reg s cause hb hc
    | false => exact deviceReset_warm_reg s cause hb hc
  · intro s cold cause _
    exact deviceReset_cause s cold cause
  · intro s cold cause
    exact ⟨deviceReset_keys s cold cause, deviceReset_tier s cold cause, deviceReset_coh s cold cause,
      deviceReset_cores s cold cause, deviceReset_wipe s cold cause, deviceReset_dram s cold cause,
      deviceReset_pending s cold cause⟩
  · decide +kernel
  · intro r hr
    refine resetWord_of_bankResets ?_
    revert r
    decide +kernel

end Sys2Proof.Proofs
end

section
/-! PROOF. A plain register write, from the fabric to the bits (spec/02 R10, R43; spec/05 R176): PlainWritesFollowFieldTypes. -/

namespace Sys2Proof.Proofs

open Sys2Proof.Machine Sys2Proof.Laws

/-! ### A word by its field types (R10) -/

/-- A bit of the word that a write leaves: RW takes the written bit, W1C clears, W1S sets, others stay. -/
theorem getLsbD_typedValue (d : RegDesc) (old v : Word) {i : Nat} (hi : i < 32) :
    (typedValue d old v).getLsbD i = ((v.getLsbD i && (d.rw.testBit i || d.w1s.testBit i)) ||
      (old.getLsbD i && !d.rw.testBit i && !(v.getLsbD i && d.w1c.testBit i))) := by
  simp only [typedValue, BitVec.getLsbD_or, BitVec.getLsbD_and, BitVec.getLsbD_not, BitVec.getLsbD_ofNat, hi,
    decide_true, Bool.true_and]
  cases v.getLsbD i with
  | false => simp
  | true => cases d.rw.testBit i <;> simp [Bool.or_comm]

theorem takeWrite_of_desc (s : State) {off : Nat} {d : RegDesc} (h : regDesc off = some d) :
    takeWrite s off = if hwUpdated.contains d.base then s.noteWrite off d.rw else s := by
  simp only [takeWrite, h]

/-! ### The effect of a write, by its register -/

theorem regEffect_of_plain (s : State) (p : Path) (off : Nat) (v : Word) {d : RegDesc} (hs : d.setHeld = false)
    (he : effectOf d.base = none) : regEffect s p d off v = takeWrite (plainWrite s d off v) off := by
  simp [regEffect, hs, he]

theorem regEffect_of_setHeld {s : State} (p : Path) (off : Nat) (v : Word) {d : RegDesc} (hs : d.setHeld = true)
    (ha : setArmed s = false) : regEffect s p d off v = shadowWrite s d off v := by
  simp [regEffect, hs, ha]

/-! ### A write at the fabric -/

theorem exec_registerWrite_next {s : State} (p : Path) (width off val : Nat) (hr : s.inReset = false) :
    exec (.registerWrite p width off val) s = .next (settle (flow (settle (fabricWrite s p width off val)))) := by
  rw [exec_registerWrite, execRegisterWrite, access, hr]
  rfl

theorem fabricWrite_of_misaligned (s : State) {p : Path} {width off : Nat} (val : Nat) {b : Nat}
    (hb : accessBytes p width off = some b) (h : off % b ≠ 0 ∨ b < 4) :
    fabricWrite s p width off val = misaligned s p true off := by
  simp only [fabricWrite, hb, if_pos h]

theorem fabricWrite_of_word (s : State) {p : Path} {width off : Nat} (val : Nat)
    (hb : accessBytes p width off = some 4) (ha : off % 4 = 0) :
    fabricWrite s p width off val = (applyWrite s p off (BitVec.ofNat 32 val)).1 := by
  simp [fabricWrite, hb, ha]

theorem applyWrite_of_unguarded {s : State} {p : Path} {off : Nat} {d : RegDesc} (v : Word)
    (hr : writeRefused s p off = false) (hf : flashBarred s p off = false) (hc : canonOff off = off)
    (hw : windowOf off = none) (hk : off ≠ Reg.GRD_KEY) (hd : regDesc off = some d) (hg : d.guard = .none) :
    (applyWrite s p off v).1 = regEffect s p d off v := by
  simp [applyWrite, writeWord, hc, hr, hf, isIdxAddr, isIdxData, hw, hk, hd, hg]

/-- A 32-bit aligned write of a register without guard, refused by nothing, has the register's effect. -/
theorem exec_registerWrite_of_unguarded {s : State} {p : Path} {off : Nat} {d : RegDesc} (val : Nat)
    (hi : s.inReset = false) (hr : writeRefused s p off = false) (hf : flashBarred s p off = false)
    (hb : accessBytes p 32 off = some 4) (ha : off % 4 = 0) (hc : canonOff off = off) (hw : windowOf off = none)
    (hk : off ≠ Reg.GRD_KEY) (hd : regDesc off = some d) (hg : d.guard = .none) :
    exec (.registerWrite p 32 off val) s =
      .next (settle (flow (settle (regEffect s p d off (BitVec.ofNat 32 val))))) := by
  rw [exec_registerWrite_next _ _ _ _ hi, fabricWrite_of_word s val hb ha,
    applyWrite_of_unguarded _ hr hf hc hw hk hd hg]

/-- Settles O3: a write that nothing refuses reaches its register's effect, which is the plain or the shadow write. -/
theorem plainWritesFollowFieldTypes : Obligations.PlainWritesFollowFieldTypes := by
  unfold Obligations.PlainWritesFollowFieldTypes
  refine ⟨?_, ?_, ?_, ?_, ?_⟩
  · intro s p off val d hi hr hf hb ha hc hw hk hd hg hs he
    rw [exec_registerWrite_of_unguarded val hi hr hf hb ha hc hw hk hd hg, regEffect_of_plain s p off _ hs he]
    rfl
  · intro s p off val d hi hr hf hb ha hc hw hk hd hg hs hn
    rw [exec_registerWrite_of_unguarded val hi hr hf hb ha hc hw hk hd hg, regEffect_of_setHeld p off _ hs hn]
    rfl
  · intro s off d hd
    exact takeWrite_of_desc s hd
  · intro d old v i hi
    exact getLsbD_typedValue d old v hi
  · intro s p width off val b hi hb h
    rw [exec_registerWrite_next _ _ _ _ hi, fabricWrite_of_misaligned s val hb h]
    rfl

end Sys2Proof.Proofs
end

section
/-! PROOF. What waiting, tides and counters of a core do (spec/04 R140 to R144): WaitingAndEvents, a clause of it a lemma. -/

namespace Sys2Proof.Proofs

open Sys2Proof.Machine Sys2Proof.Laws

/-! ### The rules of waiting -/

theorem onGoing_goesOn {s : State} {c : Fin 16} (f : State → State) (h : goesOn s c = true) : onGoing s c f = f s :=
  if_pos h

theorem evAny_iff (s : State) (n : Nat) (m : DWord) : evAny s n m = true ↔ evView s n &&& m ≠ 0 := decide_eq_true_iff

theorem evAny_eq_false {s : State} {n : Nat} {m : DWord} (h : evView s n &&& m = 0) : evAny s n m = false := by
  simp [evAny, h]

section
variable {s : State} {c : Fin 16} {rd : Fin 32} {m : DWord} {t : Nat}

theorem waitWake_of_event {u : Option Nat} (hw : (s.core c).wait = some (.events rd m u)) (he : evView s c &&& m ≠ 0) :
    waitWake s c = takeEvents s c rd m := by
  simp [waitWake, hw, (evAny_iff s c m).2 he]

theorem waitExpire_of_reached (hw : (s.core c).wait = some (.events rd m (some t))) (ht : t ≤ s.clock / CLK)
    (he : evView s c &&& m = 0) : waitExpire s c = coreDone s c rd 0 := by
  simp [waitExpire, hw, Nat.not_lt.2 ht, evAny_eq_false he, writeRd]

theorem waitExpire_of_early (hw : (s.core c).wait = some (.events rd m (some t))) (ht : s.clock / CLK < t) :
    waitExpire s c = s := by
  simp [waitExpire, hw, ht]

theorem waitDue_events {u : Option Nat} (hw : (s.core c).wait = some (.events rd m u)) : waitDue s c = u := by
  simp [waitDue, hw]

theorem waittWake_of_event (hw : (s.core c).wait = some (.tide rd t m)) (he : evView s c &&& m ≠ 0) :
    waittWake s c = takeEvents s c rd m := by
  simp [waittWake, hw, (evAny_iff s c m).2 he]

theorem waittReach_of_reached (hw : (s.core c).wait = some (.tide rd t m)) (ht : t ≤ s.tide)
    (he : evView s c &&& m = 0) : waittReach s c = coreDone s c rd 0 := by
  simp [waittReach, hw, Nat.not_lt.2 ht, evAny_eq_false he, writeRd]

end

/-- An expiry whose deadline lies ahead of the present clock is not put off. -/
theorem expiryActs_of_early {s : State} {per t : Nat} (h : s.clock / per < t) : ExpiryActs s per (some t) := by
  simp [ExpiryActs, (Nat.ne_of_lt h).symm]

/-- In the last core clock of its clock, an expiry put off to the end is carried out. -/
theorem expiryActs_of_closing {s : State} {per : Nat} (due : Option Nat) (hc : s.closing = true)
    (hl : (s.clock + 1) % per = 0) : ExpiryActs s per due := by
  simp [ExpiryActs, hc, hl]

theorem cntr_of_lt (s : State) (snap : Bool) {k : Nat} (hk : k < 2048) :
    cntr s (BitVec.ofNat 64 k) snap = BitVec.ofNat 64 (smGet 0 (if snap then s.tel.snap else s.tel.cnt) k % 2 ^ 48) := by
  have h64 : k % 2 ^ 64 = k := Nat.mod_eq_of_lt (by omega)
  have h11 : k % 2 ^ 11 = k := Nat.mod_eq_of_lt hk
  rw [cntr, BitVec.toNat_ofNat, h64, h11]

/-! ### The instructions, on a core that issues -/

section
variable {s : State} {c : Fin 16} {rd rs1 rs2 : Fin 32} (hi : Issuing s c)
include hi

theorem exec_wait_of_event (he : evView s c &&& getT s c rs1 ≠ 0) :
    exec (.wait c rd rs1 rs2) s = .next (settle (takeEvents s c rd (getT s c rs1))) := by
  rw [exec_wait, execWait, onIssue_issuing _ hi, done_eq]
  simp [(evAny_iff _ _ _).2 he]

theorem exec_wait_of_none (he : evView s c &&& getT s c rs1 = 0) :
    exec (.wait c rd rs1 rs2) s = .next (settle (holdIssue s c (.events rd (getT s c rs1)
      (if (getT s c rs2).toNat = 0 then none else some (s.clock / CLK + (getT s c rs2).toNat))))) := by
  rw [exec_wait, execWait, onIssue_issuing _ hi, done_eq]
  simp [evAny_eq_false he]

theorem exec_waitt_of_event (he : evView s c &&& getT s c rs2 ≠ 0) :
    exec (.waitt c rd rs1 rs2) s = .next (settle (takeEvents s c rd (getT s c rs2))) := by
  rw [exec_waitt, execWaitt, onIssue_issuing _ hi, done_eq]
  simp [(evAny_iff _ _ _).2 he]

theorem exec_waitt_of_reached (he : evView s c &&& getT s c rs2 = 0) (ht : (getT s c rs1).toNat ≤ s.tide) :
    exec (.waitt c rd rs1 rs2) s = .next (settle (coreDone s c rd 0)) := by
  rw [exec_waitt, execWaitt, onIssue_issuing _ hi, done_eq]
  simp [evAny_eq_false he, ht, writeRd]

theorem exec_waitt_of_ahead (he : evView s c &&& getT s c rs2 = 0) (ht : s.tide < (getT s c rs1).toNat) :
    exec (.waitt c rd rs1 rs2) s =
      .next (settle (holdIssue s c (.tide rd (getT s c rs1).toNat (getT s c rs2)))) := by
  rw [exec_waitt, execWaitt, onIssue_issuing _ hi, done_eq]
  simp [evAny_eq_false he, Nat.not_le.2 ht]

theorem exec_tide_issuing : exec (.tide c rd) s = .next (settle (coreDone s c rd (BitVec.ofNat 64 s.tide))) := by
  rw [exec_tide, execTide, onIssue_issuing _ hi, done_eq]
  rfl

theorem exec_cntr_of_counter {snap : Bool} {k : Nat} (ha : getT s c rs1 = BitVec.ofNat 64 k) (hk : k < 2048) :
    exec (.cntr c rd rs1 snap) s = .next (settle (coreDone s c rd (BitVec.ofNat 64 (smGet 0 (if snap then s.tel.snap
      else s.tel.cnt) k % 2 ^ 48)))) := by
  have hn : ¬ 2 ^ 11 ≤ (BitVec.ofNat 64 k).toNat := by simp; omega
  rw [exec_cntr, execCntr, onIssue_issuing _ hi, done_eq]
  simp only [ha, if_neg hn, cntr_of_lt s snap hk, writeRd]

theorem exec_cntr_of_free {snap : Bool} (ha : 2048 ≤ (getT s c rs1).toNat) :
    exec (.cntr c rd rs1 snap) s = .next (settle (coreDone s.draw c rd (BitVec.ofNat 64 (Config.freeNat s.fresh)))) := by
  rw [exec_cntr, execCntr, onIssue_issuing _ hi, done_eq]
  simp only [if_pos (show 2 ^ 11 ≤ (getT s c rs1).toNat from ha), freeResult, writeRd]

end

/-! ### The ends of a held wait, on a core that goes on -/

section
variable {s : State} {c : Fin 16} {rd : Fin 32} {m : DWord} {t : Nat} (hg : goesOn s c = true)
include hg

theorem exec_waitEventWake_of_event {u : Option Nat} (hw : (s.core c).wait = some (.events rd m u))
    (he : evView s c &&& m ≠ 0) : exec (.waitEventWake c) s = .next (settle (takeEvents s c rd m)) := by
  rw [exec_waitEventWake, execWaitEventWake, onGoing_goesOn _ hg, waitWake_of_event hw he, done_eq]

/-- A wait's expiry that is not put off ends it or leaves it, as `waitExpire` says. -/
theorem exec_waitTimeout_acts (hw : (s.core c).wait = some (.events rd m (some t))) (ha : ExpiryActs s CLK (some t)) :
    exec (.waitTimeout c) s = .next (settle (waitExpire s c)) := by
  rw [exec_waitTimeout, execWaitTimeout, waitDue_events hw, atDue_acts ha, onGoing_goesOn _ hg, done_eq]

theorem exec_waittEventWake_of_event (hw : (s.core c).wait = some (.tide rd t m)) (he : evView s c &&& m ≠ 0) :
    exec (.waittEventWake c) s = .next (settle (takeEvents s c rd m)) := by
  rw [exec_waittEventWake, execWaittEventWake, onGoing_goesOn _ hg, waittWake_of_event hw he, done_eq]

theorem exec_waittTideReached_of_closing (hw : (s.core c).wait = some (.tide rd t m)) (hc : s.closing = true)
    (hl : (s.clock + 1) % CLK = 0) (ht : t ≤ s.tide) (he : evView s c &&& m = 0) :
    exec (.waittTideReached c) s = .next (settle (coreDone s c rd 0)) := by
  rw [exec_waittTideReached, execWaittTideReached, atDue_acts (expiryActs_of_closing _ hc hl), onGoing_goesOn _ hg,
    waittReach_of_reached hw ht he, done_eq]

end

/-- Settles O24: an instruction that issues or a wait that ends takes the branch that its clause's hypotheses select. -/
theorem waitingAndEvents : Obligations.WaitingAndEvents := by
  unfold Obligations.WaitingAndEvents
  refine ⟨?_, ?_, ?_, ?_, ?_, ?_, ?_, ?_, ?_, ?_, ?_, ?_, ?_⟩
  · intro s c rd rs1 rs2 hi he
    exact exec_wait_of_event hi he
  · intro s c rd rs1 rs2 hi he
    exact exec_wait_of_none hi he
  · intro s c rd rs1 rs2 hi he
    exact exec_waitt_of_event hi he
  · intro s c rd rs1 rs2 hi he ht
    exact exec_waitt_of_reached hi he ht
  · intro s c rd rs1 rs2 hi he ht
    exact exec_waitt_of_ahead hi he ht
  · intro s c rd m t hg hw he
    exact exec_waitEventWake_of_event hg hw he
  · intro s c rd m t hg hw ha ht he
    rw [exec_waitTimeout_acts hg hw ha, waitExpire_of_reached hw ht he]
  · intro s c rd m t hg hw ht
    rw [exec_waitTimeout_acts hg hw (expiryActs_of_early ht), waitExpire_of_early hw ht]
  · intro s c rd m t hg hw he
    exact exec_waittEventWake_of_event hg hw he
  · intro s c rd m t hg hw hc hl ht he
    exact exec_waittTideReached_of_closing hg hw hc hl ht he
  · intro s c rd hi
    exact exec_tide_issuing hi
  · intro s c rd rs1 snap k hi ha hk
    exact exec_cntr_of_counter hi ha hk
  · intro s c rd rs1 snap hi ha
    exact exec_cntr_of_free hi ha

end Sys2Proof.Proofs
end

section
/-! PROOF. The home slice of a page (spec/01 R23): HomeSliceOfAPage. -/

namespace Sys2Proof.Proofs

open Sys2Proof.Machine Sys2Proof.Laws

/-! ### The exclusive-OR of 2-bit fields -/

theorem xor2_lt_four (n v : Nat) : xor2 n v < 4 := by
  induction n generalizing v with
  | zero => exact Nat.zero_lt_succ 3
  | succ n ih => exact Nat.xor_lt_two_pow (n := 2) (Nat.mod_lt v (Nat.zero_lt_succ 3)) (ih (v / 4))

/-- A bit of a number's lowest 2-bit field is that bit of the number. -/
theorem testBit_mod_four {i : Nat} (hi : i < 2) (v : Nat) : (v % 4).testBit i = v.testBit i := by
  simpa [hi] using Nat.testBit_mod_two_pow v 2 i

/-- Bit `i` of the exclusive-OR of the first `n` 2-bit fields is the exclusive-OR of the fields' bits `i`: the fields
of `v / 4` are those of `v` from the second on. -/
theorem testBit_xor2 {i : Nat} (hi : i < 2) (n v : Nat) :
    (xor2 n v).testBit i = (List.range n).foldr (fun k b => (v.testBit (2 * k + i)).xor b) false := by
  induction n generalizing v with
  | zero => exact Nat.zero_testBit i
  | succ n ih =>
    have hnext (k : Nat) : (v / 4).testBit (2 * k + i) = v.testBit (2 * (k + 1) + i) := by
      rw [show 2 * (k + 1) + i = 2 * k + i + 2 by ring]
      exact Nat.testBit_div_two_pow (n := 2) v (2 * k + i)
    rw [xor2, Nat.testBit_xor, testBit_mod_four hi, ih, List.range_succ_eq_map, List.foldr_cons, List.foldr_map]
    simp only [hnext, Nat.mul_zero, Nat.zero_add, Nat.succ_eq_add_one]

/-! ### The home slice -/

theorem testBit_homeSlice {i : Nat} (hi : i < 2) (a : Nat) :
    (homeSlice a).testBit i = (List.range 17).foldr (fun k b => (a.testBit (12 + 2 * k + i)).xor b) false := by
  have hfield (k : Nat) : (a / 4096).testBit (2 * k + i) = a.testBit (12 + 2 * k + i) := by
    rw [show 12 + 2 * k + i = 2 * k + i + 12 by ring]
    exact Nat.testBit_div_two_pow (n := 12) a (2 * k + i)
  simp only [homeSlice, testBit_xor2 hi, hfield]

theorem homeSlice_congr_page {a b : Nat} (h : a / 4096 = b / 4096) : homeSlice a = homeSlice b :=
  congrArg (xor2 17) h

/-- Settles O55: bit by bit by induction on the fields that `xor2` folds; a line's offset in its page lies below bit
12. -/
theorem homeSliceOfAPage : Obligations.HomeSliceOfAPage := by
  unfold Obligations.HomeSliceOfAPage
  refine ⟨?_, ?_, ?_⟩
  · intro a
    exact xor2_lt_four 17 (a / 4096)
  · intro a i hi
    exact testBit_homeSlice hi a
  · intro p l hl
    have hpage : (4096 * p + 64 * l) / 4096 = 4096 * p / 4096 := by omega
    exact homeSlice_congr_page hpage

end Sys2Proof.Proofs
end

section
/-! PROOF. A read of a pair's low word latches its high word for the path (spec/02 R44): PairReadsAreOneValue. -/

namespace Sys2Proof.Proofs

open Sys2Proof.Machine Sys2Proof.Laws

/-- A register access of a device that is not in reset takes effect. -/
theorem access_of_running {s : State} (f : State → State) (h : s.inReset = false) :
    access s f = .next (settle (flow (settle (f s)))) := by
  rw [access, h]
  rfl

theorem isIdxAddr_eq_none {off : Nat} (h : windowOf off = none) : isIdxAddr off = none := by
  simp only [isIdxAddr, h]

theorem isIdxData_eq_none {off : Nat} (h : windowOf off = none) : isIdxData off = none := by
  simp only [isIdxData, h]

/-! ### The latched words, path by path -/

theorem hiOf_append (l m : List (Path × Nat × Word)) (p : Path) (off : Nat) :
    hiOf (l ++ m) p off = (hiOf l p off).or (hiOf m p off) := by
  induction l with
  | nil => simp [hiOf]
  | cons e r ih =>
    obtain ⟨q, o, v⟩ := e
    by_cases h : q = p ∧ o = off
    · simp [hiOf, h]
    · simp [hiOf, h, ih]

/-- A latch once read is gone. -/
theorem hiOf_dropHi_same (l : List (Path × Nat × Word)) (p : Path) (off : Nat) : hiOf (dropHi l p off) p off = none := by
  induction l with
  | nil => rfl
  | cons e r ih =>
    obtain ⟨q, o, v⟩ := e
    by_cases h : q = p ∧ o = off
    · simp [dropHi, h, ih]
    · simp [dropHi, hiOf, h, ih]

theorem hiOf_dropHi_other (l : List (Path × Nat × Word)) {p q : Path} (off o : Nat) (hq : q ≠ p) :
    hiOf (dropHi l p off) q o = hiOf l q o := by
  induction l with
  | nil => rfl
  | cons e r ih =>
    obtain ⟨q', o', v⟩ := e
    by_cases h : q' = p ∧ o' = off
    · simp [dropHi, hiOf, h, hq.symm, ih]
    · simp [dropHi, hiOf, h, ih]

@[simp] theorem setHi_hi (s : State) (l : List (Path × Nat × Word)) : (setHi s l).acc.hi = l := rfl

theorem latchHi_hi {s : State} {off : Nat} (p : Path) (h : isPairLow off = true) :
    (latchHi s p off).acc.hi = dropHi s.acc.hi p (off + 4) ++ [(p, off + 4, readValue s p (off + 4))] := by
  rw [latchHi, if_pos h, setHi_hi]

theorem hiOf_latchHi_same {s : State} {off : Nat} (p : Path) (h : isPairLow off = true) :
    hiOf (latchHi s p off).acc.hi p (off + 4) = some (readValue s p (off + 4)) := by
  rw [latchHi_hi p h, hiOf_append, hiOf_dropHi_same]
  simp [hiOf]

theorem hiOf_latchHi_other {s : State} {off : Nat} {p q : Path} (o : Nat) (h : isPairLow off = true) (hq : q ≠ p) :
    hiOf (latchHi s p off).acc.hi q o = hiOf s.acc.hi q o := by
  rw [latchHi_hi p h, hiOf_append, hiOf_dropHi_other _ _ _ hq]
  simp [hiOf, hq.symm]

/-! ### A read of one word -/

theorem homeDqdatHi_not_pairLow : isPairLow Reg.HOME_DQDATHI = false := by decide +kernel

/-- With nothing latched a read gives the register's value, and latches the high word where it reads a low one. -/
theorem readPlain_of_unlatched {s : State} {p : Path} {off : Nat} (hn : hiOf s.acc.hi p off = none)
    (hlo : off ≠ Reg.HOME_DQDATLO) (hhi : off ≠ Reg.HOME_DQDATHI) (ht : off ≠ Reg.SEC_TOKDATA) :
    readPlain s p off = (latchHi s p off, readValue s p off) := by
  simp [readPlain, hlo, hhi, ht, hn]

theorem readPlain_of_latched {s : State} {p : Path} {off : Nat} {v : Word} (hv : hiOf s.acc.hi p off = some v)
    (hlo : off ≠ Reg.HOME_DQDATLO) (hhi : off ≠ Reg.HOME_DQDATHI) :
    readPlain s p off = (setHi s (dropHi s.acc.hi p off), v) := by
  simp [readPlain, hlo, hhi, hv]

theorem readWord_of_register {s : State} {p : Path} {off : Nat} (hc : canonOff off = off)
    (hr : readRefused s p off = false) (hw : windowOf off = none) :
    readWord s p off = ((readPlain s p off).1, (readPlain s p off).2, 0) := by
  simp [readWord, hc, hr, isIdxData_eq_none hw]

theorem fabricRead_of_word (s : State) {p : Path} {off : Nat} (hb : accessBytes p 32 off = some 4) (ha : off % 4 = 0) :
    fabricRead s p 32 off = (readWord s p off).1.emit (.value p (readWord s p off).2.1.toNat) := by
  have hoff : off / 4 * 4 = off := Nat.div_mul_cancel (Nat.dvd_of_mod_eq_zero ha)
  have hword : (readWord s p off).2.1.toNat % 4294967296 = (readWord s p off).2.1.toNat :=
    Nat.mod_eq_of_lt (readWord s p off).2.1.isLt
  simp [fabricRead, hb, ha, hoff, hword]

/-- Settles O4: the latches are a list in which a low word's read puts the pair's high word, and from which the path's read
of the high word takes it. -/
theorem pairReadsAreOneValue : Obligations.PairReadsAreOneValue := by
  unfold Obligations.PairReadsAreOneValue
  refine ⟨?_, ?_, ?_⟩
  · intro s p off hi hb ha hc hr hw hp hn ht hlo
    have hhi : off ≠ Reg.HOME_DQDATHI := by
      rintro rfl
      rw [homeDqdatHi_not_pairLow] at hp
      cases hp
    rw [exec_registerPairLowRead, execRegisterPairLowRead, access_of_running _ hi, fabricRead_of_word s hb ha,
      readWord_of_register hc hr hw, readPlain_of_unlatched hn hlo hhi ht]
  · intro s p q off hp
    exact ⟨hiOf_latchHi_same p hp, fun hq o => hiOf_latchHi_other o hp hq⟩
  · intro s p off v hv hlo hhi
    rw [readPlain_of_latched hv hlo hhi]
    exact ⟨rfl, hiOf_dropHi_same s.acc.hi p off⟩

end Sys2Proof.Proofs
end

section
/-! PROOF. A sideband message runs its operations in order (spec/02 R48, R714): SidebandMessagesAnswerEveryOperation. -/

namespace Sys2Proof.Proofs

open Sys2Proof.Machine Sys2Proof.Laws

theorem sidebandOps_cons (o : SbOp) (ops : List SbOp) (s : State) (l : List (Nat × Word)) :
    sidebandOps (o :: ops) (s, l) = sidebandOps ops ((sidebandOp s o).1, l ++ [(sidebandOp s o).2]) := rfl

/-- Each operation adds one answer. -/
theorem length_sidebandOps (ops : List SbOp) (s : State) (l : List (Nat × Word)) :
    (sidebandOps ops (s, l)).2.length = l.length + ops.length := by
  induction ops generalizing s l with
  | nil => rfl
  | cons o ops ih =>
    rw [sidebandOps_cons, ih]
    simp only [List.length_append, List.length_cons, List.length_nil]
    omega

theorem sidebandMessage_of_length {ops : List SbOp} (s : State) (h1 : 1 ≤ ops.length) (h16 : ops.length ≤ 16) :
    sidebandMessage ops s = (sidebandOps ops (s, [])).1.emit (.sideband (sidebandOps ops (s, [])).2) :=
  if_neg (by omega)

theorem sidebandOp_of_reserved (s : State) {o : SbOp} (h : 2 ≤ o.code) : sidebandOp s o = (s, 3, 0) := if_pos h

theorem sidebandOp_of_misaligned (s : State) {o : SbOp} (hc : o.code < 2) (ha : o.off % 4 ≠ 0) :
    sidebandOp s o = (misaligned s .sideband (decide (o.code = 1)) o.off, 2, 0) := by
  rw [sidebandOp, if_neg (Nat.not_le.2 hc), if_pos ha]

/-- Settles O5, the count of the answers by induction on the operations. -/
theorem sidebandMessagesAnswerEveryOperation : Obligations.SidebandMessagesAnswerEveryOperation := by
  unfold Obligations.SidebandMessagesAnswerEveryOperation
  refine ⟨?_, ?_, ?_, ?_, ?_⟩
  · intro s ops hi h1 h16
    rw [exec_sidebandRegisterMessage, execSidebandRegisterMessage, access_of_running _ hi,
      sidebandMessage_of_length s h1 h16]
  · intro s ops l
    exact length_sidebandOps ops s l
  · intro s a b l
    rw [sidebandOps_cons, sidebandOps_cons, List.append_assoc]
    rfl
  · intro s o hc
    exact sidebandOp_of_reserved s hc
  · intro s o hc ha
    rw [sidebandOp_of_misaligned s hc ha]

end Sys2Proof.Proofs
end

section
/-! PROOF. The complement-pair sequence (spec/02 R53 to R56): ComplementPairs. -/

namespace Sys2Proof.Proofs

open Sys2Proof.Machine Sys2Proof.Laws

/-! ### The open sequence -/

theorem gpSettle_of_closed {s : State} (h : s.acc.gp = none) : gpSettle s = s := by
  simp only [gpSettle, h]

theorem gpSettle_of_early {s : State} {g : GpSeq} (h : s.acc.gp = some g) (ht : s.clock < g.clock + 65) :
    gpSettle s = s := by
  simp only [gpSettle, h, if_neg (Nat.not_le.2 ht)]

theorem gpSettle_of_passed {s : State} {g : GpSeq} (h : s.acc.gp = some g) (ht : g.clock + 65 ≤ s.clock) :
    gpSettle s = gpFail (closeGp s) 2 g.path g.off := by
  simp only [gpSettle, h, if_pos ht]

/-- With no sequence open a guarded write has none to abort (R55). -/
theorem gpAbort_gpSettle_of_closed {s : State} (h : s.acc.gp = none) : gpAbort (gpSettle s) = s := by
  rw [gpSettle_of_closed h]
  simp only [gpAbort, h]

theorem gpOpen_of_closed {s : State} (p : Path) (off : Nat) (v : Word) (h : s.acc.gp = none) :
    gpOpen s p off v =
      { s with acc := { s.acc with gp := some { path := p, off := off, val := v, clock := s.clock } } } := by
  rw [gpOpen, gpAbort_gpSettle_of_closed h]

theorem gpClose_of_closed {s : State} (p : Path) (off : Nat) (v : Word) (eff : Word → State → State)
    (h : s.acc.gp = none) : gpClose s p off v eff = gpFail s 4 p off := by
  simp only [gpClose, gpSettle_of_closed h, h]

section
variable {s : State} {p : Path} {off c : Nat} {v w : Word} (eff : Word → State → State)
  (h : s.acc.gp = some { path := p, off := off, val := v, clock := c }) (ht : s.clock < c + 65)
include h ht

theorem gpClose_of_complement : gpClose s p (off + 4) (~~~ v) eff = eff v (closeGp s) := by
  simp [gpClose, gpSettle_of_early h ht, h]

theorem gpClose_of_mismatch (hw : w ≠ ~~~ v) : gpClose s p (off + 4) w eff = gpFail (closeGp s) 1 p off := by
  simp [gpClose, gpSettle_of_early h ht, h, hw]

end

/-! ### A write of a GP register at the fabric -/

theorem applyWrite_of_register {s : State} {p : Path} {off : Nat} (v : Word) (hr : writeRefused s p off = false)
    (hc : canonOff off = off) (hw : windowOf off = none) : applyWrite s p off v = writeWord s p off v := by
  simp [applyWrite, hc, hr, isIdxAddr_eq_none hw, isIdxData_eq_none hw]

theorem gpBase_of_desc {off : Nat} {d : RegDesc} (hd : regDesc off = some d) : gpBase off = d.base := by
  simp only [gpBase, hd]

section
variable {s : State} {p : Path} {off : Nat} {d : RegDesc} (v : Word) (hi : s.inReset = false)
  (hr : writeRefused s p off = false) (hgp : isGp off = true) (hc : canonOff off = off) (hw : windowOf off = none)
  (hk : off ≠ Reg.GRD_KEY) (hf : flashBarred s p off = false) (hd : regDesc off = some d) (hg : d.guard = .gp)
include hr hc hw hk hf hd hg

theorem applyWrite_of_gp : applyWrite s p off v = gpWrite s p d off v := by
  rw [applyWrite_of_register v hr hc hw]
  simp [writeWord, hr, hf, hk, hd, hg]

include hi hgp

theorem exec_gpVWrite_of_base (hb : off = gpBase off) :
    exec (.gpVWrite p off v) s = .next (settle (flow (settle (gpOpen s p off v)))) := by
  have hbase : off = d.base := hb.trans (gpBase_of_desc hd)
  rw [exec_gpVWrite, execGpVWrite, access_of_running _ hi, if_pos ⟨hgp, hb⟩, applyWrite_of_gp v hr hc hw hk hf hd hg,
    gpWrite, if_pos hbase]

theorem exec_gpCWrite_of_complement_off (hb : off ≠ gpBase off) :
    exec (.gpCWrite p off v) s = .next (settle (flow (settle (gpClose s p off v (gpEffect d.base))))) := by
  have hbase : off ≠ d.base := fun e => hb (e.trans (gpBase_of_desc hd).symm)
  rw [exec_gpCWrite, execGpCWrite, access_of_running _ hi, if_pos ⟨hgp, hb⟩, applyWrite_of_gp v hr hc hw hk hf hd hg,
    gpWrite, if_neg hbase]

end

/-! ### The test register GRD_TESTG -/

theorem regDesc_testgC : ∃ d, regDesc (Reg.GRD_TESTG 1) = some d ∧ d.base = Reg.GRD_TESTG 0 ∧ d.guard = .gp := by
  have h : (regDesc (Reg.GRD_TESTG 1)).map (fun d => (d.base, d.guard)) = some (Reg.GRD_TESTG 0, .gp) := by
    decide +kernel
  obtain ⟨d, hd, hb⟩ := Option.map_eq_some_iff.1 h
  exact ⟨d, hd, congrArg Prod.fst hb, congrArg Prod.snd hb⟩

/-- A completed sequence on GRD_TESTG stores its value. -/
theorem gpEffect_testg (v : Word) (s : State) : gpEffect (Reg.GRD_TESTG 0) v s = s.setReg (Reg.GRD_TESTG 0) v := by
  rw [gpEffect, if_neg (by decide), if_neg (by decide), if_neg (by decide)]

theorem exec_gpCWrite_testg {s : State} {p : Path} (v : Word) (hi : s.inReset = false)
    (hr : writeRefused s p (Reg.GRD_TESTG 1) = false) :
    exec (.gpCWrite p (Reg.GRD_TESTG 1) v) s =
      .next (settle (flow (settle (gpClose s p (Reg.GRD_TESTG 1) v (gpEffect (Reg.GRD_TESTG 0)))))) := by
  obtain ⟨d, hd, hbase, hg⟩ := regDesc_testgC
  have hgp : isGp (Reg.GRD_TESTG 1) = true := by simp [isGp, hd, hg]
  have hoff : Reg.GRD_TESTG 1 ≠ gpBase (Reg.GRD_TESTG 1) := by
    rw [gpBase_of_desc hd, hbase]
    decide
  rw [← hbase]
  exact exec_gpCWrite_of_complement_off v hi hr hgp (by decide) (by decide) (by decide) (flashBarred_no (by decide)) hd
    hg hoff

/-- Settles O6: a write at _V or _C reaches `gpOpen` or `gpClose`, and what these do is read off the open sequence. -/
theorem complementPairs : Obligations.ComplementPairs := by
  unfold Obligations.ComplementPairs
  refine ⟨?_, ?_, ?_, ?_, ?_, ?_⟩
  · intro s p off v d hi hr hgp hc hw hk hf hb hd hg hn
    rw [exec_gpVWrite_of_base v hi hr hgp hc hw hk hf hd hg hb, gpOpen_of_closed p off v hn]
  · intro s p v c hi hr hs ht
    rw [exec_gpCWrite_testg _ hi hr, show Reg.GRD_TESTG 1 = Reg.GRD_TESTG 0 + 4 from rfl,
      gpClose_of_complement _ hs ht, gpEffect_testg]
    rfl
  · intro s p off v w d c hi hr hgp hc hw hk hf hb hd hg hs hoff hv ht
    rw [exec_gpCWrite_of_complement_off w hi hr hgp hc hw hk hf hd hg hb, ← hoff, gpClose_of_mismatch _ hs ht hv]
    rfl
  · intro s p off w d hi hr hgp hc hw hk hf hb hd hg hn
    rw [exec_gpCWrite_of_complement_off w hi hr hgp hc hw hk hf hd hg hb, gpClose_of_closed p off w _ hn]
    rfl
  · intro s g hi hs ht
    rw [exec_gpSequenceTimeout, execGpSequenceTimeout, access_of_running _ hi, gpSettle_of_passed hs ht]
    rfl
  · intro s g hi hs ht
    rw [exec_gpSequenceTimeout, execGpSequenceTimeout, access_of_running _ hi, gpSettle_of_early hs ht]

end Sys2Proof.Proofs
end

section
/-! PROOF. The key guard (spec/02 R58 to R61): KeyGuardArmsAndConsumes. -/

namespace Sys2Proof.Proofs

open Sys2Proof.Machine Sys2Proof.Laws

/-! ### The armed keys, path by path -/

theorem keyClock_dropKey_same (l : List (Path × Nat)) (p : Path) : keyClock (dropKey l p) p = none := by
  induction l with
  | nil => rfl
  | cons e r ih =>
    obtain ⟨q, c⟩ := e
    by_cases h : p = q
    · subst h
      simp [dropKey, ih]
    · simp [dropKey, keyClock, h, ih]

theorem keyClock_dropKey_other (l : List (Path × Nat)) {p q : Path} (hq : q ≠ p) :
    keyClock (dropKey l p) q = keyClock l q := by
  induction l with
  | nil => rfl
  | cons e r ih =>
    obtain ⟨q', c⟩ := e
    by_cases h : p = q'
    · subst h
      simp [dropKey, keyClock, hq, ih]
    · simp [dropKey, keyClock, h, ih]

/-! ### Arming, consuming, expiring -/

theorem keyWrite_of_key {s : State} (p : Path) (h : s.acc.gp = none) :
    keyWrite s p keyValue = { s with acc := { s.acc with keys := dropKey s.acc.keys p ++ [(p, s.clock)] } } := by
  rw [keyWrite, gpAbort_gpSettle_of_closed h, if_pos rfl]
  rfl

theorem keyWrite_of_other {s : State} (p : Path) {v : Word} (h : s.acc.gp = none) (hv : v ≠ keyValue) :
    keyWrite s p v = disarm s p := by
  rw [keyWrite, gpAbort_gpSettle_of_closed h, if_neg hv]

theorem gkWrite_of_armed {s : State} {p : Path} (off : Nat) (eff : State → State) (h : s.acc.gp = none)
    (hk : keyArmed s p = true) : gkWrite s p off eff = eff (disarm s p) := by
  rw [gkWrite, gpAbort_gpSettle_of_closed h, if_pos hk]

theorem gkWrite_of_unarmed {s : State} {p : Path} (off : Nat) (eff : State → State) (h : s.acc.gp = none)
    (hk : keyArmed s p = false) :
    gkWrite s p off eff = raiseWith (guardRecord s 5 (pathCode p) off) Src.keyGuardRefused (pathInfo p true off) := by
  rw [gkWrite, gpAbort_gpSettle_of_closed h, if_neg (by simp [hk])]

theorem keyExpire_of_reached {s : State} {p : Path} {c : Nat} (hk : keyClock s.acc.keys p = some c)
    (ht : c + 65536 ≤ s.clock) : keyExpire s p = disarm s p := by
  simp only [keyExpire, hk, if_pos ht]

theorem keyExpire_of_early {s : State} {p : Path} {c : Nat} (hk : keyClock s.acc.keys p = some c)
    (ht : s.clock < c + 65536) : keyExpire s p = s := by
  simp only [keyExpire, hk, if_neg (Nat.not_le.2 ht)]

theorem writeWord_of_key {s : State} {p : Path} (v : Word) (hr : writeRefused s p Reg.GRD_KEY = false) :
    (writeWord s p Reg.GRD_KEY v).1 = keyWrite s p v := by
  simp [writeWord, hr, flashBarred_no (s := s) (p := p) (off := Reg.GRD_KEY) (by decide)]

theorem exec_keyArm_of_allowed {s : State} {p : Path} (v : Word) (hi : s.inReset = false)
    (hr : writeRefused s p Reg.GRD_KEY = false) :
    exec (.keyArm p v) s = .next (settle (flow (settle (keyWrite s p v)))) := by
  rw [exec_keyArm, execKeyArm, access_of_running _ hi, applyWrite_of_register v hr (by decide) (by decide),
    writeWord_of_key v hr]

theorem exec_keyExpiry_acts {s : State} {p : Path} {c : Nat} (ha : ExpiryActs s 1 (some (c + 65536)))
    (hi : s.inReset = false) (hk : keyClock s.acc.keys p = some c) :
    exec (.keyExpiry p) s = .next (settle (flow (settle (keyExpire s p)))) := by
  rw [exec_keyExpiry, execKeyExpiry, hk, Option.map_some, atDue_acts ha, access_of_running _ hi]

/-- Settles O7: a key is an entry of the path's in the list of keys, which arming sets and a guarded write or the expiry
drops. -/
theorem keyGuardArmsAndConsumes : Obligations.KeyGuardArmsAndConsumes := by
  unfold Obligations.KeyGuardArmsAndConsumes
  refine ⟨?_, ?_, ?_, ?_, ?_, ?_, ?_⟩
  · intro s p hi hr hn
    rw [exec_keyArm_of_allowed _ hi hr, keyWrite_of_key p hn]
  · intro s p v hi hr hn hv
    rw [exec_keyArm_of_allowed v hi hr, keyWrite_of_other p hn hv]
    rfl
  · intro s p off eff hn hk
    exact gkWrite_of_armed off eff hn hk
  · intro s p off eff hn hk
    exact gkWrite_of_unarmed off eff hn hk
  · intro s p q
    exact ⟨keyClock_dropKey_same s.acc.keys p, fun hq => keyClock_dropKey_other s.acc.keys hq⟩
  · intro s p c ha hi hk ht
    rw [exec_keyExpiry_acts ha hi hk, keyExpire_of_reached hk ht]
    rfl
  · intro s p c ha hi hk ht
    rw [exec_keyExpiry_acts ha hi hk, keyExpire_of_early hk ht]

end Sys2Proof.Proofs
end

section
/-! PROOF. The indirect windows (spec/02 R62 to R65): IndirectWindowAccesses. -/

namespace Sys2Proof.Proofs

open Sys2Proof.Machine Sys2Proof.Laws

/-! ### A window that is written, and one with nothing in progress -/

@[simp] theorem winOf_setWin_same (s : State) (n : Nat) (w : Window) : winOf (setWin s n w) n = w := by
  simp [winOf, setWin]

@[simp] theorem winOf_setBit (s : State) (off i : Nat) (b : Bool) (n : Nat) : winOf (s.setBit off i b) n = winOf s n := rfl

theorem winWaits_of_idle {s : State} {n : Nat} (h : winOf s n = {}) : winWaits s n = false := by
  simp [winWaits, h]

theorem pairSettle_of_unheld {s : State} {n : Nat} (h : (winOf s n).held = none) : pairSettle s n = s := by
  simp only [pairSettle, h]

theorem pairDrop_of_unheld {s : State} {n : Nat} (h : (winOf s n).held = none) : pairDrop s n = s := by
  simp only [pairDrop, h]

theorem pairDrop_of_held {s : State} {n : Nat} {p : Path} {v : Word} {c : Nat}
    (h : winOf s n = { held := some (p, v, c) }) :
    pairDrop s n = gpFail (winErr ((setWin s n {}).setBit (Reg.IDX_STAT n) 3 false) n) 2 p (Reg.IDX_DATA n) := by
  simp only [pairDrop, h]

/-! ### Accesses at the fabric -/

/-- The word offsets of a window lead its accesses to it. -/
theorem idxAddr_place (n : Fin 4) : canonOff (Reg.IDX_ADDR n) = Reg.IDX_ADDR n ∧
    isIdxAddr (Reg.IDX_ADDR n) = some n.val := by
  revert n
  decide

theorem idxData_place (n : Fin 4) : canonOff (Reg.IDX_DATA n) = Reg.IDX_DATA n ∧
    isIdxAddr (Reg.IDX_DATA n) = none ∧ isIdxData (Reg.IDX_DATA n) = some n.val := by
  revert n
  decide

theorem applyWrite_idxAddr {s : State} {p : Path} {n : Fin 4} (v : Word)
    (hr : writeRefused s p (Reg.IDX_ADDR n) = false) : (applyWrite s p (Reg.IDX_ADDR n) v).1 = wrIdxAddr s n v := by
  obtain ⟨hc, ha⟩ := idxAddr_place n
  simp [applyWrite, hc, hr, ha]

theorem applyWrite_idxData {s : State} {p : Path} {n : Fin 4} (v : Word)
    (hr : writeRefused s p (Reg.IDX_DATA n) = false) : (applyWrite s p (Reg.IDX_DATA n) v).1 = wrIdxData s p n v := by
  obtain ⟨hc, ha, hd⟩ := idxData_place n
  simp [applyWrite, hc, hr, ha, hd]

theorem idxRead_of_answered {s t : State} {p : Path} {n : Nat} {v : Word} (hr : readRefused s p (Reg.IDX_DATA n) = false)
    (h : rdIdxData s p n none = (t, some v)) : idxRead s p n = t.emit (.value p v.toNat) := by
  simp [idxRead, hr, h]

/-! ### An access with AINC 0, or of a pair -/

/-- The access that a window takes, with TARGET, PAIR and WADDR as they stand (R63). -/
def arriving (s : State) (n : Nat) (p : Path) (write : Bool) (v : Word) (rd : Option (Fin 32)) : WinAcc :=
  { path := p, target := fld (s.reg (Reg.IDX_ADDR n)) 31 28, waddr := fld (s.reg (Reg.IDX_ADDR n)) 23 0
    pair := bit (s.reg (Reg.IDX_ADDR n)) 26, write := write, val := v, pairC := none, rd := rd }

theorem still_of_ainc {w : Word} (h : bit w 27 = false) : (bit w 27 && !bit w 26) = false := by simp [h]

theorem still_of_pair {w : Word} (h : bit w 26 = true) : (bit w 27 && !bit w 26) = false := by simp [h]

section
variable {s : State} {n : Nat} (p : Path) (v : Word)
  (ha : (bit (s.reg (Reg.IDX_ADDR n)) 27 && !bit (s.reg (Reg.IDX_ADDR n)) 26) = false)

include ha in
/-- WADDR advances only with AINC 1 and PAIR 0. -/
theorem winArrive_of_still (write : Bool) (rd : Option (Fin 32)) :
    winArrive s n p write v rd = (s, arriving s n p write v rd) := by
  simp [winArrive, arriving, ha]

variable (h : winOf s n = {})
include ha h

theorem wrIdxData_of_idle : wrIdxData s p n v = winWrite s n (arriving s n p true v none) := by
  simp [wrIdxData, winArrive_of_still p v ha, winWaits_of_idle h]

theorem rdIdxData_of_idle (rd : Option (Fin 32)) : rdIdxData s p n rd =
    ((winReads s n (arriving s n p false 0 rd)).1, some (winReads s n (arriving s n p false 0 rd)).2) := by
  simp only [rdIdxData, winArrive_of_still p 0 ha, winWaits_of_idle h, Bool.false_eq_true, if_false]

end

/-! ### What the window does with it -/

theorem winWrite_of_single {s : State} {n : Nat} {a : WinAcc} (h : winOf s n = {}) (hp : a.pair = false) :
    winWrite s n a = winSingle s n a := by
  simp [winWrite, pairSettle_of_unheld (s := s) (n := n) (by rw [h]), hp]

/-- The first word of a pair is held (R65). -/
theorem winWrite_of_first {s : State} {n : Nat} {a : WinAcc} (h : winOf s n = {}) (hp : a.pair = true) :
    winWrite s n a = (setWin s n { held := some (a.path, a.val, s.clock) }).setBit (Reg.IDX_STAT n) 3 true := by
  simp [winWrite, pairSettle_of_unheld (s := s) (n := n) (by rw [h]), hp, h]

theorem winReads_of_absent {s : State} {n : Nat} {a : WinAcc} (h : winAbsent s n a.target a.waddr = true) :
    winReads s n a = (winErr s n, 0xFFFFFFFF#32) := if_pos h

theorem winErr_eq (s : State) (n : Nat) : winErr s n = s.hwBit (Reg.IDX_STAT n) 1 := rfl

/-- Target 2, the package words, is present while the power die's link is (R62). -/
theorem winAbsent_package {s : State} (n w : Nat) (hs : s.slot.dead = false) (hy : readyD2d s 2 = true) :
    winAbsent s n 2 w = false := by
  simp [winAbsent, hs, hy]

section
variable {s : State} {n : Nat} {a : WinAcc} (ht : a.target = 2) (hs : s.slot.dead = false) (hy : readyD2d s 2 = true)
include ht hs hy

theorem winReads_package (hw : pkgWordAt a.waddr = true) :
    winReads s n a = (s, BitVec.ofNat 32 (pkgVal s a.waddr)) := by
  simp [winReads, winAbsent_package n a.waddr hs hy, targetRead, ht, hw]

theorem winSingle_package : winSingle s n a = winBusy s n a := by
  have hslot (ks : List Nat) : slotWord 2 a.waddr ks = false := by simp [slotWord]
  have hgk : winGk 2 a.waddr = false := by simp [winGk]
  simp [winSingle, ht, winAbsent_package n a.waddr hs hy, winReadOnly, winGp, hslot, hgk]

theorem targetWrite_package (hw : pkgWordAt a.waddr = true) : targetWrite s n a =
    { s with hk := { s.hk with pkg := smSet none s.hk.pkg a.waddr (some a.val) } } := by
  simp [targetWrite, winAbsent_package n a.waddr hs hy, ht, hw]

end

theorem winBusy_of_idle {s : State} {n : Nat} (a : WinAcc) (h : winOf s n = {}) :
    winBusy s n a = (setWin s n { busy := some a }).setBit (Reg.IDX_STAT n) 0 true := by
  rw [winBusy, h]

/-- With no access waiting behind it, the posted write's end leaves the window idle. -/
theorem targetDone_of_last {s : State} {n : Nat} {a : WinAcc} (h : winOf s n = { busy := some a })
    (ht : winOf (targetWrite s n a) n = { busy := some a }) : targetDone s n =
      setWin ((setWin (targetWrite s n a) n {}).setBit (Reg.IDX_STAT n) 0 false) n {} := by
  simp [targetDone, h, ht, winDrain]

theorem pairTimeout_of_reached {s : State} {n : Nat} {p : Path} {v : Word} {c : Nat}
    (h : winOf s n = { held := some (p, v, c) }) (ht : c + 65536 ≤ s.clock) : pairTimeout s n = pairDrop s n := by
  simp only [pairTimeout, h, if_pos ht]

/-- Settles O8: an access of an idle window is carried out as it arrives, on the target that IDXn_ADDR names. -/
theorem indirectWindowAccesses : Obligations.IndirectWindowAccesses := by
  unfold Obligations.IndirectWindowAccesses
  refine ⟨?_, ?_, ?_, ?_, ?_, ?_, ?_⟩
  · intro s p n v hi hr hn
    rw [exec_idxAddrWrite, execIdxAddrWrite, access_of_running _ hi, applyWrite_idxAddr v hr, wrIdxAddr,
      pairSettle_of_unheld hn, pairDrop_of_unheld hn]
  · intro s p n hi hr hidle hainc ht hw hs hy
    have hread := winReads_package (n := n) (a := arriving s n p false 0 none) ht hs hy hw
    rw [exec_idxDataRead, execIdxDataRead, access_of_running _ hi,
      idxRead_of_answered hr (rdIdxData_of_idle p (still_of_ainc hainc) hidle none), hread]
    rfl
  · intro s p n hi hr hidle hainc habs
    have hread := winReads_of_absent (a := arriving s n p false 0 none) habs
    rw [exec_idxDataRead, execIdxDataRead, access_of_running _ hi,
      idxRead_of_answered hr (rdIdxData_of_idle p (still_of_ainc hainc) hidle none), hread, winErr_eq]
    rfl
  · intro s p n v hi hr hidle hainc hpair ht hs hy
    have htarget : (arriving s n p true v none).target = 2 := ht
    rw [exec_idxDataWrite, execIdxDataWrite, access_of_running _ hi, applyWrite_idxData v hr,
      wrIdxData_of_idle p v (still_of_ainc hainc) hidle, winWrite_of_single hidle hpair, winSingle_package htarget hs hy,
      winBusy_of_idle _ hidle, arriving, ht, hpair]
  · intro s p n v hi hr hidle hpair
    rw [exec_idxDataWrite, execIdxDataWrite, access_of_running _ hi, applyWrite_idxData v hr,
      wrIdxData_of_idle p v (still_of_pair hpair) hidle, winWrite_of_first hidle hpair]
    rfl
  · intro s n a hi hbusy ht hw hs hy
    have htaken := targetWrite_package (n := n) ht hs hy hw
    rw [exec_idxTargetDone, execIdxTargetDone, access_of_running _ hi,
      targetDone_of_last hbusy (by rw [htaken]; exact hbusy), htaken]
  · intro s n p v c ha hi hheld ht
    rw [exec_idxPairTimeout, execIdxPairTimeout, hheld, Option.map_some, atDue_acts ha, access_of_running _ hi,
      pairTimeout_of_reached hheld ht, pairDrop_of_held hheld]
    rfl

end Sys2Proof.Proofs
end

section
/-! PROOF. The register space, FENCE and SETARM of a core (spec/04 R151 to R153, R157): RegisterSpaceFromCores. -/

namespace Sys2Proof.Proofs

open Sys2Proof.Machine Sys2Proof.Laws

/-! ### RGR and RGW on a core that issues -/

section
variable {s : State} {c : Fin 16} {rs1 : Fin 32} (hi : Issuing s c)
include hi

theorem exec_rgr_of_misaligned (rd : Fin 32) (ha : (getT s c rs1).toNat % 4 ≠ 0) :
    exec (.rgr c rd rs1) s = .next (settle (flow (coreTrap s c 3 (getT s c rs1).toNat))) := by
  rw [exec_rgr, execRgr, onIssue_issuing _ hi, flowDone_eq]
  simp only [if_pos ha]

theorem exec_rgw_of_misaligned (rs2 : Fin 32) (ha : (getT s c rs1).toNat % 4 ≠ 0) :
    exec (.rgw c rs1 rs2) s = .next (settle (coreTrap s c 3 (getT s c rs1).toNat)) := by
  rw [exec_rgw, execRgw, onIssue_issuing _ hi, done_eq]
  simp only [if_pos ha]

variable (ha : (getT s c rs1).toNat % 4 = 0)
include ha

/-- Beyond the register space RGR gives a free value (R7). -/
theorem exec_rgr_of_beyond (rd : Fin 32) (hb : 2 ^ 26 ≤ (getT s c rs1).toNat) :
    exec (.rgr c rd rs1) s =
      .next (settle (flow (coreDone s.draw c rd (BitVec.ofNat 64 (Config.freeNat s.fresh))))) := by
  rw [exec_rgr, execRgr, onIssue_issuing _ hi, flowDone_eq]
  simp only [ha, ne_eq, not_true_eq_false, if_false, if_pos hb, freeResult, writeRd]

theorem exec_rgw_of_beyond (rs2 : Fin 32) (hb : 2 ^ 26 ≤ (getT s c rs1).toNat) :
    exec (.rgw c rs1 rs2) s = .next (settle (coreDone s c 0 0)) := by
  rw [exec_rgw, execRgw, onIssue_issuing _ hi, done_eq]
  simp only [ha, ne_eq, not_true_eq_false, if_false, if_pos hb, nextPc]

variable (hb : (getT s c rs1).toNat < 2 ^ 26)
include hb

theorem exec_rgr_of_refused (rd : Fin 32)
    (hr : readRefused s (corePath s c) (canonOff (getT s c rs1).toNat) = true) :
    exec (.rgr c rd rs1) s = .next (settle (flow (refuse s (corePath s c) false (getT s c rs1).toNat))) := by
  rw [exec_rgr, execRgr, onIssue_issuing _ hi, flowDone_eq]
  simp only [ha, ne_eq, not_true_eq_false, if_false, if_neg (Nat.not_le.2 hb), hr, if_true, regTrap]

/-- RGR goes to the fabric when no write is posted before it, else it holds issue (R152). -/
theorem exec_rgr_of_allowed (rd : Fin 32)
    (hr : readRefused s (corePath s c) (canonOff (getT s c rs1).toNat) = false) :
    exec (.rgr c rd rs1) s = .next (settle (flow (if (s.core c).posted = [] then rgrRead s c rd (getT s c rs1).toNat
      else holdIssue s c (.rgr rd (getT s c rs1).toNat)))) := by
  rw [exec_rgr, execRgr, onIssue_issuing _ hi, flowDone_eq]
  simp only [ha, ne_eq, not_true_eq_false, if_false, if_neg (Nat.not_le.2 hb), hr, Bool.false_eq_true]

/-- RGW that nothing refuses is posted and ends. -/
theorem exec_rgw_of_allowed (rs2 : Fin 32)
    (hr : writeRefused s (corePath s c) (canonOff (getT s c rs1).toNat) = false)
    (hf : flashBarred s (corePath s c) (canonOff (getT s c rs1).toNat) = false)
    (hs : (isSetHeld (canonOff (getT s c rs1).toNat) && setArmed s) = false) :
    exec (.rgw c rs1 rs2) s = .next (settle (coreDone (s.setCore c { s.core c with posted := (s.core c).posted ++
      [((getT s c rs1).toNat, BitVec.ofNat 32 (getT s c rs2).toNat, !supervisor s c)] }) c 0 0)) := by
  rw [exec_rgw, execRgw, onIssue_issuing _ hi, done_eq]
  simp only [ha, ne_eq, not_true_eq_false, if_false, if_neg (Nat.not_le.2 hb), hr, hf, hs, Bool.or_self,
    Bool.false_eq_true, nextPc]

end

theorem rgrRead_of_register {s : State} {c : Fin 16} {off : Nat} (rd : Fin 32) (h : isIdxData (canonOff off) = none) :
    rgrRead s c rd off = coreDone (readPlain s (corePath s c) (canonOff off)).1 c rd
      ((readPlain s (corePath s c) (canonOff off)).2.zeroExtend 64) := by
  simp only [rgrRead, h, writeRd]

/-! ### The posted writes -/

/-- The oldest posted write reaches the fabric; a core that no RGR holds goes no further. -/
theorem rgwApply_of_posted {s : State} {c : Fin 16} {off : Nat} {v : Word} {o : Bool} {r : List (Nat × Word × Bool)}
    (hp : (s.core c).posted = (off, v, o) :: r)
    (hw : ((applyWrite (s.setCore c { s.core c with posted := r }) (.core c o) off v).1.core c).wait = none) :
    rgwApply s c = (applyWrite (s.setCore c { s.core c with posted := r }) (.core c o) off v).1 := by
  simp only [rgwApply, hp, hw]

/-! ### FENCE and SETARM -/

section
variable {s : State} {c : Fin 16} (hi : Issuing s c)
include hi

theorem exec_fence_issuing (sel : Fin 8) : exec (.fence c sel) s =
    .next (settle (if fenceDone s c sel then coreDone s c 0 0 else holdIssue s c (.fence sel))) := by
  rw [exec_fence, execFence, onIssue_issuing _ hi, done_eq]
  rfl

theorem exec_setarm_issuing (rd : Fin 32) : exec (.setarm c rd) s =
    .next (settle (if supervisor s c then coreDone (armSet s).1 c rd (BitVec.ofNat 64 (armSet s).2)
      else coreTrap s c 1 (xword rd 0 0 0x1C 0))) := by
  rw [exec_setarm, execSetarm, onIssue_issuing _ hi, done_eq]
  rfl

end

theorem fenceRelease_of_done {s : State} {c : Fin 16} {sel : Nat} (hw : (s.core c).wait = some (.fence sel))
    (h : fenceDone s c sel = true) : fenceRelease s c = coreDone s c 0 0 := by
  simp only [fenceRelease, hw, h, if_true, nextPc]

/-- Settles O26: the checks of an access go in the order of its instruction, and each clause's hypotheses choose one
branch. -/
theorem registerSpaceFromCores : Obligations.RegisterSpaceFromCores := by
  unfold Obligations.RegisterSpaceFromCores
  refine ⟨?_, ?_, ?_, ?_, ?_, ?_, ?_, ?_, ?_, ?_, ?_, ?_⟩
  · intro s c rd rs1 hi ha hb hr hp hx
    rw [exec_rgr_of_allowed hi ha hb rd hr, if_pos hp, rgrRead_of_register rd hx]
  · intro s c rd rs1 hi ha hb hr hp
    rw [exec_rgr_of_allowed hi ha hb rd hr, if_neg hp]
    rfl
  · intro s c rd rs1 hi ha hb hr
    exact exec_rgr_of_refused hi ha hb rd hr
  · intro s c rd rs1 hi ha
    exact ⟨exec_rgr_of_misaligned hi rd ha, exec_rgw_of_misaligned hi rd ha⟩
  · intro s c rd rs1 hi ha hb
    exact ⟨exec_rgr_of_beyond hi ha rd hb, exec_rgw_of_beyond hi ha rd hb⟩
  · intro s c rs1 rs2 hi ha hb hr hf hs
    exact exec_rgw_of_allowed hi ha hb rs2 hr hf hs
  · intro s c off v o r hi hp _ hw
    rw [exec_rgwApplied, execRgwApplied, access_of_running _ hi, rgwApply_of_posted hp hw]
  · intro s c sel hi hd
    rw [exec_fence_issuing hi, if_pos hd]
  · intro s c sel hi hd
    rw [exec_fence_issuing hi, if_neg (by simp [hd])]
    rfl
  · intro s c sel hg hw hd
    rw [exec_fenceRelease, execFenceRelease, onGoing_goesOn _ hg, fenceRelease_of_done hw hd, done_eq]
  · intro s c rd hi hs
    rw [exec_setarm_issuing hi, if_pos hs]
  · intro s c rd hi hs
    rw [exec_setarm_issuing hi, if_neg (by simp [hs])]

end Sys2Proof.Proofs
end

section
/-! PROOF. The collector's commands (spec/16 R560 to R588; spec/02 R47): FaultCollector. -/

namespace Sys2Proof.Proofs

open Sys2Proof.Machine Sys2Proof.Laws

/-! ### A register's guard -/

theorem guardedWrite_of_allowed {s : State} {p : Path} {off : Nat} (eff : State → State) (h : MayWrite s p off) :
    guardedWrite s p off eff = eff s := by
  obtain ⟨hi, hr, hg⟩ := h
  simp [guardedWrite, hi, hr, hg]

theorem guardedWrite_of_armed {s : State} {p : Path} {off : Nat} (eff : State → State) (h : MayWriteGk s p off) :
    guardedWrite s p off eff = eff (disarm s p) := by
  obtain ⟨hi, hr, hg, hn, hk⟩ := h
  simp [guardedWrite, hi, hr, hg, gkWrite_of_armed off eff hn hk]

/-! ### A unit's report -/

theorem faultAssertion_of_present {s : State} {src : Nat} (i : Info) (hi : s.inReset = false)
    (hp : srcPresent src = true) : faultAssertion s src i none = report s src i := by
  simp [faultAssertion, hi, hp]

theorem faultAssertion_of_place {s : State} {src : Nat} (i : Info) (a : Nat) (x : Bool) (k : Nat)
    (hi : s.inReset = false) (hp : srcPresent src = true) :
    faultAssertion s src i (some (a, x, k)) = countPlace (bufferParity (report s src i) src a) a x k := by
  simp [faultAssertion, hi, hp]

theorem faultAssertion_of_silent {s : State} {src : Nat} (i : Info) (a : Option (Nat × Bool × Nat))
    (h : s.inReset = true ∨ srcPresent src = false) : faultAssertion s src i a = s := by
  rcases h with h | h <;> simp [faultAssertion, h]

/-- Source 7 of a link speaks of that link's buffers (R483). -/
theorem bufferParity_link (s : State) {l : Nat} (array : Nat) (hl : l < 32) :
    bufferParity s (Src.link l 7) array = if array = 320 + l then linkRetrain s l 5
      else if array = 352 + l ∧ (s.link l).layby ≠ [] then
        linkMirror ((s.setLink l { s.link l with layby := (s.link l).layby.tail }).setF (Reg.CNV_CNT l) 15 0
          (satAdd 0xFFFF (s.fld (Reg.CNV_CNT l) 15 0) 1)) l
      else s := by
  have hlink : (Src.link l 7 - 768) / 8 = l := by simp only [Src.link]; omega
  have hbuffer : ¬ (Src.link l 7 < 768 ∨ 1024 ≤ Src.link l 7 ∨ Src.link l 7 % 8 ≠ 7) := by
    simp only [Src.link]; omega
  simp only [bufferParity, hlink, if_neg hbuffer]

/-! ### The capture FIFO -/

/-- Between clocks nothing in the FIFO is of the present clock. -/
theorem popCapture_of_quiet {s : State} (hn : s.flt.now = 0) (hl : s.flt.lostNow = []) :
    popCapture s = { s with flt := { s.flt with fifo := s.flt.fifo.tail } } := by
  simp [popCapture, fillCaps, capNow, capOld, hn, hl]

theorem clearCaptures_of_quiet {s : State} (hn : s.flt.now = 0) (hl : s.flt.lostNow = []) :
    clearCaptures s = { s with flt := { s.flt with fifo := [], ovf := 0 } } := by
  simp [clearCaptures, fillCaps, capNow, hn, hl]

/-! ### Event records -/

section
variable {s : State} {ld log : Nat}

theorem deliver_of_unsent {r : EvRec}
    (hr : (smGet [] s.evt.logs (4 * ld + log)).find? (fun r => !r.sent) = some r) (hd : canDeliver s ld = true) :
    deliver s ld log = ({ s with evt := { s.evt with
        logs := smSet [] s.evt.logs (4 * ld + log) (markSent (smGet [] s.evt.logs (4 * ld + log))) } }).emit
      (.event ld r.src r.cls (wantsIrq s ld log)) := by
  simp only [deliver, hr, if_pos hd]

theorem deliver_of_sent (hr : (smGet [] s.evt.logs (4 * ld + log)).find? (fun r => !r.sent) = none) :
    deliver s ld log = s := by
  simp only [deliver, hr]

theorem deliver_of_barred (hd : canDeliver s ld = false) : deliver s ld log = s := by
  simp only [deliver, hd, Bool.false_eq_true, if_false]
  split <;> rfl

end

/-- Settles O44: each command is its collector operation behind the register's guard, and the operation's own branches give
the cases. -/
theorem faultCollector : Obligations.FaultCollector := by
  unfold Obligations.FaultCollector
  refine ⟨?_, ?_, ?_, ?_, ?_, ?_, ?_, ?_, ?_, ?_, ?_, ?_, ?_⟩
  · intro s c i a x k hi hp
    refine ⟨?_, ?_⟩
    · rw [exec_faultAssertion, execFaultAssertion, done_eq, faultAssertion_of_present _ hi hp]
    · rw [exec_faultAssertion, execFaultAssertion, done_eq, faultAssertion_of_place _ a x k hi hp]
  · intro s l hl
    have hne : 352 + l ≠ 320 + l := by omega
    refine ⟨?_, ?_, ?_⟩
    · rw [bufferParity_link s _ hl, if_pos rfl]
    · intro he
      rw [bufferParity_link s _ hl, if_neg hne, if_neg (fun h => h.2 he)]
    · intro he
      rw [bufferParity_link s _ hl, if_neg hne, if_pos ⟨rfl, he⟩]
  · intro s c i a h
    rw [exec_faultAssertion, execFaultAssertion, done_eq, faultAssertion_of_silent _ a h]
  · intro s p n v h
    rw [exec_faultForce, execFaultForce, done_eq, guardedWrite_of_armed _ h, wrForce]
  · intro s i a l
    refine ⟨rfl, ?_, ?_⟩
    · intro h
      rw [forceAll, if_neg (Bool.eq_false_iff.1 h)]
    · intro h
      rw [forceAll, if_pos h]
  · intro s p n v h
    rw [exec_stickyClear, execStickyClear, done_eq, guardedWrite_of_allowed _ h, wrSticky]
  · intro s p h
    refine ⟨?_, ?_⟩
    · rw [exec_capturePop, execCapturePop, done_eq, guardedWrite_of_allowed _ h]
      rfl
    · rw [exec_captureClear, execCaptureClear, done_eq, guardedWrite_of_allowed _ h]
      rfl
  · intro s l hl
    subst hl
    exact ⟨rfl, rfl, rfl⟩
  · intro s hn hl
    exact ⟨popCapture_of_quiet hn hl, clearCaptures_of_quiet hn hl⟩
  · intro s l k r hr hd
    rw [exec_eventRecordDelivery, execEventRecordDelivery, done_eq, deliver_of_unsent hr hd]
  · intro s l k h
    rw [exec_eventRecordDelivery, execEventRecordDelivery, done_eq]
    rcases h with hr | hd
    · rw [deliver_of_sent hr]
    · rw [deliver_of_barred hd]
  · intro s r l hq
    rw [exec_sidebandEventSend, execSidebandEventSend, done_eq]
    simp only [sidebandSend, hq]
  · intro s hq
    rw [exec_sidebandEventSend, execSidebandEventSend, done_eq]
    simp only [sidebandSend, hq]

end Sys2Proof.Proofs
end

section
/-! PROOF. Mode requests (spec/03 R72 to R76, R607; the reaction of the same clock, R74): ModeRequestsStartTransitions. -/

namespace Sys2Proof.Proofs

open Sys2Proof.Machine Sys2Proof.Laws

/-! ### A fault reaction of the same clock goes first (R74) -/

theorem reactionDone_of_rest {s : State} (h : s.mode.trans = none) : reactionDone s = s := by
  simp only [reactionDone, h]

theorem reactionDone_of_reaction {s : State} {t : Trans} (h : s.mode.trans = some t) (hr : t.react = true)
    (hc : t.since = s.clock) : reactionDone s = endTrans s t := by
  simp [reactionDone, h, hr, hc]

theorem reactionDone_of_other {s : State} {t : Trans} (h : s.mode.trans = some t)
    (hr : t.react = false ∨ t.since ≠ s.clock) : reactionDone s = s := by
  rcases hr with hr | hr <;> simp [reactionDone, h, hr]

/-! ### From the write to the judge -/

@[simp] theorem requested_clock (s : State) (p : Path) (k : Nat) : (requested s p k).clock = s.clock := rfl

theorem ask_of_unreacted {s : State} (k : Nat) (h : reactionDone s = s) : ask s k = noted s k (judge s k) := by
  rw [ask, h]
  rfl

theorem modeRequest_of_armed {s : State} {p : Path} (k : Nat) (h : MayWriteGk s p Reg.GEN_MODEREQ) :
    modeRequest s p k = wrModeReq (disarm s p) k := by
  rw [modeRequest, guardedWrite_of_armed _ h]

/-- In TEST a request of any code is a warm reset (R72). -/
theorem wrModeReq_of_test {s : State} {p : Path} {k : Nat} (hc : (requested s p k).changing = false)
    (hm : (requested s p k).code = Mode.test) :
    wrModeReq (disarm s p) k = deviceReset (requested s p k) false 5 :=
  if_pos ⟨hm, by rw [← requested, hc]; rfl⟩

/-- Elsewhere, and during a transition, it is judged. -/
theorem wrModeReq_of_other {s : State} {p : Path} {k : Nat}
    (h : (requested s p k).code ≠ Mode.test ∨ (requested s p k).changing = true) :
    wrModeReq (disarm s p) k = ask (requested s p k) k := by
  refine if_neg ?_
  rintro ⟨hm, hc⟩
  rcases h with h | h
  · exact h hm
  · rw [← requested, h] at hc
    cases hc

theorem modeRequest_of_rest {s : State} {p : Path} {k : Nat} (h : MayWriteGk s p Reg.GEN_MODEREQ)
    (ht : s.mode.trans = none) (hm : (requested s p k).code ≠ Mode.test) :
    modeRequest s p k = noted (requested s p k) k (judge (requested s p k) k) := by
  have hd : reactionDone (requested s p k) = requested s p k := reactionDone_of_rest ht
  rw [modeRequest_of_armed k h, wrModeReq_of_other (.inl hm), ask_of_unreacted k hd]

/-! ### What is judged illegal (R73, R607) -/

theorem judge_of_changing {s : State} (k : Nat) (h : s.changing = true) : judge s k = reqResult s 3 :=
  if_pos h

/-- No request reaches BOOT, TRIM or SAFE, whatever the life-cycle state allows. -/
theorem judge_of_unreachable {s : State} {k : Nat} (h : k = 0 ∨ k = 3 ∨ k = 7) : judge s k = reqResult s 3 := by
  rcases h with rfl | rfl | rfl <;> simp [judge]

theorem modeRequest_of_changing {s : State} {p : Path} {k : Nat} {t : Trans} (h : MayWriteGk s p Reg.GEN_MODEREQ)
    (ht : s.mode.trans = some t) (hr : t.react = false ∨ t.since ≠ s.clock) (hc : (requested s p k).changing = true) :
    modeRequest s p k = noted (requested s p k) k (reqResult (requested s p k) 3) := by
  have hd : reactionDone (requested s p k) = requested s p k := reactionDone_of_other ht hr
  rw [modeRequest_of_armed k h, wrModeReq_of_other (.inr hc), ask_of_unreacted k hd, judge_of_changing k hc]

/-! ### What is judged in the mode that the device is in (R72) -/

section
variable {s : State} (hc : s.changing = false)
include hc

theorem judge_rise (hl : lcAllows s 1 = true) : judge s 1 = requestRise s := by simp [judge, hc, hl]

theorem judge_run (hl : lcAllows s 2 = true) : judge s 2 = requestRun s := by simp [judge, hc, hl]

theorem judge_drain (hl : lcAllows s 4 = true) : judge s 4 = requestDrain s := by simp [judge, hc, hl]

theorem judge_hold (hl : lcAllows s 5 = true) : judge s 5 = requestHold s := by simp [judge, hc, hl]

theorem judge_test (hl : lcAllows s 6 = true) : judge s 6 = requestTest s := by simp [judge, hc, hl]

end

section
variable {s : State}

theorem requestRise_of_clear (hm : s.code = Mode.safe) (hk : stickyOfClass s 5 = false) (hy : readySec s = true) :
    requestRise s = beginTrans s Mode.rise 0 true := by
  simp [requestRise, hm, hk, hy]

theorem requestRise_of_unready (hm : s.code = Mode.safe) (hy : readySec s = false) :
    requestRise s = reqResult s 4 := by
  simp [requestRise, hm, hy]

theorem requestRun_of_rise (hm : s.code = Mode.rise) (hy : enabledReady s = true) :
    requestRun s = beginTrans s (if clearForRun s then Mode.run else Mode.trim) 0 true := by
  rw [requestRun, if_pos hm, if_pos hy]
  split <;> rfl

theorem requestRun_of_drain (hm : s.code = Mode.drain) : requestRun s = beginTrans s (runOrTrim s) 0 true := by
  rw [requestRun, hm, if_neg (by decide), if_neg (by decide), if_pos rfl]

theorem requestRun_of_hold (hm : s.code = Mode.hold) : requestRun s =
    beginTrans s (if s.fld Reg.GEN_MODEX 6 4 = Mode.drain then Mode.drain else runOrTrim s) 2 true := by
  rw [requestRun, hm, if_neg (by decide), if_neg (by decide), if_neg (by decide), if_pos rfl]

theorem requestDrain_of_run (hm : s.code = Mode.run) :
    requestDrain s = beginTrans (s.setF Reg.GEN_MODEX 6 4 Mode.run) Mode.drain 0 true := by
  rw [requestDrain, hm, if_pos (.inl rfl)]

theorem requestHold_of_run (hm : s.code = Mode.run) : requestHold s =
    beginTrans { s.setF Reg.GEN_MODEX 6 4 Mode.run with
      mode := { s.mode with holdFrom := some s.clock, limitOwed := false } } Mode.hold 1 true := by
  rw [requestHold, hm, if_pos (.inl rfl)]
  rfl

theorem requestTest_of_free (hm : s.code = Mode.run) (he : extentsFree s = true)
    (hp : s.fld Reg.POOL_STAT 31 29 = 0) : requestTest s = beginTrans s Mode.test 0 true := by
  rw [requestTest, hm, if_pos (.inr (.inl rfl)), if_pos (by simp [he, hp])]

end

/-- A mode other than TEST. -/
theorem code_ne_test {s : State} {m : Nat} (h : s.code = m) (hm : m ≠ Mode.test) : s.code ≠ Mode.test := h ▸ hm

/-- Settles O9: a request outside TEST is judged in the state that its write has left; each clause's hypotheses choose one
branch of its mode's rule. -/
theorem modeRequestsStartTransitions : Obligations.ModeRequestsStartTransitions := by
  unfold Obligations.ModeRequestsStartTransitions
  refine ⟨?_, ?_, ?_, ?_, ?_, ?_, ?_, ?_, ?_, ?_, ?_, ?_⟩
  · intro s p h ht hc hm hl hk hy
    rw [exec_modeRequestRise, execModeRequestRise, done_eq, modeRequest_of_rest h ht (code_ne_test hm (by decide)),
      judge_rise hc hl, requestRise_of_clear hm hk hy]
  · intro s p h ht hc hm hl hy
    rw [exec_modeRequestRise, execModeRequestRise, done_eq, modeRequest_of_rest h ht (code_ne_test hm (by decide)),
      judge_rise hc hl, requestRise_of_unready hm hy, reqResult]
  · intro s p h ht hc hm hl hy
    rw [exec_modeRequestRun, execModeRequestRun, done_eq, modeRequest_of_rest h ht (code_ne_test hm (by decide)),
      judge_run hc hl, requestRun_of_rise hm hy]
  · intro s p h ht hc hm hl
    rw [exec_modeRequestRun, execModeRequestRun, done_eq, modeRequest_of_rest h ht (code_ne_test hm (by decide)),
      judge_run hc hl, requestRun_of_drain hm]
  · intro s p h ht hc hm hl
    rw [exec_modeRequestRun, execModeRequestRun, done_eq, modeRequest_of_rest h ht (code_ne_test hm (by decide)),
      judge_run hc hl, requestRun_of_hold hm]
  · intro s p h ht hc hm hl
    rw [exec_modeRequestDrain, execModeRequestDrain, done_eq, modeRequest_of_rest h ht (code_ne_test hm (by decide)),
      judge_drain hc hl, requestDrain_of_run hm]
  · intro s p h ht hc hm hl
    rw [exec_modeRequestHold, execModeRequestHold, done_eq, modeRequest_of_rest h ht (code_ne_test hm (by decide)),
      judge_hold hc hl, requestHold_of_run hm, requested_clock]
  · intro s p h ht hc hm hl he hp
    rw [exec_modeRequestTest, execModeRequestTest, done_eq, modeRequest_of_rest h ht (code_ne_test hm (by decide)),
      judge_test hc hl, requestTest_of_free hm he hp]
  · intro s p k hk h ht hc hm
    have hv : k.val = 0 ∨ k.val = 3 ∨ k.val = 7 := by rcases hk with rfl | rfl | rfl <;> decide
    rw [exec_modeRequestOther, execModeRequestOther, done_eq, modeRequest_of_rest h ht hm, judge_of_unreachable hv,
      reqResult]
  · intro s p t h ht hr
    refine ⟨?_, ?_, ?_, ?_, ?_⟩ <;> intro hc
    · rw [exec_modeRequestRise, execModeRequestRise, done_eq, modeRequest_of_changing h ht hr hc, reqResult]
    · rw [exec_modeRequestRun, execModeRequestRun, done_eq, modeRequest_of_changing h ht hr hc, reqResult]
    · rw [exec_modeRequestDrain, execModeRequestDrain, done_eq, modeRequest_of_changing h ht hr hc, reqResult]
    · rw [exec_modeRequestHold, execModeRequestHold, done_eq, modeRequest_of_changing h ht hr hc, reqResult]
    · rw [exec_modeRequestTest, execModeRequestTest, done_eq, modeRequest_of_changing h ht hr hc, reqResult]
  · intro s t ht hr hc
    exact reactionDone_of_reaction ht hr hc
  · intro s p k h hc hm
    rw [exec_modeRequestOther, execModeRequestOther, done_eq, modeRequest_of_armed _ h, wrModeReq_of_test hc hm]

end Sys2Proof.Proofs
end

section
/-! PROOF. Transitions, the hold limit and the full-capture window (spec/03 R72 to R80; spec/16 R575):
TransitionsEndAndTimeOut. -/

namespace Sys2Proof.Proofs

open Sys2Proof.Machine Sys2Proof.Laws

theorem code_lt (s : State) : s.code < 8 := Nat.mod_lt _ (by decide)

/-! ### A transition begins (R72, R73) -/

section
variable (s : State) (goal kind : Nat) (req : Bool)

theorem beginTrans_fld (off hi lo : Nat) : (beginTrans s goal kind req).fld off hi lo =
    (if req then (s.setBit Reg.GEN_MODE 8 true).setF Reg.GEN_MODE 14 12 1
      else s.setBit Reg.GEN_MODE 8 true).fld off hi lo := by
  rw [State.fld, beginTrans_reg]
  rfl

theorem beginTrans_changing : (beginTrans s goal kind req).changing = true := by
  rw [State.changing, State.bit, beginTrans_reg, ← State.bit]
  cases req
  · exact bit_setBit_at s _ _ _ (by decide)
  · exact (bit_setF_disjoint _ _ _ (by decide) (by decide) (by decide)).trans (bit_setBit_at s _ _ _ (by decide))

/-- CODE changes at a transition's end only (log entry 5). -/
theorem beginTrans_code : (beginTrans s goal kind req).code = s.code := by
  have hbit : (s.setBit Reg.GEN_MODE 8 true).fld Reg.GEN_MODE 2 0 = s.code :=
    fld_setBit_at s _ _ (by decide) (by decide) (by decide)
  rw [State.code, beginTrans_fld]
  cases req
  · exact hbit
  · exact (fld_setF_disjoint _ _ _ (by decide) (by decide) (by decide) (by decide)).trans hbit

theorem beginTrans_result : (beginTrans s goal kind true).fld Reg.GEN_MODE 14 12 = 1 := by
  rw [beginTrans_fld]
  exact fld_setF_same _ _ _ (by decide) (by decide)

theorem beginTrans_trans :
    (beginTrans s goal kind req).mode.trans.map (fun t => (t.goal, t.req, t.kind)) = some (goal, req, kind) := rfl

end

/-! ### A transition ends (R73) -/

/-- A transition is over and the mode has not changed yet: CHANGING is 0, and REQRES 2 for a request. -/
def transOver (s : State) (t : Trans) : State :=
  let s := { s with mode := { s.mode with trans := none, asked := none } }
  let s := s.setBit Reg.GEN_MODE 8 false
  if t.req then s.setF Reg.GEN_MODE 14 12 2 else s

section
variable (s : State) (t : Trans)

theorem transOver_mode : (transOver s t).mode = { s.mode with trans := none, asked := none } := by
  rw [transOver]
  split <;> rfl

theorem transOver_code : (transOver s t).code = s.code := by
  have hbit : ({ s with mode := { s.mode with trans := none, asked := none } }.setBit Reg.GEN_MODE 8 false).code =
      s.code := fld_setBit_at _ _ _ (by decide) (by decide) (by decide)
  rw [transOver]
  split
  · exact (fld_setF_disjoint _ _ _ (by decide) (by decide) (by decide) (by decide)).trans hbit
  · exact hbit

theorem transOver_changing : (transOver s t).changing = false := by
  have hbit : ({ s with mode := { s.mode with trans := none, asked := none } }.setBit Reg.GEN_MODE 8 false).changing =
      false := bit_setBit_at _ _ _ _ (by decide)
  rw [transOver]
  split
  · exact (bit_setF_disjoint _ _ _ (by decide) (by decide) (by decide)).trans hbit
  · exact hbit

end

/-- With no TRIM-class reaction deferred (R717) the end of a transition is the change of mode. -/
theorem endTrans_of_unowed {s : State} (t : Trans) (h : s.mode.trimOwed = false) :
    endTrans s t = setCode (transOver s t) t.goal := by
  obtain ⟨-, -, howed⟩ := setCode_frame (transOver s t) t.goal
  rw [transOver_mode] at howed
  have hnot : ¬ (setCode (transOver s t) t.goal).mode.trimOwed = true := by simp [howed, h]
  exact if_neg hnot

section
variable {s : State} {n : Nat}

/-- A change of mode writes CODE and PREV of GEN_MODE. -/
theorem setCode_fld (h : n ≠ s.code) (hi lo : Nat) : (setCode s n).fld Reg.GEN_MODE hi lo =
    ((s.setF Reg.GEN_MODE 6 4 s.code).setF Reg.GEN_MODE 2 0 n).fld Reg.GEN_MODE hi lo := by
  obtain ⟨hreg, -, -⟩ := setCode_frame s n
  rw [State.fld, hreg, if_neg h]
  rfl

theorem setCode_same (h : n = s.code) : setCode s n = s := if_pos h

theorem setCode_code (hn : n < 8) : (setCode s n).code = n := by
  by_cases h : n = s.code
  · rw [setCode_same h, h]
  · rw [State.code, setCode_fld h, fld_setF_same _ _ _ (by decide) (by decide)]
    exact Nat.mod_eq_of_lt hn

theorem setCode_prev (h : n ≠ s.code) : (setCode s n).fld Reg.GEN_MODE 6 4 = s.code := by
  rw [setCode_fld h, fld_setF_disjoint _ _ _ (by decide) (by decide) (by decide) (by decide),
    fld_setF_same _ _ _ (by decide) (by decide)]
  exact Nat.mod_eq_of_lt (code_lt s)

theorem setCode_changing (s : State) (n : Nat) : (setCode s n).changing = s.changing := by
  obtain ⟨hreg, -, -⟩ := setCode_frame s n
  rw [State.changing, State.bit, hreg]
  split
  · rfl
  · exact (bit_setF_disjoint _ _ _ (by decide) (by decide) (by decide)).trans
      (bit_setF_disjoint _ _ _ (by decide) (by decide) (by decide))

theorem setCode_trans (s : State) (n : Nat) : (setCode s n).mode.trans = s.mode.trans := by
  obtain ⟨-, htrans, -⟩ := setCode_frame s n
  exact htrans

end

/-! ### The commands that end a transition -/

section
variable {s : State} {t : Trans} (h : s.mode.trans = some t)
include h

theorem transitionEnd_of_plain (hk : t.kind = 0) (hg : t.goal ≠ Mode.rise) : transitionEnd s = endTrans s t := by
  simp [transitionEnd, h, hk, hg]

theorem holdEntered_of_unowed (hk : t.kind = 1) (hx : s.coh.txns = [])
    (ho : (endTrans (selfRefreshAll s true (List.range 24)) t).mode.limitOwed = false) :
    holdEntered s = endTrans (selfRefreshAll s true (List.range 24)) t := by
  simp [holdEntered, h, hk, hx, ho]

theorem holdExit_of_leaving (hk : t.kind = 2) : holdExit s =
    reissueAll (admitAll (releaseHeld (trainOwedAll (takeRates
      { endTrans (selfRefreshAll s false (List.range 24)) t with
        mode := { (endTrans (selfRefreshAll s false (List.range 24)) t).mode with
          holdFrom := none, limitOwed := false } })
      (List.range 64)))) coreList := by
  simp [holdExit, h, hk]

end

theorem modeTransitionEnd_of_unheld {s : State} (h : s.code ≠ Mode.hold) : modeTransitionEnd s = transitionEnd s :=
  if_neg fun ⟨hw, _⟩ => h hw

/-- Without an online activation that waits for HOLD, the end of HOLD entry is all that the command does. -/
theorem holdReached_of_inactive {s : State} (h : (holdEntered s).sec.activate = 0) : holdReached s = holdEntered s :=
  if_neg fun ⟨hw, _⟩ => absurd (h.symm.trans hw) (by decide)

/-! ### The hold limit (R76, R77, R80) -/

section
variable {s : State}

theorem limitExpiry_of_early (h : limitPassed s = false) : limitExpiry s = s := by simp [limitExpiry, h]

theorem limitExpiry_of_entry {t : Trans} (h : limitPassed s = true) (ht : s.mode.trans = some t) (hk : t.kind = 1) :
    limitExpiry s = { s with mode := { s.mode with limitOwed := true } } := by
  simp [limitExpiry, h, ht, hk]

theorem limitExpiry_of_hold (h : limitPassed s = true) (ht : s.mode.trans = none) (hm : s.code = Mode.hold)
    (hs : s.mode.step = none) : limitExpiry s = holdExpire s := by
  simp [limitExpiry, h, ht, hm, hs]

end

/-! ### The full-capture window (R575) -/

section
variable {s : State} {c : Nat} (h : s.mode.safecapEnd = some c)
include h

theorem safecapEnds_of_reached (hc : c ≤ s.clock) : safecapEnds s =
    { s.setBit Reg.GEN_MODEX 8 false with mode := { s.mode with safecapEnd := none } } := by
  simp only [safecapEnds, h, if_pos hc]

theorem safecapEnds_of_early (hc : s.clock < c) : safecapEnds s = s := by
  simp only [safecapEnds, h, if_neg (Nat.not_le.2 hc)]

end

/-- Settles O10: a transition's end is a change of GEN_MODE, which `setCode_frame` gives field by field; each timer acts by
where its deadline lies. -/
theorem transitionsEndAndTimeOut : Obligations.TransitionsEndAndTimeOut := by
  unfold Obligations.TransitionsEndAndTimeOut
  refine ⟨?_, ?_, ?_, ?_, ?_, ?_, ?_, ?_, ?_, ?_, ?_⟩
  · intro s m k q
    refine ⟨beginTrans_changing s m k q, beginTrans_code s m k q, beginTrans_trans s m k q, ?_⟩
    rintro rfl
    exact beginTrans_result s m k
  · intro s t ht hk hg hm
    rw [exec_modeTransitionEnd, execModeTransitionEnd, flowDone_eq, modeTransitionEnd_of_unheld hm,
      transitionEnd_of_plain ht hk hg]
  · intro s t ht hk hx ho ha
    have he := holdEntered_of_unowed ht hk hx ho
    rw [exec_holdEntryComplete, execHoldEntryComplete, done_eq, holdReached_of_inactive (by rw [he, ha]), he]
  · intro s t ht hk
    rw [exec_holdExitComplete, execHoldExitComplete, flowDone_eq, holdExit_of_leaving ht hk]
  · intro s t hg ho
    rw [endTrans_of_unowed t ho]
    refine ⟨setCode_code hg, ?_, ?_, ?_⟩
    · rw [setCode_trans, transOver_mode]
    · rw [setCode_changing, transOver_changing]
    · intro hne
      rw [setCode_prev (by rw [transOver_code]; exact hne.symm), transOver_code]
  · intro s ha hp ht hm hs
    rw [exec_holdLimitExpiry, execHoldLimitExpiry, atDue_acts ha, done_eq, limitExpiry_of_hold hp ht hm hs]
    rfl
  · intro s t ha hp ht hk
    rw [exec_holdLimitExpiry, execHoldLimitExpiry, atDue_acts ha, done_eq, limitExpiry_of_entry hp ht hk]
  · intro s ha hp
    rw [exec_holdLimitExpiry, execHoldLimitExpiry, atDue_acts ha, done_eq, limitExpiry_of_early hp]
  · intro s p v h
    rw [exec_holdLimitWrite, execHoldLimitWrite, done_eq, guardedWrite_of_allowed _ h]
    rfl
  · intro s c ha hs hc
    rw [exec_safecapExpiry, execSafecapExpiry, hs, atDue_acts ha, done_eq, safecapEnds_of_reached hs hc]
  · intro s c ha hs hc
    rw [exec_safecapExpiry, execSafecapExpiry, hs, atDue_acts ha, done_eq, safecapEnds_of_early hs hc]

end Sys2Proof.Proofs
end

section
/-! PROOF. What starts a reset (spec/03 R84; spec/22 R697, R701, R705): ResetsStart. -/

namespace Sys2Proof.Proofs

open Sys2Proof.Machine Sys2Proof.Laws

/-- GEN_RST.KIND 1 is the warm reset. -/
theorem wrGenRst_warm (s : State) : wrGenRst s 1 = deviceReset s false 3 := rfl

/-- GEN_RST.KIND 2 is the cold reset. -/
theorem wrGenRst_cold (s : State) : wrGenRst s 2 = deviceReset s true 2 := rfl

/-! ### RESET_N -/

section
variable (s : State) {n : Nat}

theorem resetLow_of_long (h : 25000 ≤ n) : resetLow s n =
    deviceReset { s with mode := { s.mode with resetLow := some s.clock } } true (if s.mode.supplyLow then 0 else 1) :=
  if_pos h

theorem resetLow_of_short (h : n < 20000) : resetLow s n = s := by
  rw [resetLow, if_neg (by omega), if_pos h]

end

/-- Settles O11: every trigger leads to `deviceReset` with its cause, by its operand or the state of the pins and rails. -/
theorem resetsStart : Obligations.ResetsStart := by
  unfold Obligations.ResetsStart
  refine ⟨?_, ?_, ?_, ?_, ?_, ?_, ?_, ?_, ?_, ?_⟩
  · intro s c hc
    rw [exec_coldReset, execColdReset, if_pos hc]
  · intro s c hc
    rw [exec_warmReset, execWarmReset, if_pos hc]
  · intro s p h
    rw [exec_genRstWarm, execGenRstWarm, done_eq, guardedWrite_of_armed _ h, wrGenRst_warm]
  · intro s p h
    rw [exec_genRstCold, execGenRstCold, done_eq, guardedWrite_of_armed _ h, wrGenRst_cold]
  · intro s n hn
    rw [exec_resetNLow, execResetNLow, resetLow_of_long s hn]
  · intro s n hn
    rw [exec_resetNLow, execResetNLow, resetLow_of_short s hn]
  · intro s c hr hs
    simp [exec_resetNRelease, execResetNRelease, hr, hs]
  · intro s n hn
    rw [exec_supplyUndervoltage, execSupplyUndervoltage, if_pos hn]
  · intro s hs hr
    simp [exec_supplyRestored, execSupplyRestored, hs, hr]
  · intro s
    rw [exec_powerDieSupplyLoss, execPowerDieSupplyLoss, done_eq]

end Sys2Proof.Proofs
end

section
/-! PROOF. The bittern's phases (spec/03 R88 to R91, R97; spec/16 R588): BitternPhases. -/

namespace Sys2Proof.Proofs

open Sys2Proof.Machine Sys2Proof.Laws

section
variable {s : State}

/-! ### Phases 1 and 2 (R88) -/

theorem keysDone_of_boot (hm : s.code = Mode.boot) (hi : s.inReset = false) (hk : s.wipe.keysDone = false) :
    keysDone s = portsStart (newGens { s with wipe := { s.wipe with keysDone := true } }) (List.range 64) := by
  simp [keysDone, hm, hi, hk]

/-- With OTP read, the image check begins. -/
theorem sramDone_of_otpRead (hi : s.inReset = false) (hk : s.wipe.keysDone = true) (hd : s.wipe.sramDone = false)
    (he : s.flt.early.any (fun e => decide (e.1 = Src.otpRead)) = false) :
    sramDone s = releaseEarly (deriveId (State.setBit { s with
      wipe := { s.wipe with sramDone := true }, mode := { s.mode with imageCheck := true } } Reg.SEC_STATE 24 true)) := by
  simp only [sramDone, hi, hk, hd, he, Bool.not_true, Bool.not_false, Bool.or_self, Bool.false_eq_true, if_false]

variable {n : Nat}

/-! ### Phases 3 and 4 of a set (R89 to R91) -/

theorem blockWrittenBy_of_next {b : Nat} (hp : (setWipe s n).phase = 3)
    (hb : nextBlock (setWipe s n) (mapBlocks s n) = some b) : blockWrittenBy s n b = putBlock s n b := if_pos ⟨hp, hb⟩

theorem mapPhaseEnd_of_written (hp : (setWipe s n).phase = 3)
    (hb : nextBlock (setWipe s n) (mapBlocks s n) = none) :
    mapPhaseEnd s n = putWipe s n { setWipe s n with phase := 4, blocks := [], front := frontier s n } :=
  if_pos ⟨hp, hb⟩

/-- Cells that lie in the set are all zeroised, and the frontier passes them. -/
theorem cellsZeroised_of_fit {k : Nat} (hp : (setWipe s n).phase = 4)
    (hf : (setWipe s n).front + k ≤ setCapacity s n / 1024) : cellsZeroised s n k =
      charge (tick (putWipe (zeroParity (zeroise s n (1024 * (setWipe s n).front) (1024 * ((setWipe s n).front + k))) n
        (1024 * (setWipe s n).front) (1024 * ((setWipe s n).front + k))) n
        { setWipe s n with front := (setWipe s n).front + k }) bSweep 3 k) false 254 (16 * k) .amber := by
  have hmax : max (setWipe s n).front ((setWipe s n).front + k) = (setWipe s n).front + k :=
    max_eq_right (Nat.le_add_right _ _)
  simp only [cellsZeroised, if_pos hp, min_eq_left hf, hmax, Nat.add_sub_cancel_left]

theorem dataPhaseEnd_of_passed (hp : (setWipe s n).phase = 4) (hf : setCapacity s n / 1024 ≤ (setWipe s n).front) :
    dataPhaseEnd s n = setDone (putWipe s n { setWipe s n with phase := 5 }) (setChans s n) := if_pos ⟨hp, hf⟩

/-! ### A set becomes servable (R97) -/

/-- A set that is wiped already is served as it is. -/
theorem setServes_of_wiped (hn : needsMet s n = true) (hs : setServable s n = false) (hp : (setWipe s n).phase = 5) :
    setServes s n = raise (latchAll ((s.setBit Reg.TIER_SETOFF n false).setBit Reg.GEN_SETSRV n true) 4)
      Src.setServable := by
  have hphase : (setWipe ((s.setBit Reg.TIER_SETOFF n false).setBit Reg.GEN_SETSRV n true) n).phase = 5 := hp
  simp [setServes, hn, hs, hphase]

end

/-- Settles O13: each phase's command acts by the phase and the progress that the set's wipe record holds. -/
theorem bitternPhases : Obligations.BitternPhases := by
  unfold Obligations.BitternPhases
  refine ⟨?_, ?_, ?_, ?_, ?_, ?_, ?_⟩
  · intro s hm hi hk
    rw [exec_bitternKeysDone, execBitternKeysDone, done_eq, keysDone_of_boot hm hi hk]
  · intro s hi hk hd he
    rw [exec_bitternSramDone, execBitternSramDone, done_eq, sramDone_of_otpRead hi hk hd he]
  · intro s u n b hp hb hu
    rw [exec_bitternMapBlockWritten, execBitternMapBlockWritten, done_eq, blockWrittenBy_of_next hp hb, putBlock, hu]
  · intro s n hp hb
    rw [exec_bitternMapPhaseEnd, execBitternMapPhaseEnd, done_eq, mapPhaseEnd_of_written hp hb]
  · intro s u n k hp hf hu
    rw [exec_bitternCellsZeroised, execBitternCellsZeroised, done_eq, cellsZeroised_of_fit hp hf, hu]
  · intro s n hp hf
    rw [exec_bitternDataPhaseEnd, execBitternDataPhaseEnd, done_eq, dataPhaseEnd_of_passed hp hf]
  · intro s n hn hs hp
    rw [exec_setServable, execSetServable, done_eq, setServes_of_wiped hn hs hp]

end Sys2Proof.Proofs
end

section
/-! PROOF. The integer results of a core (spec/04 R103, R113, R114): DivisionCorners, ProductHalvesAndBitCounts. -/

namespace Sys2Proof.Proofs

open Sys2Proof.Machine Sys2Proof.Laws

/-- On a core that issues, an A-format instruction ends with its result of rs1 and rs2. -/
theorem alu_issuing {s : State} {c : Fin 16} (hi : Issuing s c) (rd rs1 rs2 : Fin 32) (f : DWord → DWord → DWord) :
    alu s c rd rs1 rs2 f = coreDone s c rd (f (getT s c rs1) (getT s c rs2)) := onIssue_issuing _ hi

/-! ### Quotients and remainders -/

theorem divU_toNat (a : DWord) {b : DWord} (hb : b ≠ 0) : (divU a b).toNat = a.toNat / b.toNat := by
  rw [divU, if_neg hb]
  exact BitVec.toNat_udiv

theorem remU_toNat (a : DWord) {b : DWord} (hb : b ≠ 0) : (remU a b).toNat = a.toNat % b.toNat := by
  rw [remU, if_neg hb]
  exact BitVec.toNat_umod

/-- The signed quotient truncates toward zero wherever it can be represented. -/
theorem divS_toInt {a b : DWord} (hb : b ≠ 0) (ho : a ≠ BitVec.intMin 64 ∨ b ≠ -1#64) :
    (divS a b).toInt = a.toInt.tdiv b.toInt := by
  rw [divS, if_neg hb, BitVec.toInt_sdiv_of_ne_or_ne a b ho]

theorem remS_toInt (a : DWord) {b : DWord} (hb : b ≠ 0) : (remS a b).toInt = a.toInt.tmod b.toInt := by
  rw [remS, if_neg hb, BitVec.toInt_srem]

/-- Settles O15: the corners are the definitions' own branches; elsewhere they are the divisions of bit vectors. -/
theorem divisionCorners : Obligations.DivisionCorners := by
  unfold Obligations.DivisionCorners
  refine ⟨?_, ?_, ?_, ?_, ?_⟩
  · intro a
    exact ⟨rfl, rfl, rfl, rfl⟩
  · decide +kernel
  · intro s c rd rs1 rs2 a b hi ha hb
    rw [exec_div, exec_divu, exec_rem, exec_remu, execDiv, execDivu, execRem, execRemu]
    simp only [alu_issuing hi, ha, hb, done_eq, and_self]
  · intro a b hb
    rw [divU_toNat a hb, remU_toNat a hb]
    exact ⟨Nat.div_add_mod' a.toNat b.toNat, Nat.mod_lt _ (BitVec.toNat_pos_of_ne_zero hb)⟩
  · intro a b hb ho
    exact ⟨divS_toInt hb ho, remS_toInt a hb⟩

/-! ### Products -/

theorem mulHiU_toNat (a b : DWord) : (mulHiU a b).toNat = a.toNat * b.toNat / 2 ^ 64 := by
  have hlt : a.toNat * b.toNat < 2 ^ 64 * 2 ^ 64 := Nat.mul_lt_mul'' a.isLt b.isLt
  rw [mulHiU, BitVec.toNat_ofNat, Nat.mod_eq_of_lt (Nat.div_lt_of_lt_mul hlt)]

/-- The upper half of the signed product is the product's floor at 2^64: the product lies in -2^126 to 2^126. -/
theorem mulHi_toInt (a b : DWord) : (mulHi a b).toInt = a.toInt * b.toInt / 2 ^ 64 := by
  have hlow : -(2 ^ 126) ≤ a.toInt * b.toInt := BitVec.le_toInt_mul_toInt
  have hhigh : a.toInt * b.toInt ≤ 2 ^ 126 := BitVec.toInt_mul_toInt_le
  rw [mulHi, Int.fdiv_eq_ediv_of_nonneg _ (by decide), BitVec.toInt_ofInt_eq_self (by decide)] <;> omega

theorem mul_toNat_cast (a b : DWord) : ((a * b).toNat : Int) = a.toInt * b.toInt % 2 ^ 64 := by
  rw [← BitVec.ofInt_toInt (x := a * b), BitVec.toInt_mul, BitVec.toNat_ofInt, Int.bmod_emod]
  exact Int.toNat_of_nonneg (Int.emod_nonneg _ (by decide))

/-! ### Counts of bits -/

/-- The count of ones among the first `n` bits, over the bits by their numbers. -/
theorem popCount_eq_countP (n v : Nat) : popCount n v = (List.range n).countP v.testBit := by
  induction n generalizing v with
  | zero => rfl
  | succ n ih =>
    have hnext : (v.testBit ∘ Nat.succ) = (v / 2).testBit := funext fun i => Nat.testBit_succ v i
    rw [popCount, ih, List.range_succ_eq_map, List.countP_cons, List.countP_map, hnext, Nat.add_comm, Nat.testBit_zero]
    rcases Nat.mod_two_eq_zero_or_one v with h | h <;> simp [h]

theorem popc_toNat (a : DWord) : (popc a).toNat = (List.range 64).countP a.getLsbD := by
  have hle : (List.range 64).countP a.getLsbD ≤ (List.range 64).length := List.countP_le_length
  rw [List.length_range] at hle
  rw [popc, popCount_eq_countP, BitVec.toNat_ofNat]
  exact Nat.mod_eq_of_lt (by omega : (List.range 64).countP a.getLsbD < 2 ^ 64)

theorem popc_not_toNat (a : DWord) : (popc (~~~ a)).toNat = (List.range 64).countP fun i => !a.getLsbD i := by
  rw [popc_toNat]
  refine List.countP_congr fun i hi => ?_
  simp [List.mem_range.1 hi]

theorem clz_toNat {a : DWord} (ha : a ≠ 0) : (clz a).toNat = 63 - a.toNat.log2 := by
  rw [clz, if_neg ha, BitVec.toNat_ofNat]
  exact Nat.mod_eq_of_lt (by omega)

theorem lowBit_le (n v : Nat) : lowBit n v ≤ n := by
  induction n generalizing v with
  | zero => exact Nat.le_refl 0
  | succ n ih =>
    have hnext := ih (v / 2)
    rw [lowBit]
    split <;> omega

/-- A number with a one among its first `n` bits has one where `lowBit` says. -/
theorem testBit_lowBit {n v : Nat} (h0 : v ≠ 0) (hn : v < 2 ^ n) : v.testBit (lowBit n v) = true := by
  induction n generalizing v with
  | zero => omega
  | succ n ih =>
    rw [lowBit]
    split
    · simpa [Nat.testBit_zero]
    · rw [Nat.add_comm 1, Nat.testBit_succ]
      exact ih (by omega) (by omega)

theorem testBit_of_lt_lowBit {n v i : Nat} (h : i < lowBit n v) : v.testBit i = false := by
  induction n generalizing v i with
  | zero => exact absurd h (Nat.not_lt_zero i)
  | succ n ih =>
    rw [lowBit] at h
    split at h
    · exact absurd h (Nat.not_lt_zero i)
    next hv =>
      cases i with
      | zero => simpa [Nat.testBit_zero] using hv
      | succ i =>
        rw [Nat.testBit_succ]
        exact ih (by omega)

theorem ctz_toNat (a : DWord) : (ctz a).toNat = lowBit 64 a.toNat := by
  have hle := lowBit_le 64 a.toNat
  rw [ctz, BitVec.toNat_ofNat]
  exact Nat.mod_eq_of_lt (by omega)

/-- Settles O16: a product is its floor and its remainder at 2^64; the counts are read bit by bit. -/
theorem productHalvesAndBitCounts : Obligations.ProductHalvesAndBitCounts := by
  unfold Obligations.ProductHalvesAndBitCounts
  refine ⟨?_, ?_, ?_, ?_, ?_, ?_, ?_⟩
  · intro a b
    rw [mulHiU_toNat, BitVec.toNat_mul]
    exact Nat.div_add_mod' _ _
  · intro a b
    rw [mulHi_toInt, mul_toNat_cast]
    exact Int.ediv_mul_add_emod _ _
  · intro a ha
    have h0 : a.toNat ≠ 0 := (BitVec.toNat_pos_of_ne_zero ha).ne'
    have hlog : a.toNat.log2 < 64 := (Nat.log2_lt h0).2 a.isLt
    rw [clz_toNat ha, show 63 - (63 - a.toNat.log2) = a.toNat.log2 by omega,
      show 64 - (63 - a.toNat.log2) = a.toNat.log2 + 1 by omega]
    exact ⟨Nat.log2_self_le h0, Nat.lt_log2_self, by omega⟩
  · decide +kernel
  · intro a ha
    rw [ctz_toNat]
    exact ⟨testBit_lowBit (BitVec.toNat_pos_of_ne_zero ha).ne' a.isLt, fun i hi => testBit_of_lt_lowBit hi⟩
  · intro a
    rw [popc_toNat, List.countP_eq_length_filter]
  · intro a
    have hlen := List.length_eq_countP_add_countP a.getLsbD (l := List.range 64)
    rw [List.length_range] at hlen
    rw [popc_toNat, popc_not_toNat]
    simpa using hlen.symm

end Sys2Proof.Proofs
end

section
/-! PROOF. The end of an instruction and the taking of a trap (spec/04 R100, R101, R158, R159): InstructionEndFrame,
TakingATrap. -/

namespace Sys2Proof.Proofs

open Sys2Proof.Machine Sys2Proof.Laws

/-! ### The end of an instruction -/

theorem getT_congr {s t : State} {n : Nat} (q : Fin 32) (h : (t.core n).t = (s.core n).t) : getT t n q = getT s n q := by
  simp only [getT, h]

/-- A write of a general register touches its core's registers alone. -/
theorem setT_core (s : State) (n : Nat) (r : Fin 32) (v : DWord) :
    (setT s n r v).core n = { s.core n with t := ((setT s n r v).core n).t } := by
  rw [setT]
  split
  · rfl
  · simp only [core_setCore_same]

theorem setT_state (s : State) (n : Nat) (r : Fin 32) (v : DWord) : setT s n r v = { s with cores := (setT s n r v).cores } := by
  rw [setT]
  split <;> rfl

/-- What the end of an instruction makes of its core. -/
theorem coreDone_core (s : State) (n : Nat) (rd : Fin 32) (v : DWord) : (coreDone s n rd v).core n =
    { s.core n with t := ((setT s n rd v).core n).t, pc := (s.core n).pc + 4, instret := (s.core n).instret + 1
                    wait := none } := by
  simp only [coreDone, tick_core, core_setCore_same]
  rw [setT_core]

theorem getT_coreDone_same (s : State) (n : Nat) (rd q : Fin 32) (v : DWord) :
    getT (coreDone s n rd v) n q = getT (setT s n rd v) n q :=
  getT_congr q (by rw [coreDone_core])

/-- Settles O17: the end of an instruction is `setT` on its core, with pc, INSTRET and the wait set, and two live counters
advanced. -/
theorem instructionEndFrame : Obligations.InstructionEndFrame := by
  unfold Obligations.InstructionEndFrame
  refine ⟨?_, ?_, ?_, ?_, ?_⟩
  · intro s n rd v
    refine ⟨?_, by rw [coreDone_core], by rw [coreDone_core], by rw [coreDone_core]⟩
    rw [getT_coreDone_same]
    split
    next h => rw [h, getT_zero]
    next h => exact getT_setT_same s n v h
  · intro s n m rd q v hq
    by_cases hm : m = n
    · subst hm
      rw [getT_coreDone_same, getT_setT_other s m v (hq.resolve_right (not_not_intro rfl))]
    · exact getT_congr q (by rw [coreDone_core_ne s rd v hm])
  · intro s n m rd v hm
    exact coreDone_core_ne s rd v hm
  · intro s n rd v
    exact ⟨_, coreDone_core s n rd v⟩
  · intro s n rd v
    obtain ⟨cnt, h⟩ := coreDone_eq s n rd v
    rw [setT_state] at h
    exact ⟨_, cnt, h⟩

/-! ### Taking a trap -/

/-- The core in the trap handler of a trap that it takes outside one (R158). -/
def trapped (k : Core) (cause : Nat) (epc tval : DWord) : Core :=
  { k with epc := epc, cause := BitVec.ofNat 64 cause, tval := tval, status := BitVec.ofNat 64 (5 + 2 * fld k.status 0 0)
           pc := setFld k.tvec 1 0 0 }

theorem takeTrap_outside {s : State} {n : Nat} (cause : Nat) (epc tval : DWord) (h : bit (s.core n).status 2 = false) :
    takeTrap s n cause epc tval = s.setCore n (trapped (s.core n) cause epc tval) := by
  simp only [takeTrap, h, Bool.false_eq_true, if_false]
  rfl

theorem takeTrap_inside {s : State} {n : Nat} (cause : Nat) (epc tval : DWord) (h : bit (s.core n).status 2 = true) :
    takeTrap s n cause epc tval = raise (s.setCore n { s.core n with halted := true }) (Src.core n 0) := by
  simp only [takeTrap, h, if_true]

theorem coreTrap_outside {s : State} {n : Nat} (cause tval : Nat) (h : bit (s.core n).status 2 = false) :
    coreTrap s n cause tval = tick (s.setCore n (trapped { s.core n with wait := none } cause (s.core n).pc
      (BitVec.ofNat 64 tval))) (bCore n) 4 1 := by
  simp only [coreTrap]
  rw [takeTrap_outside _ _ _ (by rw [core_setCore_same]; exact h), core_setCore_same, setCore_setCore]

theorem coreTrap_inside {s : State} {n : Nat} (cause tval : Nat) (h : bit (s.core n).status 2 = true) :
    coreTrap s n cause tval =
      tick (raise (s.setCore n { s.core n with wait := none, halted := true }) (Src.core n 0)) (bCore n) 4 1 := by
  simp only [coreTrap]
  rw [takeTrap_inside _ _ _ (by rw [core_setCore_same]; exact h), core_setCore_same, setCore_setCore]

/-- STATUS in a trap handler: supervisor level and INTRAP, with the old level in PPL. -/
theorem trapStatus_bits {pl : Nat} (h : pl < 2) : bit (BitVec.ofNat 64 (5 + 2 * pl)) 0 = true ∧
    bit (BitVec.ofNat 64 (5 + 2 * pl)) 1 = decide (pl = 1) ∧ bit (BitVec.ofNat 64 (5 + 2 * pl)) 2 = true := by
  revert pl
  decide

/-- Settles O21: outside a trap handler a trap writes its core and counts; inside one it stops the core and raises. -/
theorem takingATrap : Obligations.TakingATrap := by
  unfold Obligations.TakingATrap
  refine ⟨?_, ?_, ?_, ?_⟩
  · intro s n k v h
    rw [coreTrap_outside k v h, tick_core, core_setCore_same]
    rfl
  · intro s n m k v h hm
    obtain ⟨cnt, ht⟩ := tick_eq (s.setCore n (trapped { s.core n with wait := none } k (s.core n).pc
      (BitVec.ofNat 64 v))) (bCore n) 4 1
    rw [coreTrap_outside k v h]
    refine ⟨by rw [tick_core, core_setCore_ne s _ hm], ?_, ?_⟩ <;> rw [ht] <;> rfl
  · intro s n k v h
    exact coreTrap_inside k v h
  · intro pl h
    exact trapStatus_bits h

end Sys2Proof.Proofs
end

section
/-! PROOF. Branches, jumps, loads and stores (spec/04 R111, R113, R115 to R117): BranchesAndJumps, LoadsAndStores. -/

namespace Sys2Proof.Proofs

open Sys2Proof.Machine Sys2Proof.Laws

/-! ### Branches and jumps on a core that issues -/

section
variable {s : State} {c : Fin 16} {rs1 rs2 : Fin 32} {f : DWord → DWord → Bool} (hi : Issuing s c)
include hi

theorem branch_taken (off : BitVec 16) (h : f (getT s c rs1) (getT s c rs2) = true) : branch s c rs1 rs2 off f =
    setPc (coreDone s c 0 0) c ((s.core c.val).pc + (off.signExtend 64 <<< 2)) := by
  rw [branch, onIssue_issuing _ hi, if_pos h]
  rfl

theorem branch_untaken (off : BitVec 16) (h : f (getT s c rs1) (getT s c rs2) = false) :
    branch s c rs1 rs2 off f = coreDone s c 0 0 := by
  rw [branch, onIssue_issuing _ hi, if_neg (by simp [h])]
  rfl

end

/-- Clearing bits [1:0] of an address aligns it to a word. -/
theorem setFld_clear_low (x : DWord) : setFld x 1 0 0 = x &&& ~~~ 3#64 := by
  refine BitVec.eq_of_getLsbD_eq fun i hi => ?_
  have hset := testBit_setFld x 0 (Nat.zero_le 1) i
  rw [BitVec.testBit_toNat] at hset
  rw [hset, BitVec.getLsbD_and, BitVec.getLsbD_not, BitVec.testBit_toNat]
  match i with
  | 0 => simp
  | 1 => simp
  | i + 2 =>
    have hthree : (3#64).getLsbD (i + 2) = false := by simp [BitVec.getLsbD_ofNat, Nat.testBit_succ]
    rw [hthree]
    simp [hi]

/-- Settles O18: each branch's condition selects its target; the jumps are their definitions. -/
theorem branchesAndJumps : Obligations.BranchesAndJumps := by
  unfold Obligations.BranchesAndJumps
  refine ⟨?_, ?_, ?_, ?_, ?_, ?_, ?_, ?_, ?_, ?_, ?_, ?_, ?_, ?_, ?_, ?_⟩
  · intro s c rs1 rs2 off a b hi ha hb h
    rw [exec_beq, execBeq, branch_taken hi off (by simp [ha, hb, h]), done_eq]
  · intro s c rs1 rs2 off a b hi ha hb h
    rw [exec_bne, execBne, branch_taken hi off (by simp [ha, hb, h]), done_eq]
  · intro s c rs1 rs2 off a b hi ha hb h
    rw [exec_blt, execBlt, branch_taken hi off (by simp [ha, hb, h]), done_eq]
  · intro s c rs1 rs2 off a b hi ha hb h
    rw [exec_bge, execBge, branch_taken hi off (by simp [ha, hb, h]), done_eq]
  · intro s c rs1 rs2 off a b hi ha hb h
    rw [exec_bltu, execBltu, branch_taken hi off (by simp [ha, hb, h]), done_eq]
  · intro s c rs1 rs2 off a b hi ha hb h
    rw [exec_bgeu, execBgeu, branch_taken hi off (by simp [ha, hb, h]), done_eq]
  · intro s c rs1 rs2 off a b hi ha hb h
    rw [exec_beq, execBeq, branch_untaken hi off (by simp [ha, hb, h]), done_eq]
  · intro s c rs1 rs2 off a b hi ha hb h
    rw [exec_bne, execBne, branch_untaken hi off (by simp [ha, hb, not_not.1 h]), done_eq]
  · intro s c rs1 rs2 off a b hi ha hb h
    rw [exec_blt, execBlt, branch_untaken hi off (by simp [ha, hb, h]), done_eq]
  · intro s c rs1 rs2 off a b hi ha hb h
    rw [exec_bge, execBge, branch_untaken hi off (by simp [ha, hb, h]), done_eq]
  · intro s c rs1 rs2 off a b hi ha hb h
    rw [exec_bltu, execBltu, branch_untaken hi off (by simp [ha, hb, h]), done_eq]
  · intro s c rs1 rs2 off a b hi ha hb h
    rw [exec_bgeu, execBgeu, branch_untaken hi off (by simp [ha, hb, h]), done_eq]
  · intro s c rd off hi
    rw [exec_jal, execJal, onIssue_issuing _ hi, done_eq]
    rfl
  · intro s c rd rs1 i a hi ha
    rw [exec_jalr, execJalr, onIssue_issuing _ hi, done_eq, ha]
    rfl
  · intro x
    exact setFld_clear_low x
  · intro s n a
    exact ⟨core_setCore_same s n _, fun m hm => core_setCore_ne s _ hm⟩

/-! ### Loads and stores: the place, or the trap -/

section
variable {s : State} {c : Fin 16} {rd : Fin 32} {a v : DWord} {size : Nat} {p : Place} {ext : Nat → DWord}

theorem load_of_place (ha : a.toNat % size = 0) (hp : placeOf s c .load a.toNat size = some p)
    (hb : parityBad s c p size = false) : load s c rd a size ext = coreDone s c rd (ext (placeRead s c p size)) := by
  simp only [load, coreLoad, ha, hp, hb, ne_eq, not_true_eq_false, if_false, Bool.false_eq_true, writeRd]

theorem load_of_misaligned (ha : a.toNat % size ≠ 0) : load s c rd a size ext = coreTrap s c 3 a.toNat := by
  simp only [load, coreLoad, if_pos ha, loadTrap, Nat.reduceEqDiff, if_false]

theorem load_of_barred (ha : a.toNat % size = 0) (hp : placeOf s c .load a.toNat size = none) :
    load s c rd a size ext = coreTrap s c 4 a.toNat := by
  simp only [load, coreLoad, ha, hp, ne_eq, not_true_eq_false, if_false, reduceCtorEq, loadTrap, Nat.reduceEqDiff]

theorem store_of_place (ha : a.toNat % size = 0) (hp : placeOf s c .store a.toNat size = some p) :
    store s c a v size = levels (coreDone (placeWrite s c p size (v.toNat % 2 ^ (8 * size))) c 0 0) := by
  simp only [store, ha, hp, ne_eq, not_true_eq_false, if_false, nextPc]

theorem store_of_misaligned (ha : a.toNat % size ≠ 0) : store s c a v size = coreTrap s c 3 a.toNat := if_pos ha

theorem store_of_barred (ha : a.toNat % size = 0) (hp : placeOf s c .store a.toNat size = none) :
    store s c a v size = coreTrap s c 4 a.toNat := by
  simp only [store, ha, hp, ne_eq, not_true_eq_false, if_false]

end

/-- Settles O19: the address is aligned and names a place, or it decides the trap. -/
theorem loadsAndStores : Obligations.LoadsAndStores := by
  unfold Obligations.LoadsAndStores
  refine ⟨?_, ?_, ?_, ?_, ?_, ?_, ?_, ?_, ?_, ?_, ?_, ?_, ?_, ?_, ?_, ?_⟩
  · intro s c rd rs1 off p hi ha hp hb
    rw [exec_lb, execLb, onIssue_issuing _ hi, load_of_place ha hp hb, done_eq]
    rfl
  · intro s c rd rs1 off p hi ha hp hb
    rw [exec_lh, execLh, onIssue_issuing _ hi, load_of_place ha hp hb, done_eq]
    rfl
  · intro s c rd rs1 off p hi ha hp hb
    rw [exec_lw, execLw, onIssue_issuing _ hi, load_of_place ha hp hb, done_eq]
    rfl
  · intro s c rd rs1 off p hi ha hp hb
    rw [exec_ld, execLd, onIssue_issuing _ hi, load_of_place ha hp hb, done_eq]
  · intro s c rd rs1 off p hi ha hp hb
    rw [exec_lbu, execLbu, onIssue_issuing _ hi, load_of_place ha hp hb, done_eq]
  · intro s c rd rs1 off p hi ha hp hb
    rw [exec_lhu, execLhu, onIssue_issuing _ hi, load_of_place ha hp hb, done_eq]
  · intro s c rd rs1 off p hi ha hp hb
    rw [exec_lwu, execLwu, onIssue_issuing _ hi, load_of_place ha hp hb, done_eq]
  · intro s c rs2 rs1 off p hi ha hp
    rw [exec_sb, execSb, onIssue_issuing _ hi, store_of_place ha hp, flowDone_eq]
  · intro s c rs2 rs1 off p hi ha hp
    rw [exec_sh, execSh, onIssue_issuing _ hi, store_of_place ha hp, flowDone_eq]
  · intro s c rs2 rs1 off p hi ha hp
    rw [exec_sw, execSw, onIssue_issuing _ hi, store_of_place ha hp, flowDone_eq]
  · intro s c rs2 rs1 off p hi ha hp
    rw [exec_sd, execSd, onIssue_issuing _ hi, store_of_place ha hp, flowDone_eq]
  · intro s c rd rs1 off hi ha
    rw [exec_lw, exec_lwu, exec_sw, execLw, execLwu, execSw]
    simp only [onIssue_issuing _ hi, load_of_misaligned ha, store_of_misaligned ha, done_eq, flowDone_eq, and_self]
  · intro s c rd rs1 off hi ha
    rw [exec_ld, exec_sd, execLd, execSd]
    simp only [onIssue_issuing _ hi, load_of_misaligned ha, store_of_misaligned ha, done_eq, flowDone_eq, and_self]
  · intro s c rd rs1 off hi ha
    rw [exec_lh, exec_lhu, exec_sh, execLh, execLhu, execSh]
    simp only [onIssue_issuing _ hi, load_of_misaligned ha, store_of_misaligned ha, done_eq, flowDone_eq, and_self]
  · intro s c rd rs1 off hi hp
    rw [exec_lb, exec_lbu, execLb, execLbu]
    simp only [onIssue_issuing _ hi, load_of_barred (Nat.mod_one _) hp, done_eq, and_self]
  · intro s c rd rs1 off hi hp
    rw [exec_sb, execSb, onIssue_issuing _ hi, store_of_barred (Nat.mod_one _) hp, flowDone_eq]

end Sys2Proof.Proofs
end

section
/-! PROOF. Control and status registers, and the system instructions (spec/04 R105 to R109, R154 to R159; spec/05 R182, R183):
ControlAndStatusRegisters, TrapHaltAndReturn. -/

namespace Sys2Proof.Proofs

open Sys2Proof.Machine Sys2Proof.Laws

/-! ### CSRR and CSRW: the number and the level decide -/

section
variable {s : State} {c : Fin 16} {csr : Fin 32} (hi : Issuing s c)
include hi

theorem exec_csrr_of_reserved (rd : Fin 32) (hn : 14 ≤ csr.val) :
    exec (.csrr c rd csr) s = .next (settle (coreTrap s c 0 (xword rd 0 0 4 csr))) := by
  rw [exec_csrr, execCsrr, onIssue_issuing _ hi, done_eq]
  simp only [if_pos hn, illegal]

theorem exec_csrw_of_reserved (rs1 : Fin 32) (hn : 14 ≤ csr.val) :
    exec (.csrw c rs1 csr) s = .next (settle (coreTrap s c 0 (xword 0 rs1 0 5 csr))) := by
  rw [exec_csrw, execCsrw, onIssue_issuing _ hi, done_eq]
  simp only [if_pos hn, illegal]

variable (hn : csr.val < 14)
include hn

theorem exec_csrr_of_allowed (rd : Fin 32) (ha : (supervisor s c || ownerReads csr) = true) :
    exec (.csrr c rd csr) s = .next (settle (coreDone s c rd (csrRead s c csr))) := by
  rw [exec_csrr, execCsrr, onIssue_issuing _ hi, done_eq]
  simp only [if_neg (Nat.not_le.2 hn), if_pos ha, writeRd]

theorem exec_csrr_of_barred (rd : Fin 32) (ha : (supervisor s c || ownerReads csr) = false) :
    exec (.csrr c rd csr) s = .next (settle (coreTrap s c 1 (xword rd 0 0 4 csr))) := by
  rw [exec_csrr, execCsrr, onIssue_issuing _ hi, done_eq]
  simp only [if_neg (Nat.not_le.2 hn), ha, Bool.false_eq_true, if_false, privilege]

theorem exec_csrw_of_allowed (rs1 : Fin 32) (ha : (supervisor s c || ownerWrites csr) = true) :
    exec (.csrw c rs1 csr) s = .next (settle (coreDone (csrWrite s c csr (getT s c rs1)) c 0 0)) := by
  rw [exec_csrw, execCsrw, onIssue_issuing _ hi, done_eq]
  simp only [if_neg (Nat.not_le.2 hn), if_pos ha, nextPc]

theorem exec_csrw_of_barred (rs1 : Fin 32) (ha : (supervisor s c || ownerWrites csr) = false) :
    exec (.csrw c rs1 csr) s = .next (settle (coreTrap s c 1 (xword 0 rs1 0 5 csr))) := by
  rw [exec_csrw, execCsrw, onIssue_issuing _ hi, done_eq]
  simp only [if_neg (Nat.not_le.2 hn), ha, Bool.false_eq_true, if_false, privilege]

end

/-- At owner level CSR 6, EVPEND, is the only one that may be written (R108). -/
theorem ownerWrites_eq_false {csr : Fin 32} (h : csr ≠ 6) : ownerWrites csr = false :=
  decide_eq_false fun e => h (Fin.ext e)

/-- Settles O22: number and level choose the branch of CSRR and CSRW; a CSR's value and its write are the cases of `csrRead`
and `csrWrite`. -/
theorem controlAndStatusRegisters : Obligations.ControlAndStatusRegisters := by
  unfold Obligations.ControlAndStatusRegisters
  refine ⟨?_, ?_, ?_, ?_, ?_, ?_, ?_, ?_⟩
  · intro s c rd csr hi hn ha
    exact exec_csrr_of_allowed hi hn rd ha
  · intro s c rd csr hi hn
    exact ⟨exec_csrr_of_reserved hi rd hn, exec_csrw_of_reserved hi rd hn⟩
  · intro s c rd csr hi hn hs ho
    exact exec_csrr_of_barred hi hn rd (by rw [hs, ho]; rfl)
  · intro s c rs1 csr hi hn ha
    exact exec_csrw_of_allowed hi hn rs1 ha
  · intro s c rs1 csr hi hn hs h6
    exact exec_csrw_of_barred hi hn rs1 (by rw [hs, ownerWrites_eq_false h6]; rfl)
  · intro s n
    exact ⟨rfl, rfl, rfl, rfl, rfl, rfl, rfl, rfl, rfl, rfl, rfl⟩
  · intro s n v
    have hset := core_setCore_same s n
    exact ⟨hset _, hset _, hset _, hset _, hset _, hset _, hset _, hset _⟩
  · rintro s n k v (rfl | rfl | rfl | rfl | rfl) <;> rfl

/-! ### TRAP, HALT, ERET and illegal words, on a core that issues -/

section
variable {s : State} {c : Fin 16} (hi : Issuing s c)
include hi

theorem exec_trap_issuing (code : BitVec 10) : exec (.trap c code) s = .next (settle (trapNext s c 6 code.toNat)) := by
  rw [exec_trap, execTrap, onIssue_issuing _ hi, done_eq]

theorem exec_halt_issuing : exec (.halt c) s = .next (settle (if supervisor s c then
    raise ((coreDone s c 0 0).setCore c { (coreDone s c 0 0).core c with halted := true }) (Src.core c 3)
      else trapNext s c 7 0)) := by
  rw [exec_halt, execHalt, onIssue_issuing _ hi, done_eq]
  rfl

theorem exec_eret_of_owner (hs : supervisor s c = false) :
    exec (.eret c) s = .next (settle (coreTrap s c 1 (xword 0 0 0 3 0))) := by
  rw [exec_eret, execEret, onIssue_issuing _ hi, done_eq, supervised, hs, if_neg (by decide), privilege]

/-- ERET returns: pc from EPC, PL from PPL, INTRAP 0 (R156). -/
theorem exec_eret_of_supervisor (hs : supervisor s c = true) :
    exec (.eret c) s = .next (settle ((coreDone s c 0 0).setCore c { (coreDone s c 0 0).core c with
      pc := (s.core c).epc, status := setBit (setBit (s.core c).status 0 (bit (s.core c).status 1)) 2 false })) := by
  rw [exec_eret, execEret, onIssue_issuing _ hi, done_eq, supervised, if_pos hs]
  simp only [nextPc, coreDone_core]

theorem exec_illegalInstruction_of_illegal {w : Word} (hw : illegalWord w = true) :
    exec (.illegalInstruction c w) s = .next (settle (coreTrap s c 0 w.toNat)) := by
  rw [exec_illegalInstruction, execIllegalInstruction, onIssue_issuing _ hi, done_eq, if_pos hw, illegal]

end

theorem trapNext_outside {s : State} {n : Nat} (cause tval : Nat) (h : bit (s.core n).status 2 = false) :
    trapNext s n cause tval =
      tick (s.setCore n (trapped (s.core n) cause ((s.core n).pc + 4) (BitVec.ofNat 64 tval))) (bCore n) 4 1 := by
  rw [trapNext, takeTrap_outside _ _ _ h]

/-! ### The watchdog -/

theorem watchdog_of_reached {s : State} {n : Nat} (hw : (s.core n).wdog ≠ 0) (ht : wdogDue (s.core n) ≤ s.clock / CLK) :
    watchdog s n = raise (s.setCore n { s.core n with wdogAt := s.clock }) (Src.core n 2) := if_pos ⟨hw, ht⟩

theorem watchdog_of_early {s : State} {n : Nat} (h : (s.core n).wdog = 0 ∨ s.clock / CLK < wdogDue (s.core n)) :
    watchdog s n = s := by
  refine if_neg fun ⟨hw, ht⟩ => ?_
  exact h.elim hw (Nat.not_lt.2 ht)

theorem exec_watchdogExpiry_acts {s : State} {c : Fin 16}
    (ha : ExpiryActs s CLK (if (s.core c).wdog = 0 then none else some (wdogDue (s.core c)))) (hr : s.inReset = false) :
    exec (.watchdogExpiry c) s = .next (settle (watchdog s c)) := by
  rw [exec_watchdogExpiry, execWatchdogExpiry, atDue_acts ha, hr, done_eq]
  rfl

/-! ### Restarts -/

/-- The table of PAL_CORECTLn. -/
def coreCtlDesc : RegDesc := ⟨0x2800100, 16, 4, 1, 0x40, 0, 1, 0, 0, .gk, true, false⟩

theorem coreCtl_plainOff (c : Fin 16) : PlainOff (Reg.PAL_CORECTL c) coreCtlDesc := by
  constructor <;> revert c <;> decide +kernel

theorem coreCtl_index (c : Fin 16) : indexOf coreCtlDesc (Reg.PAL_CORECTL c) = c := by
  revert c
  decide

/-- A write of 1 to PAL_CORECTLn.RESTART restarts the core (R182). -/
theorem regEffect_coreCtl (s : State) (p : Path) (c : Fin 16) :
    regEffect s p coreCtlDesc (Reg.PAL_CORECTL c) 1#32 = restart s c := by
  have heff : effectOf coreCtlDesc.base = some fun _ _ i v s => wrCoreCtl i v s := rfl
  have htake (t : State) : takeWrite t (Reg.PAL_CORECTL c) = t := takeWrite_no (coreCtl_plainOff c).desc (by decide)
  rw [regEffect, if_neg (by decide), htake, heff, coreCtl_index]
  rfl

theorem exec_coreRestart_of_armed {s : State} {p : Path} {c : Fin 16} (h : MayWriteGk s p (Reg.PAL_CORECTL c)) :
    exec (.coreRestart p c) s = .next (settle (flow (settle (restart (disarm s p) c)))) := by
  obtain ⟨hi, hr, -, hg, hk⟩ := h
  rw [exec_coreRestart, execCoreRestart, access_of_running _ hi, applyWrite_gk _ (coreCtl_plainOff c) rfl hr hg hk,
    regEffect_coreCtl]

theorem restart_of_free {s : State} {n : Nat} (he : canEnable s (uCore n) = true) (hb : anySlotBusy s n = false) :
    restart s n = restartNow s n := by
  simp only [restart, he, hb, Bool.not_true, Bool.false_eq_true, if_false]

theorem restart_of_busy {s : State} {n : Nat} (he : canEnable s (uCore n) = true) (hb : anySlotBusy s n = true) :
    restart s n = s.setCore n { s.core n with restartHeld := true, atBoundary := false } := by
  simp only [restart, he, hb, Bool.not_true, Bool.false_eq_true, if_false, if_true]

theorem restartDeferred_of_free {s : State} {n : Nat} (hh : (s.core n).restartHeld = true) (hb : anySlotBusy s n = false)
    (hw : (s.core n).atBoundary = false ∨ (s.core n).wait = none) : restartDeferred s n = restartNow s n := by
  refine if_pos ?_
  rcases hw with h | h <;> simp [hh, hb, h]

/-- Settles O23: a trap or a halt by level and INTRAP, the watchdog by its deadline, a restart by the core's move slots. -/
theorem trapHaltAndReturn : Obligations.TrapHaltAndReturn := by
  unfold Obligations.TrapHaltAndReturn
  refine ⟨?_, ?_, ?_, ?_, ?_, ?_, ?_, ?_, ?_, ?_, ?_, ?_⟩
  · intro s c code hi hin
    rw [exec_trap_issuing hi, trapNext_outside _ _ hin]
    rfl
  · intro s c hi hs
    rw [exec_halt_issuing hi, if_pos hs]
  · intro s c hi hs hin
    rw [exec_halt_issuing hi, hs, if_neg (by decide), trapNext_outside _ _ hin]
    rfl
  · intro s c hi hs
    exact exec_eret_of_supervisor hi hs
  · intro s c hi hs
    exact exec_eret_of_owner hi hs
  · intro s c w hi hw
    exact exec_illegalInstruction_of_illegal hi hw
  · intro s c ha hr hw ht
    rw [exec_watchdogExpiry_acts ha hr, watchdog_of_reached hw ht]
  · intro s c ha hr ht
    rw [exec_watchdogExpiry_acts ha hr, watchdog_of_early ht]
  · intro s p c hm he hb
    rw [exec_coreRestart_of_armed hm, restart_of_free (s := disarm s p) he hb]
  · intro s p c hm he hb
    rw [exec_coreRestart_of_armed hm, restart_of_busy (s := disarm s p) he hb]
    rfl
  · intro s c hr hh hb hw
    rw [exec_coreRestartDeferred, execCoreRestartDeferred, access_of_running _ hr, restartDeferred_of_free hh hb hw]
  · intro k t
    rfl

end Sys2Proof.Proofs
end

section
/-! PROOF. Messages between cores (spec/04 R133 to R138): MessagesBetweenCores. -/

namespace Sys2Proof.Proofs

open Sys2Proof.Machine Sys2Proof.Laws

theorem eq_ok_of_toOption {ε α : Type} {x : Except ε α} {a : α} (h : x.toOption = some a) : x = .ok a := by
  cases x with
  | error e => exact absurd h (by simp [Except.toOption])
  | ok b => exact congrArg Except.ok (Option.some.inj h)

theorem devId_lt (s : State) : s.devId < 1024 := Nat.mod_lt _ (by decide)

/-! ### SEND -/

section
variable {s : State} {c : Fin 16} {rd : Fin 32} {n : Nat} {l : Line}

theorem sendStatus_of_here (n : Nat) : sendStatus s s.devId n = if readyCore s n then 0 else 1 := if_pos rfl

/-- A core of this device that is READY with room in its queue takes the message. -/
theorem sendTry_of_room (hy : readyCore s n = true) (hm : msgCount (s.core n) < 56) : sendTry s c rd s.devId n l =
    coreDone (tick (s.setCore n ((s.core n).enqueue (s.clock / CLK) { kind := 0, snd := c, sdev := s.devId, score := c
                                                                      spl := supervisor s c, data := l }))
      (bCore c) 5 1) c rd 0 := by
  simp only [sendTry, sendStatus_of_here, hy, if_true, ne_eq, not_true_eq_false, if_false, if_pos hm, writeRd]

theorem sendTry_of_full (hy : readyCore s n = true) (hm : 56 ≤ msgCount (s.core n)) :
    sendTry s c rd s.devId n l = holdIssue s c (.send rd s.devId n l) := by
  simp only [sendTry, sendStatus_of_here, hy, if_true, ne_eq, not_true_eq_false, if_false, if_neg (Nat.not_lt.2 hm)]

theorem sendTry_of_refused {dev r : Nat} (hr : sendStatus s dev n = r) (h0 : r ≠ 0) :
    sendTry s c rd dev n l = coreDone s c rd (BitVec.ofNat 64 (2 ^ 63 + r)) := by
  simp only [sendTry, hr, if_pos h0, writeRd]

/-- A device that is in no pool has no other member to send to. -/
theorem sendStatus_of_poolless {dev : Nat} (hd : dev ≠ s.devId) (hp : inPool s = false) : sendStatus s dev n = 2 := by
  simp only [sendStatus, if_neg hd, hp, Bool.not_false, Bool.true_or, if_true]

theorem exec_send_of_line {rs1 rs2 : Fin 32} {d : Nat} (hi : Issuing s c) (hd : (getT s c rs1).toNat = d) (hb : d < 2 ^ 14)
    (hl : (lineLoad s c (getT s c rs2).toNat).toOption = some l) :
    exec (.send c rd rs1 rs2) s = .next (settle (sendTry s c rd (d / 16) (d % 16) l)) := by
  rw [exec_send, execSend, onIssue_issuing _ hi, done_eq]
  simp only [hd, eq_ok_of_toOption hl, if_neg (Nat.not_le.2 hb)]

/-- A destination of this device names its core in the low four bits. -/
theorem exec_send_of_here {rs1 rs2 : Fin 32} (hi : Issuing s c) (hn : n < 16) (hd : (getT s c rs1).toNat = 16 * s.devId + n)
    (hl : (lineLoad s c (getT s c rs2).toNat).toOption = some l) :
    exec (.send c rd rs1 rs2) s = .next (settle (sendTry s c rd s.devId n l)) := by
  have hdev := devId_lt s
  rw [exec_send_of_line hi hd (by omega) hl, show (16 * s.devId + n) / 16 = s.devId by omega,
    show (16 * s.devId + n) % 16 = n by omega]

end

/-! ### RECV -/

section
variable {s : State} {c : Fin 16} {rd rs1 : Fin 32} (hi : Issuing s c)
include hi

theorem exec_recv_of_empty (hq : (s.core c).queue = []) (ha : (getT s c rs1).toNat % 64 = 0) :
    exec (.recv c rd rs1) s = .next (settle (coreDone s c rd 0x8000000000000000)) := by
  rw [exec_recv, execRecv, onIssue_issuing _ hi, done_eq]
  simp only [hq, ha, ne_eq, not_true_eq_false, if_false]
  rfl

theorem exec_recv_of_entry {t : State} {e : QEntry} {r : List QEntry} (hq : (s.core c).queue = e :: r)
    (ht : (lineStore s c (getT s c rs1).toNat e.data).toOption = some t) :
    exec (.recv c rd rs1) s = .next (settle (coreDone (tick (popQueue t c) (bCore c) 6 1) c rd (descriptor e))) := by
  rw [exec_recv, execRecv, onIssue_issuing _ hi, done_eq]
  simp only [hq, eq_ok_of_toOption ht, writeRd]

end

/-- Settles O25: the destination's state decides what SEND does, the own queue what RECV does. -/
theorem messagesBetweenCores : Obligations.MessagesBetweenCores := by
  unfold Obligations.MessagesBetweenCores
  refine ⟨?_, ?_, ?_, ?_, ?_, ?_, ?_, ?_⟩
  · intro s c rd rs1 rs2 n l hi hn hd hl hy hm
    rw [exec_send_of_here hi hn hd hl, sendTry_of_room hy hm]
  · intro s c rd rs1 rs2 n l hi hn hd hl hy hm
    rw [exec_send_of_here hi hn hd hl, sendTry_of_full hy hm]
    rfl
  · intro s c rd rs1 rs2 n l hi hn hd hl hy
    rw [exec_send_of_here hi hn hd hl, sendTry_of_refused (sendStatus_of_here n) (by simp [hy]), hy]
    rfl
  · intro s c rd rs1 rs2 l hi hp hb hd hl
    rw [exec_send_of_line hi rfl hb hl, sendTry_of_refused (sendStatus_of_poolless hd hp) (by decide)]
    rfl
  · intro s c rd n l hg hw hy hm
    rw [exec_sendStallRelease, execSendStallRelease, onGoing_goesOn _ hg, sendRelease, hw, done_eq]
    simp only [sendTry_of_room hy hm]
  · intro s c rd rs1 hi hq ha
    exact exec_recv_of_empty hi hq ha
  · intro s t c rd rs1 e r hi hq ht
    exact exec_recv_of_entry hi hq ht
  · intro s c a l ha
    exact ⟨if_pos ha, if_pos ha⟩

end Sys2Proof.Proofs
end

section
/-! PROOF. Page operations, page moves and atomics of a core (spec/04 R118 to R132, R145 to R149, R161):
PageOperationsAndAtomics. -/

namespace Sys2Proof.Proofs

open Sys2Proof.Machine Sys2Proof.Laws

theorem tick_code (s : State) (b c n : Nat) : (tick s b c n).code = s.code := by
  obtain ⟨cnt, h⟩ := tick_eq s b c n
  rw [h]
  rfl

theorem tick_holding (s : State) (b c n : Nat) : holding (tick s b c n) = holding s := by
  obtain ⟨cnt, h⟩ := tick_eq s b c n
  rw [h]
  rfl

/-! ### Page operations and DQRY: the mode decides -/

section
variable {s : State} {c : Fin 16} {rd : Fin 32} {i : Instr} {k : ReqKind} {line : Nat} {a b : DWord}

/-- Outside HOLD and SAFE the operation goes to its home slice, and its core holds issue. -/
theorem pageIssue_of_running (hm : s.code ≠ Mode.safe) (hh : holding s = false) : pageIssue s i c rd k line a b =
    submit (holdIssue (takeId s).1 c (.page rd (takeId s).2))
      (pageReq (takeId s).1 c rd k (takeId s).2 line a b) := by
  have hnext : holding (holdIssue (takeId s).1 c (.page rd (takeId s).2)) = false := hh
  simp only [pageIssue, if_neg hm, heldOp, hh, hnext, Bool.false_and, Bool.false_eq_true, if_false]

theorem pageIssue_of_safe (hm : s.code = Mode.safe) : pageIssue s i c rd k line a b =
    coreDone s c rd (if k = .pprobe then BitVec.ofNat 64 (2 ^ 63) else allOnes) := if_pos hm

end

/-! ### PMOV at its home slice, and the end of its copy -/

theorem pmovError_of_slotless {s : State} (r : Req) {n : Nat} (d : DWord) (h : freeMoveSlot s n = none) :
    pmovError s r n d = (s, some 1) := by
  simp only [pmovError, h, Option.isNone_none, if_true]

theorem pmovError_of_beyond {s : State} {r : Req} {n k : Nat} (d : DWord) (h : freeMoveSlot s n = some k)
    (hl : 2 ^ 46 ≤ r.line) : pmovError s r n d = (s, some 2) := by
  simp only [pmovError, h, Option.isNone_some, Bool.false_eq_true, if_false, hl, decide_true, Bool.true_or, if_true]

theorem openPmov_of_error {s u : State} {t : Txn} {n : Fin 16} {x : Nat} (rd : Fin 32)
    (h : pmovError s t.req n (BitVec.ofNat 64 t.req.b) = (u, some x)) :
    openPmov s t n rd = reqDone t.req u n rd (pmovErr x) := by
  simp only [openPmov, h]

theorem exec_pageMoveComplete_next (c : Fin 16) (k : Fin 8) (e : List (List (Nat × Word))) (s : State) :
    exec (.pageMoveComplete c k e) s = .next (settle (flow (moveComplete s c k e))) := by
  rw [exec_pageMoveComplete, execPageMoveComplete, flowDone_eq]

theorem underSet_of_active {s : State} {n : Nat} (f : State → State) (h : n = s.sets.swaps) : underSet s n f = f s :=
  if_pos h

section
variable {s : State} {c k : Nat} {e : List (List (Nat × Word))}

/-- The move whose copy runs in a slot of a core. -/
abbrev copyIn (s : State) (c k : Nat) : Option Move :=
  s.tier.moves.find? fun m => decide (m.core.val = c ∧ m.slot = k ∧ m.phase = 1)

theorem moveComplete_of_idle (h : copyIn s c k = none) : moveComplete s c k e = s := by
  simp only [moveComplete, h]

variable {m : Move} (h : copyIn s c k = some m)
include h

theorem moveComplete_of_holding (hh : holding s = true) : moveComplete s c k e = s := by
  simp only [moveComplete, h, hh, if_true]

variable (hh : holding s = false) (hc : m.cset = s.sets.swaps)
include hh hc

/-- The lines that the move has already are stored in its new tier. -/
theorem moveComplete_of_lines (hl : m.lines ≠ []) : moveComplete s c k e = moveLines s m (linesOfMap m.lines) := by
  simp only [moveComplete, h, hh, Bool.false_eq_true, if_false, underSet_of_active _ hc, if_pos hl]

/-- Else the page is read, and its lines are stored. -/
theorem moveComplete_of_read {t : State} {l : List (Line × Bool)} (hl : m.lines = [])
    (hr : moveRead (readMany s (pageReadKeys s m.old) e).1 m (readMany s (pageReadKeys s m.old) e).2 = (t, some l)) :
    moveComplete s c k e = moveLines t m l := by
  simp only [moveComplete, h, hh, Bool.false_eq_true, if_false, underSet_of_active _ hc, hl, ne_eq, not_true_eq_false, hr]

end

/-! ### Atomics: the address and the mode decide -/

section
variable {s : State} {c : Fin 16} {rd rs1 rs2 : Fin 32} {i : Instr} {k : ReqKind} {w : Bool}

theorem doAmo_of_misaligned (ha : (getT s c rs1).toNat % (if w then 4 else 8) ≠ 0) :
    doAmo i c rd rs1 rs2 k w s = coreTrap s c 3 (getT s c rs1).toNat := if_pos ha

variable (ha : (getT s c rs1).toNat % (if w then 4 else 8) = 0)
include ha

theorem doAmo_of_beyond (hb : 2 ^ 56 ≤ (getT s c rs1).toNat) :
    doAmo i c rd rs1 rs2 k w s = coreTrap s c 4 (getT s c rs1).toNat := by
  simp only [doAmo, ha, ne_eq, not_true_eq_false, if_false, hb, decide_true, Bool.true_or, if_true]

variable (hb : (getT s c rs1).toNat < 2 ^ 56)
  (hd : (getT s c rs1).toNat / 2 ^ 46 = s.devId ∨ (inPool s = true ∧ isMember s ((getT s c rs1).toNat / 2 ^ 46) = true))
include hb hd

/-- An atomic on an aligned address of this device or of a member of its pool goes by the mode (R161). -/
theorem doAmo_of_reachable : doAmo i c rd rs1 rs2 k w s =
    if s.code = Mode.safe then coreTrap s c 8 (getT s c rs1).toNat
    else if holding s then holdIssue s c (.hold i)
    else submit (holdIssue (takeId s).1 c (.atomic rd (takeId s).2))
      (amoReq (takeId s).1 c rd rs2 k (!w) (takeId s).2 (getT s c rs1).toNat) := by
  have hmem : (decide ((getT s c rs1).toNat / 2 ^ 46 ≠ s.devId) &&
      (!inPool s || !isMember s ((getT s c rs1).toNat / 2 ^ 46))) = false := by
    rcases hd with h | ⟨hp, h⟩
    · rw [decide_eq_false (not_not_intro h), Bool.false_and]
    · rw [hp, h]
      exact Bool.and_false _
  simp only [doAmo, ha, ne_eq, not_true_eq_false, if_false, decide_eq_false (Nat.not_le.2 hb), Bool.false_or]
  rw [hmem, if_neg (by decide)]

variable (hm : s.code ≠ Mode.safe) (hh : holding s = false)
include hm hh

theorem doAmo_of_running : doAmo i c rd rs1 rs2 k w s =
    submit (holdIssue (takeId s).1 c (.atomic rd (takeId s).2))
      (amoReq (takeId s).1 c rd rs2 k (!w) (takeId s).2 (getT s c rs1).toNat) := by
  rw [doAmo_of_reachable ha hb hd, if_neg hm, hh, if_neg (by decide)]

end

/-- Settles O27: the mode, the address and the state of the move slot choose the branch of each operation. -/
theorem pageOperationsAndAtomics : Obligations.PageOperationsAndAtomics := by
  unfold Obligations.PageOperationsAndAtomics
  refine ⟨?_, ?_, ?_, ?_, ?_, ?_, ?_, ?_, ?_, ?_, ?_, ?_, ?_, ?_, ?_, ?_, ?_, ?_, ?_, ?_, ?_, ?_⟩
  · intro s c rd rs1 hi hm hh
    rw [exec_tmr, execTmr, onIssue_issuing _ hi, doTmr, pageIssue_of_running hm hh, flowDone_eq]
  · intro s c rd rs1 rs2 hi hm hh
    rw [exec_tmw, execTmw, onIssue_issuing _ hi, doTmw, pageIssue_of_running hm hh, flowDone_eq]
  · intro s c rd rs1 hi hm hh
    rw [exec_pzero, execPzero, onIssue_issuing _ hi, doPzero, pageIssue_of_running hm hh, flowDone_eq]
  · intro s c rd rs1 hi hm hh
    rw [exec_pprobe, execPprobe, onIssue_issuing _ hi, doPprobe, pageIssue_of_running hm hh, flowDone_eq]
  · intro s c rd rs1 hi hm hh
    rw [exec_dqry, execDqry, onIssue_issuing _ hi, doDqry, pageIssue_of_running hm hh, flowDone_eq]
  · intro s c rd rs1 rs2 hi hm
    rw [exec_tmr, exec_tmw, exec_pzero, exec_pprobe, exec_dqry, exec_pmov, execTmr, execTmw, execPzero, execPprobe,
      execDqry, execPmov]
    simp only [onIssue_issuing _ hi, doTmr, doTmw, doPzero, doPprobe, doDqry, pmovIssue, if_pos hm, pageIssue_of_safe hm,
      flowDone_eq]
    exact ⟨rfl, rfl, rfl, rfl, rfl, rfl⟩
  · intro s c rd rs1 rs2 hi hm hh
    rw [exec_pmov, execPmov, onIssue_issuing _ hi, pmovIssue, if_neg hm,
      pageIssue_of_running (by rwa [tick_code]) (by rwa [tick_holding]), flowDone_eq]
  · intro s r n d h
    exact pmovError_of_slotless r d h
  · intro s r n d k h hl
    exact pmovError_of_beyond d h hl
  · intro s t n rd u x h
    exact openPmov_of_error rd h
  · intro s c k e h
    rw [exec_pageMoveComplete_next, moveComplete_of_idle h]
  · intro s c k e m h hh
    rw [exec_pageMoveComplete_next, moveComplete_of_holding h hh]
  · intro s c k e m h hh hc hl
    rw [exec_pageMoveComplete_next, moveComplete_of_lines h hh hc hl]
  · intro s c k e m t l h hh hc hl hr
    rw [exec_pageMoveComplete_next, moveComplete_of_read h hh hc hl hr]
  · intro s c rd rs1 rs2 w hi ha hb hd hm hh
    rw [exec_amoAdd, execAmoAdd, onIssue_issuing _ hi, doAmo_of_running ha hb hd hm hh, flowDone_eq]
  · intro s c rd rs1 rs2 w hi ha hb hd hm hh
    rw [exec_amoSwp, execAmoSwp, onIssue_issuing _ hi, doAmo_of_running ha hb hd hm hh, flowDone_eq]
  · intro s c rd rs1 rs2 w hi ha hb hd hm hh
    rw [exec_amoCas, execAmoCas, onIssue_issuing _ hi, doAmo_of_running ha hb hd hm hh, flowDone_eq]
  · intro s c rd rs1 rs2 w u hi ha hb hd hm hh
    rw [exec_amoMax, execAmoMax, onIssue_issuing _ hi, doAmo_of_running ha hb hd hm hh, flowDone_eq]
    rfl
  · intro i s c rd rs1 rs2 k w ha
    exact doAmo_of_misaligned ha
  · intro i s c rd rs1 rs2 k w ha hb
    exact doAmo_of_beyond ha hb
  · intro i s c rd rs1 rs2 k w ha hb hd hm
    rw [doAmo_of_reachable ha hb (.inl hd), if_pos hm]
  · intro i s c rd rs1 rs2 k w ha hb hd hm hh
    rw [doAmo_of_reachable ha hb (.inl hd), if_neg hm, if_pos hh]
    rfl

end Sys2Proof.Proofs
end

section
/-! PROOF. Supervisor services, and the hosts' answers to extents (spec/05 R156, R179, R181; spec/06 R216 to R219):
SupervisorServices. -/

namespace Sys2Proof.Proofs

open Sys2Proof.Machine Sys2Proof.Laws

/-! ### A service and its return -/

section
variable {s : State} {n : Nat}

theorem service_of_called {k : Nat} (f : State → State) (h : serving s n k = true) : service s n k f = f s := if_pos h

theorem service_of_uncalled {k : Nat} (f : State → State) (h : serving s n k = false) : service s n k f = s :=
  if_neg (by simp [h])

/-- Where the return of a service leaves its core. -/
theorem serviceReturn_core (s : State) (n r : Nat) : (serviceReturn s n r).core n =
    { s.core n with t := ((serviceReturn s n r).core n).t, wait := none, pc := (s.core n).epc
                    status := setBit (setBit (s.core n).status 0 (bit (s.core n).status 1)) 2 false } := by
  rw [serviceReturn, setT_core, core_setCore_same]

theorem getT_serviceReturn (s : State) (n r : Nat) : getT (serviceReturn s n r) n 10 = BitVec.ofNat 64 r :=
  getT_setT_same _ n _ (by decide)

/-! ### HOSTREPLY, LOG, DCDADD and DCDREL -/

variable {l : Line} (hl : exchangeLine s n (getT s n 10).toNat = some l)
include hl

theorem logService_of_line : logService s n =
    serviceReturn { s with sets := { s.sets with log := s.sets.log ++ [l] } } n 0 := by
  simp only [logService, hl]

theorem hostReply_of_match {x : HostMsg} (hx : matchMsg (s.sets.msgs.filter fun x => !x.timedOut) n l = some x) :
    hostReply s n = serviceReturn (State.emit { s with sets := { s.sets with msgs := s.sets.msgs.erase x } }
      (.mailbox (msgIssuer x) rcSuccess 0 (natBytes 64 l.toNat))) n 0 := by
  simp only [hostReply, hl, hx]

theorem hostReply_of_unmatched (hx : matchMsg (s.sets.msgs.filter fun x => !x.timedOut) n l = none)
    (hy : matchMsg (s.sets.msgs.filter fun x => x.timedOut) n l = none) : hostReply s n = serviceReturn s n 1 := by
  simp only [hostReply, hl, hx, hy]

end

theorem eq_error_of_errorOf {α : Type} {x : Except Nat α} {r : Nat} (h : errorOf x = some r) : x = .error r := by
  cases x with
  | error e => exact congrArg Except.error (Option.some.inj h)
  | ok a => exact absurd h (by simp [errorOf])

section
variable {s : State} {c : Fin 16} {i : Nat} {e : Extent}

theorem dcdAdd_of_failed {r : Nat} (h : errorOf (offerCheck s (getT s c 10).toNat (getT s c 11).toNat
    (getT s c 12).toNat) = some r) : dcdAdd s c = serviceReturn s c r := by
  simp only [dcdAdd, eq_error_of_errorOf h]

theorem dcdAdd_of_offered (h : (offerCheck s (getT s c 10).toNat (getT s c 11).toNat (getT s c 12).toNat).toOption =
    some (i, e)) : dcdAdd s c = State.emit ((setExtent s i { e with caller := some c }).setCore c
      { (setExtent s i { e with caller := some c }).core c with wait := some (.service 4) })
      (.capacity (getT s c 10).toNat true e.start e.blocks) := by
  simp only [dcdAdd, eq_ok_of_toOption h]

theorem dcdRel_of_accepted (ha : (getT s c 12).toNat % 2 ^ 28 = 0)
    (h : findExtent s (getT s c 10).toNat (getT s c 11).toNat ((getT s c 12).toNat / 2 ^ 28) [2] = some (i, e)) :
    dcdRel s c = State.emit ((setExtent s i { e with state := 3, since := s.clock, caller := some c }).setCore c
      { (setExtent s i { e with state := 3, since := s.clock, caller := some c }).core c with
        wait := some (.service 5) }) (.capacity (getT s c 10).toNat false e.start e.blocks) := by
  simp only [dcdRel, if_pos ha, h]

theorem dcdRel_of_unmatched (h : (getT s c 12).toNat % 2 ^ 28 ≠ 0 ∨
    findExtent s (getT s c 10).toNat (getT s c 11).toNat ((getT s c 12).toNat / 2 ^ 28) [2] = none) :
    dcdRel s c = serviceReturn s c 2 := by
  have hnone : (if (getT s c 12).toNat % 2 ^ 28 = 0 then findExtent s (getT s c 10).toNat (getT s c 11).toNat
      ((getT s c 12).toNat / 2 ^ 28) [2] else none) = none := by
    split
    next ha => exact h.resolve_left (not_not_intro ha)
    next => rfl
  simp only [dcdRel, hnone]

end

/-! ### The hosts' answers, at the end of their clock (R219) -/

/-- While firmware runs, a mailbox command of a device that is not in reset is carried out. -/
theorem mailbox_of_running {s : State} (m : Issuer) (f : State → State) (hi : s.inReset = false)
    (hf : firmwareRuns s = true) : mailbox s m f = f s := by
  simp only [mailbox, hi, hf, Bool.false_eq_true, if_false, if_true]

section
variable {s : State} {l : Fin 256} {a n : Nat}

theorem exec_addDcResponse_of_closing (b : Bool) (hc : s.closing = true) (hi : s.inReset = false)
    (hf : firmwareRuns s = true) : exec (.addDcResponse l a n b) s = .next (settle (addResponse s l a n b)) := by
  rw [exec_addDcResponse, execAddDcResponse, atEnd_acts hc, mailbox_of_running _ _ hi hf, done_eq]

theorem exec_releaseDc_of_closing (hc : s.closing = true) (hi : s.inReset = false) (hf : firmwareRuns s = true) :
    exec (.releaseDc l a n) s = .next (settle (releaseDc s l a n)) := by
  rw [exec_releaseDc, execReleaseDc, atEnd_acts hc, mailbox_of_running _ _ hi hf, done_eq]

theorem addResponse_of_unmatched (b : Bool) (h : findExtent s l a n [1] = none) :
    addResponse s l a n b = reply s (.ld l) rcInvalid [] := by
  simp only [addResponse, h]

theorem releaseDc_of_unmatched (h : findExtent s l a n [2, 3] = none) :
    releaseDc s l a n = reply s (.ld l) rcInvalid [] := by
  simp only [releaseDc, h]

variable {i : Nat} {e : Extent}

theorem addResponse_of_offered (b : Bool) (h : findExtent s l a n [1] = some (i, e)) : addResponse s l a n b =
    reply (dcdReturn (if b then setExtent s i { e with state := 2, caller := none } else freeExtent s i) e.caller
      (if b then 0 else 1)) (.ld l) rcSuccess [] := by
  simp only [addResponse, h]

theorem releaseDc_of_held (h : findExtent s l a n [2, 3] = some (i, e)) : releaseDc s l a n =
    reply (dcdReturn (raiseHost (freeExtent s i) (l.val / 16) 14 { mkind := 1, mid := l.val + 256 * ((ldPort s l).getD 0 % 4)
                                                                   ld := some l.val, sub := ldPort s l })
      e.caller 0) (.ld l) rcSuccess [] := by
  simp only [releaseDc, h]

end

/-! ### The response timer of an extent (R218) -/

section
variable {s : State} {i : Fin 4096} {e : Extent}

theorem exec_dcdResponseTimeout_acts (ha : ExpiryActs s 1 (dcdDue s i)) :
    exec (.dcdResponseTimeout i) s = .next (settle (dcdTimeout s i)) := by
  rw [exec_dcdResponseTimeout, execDcdResponseTimeout, atDue_acts ha, done_eq]

variable (he : smGet {} s.port.ext i = e)
include he

theorem dcdTimeout_of_offered (ht : e.since + dcdLimit s e.ld ≤ s.clock) (hs : e.state = 1) :
    dcdTimeout s i = dcdReturn (freeExtent s i) e.caller 6 := by
  simp only [dcdTimeout, he, if_pos ht, if_pos hs]

theorem dcdTimeout_of_releasing (ht : e.since + dcdLimit s e.ld ≤ s.clock) (hs : e.state = 3) :
    dcdTimeout s i = dcdReturn (setExtent s i { e with state := 2, caller := none }) e.caller 6 := by
  simp only [dcdTimeout, he, if_pos ht, hs, Nat.reduceEqDiff, if_false, if_true]

variable (h : s.clock < e.since + dcdLimit s e.ld ∨ (e.state ≠ 1 ∧ e.state ≠ 3))
include h

/-- Before its limit, or of an extent that waits for no host, the timer changes nothing. -/
theorem dcdTimeout_of_undue : dcdTimeout s i = s := by
  simp only [dcdTimeout, he]
  rcases h with ht | ⟨h1, h3⟩
  · rw [if_neg (Nat.not_le.2 ht)]
  · rw [if_neg h1, if_neg h3, ite_self]

theorem expiryActs_dcdDue_of_undue : ExpiryActs s 1 (dcdDue s i) := by
  simp only [dcdDue, he]
  rcases h with ht | ⟨h1, h3⟩
  · split
    · exact expiryActs_of_early (by rwa [Nat.div_one])
    · simp
  · rw [if_neg (not_or.2 ⟨h1, h3⟩)]
    simp

end

/-- Settles O30: each service is one operation in its trap handler; the extent that an answer names decides it. -/
theorem supervisorServices : Obligations.SupervisorServices := by
  unfold Obligations.SupervisorServices
  refine ⟨?_, ?_, ?_, ?_, ?_, ?_, ?_, ?_, ?_, ?_, ?_, ?_, ?_, ?_, ?_, ?_, ?_, ?_, ?_, ?_⟩
  · intro s c h
    rw [exec_armreq, execArmreq, service_of_called _ h, done_eq, armReq]
  · intro s c h
    rw [exec_abortreq, execAbortreq, service_of_called _ h, done_eq, abortReq]
  · intro s c h
    rw [exec_setinfo, execSetinfo, service_of_called _ h, done_eq]
  · intro s c l h hl
    rw [exec_log, execLog, service_of_called _ h, done_eq, logService_of_line hl]
  · intro s c l x h hl hx
    rw [exec_hostreply, execHostreply, service_of_called _ h, done_eq, hostReply_of_match hl hx]
  · intro s c l h hl hx hy
    rw [exec_hostreply, execHostreply, service_of_called _ h, done_eq, hostReply_of_unmatched hl hx hy]
  · intro s c r h ha hr
    rw [exec_dcdadd, execDcdadd, service_of_called _ h, done_eq, if_pos ha, dcdAdd_of_failed hr]
  · intro s c i e h ha he
    rw [exec_dcdadd, execDcdadd, service_of_called _ h, done_eq, if_pos ha, dcdAdd_of_offered he]
  · intro s c i e h ha he
    rw [exec_dcdrel, execDcdrel, service_of_called _ h, done_eq, dcdRel_of_accepted ha he]
  · intro s c h he
    rw [exec_dcdrel, execDcdrel, service_of_called _ h, done_eq, dcdRel_of_unmatched he]
  · intro s c k f h
    exact service_of_uncalled f h
  · intro s n r
    have hcore := serviceReturn_core s n r
    exact ⟨getT_serviceReturn s n r, by rw [hcore], by rw [hcore], by rw [hcore]⟩
  · intro s l a n i e hc hi hf he
    rw [exec_addDcResponse_of_closing _ hc hi hf, exec_addDcResponse_of_closing _ hc hi hf, addResponse_of_offered _ he,
      addResponse_of_offered _ he]
    exact ⟨rfl, rfl⟩
  · intro s l a n b hc hi hf he
    rw [exec_addDcResponse_of_closing _ hc hi hf, addResponse_of_unmatched b he]
  · intro s l a n i e hc hi hf he
    rw [exec_releaseDc_of_closing hc hi hf, releaseDc_of_held he]
  · intro s l a n hc hi hf he
    rw [exec_releaseDc_of_closing hc hi hf, releaseDc_of_unmatched he]
  · intro s l a n b hc
    rw [exec_addDcResponse, exec_releaseDc]
    exact ⟨atEnd_waits hc, atEnd_waits hc⟩
  · intro s i e ha he ht hs
    rw [exec_dcdResponseTimeout_acts ha, dcdTimeout_of_offered he ht hs]
  · intro s i e ha he ht hs
    rw [exec_dcdResponseTimeout_acts ha, dcdTimeout_of_releasing he ht hs]
  · intro s i e he h
    rw [exec_dcdResponseTimeout_acts (expiryActs_dcdDue_of_undue he h), dcdTimeout_of_undue he h]

end Sys2Proof.Proofs
end

section
/-! PROOF. The end-to-end timers, the sweep, the flushes and the query by register (spec/04 R132; spec/10 R357, R361, R377;
spec/14 R530): PeerTimersSweepAndFlush. -/

namespace Sys2Proof.Proofs

open Sys2Proof.Machine Sys2Proof.Laws

/-! ### The timer of a device and a line: what it finds past its limit -/

section
variable {s : State} {d l : Nat}

theorem exec_e2eTimeout_acts (ha : ExpiryActs s 1 (if e2eNow s d l then some s.clock else none)) :
    exec (.e2eTimeout d l) s = .next (settle (flow (e2eTimeout s d l))) := by
  rw [exec_e2eTimeout, execE2eTimeout, atDue_acts ha, flowDone_eq]

theorem exec_e2eTimeout_waits (hn : e2eNow s d l = true) (hc : s.closing = false) :
    exec (.e2eTimeout d l) s = .next { s with deferred := s.deferred ++ [.e2eTimeout d l] } := by
  rw [exec_e2eTimeout, execE2eTimeout, atDue_waits (by rw [if_pos hn, Nat.div_one]) hc]

theorem e2eTimeout_of_ask {t : Txn} (h : s.coh.txns.find? (askDue s d l) = some t) :
    e2eTimeout s d l = askExpires (raisePool s 2 d) t := by
  simp only [e2eTimeout, h]

variable (ha : s.coh.txns.find? (askDue s d l) = none)
include ha

theorem e2eTimeout_of_snoop {t : Txn} (h : s.coh.txns.find? (snoopDue s d l) = some t) :
    e2eTimeout s d l = snoopExpires (raisePool s 2 d) t d := by
  simp only [e2eTimeout, ha, h]

variable (hs : s.coh.txns.find? (snoopDue s d l) = none)
include hs

theorem e2eTimeout_of_move {m : Move} (h : s.tier.moves.find? (moveDue s d l) = some m) :
    e2eTimeout s d l = moveTimeout s m := by
  simp only [e2eTimeout, ha, hs, h]

variable (hm : s.tier.moves.find? (moveDue s d l) = none)
include hm

theorem e2eTimeout_of_peerMove {x : PeerMove} (h : s.tier.peerMoves.find? (peerMoveDue s d l) = some x) :
    e2eTimeout s d l = endPeerMove (raisePool s 2 d) x := by
  simp only [e2eTimeout, ha, hs, hm, h]

theorem e2eTimeout_of_none (h : s.tier.peerMoves.find? (peerMoveDue s d l) = none) : e2eTimeout s d l = s := by
  simp only [e2eTimeout, ha, hs, hm, h]

end

/-! ### The sweep of the directory, and flushes of the pool cache -/

theorem exec_directorySweepEnd_of_sweep {s : State} (h : s.coh.sweep = true) : exec .directorySweepEnd s =
    .next (settle (flow (sweepPc (sweepDir { s with coh := { s.coh with sweep := false } }
      (s.coh.dir.map (fun e => e.1))) (s.coh.pc.map (fun e => e.1))))) := by
  rw [exec_directorySweepEnd, execDirectorySweepEnd, if_pos h, flowDone_eq]

theorem exec_directorySweepEnd_of_idle {s : State} (h : s.coh.sweep = false) :
    exec .directorySweepEnd s = .next (settle (flow s)) := by
  rw [exec_directorySweepEnd, execDirectorySweepEnd, h, if_neg (by decide), flowDone_eq]

/-- The sweep recalls a line whose owner is isolated, unless a transaction on it is open (R357). -/
theorem sweepDir_singleton_of_lost {s : State} {l : Nat} (hl : ownerLost s (decodeDir (dirWord s l)) = true)
    (ho : lineOpen s s.devId l = false) : sweepDir s [l] = openRecall s (s.devId, l) := by
  simp only [sweepDir, hl, ho, Bool.not_false, Bool.and_self, if_true]

theorem exec_poolCacheFlushComplete_next (q : Fin 4) (s : State) :
    exec (.poolCacheFlushComplete q) s = .next (settle (flushEnds s q)) := by
  rw [exec_poolCacheFlushComplete, execPoolCacheFlushComplete, done_eq]

section
variable {s : State} {q : Nat}

theorem flushEnds_of_idle (h : s.coh.flush.contains q = false) : flushEnds s q = s := by
  simp only [flushEnds, h, Bool.not_false, if_true]

variable (h : s.coh.flush.contains q = true)
include h

theorem flushEnds_of_flushed (hf : flushed s q = true) : flushEnds s q =
    ({ s with coh := { s.coh with flush := s.coh.flush.erase q } }).setBit Reg.HOME_PCFLUSH q false := by
  simp only [flushEnds, h, hf, Bool.not_true, Bool.false_eq_true, if_false, if_true]

theorem flushEnds_of_lines (hf : flushed s q = false) :
    flushEnds s q = flow (flushLines s q (s.coh.pc.map (fun e => e.1))) := by
  simp only [flushEnds, h, hf, Bool.not_true, Bool.false_eq_true, if_false]

end

/-! ### The directory query by register (R132) -/

/-- The query of the line that HOME_DQADDR names, in the state after the write of its high word. -/
def dirQuery (u : State) : Req :=
  mkInternal (takeId u).1 (takeId u).2 .dqry 7 (takeId u).1.devId
    (u.fld Reg.HOME_DQADDRLO 31 6 * 64 + u.fld Reg.HOME_DQADDRHI 13 0 * 2 ^ 32)

/-- HOLD does not delay the query: it enters its home slice past the ingress (R161). -/
theorem exec_directoryQueryRegister_of_allowed {s u : State} {p : Path} {v : Word}
    (h : MayWrite s p Reg.HOME_DQADDRHI) (hu : u = s.setReg Reg.HOME_DQADDRHI (v &&& 0x3FFF#32)) :
    exec (.directoryQueryRegister p v) s = .next (settle (if holding (takeId u).1 then
      enter (takeId u).1 (dirQuery u) else submit (takeId u).1 (dirQuery u))) := by
  subst hu
  rw [exec_directoryQueryRegister, execDirectoryQueryRegister, guardedWrite_of_allowed _ h, done_eq]
  rfl

/-- Settles O40: the timer takes the first of what is past its limit; the other commands act by the state of their sweep, flush
or mode. -/
theorem peerTimersSweepAndFlush : Obligations.PeerTimersSweepAndFlush := by
  unfold Obligations.PeerTimersSweepAndFlush
  refine ⟨?_, ?_, ?_, ?_, ?_, ?_, ?_, ?_, ?_, ?_, ?_, ?_, ?_, ?_, ?_⟩
  · intro s d l t ha h
    rw [exec_e2eTimeout_acts ha, e2eTimeout_of_ask h]
  · intro s d l t ha hask h
    rw [exec_e2eTimeout_acts ha, e2eTimeout_of_snoop hask h]
  · intro s d l m ha hask hsnoop h
    rw [exec_e2eTimeout_acts ha, e2eTimeout_of_move hask hsnoop h]
  · intro s d l ha hask hsnoop hmove h
    rw [exec_e2eTimeout_acts ha, e2eTimeout_of_none hask hsnoop hmove h]
  · intro s d l x ha hask hsnoop hmove h
    rw [exec_e2eTimeout_acts ha, e2eTimeout_of_peerMove hask hsnoop hmove h]
  · intro s d l hn hc
    exact exec_e2eTimeout_waits hn hc
  · rintro s u h rfl
    exact exec_directorySweepEnd_of_sweep h
  · intro s h
    exact exec_directorySweepEnd_of_idle h
  · intro s l hl ho
    exact sweepDir_singleton_of_lost hl ho
  · intro s p v h
    rw [exec_poolCacheFlush, execPoolCacheFlush, guardedWrite_of_allowed _ h, flowDone_eq]
  · intro s q h
    rw [exec_poolCacheFlushComplete_next, flushEnds_of_idle h]
  · intro s q h hf
    rw [exec_poolCacheFlushComplete_next, flushEnds_of_flushed h hf]
  · intro s q h hf
    rw [exec_poolCacheFlushComplete_next, flushEnds_of_lines h hf]
  · rintro s u p v r h hu rfl hh
    rw [exec_directoryQueryRegister_of_allowed h hu, if_pos hh, dirQuery]
  · rintro s u p v r h hu rfl hh
    rw [exec_directoryQueryRegister_of_allowed h hu, if_neg (by simp [hh]), dirQuery]

end Sys2Proof.Proofs
end

section
/-! PROOF. GLX Load Image and the host's program messages (spec/05 R171, R172, R179; spec/06 R223 to R226): ImageLoading. -/

namespace Sys2Proof.Proofs

open Sys2Proof.Machine Sys2Proof.Laws

/-! ### The chunks of an image -/

section
variable {s : State} {m : Issuer}

theorem loadMailbox_of_allowed (f : State → State) (hi : s.inReset = false) (hf : firmwareRuns s = true)
    (hm : mayLoad s m = true) : loadMailbox s m f = f s := by
  rw [loadMailbox, mailbox_of_running _ _ hi hf, if_pos hm]

variable {d : List Byte} (hd : chunkOk d = true)
include hd

theorem loadStart_of_unclaimed (hg : s.sets.staging = none) (hb : fwBusy s = false) : loadStart s m d = reply
    ({ s with sets := { s.sets with staging := some { path := issuerKey m, bytes := d, clock := s.clock, ended := false } }
              sec := { s.sec with staged := none } }.setBit Reg.PAL_FWSTAT 25 false) m rcSuccess [] := by
  simp only [loadStart, hg, hb, hd, Bool.not_true, Bool.false_eq_true, if_false]

variable {g : Staging} (hg : s.sets.staging = some g) (hp : g.path = issuerKey m) (he : g.ended = false)
include hg hp he

/-- A chunk of the path that holds the claim joins the image when it is the next one and fits, and ends the claim otherwise. -/
theorem loadChunk_of_claimed (off : Nat) (body : Staging → State → State) : loadChunk s m off d body =
    if off ≠ g.bytes.length ∨ 0x400000 < off + d.length then reply (endStaging s) m rcInvalid []
    else body { g with bytes := g.bytes ++ d, clock := s.clock } s := by
  have hown : ¬ (g.path ≠ issuerKey m ∨ g.ended = true) := by simp [hp, he]
  simp only [loadChunk, hg, if_neg hown, hd, Bool.not_true, Bool.false_eq_true, if_false]

theorem loadChunk_of_next {off : Nat} (body : Staging → State → State) (ho : off = g.bytes.length)
    (hl : off + d.length ≤ 0x400000) :
    loadChunk s m off d body = body { g with bytes := g.bytes ++ d, clock := s.clock } s :=
  (loadChunk_of_claimed hd hg hp he off body).trans (if_neg (by omega))

theorem loadChunk_of_outOfOrder {off : Nat} (body : Staging → State → State) (ho : off ≠ g.bytes.length) :
    loadChunk s m off d body = reply (endStaging s) m rcInvalid [] :=
  (loadChunk_of_claimed hd hg hp he off body).trans (if_pos (.inl ho))

end

/-! ### The end of the image, the load's completion, the lapse of the claim -/

section
variable {s : State} {g : Staging}

/-- With no background command running, the last chunk starts the load as one (R228). -/
theorem loadEnd_of_idle (m : Issuer) (g : Staging) (hb : s.port.bg = none) : loadEnd s m g = reply
    { { s with port := { s.port with bg := some (issuerKey m, 0xC000) } }.setBit Reg.PAL_LOADSTAT 31 true with
      sets := { s.sets with staging := some { g with ended := true } } } m rcBackground [] := by
  rw [loadEnd, background, if_neg (by simp [hb])]
  rfl

variable (hg : s.sets.staging = some g)
include hg

theorem loadComplete_of_ended {r : Nat} {t u : State} (he : g.ended = true)
    (hr : r = if setArmed s || committed s then 5 else loadResult (imageCheck s false g.bytes))
    (ht : t = { endStaging s with port := { s.port with bg := none } }.setReg Reg.PAL_LOADSTAT
      (BitVec.ofNat 32 (r * 2 ^ 28 + imgCores (imgHdr g.bytes))))
    (hu : u = if r = 0 then imagePlace t g.bytes else raise t Src.imageRejected) :
    loadComplete s = noticeAll u 3 (u.reg Reg.PAL_LOADSTAT).toNat coreList := by
  subst hu ht hr
  simp only [loadComplete, hg, he, Bool.not_true, Bool.false_eq_true, if_false]
  rfl

theorem exec_stagingClaimLapse_acts (ha : ExpiryActs s 1 (some (g.clock + 25000000000))) :
    exec .stagingClaimLapse s = .next (settle (stagingLapse s)) := by
  rw [exec_stagingClaimLapse, execStagingClaimLapse, hg, Option.map_some, secClocks, atDue_acts ha, done_eq]

theorem stagingLapse_of_passed (he : g.ended = false) (ht : g.clock + 25000000000 ≤ s.clock) :
    stagingLapse s = endStaging s := by
  simp only [stagingLapse, hg, he, secClocks, Nat.reduceMul, ht, decide_true, Bool.not_false, Bool.and_self, if_true]

theorem stagingLapse_of_early (ht : s.clock < g.clock + 25000000000) : stagingLapse s = s := by
  simp only [stagingLapse, hg, secClocks, Nat.reduceMul, Nat.not_le.2 ht, decide_false, Bool.and_false, Bool.false_eq_true,
    if_false]

end

/-! ### Program messages -/

/-- A message for a core whose image takes it, with room in its queue, enters the queue and waits for its reply. -/
theorem programMessage_of_taken {s : State} {l : Fin 256} {c : Fin 16} {i : Image} (msg : Line)
    (hi : activeImage s c = some i) (ht : imgHostMsg i.hdr = true) (hq : msgCount (s.core c) < 56) :
    programMessage s (.ld l) c msg =
      { s.setCore c ((s.core c).enqueue (s.clock / CLK)
          { kind := 1, snd := 17, sdev := s.devId, score := 0, spl := false
            data := hostMsgData msg ((ldPort s l).getD 0) l }) with
        sets := { s.sets with msgs := s.sets.msgs ++ [{ core := c, port := (ldPort s l).getD 0, ld := l
                                                        seq := fld msg 15 0
                                                        until_ := s.clock + s.fld Reg.PAL_HMTO 15 0 * 2500 }] } } := by
  simp only [programMessage, hi, ht, Bool.not_true, Bool.false_eq_true, if_false, if_neg (Nat.not_le.2 hq)]
  rfl

theorem messageTimeout_of_due {s : State} {c seq : Nat} {x : HostMsg} (h : messageDue s c seq = some x) :
    messageTimeout s c seq = (State.bump
      { s with sets := { s.sets with msgs := s.sets.msgs.erase x ++ [{ x with timedOut := true }] } }
      Reg.PAL_HMSTAT 15 0).emit (.mailbox (msgIssuer x) rcInternal 1 []) := by
  simp only [messageTimeout, h]

/-- Settles O29: the claim on the staging region decides what a chunk, the completion and the lapse do; the core's image and
queue decide a message. -/
theorem imageLoading : Obligations.ImageLoading := by
  unfold Obligations.ImageLoading
  refine ⟨?_, ?_, ?_, ?_, ?_, ?_, ?_, ?_, ?_⟩
  · intro s m d hi hf hm hg hb hd
    rw [exec_glxLoadImageStart, execGlxLoadImageStart, loadMailbox_of_allowed _ hi hf hm, done_eq,
      loadStart_of_unclaimed hd hg hb]
  · intro s m off d g hi hf hm hg hp he hd ho hl
    rw [exec_glxLoadImageData, execGlxLoadImageData, exec_glxLoadImageEnd, execGlxLoadImageEnd]
    simp only [loadMailbox_of_allowed _ hi hf hm, loadChunk_of_next hd hg hp he _ ho hl, done_eq, and_self]
  · intro s m off d g hi hf hm hg hp he hd ho
    rw [exec_glxLoadImageData, execGlxLoadImageData, exec_glxLoadImageEnd, execGlxLoadImageEnd]
    simp only [loadMailbox_of_allowed _ hi hf hm, loadChunk_of_outOfOrder hd hg hp he _ ho, done_eq, and_self]
  · intro s m g hb
    exact loadEnd_of_idle m g hb
  · intro s g r t u hg he hr ht hu
    rw [exec_imageLoadComplete, execImageLoadComplete, done_eq, loadComplete_of_ended hg he hr ht hu]
  · intro s g hg he ht ha
    rw [exec_stagingClaimLapse_acts hg ha, stagingLapse_of_passed hg he ht, endStaging]
  · intro s g hg ht
    rw [exec_stagingClaimLapse_acts hg (expiryActs_of_early (by rwa [Nat.div_one])), stagingLapse_of_early hg ht]
  · intro s l c msg i hi hf ha ht hq
    rw [exec_glxProgramMessage, execGlxProgramMessage, mailbox_of_running _ _ hi hf, done_eq,
      programMessage_of_taken msg ha ht hq]
  · intro s c q x hx ha
    have hdue : messageDue s c q = some x := hx
    rw [exec_hostMessageTimeout, execHostMessageTimeout, hdue, Option.map_some, atDue_acts ha, done_eq,
      messageTimeout_of_due hdue]

end Sys2Proof.Proofs
end

section
/-! PROOF. Arming, aborting, committing and swapping a configuration set (spec/05 R184, R187, R188, R194):
ConfigurationSets. -/

namespace Sys2Proof.Proofs

open Sys2Proof.Machine Sys2Proof.Laws

/-! ### Arming and aborting -/

section
variable {s : State}

/-- A write of PAL_SETCMD with its key armed consumes the key and carries out its code. -/
theorem setCmd_of_armed {p : Path} (v : Word) (h : MayWriteGk s p Reg.PAL_SETCMD) :
    setCmd p v s = wrSetCmd v (disarm s p) := guardedWrite_of_armed _ h

theorem armSet_of_armed (h : setArmed s = true) : armSet s = (s, 1) := if_pos h

theorem armSet_of_failed {k n t : Nat} (h : setArmed s = false) (hm : isMaster s = false)
    (hc : armChecks s = some (k, n, t)) : armSet s =
      (setLast ((s.setReg Reg.PAL_ARMERR (BitVec.ofNat 32 (k * 2 ^ 20 + n * 2 ^ 16 + t * 2 ^ 8))).hwBit
        Reg.PAL_ARMERR 31) 4, 2) := by
  simp only [armSet, h, hm, Bool.false_and, Bool.false_eq_true, if_false, hc]

theorem isMaster_of_standalone (h : role s = 0) : isMaster s = false := by
  rw [isMaster, h]
  rfl

theorem inPool_of_standalone (h : role s = 0) : inPool s = false := by
  rw [inPool, h]
  rfl

theorem role_setBit_setStat (s : State) (i : Nat) (b : Bool) : role (s.setBit Reg.PAL_SETSTAT i b) = role s :=
  fld_setBit_other s i b 31 29 (by decide)

/-- A standalone device that passes the checks tells no one that it armed. -/
theorem armSet_of_standalone (h : setArmed s = false) (hr : role s = 0) (hc : armChecks s = none) :
    armSet s = (s.setBit Reg.PAL_SETSTAT 31 true, 0) := by
  have hr' : role (s.setBit Reg.PAL_SETSTAT 31 true) = 0 := (role_setBit_setStat s 31 true).trans hr
  simp only [armSet, h, isMaster_of_standalone hr, Bool.false_and, Bool.false_eq_true, if_false, hc,
    isMaster_of_standalone hr', inPool_of_standalone hr']

theorem abortSet_of_committed (h : committed s = true) : abortSet s = (s, 2) := if_pos h

variable (hc : committed s = false)
include hc

theorem abortSet_of_unarmed (h : setArmed s = false) : abortSet s = (s, 1) := by
  simp only [abortSet, hc, h, Bool.not_false, Bool.false_eq_true, if_false, if_true]

theorem abortSet_of_armed (h : setArmed s = true) : abortSet s =
    (noticeAll (setLast (s.setBit Reg.PAL_SETSTAT 31 false) 2) 2 0 coreList, 0) := by
  simp only [abortSet, hc, h, Bool.not_true, Bool.false_eq_true, if_false]

/-! ### The commit of a standalone device, and the swap at its tide -/

/-- An armed set of a device outside a pool is committed for a tide far enough ahead, and stays armed for a closer one. -/
theorem localCommit_of_armed {t : Nat} (h : setArmed s = true) (hp : inPool s = false)
    (ht : t = (s.reg Reg.PAL_COMMITLO).toNat + 2 ^ 32 * (s.reg Reg.PAL_COMMITHI).toNat) :
    localCommit s = if s.tide + 40000 ≤ t then markCommitted s t else s := by
  subst ht
  simp only [localCommit, h, hc, hp, Bool.not_false, Bool.and_self, Bool.true_and, decide_eq_true_eq]

end

section
variable {s : State}

theorem commitFollow_of_committed (hc : committed s = true) (ht : s.sets.commitTide ≤ s.tide) :
    commitFollow s = atCommitTide s :=
  if_pos (by simp [commitDue, hc, ht])

theorem commitFollow_of_early (ht : s.tide < s.sets.commitTide) : commitFollow s = s :=
  if_neg (by simp [commitDue, Nat.not_le.2 ht])

/-! ### The master's arm wait -/

theorem exec_armWaitTimeout_acts (ha : ExpiryActs s 1 (s.pool.armFrom.map fun c => c + 10 * msClocks)) :
    exec .armWaitTimeout s = .next (settle (armWaitEnd s)) := by
  rw [exec_armWaitTimeout, execArmWaitTimeout, atDue_acts ha, done_eq]

theorem armWaitEnd_of_missing {c : Nat} (hw : s.pool.armFrom = some c) (hm : isMaster s = true)
    (ht : c + 25000000 ≤ s.clock) (hn : s.pool.commitT = none) : armWaitEnd s =
      (abortSet (poolSendAll { s with pool := { s.pool with armed := [], armFrom := none } } 0x0E
        (tideGen s.tide (shadowGen s)) (members s))).1 := by
  simp only [armWaitEnd, hw, hm, msClocks, Nat.reduceMul, ht, decide_true, hn, Option.isNone_none, Bool.and_self, if_true]
  rfl

theorem armWaitEnd_of_noWait (hw : s.pool.armFrom = none) : armWaitEnd s = s := by
  simp only [armWaitEnd, hw]

/-! ### FINAL -/

/-- A deadline in tides that lies ahead of the present tide is not put off. -/
theorem tideExpiryActs_of_early {t : Nat} (h : s.tide < t) : TideExpiryActs s (some t) := by
  simp [TideExpiryActs, (Nat.ne_of_lt h).symm]

variable {t : Nat} (hT : s.pool.commitT = some t)
include hT

theorem exec_finalSend_acts (ha : TideExpiryActs s (some (t - 10000))) :
    exec .finalSend s = .next (settle (finalSend s)) := by
  rw [exec_finalSend, execFinalSend, hT, Option.map_some, atTide_acts ha, done_eq]

theorem finalSend_of_reached (hm : isMaster s = true) (hf : s.pool.finalSent = false) (ht : t ≤ s.tide + 10000) :
    finalSend s = sendFinal { s with pool := { s.pool with finalSent := true } } t (unacked s) := by
  simp only [finalSend, hT, hm, hf, decide_eq_true ht, Bool.not_false, Bool.and_self, if_true]

theorem finalSend_of_early (ht : s.tide + 10000 < t) : finalSend s = s := by
  simp only [finalSend, hT, decide_eq_false (Nat.not_le.2 ht), Bool.and_false, Bool.false_eq_true, if_false]

end

/-- Settles O31: what is armed, committed and in a pool decides each command; the tide or the clock decides the timers. -/
theorem configurationSets : Obligations.ConfigurationSets := by
  unfold Obligations.ConfigurationSets
  refine ⟨?_, ?_, ?_, ?_, ?_, ?_, ?_, ?_, ?_, ?_, ?_, ?_, ?_, ?_⟩
  · intro s p h
    rw [exec_setArm, execSetArm, exec_setAbort, execSetAbort, exec_localCommit, execLocalCommit, setCmd_of_armed _ h,
      setCmd_of_armed _ h, setCmd_of_armed _ h]
    exact ⟨rfl, rfl, rfl⟩
  · intro s h
    exact armSet_of_armed h
  · intro s k n t h hm hc
    exact armSet_of_failed h hm hc
  · intro s h hr hc
    exact armSet_of_standalone h hr hc
  · intro s hc
    exact abortSet_of_committed hc
  · intro s hc h
    exact abortSet_of_unarmed hc h
  · intro s hc h
    exact abortSet_of_armed hc h
  · intro s t h hc hp ht
    rw [localCommit_of_armed hc h hp ht]
    exact ⟨fun hle => if_pos hle, fun hlt => if_neg (Nat.not_le.2 hlt)⟩
  · intro s hc ht
    rw [exec_configSetSwap, execConfigSetSwap, done_eq, commitFollow_of_committed hc ht]
  · intro s ht
    rw [exec_configSetSwap, execConfigSetSwap, done_eq, commitFollow_of_early ht]
  · intro s c ha hw hm ht hn
    rw [exec_armWaitTimeout_acts (by rw [hw]; exact ha), armWaitEnd_of_missing hw hm ht hn]
  · intro s hw
    rw [exec_armWaitTimeout_acts (by simp [hw]), armWaitEnd_of_noWait hw]
  · intro s t ha hT hm hf ht
    rw [exec_finalSend_acts hT ha, finalSend_of_reached hT hm hf ht]
  · intro s t hT ht
    rw [exec_finalSend_acts hT (tideExpiryActs_of_early (Nat.lt_sub_of_add_lt ht)), finalSend_of_early hT ht]

end Sys2Proof.Proofs
end

section
/-! PROOF. Port resets, PERST_N, links, viral, configuration requests and logical-device counts (spec/06 R196 to R207, R230 to
R233; spec/03 R70, R86, R87): HostPorts. -/

namespace Sys2Proof.Proofs

open Sys2Proof.Machine Sys2Proof.Laws

/-- Bifurcated port 4 × n + k belongs to port n. -/
theorem portOf_sub (n : Nat) (k : Fin 4) : (4 * n + k.val) / 4 = n := by omega

/-! ### What HPX_STAT and a bifurcated port's own state leave as it was -/

section
variable {s : State}

/-- No register is HPX_STAT of a port whose offset differs in its low half. -/
theorem ne_hpxStat {off : Nat} (n : Nat) (h : off % 0x10000 ≠ 0) : off ≠ Reg.HPX_STAT n := by
  simp only [Reg.HPX_STAT]
  omega

theorem reg_setPortStat_ne {off : Nat} (p l w r : Nat) (h : off % 0x10000 ≠ 0) :
    (setPortStat s p l w r).reg off = s.reg off := reg_setF_ne s _ _ _ (ne_hpxStat _ h)

/-- The mode and firmware's running rest on the registers of the modes, the READY bits and the boot, and on RESET_N. -/
theorem code_congr {t : State} (h : t.reg Reg.GEN_MODE = s.reg Reg.GEN_MODE) : t.code = s.code := by
  simp only [State.code, State.fld, h]

theorem firmwareRuns_congr {t : State} (hm : t.reg Reg.GEN_MODE = s.reg Reg.GEN_MODE)
    (hr : t.reg Reg.RDY_5 = s.reg Reg.RDY_5) (hb : t.reg Reg.SEC_BOOTSTAT = s.reg Reg.SEC_BOOTSTAT)
    (hi : t.mode = s.mode) : firmwareRuns t = firmwareRuns s := by
  have hready : readyCore t 0 = readyCore s 0 := congrArg (fun w : Word => bit w 0) hr
  simp only [firmwareRuns, hready, recovering, code_congr hm, State.bit, hb, State.inReset, hi]

/-- The new status and width of a link that trains leave the mode and firmware's running as they were. -/
theorem code_linkUp (p w r : Nat) (v : SubPort) : ((setPortStat s p 2 w r).setSubp p v).code = s.code :=
  code_congr (reg_setPortStat_ne p 2 w r (by decide))

theorem firmwareRuns_linkUp (p w r : Nat) (v : SubPort) :
    firmwareRuns ((setPortStat s p 2 w r).setSubp p v) = firmwareRuns s :=
  firmwareRuns_congr (reg_setPortStat_ne p 2 w r (by decide)) (reg_setPortStat_ne p 2 w r (by decide))
    (reg_setPortStat_ne p 2 w r (by decide)) rfl

end

/-! ### PERST_N (R86, R87, R202, R231) -/

section
variable {s : State}

/-- PERST_N of a port that the mode in force does not have only falls. -/
theorem portReset_perst_of_absent {n : Fin 16} {k : Fin 4} (h : subCount s n.val ≤ k.val) :
    portReset s (.perst n k) =
      s.setSubp (4 * n.val + k.val) { s.subp (4 * n.val + k.val) with perst := false } := if_pos h

variable {p : Nat} (hp : (s.subp p).perst = false)
include hp

/-- A release while the device is held in reset, or before OTP has been read, is noted. -/
theorem perstRelease_of_early (h : s.inReset = true ∨ s.wipe.keysDone = false) :
    perstRelease s p = s.setSubp p { s.subp p with perst := true, owed := true } := by
  have hearly : (s.inReset || !s.wipe.keysDone) = true := by simpa using h
  unfold perstRelease
  rw [if_neg (by simp [hp])]
  exact if_pos hearly

theorem perstRelease_of_otpRead (hi : s.inReset = false) (hk : s.wipe.keysDone = true) :
    perstRelease s p = portStart (s.setSubp p { s.subp p with perst := true, owed := true }) p := by
  have hlate : ¬ (s.inReset || !s.wipe.keysDone) = true := by simp [hi, hk]
  unfold perstRelease
  rw [if_neg (by simp [hp])]
  exact if_neg hlate

end

/-! ### Links and viral (R87, R196, R230, R233) -/

section
variable {s : State} {p w r : Nat}

/-- A link that was down and trains while firmware runs makes its port READY (R87). -/
theorem linkTrained_of_down (f : Bool) (hm : linkMayTrain s p = true) (hw : w ≤ portWidth s (p / 4))
    (hd : portState s p < 2) (hf : firmwareRuns s = true) (hc : s.code ≠ Mode.boot) (hi : (s.subp p).isolated = false) :
    linkTrained s p w r f = setReadySub ((setPortStat s p 2 w r).setSubp p
      { s.subp p with width := w, flit256 := f || decide (r = 5) }) p true := by
  have hsubp : (setPortStat s p 2 w r).subp p = s.subp p := rfl
  simp only [linkTrained, hm, decide_eq_true hw, decide_eq_false (Nat.not_le.2 hd), Bool.false_and, Bool.false_eq_true,
    Bool.and_self, if_true, if_false, hsubp, firmwareRuns_linkUp, code_linkUp, hf, decide_eq_true hc, subp_setSubp_same, hi,
    Bool.not_false]

theorem linkTrained_of_barred (f : Bool) (h : linkMayTrain s p = false ∨ portWidth s (p / 4) < w) :
    linkTrained s p w r f = s := by
  refine if_neg ?_
  rcases h with h | h
  · simp [h]
  · simp [Nat.not_le.2 h]

/-- An L0p change acts on a trained link of a device out of reset only. -/
theorem linkL0p_of_down (h : s.inReset = true ∨ portState s p < 2) : linkL0p s p w = s := if_pos (by simpa using h)

theorem linkL0p_of_allowed (hi : s.inReset = false) (hu : 2 ≤ portState s p)
    (hw : (s.subp p).width = w ∨ (s.bit (Reg.HPX_L0P (p / 4)) 3 = true ∧ s.fld (Reg.HPX_L0P (p / 4)) 2 0 ≤ w ∧
      w ≤ (s.subp p).width)) :
    linkL0p s p w = setPortStat s p (if w = (s.subp p).width then 2 else 3) w (portRate s p) := by
  have hup : ¬ (s.inReset || decide (portState s p < 2)) = true := by simp [hi, Nat.not_lt.2 hu]
  unfold linkL0p
  rw [if_neg hup]
  exact if_pos (hw.imp_left Eq.symm)

theorem linkDown_of_up (hi : s.inReset = false) (hu : 2 ≤ portState s p) : linkDown s p =
    raiseHost (setReadySub (setPortStat s p 0 0 0) p false) (p / 4) 0 (portInfo p) := if_pos (by simp [hi, hu])

theorem viralIn_of_up (hi : s.inReset = false) (hu : 2 ≤ portState s p) : viralIn s p =
    raiseHost ((s.setSubp p { s.subp p with viral := true }).setBit (Reg.HPX_ERRCTL (p / 4)) 0 true) (p / 4) 13
      (portInfo p) := if_pos (by simp [hi, hu])

variable (h : s.inReset = true ∨ portState s p < 2)
include h

/-- The link is not up on a device out of reset. -/
theorem not_linkUp : ¬ (!s.inReset && decide (2 ≤ portState s p)) = true := by
  rcases h with h | h
  · simp [h]
  · simp [h]

theorem linkDown_of_down : linkDown s p = s := if_neg (not_linkUp h)

theorem viralIn_of_down : viralIn s p = s := if_neg (not_linkUp h)

end

/-! ### Configuration requests (R70, R197, R198, R206, R207) -/

section
variable {s : State} {l p : Nat}

theorem configRequest_of_noPort (q : CfgReq) (hp : ldPort s l = none) : configRequest s l q = s := by
  simp only [configRequest, hp]

variable (hp : ldPort s l = some p) (hi : s.inReset = false) (hr : (s.subp p).perst = true)
include hp hi hr

theorem configRequest_of_boot (q : CfgReq) (hb : s.code = Mode.boot) :
    configRequest s l q = s.emit (.config l none) := by
  simp only [configRequest, hp, hi, hr, hb, Bool.not_true, Bool.or_self, Bool.false_eq_true, if_false, if_true]

variable (hb : s.code ≠ Mode.boot)
include hb

theorem configRequest_read (a : Nat) : configRequest s l (.read a) =
    s.draw.emit (.config l (some (Config.freeNat s.fresh))) := by
  simp only [configRequest, hp, hi, hr, hb, Bool.not_true, Bool.or_self, Bool.false_eq_true, if_false]

theorem configRequest_cdat : configRequest s l .cdat = s.emit (cdatOf s l p) := by
  simp only [configRequest, hp, hi, hr, hb, Bool.not_true, Bool.or_self, Bool.false_eq_true, if_false]

theorem configRequest_readDecoder (i : Fin 4) : configRequest s l (.readDecoder i) =
    s.emit (.decoder l (smGet none (s.logDev l).decs i)) := by
  simp only [configRequest, hp, hi, hr, hb, Bool.not_true, Bool.or_self, Bool.false_eq_true, if_false]

theorem configRequest_readBi : configRequest s l .readBi =
    s.emit (.biDecoder l (s.subp p).flit256 ((s.subp p).flit256 && (s.logDev l).bi)) := by
  simp only [configRequest, hp, hi, hr, hb, Bool.not_true, Bool.or_self, Bool.false_eq_true, if_false]

theorem configRequest_enumerate : configRequest s l .enumerate =
    (s.setLogDev l { s.logDev l with enumerated := true }).emit (.config l (some 0)) := by
  simp only [configRequest, hp, hi, hr, hb, Bool.not_true, Bool.or_self, Bool.false_eq_true, if_false]

theorem configRequest_uncommit (i : Fin 4) : configRequest s l (.uncommit i) =
    (setDecoder s l i none).emit (.config l (some 0)) := by
  simp only [configRequest, hp, hi, hr, hb, Bool.not_true, Bool.or_self, Bool.false_eq_true, if_false]

/-- A decoder is committed when the port supports it, and refused otherwise (R197, R198). -/
theorem configRequest_commit (i : Fin 4) (b z k y g : Nat) (x : Bool) : configRequest s l (.commit i b z k y g x) =
    if decoderOk y g && (x || (s.subp p).flit256) then (setDecoder s l i (some
      { base := b, size := z, skip := k, ways := y, gran := g, hdmh := x })).emit (.config l (some 0))
    else s.emit (.config l (some 1)) := by
  simp only [configRequest, hp, hi, hr, hb, Bool.not_true, Bool.or_self, Bool.false_eq_true, if_false]

/-- BI can be enabled in 256 B flit mode only (R198). -/
theorem configRequest_bi (x : Bool) : configRequest s l (.bi x) =
    if x && !(s.subp p).flit256 then s.emit (.config l (some 1))
    else (s.setLogDev l { s.logDev l with bi := x }).emit (.config l (some 0)) := by
  simp only [configRequest, hp, hi, hr, hb, Bool.not_true, Bool.or_self, Bool.false_eq_true, if_false]

end

/-! ### Logical-device counts (R204) -/

section
variable {s : State} {n : Nat} {v : Word}

theorem wrLdcnt_of_fitting (hs : ldCount v 0 + ldCount v 1 + ldCount v 2 + ldCount v 3 ≤ 16)
    (hk : [1, 2, 3].all (fun k => decide (k < subCount s n ∨ ldCount v k = 0)) = true) :
    wrLdcnt s n v = s.setReg (Reg.HPX_LDCNT n) (v &&& 0x1F1F1F1F#32) := by
  have hnone : ¬ [1, 2, 3].any (fun k => decide (subCount s n ≤ k ∧ ldCount v k ≠ 0)) = true := by
    simp only [List.any_eq_true, decide_eq_true_eq, not_exists, not_and, List.all_eq_true] at hk ⊢
    intro k hmem hle
    exact (hk k hmem).elim (fun hlt => absurd hlt (Nat.not_lt.2 hle)) not_not_intro
  unfold wrLdcnt
  rw [if_neg (Nat.not_lt.2 hs)]
  exact if_neg hnone

theorem wrLdcnt_of_unfitting (h : 16 < ldCount v 0 + ldCount v 1 + ldCount v 2 + ldCount v 3 ∨
    [1, 2, 3].any (fun k => decide (subCount s n ≤ k ∧ ldCount v k ≠ 0)) = true) : wrLdcnt s n v = s := by
  unfold wrLdcnt
  rcases h with h | h
  · exact if_pos h
  · exact (ite_congr rfl (fun _ => rfl) (fun _ => if_pos h)).trans (ite_self s)

end

/-! ### The commands, through what they come to -/

section
variable {s : State} {n : Fin 16} {k : Fin 4}

theorem exec_hostLinkTrained_flit68 (w : Fin 5) (r : Fin 6) : exec (.hostLinkTrained n k w (r, .flit68)) s =
    .next (settle (linkTrained s (4 * n.val + k.val) w r false)) := by
  rw [exec_hostLinkTrained, execHostLinkTrained, done_eq]

theorem exec_hostLinkTrained_flit256 (w : Fin 5) (r : Fin 6) : exec (.hostLinkTrained n k w (r, .flit256)) s =
    .next (settle (linkTrained s (4 * n.val + k.val) w r true)) := by
  rw [exec_hostLinkTrained, execHostLinkTrained, done_eq]

theorem exec_hostLinkTrained_l0p (w : Fin 5) (r : Fin 6) : exec (.hostLinkTrained n k w (r, .l0p)) s =
    .next (settle (linkL0p s (4 * n.val + k.val) w)) := by
  rw [exec_hostLinkTrained, execHostLinkTrained, done_eq]

theorem exec_hostLinkDown_next : exec (.hostLinkDown n k) s = .next (settle (linkDown s (4 * n.val + k.val))) := by
  rw [exec_hostLinkDown, execHostLinkDown, done_eq]

theorem exec_viralReceived_next : exec (.viralReceived n k) s = .next (settle (viralIn s (4 * n.val + k.val))) := by
  rw [exec_viralReceived, execViralReceived, done_eq]

theorem exec_perstRelease_next :
    exec (.perstRelease n k) s = .next (settle (flow (perstRelease s (4 * n.val + k.val)))) := by
  rw [exec_perstRelease, execPerstRelease, flowDone_eq]

theorem exec_portReset_next (w : PortReset) : exec (.portReset w) s = .next (settle (portReset s w)) := by
  rw [exec_portReset, execPortReset, done_eq]

theorem exec_cxlIoConfigRequest_next {l : Fin 256} {q : CfgReq} :
    exec (.cxlIoConfigRequest l q) s = .next (settle (configRequest s l q)) := by
  rw [exec_cxlIoConfigRequest, execCxlIoConfigRequest, done_eq]

theorem exec_hpxLdcntWrite_of_allowed {p : Path} {v : Word} (h : MayWrite s p (Reg.HPX_LDCNT n)) :
    exec (.hpxLdcntWrite p n v) s = .next (settle (wrLdcnt s n v)) := by
  rw [exec_hpxLdcntWrite, execHpxLdcntWrite, done_eq, guardedWrite_of_allowed _ h]

end

/-- Settles O34: PERST_N, the link's state and the function's port decide each command; a link that trains leaves mode and
firmware as they were, so its port is READY at once. -/
theorem hostPorts : Obligations.HostPorts := by
  unfold Obligations.HostPorts
  refine ⟨?_, ?_, ?_, ?_, ?_, ?_, ?_, ?_, ?_, ?_, ?_, ?_, ?_, ?_, ?_, ?_, ?_, ?_, ?_, ?_, ?_, ?_, ?_, ?_, ?_, ?_, ?_⟩
  · intro s l
    rw [exec_portReset_next, portReset]
  · intro s n k h
    rw [exec_portReset_next, portReset_perst_of_absent h]
  · rintro s u t n k h rfl rfl
    rw [exec_portReset_next, portReset, if_neg (Nat.not_le.2 h)]
    rfl
  · intro s n k hp h
    rw [exec_perstRelease_next, perstRelease_of_early hp h]
  · intro s n k hp hi hk
    rw [exec_perstRelease_next, perstRelease_of_otpRead hp hi hk]
  · intro s n k w r hm hw hd hf hc hi
    rw [exec_hostLinkTrained_flit68, linkTrained_of_down false hm (by rwa [portOf_sub]) hd hf hc hi, Bool.false_or]
  · intro s n k w r hm hw hd hf hc hi
    rw [exec_hostLinkTrained_flit256, linkTrained_of_down true hm (by rwa [portOf_sub]) hd hf hc hi, Bool.true_or]
  · intro s n k w r h
    rw [exec_hostLinkTrained_l0p, linkL0p_of_down h]
  · intro s n k w r hi hu hw
    rw [exec_hostLinkTrained_l0p, linkL0p_of_allowed hi hu (by rwa [portOf_sub])]
  · intro s n k w r h
    have hbar : linkMayTrain s (4 * n.val + k.val) = false ∨ portWidth s ((4 * n.val + k.val) / 4) < w.val := by
      rwa [portOf_sub]
    rw [exec_hostLinkTrained_flit68, exec_hostLinkTrained_flit256, linkTrained_of_barred _ hbar, linkTrained_of_barred _ hbar]
    exact ⟨rfl, rfl⟩
  · intro s n k hi hu
    rw [exec_hostLinkDown_next, linkDown_of_up hi hu, portOf_sub]
  · intro s n k hi hu
    rw [exec_viralReceived_next, viralIn_of_up hi hu, portOf_sub]
  · intro s n k h
    rw [exec_hostLinkDown_next, linkDown_of_down h, exec_viralReceived_next, viralIn_of_down h]
    exact ⟨rfl, rfl⟩
  · intro s l p q hp hi hr hb
    rw [exec_cxlIoConfigRequest_next, configRequest_of_boot hp hi hr q hb]
  · intro s l q hp
    rw [exec_cxlIoConfigRequest_next, configRequest_of_noPort q hp]
  · intro s l p a hp hi hr hb
    rw [exec_cxlIoConfigRequest_next, configRequest_read hp hi hr hb]
  · intro s l p hp hi hr hb
    rw [exec_cxlIoConfigRequest_next, configRequest_enumerate hp hi hr hb]
  · intro s l p i b z k y g x hp hi hr hb hok
    rw [exec_cxlIoConfigRequest_next, configRequest_commit hp hi hr hb, if_pos hok]
  · intro s l p i b z k y g x hp hi hr hb hok
    rw [exec_cxlIoConfigRequest_next, configRequest_commit hp hi hr hb, if_neg (Bool.eq_false_iff.1 hok)]
  · intro s l p i hp hi hr hb
    rw [exec_cxlIoConfigRequest_next, configRequest_uncommit hp hi hr hb]
  · intro s l p x hp hi hr hb hx
    rw [exec_cxlIoConfigRequest_next, configRequest_bi hp hi hr hb, if_neg (Bool.eq_false_iff.1 hx)]
  · intro s l p x hp hi hr hb hx
    rw [exec_cxlIoConfigRequest_next, configRequest_bi hp hi hr hb, if_pos hx]
  · intro s l p hp hi hr hb
    rw [exec_cxlIoConfigRequest_next, configRequest_cdat hp hi hr hb]
  · intro s l p i hp hi hr hb
    rw [exec_cxlIoConfigRequest_next, configRequest_readDecoder hp hi hr hb]
  · intro s l p hp hi hr hb
    rw [exec_cxlIoConfigRequest_next, configRequest_readBi hp hi hr hb]
  · intro s p n v h hs hk
    rw [exec_hpxLdcntWrite_of_allowed h, wrLdcnt_of_fitting hs hk]
  · intro s p n v h hu
    rw [exec_hpxLdcntWrite_of_allowed h, wrLdcnt_of_unfitting hu]

end Sys2Proof.Proofs
end

section
/-! PROOF. Snoops, the answers of holders and the grants of homes (spec/10 R360 to R370, R374; spec/05 R189):
SnoopsAnswersAndGrants. -/

namespace Sys2Proof.Proofs

open Sys2Proof.Machine Sys2Proof.Laws

/-! ### Work under the configuration set of its taking (R189) -/

theorem underSet_of_old {s : State} {n : Nat} {o : OldSet} (g : State → State) (hn : n ≠ s.sets.swaps)
    (ho : s.sets.olds.find? (fun x => decide (x.num = n)) = some o) :
    underSet s n g = putSet (g (putSet s o)) (activeSet s) := by
  simp only [underSet, if_neg hn, ho]

/-! ### Snoops at a holder (R362, R363, R375) -/

section
variable {s : State} {f : Frame} {t : Txn}

theorem snoop_of_free (inv : Bool) (h : openOn (dropTaken s f) f = none) :
    snoop s f inv = openSnoop (dropTaken s f) f (takenSet s f) := by
  simp only [snoop, h]

variable (h : openOn (dropTaken s f) f = some t)
include h

/-- The open transaction of the line holds the snoop with it, unless it has asked for UPG (3) and the snoop invalidates. -/
theorem snoop_of_open (inv : Bool) :
    snoop s f inv = if (t.ask.map (fun a => a.1)).getD 0 = 3 ∧ inv = true then
      openSnoop (dropTaken s f) f (takenSet s f)
    else putTxn (dropTaken s f) { t with held := t.held ++ [(f, takenSet s f)] } := by
  simp only [snoop, h]
  cases t.ask with
  | none => rfl
  | some a => simp

theorem snoop_of_openHeld :
    snoop s f false = putTxn (dropTaken s f) { t with held := t.held ++ [(f, takenSet s f)] } := by
  rw [snoop_of_open h, if_neg (fun hc => Bool.noConfusion hc.2)]

/-- UPG crossed by SNPI is invalidated at once (R374). -/
theorem snoop_of_upgrade (ha : (t.ask.map (fun a => a.1)).getD 0 = 3) :
    snoop s f true = openSnoop (dropTaken s f) f (takenSet s f) := by
  rw [snoop_of_open h, if_pos ⟨ha, rfl⟩]

theorem snoop_of_noUpgrade (ha : (t.ask.map (fun a => a.1)).getD 0 ≠ 3) :
    snoop s f true = putTxn (dropTaken s f) { t with held := t.held ++ [(f, takenSet s f)] } := by
  rw [snoop_of_open h, if_neg (fun hc => ha hc.1)]

end

/-! ### Answers at the home (R366, R369, R370, R374) -/

section
variable {s : State} {f : Frame} {t : Txn} (act : State → Txn → State × Txn)

theorem answer_of_awaited (hn : TakenNow s f) (h : answered (dropTaken s f) f = some t) :
    answer s f act = putTxn (act (dropTaken s f) { t with peers := t.peers.erase (f.line * 64, f.src) }).1
      (act (dropTaken s f) { t with peers := t.peers.erase (f.line * 64, f.src) }).2 := by
  simp only [answer, underSet_of_active _ hn, h]

theorem answer_of_unmatched (hn : TakenNow s f) (h : answered (dropTaken s f) f = none) :
    answer s f act = unmatched (dropTaken s f) f := by
  simp only [answer, underSet_of_active _ hn, h]

theorem answer_of_awaitedUnder {o : OldSet} (ho : TakenUnder s f o)
    (h : answered (dropTaken (putSet s o) f) f = some t) :
    answer s f act = putSet
      (putTxn (act (dropTaken (putSet s o) f) { t with peers := t.peers.erase (f.line * 64, f.src) }).1
        (act (dropTaken (putSet s o) f) { t with peers := t.peers.erase (f.line * 64, f.src) }).2) (activeSet s) := by
  simp only [answer, underSet_of_old _ ho.1 ho.2, h]

end

@[simp] theorem keep_true (t : Txn) (f : Frame) : keep t f true = { t with kept := t.kept ++ [(f.line * 64, 16)] } := rfl

@[simp] theorem keep_false (t : Txn) (f : Frame) : keep t f false = t := rfl

/-! ### Grants at the requester (R360, R364) -/

/-- The request of a granted transaction goes on: the recalls of its line begin. -/
def recalled (s : State) (t : Txn) : State :=
  putTxn (recallLine s { t with ask := none, phase := .recall } t.req.line).1
    (recallLine s { t with ask := none, phase := .recall } t.req.line).2

/-- The pool cache's entry of a granted line, with the data that the grant carries. -/
def filledLine (s : State) (f : Frame) (t : Txn) : PcLine :=
  { pcGet s t.req.dev t.req.line with data := f.data, pois := decide (128 ≤ f.opcode), lc := madeCheck f.data }

section
variable {s : State} {f : Frame} {t : Txn}

theorem grantArrives_of_unmatched (fill : Option Nat) (gnte : Bool) (hn : TakenNow s f)
    (h : granted (dropTaken s f) f = none) : grantArrives s f fill gnte = unmatched (dropTaken s f) f := by
  simp only [grantArrives, underSet_of_active _ hn, h]

/-- DATC is answered with its data and fills nothing, under an older set too. -/
theorem grantArrives_datc_under {o : OldSet} (ho : TakenUnder s f o) (h : granted (dropTaken (putSet s o) f) f = some t) :
    grantArrives s f none false = putSet (recalled (dropTaken (putSet s o) f)
      { t with ans := some (f.data, decide (128 ≤ f.opcode)) }) (activeSet s) := by
  simp only [grantArrives, underSet_of_old _ ho.1 ho.2, h]
  rfl

variable (hn : TakenNow s f) (h : granted (dropTaken s f) f = some t)
include hn h

/-- Filled with `k` (1 S, 2 E), the line keeps the tag it has. -/
theorem grantArrives_fill {k : Nat} (hk : k ≠ 3) (gnte : Bool) : grantArrives s f (some k) gnte =
    recalled (pcPut (dropTaken s f) t.req.dev t.req.line { filledLine (dropTaken s f) f t with pstate := k }) t := by
  simp only [grantArrives, underSet_of_active _ hn, h, if_neg hk]
  rfl

/-- Filled in M (3), the line takes the tag of the request. -/
theorem grantArrives_fillModified (gnte : Bool) : grantArrives s f (some 3) gnte =
    recalled (pcPut (dropTaken s f) t.req.dev t.req.line
      { filledLine (dropTaken s f) f t with pstate := 3, wtag := t.req.tag }) t := by
  simp only [grantArrives, underSet_of_active _ hn, h]
  rfl

/-- GNTE makes the line E and leaves it its data. -/
theorem grantArrives_gnte : grantArrives s f none true =
    recalled (pcPut (dropTaken s f) t.req.dev t.req.line { pcGet (dropTaken s f) t.req.dev t.req.line with pstate := 2 }) t := by
  simp only [grantArrives, underSet_of_active _ hn, h]
  rfl

theorem grantArrives_datc : grantArrives s f none false =
    recalled (dropTaken s f) { t with ans := some (f.data, decide (128 ≤ f.opcode)) } := by
  simp only [grantArrives, underSet_of_active _ hn, h]
  rfl

end

/-! ### The commands of these frames -/

section
variable (s : State) (f : Frame)

theorem exec_snpi_next : exec (.snpi f) s = .next (settle (flow (snoop s f true))) := by
  rw [exec_snpi, execSnpi, flowDone_eq]

/-- SNPS, FWDS and FWDO arrive alike: an open transaction holds each of them. -/
theorem exec_heldSnoop_next : exec (.snps f) s = .next (settle (flow (snoop s f false))) ∧
    exec (.fwds f) s = .next (settle (flow (snoop s f false))) ∧
    exec (.fwdo f) s = .next (settle (flow (snoop s f false))) := by
  rw [exec_snps, execSnps, exec_fwds, execFwds, exec_fwdo, execFwdo, flowDone_eq]
  exact ⟨rfl, rfl, rfl⟩

end

/-- Settles O39: whether the line is open, or which transaction the frame names, decides each frame's work; the set under
which it was taken is put in force for it. -/
theorem snoopsAnswersAndGrants : Obligations.SnoopsAnswersAndGrants := by
  unfold Obligations.SnoopsAnswersAndGrants
  refine ⟨?_, ?_, ?_, ?_, ?_, ?_, ?_, ?_, ?_, ?_, ?_, ?_, ?_, ?_, ?_, ?_, ?_, ?_, ?_, ?_, ?_⟩
  · rintro s _ f rfl h
    rw [← snoop_of_free false h]
    exact ⟨by rw [exec_snpi_next, snoop_of_free true h, snoop_of_free false h], exec_heldSnoop_next s f⟩
  · rintro s _ f t rfl h
    rw [← snoop_of_openHeld h]
    exact exec_heldSnoop_next s f
  · rintro s _ f t c rfl h ha
    rw [exec_snpi_next, snoop_of_upgrade h (by rw [ha]; rfl)]
  · rintro s _ f t rfl h ha
    rw [exec_snpi_next, snoop_of_noUpgrade h ha]
  · rintro s _ f t hn rfl h
    rw [exec_rspi, execRspi, flowDone_eq, answer_of_awaited _ hn h]
  · rintro s _ f t hn rfl h
    rw [exec_rsps, execRsps, flowDone_eq, answer_of_awaited _ hn h, keep_true]
  · rintro s _ f t hn rfl h hk
    rw [exec_rspd, execRspd, flowDone_eq, answer_of_awaited _ hn h, hk, keep_true]
  · rintro s _ f t hn rfl h hk
    rw [exec_rspd, execRspd, flowDone_eq, answer_of_awaited _ hn h, hk, keep_false]
  · rintro s _ f t hn rfl h hg
    rw [exec_rspwb, execRspwb, flowDone_eq, answer_of_awaited _ hn h, if_pos hg]
  · rintro s _ f t hn rfl h hg
    rw [exec_rspwb, execRspwb, flowDone_eq, answer_of_awaited _ hn h, if_neg (Bool.eq_false_iff.1 hg)]
  · rintro s _ f t hn rfl h hk
    rw [exec_fack, execFack, exec_fackd, execFackd, flowDone_eq, flowDone_eq, answer_of_awaited _ hn h,
      answer_of_awaited _ hn h, decide_eq_true hk, keep_true, keep_true]
    exact ⟨rfl, rfl⟩
  · rintro s _ f t hn rfl h hk
    rw [exec_fack, execFack, exec_fackd, execFackd, flowDone_eq, flowDone_eq, answer_of_awaited _ hn h,
      answer_of_awaited _ hn h, decide_eq_false hk, keep_false, keep_false]
    exact ⟨rfl, rfl⟩
  · rintro s _ f hn rfl h
    rw [exec_rspi, execRspi, exec_rsps, execRsps, exec_rspd, execRspd, exec_rspwb, execRspwb, exec_fack, execFack,
      exec_fackd, execFackd]
    simp only [flowDone_eq, answer_of_unmatched _ hn h, and_self]
  · rintro s _ f o t ho rfl h
    rw [exec_rspi, execRspi, flowDone_eq, answer_of_awaitedUnder _ ho h]
  · rintro s _ _ f o t ho rfl h rfl
    rw [exec_datc, execDatc, flowDone_eq, grantArrives_datc_under ho h, recalled]
  · rintro s _ _ f t hn rfl h rfl
    rw [exec_dats, execDats, flowDone_eq, grantArrives_fill hn h (by decide), recalled, filledLine]
  · rintro s _ _ f t hn rfl h rfl
    rw [exec_date, execDate, flowDone_eq, grantArrives_fill hn h (by decide), recalled, filledLine]
  · rintro s _ _ f t hn rfl h rfl
    rw [exec_datm, execDatm, flowDone_eq, grantArrives_fillModified hn h, recalled, filledLine]
  · rintro s _ _ f t hn rfl h rfl
    rw [exec_gnte, execGnte, flowDone_eq, grantArrives_gnte hn h, recalled]
  · rintro s _ _ f t hn rfl h rfl
    rw [exec_datc, execDatc, flowDone_eq, grantArrives_datc hn h, recalled]
  · rintro s _ f hn rfl h
    rw [exec_dats, execDats, exec_date, execDate, exec_datm, execDatm, exec_gnte, execGnte, exec_datc, execDatc]
    simp only [flowDone_eq, grantArrives_of_unmatched _ _ hn h, and_self]

end Sys2Proof.Proofs
end

section
/-! PROOF. BISnps and their answers, admission, and the memory path's own events (spec/06 R215; spec/07 R255; spec/10 R354 to
R356; spec/11 R390, R391; spec/12 R429): BackInvalidationAndAdmission. -/

namespace Sys2Proof.Proofs

open Sys2Proof.Machine Sys2Proof.Laws

/-! ### The BISnp that a host's message names (R215, R354, R356) -/

section
variable {s : State} {ld : Fin 256} {l : Nat} {b : BiSnp}

theorem exec_biConflict_of_outstanding (hb : bisnpOf s ld l = some b) :
    exec (.biConflict ld l) s = .next (settle (s.emit (.biConflictAck ld l))) := by
  simp only [exec_biConflict, execBiConflict, hb, done_eq]

theorem exec_biConflict_of_unexpected (hb : bisnpOf s ld l = none) :
    exec (.biConflict ld l) s = .next (settle (unexpectedHost s ld l)) := by
  simp only [exec_biConflict, execBiConflict, hb, done_eq]

theorem exec_birsp_next (k : Bool) : exec (.birsp ld l k) s = .next (settle (birsp s ld l k)) := by
  rw [exec_birsp, execBirsp, done_eq]

theorem birsp_of_unexpected (k : Bool) (hb : bisnpOf s ld l = none) : birsp s ld l k = unexpectedHost s ld l := by
  simp only [birsp, hb]

theorem birsp_of_awaited {t : Txn} (k : Bool) (hb : bisnpOf s ld l = some b) (ht : getTxn (dropBisnp s b) b.txn = some t) :
    birsp s ld l k = flow (putTxn (dropBisnp s b)
      { t with bi := t.bi.erase (l, ld.val), kept := if k then t.kept ++ [(l, ld.val / 16)] else t.kept }) := by
  simp only [birsp, hb, ht]

theorem birsp_of_unawaited (k : Bool) (hb : bisnpOf s ld l = some b) (ht : getTxn (dropBisnp s b) b.txn = none) :
    birsp s ld l k = dropBisnp s b := by
  simp only [birsp, hb, ht]

/-- The clock in which the limit of an outstanding BISnp is reached. -/
def bisnpLimit (s : State) (ld : Fin 256) (b : BiSnp) : Nat :=
  b.since + s.fld (Reg.HPX_TMO (ld.val / 16)) 15 0 * usClocks

theorem exec_bisnpTimeout_acts (ha : ExpiryActs s 1 ((bisnpOf s ld l).map (bisnpLimit s ld))) :
    exec (.bisnpTimeout ld l) s = .next (settle (flow (settle (bisnpTimeout s ld l)))) := by
  rw [exec_bisnpTimeout, execBisnpTimeout]
  exact (atDue_acts ha).trans (flowDone_eq _)

theorem bisnpTimeout_of_none (hb : bisnpOf s ld l = none) : bisnpTimeout s ld l = s := by
  simp only [bisnpTimeout, hb]

theorem bisnpTimeout_of_passed (hb : bisnpOf s ld l = some b) (ht : bisnpLimit s ld b ≤ s.clock) :
    bisnpTimeout s ld l = raiseHost s (ld.val / 16) 10 (biInfo s ld l) := by
  rw [bisnpLimit] at ht
  simp only [bisnpTimeout, hb, if_pos ht]

theorem bisnpTimeout_of_early (hb : bisnpOf s ld l = some b) (ht : s.clock < bisnpLimit s ld b) :
    bisnpTimeout s ld l = s := by
  rw [bisnpLimit] at ht
  simp only [bisnpTimeout, hb, if_neg (Nat.not_le.2 ht)]

end

/-! ### Lanes, channels and read data (R33, R390, R391, R429) -/

section
variable {s : State}

/-- A slice with no request to take leaves its lanes as they are. -/
theorem fillLanes_of_noRequest {h : Nat} (n : Nat) (hr : nextReq s h = none) : fillLanes n h s = s := by
  cases n with
  | zero => rfl
  | succ n => simp only [fillLanes, hr, ite_self]

theorem tick_regs (b c n : Nat) : (tick s b c n).regs = s.regs := by
  obtain ⟨m, h⟩ := tick_eq s b c n
  rw [h]

/-- Counting what an engine enciphers writes no register. -/
theorem cipherOne_regs (cnt : Nat) (b : Nat × Nat × Burst) (k : Nat) : (cipherOne cnt b s k).regs = s.regs := by
  simp only [cipherOne]
  split
  · simp only [apply_ite State.regs, tick_regs, ite_self]
  · rfl

theorem countCipher_regs (cnt : Nat) (b : Nat × Nat × Burst) : (countCipher s cnt b).regs = s.regs :=
  List.foldlRecOn (motive := fun u : State => u.regs = s.regs) _ _ rfl fun _ hu k _ => (cipherOne_regs cnt b k).trans hu

/-- So a channel is READY after the counting as it was before. -/
theorem readyChan_countCipher (cnt : Nat) (b : Nat × Nat × Burst) (c : Nat) :
    readyChan (countCipher s cnt b) c = readyChan s c := by
  simp only [readyChan, State.ready, State.bit, State.reg, countCipher_regs]

theorem channelAccept_of_noWrite {c : Nat} (hw : nextWrite s c s.coh.txns = none) : channelAccept s c = s := by
  simp only [channelAccept, hw]

theorem channelAccept_of_ready {c : Nat} {t : Txn} {b : Nat × Nat × Burst} (hw : nextWrite s c s.coh.txns = some (t, b))
    (hr : readyChan s c = true) : channelAccept s c =
      flow (putTxn (acceptWrite (countCipher s 0 b) t.req.sluice b) { t with bursts := t.bursts.erase b }) := by
  simp only [channelAccept, hw, readyChan_countCipher, hr, if_true]

theorem exec_channelWriteAccept_next (c : Fin 24) :
    exec (.channelWriteAccept c) s = .next (settle (channelAccept s c)) := by
  rw [exec_channelWriteAccept, execChannelWriteAccept, done_eq]

theorem exec_readDataReturn_of_issued {n : Nat} {t : Txn} (e : List (List (Nat × Word))) (ht : getTxn s n = some t)
    (hp : t.phase = .dram ∨ t.phase = .merge) (hi : readsIssued s n = true) :
    exec (.readDataReturn n e) s = .next (settle (flow (underSet s t.req.cset (fun s => dataReturn s t e)))) := by
  simp only [exec_readDataReturn, execReadDataReturn, flowDone_eq, ht, if_pos (And.intro hp hi)]

theorem exec_readDataReturn_of_unknown {n : Nat} (e : List (List (Nat × Word))) (ht : getTxn s n = none) :
    exec (.readDataReturn n e) s = .next (settle (flow s)) := by
  simp only [exec_readDataReturn, execReadDataReturn, flowDone_eq, ht]

end

/-- Settles O33: the BISnp that a message names and the transaction that awaits it decide the host's messages; what waits for
a slice, a channel or its read data decides the memory path's. -/
theorem backInvalidationAndAdmission : Obligations.BackInvalidationAndAdmission := by
  unfold Obligations.BackInvalidationAndAdmission
  refine ⟨?_, ?_, ?_, ?_, ?_, ?_, ?_, ?_, ?_, ?_, ?_, ?_, ?_⟩
  · intro s ld l b hb
    exact exec_biConflict_of_outstanding hb
  · intro s ld l k hb
    exact ⟨exec_biConflict_of_unexpected hb, by rw [exec_birsp_next, birsp_of_unexpected k hb]⟩
  · intro s ld l b t k hb ht
    rw [exec_birsp_next, birsp_of_awaited k hb ht]
  · intro s ld l b k hb ht
    rw [exec_birsp_next, birsp_of_unawaited k hb ht]
  · intro s ld l b ha hb
    rw [exec_bisnpTimeout_acts (by rw [hb]; exact ha)]
    exact ⟨fun ht => by rw [bisnpTimeout_of_passed hb ht], fun ht => by rw [bisnpTimeout_of_early hb ht]⟩
  · intro s ld l hb
    rw [exec_bisnpTimeout_acts (by rw [hb]; rfl), bisnpTimeout_of_none hb]
  · intro s h
    rw [exec_homeSliceAdmission, execHomeSliceAdmission, done_eq, admitSlice]
  · intro s h hr
    exact fillLanes_of_noRequest 4 hr
  · intro s c hw
    rw [exec_channelWriteAccept_next, channelAccept_of_noWrite hw]
  · intro s c t b hw hr
    rw [exec_channelWriteAccept_next, channelAccept_of_ready hw hr]
  · intro s n t e ht hp hi
    exact exec_readDataReturn_of_issued e ht hp hi
  · intro s n e ht
    exact exec_readDataReturn_of_unknown e ht
  · intro s
    rw [exec_releasePushResume, execReleasePushResume, flowDone_eq]

end Sys2Proof.Proofs
end

section
/-! PROOF. Where a location of a set lies (spec/11 R389): LocationsArePlacedOneToOne. -/

namespace Sys2Proof.Proofs

open Sys2Proof.Machine Sys2Proof.Laws

/-! ### The procedure of R389, by the kind of its set -/

theorem locatePos_parity (n g L : Nat) : locatePos n true g L =
    ((L / 2 ^ g / 5 % 6 + 1 + L / 2 ^ g % 5) % 6, L / 2 ^ g / 5 * 2 ^ g + L % 2 ^ g) := rfl

theorem two_pow_mod_three_ne_zero (k : Nat) : 2 ^ k % 3 ≠ 0 := fun h =>
  absurd (Nat.prime_three.dvd_of_dvd_pow (Nat.dvd_of_mod_eq_zero h)) (by decide)

theorem locatePos_three (k g L : Nat) : locatePos (3 * 2 ^ k) false g L =
    (2 ^ k * ((L / 2 ^ g / 2 ^ k % 3 + L / 2 ^ g / 2 ^ k / 3 % 3) % 3) + L / 2 ^ g % 2 ^ k,
      L / 2 ^ g / 2 ^ k / 3 * 2 ^ g + L % 2 ^ g) := by
  simp [locatePos]

theorem locatePos_two (k g L : Nat) : locatePos (2 ^ k) false g L =
    (L / 2 ^ g % 2 ^ k, L / 2 ^ g / 2 ^ k * 2 ^ g + L % 2 ^ g) := by
  simp [locatePos, two_pow_mod_three_ne_zero]

/-! ### The location that place `w` of the `t`-th grain of a position holds -/

theorem mul_two_pow_add_div {n w : Nat} (hw : w < 2 ^ n) (t : Nat) : (t * 2 ^ n + w) / 2 ^ n = t := by
  rw [Nat.mul_comm, Nat.mul_add_div (Nat.two_pow_pos n), Nat.div_eq_of_lt hw, Nat.add_zero]

section
variable {g w : Nat} (hw : w < 2 ^ g)
include hw

theorem locOf_parity (n pos t : Nat) : locOf n true g pos (t * 2 ^ g + w) =
    if (pos + 11 - t % 6) % 6 = 5 then none else some ((t * 5 + (pos + 11 - t % 6) % 6) * 2 ^ g + w) := by
  simp only [locOf, mul_two_pow_add_div hw, Nat.mul_add_mod_of_lt hw, if_true]

theorem locOf_three (k pos t : Nat) : locOf (3 * 2 ^ k) false g pos (t * 2 ^ g + w) =
    some (((3 * t + (pos / 2 ^ k + 3 - t % 3) % 3) * 2 ^ k + pos % 2 ^ k) * 2 ^ g + w) := by
  simp [locOf, mul_two_pow_add_div hw, Nat.mul_add_mod_of_lt hw]

theorem locOf_two (k pos t : Nat) : locOf (2 ^ k) false g pos (t * 2 ^ g + w) =
    some ((t * 2 ^ k + pos) * 2 ^ g + w) := by
  simp [locOf, mul_two_pow_add_div hw, Nat.mul_add_mod_of_lt hw, two_pow_mod_three_ne_zero]

/-- Stripe `t` holds data grain `j` at the position that R389 gives it: the parity grain stands before the first. -/
theorem locOf_parity_of_data {j : Nat} (hj : j < 5) (n t : Nat) :
    locOf n true g ((t % 6 + 1 + j) % 6) (t * 2 ^ g + w) = some ((t * 5 + j) * 2 ^ g + w) := by
  have hk : ((t % 6 + 1 + j) % 6 + 11 - t % 6) % 6 = j := by omega
  rw [locOf_parity hw, hk, if_neg (Nat.ne_of_lt hj)]

/-- Group `t` has its digit `e` rotated by `t mod 3`; the rotation is undone. -/
theorem locOf_three_of_digit {k e r : Nat} (he : e < 3) (hr : r < 2 ^ k) (t : Nat) :
    locOf (3 * 2 ^ k) false g (2 ^ k * ((e + t % 3) % 3) + r) (t * 2 ^ g + w) =
      some (((3 * t + e) * 2 ^ k + r) * 2 ^ g + w) := by
  have hd : (2 ^ k * ((e + t % 3) % 3) + r) / 2 ^ k = (e + t % 3) % 3 := by
    rw [Nat.mul_comm, mul_two_pow_add_div hr]
  have hm : (2 ^ k * ((e + t % 3) % 3) + r) % 2 ^ k = r := by
    rw [Nat.mul_comm, Nat.mul_add_mod_of_lt hr]
  have hrot : ((e + t % 3) % 3 + 3 - t % 3) % 3 = e := by omega
  rw [locOf_three hw, hd, hm, hrot]

end

/-- Settles O54: the offset gives back the stripe or group and the place in the grain, the position the digit that R389's
rotation put there. -/
theorem locationsArePlacedOneToOne : Obligations.LocationsArePlacedOneToOne := by
  unfold Obligations.LocationsArePlacedOneToOne
  refine ⟨?_, ?_, ?_⟩
  · rintro L g n c w rfl rfl
    refine ⟨locatePos_parity n g L, ?_⟩
    rw [locOf_parity_of_data (Nat.mod_lt _ (Nat.two_pow_pos g)) (Nat.mod_lt _ (by decide)), Nat.div_add_mod',
      Nat.div_add_mod']
  · rintro L g k c w q rfl rfl rfl
    refine ⟨locatePos_three k g L, ?_⟩
    rw [locOf_three_of_digit (Nat.mod_lt _ (Nat.two_pow_pos g)) (Nat.mod_lt _ (by decide))
      (Nat.mod_lt _ (Nat.two_pow_pos k)), Nat.div_add_mod, Nat.div_add_mod', Nat.div_add_mod']
  · rintro L g k c w rfl rfl
    refine ⟨locatePos_two k g L, ?_⟩
    rw [locOf_two (Nat.mod_lt _ (Nat.two_pow_pos g)), Nat.div_add_mod', Nat.div_add_mod']

end Sys2Proof.Proofs
end

section
/-! PROOF. Refresh windows, command slots, throttles and upkeep of a DRAM channel (spec/11 R395, R398, R404, R405, R407,
R410): DramService. -/

namespace Sys2Proof.Proofs

open Sys2Proof.Machine Sys2Proof.Laws

/-! ### The window of the present tide (R398, R405) -/

section
variable {s : State} {c : Fin 24}

theorem windowSync_of_new {c : Nat} (hr : readyChan s c = true) (hn : windowIdx s c ≠ (s.chan c).widx) :
    windowSync s c = windowBegin s c := by
  simp only [windowSync, hr, decide_eq_true hn, Bool.and_self, if_true]

theorem windowSync_of_same {c : Nat} (h : windowIdx s c = (s.chan c).widx) : windowSync s c = s := by
  simp [windowSync, h]

theorem windowSync_of_unready {c : Nat} (hr : readyChan s c = false) : windowSync s c = s := by
  simp [windowSync, hr]

theorem exec_refreshWindowStart_next : exec (.refreshWindowStart c) s = .next (settle (windowSync s c)) := by
  rw [exec_refreshWindowStart, execRefreshWindowStart, done_eq]

/-! ### Command slots (R395) -/

theorem exec_dramCommandIssue_of_command {b : Fin 2} {k : Nat} {d : DCmd} (hr : readyChan (windowSync s c) c = true)
    (hd : (windowSync s c).fld (Reg.DMC_STAT c) 31 29 ≠ 3) (hk : (issuable (windowSync s c) c b)[k]? = some d) :
    exec (.dramCommandIssue c b k) s = .next (settle (queueStat (issue (windowSync s c) c b d) c)) := by
  simp only [exec_dramCommandIssue, execDramCommandIssue, done_eq, hr, decide_eq_true hd, Bool.and_self, if_true, hk]

theorem exec_dramCommandIssue_of_none {b : Fin 2} {k : Nat} (hk : (issuable (windowSync s c) c b)[k]? = none) :
    exec (.dramCommandIssue c b k) s = .next (settle (windowSync s c)) := by
  simp only [exec_dramCommandIssue, execDramCommandIssue, done_eq, hk, ite_self]

/-- State 3 of DMC_STAT, self-refresh, takes no command. -/
theorem exec_dramCommandIssue_of_selfRefresh (b : Fin 2) (k : Nat)
    (hd : (windowSync s c).fld (Reg.DMC_STAT c) 31 29 = 3) :
    exec (.dramCommandIssue c b k) s = .next (settle (windowSync s c)) := by
  simp [exec_dramCommandIssue, execDramCommandIssue, done_eq, hd]

theorem exec_dramCommandIssue_of_unready (b : Fin 2) (k : Nat) (hr : readyChan s c = false) :
    exec (.dramCommandIssue c b k) s = .next (settle s) := by
  simp [exec_dramCommandIssue, execDramCommandIssue, done_eq, windowSync_of_unready hr, hr]

/-- A read opens its row where it must, leaves its queue and is counted. -/
theorem issue_read (s : State) (c b : Nat) (e : RdEntry) : issue s c b (.read e) =
    tick ((activate s c e.burst e.sluice).setChan c
      { (activate s c e.burst e.sluice).chan c with rdq := ((activate s c e.burst e.sluice).chan c).rdq.erase e })
      (bChan c) 0 1 := rfl

/-! ### Throttles, upkeep and retries (R404, R407, R410) -/

theorem exec_zqCalibration_next : exec (.zqCalibration c) s = .next (settle s) := by
  rw [exec_zqCalibration, execZqCalibration, done_eq]

theorem exec_dqsTracking_of_inRange : exec (.dqsTracking c false) s = .next (settle s) := by
  rw [exec_dqsTracking, execDqsTracking, done_eq, if_neg Bool.false_ne_true]

theorem exec_dqsTracking_of_outOfRange : exec (.dqsTracking c true) s = .next (settle (chanLost s c 2)) := by
  rw [exec_dqsTracking, execDqsTracking, done_eq, if_pos rfl, chanStop]

theorem exec_phyLockLost_next : exec (.phyLockLost c) s =
    .next (settle (if readyChan s c then chanLost (raiseChan s c 14 none {}) c 3 else s)) := by
  rw [exec_phyLockLost, execPhyLockLost, done_eq]

theorem exec_caParityOrWriteCrcError_next (x again : Bool) : exec (.caParityOrWriteCrcError c x again) s =
    .next (settle (if readyChan s c then retryError s c x again else s)) := by
  rw [exec_caParityOrWriteCrcError, execCaParityOrWriteCrcError, done_eq]

end

section
variable {s u : State} {c : Nat} {x : Bool} (hu : u = raiseChan s c (if x then 4 else 3) none {})
include hu

/-- A command's first error begins its count of retries anew. -/
theorem retryError_of_first : retryError s c x false = u.setChan c { u.chan c with retries := [u.clock] } := by
  subst hu
  rfl

/-- With 15 retries of the command in the last 1 ms, its next one stops the channel. -/
theorem retryError_of_sixteenth (hl : 15 ≤ ((u.chan c).retries.filter fun t => decide (u.clock < t + msClocks)).length) :
    retryError s c x true = chanStop (u.setChan c { u.chan c with
      retries := (u.chan c).retries.filter (fun t => decide (u.clock < t + msClocks)) ++ [u.clock] }) c := by
  subst hu
  simp only [retryError, if_true]
  exact if_pos (by rw [List.length_append]; exact Nat.succ_le_succ hl)

end

/-- Settles O41: the channel's READY bit and its window's number decide the window and the slot, the retries of the command
whether an error stops the channel. -/
theorem dramService : Obligations.DramService := by
  unfold Obligations.DramService
  refine ⟨?_, ?_, ?_, ?_, ?_, ?_, ?_, ?_, ?_, ?_, ?_⟩
  · intro s c hr hn
    rw [exec_refreshWindowStart_next, windowSync_of_new hr hn]
  · intro s c h
    rw [exec_refreshWindowStart_next, windowSync_of_same h]
  · rintro s u c b k d rfl hr hd hk
    exact exec_dramCommandIssue_of_command hr hd hk
  · rintro s u c b k rfl (hd | hk)
    · exact exec_dramCommandIssue_of_selfRefresh b k hd
    · exact exec_dramCommandIssue_of_none hk
  · intro s c x
    rw [exec_rdtThrottleExpiry, execRdtThrottleExpiry, done_eq]
  · intro s c
    exact ⟨exec_zqCalibration_next, exec_dqsTracking_of_inRange, exec_dqsTracking_of_outOfRange⟩
  · intro s c hr
    rw [exec_phyLockLost_next, if_pos hr]
  · intro s u c x hr hu
    rw [exec_caParityOrWriteCrcError_next, if_pos hr, retryError_of_first hu]
  · intro s u c x hr hu hl
    rw [exec_caParityOrWriteCrcError_next, if_pos hr, retryError_of_sixteenth hu hl]
  · intro s c x a b k hr
    have hn : ¬ readyChan s c = true := Bool.not_eq_true _ ▸ hr
    refine ⟨?_, exec_dramCommandIssue_of_unready b k hr, ?_, ?_⟩
    · rw [exec_refreshWindowStart_next, windowSync_of_unready hr]
    · rw [exec_phyLockLost_next, if_neg hn]
    · rw [exec_caParityOrWriteCrcError_next, if_neg hn]
  · exact issue_read

end Sys2Proof.Proofs
end

section
/-! PROOF. Sluice windows, D and urgency (spec/12 R425, R430, R432, R433), housekeeping rounds and the pause step (spec/19
R650, R660), the PLL, die-to-die links and boundary scan (spec/01 R21; spec/03 R68; spec/22 R708, R715):
RoundsWindowsAndClocks. -/

namespace Sys2Proof.Proofs

open Sys2Proof.Machine Sys2Proof.Laws

/-! ### Windows, the new D and urgency (R425, R430, R432, R433) -/

section
variable {s : State}

theorem windowFollow_of_same (h : s.tide / 2 ^ wlog s = s.slu.window) : windowFollow s = s := if_pos h

theorem windowFollow_of_new (h : s.tide / 2 ^ wlog s ≠ s.slu.window) : windowFollow s = windowOpen s := if_neg h

theorem exec_sluiceWindowOpen_next : exec .sluiceWindowOpen s = .next (settle (windowFollow s)) := by
  rw [exec_sluiceWindowOpen, execSluiceWindowOpen, done_eq]

/-- The state with the D of its rates waiting for the next window. -/
def pendDeliverable (s : State) : State :=
  { s with slu := { s.slu with pendD := some (deliverable s (s.fld Reg.SLU_CTL 15 8)) } }

theorem exec_deliverableRecompute_next : exec .deliverableRecompute s =
    .next (settle (pendDeliverable (if s.code = Mode.hold then s else takeRates s))) := by
  rw [exec_deliverableRecompute, execDeliverableRecompute, done_eq, pendDeliverable]

theorem exec_urgencyPersistent_acts (ha : ExpiryActs s 1 (if urgNow s then some s.clock else none)) :
    exec .urgencyPersistent s = .next (settle (urgencyPersistent s)) := by
  rw [exec_urgencyPersistent, execUrgencyPersistent, atDue_acts ha, done_eq]

theorem urgencyPersistent_of_noneDue (h : urgDue (followUrgc s (List.range 4)) = []) :
    urgencyPersistent s = followUrgc s (List.range 4) := if_pos h

theorem urgencyPersistent_of_due {u : State} (hu : u = followUrgc s (List.range 4)) (h : urgDue u ≠ []) :
    urgencyPersistent s = raiseSlu { u with slu := { u.slu with urgTold := u.slu.urgTold ++ urgDue u } } 5 none := by
  subst hu
  exact if_neg h

end

/-! ### A housekeeping round and the limits it takes (R650, R660) -/

section
variable {s : State} (l : List (Option (BitVec 16)))

/-- No round is to be carried out: the function is not READY, the device is in reset, or no step has cut a round short and
the tide has ended none that is not carried out yet. -/
def NoRound (s : State) : Prop :=
  readyHk s = false ∨ s.inReset = true ∨
    s.hk.cut = none ∧ (s.tide < 625000 ∨ s.hk.round = some (s.tide / 625000))

theorem noRound_iff : NoRound s ↔
    (!readyHk s || s.inReset ||
      (s.hk.cut.isNone && decide (s.tide / 625000 = 0 ∨ s.hk.round = some (s.tide / 625000)))) = true := by
  simp [NoRound, or_assoc]

/-- What the end of a round at tide `fin` computes. -/
def roundModel (s : State) (l : List (Option (BitVec 16))) (fin : Nat) : State :=
  showModel (chanHeat (limitsBefore s fun u => setPause (averaged (thermal (readings u 0 384 l))) fin) (List.range 24))

/-- The round of number `k` is the last carried out, and no cut waits. -/
def beginRound (s : State) (k : Nat) : State := { s with hk := { s.hk with round := some k, cut := none } }

/-- A round carried out counts, in HK_STAT and in the live counter. -/
def countRound (s : State) : State := tick (s.setF Reg.HK_STAT 15 0 (s.fld Reg.HK_STAT 15 0 + 1)) bHouse 0 1

theorem houseRound_of_noRound (h : NoRound s) : houseRound s l = s := if_pos (noRound_iff.1 h)

theorem houseRound_of_round (h : ¬ NoRound s) : houseRound s l = countRound
    (roundModel (beginRound s (s.tide / 625000)) l (s.hk.cut.getD (625000 * (s.tide / 625000)))) :=
  if_neg (mt noRound_iff.2 h)

/-- READY and out of reset, a round that was cut short, or one that ended since the last, is carried out. -/
theorem not_noRound_of_ended {k : Nat} (hr : readyHk s = true) (hi : s.inReset = false) (hk : k = s.tide / 625000)
    (h : s.hk.cut.isSome = true ∨ k ≠ 0 ∧ s.hk.round ≠ some k) : ¬ NoRound s := by
  subst hk
  rintro (hn | hn | ⟨hc, hn⟩)
  · rw [hr] at hn
    exact Bool.noConfusion hn
  · rw [hi] at hn
    exact Bool.noConfusion hn
  · rw [hc] at h
    obtain hs | ⟨hz, ho⟩ := h
    · exact Bool.noConfusion hs
    · exact hn.elim (fun ht => hz (Nat.div_eq_of_lt ht)) ho

theorem exec_housekeepingRound_next : exec (.housekeepingRound l) s = .next (settle (houseRound s l)) := by
  rw [exec_housekeepingRound, execHousekeepingRound, done_eq]

theorem limitsBefore_of_unwritten (f : State → State) (h : s.hk.before = none ∨
    s.hk.before.map (fun x => decide (x.1 = s.clock)) = some false) : limitsBefore s f = f s := by
  cases hb : s.hk.before with
  | none => simp only [limitsBefore, hb]
  | some x =>
    obtain ⟨c, r⟩ := x
    have hc : c ≠ s.clock := by simpa [hb] using h
    simp only [limitsBefore, hb, if_neg hc]

theorem limitsBefore_of_written (f : State → State) {r : Word × Word × Word} (h : s.hk.before = some (s.clock, r)) :
    limitsBefore s f = setLimits (f (setLimits s r)) (limitsNow s) := by
  simp only [limitsBefore, h, if_true]

end

/-! ### The pause step (R660, R433) -/

section
variable {s : State}

/-- The pause step that waited stands in HK_STAT and in SLU_DELIV. -/
def showPause (s : State) : State :=
  ({ s with hk := { s.hk with pend := none } }.setF Reg.HK_STAT 21 16 s.hk.step).setF Reg.SLU_DELIV 21 16 s.hk.step

theorem exec_pauseStepApply_next : exec .pauseStepApply s = .next (settle (pauseApply s)) := by
  rw [exec_pauseStepApply, execPauseStepApply, done_eq]

theorem pauseApply_of_early (h : s.hk.pend = none ∨ s.hk.pend.map (fun t => decide (s.tide < t)) = some true) :
    pauseApply s = s := by
  cases hp : s.hk.pend with
  | none => simp only [pauseApply, hp]
  | some t =>
    have ht : s.tide < t := by simpa [hp] using h
    simp only [pauseApply, hp, if_pos ht]

theorem pauseApply_of_new {t : Nat} (hp : s.hk.pend = some t) (ht : t ≤ s.tide)
    (hn : s.fld Reg.HK_STAT 21 16 ≠ s.hk.step) : pauseApply s = pendDeliverable (showPause s) := by
  simp only [pauseApply, hp, if_neg (Nat.not_lt.2 ht)]
  exact if_neg hn

end

/-! ### The PLL and the die-to-die links (R21, R68, R715) -/

section
variable {s : State}

/-- The PLL has locked, at the start of a phase. -/
def lockPll (s : State) : State := { s with tideU := { s.tideU with pll := true, phase := 0 } }

@[simp] theorem code_lockPll : (lockPll s).code = s.code := rfl

@[simp] theorem readyTmu_lockPll : readyTmu (lockPll s) = readyTmu s := rfl

theorem exec_pllLock_of_locked (h : s.tideU.pll = true) : exec .pllLock s = .next (settle s) := by
  simp only [exec_pllLock, execPllLock, done_eq, h, Bool.true_or, if_true]

section
variable (hl : s.mode.resetLow = none) (hs : s.mode.supplyLow = false)
include hl hs

theorem exec_pllLock_of_unlocked (hp : s.tideU.pll = false) : exec .pllLock s = .next (settle
    (if s.code = Mode.boot ∨ !readyTmu s then lockPll s else setReadyTide (lockPll s) true)) := by
  rw [exec_pllLock, execPllLock, done_eq, if_neg (by simp [hp, hl, hs]), ← lockPll]
  by_cases h : s.code = Mode.boot ∨ !readyTmu s
  · simp only [code_lockPll, readyTmu_lockPll, h, if_true]
  · simp only [code_lockPll, readyTmu_lockPll, h, if_false]

theorem exec_d2dTrainingComplete_of_powered (d : Fin 3) : exec (.d2dTrainingComplete d) s =
    .next (settle (if d = 2 then setReadyHk (setReadyD2d s d true) true else setReadyD2d s d true)) := by
  rw [exec_d2dTrainingComplete, execD2dTrainingComplete, done_eq, if_neg (by simp [hl, hs])]

end

variable {d : Nat}

theorem d2dLost_of_gone (h : d2dMods s d = 0) : d2dLost s d = s := if_pos h

theorem d2dLost_of_spare (h : 1 < d2dMods s d) :
    d2dLost s d = raise (setD2dMods s d (d2dMods s d - 1)) (1476 + d) := by
  simp only [d2dLost, if_neg (Nat.ne_of_gt (Nat.zero_lt_of_lt h)), if_neg (Nat.ne_of_gt h)]

theorem d2dLost_of_last {u : State} (h : d2dMods s d = 1) (hu : u = setReadyD2d (setD2dMods s d 0) d false) :
    d2dLost s d = if d = 2 then safeReact (raise u 1480) else isolate (raise u (1478 + d)) (1478 + d) {} := by
  subst hu
  simp only [d2dLost, h, if_true]
  rfl

theorem exec_d2dModuleLost_next (d : Fin 3) : exec (.d2dModuleLost d) s = .next (settle (d2dLost s d)) := by
  rw [exec_d2dModuleLost, execD2dModuleLost, done_eq]

end

/-- Settles O46: the window's number, the quadrants due, the round that the tide has ended, the tide of the pause step and
the modules left decide each command's work. -/
theorem roundsWindowsAndClocks : Obligations.RoundsWindowsAndClocks := by
  unfold Obligations.RoundsWindowsAndClocks
  refine ⟨?_, ?_, ?_, ?_, ?_, ?_, ?_, ?_, ?_, ?_, ?_, ?_, ?_, ?_, ?_, ?_, ?_, ?_⟩
  · intro s h
    rw [exec_sluiceWindowOpen_next, windowFollow_of_same h]
  · intro s h
    rw [exec_sluiceWindowOpen_next, windowFollow_of_new h]
  · rintro s _ rfl
    exact exec_deliverableRecompute_next
  · rintro s _ ha rfl h
    rw [exec_urgencyPersistent_acts ha, urgencyPersistent_of_noneDue h]
  · intro s u ha hu h
    rw [exec_urgencyPersistent_acts ha, urgencyPersistent_of_due hu h]
  · intro s l h
    rw [exec_housekeepingRound_next, houseRound_of_noRound l h]
  · rintro s _ _ l k hr hi hk h rfl rfl
    rw [exec_housekeepingRound_next, houseRound_of_round l (not_noRound_of_ended hr hi hk h), ← hk, countRound, roundModel,
      beginRound]
  · intro s f h
    exact limitsBefore_of_unwritten f h
  · intro s f r h
    exact limitsBefore_of_written f h
  · intro s h
    rw [exec_pauseStepApply_next, pauseApply_of_early h]
  · rintro s _ t hp ht rfl hn
    rw [exec_pauseStepApply_next, pauseApply_of_new hp ht hn, pendDeliverable, showPause]
  · rintro s _ hp hl hs rfl
    exact exec_pllLock_of_unlocked hl hs hp
  · intro s h
    exact exec_pllLock_of_locked h
  · intro s d hl hs
    exact exec_d2dTrainingComplete_of_powered hl hs d
  · intro s d h
    rw [exec_d2dModuleLost_next, d2dLost_of_spare h]
  · intro s u d h hu
    rw [exec_d2dModuleLost_next, d2dLost_of_last h hu]
    simp only [Fin.ext_iff, Fin.val_two]
  · intro s d h
    rw [exec_d2dModuleLost_next, d2dLost_of_gone h]
  · intro s b
    rw [exec_boundaryScanInstruction, execBoundaryScanInstruction, done_eq]

end Sys2Proof.Proofs
end

section
/-! PROOF. A peer's requests at their home slice, the writebacks that a transaction awaits, and WBACK (spec/10 R361, R364, R374;
spec/14 R532; spec/05 R189): CoherenceRequestsOfPeers. -/

namespace Sys2Proof.Proofs

open Sys2Proof.Machine Sys2Proof.Laws

/-! ### A frame under the configuration set of its taking (R189) -/

section
variable {s : State} {f : Frame} (act : State → State)

theorem onFrame_of_now (hn : TakenNow s f) : onFrame s f act = .next (settle (flow (act s))) := by
  rw [onFrame, flowDone_eq, underSet_of_active act hn]

theorem onFrame_of_under {o : OldSet} (ho : TakenUnder s f o) :
    onFrame s f act = .next (settle (flow (putSet (act (putSet s o)) (activeSet s)))) := by
  rw [onFrame, flowDone_eq, underSet_of_old act ho.1 ho.2]

end

/-! ### Which commands are requests (R364, R369, R374) -/

section
variable {s : State} {f : Frame} (hn : TakenNow s f)
include hn

theorem exec_rds_request : exec (.rds f) s = .next (settle (flow (peerRequest s f .rds))) := by
  rw [exec_rds, execRds, onFrame_of_now _ hn]

theorem exec_rdo_request : exec (.rdo f) s = .next (settle (flow (peerRequest s f .rdo))) := by
  rw [exec_rdo, execRdo, onFrame_of_now _ hn]

theorem exec_upg_request : exec (.upg f) s = .next (settle (flow (peerRequest s f .upg))) := by
  rw [exec_upg, execUpg, onFrame_of_now _ hn]

theorem exec_rdc_request : exec (.rdc f) s = .next (settle (flow (peerRequest s f .rdc))) := by
  rw [exec_rdc, execRdc, onFrame_of_now _ hn]

theorem exec_wbm_now : exec (.wbm f) s = .next (settle (flow (wbm s f))) := by
  rw [exec_wbm, execWbm, onFrame_of_now _ hn]

theorem exec_evc_now : exec (.evc f) s = .next (settle (flow (evc s f))) := by
  rw [exec_evc, execEvc, onFrame_of_now _ hn]

theorem exec_wbm_request (h : awaiting s f = none) :
    exec (.wbm f) s = .next (settle (flow (peerRequest s f .wbm))) := by
  simp only [exec_wbm_now hn, wbm, h]

theorem exec_evc_request (h : awaiting s f = none) :
    exec (.evc f) s = .next (settle (flow (peerRequest s f .evc))) := by
  simp only [exec_evc_now hn, evc, h]

end

/-! ### What becomes of a request, whichever command brings it (R27, R263, R532, R658) -/

section
variable {i : Instr} {s u : State} {f : Frame} {k : ReqKind}
  (hx : exec i s = .next (settle (flow (peerRequest s f k))))
include hx

theorem request_safe (hs : s.code = Mode.safe) :
    exec i s = .next (settle (flow (refuseReq (dropTaken s f) { req := peerReq s f k 0 }))) := by
  rw [hx, peerRequest_safe hs]

variable (hs : s.code ≠ Mode.safe)
include hs

theorem request_hold (hh : holding s = true) (hr : holdFits s (peerIn s f k) = true) :
    exec i s = .next (settle (flow (submit (dropTaken (takeId s).1 f) (peerIn s f k)))) := by
  rw [hx, peerRequest_hold hs hh hr]

theorem request_noRoom (hh : holding s = true) (hr : holdFits s (peerIn s f k) = false) :
    exec i s = .next (settle (flow s)) := by
  rw [hx, peerRequest_noRoom hs hh hr]

variable (hh : holding s = false)
include hh

theorem request_rides (hr : rides s (peerIn s f k) = true) : exec i s = .next (settle (flow s)) := by
  rw [hx, peerRequest_rides hs hh hr]

variable (hr : rides s (peerIn s f k) = false) (hu : u = submit (takeId s).1 (peerIn s f k))
include hr hu

theorem request_admitted (hi : u.coh.ingress.any (fun x => decide (x.id = (peerIn s f k).id)) = false) :
    exec i s = .next (settle (flow (dropTaken u f))) := by
  rw [hx, peerRequest_tries hs hh hr, peerTry_admitted hu hi]

theorem request_noLane (hi : u.coh.ingress.any (fun x => decide (x.id = (peerIn s f k).id)) = true) :
    exec i s = .next (settle (flow
      { u with coh := { u.coh with ingress := u.coh.ingress.filter (fun x => decide (x.id ≠ (peerIn s f k).id)) } })) := by
  rw [hx, peerRequest_tries hs hh hr, peerTry_full hu hi]

end

/-! ### A writeback that a transaction awaits (R374) -/

section
variable {s : State} {f : Frame} {t : Txn}

/-- The line that a WBM hands over to the transaction that awaits it. -/
def handOver (s : State) (t : Txn) (f : Frame) : Txn := { t with got := t.got ++ [carriedLine s f] }

/-- The transaction once the writeback has come: its wait for it ends, or it is noted for the RSPWB that is still to come. -/
def writtenBack (t : Txn) (f : Frame) : Txn :=
  if t.wbWait.contains (f.line * 64, f.src) then { t with wbWait := t.wbWait.erase (f.line * 64, f.src) }
  else { t with wbGot := t.wbGot ++ [(f.line * 64, f.src)] }

theorem writtenBack_of_waited (hw : t.wbWait.contains (f.line * 64, f.src) = true) :
    writtenBack t f = { t with wbWait := t.wbWait.erase (f.line * 64, f.src) } := if_pos hw

theorem writtenBack_of_early (hw : t.wbWait.contains (f.line * 64, f.src) = false) :
    writtenBack t f = { t with wbGot := t.wbGot ++ [(f.line * 64, f.src)] } := if_neg (Bool.eq_false_iff.1 hw)

variable (h : awaiting s f = some t)
include h

theorem evc_of_awaited : evc s f = putTxn (wback (dropTaken s f) f) (writtenBack t f) := by
  simp only [evc, h, writtenBack]

/-- A WBM does what an EVC does and hands over its line. -/
theorem wbm_of_awaited : wbm s f = putTxn (wback (dropTaken s f) f) (writtenBack (handOver s t f) f) := by
  simp only [wbm, h]
  rfl

end

/-! ### WBACK (R361) -/

section
variable {s u : State} {f : Frame} (hu : u = dropTaken s f)
include hu

theorem exec_wback_of_flight {w : WbFlight} (h : u.coh.wb.find?
      (fun w => decide (w.dev = f.src ∧ w.line = f.line * 64 ∧ w.txid = f.txid)) = some w) :
    exec (.wback f) s = .next (settle (flow { u with coh := { u.coh with wb := u.coh.wb.erase w } })) := by
  simp only [exec_wback, execWback, flowDone_eq, ← hu, h]

theorem exec_wback_of_unmatched (h : u.coh.wb.find?
      (fun w => decide (w.dev = f.src ∧ w.line = f.line * 64 ∧ w.txid = f.txid)) = none) :
    exec (.wback f) s = .next (settle (flow (unmatched u f))) := by
  simp only [exec_wback, execWback, flowDone_eq, ← hu, h]

end

/-- Settles O38: six commands make one kind of request each, whose course the mode, the room and the lanes of its slice decide;
a writeback that a transaction awaits is that transaction's instead. -/
theorem coherenceRequestsOfPeers : Obligations.CoherenceRequestsOfPeers := by
  unfold Obligations.CoherenceRequestsOfPeers
  refine ⟨fun _ _ hn => request_safe (exec_rds_request hn), fun _ _ hn => request_hold (exec_rds_request hn),
    fun _ _ _ hn => request_admitted (exec_rds_request hn),
    fun _ _ hn => request_safe (exec_rdo_request hn), fun _ _ hn => request_hold (exec_rdo_request hn),
    fun _ _ _ hn => request_admitted (exec_rdo_request hn),
    fun _ _ hn => request_safe (exec_upg_request hn), fun _ _ hn => request_hold (exec_upg_request hn),
    fun _ _ _ hn => request_admitted (exec_upg_request hn),
    fun _ _ hn => request_safe (exec_rdc_request hn), fun _ _ hn => request_hold (exec_rdc_request hn),
    fun _ _ _ hn => request_admitted (exec_rdc_request hn),
    fun _ _ hn ha => request_safe (exec_wbm_request hn ha), fun _ _ hn ha => request_hold (exec_wbm_request hn ha),
    fun _ _ _ hn ha => request_admitted (exec_wbm_request hn ha),
    fun _ _ hn ha => request_safe (exec_evc_request hn ha), fun _ _ hn ha => request_hold (exec_evc_request hn ha),
    fun _ _ _ hn ha => request_admitted (exec_evc_request hn ha),
    fun _ _ hn => request_noRoom (exec_rds_request hn), fun _ _ hn => request_rides (exec_rds_request hn),
    fun _ _ _ hn => request_noLane (exec_rds_request hn),
    fun _ _ hn => request_noRoom (exec_rdo_request hn), fun _ _ hn => request_rides (exec_rdo_request hn),
    fun _ _ _ hn => request_noLane (exec_rdo_request hn),
    fun _ _ hn => request_noRoom (exec_upg_request hn), fun _ _ hn => request_rides (exec_upg_request hn),
    fun _ _ _ hn => request_noLane (exec_upg_request hn),
    fun _ _ hn => request_noRoom (exec_rdc_request hn), fun _ _ hn => request_rides (exec_rdc_request hn),
    fun _ _ _ hn => request_noLane (exec_rdc_request hn),
    fun _ _ hn ha => request_noRoom (exec_wbm_request hn ha), fun _ _ hn ha => request_rides (exec_wbm_request hn ha),
    fun _ _ _ hn ha => request_noLane (exec_wbm_request hn ha),
    fun _ _ hn ha => request_noRoom (exec_evc_request hn ha), fun _ _ hn ha => request_rides (exec_evc_request hn ha),
    fun _ _ _ hn ha => request_noLane (exec_evc_request hn ha), ?_, ?_, ?_,
    fun _ _ _ _ hu => exec_wback_of_flight hu, fun _ _ _ hu => exec_wback_of_unmatched hu⟩
  · intro s f o ho
    rw [exec_rds, execRds, exec_rdo, execRdo, exec_upg, execUpg, exec_rdc, execRdc, exec_wbm, execWbm, exec_evc, execEvc]
    exact ⟨onFrame_of_under _ ho, onFrame_of_under _ ho, onFrame_of_under _ ho, onFrame_of_under _ ho,
      onFrame_of_under _ ho, onFrame_of_under _ ho⟩
  · intro s f t hn ha hw
    rw [exec_wbm_now hn, wbm_of_awaited ha, writtenBack_of_waited (t := handOver s t f) hw, exec_evc_now hn,
      evc_of_awaited ha, writtenBack_of_waited hw]
    exact ⟨rfl, rfl⟩
  · intro s f t hn ha hw
    rw [exec_wbm_now hn, wbm_of_awaited ha, writtenBack_of_early (t := handOver s t f) hw, exec_evc_now hn,
      evc_of_awaited ha, writtenBack_of_early hw]
    exact ⟨rfl, rfl⟩

end Sys2Proof.Proofs
end

section
/-! PROOF. Every command and every run goes on and leaves no reaction owed (spec/00; spec/16 R564): EveryRunGoesOn,
ReactionsNeverStayOwed, NoReactionOwedAtReset, StepRunsTheFrontCommand, SettleAndFlowAtRest. -/

namespace Sys2Proof.Proofs

open Sys2Proof.Machine Sys2Proof.Laws

/-! ### The ends of a command -/

/-- An outcome that a command may have on a state: a next state, which owes no reaction where the state owed none. -/
def Answers (s : State) (o : Host.Outcome State Fault Refusal) : Prop := ∃ t, o = .next t ∧ (Quiet s → Quiet t)

section
variable {s : State} {f : State → Host.Outcome State Fault Refusal}

theorem answers_done (u : State) : Answers s (done u) := ⟨settle u, rfl, fun _ => settle_react u⟩

theorem answers_next {t : State} (h : Quiet s → Quiet t) : Answers s (.next t) := ⟨t, rfl, h⟩

theorem answers_access (g : State → State) : Answers s (access s g) := by
  obtain ⟨_, e⟩ | ⟨_, e⟩ := access_cases s g
  · rw [e]; exact answers_next id
  · rw [e]; exact answers_next fun _ => settle_react _

/-- An expiry put off changes only the list of those that wait. -/
theorem answers_atDue {i : Timer} {per : Nat} {due : Option Nat} (h : Answers s (f s)) : Answers s (atDue i per due s f) := by
  unfold atDue
  split
  · exact answers_next id
  · exact h

theorem answers_atTide {i : Timer} {due : Option Nat} (h : Answers s (f s)) : Answers s (atTide i due s f) := by
  unfold atTide
  split
  · exact answers_next id
  · exact h

theorem answers_atEnd {i : Timer} (h : Answers s (f s)) : Answers s (atEnd i s f) := by
  unfold atEnd
  split
  · exact h
  · exact answers_next id

theorem answers_moveFrame (x : Frame) (request : Bool) (act : State → Frame → State) :
    Answers s (moveFrame s x request act) := by
  unfold moveFrame
  split <;> exact answers_done _

/-- A device reset, or none. -/
theorem answers_reset {p : Prop} [Decidable p] {u t : State} {cold : Bool} {cause : Nat} (h : t.flt = s.flt) :
    Answers s (.next (if p then deviceReset u cold cause else t)) := by
  refine answers_next fun hq => ?_
  split
  · exact deviceReset_react u cold cause
  · exact (congrArg _ h).trans hq

end

theorem resetLow_react (s : State) (clocks : Nat) (hq : Quiet s) : Quiet (resetLow s clocks) := by
  unfold resetLow
  dsimp only
  split
  · exact deviceReset_react _ _ _
  · split
    · exact hq
    · split
      · exact deviceReset_react _ _ _
      · exact hq

/-- Every command answers: a reset with a device just reset, an expiry and an access by whether they are carried out, and every
other command with what `settle` leaves. -/
theorem exec_answers (c : Instr) (s : State) : Answers s (exec c s) := by
  cases c
  case coldReset cause => exact answers_reset rfl
  case warmReset cause => exact answers_reset rfl
  case supplyUndervoltage n => exact answers_reset rfl
  case resetNLow n => exact answers_next (resetLow_react s n)
  case resetNRelease =>
    refine answers_next fun hq => ?_
    split
    · exact hq
    · dsimp only
      split
      · exact hq
      · exact deviceReset_react _ _ _
  case supplyRestored =>
    refine answers_next fun hq => ?_
    split
    · dsimp only
      split
      · exact deviceReset_react _ _ _
      · exact hq
    · exact hq
  case armWaitTimeout | sampleNoRequestTimeout | urgencyPersistent | bisnpTimeout | e2eTimeout | holdLimitExpiry |
      safecapExpiry | replayTimeout | renegTimeout | lockTimeout | dcdResponseTimeout | watchdogExpiry | waitTimeout |
      waittTideReached | stagingClaimLapse | hostMessageTimeout | slotPowerGood | faultTimerExpiry =>
    unfold exec; exact answers_atDue (answers_done _)
  case keyExpiry | idxPairTimeout =>
    unfold exec; exact answers_atDue (answers_access _)
  case finalSend | tideErrorLimit | heartbeatMissLimit | standbyProbeStart | standbyProbeEnd | heartbeatLoss |
      reservedCreditLapse =>
    unfold exec; exact answers_atTide (answers_done _)
  case addDcResponse | releaseDc =>
    unfold exec; exact answers_atEnd (answers_done _)
  case registerWrite | registerPairLowRead | sidebandRegisterMessage | gpVWrite | gpCWrite | gpSequenceTimeout | keyArm |
      idxAddrWrite | idxDataRead | idxDataWrite | idxTargetDone | rgwApplied | coreRestart | coreRestartDeferred =>
    unfold exec; exact answers_access _
  case mvreq | mvgo | mvref | mvdata | mvdone | mvget | mvclr | mvabt => unfold exec; exact answers_moveFrame _ _ _
  case armed | commit | cmack | calseg | msgFrame | welcome | refuse | leave | hbeat | heartbeatSend | takeover | linkrep |
      final | tideFrameSend | join =>
    dsimp only [exec, execArmed, execCommit, execCmack, execCalseg, execMsgFrame, execWelcome, execRefuse, execLeave,
      execHbeat, execHeartbeatSend, execTakeover, execLinkrep, execFinal, execTideFrameSend, execJoin]
    split_ifs <;> exact answers_done _
  case hback | probe | snapshotCopyComplete | holdoverEnd =>
    dsimp only [exec, execHback, execProbe, execSnapshotCopyComplete, execHoldoverEnd]
    split <;> exact answers_done _
  case tideParentLost =>
    dsimp only [exec, execTideParentLost]
    split
    · exact answers_done _
    · split_ifs <;> exact answers_done _
  case masterElection =>
    dsimp only [exec, execMasterElection]
    split
    · split_ifs <;> exact answers_done _
    · exact answers_done _
  all_goals exact answers_done _

/-! ### Steps and runs -/

/-- Every step answers too: it runs a command, or the expiries of an ending clock and then the clock's own work. -/
theorem step_answers (s : State) : Answers s (step s) := by
  unfold step
  split
  · obtain ⟨t, e, h⟩ := closeClock_ends (P := Quiet) exec_answers s.deferred { s with deferred := [], closing := true }
    rw [e]
    exact answers_next fun hq => clockTick_react _ (clockEnd_react t (h hq))
  · exact exec_answers _ _

theorem runSafe (n : Nat) (s : State) : RunSafe n s := by
  induction n generalizing s with
  | zero => trivial
  | succ n ih =>
    obtain ⟨t, e, _⟩ := step_answers s
    exact ⟨t, e, ih t⟩

/-- Settles O56: every command answers a next state, and so does every step of a run. -/
theorem everyRunGoesOn : Obligations.EveryRunGoesOn :=
  ⟨fun c s => (exec_answers c s).imp fun _ h => h.1, runSafe⟩

/-- Settles O57: what a step answers owes nothing where the state before it owed nothing. -/
theorem reactionsNeverStayOwed : Obligations.ReactionsNeverStayOwed := by
  unfold Obligations.ReactionsNeverStayOwed
  intro s t hq h
  obtain ⟨u, e, hu⟩ := step_answers s
  cases e.symm.trans h
  exact hu hq

/-- Settles O58. -/
theorem noReactionOwedAtReset : Obligations.NoReactionOwedAtReset := ⟨rfl, rfl, rfl⟩

/-! ### What a step and a settled state are -/

/-- Settles O2: the four equations of `step` and `closeClock`. -/
theorem stepRunsTheFrontCommand : Obligations.StepRunsTheFrontCommand := by
  unfold Obligations.StepRunsTheFrontCommand
  refine ⟨fun _ _ _ => rfl, fun s h => ?_, fun _ => rfl, fun c r s t h => ?_⟩
  · rw [step, h]
  · rw [closeClock, h]

theorem flowN_at_rest {s : State} (hp : pushBis s s.coh.txns = s) (hs : flowStep s = none) (n : Nat) : flowN n s = s := by
  cases n with
  | zero => rfl
  | succ n => simp only [flowN, hp, hs]

/-- Settles O1: nothing owed, nothing carried out; nothing to send, to advance or to queue, no flow. -/
theorem settleAndFlowAtRest : Obligations.SettleAndFlowAtRest := by
  unfold Obligations.SettleAndFlowAtRest
  refine ⟨settle_of_quiet, settle_react, fun s hp hs hm hj => ?_⟩
  rw [flow, flowN_at_rest hp hs]
  simp only [hm, hj, List.append_nil, queueJobs]

end Sys2Proof.Proofs
end

section
/-! PROOF. Tamane words read back, and every legal word is its instruction's (spec/04 R110 to R113, R145): TamaneWordsReadBack. -/

namespace Sys2Proof.Proofs

open Sys2Proof Sys2Proof.Machine Sys2Proof.Laws

/-! ### From an instruction to its word and back -/

theorem shiftInstr_shiftImm (f : Fin 64 → Instr) (k : Fin 64) : shiftInstr f (shiftImm k) = some (f k) := by
  have hk := k.isLt
  have e : (shiftImm k).toNat = k.val := by simp [shiftImm]; omega
  rw [shiftInstr, e, if_pos hk, Fin.ofNat_val_eq_self]

theorem shiftImm_ofNat {imm : BitVec 16} (h : imm.toNat < 64) : shiftImm (Fin.ofNat 64 imm.toNat) = imm := by
  apply BitVec.eq_of_toNat_eq
  simp only [shiftImm, Fin.ofNat, BitVec.toNat_ofNat]
  omega

theorem amoFunc_lt {op : Nat} (h : op < 4) (w u : Bool) : amoFunc op w u < 2048 := by
  cases w <;> cases u <;> simp [amoFunc, b2n] <;> omega

theorem legalInstr_of_aluWord {i : Instr} {w : Word} (h : aluWord i = some w) : ∃ c, legalInstr c w = some i := by
  cases i
  case amoAdd c _ _ _ v | amoSwp c _ _ _ v | amoCas c _ _ _ v =>
    obtain rfl := Option.some.inj h
    exact ⟨c, by rw [legalInstr_amo (amoFunc_lt (by decide) v false)]; cases v <;> rfl⟩
  case amoMax c _ _ _ v u =>
    obtain rfl := Option.some.inj h
    exact ⟨c, by rw [legalInstr_amo (amoFunc_lt (by decide) v u)]; cases v <;> cases u <;> rfl⟩
  case add c _ _ _ | sub c _ _ _ | and c _ _ _ | or c _ _ _ | xor c _ _ _ | sll c _ _ _ | srl c _ _ _ | sra c _ _ _ |
      slt c _ _ _ | sltu c _ _ _ | min c _ _ _ | max c _ _ _ | minu c _ _ _ | maxu c _ _ _ | mul c _ _ _ | mulh c _ _ _ |
      mulhu c _ _ _ | div c _ _ _ | divu c _ _ _ | rem c _ _ _ | remu c _ _ _ =>
    obtain rfl := Option.some.inj h
    exact ⟨c, legalInstr_alu (by decide)⟩
  case popc c _ _ | clz c _ _ | ctz c _ _ =>
    obtain rfl := Option.some.inj h
    exact ⟨c, by rw [legalInstr_alu (by decide)]; simp [aluInstr]⟩
  all_goals cases h

theorem legalInstr_of_immWord {i : Instr} {w : Word} (h : immWord i = some w) : ∃ c, legalInstr c w = some i := by
  cases i
  case slli c _ _ k | srli c _ _ k | srai c _ _ k =>
    obtain rfl := Option.some.inj h
    exact ⟨c, (legalInstr_imm (by decide) (by decide) (by decide) (by decide)).trans (shiftInstr_shiftImm _ k)⟩
  case lui c _ _ | jal c _ _ =>
    obtain rfl := Option.some.inj h
    exact ⟨c, by rw [legalInstr_imm (by decide) (by decide) (by decide) (by decide)]; simp [immInstr]⟩
  case addi c _ _ _ | andi c _ _ _ | ori c _ _ _ | xori c _ _ _ | slti c _ _ _ | sltiu c _ _ _ |
      shori c _ _ _ | jalr c _ _ _ | lb c _ _ _ | lh c _ _ _ | lw c _ _ _ | ld c _ _ _ | lbu c _ _ _ | lhu c _ _ _ |
      lwu c _ _ _ | sb c _ _ _ | sh c _ _ _ | sw c _ _ _ | sd c _ _ _ | beq c _ _ _ | bne c _ _ _ | blt c _ _ _ |
      bge c _ _ _ | bltu c _ _ _ | bgeu c _ _ _ =>
    obtain rfl := Option.some.inj h
    exact ⟨c, legalInstr_imm (by decide) (by decide) (by decide) (by decide)⟩
  all_goals cases h

theorem trapCode_back (code : BitVec 10) :
    BitVec.ofNat 10 ((Fin.ofNat 32 (code.toNat / 32)).val * 32 + (Fin.ofNat 32 code.toNat).val) = code := by
  have := code.isLt
  apply BitVec.eq_of_toNat_eq
  simp only [Fin.ofNat, BitVec.toNat_ofNat]
  omega

theorem trapCode_high (b d : Fin 32) : Fin.ofNat 32 ((BitVec.ofNat 10 (b.val * 32 + d.val)).toNat / 32) = b := by
  have := b.isLt; have := d.isLt
  apply Fin.ext
  simp only [Fin.ofNat, BitVec.toNat_ofNat]
  omega

theorem trapCode_low (b d : Fin 32) : Fin.ofNat 32 (BitVec.ofNat 10 (b.val * 32 + d.val)).toNat = d := by
  have := b.isLt; have := d.isLt
  apply Fin.ext
  simp only [Fin.ofNat, BitVec.toNat_ofNat]
  omega

theorem legalInstr_of_sysWord {i : Instr} {w : Word} (h : sysWord i = some w) : ∃ c, legalInstr c w = some i := by
  cases i
  case fence c sel =>
    obtain rfl := Option.some.inj h
    have hs := sel.isLt
    exact ⟨c, by rw [legalInstr_sys (by decide) (by omega)]; simp [sysInstr, hs]⟩
  case trap c code =>
    obtain rfl := Option.some.inj h
    exact ⟨c, by rw [legalInstr_sys (by decide) (by decide)]; simp only [sysInstr, trapCode_back]; rfl⟩
  case csrr c rd csr =>
    obtain ⟨hc, hw⟩ : csr.val < 14 ∧ wordX rd 0 0 0x04 csr.val = w := by simpa [sysWord] using h
    exact ⟨c, by rw [← hw, legalInstr_sys (by decide) (by omega)]; simp [sysInstr, hc]⟩
  case csrw c rs1 csr =>
    obtain ⟨hc, hw⟩ : csr.val < 14 ∧ wordX 0 rs1 0 0x05 csr.val = w := by simpa [sysWord] using h
    exact ⟨c, by rw [← hw, legalInstr_sys (by decide) (by omega)]; simp [sysInstr, hc]⟩
  case cntr c rd rs1 snap =>
    obtain rfl := Option.some.inj h
    exact ⟨c, by cases snap <;> rw [legalInstr_sys (by decide) (by decide)] <;> simp [sysInstr, b2n]⟩
  case halt c | eret c | tmr c _ _ | tmw c _ _ _ | pmov c _ _ _ | pzero c _ _ | pprobe c _ _ | dqry c _ _ | send c _ _ _ |
      recv c _ _ | wait c _ _ _ | waitt c _ _ _ | tide c _ | rgr c _ _ | rgw c _ _ | setarm c _ =>
    obtain rfl := Option.some.inj h
    exact ⟨c, by rw [legalInstr_sys (by decide) (by decide)]; simp [sysInstr]⟩
  all_goals cases h

theorem legalInstr_of_coreWord {i : Instr} {w : Word} (h : coreWord i = some w) : ∃ c, legalInstr c w = some i := by
  simp only [coreWord, Option.or_eq_some_iff] at h
  obtain h | ⟨_, h | ⟨_, h⟩⟩ := h
  · exact legalInstr_of_aluWord h
  · exact legalInstr_of_immWord h
  · exact legalInstr_of_sysWord h
/-! ### From a word to its instruction and back -/

section
variable {c : Fin 16} {a b d : Fin 32} {i : Instr}

theorem coreWord_of_aluInstr {func : Nat} (h : aluInstr c a b d func = some i) : coreWord i = some (wordA 0 a b d func) := by
  unfold aluInstr at h
  split at h
  case h_22 | h_23 | h_24 =>
    obtain ⟨rfl, e⟩ := Option.ite_none_right_eq_some.1 h
    obtain rfl := Option.some.inj e
    rfl
  case h_25 => cases h
  all_goals (obtain rfl := Option.some.inj h; rfl)

theorem coreWord_of_amoInstr {func : Nat} (h : amoInstr c a b d func = some i) : coreWord i = some (wordA 0x30 a b d func) := by
  have hf : func < 16 := by
    by_contra hn
    simp [amoInstr, if_pos (Nat.not_lt.1 hn)] at h
  interval_cases func <;> cases h <;> rfl

theorem coreWord_of_immInstr {imm : BitVec 16} {op : Nat} (h : immInstr c a b imm op = some i) :
    coreWord i = some (wordI op a b imm) := by
  unfold immInstr at h
  split at h
  case h_7 | h_8 | h_9 =>
    obtain ⟨hi, e⟩ := Option.ite_none_right_eq_some.1 h
    obtain rfl := Option.some.inj e
    exact congrArg (fun x => some (wordI _ a b x)) (shiftImm_ofNat hi)
  case h_10 | h_30 =>
    obtain ⟨rfl, e⟩ := Option.ite_none_right_eq_some.1 h
    obtain rfl := Option.some.inj e
    rfl
  case h_31 => cases h
  all_goals (obtain rfl := Option.some.inj h; rfl)

/-- TMR alone is read whatever stands in its rs2. -/
theorem coreWord_of_sysInstr {xfn arg : Nat} (h : sysInstr c a b d xfn arg = some i) :
    coreWord i = some (wordX a b d xfn arg) ∨ i = .tmr c a b := by
  unfold sysInstr at h
  split at h
  case h_22 => cases h
  all_goals obtain ⟨hz, e⟩ := Option.ite_none_right_eq_some.1 h
  all_goals obtain rfl := Option.some.inj e
  case h_7 => exact Or.inr rfl
  all_goals left
  case h_1 =>
    obtain ⟨rfl, rfl, rfl, ha⟩ := hz
    simp [coreWord, aluWord, immWord, sysWord, Nat.mod_eq_of_lt ha]
  case h_2 =>
    obtain ⟨rfl, rfl⟩ := hz
    exact congrArg₂ (fun x y => some (wordX 0 x y 0x01 0)) (trapCode_high b d) (trapCode_low b d)
  case h_5 | h_6 =>
    obtain ⟨rfl, rfl, ha⟩ := hz
    have hm : arg % 32 = arg := by omega
    simp [coreWord, aluWord, immWord, sysWord, ha, hm]
  case h_18 =>
    obtain ⟨rfl, ha⟩ := hz
    interval_cases arg <;> rfl
  all_goals 
    simp [coreWord, aluWord, immWord, sysWord, hz]

theorem word_of_legalInstr {w : Word} (h : legalInstr c w = some i) : coreWord i = some w ∨
    (∃ a b, i = .tmr c a b) ∧ coreWord i = some (wordX (regField w 21) (regField w 16) 0 0x08 0) := by
  unfold legalInstr at h
  dsimp only at h
  split at h
  case h_1 ho =>
    have hw := wordA_back w
    rw [ho] at hw
    rw [coreWord_of_aluInstr h, hw]
    exact Or.inl rfl
  case h_2 ho =>
    rw [coreWord_of_amoInstr h, ← ho, wordA_back]
    exact Or.inl rfl
  case h_3 ho =>
    obtain h | rfl := coreWord_of_sysInstr h
    · rw [h, wordX, func_back, ← ho, wordA_back]
      exact Or.inl rfl
    · exact Or.inr ⟨⟨_, _, rfl⟩, rfl⟩
  case h_4 =>
    rw [coreWord_of_immInstr h, wordI_back]
    exact Or.inl rfl

end

/-! ### The words that are none -/

theorem fld_eq_regField (w : Word) (lo : Nat) : fld w (lo + 4) lo = (regField w lo).val :=
  have h : lo + 4 + 1 - lo = 5 := by omega
  (congrArg (fun k => w.toNat / 2 ^ lo % 2 ^ k) h).trans (regField_val w lo).symm

theorem isNone_ite_some {α : Type} (p : Prop) [Decidable p] (x : α) : (if p then some x else none).isNone = decide (¬p) := by
  by_cases h : p <;> simp [h]

section
variable (c : Fin 16) (a b d : Fin 32)

theorem aluInstr_isNone (func : Nat) : (aluInstr c a b d func).isNone =
    (!aluFuncs.contains func || (decide (0x20 ≤ func) && decide (d ≠ 0))) := by
  unfold aluInstr
  split
  case h_22 | h_23 | h_24 => by_cases hd : d = 0 <;> simp [hd, aluFuncs]
  case h_25 => simp_all [aluFuncs]
  all_goals rfl

theorem amoInstr_isNone (func : Nat) : (amoInstr c a b d func).isNone =
    (decide (16 ≤ func) || (func.testBit 3 && decide (func % 4 ≠ 3))) := by
  by_cases h : 16 ≤ func
  · simp [amoInstr, h]
  · interval_cases func <;> rfl

theorem sysInstr_isNone (w : Word) :
    (sysInstr c (regField w 21) (regField w 16) (regField w 11) (fld w 10 5) (fld w 4 0)).isNone = illegalX w := by
  unfold illegalX
  dsimp only
  have h1 : fld w 25 21 = (regField w 21).val := fld_eq_regField w 21
  have h2 : fld w 20 16 = (regField w 16).val := fld_eq_regField w 16
  have h3 : fld w 15 11 = (regField w 11).val := fld_eq_regField w 11
  rw [h1, h2, h3]
  generalize fld w 10 5 = xfn, fld w 4 0 = arg
  unfold sysInstr
  split
  case h_22 => simp only [Option.isNone_none, *]
  all_goals
    simp only [isNone_ite_some, Fin.val_eq_zero_iff, not_and_or, not_lt, ne_eq]

end

/-- A 16-bit field is a shift amount when its high bits are clear. -/
theorem immField_lt (w : Word) : (immField w).toNat < 64 ↔ fld w 15 6 = 0 := by
  simp only [immField, fld, nfld, BitVec.toNat_ofNat]
  norm_num
  omega

theorem shiftInstr_isNone (f : Fin 64 → Instr) (w : Word) : (shiftInstr f (immField w)).isNone = decide (fld w 15 6 ≠ 0) := by
  simp only [shiftInstr, isNone_ite_some, immField_lt, ne_eq]

/-- The fields that opcode 0x30 divides func into. -/
theorem amoFields (w : Word) : (fld w 10 4 ≠ 0 ↔ 16 ≤ fld w 10 0) ∧ bit w 3 = (fld w 10 0).testBit 3 ∧
    fld w 1 0 = fld w 10 0 % 4 := by
  refine ⟨?_, ?_, ?_⟩
  · simp only [fld, nfld]; norm_num; omega
  · rw [bit, fld, testBit_nfld]; rfl
  · simp only [fld, nfld]; norm_num

theorem illegalWord_eq (c : Fin 16) (w : Word) : illegalWord w = (legalInstr c w).isNone := by
  unfold illegalWord legalInstr
  dsimp only
  have hs : fld w 20 16 = (regField w 16).val := fld_eq_regField w 16
  have hd : fld w 15 11 = (regField w 11).val := fld_eq_regField w 11
  split
  case h_1 ho => simp only [ho, aluInstr_isNone, hd, ne_eq, Fin.val_eq_zero_iff]
  case h_2 ho | h_3 ho | h_4 ho => simp only [ho, immInstr, shiftInstr_isNone]
  case h_5 ho | h_6 ho => simp only [ho, immInstr, isNone_ite_some, hs, ne_eq, Fin.val_eq_zero_iff]
  case h_7 ho =>
    obtain ⟨hu, h3, hm⟩ := amoFields w
    simp only [ho, amoInstr_isNone, hu, h3, hm]
  case h_8 ho => simp only [ho, sysInstr_isNone]
  case h_9 =>
    have ho : fld w 31 26 < 64 := by unfold fld nfld; omega
    generalize fld w 31 26 = op at *
    interval_cases op <;> simp_all [immInstr]

/-- Settles O59. -/
theorem tamaneWordsReadBack : Obligations.TamaneWordsReadBack :=
  ⟨fun _ _ => legalInstr_of_coreWord, fun _ _ _ => word_of_legalInstr, illegalWord_eq⟩

end Sys2Proof.Proofs
end

section
/-! PROOF. Integer instructions on a core that issues (spec/04 R103, R113): IntegerInstructions. -/

namespace Sys2Proof.Proofs

open Sys2Proof Sys2Proof.Machine Sys2Proof.Laws

section
variable {α : Type}

/-- What an instruction that works on rs1 and rs2 by `f` ends with. -/
theorem alu_ends {i : Fin 16 → Fin 32 → Fin 32 → Fin 32 → Instr} {f : DWord → DWord → DWord}
    (h : ∀ c rd rs1 rs2 s, exec (i c rd rs1 rs2) s = done (alu s c rd rs1 rs2 f)) (s : State) (c : Fin 16)
    (rd rs1 rs2 : Fin 32) (a b : DWord) (hi : Issuing s c) (ha : getT s c rs1 = a) (hb : getT s c rs2 = b) :
    exec (i c rd rs1 rs2) s = .next (settle (coreDone s c rd (f a b))) := by
  rw [h, alu_issuing hi, ha, hb, done_eq]

theorem alu1_issuing {s : State} {c : Fin 16} (hi : Issuing s c) (rd rs1 : Fin 32) (f : DWord → DWord) :
    alu1 s c rd rs1 f = coreDone s c rd (f (getT s c rs1)) := onIssue_issuing _ hi

/-- The same of rs1 alone. -/
theorem alu1_ends {i : Fin 16 → Fin 32 → Fin 32 → Instr} {f : DWord → DWord}
    (h : ∀ c rd rs1 s, exec (i c rd rs1) s = done (alu1 s c rd rs1 f)) (s : State) (c : Fin 16)
    (rd rs1 : Fin 32) (a : DWord) (hi : Issuing s c) (ha : getT s c rs1 = a) :
    exec (i c rd rs1) s = .next (settle (coreDone s c rd (f a))) := by
  rw [h, alu1_issuing hi, ha, done_eq]

/-- The same of rs1 and an immediate. -/
theorem aluImm_ends {i : Fin 16 → Fin 32 → Fin 32 → α → Instr} {f : α → DWord → DWord}
    (h : ∀ c rd rs1 x s, exec (i c rd rs1 x) s = done (alu1 s c rd rs1 (f x))) (s : State) (c : Fin 16)
    (rd rs1 : Fin 32) (x : α) (a : DWord) (hi : Issuing s c) (ha : getT s c rs1 = a) :
    exec (i c rd rs1 x) s = .next (settle (coreDone s c rd (f x a))) := alu1_ends (fun c rd rs1 => h c rd rs1 x) s c rd rs1 a hi ha

end

/-- Settles O14: each instruction is one of the three forms, but LUI, which reads no register. -/
theorem integerInstructions : Obligations.IntegerInstructions := by
  unfold Obligations.IntegerInstructions
  refine ⟨alu_ends exec_add, alu_ends exec_sub, alu_ends exec_and, alu_ends exec_or, alu_ends exec_xor, alu_ends exec_sll,
    alu_ends exec_srl, alu_ends exec_sra, alu_ends exec_slt, alu_ends exec_sltu, alu_ends exec_min, alu_ends exec_max,
    alu_ends exec_minu, alu_ends exec_maxu, alu_ends exec_mul, alu_ends exec_mulh, alu_ends exec_mulhu, alu_ends exec_div,
    alu_ends exec_divu, alu_ends exec_rem, alu_ends exec_remu, alu1_ends exec_popc, alu1_ends exec_clz, alu1_ends exec_ctz,
    aluImm_ends exec_addi, aluImm_ends exec_andi, aluImm_ends exec_ori, aluImm_ends exec_xori, aluImm_ends exec_slti,
    aluImm_ends exec_sltiu, aluImm_ends exec_shori, aluImm_ends exec_slli, aluImm_ends exec_srli, aluImm_ends exec_srai, ?_⟩
  intro s c rd x hi
  rw [exec_lui, execLui, onIssue_issuing _ hi, done_eq]
  rfl

end Sys2Proof.Proofs
end

section
/-! PROOF. Expiries in the clock or tide of their own deadline (spec/00 R13 to R16): ExpiriesGiveWayInTheirClock. -/

namespace Sys2Proof.Proofs

open Sys2Proof Sys2Proof.Machine Sys2Proof.Laws

theorem atDue_one_waits {s : State} {i : Timer} {due : Option Nat} {f : State → Host.Outcome State Fault Refusal}
    (h : due = some s.clock) (hc : s.closing = false) : atDue i 1 due s f = .next { s with deferred := s.deferred ++ [i] } :=
  atDue_waits (h.trans (congrArg some (Nat.div_one _).symm)) hc

/-- Settles O60: each of these commands is an expiry with its deadline, in core clocks, paludier clocks or tides. -/
theorem expiriesGiveWayInTheirClock : Obligations.ExpiriesGiveWayInTheirClock := by
  unfold Obligations.ExpiriesGiveWayInTheirClock
  refine ⟨fun _ _ h hc => (exec_keyExpiry _ _).trans (atDue_one_waits h hc),
    fun _ _ h hc => (exec_idxPairTimeout _ _).trans (atDue_one_waits h hc),
    fun _ h hc => (exec_holdLimitExpiry _).trans (atDue_one_waits h hc),
    fun _ h hc => (exec_safecapExpiry _).trans (atDue_one_waits h hc),
    fun _ _ hw h hc => (exec_watchdogExpiry _ _).trans (atDue_waits ((if_neg hw).trans h) hc),
    fun _ _ h hc => (exec_waitTimeout _ _).trans (atDue_waits h hc),
    fun _ _ h hc => (exec_waittTideReached _ _).trans (atDue_waits h hc),
    fun _ h hc => (exec_stagingClaimLapse _).trans (atDue_one_waits h hc),
    fun _ _ _ h hc => (exec_hostMessageTimeout _ _ _).trans (atDue_one_waits h hc),
    fun _ h hc => (exec_armWaitTimeout _).trans (atDue_one_waits h hc),
    fun _ _ _ h hc => (exec_bisnpTimeout _ _ _).trans (atDue_one_waits h hc),
    fun _ _ h hc => (exec_dcdResponseTimeout _ _).trans (atDue_one_waits h hc),
    fun _ h hc => (exec_urgencyPersistent _).trans (atDue_one_waits h hc),
    fun _ _ h hc => (exec_sampleNoRequestTimeout _ _).trans (atDue_one_waits h hc),
    fun _ h hc => (exec_finalSend _).trans (atTide_waits h hc),
    fun _ h hc => (exec_tideErrorLimit _).trans (atTide_waits h hc),
    fun _ h hc => (exec_heartbeatMissLimit _).trans (atTide_waits h hc),
    fun _ h hc => (exec_standbyProbeStart _).trans (atTide_waits h hc),
    fun _ h hc => (exec_standbyProbeEnd _).trans (atTide_waits h hc),
    fun _ h hc => (exec_heartbeatLoss _).trans (atTide_waits h hc),
    fun _ h hc => (exec_reservedCreditLapse _).trans (atTide_waits h hc)⟩

end Sys2Proof.Proofs
end

section
/-! PROOF. The CXL.mem requests of a logical device (spec/06 R203, R207 to R211, R234; spec/10 R353; spec/03 R70): HostRequests. -/

namespace Sys2Proof.Proofs

open Sys2Proof Sys2Proof.Machine Sys2Proof.Laws

/-- The requests that write, and those that change the line. -/
abbrev writes (k : ReqKind) : Bool := decide (k = .memWr ∨ k = .memWrPtl)
abbrev changesLine (k : ReqKind) : Bool := writes k || decide (k = .memInv ∨ k = .memInvNT)

/-! ### What becomes of a request at its port -/

section
variable {s : State} {i : Instr} {k : ReqKind} {ld tag hpa a mask : Nat} {d : Line} {p h : Bool}

theorem hostRequest_beyondCredits (hu : HostUp s ld) (hc : noCredit s ld = true) :
    hostRequest s i k ld tag hpa d mask p = refuseAtPort s k ld tag 17 0 := by
  unfold hostRequest
  simp only [hu.1, hu.2, hc, Bool.not_true, decide_false, Bool.or_self, Bool.false_eq_true, if_false, if_true]

/-- The checks of ingress do not look at the counters. -/
theorem ingressPasses_counted (w : Bool) {c : Bool} (hp : IngressPasses s ld a c) : IngressPasses (counted s ld w) ld a c := by
  obtain ⟨m, hm⟩ := counted_eq s ld w
  rw [hm]
  exact hp

theorem badTagres_counted (w : Bool) (n : Nat) : badTagres (counted s ld w) ld n = badTagres s ld n := by
  obtain ⟨m, hm⟩ := counted_eq s ld w
  rw [hm]
  rfl

theorem tagres_counted (w : Bool) (n : Nat) : tagres (counted s ld w) ld n = tagres s ld n := by
  obtain ⟨m, hm⟩ := counted_eq s ld w
  rw [hm]
  rfl

theorem inExtent_counted (w : Bool) (n : Nat) : inExtent (counted s ld w) ld n = inExtent s ld n := by
  obtain ⟨m, hm⟩ := counted_eq s ld w
  rw [hm]
  rfl

theorem code_counted (w : Bool) : (counted s ld w).code = s.code := tick_code s _ _ _

variable (hu : HostTakes s ld) (hh : holding s = false) (hd : ldDecode s ld hpa = some (a, h))
include hu hh hd

theorem hostRequest_parity (hb : badTagres s ld (a / 2 ^ 46 % 16) = true) : hostRequest s i k ld tag hpa d mask p =
    answerAtPort (reloadTag (counted s ld (writes k)) ld (a / 2 ^ 46 % 16)) k ld tag 0 true := by
  rw [hostRequest_claimed hu hh hd, hostIngress]
  exact if_pos ((badTagres_counted _ _).trans hb)

theorem hostRequest_window (hb : badTagres s ld (a / 2 ^ 46 % 16) = false)
    (h8 : (tagres s ld (a / 2 ^ 46 % 16)).testBit 31 = false) : hostRequest s i k ld tag hpa d mask p =
    refuseAtPort (counted s ld (writes k)) k ld tag 8 (a % 2 ^ 46 / 64 * 64) := by
  rw [hostRequest_claimed hu hh hd]
  exact hostIngress_window ((badTagres_counted _ _).trans hb) (by rw [tagres_counted]; exact h8)

theorem hostRequest_extent (hb : badTagres s ld (a / 2 ^ 46 % 16) = false)
    (h8 : (tagres s ld (a / 2 ^ 46 % 16)).testBit 31 = true) (h7 : inExtent s ld (a % 2 ^ 46 / 64 * 64) = false) :
    hostRequest s i k ld tag hpa d mask p = refuseAtPort (counted s ld (writes k)) k ld tag 7 (a % 2 ^ 46 / 64 * 64) := by
  rw [hostRequest_claimed hu hh hd]
  exact hostIngress_extent ((badTagres_counted _ _).trans hb) (by rw [tagres_counted]; exact h8)
    ((inExtent_counted _ _).trans h7)

theorem hostRequest_safe (hi : IngressPasses s ld a (changesLine k)) (hm : s.code = Mode.safe)
    (hw : (writes k && p) = false) :
    hostRequest s i k ld tag hpa d mask p = answerAtPort (counted s ld (writes k)) k ld tag 0 true := by
  rw [hostRequest_claimed hu hh hd]
  exact hostIngress_safe (ingressPasses_counted _ hi) ((code_counted _).trans hm) hw

theorem hostRequest_passes (hi : IngressPasses s ld a (changesLine k)) (hm : s.code ≠ Mode.safe)
    (hw : (writes k && p) = false)
    (hr : asWriteback (takeId (counted s ld (writes k))).1 (hostReq s k ld tag a h d mask p) ld tag = none) :
    hostRequest s i k ld tag hpa d mask p =
      submit (takeId (counted s ld (writes k))).1 (hostReq s k ld tag a h d mask p) := by
  rw [hostRequest_claimed hu hh hd, hostIngress_passes (ingressPasses_counted _ hi) (by rw [code_counted]; exact hm) hw
    (by rw [hostReq_counted]; exact hr), hostReq_counted]

end

/-! ### The commands, by the kind of request each makes -/

/-- A command makes a host's request of a kind, with its data, mask and poison. -/
def Requests (i : Instr) (ld tag hpa : Nat) (k : ReqKind) (d : Line) (mask : Nat) (p : Bool) : Prop :=
  ∀ s, exec i s = .next (settle (hostRequest s i k ld tag hpa d mask p))

section
variable {ld : Fin 256} {tag hpa : Nat}

theorem requests_memRd (x : Snoop) : Requests (.memRd ld tag hpa x) ld tag hpa (snoopKindOf x) 0 0 false := fun _ => rfl

theorem requests_memRdData : Requests (.memRdData ld tag hpa) ld tag hpa .memRdData 0 0 false := fun _ => rfl

theorem requests_memInv : Requests (.memInv ld tag hpa) ld tag hpa .memInv 0 0 false := fun _ => rfl

theorem requests_memInvNt : Requests (.memInvNt ld tag hpa) ld tag hpa .memInvNT 0 0 false := fun _ => rfl

theorem requests_memSpecRd : Requests (.memSpecRd ld tag hpa) ld tag hpa .memSpecRd 0 0 false := fun _ => rfl

theorem requests_memClnEvct : Requests (.memClnEvct ld tag hpa) ld tag hpa .memClnEvct 0 0 false := fun _ => rfl

theorem requests_memWr (d : Line) (q : Bool) :
    Requests (.memWr ld tag hpa d q) ld tag hpa .memWr d (2 ^ 64 - 1) q := fun _ => rfl

theorem requests_memWrPtl (d : Line) (b : BitVec 64) (q : Bool) :
    Requests (.memWrPtl ld tag hpa d b q) ld tag hpa .memWrPtl d b.toNat q := fun _ => rfl

/-- What holds of every request holds of each of the eight commands; a request without data carries no poison. -/
theorem each_host_command {s : State} {x : Snoop} {d : Line} {b : BitVec 64} {q : Bool} (f : Instr → ReqKind → Bool → State)
    (h : ∀ i k e m p, (p = true → q = true) → hostRequest s i k ld tag hpa e m p = f i k (writes k)) :
    exec (.memRd ld tag hpa x) s = .next (settle (f (.memRd ld tag hpa x) (snoopKindOf x) false)) ∧
    exec (.memRdData ld tag hpa) s = .next (settle (f (.memRdData ld tag hpa) .memRdData false)) ∧
    exec (.memInv ld tag hpa) s = .next (settle (f (.memInv ld tag hpa) .memInv false)) ∧
    exec (.memInvNt ld tag hpa) s = .next (settle (f (.memInvNt ld tag hpa) .memInvNT false)) ∧
    exec (.memSpecRd ld tag hpa) s = .next (settle (f (.memSpecRd ld tag hpa) .memSpecRd false)) ∧
    exec (.memClnEvct ld tag hpa) s = .next (settle (f (.memClnEvct ld tag hpa) .memClnEvct false)) ∧
    exec (.memWr ld tag hpa d q) s = .next (settle (f (.memWr ld tag hpa d q) .memWr true)) ∧
    exec (.memWrPtl ld tag hpa d b q) s = .next (settle (f (.memWrPtl ld tag hpa d b q) .memWrPtl true)) := by
  have hf : ∀ {i k e m}, Requests i ld tag hpa k e m false → exec i s = .next (settle (f i k (writes k))) :=
    fun hi => by rw [hi, h _ _ _ _ false (fun e => absurd e Bool.false_ne_true)]
  have hq : ∀ {i k e m}, Requests i ld tag hpa k e m q → exec i s = .next (settle (f i k (writes k))) :=
    fun hi => by rw [hi, h _ _ _ _ _ id]
  refine ⟨?_, hf requests_memRdData, hf requests_memInv, hf requests_memInvNt, hf requests_memSpecRd, hf requests_memClnEvct,
    hq (requests_memWr d q), hq (requests_memWrPtl d b q)⟩
  cases x <;> exact hf (requests_memRd _)

end

section
variable {s : State} {i : Instr} {k : ReqKind} {ld tag hpa a mask : Nat} {d : Line} {h : Bool}

/-- A request that does not write is never the writeback of a recall. -/
theorem exec_read_passes {e : Line} {p : Bool} (hi : Requests i ld tag hpa k e mask p) (hk : writes k = false) (hu : HostTakes s ld)
    (hh : holding s = false) (hd : ldDecode s ld hpa = some (a, h)) (hp : IngressPasses s ld a (changesLine k))
    (hm : s.code ≠ Mode.safe) : exec i s =
      .next (settle (submit (takeId (counted s ld false)).1 (hostReq s k ld tag a h e mask p))) := by
  rw [hi, hostRequest_passes hu hh hd hp hm (by rw [hk]; rfl) (if_neg (of_decide_eq_false hk)), hk]

theorem exec_write_passes (hi : Requests i ld tag hpa k d mask false) (hk : writes k = true) (hu : HostTakes s ld)
    (hh : holding s = false) (hd : ldDecode s ld hpa = some (a, h)) (hp : IngressPasses s ld a true)
    (hm : s.code ≠ Mode.safe) (hb : s.coh.txns.find? (fun t => t.bi.contains (lineName s
      (poolTarget s (a % 2 ^ 46 / 64 * 64)).1 (poolTarget s (a % 2 ^ 46 / 64 * 64)).2, ld)) = none) : exec i s =
      .next (settle (submit (takeId (counted s ld true)).1 (hostReq s k ld tag a h d mask false))) := by
  rw [hi, hostRequest_passes hu hh hd (by rw [changesLine, hk]; exact hp) hm (Bool.and_false _) (asWriteback_none hb), hk]

end

/-- Settles O32: the eight commands make one kind of request each, whose course the port and the checks of ingress decide. -/
theorem hostRequests : Obligations.HostRequests := by
  unfold Obligations.HostRequests
  refine ⟨?_, fun _ _ _ _ _ _ hu hh hd hp hm => exec_read_passes requests_memRdData rfl hu hh hd hp hm,
    fun _ _ _ _ _ _ hu hh hd hp hm => exec_read_passes requests_memInv rfl hu hh hd hp hm,
    fun _ _ _ _ _ _ hu hh hd hp hm => exec_read_passes requests_memInvNt rfl hu hh hd hp hm,
    fun _ _ _ _ _ _ hu hh hd hp hm => exec_read_passes requests_memSpecRd rfl hu hh hd hp hm,
    fun _ _ _ _ _ _ hu hh hd hp hm => exec_read_passes requests_memClnEvct rfl hu hh hd hp hm,
    fun _ _ _ _ _ _ d hu hh hd hp hm hb => exec_write_passes (requests_memWr d false) rfl hu hh hd hp hm hb,
    fun _ _ _ _ _ _ d b hu hh hd hp hm hb => exec_write_passes (requests_memWrPtl d b false) rfl hu hh hd hp hm hb,
    ?_, ?_, ?_, ?_, ?_, ?_, ?_⟩
  · intro s ld tag hpa a h x hu hh hd hp hm
    cases x <;> exact exec_read_passes (requests_memRd _) rfl hu hh hd hp hm
  · intro s ld tag hpa x d b q hu
    exact each_host_command (fun _ _ _ => s) fun _ _ _ _ _ _ => hostRequest_down hu
  · intro s ld tag hpa x d b q hu hh
    exact each_host_command (fun i _ _ => { s with port := { s.port with held := s.port.held ++ [i] } })
      fun _ _ _ _ _ _ => hostRequest_held hu hh
  · intro s ld tag hpa x d b q hu hc
    exact each_host_command (fun _ k _ => refuseAtPort s k ld tag 17 0) fun _ _ _ _ _ _ => hostRequest_beyondCredits hu hc
  · intro s ld tag hpa x d b q a h hu hh hd hb
    exact each_host_command (fun _ k w => answerAtPort (reloadTag (counted s ld w) ld (a / 2 ^ 46 % 16)) k ld tag 0 true)
      fun _ _ _ _ _ _ => hostRequest_parity hu hh hd hb
  · intro s ld tag hpa x d b q a h hu hh hd hb h8
    exact each_host_command (fun _ k w => refuseAtPort (counted s ld w) k ld tag 8 (a % 2 ^ 46 / 64 * 64))
      fun _ _ _ _ _ _ => hostRequest_window hu hh hd hb h8
  · intro s ld tag hpa x d b q a h hu hh hd hb h8 h7
    exact each_host_command (fun _ k w => refuseAtPort (counted s ld w) k ld tag 7 (a % 2 ^ 46 / 64 * 64))
      fun _ _ _ _ _ _ => hostRequest_extent hu hh hd hb h8 h7
  · intro s ld tag hpa x d b a h hu hh hd hp hm
    refine each_host_command (fun _ k w => answerAtPort (counted s ld w) k ld tag 0 true)
      fun _ _ _ _ p hq => hostRequest_safe hu hh hd ⟨hp.1, hp.2.1, hp.2.2.1, fun _ => hp.2.2.2 rfl⟩ hm ?_
    cases p
    · exact Bool.and_false _
    · exact absurd (hq rfl) (by decide)

end Sys2Proof.Proofs
end

section
/-! PROOF. The mailbox commands that answer or act at once (spec/06 R222 to R228; spec/21 R686): MailboxCommands. -/

namespace Sys2Proof.Proofs

open Sys2Proof Sys2Proof.Machine Sys2Proof.Laws

section
variable {s : State} {m : Issuer} {ld : Nat}

/-! ### The mailbox that a command comes through -/

section
variable {i : Instr} (hi : s.inReset = false) (hf : firmwareRuns s = true)
include hi hf

theorem ldMailbox_of_running (f : Nat → State → State) (hl : issuerLd m = some ld) : ldMailbox s m f = f ld s := by
  rw [ldMailbox, mailbox_of_running _ _ hi hf, hl]

theorem exec_mailbox {f : State → State} (h : ∀ s, exec i s = done (mailbox s m f)) : exec i s = .next (settle (f s)) := by
  rw [h, mailbox_of_running _ _ hi hf, done_eq]

theorem exec_ldMailbox {f : Nat → State → State} (h : ∀ s, exec i s = done (ldMailbox s m f)) (hl : issuerLd m = some ld) :
    exec i s = .next (settle (f ld s)) := by
  rw [h, ldMailbox_of_running hi hf f hl, done_eq]

theorem exec_ldMailbox_flow {f : Nat → State → State} (h : ∀ s, exec i s = flowDone (ldMailbox s m f))
    (hl : issuerLd m = some ld) : exec i s = .next (settle (flow (f ld s))) := by
  rw [h, ldMailbox_of_running hi hf f hl, flowDone_eq]

theorem exec_loadMailbox {f : State → State} (h : ∀ s, exec i s = done (loadMailbox s m f)) (hm : mayLoad s m = true) :
    exec i s = .next (settle (f s)) := by
  rw [h, loadMailbox_of_allowed f hi hf hm, done_eq]

end

theorem mailbox_of_stopped (f : State → State) (hi : s.inReset = false) (hf : firmwareRuns s = false) :
    mailbox s m f = reply s m rcUnsupported [] := by
  simp only [mailbox, hi, hf, Bool.false_eq_true, if_false]

/-! ### Background commands (R228) -/

theorem background_of_free {op : Nat} {body : State → State} (hb : s.port.bg = none)
    (hk : (body { s with port := { s.port with bg := some (issuerKey m, op) } }).port.bg.isSome = true) :
    background s m op body = reply (body { s with port := { s.port with bg := some (issuerKey m, op) } }) m rcBackground [] := by
  simp only [background, hb, Option.isSome_none, Bool.false_eq_true, if_false, hk, if_true]

/-! ### What each command does -/

theorem clearEvents_of_held {log n : Nat} (h0 : n ≠ 0) (hn : n ≤ (smGet [] s.evt.logs (4 * ld + log)).length) :
    clearEvents s m ld log n = reply { s with evt := { s.evt with
      logs := smSet [] s.evt.logs (4 * ld + log) ((smGet [] s.evt.logs (4 * ld + log)).drop n)
      full := s.evt.full.filter (fun x => decide (x ≠ 4 * ld + log)) } } m rcSuccess [] := by
  rw [clearEvents, if_neg (Nat.not_lt.2 hn), if_neg h0]

theorem clearEvents_of_beyond {log n : Nat} (hn : (smGet [] s.evt.logs (4 * ld + log)).length < n) :
    clearEvents s m ld log n = reply s m rcHandle [] := if_pos hn

theorem transferFw_of_idle {x : Bool} {off : Nat} {d : List Byte} (hx : b2n x = idleImage s) (hd : off + d.length ≤ 0x400000)
    (hb : fwBusy s = false) : transferFw s m x off d = reply (putNor s (norSlot (b2n x) + off) d) m rcSuccess [] := by
  rw [transferFw, if_neg (not_not.2 hx), if_neg (Nat.not_lt.2 hd), if_neg (by rw [hb]; exact Bool.false_ne_true)]

theorem stageStart_of_free {how : Nat} (hb : fwBusy s = false) (hg : s.sets.staging = none) : stageStart s how =
    { s.setBit Reg.PAL_FWSTAT 31 true with sec := { s.sec with fwCmd := some (1, norImage s (idleImage s), how) } } := by
  rw [stageStart, hb, hg]
  rfl

theorem activateFw_of_idle {t : State} {x o : Bool} (hx : b2n x = idleImage s) (hp : s.port.bg = none) (hb : fwBusy s = false)
    (hg : s.sets.staging = none) (ht : t = { s with port := { s.port with bg := some (issuerKey m, 0x0202) } }) :
    activateFw s m x o = reply { t.setBit Reg.PAL_FWSTAT 31 true with
      sec := { t.sec with fwCmd := some (1, norImage t (idleImage t), if o then 1 else 2) } } m rcBackground [] := by
  subst ht
  have hs := stageStart_of_free (s := { s with port := { s.port with bg := some (issuerKey m, 0x0202) } })
    (how := if o then 1 else 2) hb hg
  rw [activateFw, if_neg (not_not.2 hx), background_of_free hp (by rw [hs]; rfl), hs]

theorem clearPoison_of_window {a : Nat} {d : Line} (hl : ld < 256) (hv : (tagres s ld (a / 2 ^ 46 % 16)).testBit 31 = true)
    (hw : (tagres s ld (a / 2 ^ 46 % 16)).testBit 30 = false) (he : inExtent s ld (a % 2 ^ 46) = true) (hm : s.code ≠ Mode.safe) :
    clearPoison s m ld a d = reply (poisonWrite s ld a d false) m rcSuccess [] := by
  refine if_neg ?_
  simp only [hv, hw, he, hm, Bool.not_true, Bool.false_eq_true, or_false, not_le]
  exact hl

theorem scanMedia_of_range {a b : Nat} (hab : a ≤ b) (hb : b < 2 ^ 46) : scanMedia s m a b =
    if s.bit Reg.RAKE_STAT 31 then reply s m rcBusy [] else background s m 0x4304 (fun s =>
      let s := (s.setF Reg.RAKE_FIRST_LO 31 12 (a / 4096)).setF Reg.RAKE_FIRST_HI 13 0 (a / 2 ^ 32)
      let s := (s.setF Reg.RAKE_LAST_LO 31 12 (b / 4096)).setF Reg.RAKE_LAST_HI 13 0 (b / 2 ^ 32)
      rakeStart s) := if_neg (by omega)

theorem scanMedia_of_free {a b : Nat} (hab : a ≤ b) (hb : b < 2 ^ 46) (hr : s.bit Reg.RAKE_STAT 31 = false)
    (hp : s.port.bg = none) (hk : (scanArm s m a b).port.bg.isSome = true) :
    scanMedia s m a b = reply (scanArm s m a b) m rcBackground [] := by
  rw [scanMedia_of_range hab hb, if_neg (by rw [hr]; exact Bool.false_ne_true)]
  unfold scanArm at hk ⊢
  exact background_of_free hp hk

end

/-- Settles O28: each command comes through its mailbox, and then does its one thing. -/
theorem mailboxCommands : Obligations.MailboxCommands := by
  unfold Obligations.MailboxCommands
  refine ⟨fun _ _ _ _ hi hf hl => exec_ldMailbox hi hf (exec_getEventRecords _ _) hl,
    fun _ _ _ hi hf hl => exec_ldMailbox hi hf (exec_getEventInterruptPolicy _) hl,
    fun _ _ _ hi hf hl => exec_ldMailbox hi hf (exec_getTimestamp _) hl,
    fun _ _ _ hi hf hl => exec_ldMailbox hi hf (exec_getSupportedLogs _) hl,
    fun _ _ _ _ hi hf hl => exec_ldMailbox hi hf (exec_getLog _ _) hl,
    fun _ _ _ hi hf hl => exec_ldMailbox hi hf (exec_identifyMemoryDevice _) hl,
    fun _ _ _ hi hf hl => exec_ldMailbox hi hf (exec_getPoisonList _) hl,
    fun _ _ _ hi hf hl => exec_ldMailbox hi hf (exec_getScanMediaCapabilities _) hl,
    fun _ _ _ hi hf hl => exec_ldMailbox hi hf (exec_getScanMediaResults _) hl,
    fun _ _ _ hi hf hl => exec_ldMailbox hi hf (exec_getDcConfiguration _) hl,
    fun _ _ _ hi hf hl => exec_ldMailbox hi hf (exec_getDcExtentList _) hl,
    fun _ _ _ hi hf hl => exec_ldMailbox hi hf (exec_getFwInfo _) hl,
    fun _ _ hi hf => exec_mailbox hi hf (exec_getLdInfo _),
    fun _ _ hi hf => exec_mailbox hi hf (exec_getLdAllocations _),
    fun _ _ hi hf hm => exec_loadMailbox hi hf (exec_glxGetLoadStatus _) hm,
    fun _ _ hi hf => exec_mailbox hi hf (exec_glxGetAliasLayout _),
    fun _ _ hi hf => ⟨exec_mailbox hi hf (exec_glxGetReadiness _), exec_mailbox hi hf (exec_glxGetReadiness _)⟩,
    ?_, ?_, ?_, ?_,
    fun _ _ _ _ hi hf hl => exec_ldMailbox hi hf (exec_setEventInterruptPolicy _ _) hl,
    fun _ _ _ _ hi hf hl => exec_ldMailbox hi hf (exec_setTimestamp _ _) hl, ?_, ?_, ?_, ?_, ?_, ?_, ?_, ?_⟩
  · intro s m op hi hf hn
    rw [exec_mailbox hi hf (exec_mailboxUnsupported _ _), if_neg (by rw [hn]; exact Bool.false_ne_true)]
  · intro s m hi hf
    rw [exec_getTimestamp, exec_glxGetReadiness, execGetTimestamp, execGlxGetReadiness, ldMailbox, mailbox_of_stopped _ hi hf,
      mailbox_of_stopped _ hi hf, done_eq]
    exact ⟨rfl, rfl⟩
  · intro s m ld log n hi hf hl h0 hn
    rw [exec_ldMailbox hi hf (exec_clearEventRecords _ _ _) hl, clearEvents_of_held h0 hn]
  · intro s m ld log n hi hf hl hn
    rw [exec_ldMailbox hi hf (exec_clearEventRecords _ _ _) hl, clearEvents_of_beyond hn]
  · intro s m ld x off d hi hf hl hx hd hb
    rw [exec_ldMailbox hi hf (exec_transferFw _ _ _ _) hl, transferFw_of_idle hx hd hb]
  · intro s t m ld x o hi hf hl hx hp hb hg ht
    rw [exec_ldMailbox hi hf (exec_activateFw _ _ _) hl, activateFw_of_idle hx hp hb hg ht]
  · intro s m ld a d hi hf hl h256 hv hw he hm
    rw [exec_ldMailbox_flow hi hf (exec_clearPoison _ _ _) hl, clearPoison_of_window h256 hv hw he hm]
  · intro s m ld a hi hf hl hm
    rw [exec_ldMailbox_flow hi hf (exec_injectPoison _ _) hl, injectPoison, if_neg (not_not.2 hm)]
  · intro s m ld a hi hf hl hm
    rw [exec_ldMailbox_flow hi hf (exec_injectPoison _ _) hl, injectPoison, if_pos hm]
  · intro s m ld a b hi hf hl hab hb hr
    rw [exec_ldMailbox hi hf (exec_scanMedia _ _ _) hl, scanMedia_of_range hab hb, if_pos hr]
  · intro s m ld a b hi hf hl h
    rw [exec_ldMailbox hi hf (exec_scanMedia _ _ _) hl, scanMedia, if_pos h]
  · intro s m ld a b hi hf hl hab hb hr hp hk
    rw [exec_ldMailbox hi hf (exec_scanMedia _ _ _) hl, scanMedia_of_free hab hb hr hp hk]

end Sys2Proof.Proofs
end

section
/-! PROOF. SPDM messages and IDE keys (spec/17 R603 to R606; spec/06 R197): Attestation. -/

namespace Sys2Proof.Proofs

open Sys2Proof Sys2Proof.Machine Sys2Proof.Laws

section
variable {s : State} {m : Issuer}

/-- While firmware runs a message has its own effect; before, none. -/
theorem exec_spdm {i : Instr} {f : State → State} (hf : firmwareRuns s = true) (h : ∀ s, exec i s = done (spdm s f)) :
    exec i s = .next (settle (f s)) := by
  rw [h, spdm, if_pos hf, done_eq]

theorem exec_spdm_of_stopped {i : Instr} {f : State → State} (hf : firmwareRuns s = false)
    (h : ∀ s, exec i s = done (spdm s f)) : exec i s = .next (settle s) := by
  rw [h, spdm, if_neg (by rw [hf]; exact Bool.false_ne_true), done_eq]

/-! ### Sessions (R604) -/

theorem sessionOnly_of_open (f : State → State) (ho : inSession s m = true) : sessionOnly s m f = f s := if_pos ho

theorem sessionOnly_of_none (f : State → State) (ho : inSession s m = false) : sessionOnly s m f = spdmError s m 11 :=
  if_neg (Bool.eq_false_iff.1 ho)

theorem sessionFinish_of_pending (h : s.sec.sessions.any (fun x => decide (x.who = m) && !x.open_) = true) :
    sessionFinish s m = spdmStd (setSessions s (openFirst m s.sec.sessions)) m 0x65 := if_pos h

theorem sessionFinish_of_none (h : s.sec.sessions.any (fun x => decide (x.who = m) && !x.open_) = false) :
    sessionFinish s m = spdmError s m 4 := if_neg (Bool.eq_false_iff.1 h)

/-! ### Certificates (R605) -/

theorem setCertificate_of_barred {k : Nat} {l : List Byte} (hc : mayCertify s m = false) :
    setCertificate s m k l = spdmError s m 4 := if_pos (by rw [hc]; rfl)

theorem setCertificate_of_allowed {k : Nat} {l : List Byte} (hc : mayCertify s m = true) : setCertificate s m k l =
    if k = 0 ∨ 14336 < l.length ∨ (!chainOk s l) = true then spdmError s m 1
    else spdmSay (putNor s (certPlace k) (l ++ List.replicate (14336 - l.length) 0xFF)) m 0x6E [k] :=
  if_neg (by rw [hc]; exact Bool.false_ne_true)

/-! ### IDE keys (R197) -/

/-- A bifurcated port with the keys of a stream programmed: CXL containment or skid mode, or the CXL.io link stream. -/
def withIde (v : SubPort) : IdeStream → SubPort
  | .containment => { v with ide := 1 }
  | .skid => { v with ide := 2 }
  | .link => { v with ioIde := true }

theorem ideKm_of_portless {x : IdeStream} {b : Bool} (hp : issuerPort s m = none) : ideKm s m x b = s := by
  unfold ideKm
  rw [hp]

variable {p : Nat} (hp : issuerPort s m = some p)
include hp

theorem ideKm_of_sessionless {x : IdeStream} {b : Bool} (ho : inSession s m = false) : ideKm s m x b = spdmError s m 11 := by
  unfold ideKm
  simp only [hp, ho, Bool.not_false, if_true]

theorem ideKm_of_programmed {x : IdeStream} (ho : inSession s m = true)
    (hx : ((s.subp p).flit256 || decide (x = .link)) = true) :
    ideKm s m x true = spdmStd (s.setSubp p (withIde (s.subp p) x)) m 0xFE := by
  unfold ideKm
  simp only [hp, ho, hx, Bool.not_true, Bool.false_eq_true, if_false, Bool.true_and, if_true]
  cases x <;> rfl

theorem ideKm_of_failed {x : IdeStream} {b : Bool} (ho : inSession s m = true)
    (hx : (b && ((s.subp p).flit256 || decide (x = .link))) = false) : ideKm s m x b = raiseHost s (p / 4) 12
      { sub := some p, ld := (match m with | .ld l => some l.val | _ => .none), mkind := 1 } := by
  unfold ideKm
  simp only [hp, ho, hx, Bool.not_true, Bool.false_eq_true, if_false]
  cases m <;> rfl

end

/-- Settles O35: firmware that runs answers each message by its table, and before it runs nothing does. -/
theorem attestation : Obligations.Attestation := by
  unfold Obligations.Attestation
  refine ⟨fun _ _ hf => exec_spdm hf (exec_spdmGetVersion _), fun _ _ hf => exec_spdm hf (exec_spdmGetCapabilities _),
    fun _ _ hf => exec_spdm hf (exec_spdmNegotiateAlgorithms _), fun _ _ hf => exec_spdm hf (exec_spdmChallenge _),
    fun _ _ hf => exec_spdm hf (exec_spdmChunkSend _), fun _ _ hf => exec_spdm hf (exec_spdmChunkGet _),
    fun _ _ hf => exec_spdm hf (exec_spdmGetDigests _), fun _ _ hf => exec_spdm hf (exec_spdmGetMeasurements _),
    ?_, ?_, ?_, ?_, ?_, ?_, ?_, ?_, ?_, ?_, ?_, ?_, ?_, ?_, ?_, ?_, ?_, ?_, ?_, ?_, fun _ _ _ => rfl, ?_, ?_⟩
  · intro s m k hf hk
    rw [exec_spdm hf (exec_spdmGetCertificate _ _), if_pos hk]
  · intro s m k hf hk
    rw [exec_spdm hf (exec_spdmGetCertificate _ _), if_neg (Bool.eq_false_iff.1 hk)]
  · intro s m hf hn
    rw [exec_spdm hf (exec_spdmKeyExchange _), keyExchange, if_neg (Nat.not_le.2 hn)]
  · intro s m hf hn
    rw [exec_spdm hf (exec_spdmKeyExchange _), keyExchange, if_pos hn]
  · intro s m hf h
    rw [exec_spdm hf (exec_spdmFinish _), sessionFinish_of_pending h]
    rfl
  · intro s m hf h
    rw [exec_spdm hf (exec_spdmFinish _), sessionFinish_of_none h]
  · intro s m hf ho
    rw [exec_spdm hf (exec_spdmHeartbeat _), sessionOnly_of_open _ ho, spdmStd]
  · intro s m hf ho
    rw [exec_spdm hf (exec_spdmKeyUpdate _), sessionOnly_of_open _ ho, spdmStd]
  · intro s m hf ho
    rw [exec_spdm hf (exec_spdmEndSession _), sessionOnly_of_open _ ho]
    rfl
  · intro s m hf ho
    rw [exec_spdm hf (exec_spdmHeartbeat _), exec_spdm hf (exec_spdmKeyUpdate _), exec_spdm hf (exec_spdmEndSession _)]
    simp only [sessionOnly_of_none _ ho, and_self]
  · intro s m hf hc
    rw [exec_spdm hf (exec_spdmGetCsr _), if_pos hc]
  · intro s m hf hc
    rw [exec_spdm hf (exec_spdmGetCsr _), if_neg (Bool.eq_false_iff.1 hc)]
  · intro s m k l hf hc
    rw [exec_spdm hf (exec_spdmSetCertificate _ _ _), setCertificate_of_barred hc]
  · intro s m k l hf hc h
    rw [exec_spdm hf (exec_spdmSetCertificate _ _ _), setCertificate_of_allowed hc, if_pos]
    exact h.imp (congrArg Fin.val) Or.inl
  · intro s m k l hf hc hk hl
    rw [exec_spdm hf (exec_spdmSetCertificate _ _ _), setCertificate_of_allowed hc]
    have hk' : ¬ k.val = 0 := fun e => hk (Fin.ext e)
    refine ⟨fun h => ?_, fun h => ?_⟩
    · rw [if_neg (by simp only [hk', h, Nat.not_lt.2 hl]; decide)]
    · rw [if_pos (Or.inr (Or.inr (by rw [h]; rfl)))]
  · intro s m p hf hp ho hx
    rw [exec_spdm hf (exec_ideKmMessage _ _), ideKm_of_programmed hp ho (by rw [hx]; rfl)]
    rfl
  · intro s m p hf hp ho hx
    rw [exec_spdm hf (exec_ideKmMessage _ _), ideKm_of_programmed hp ho (by rw [hx]; rfl)]
    rfl
  · intro s m p hf hp ho
    rw [exec_spdm hf (exec_ideKmMessage _ _), ideKm_of_programmed hp ho (Bool.or_true _)]
    rfl
  · intro s m p x b hf hp ho hx
    rw [exec_spdm hf (exec_ideKmMessage _ _), ideKm_of_failed hp ho hx]
    cases m <;> rfl
  · intro s m p x b hf hp ho
    rw [exec_spdm hf (exec_ideKmMessage _ _), ideKm_of_sessionless hp ho]
  · intro s m x b hf hp
    rw [exec_spdm hf (exec_ideKmMessage _ _), ideKm_of_portless hp]
  · intro s m x b k l hf
    exact ⟨exec_spdm_of_stopped hf (exec_spdmGetVersion _), exec_spdm_of_stopped hf (exec_spdmGetCapabilities _),
      exec_spdm_of_stopped hf (exec_spdmNegotiateAlgorithms _), exec_spdm_of_stopped hf (exec_spdmGetDigests _),
      exec_spdm_of_stopped hf (exec_spdmGetCertificate _ _), exec_spdm_of_stopped hf (exec_spdmChallenge _),
      exec_spdm_of_stopped hf (exec_spdmGetMeasurements _), exec_spdm_of_stopped hf (exec_spdmKeyExchange _),
      exec_spdm_of_stopped hf (exec_spdmFinish _), exec_spdm_of_stopped hf (exec_spdmHeartbeat _),
      exec_spdm_of_stopped hf (exec_spdmKeyUpdate _), exec_spdm_of_stopped hf (exec_spdmEndSession _),
      exec_spdm_of_stopped hf (exec_spdmGetCsr _), exec_spdm_of_stopped hf (exec_spdmSetCertificate _ _ _),
      exec_spdm_of_stopped hf (exec_spdmChunkSend _), exec_spdm_of_stopped hf (exec_spdmChunkGet _),
      exec_spdm_of_stopped hf (exec_ideKmMessage _ _)⟩

end Sys2Proof.Proofs
end

section
/-! PROOF. The key slots (spec/09 R333 to R337; spec/17 R617): KeySlots. -/

namespace Sys2Proof.Proofs

open Sys2Proof Sys2Proof.Machine Sys2Proof.Laws

/-! ### Writes through the guards -/

section
variable {s : State} {p : Path} {off : Nat} {i : Instr} {eff : State → State}

/-- A command that writes a GK register, with its key armed, has the register's effect on the state with the key consumed. -/
theorem exec_of_armed (h : MayWriteGk s p off) (e : ∀ s, exec i s = done (guardedWrite s p off eff)) :
    exec i s = .next (settle (eff (disarm s p))) := by
  rw [e, guardedWrite_of_armed _ h, done_eq]

/-- A command that writes a register without guard has the register's effect. -/
theorem exec_of_allowed (h : MayWrite s p off) (e : ∀ s, exec i s = done (guardedWrite s p off eff)) :
    exec i s = .next (settle (eff s)) := by
  rw [e, guardedWrite_of_allowed _ h, done_eq]

end

/-! ### The words of the key commands -/

section
variable (k : BitVec 12)

theorem loadWord_op : fld (BitVec.ofNat 32 (2 ^ 30 + k.toNat)) 31 30 = 1 := by
  have := k.isLt
  simp only [fld, nfld, BitVec.toNat_ofNat]
  norm_num
  omega

theorem destroyWord_op : fld (BitVec.ofNat 32 (2 ^ 31 + k.toNat)) 31 30 = 2 := by
  have := k.isLt
  simp only [fld, nfld, BitVec.toNat_ofNat]
  norm_num
  omega

theorem keysWord_slot {n : Nat} (h : n % 2 ^ 12 = 0) : fld (BitVec.ofNat 32 (n + k.toNat)) 11 0 = k.toNat := by
  have := k.isLt
  simp only [fld, nfld, BitVec.toNat_ofNat]
  norm_num at h ⊢
  omega

theorem slotWord_slot : fld (BitVec.ofNat 32 k.toNat) 11 0 = k.toNat := by
  have := k.isLt
  simp only [fld, nfld, BitVec.toNat_ofNat]
  norm_num
  omega

end

/-! ### KEYS_CMD and SEC_EPHEM (R333, R334, R617) -/

section
variable {s : State} {v : Word} {op slot : Nat} (ho : fld v 31 30 = op) (hs : fld v 11 0 = slot)
include ho

theorem wrKeysCmd_of_running (h12 : op = 1 ∨ op = 2) (hc : s.keys.cmd.isSome = true) : wrKeysCmd s v = keyResult s 6 := by
  unfold wrKeysCmd
  simp only [ho, hc, if_true]
  exact if_neg (by omega)

include hs

theorem wrKeysCmd_destroy (h2 : op = 2) (hc : s.keys.cmd = none) :
    wrKeysCmd s v = keyBegin ((s.setF Reg.KEYS_CMD 31 30 2).setF Reg.KEYS_CMD 11 0 slot)
      { slot := slot, load := false, key := 0, seq := 0, wrapped := false, own := false } := by
  subst h2
  unfold wrKeysCmd
  simp only [ho, hs, hc]
  rw [if_neg (by decide), if_neg (by decide), if_neg (by decide)]

section
variable (h1 : op = 1) (hc : s.keys.cmd = none)
include h1 hc

theorem wrKeysCmd_refused {r : Nat}
    (hr : loadCheck ((s.setF Reg.KEYS_CMD 31 30 1).setF Reg.KEYS_CMD 11 0 slot) slot = .inl r) :
    wrKeysCmd s v = clearWrap (keyRefuse
      (((s.setF Reg.KEYS_CMD 31 30 1).setF Reg.KEYS_CMD 11 0 slot).setF Reg.KEYS_STAT 11 0 slot) r slot true) := by
  subst h1
  unfold wrKeysCmd
  simp only [ho, hs, hc]
  rw [if_neg (by decide), if_neg (by decide), if_pos trivial, hr]

theorem wrKeysCmd_begun {a : Nat × Nat}
    (ha : loadCheck ((s.setF Reg.KEYS_CMD 31 30 1).setF Reg.KEYS_CMD 11 0 slot) slot = .inr a) :
    wrKeysCmd s v = keyBegin ((s.setF Reg.KEYS_CMD 31 30 1).setF Reg.KEYS_CMD 11 0 slot)
      { slot := slot, load := true, key := a.1, seq := a.2, wrapped := true, own := false } := by
  subst h1
  unfold wrKeysCmd
  simp only [ho, hs, hc]
  rw [if_neg (by decide), if_neg (by decide), if_pos trivial, ha]

end

end

section
variable {s : State} {k : Nat}

theorem loadCheck_of_barred (h : okwkPresent s = false ∨ s.code = Mode.safe) : loadCheck s k = .inl 5 := by
  refine if_pos ?_
  obtain h | h := h <;> simp [h]

theorem loadCheck_of_unwrapped (hk : okwkPresent s = true) (hm : s.code ≠ Mode.safe)
    (hu : Config.unwrap (wrappingKey s) (wrapBytes s) = none) : loadCheck s k = .inl 1 := by
  unfold loadCheck
  simp only [hk, hm, hu, Bool.not_true, decide_false, Bool.or_self, Bool.false_eq_true, if_false]

theorem wrSecEphem_eq (t : State) (x : BitVec 12) (ht : t = s.setF Reg.SEC_EPHEM 11 0 x.toNat) :
    wrSecEphem s (BitVec.ofNat 32 x.toNat) =
      if s.keys.cmd.isSome then keyRefuse t 6 x.toNat false
      else if t.code = Mode.safe ∨ lcState t = 5 then keyRefuse (t.setF Reg.KEYS_STAT 11 0 x.toNat) 5 x.toNat true
      else keyBegin (drawN 16 t)
        { slot := x.toNat, load := true, key := randomKey t, seq := 0, wrapped := false, own := false } := by
  have hs := slotWord_slot x
  subst ht
  unfold wrSecEphem
  simp only [hs]
  rfl

theorem keySlotChange_of_running {a : KeyCmd} (ha : s.keys.cmd = some a) :
    exec .keySlotChangeComplete s = .next (settle (if inflight s a.slot = 0 then admitAll (keyEnd s a) else s)) := by
  rw [exec_keySlotChangeComplete, execKeySlotChangeComplete, ha, done_eq]

end

/-- Settles O36: KEYS_CMD and SEC_EPHEM by what runs and what the checks find, and the completion by what is in flight. -/
theorem keySlots : Obligations.KeySlots := by
  unfold Obligations.KeySlots
  refine ⟨?_, ?_, ?_, ?_, fun _ _ => loadCheck_of_barred, fun _ _ => loadCheck_of_unwrapped, ?_, ?_, ?_, ?_, ?_, ?_, ?_⟩
  · intro s p k h hc
    rw [exec_of_armed h (exec_keyLoad _ _), exec_of_armed h (exec_keyDestroy _ _),
      wrKeysCmd_of_running (s := disarm s p) (loadWord_op k) (Or.inl rfl) hc, wrKeysCmd_of_running (s := disarm s p) (destroyWord_op k) (Or.inr rfl) hc]
    exact ⟨rfl, rfl⟩
  · intro s p k h hc
    rw [exec_of_armed h (exec_keyDestroy _ _), wrKeysCmd_destroy (s := disarm s p) (destroyWord_op k) (keysWord_slot k rfl) rfl hc]
  · intro s p k r h hc hr
    rw [exec_of_armed h (exec_keyLoad _ _), wrKeysCmd_refused (s := disarm s p) (loadWord_op k) (keysWord_slot k rfl) rfl hc hr]
  · intro s p k h hc a ha
    rw [exec_of_armed h (exec_keyLoad _ _), wrKeysCmd_begun (s := disarm s p) (loadWord_op k) (keysWord_slot k rfl) rfl hc ha]
  · intro s p k h hc
    rw [exec_of_armed h (exec_ephemeralKeyLoad _ _), wrSecEphem_eq _ k rfl]
    exact congrArg _ (congrArg _ (if_pos hc))
  · intro s p k t h hc ht hb
    rw [exec_of_armed h (exec_ephemeralKeyLoad _ _), wrSecEphem_eq t k ht, if_neg, if_pos hb]
    exact fun e => absurd (hc ▸ e : (none : Option KeyCmd).isSome = true) (by decide)
  · intro s p k t h hc ht hm hl
    rw [exec_of_armed h (exec_ephemeralKeyLoad _ _), wrSecEphem_eq t k ht, if_neg, if_neg (not_or.2 ⟨hm, hl⟩)]
    exact fun e => absurd (hc ▸ e : (none : Option KeyCmd).isSome = true) (by decide)
  · intro s a ha h0
    rw [keySlotChange_of_running ha, if_pos h0]
  · intro s a ha h0
    rw [keySlotChange_of_running ha, if_neg h0]
  · intro s hn
    rw [exec_keySlotChangeComplete, execKeySlotChangeComplete, hn, done_eq]
  · intro s a
    exact keySlot_setKeySlot_same s a.slot _

end Sys2Proof.Proofs
end

section
/-! PROOF. The heap crystallizers and the enables of the engines (spec/08 R262, R306 to R314; spec/09 R320): Crystallizers. -/

namespace Sys2Proof.Proofs

open Sys2Proof Sys2Proof.Machine Sys2Proof.Laws

/-! ### Jobs that start and that run -/

section
variable {s : State} {q : Nat} {j : HeapJob}

theorem jobStart_of_startable (h : (jobsOf s q).find? (fun j => !j.running && !(jobsOf s q).any (fun i =>
    i.running && (onDecoder i == onDecoder j)) && !pausedJob s j) = some j) (hr : readyHc s q = true) :
    jobStart s q = putJob s j { j with running := true } := by
  unfold jobStart
  simp only [h]
  exact if_pos hr

theorem jobStart_of_empty (h : jobsOf s q = []) : jobStart s q = s := by
  unfold jobStart
  simp only [h, List.find?_nil]

section
variable (h : (jobsOf s q).any (fun j => j.running) = false)
include h

/-- Where no job of the quadrant runs, no job that a test asks to run is found. -/
theorem findRunning_of_idle (f : HeapJob → Bool) : (jobsOf s q).find? (fun j => j.running && f j) = none := by
  refine List.find?_eq_none.2 fun x hx => ?_
  have hr : x.running = false := Bool.eq_false_iff.2 (List.any_eq_false.1 h x hx)
  simp [hr]

theorem jobSet_of_idle (dec : Bool) : jobSet s q dec = s.sets.swaps := by
  unfold jobSet
  rw [findRunning_of_idle h (fun j => onDecoder j == dec)]

theorem decodeComplete_of_idle (e : List (List (Nat × Word))) : decodeComplete s q e = s := by
  unfold decodeComplete
  simp only [Bool.and_assoc]
  rw [findRunning_of_idle h (fun j => onDecoder j && !pausedJob s j)]

theorem encodeComplete_of_idle (b : Bool) : encodeComplete s q b = s := by
  unfold encodeComplete
  simp only [Bool.and_assoc]
  rw [findRunning_of_idle h (fun j => !onDecoder j && !pausedJob s j)]

end

/-! ### Decodes that end (R306 to R308) -/

section
variable {e : List (List (Nat × Word))}
  (h : (jobsOf s q).find? (fun j => j.running && onDecoder j && !pausedJob s j) = some j)
include h

theorem decodeComplete_of_gone (hg : pageServable s j.page = false ∨ eState j.seen ≠ Ent.t2) :
    decodeComplete s q e = decodeEnds s j lostPage false := by
  unfold decodeComplete
  rw [h]
  refine if_pos ?_
  obtain hg | hg := hg <;> simp [hg]

theorem decodeComplete_of_stored (hp : pageServable s j.page = true) (he : eState j.seen = Ent.t2)
    (hn : eNb j.seen = 15) {t : State} {bad : List Nat} {l : List (Line × Bool)}
    (hm : readMany s (pageReadKeys s j.seen) e = (t, bad)) (hr : readPage t j.seen j.page j.slot bad = some l) :
    decodeComplete s q e = decodeEnds t j l true := by
  unfold decodeComplete
  rw [h]
  simp only [hp, he, hn, hm, hr]
  rw [if_neg (by decide), if_neg (by simp)]

end

/-! ### Encodes that end (R306) -/

section
variable {b : Bool} (h : (jobsOf s q).find? (fun j => j.running && !onDecoder j && !pausedJob s j) = some j)
include h

theorem encodeComplete_of_move {m : Move} (hk : j.kind = 1)
    (hm : (dropJob s j).tier.moves.find? (fun m => decide (m.id = j.txn ∧ m.phase = 3)) = some m) :
    encodeComplete s q b = moveStore (dropJob s j) m j.lines b := by
  unfold encodeComplete
  rw [h]
  simp only [hk, if_true, hm]

theorem encodeComplete_of_lapsed (hk : j.kind ≠ 1) (ht : getTxn (dropJob s j) j.txn = none) :
    encodeComplete s q b = dropJob s j := by
  unfold encodeComplete
  rw [h]
  simp only [hk, if_false, ht]

section
variable {t : Txn} (ht : getTxn (dropJob s j) j.txn = some t)
include ht

theorem encodeComplete_of_probe {n : Fin 16} {rd : Fin 32} (hk : j.kind = 3) (ho : t.req.origin = .core n rd) :
    encodeComplete s q b =
      closeTxn (reqDone t.req (tick (dropJob s j) (bHc q) 6 1) n.val rd (probeResult (dropJob s j) j.lines)) t := by
  unfold encodeComplete
  rw [h]
  simp only [hk, ht, ho, if_true]
  exact if_neg (by decide)

theorem encodeComplete_of_store {u v : State} {f x : Bool} {l k m lc : Nat} {d : Line} {pl : Plan} (hk : j.kind = 2)
    (hw : t.wdata = some (l, d, x, k, lc))
    (hv : (if codes2 (tick (dropJob s j) (bHc q) 0 1) j.page j.lines
      then verifyFails (tick (dropJob s j) (bHc q) 0 1) q j.page b j.lines
      else (tick (dropJob s j) (bHc q) 0 1, false)) = (u, f))
    (hf : heapForm u j.lines f = (none, m))
    (hp : planT2 (tick (tick u (bHc q) 2 1) (bHc q) 1 m) j.page (lineIdx l) k j.lines lc f = (v, pl)) :
    encodeComplete s q b = takePlan v t pl := by
  unfold encodeComplete
  rw [h]
  simp only [hk, ht, hw, hv, hf, if_true, hp]
  rw [if_neg (by decide), if_neg (by decide)]

end

end

theorem heapDecode_of_set {q : Fin 4} {e : List (List (Nat × Word))} (h : jobSet s q true = s.sets.swaps) :
    exec (.heapDecodeComplete q e) s = .next (settle (flow (decodeComplete s q e))) := by
  rw [exec_heapDecodeComplete, execHeapDecodeComplete, underSet_of_active _ h, flowDone_eq]

theorem heapEncode_of_set {q : Fin 4} {b : Bool} (h : jobSet s q false = s.sets.swaps) :
    exec (.heapEncodeComplete q b) s = .next (settle (flow (encodeComplete s q b))) := by
  rw [exec_heapEncodeComplete, execHeapEncodeComplete, underSet_of_active _ h, flowDone_eq]

end

/-! ### CRY_TEST and the enables (R314, R320, R567) -/

section
variable {s : State} {v : Word}

theorem wrCryTest_of_outside (h : s.code ≠ Mode.test) : wrCryTest s v = s := if_pos h

theorem wrCryTest_of_injecting (h : s.code = Mode.test) (hb : bit v 4 = true) (hu : fld v 3 0 < 12) :
    wrCryTest s v = ({ s.setF Reg.CRY_TEST 3 0 (fld v 3 0) with
      tier := { s.tier with inject := some (fld v 3 0) } }).setBit Reg.CRY_TEST 4 true := by
  unfold wrCryTest
  rw [if_neg (not_not.2 h)]
  exact if_pos (by simp [hb, hu])

theorem engineEnable_of_allowed {p : Path} {xe : Bool}
    (h : MayWrite s p (if xe then Reg.CRY_XEEN else Reg.CRY_UNITEN)) :
    exec (.engineEnableWrite p xe v) s = .next (settle (flow (settle
      (if xe then takeWrite (wrXeen s v) Reg.CRY_XEEN else takeWrite (wrUniten s v) Reg.CRY_UNITEN)))) := by
  rw [exec_engineEnableWrite, execEngineEnableWrite, guardedWrite_of_allowed _ h, flowDone_eq]

section
variable {u : Nat}

theorem xeEnable_of_set (hv : bit v u = true) (hw : s.bit Reg.CRY_XEEN u = false) :
    xeEnable s v u = if canEnable s (uXe u)
      then setReadyXe (unisolate (s.setBit Reg.CRY_XEEN u true) (uXe u)) u true else s := by
  unfold xeEnable
  simp [hv, hw]

theorem xeEnable_of_cleared (hv : bit v u = false) (hw : s.bit Reg.CRY_XEEN u = true) :
    xeEnable s v u = xeGone (s.setBit Reg.CRY_XEEN u false) u := by
  unfold xeEnable
  simp [hv, hw]

end

end

/-- Settles O37: each completion by the job that it finds, and each write by its effect. -/
theorem crystallizers : Obligations.Crystallizers := by
  unfold Obligations.Crystallizers
  refine ⟨?_, ?_, ?_, ?_, ?_, ?_, ?_, ?_, ?_, ?_, ?_, ?_, ?_, ?_, ?_, ?_, fun _ _ _ => xeEnable_of_cleared⟩
  · intro s q j h hr
    rw [exec_heapJobStart, execHeapJobStart, jobStart_of_startable h hr, done_eq]
  · intro s q h
    rw [exec_heapJobStart, execHeapJobStart, jobStart_of_empty h, done_eq]
  · intro s q e b h
    rw [heapDecode_of_set (jobSet_of_idle h true), heapEncode_of_set (jobSet_of_idle h false),
      decodeComplete_of_idle h, encodeComplete_of_idle h]
    exact ⟨rfl, rfl⟩
  · intro s q e j h hs hg
    rw [heapDecode_of_set hs, decodeComplete_of_gone h hg]
  · intro s t q e j bad l h hs hp he hn hm hr
    rw [heapDecode_of_set hs, decodeComplete_of_stored h hp he hn hm hr]
  · intro s q b j h hs hk ht
    rw [heapEncode_of_set hs, encodeComplete_of_lapsed h hk ht]
  · intro s q b j m h hs hk hm
    rw [heapEncode_of_set hs, encodeComplete_of_move h hk hm]
  · intro s q b j t n rd h hs ht hk ho
    rw [heapEncode_of_set hs, encodeComplete_of_probe h ht hk ho]
  · intro s u v q b f j t l d x k m lc pl h hs ht hk hw hv hf hp
    rw [heapEncode_of_set hs, encodeComplete_of_store h ht hk hw hv hf hp]
  · intro s p v h hm hb hu
    rw [exec_of_armed h (exec_cryInject _ _), wrCryTest_of_injecting (s := disarm s p) hm hb hu]
    rfl
  · intro s p v h hm
    rw [exec_of_armed h (exec_cryInject _ _), wrCryTest_of_outside (s := disarm s p) hm]
  · exact fun s p v h => exec_of_allowed h (exec_pageBufferFlush _ _)
  · intro s p v h
    rw [engineEnable_of_allowed (xe := true) h, if_pos rfl, wrXeen]
  · intro s p v h
    rw [engineEnable_of_allowed (xe := false) h, if_neg Bool.false_ne_true, wrUniten]
  · intro s v u hv hw hc
    rw [xeEnable_of_set hv hw, if_pos hc]
  · intro s v u hv hw hc
    rw [xeEnable_of_set hv hw, if_neg (Bool.eq_false_iff.1 hc)]

end Sys2Proof.Proofs
end

section
/-! PROOF. Training, repair, rebuild and test access of the DRAM channels (spec/11 R406 to R417; spec/15 R550 to R555):
DramTrainingRepairAndTest. -/

namespace Sys2Proof.Proofs

open Sys2Proof Sys2Proof.Machine Sys2Proof.Laws

/-! ### DMC_CTL and training (R406, R408, R409) -/

section
variable {s : State} {c : Nat}

theorem wrDmcCtl_enabled (h : isolated s (uChan c) = false ∨ canEnable s (uChan c) = true) :
    wrDmcCtl s c (BitVec.ofNat 32 (b2n true)) = (unisolate s (uChan c)).setBit (Reg.DMC_CTL c) 0 true := by
  have h0 : bit (BitVec.ofNat 32 (b2n true)) 0 = true := by decide
  have h1 : bit (BitVec.ofNat 32 (b2n true)) 1 = false := by decide
  unfold wrDmcCtl
  simp only [h0, h1, if_true, Bool.false_eq_true, if_false]
  refine if_neg ?_
  obtain h | h := h <;> simp [h]

theorem wrDmcCtl_disabled (h : readyChan (s.setBit (Reg.DMC_CTL c) 0 false) c = true) :
    wrDmcCtl s c (BitVec.ofNat 32 (b2n false)) = chanLost (s.setBit (Reg.DMC_CTL c) 0 false) c 6 := by
  have h0 : bit (BitVec.ofNat 32 (b2n false)) 0 = false := by decide
  have h1 : bit (BitVec.ofNat 32 (b2n false)) 1 = false := by decide
  unfold wrDmcCtl
  simp only [h0, h1, Bool.false_eq_true, if_false]
  exact if_pos h

theorem trainWord_start (k : Fin 4) : bit (BitVec.ofNat 32 (4 + k.val)) 2 = true := by
  revert k
  decide

theorem trainWord_set (k : Fin 4) : fld (BitVec.ofNat 32 (4 + k.val)) 1 0 = k.val := by
  revert k
  decide

/-- START acts as the training's own check of the channel says (R406). -/
theorem wrDmcTrain_start (k : Fin 4) : wrDmcTrain s c (BitVec.ofNat 32 (4 + k.val)) = trainStart s c k := by
  unfold wrDmcTrain
  rw [if_pos (trainWord_start k), trainWord_set]
  refine ite_eq_left_iff.2 fun h => ?_
  unfold trainStart
  rw [if_neg h]

theorem trainStart_of_barred {k : Nat}
    (h : s.bit (Reg.DMC_CTL c) 0 = false ∨ readyChan s c = true ∨ (s.chan c).training = true) : trainStart s c k = s := by
  unfold trainStart
  refine if_neg ?_
  obtain h | h | h := h <;> simp [h]

theorem trainingComplete_running {c : Fin 24} {k : BitVec 4} {d : Bool} (ht : (s.chan c).training = true)
    (he : s.bit (Reg.DMC_CTL c) 0 = true) :
    exec (.trainingComplete c k d) s = .next (settle (followWarn (trainEnd s c k.toNat d) c)) := by
  rw [exec_trainingComplete, execTrainingComplete, if_pos ht, if_pos he, done_eq]

theorem trainingComplete_idle {c : Fin 24} {k : BitVec 4} {d : Bool} (ht : (s.chan c).training = false) :
    exec (.trainingComplete c k d) s = .next (settle s) := by
  rw [exec_trainingComplete, execTrainingComplete, if_neg (Bool.eq_false_iff.1 ht), done_eq]

end

/-! ### Frequency change (R415 to R417) -/

section
variable {s : State} {k m : Nat}

theorem fchgWord_set (k : Fin 4) (m : BitVec 24) : fld (BitVec.ofNat 32 (k.val * 2 ^ 24 + m.toNat)) 25 24 = k.val := by
  have hk := k.isLt
  have hm := m.isLt
  simp only [fld, nfld, BitVec.toNat_ofNat]
  norm_num at hm ⊢
  omega

theorem fchgWord_mask (k : Fin 4) (m : BitVec 24) : fld (BitVec.ofNat 32 (k.val * 2 ^ 24 + m.toNat)) 23 0 = m.toNat := by
  have hk := k.isLt
  have hm := m.isLt
  simp only [fld, nfld, BitVec.toNat_ofNat]
  norm_num at hm ⊢
  omega

theorem wrFchg_eq (k : Fin 4) (m : BitVec 24) : wrFchg s (BitVec.ofNat 32 (k.val * 2 ^ 24 + m.toNat)) =
    fchgStart (s.setReg Reg.DMC_FCHG (BitVec.ofNat 32 (k.val * 2 ^ 24 + m.toNat) &&& 0x03FFFFFF#32)) k m.toNat := by
  unfold wrFchg
  rw [fchgWord_set, fchgWord_mask]

theorem fchgStart_of_running (h : s.dram.fchg.isSome = true) : fchgStart s k m = fchgRefuse s 5 := if_pos h

section
variable (h : s.dram.fchg = none)
include h

theorem fchgStart_outside_hold (hm : s.code ≠ Mode.hold) : fchgStart s k m = fchgRefuse s 2 := by
  unfold fchgStart
  rw [h, if_neg (by decide), if_pos (Or.inl hm)]

theorem fchgStart_of_unready (hm : s.code = Mode.hold) (hc : s.changing = false)
    (hr : (bitsOf 24 0 m).any (fun c => !readyChan s c) = true) : fchgStart s k m = fchgRefuse s 3 := by
  unfold fchgStart
  rw [h, if_neg (by decide), if_neg (by simp [hm, hc])]
  exact if_pos (Or.inr (Or.inl hr))

end

end

/-! ### Parity rebuild (R413, R681) -/

section
variable {s : State} {c : Nat}

theorem wrParreb_started {n : Nat} (hr : readyChan s c = true) (hb : (s.chan c).rebuild.isSome = true)
    (hf : s.bit (Reg.DMC_PARREB c) 30 = false) (hs : setOfChan s c = some n) (hp : setPar s n = true)
    (ho : setOff s n = false) :
    wrParreb s c 0x80000000#32 = (s.setReg (Reg.DMC_PARREB c) 0x40000000#32).setF (Reg.DMC_STAT c) 31 29 5 := by
  unfold wrParreb
  simp only [hr, hb, hf, hs, hp, ho]
  exact if_pos (by decide)

theorem wrParreb_barred (h : readyChan s c = false ∨ (s.chan c).rebuild = none) : wrParreb s c 0x80000000#32 = s := by
  unfold wrParreb
  refine if_neg ?_
  obtain h | h := h <;> simp [h]

end

/-! ### Post-package repair (R554, R555) -/

section
variable (k : Fin 16) (b : Fin 2) (a : Fin 32) (r : BitVec 17)

theorem pprWord_op {op : Nat} (h : op < 4) : fld (pprWord op k b a r) 31 30 = op := by
  have hk := k.isLt
  have hb := b.isLt
  have ha := a.isLt
  have hr := r.isLt
  simp only [fld, nfld, pprWord, BitVec.toNat_ofNat]
  norm_num at hr ⊢
  omega

end

section
variable {s u : State} {c : Nat} {v : Word} (hu : u = s.setReg (Reg.DMC_PPR c) (v &&& 0xFFF1FFFF#32))
include hu

theorem wrPpr_of_running (ho : fld v 31 30 = 1 ∨ fld v 31 30 = 2) (h : (u.chan c).ppr.isSome = true) :
    wrPpr s c v = raise (u.setF (Reg.DMC_PPRSTAT c) 30 28 4) Src.pprFailed := by
  subst hu
  unfold wrPpr
  rw [if_neg (by omega)]
  exact if_pos h

section
variable (h : (u.chan c).ppr = none)
include h

/-- With no repair running, sPPR asks for a READY channel, and hPPR for a disabled one that is not in training. -/
theorem wrPpr_of_idle (ho : fld v 31 30 = 1 ∨ fld v 31 30 = 2) : wrPpr s c v =
    if (fld v 31 30 = 1 && readyChan u c) || (fld v 31 30 = 2 && !readyChan u c && !u.bit (Reg.DMC_CTL c) 0 &&
      !(u.chan c).training) then (u.setReg (Reg.DMC_PPRSTAT c) 0x80000000#32).setChan c { u.chan c with ppr := some v }
    else pprRefuse u c 2 := by
  subst hu
  unfold wrPpr
  rw [if_neg (by omega), if_neg (by rw [h]; exact Bool.false_ne_true)]

theorem wrPpr_soft_started (ho : fld v 31 30 = 1) (hr : readyChan u c = true) :
    wrPpr s c v = (u.setReg (Reg.DMC_PPRSTAT c) 0x80000000#32).setChan c { u.chan c with ppr := some v } := by
  rw [wrPpr_of_idle hu h (Or.inl ho)]
  exact if_pos (by simp [ho, hr])

theorem wrPpr_soft_refused (ho : fld v 31 30 = 1) (hr : readyChan u c = false) :
    wrPpr s c v = raise (u.setF (Reg.DMC_PPRSTAT c) 30 28 2) Src.pprFailed := by
  rw [wrPpr_of_idle hu h (Or.inl ho)]
  exact if_neg (by simp [ho, hr])

theorem wrPpr_hard_started (ho : fld v 31 30 = 2) (hr : readyChan u c = false) (he : u.bit (Reg.DMC_CTL c) 0 = false)
    (ht : (u.chan c).training = false) :
    wrPpr s c v = (u.setReg (Reg.DMC_PPRSTAT c) 0x80000000#32).setChan c { u.chan c with ppr := some v } := by
  rw [wrPpr_of_idle hu h (Or.inr ho)]
  exact if_pos (by simp [ho, hr, he, ht])

theorem wrPpr_hard_refused (ho : fld v 31 30 = 2) (hr : readyChan u c = true) :
    wrPpr s c v = raise (u.setF (Reg.DMC_PPRSTAT c) 30 28 2) Src.pprFailed := by
  rw [wrPpr_of_idle hu h (Or.inr ho)]
  exact if_neg (by simp [ho, hr])

end

end

section
variable {s u : State} {c res : Nat} {v : Word} {l : List Nat} (h : (s.chan c).ppr = some v)
include h

theorem pprEnd_soft_done (hu : u = (s.setChan c { s.chan c with ppr := none }).setReg (Reg.DMC_PPRSTAT c) 0)
    (ho : fld v 31 30 = 1) :
    pprEnd s c 0 l = (rowBursts u c v).foldl (fun s k => s.restoreBurst (l.contains k) k) u := by
  subst hu
  unfold pprEnd
  rw [h]
  exact (if_pos rfl).trans (if_pos ho)

theorem pprEnd_hard_failed
    (hu : u = (s.setChan c { s.chan c with ppr := none }).setReg (Reg.DMC_PPRSTAT c) (BitVec.ofNat 32 (res * 2 ^ 28)))
    (ho : fld v 31 30 = 2) (hr : res ≠ 0) :
    pprEnd s c res l = raise (loseBursts u (rowBursts u c v)) Src.pprFailed := by
  subst hu
  unfold pprEnd
  simp only [h, ho]
  rw [if_neg hr, if_neg (by decide)]

end

/-! ### Test access (R550) -/

section
variable {s : State} {c : Nat} {v : Word}

theorem wrTestCtl_outside_test (h : s.code ≠ Mode.test ∨ s.changing = true) : wrTestCtl s c v = s := if_pos h

section
variable {u : State} (hm : s.code = Mode.test) (hc : s.changing = false)
include hm hc

/-- The guard of the test access passes in TEST with no transition. -/
theorem testBarred_false : ¬ (s.code ≠ Mode.test ∨ s.changing = true) := by simp [hm, hc]

theorem wrTestCtl_write_raw (hu : u = s.setF (Reg.DMC_TESTCTL c) 2 0 1) :
    wrTestCtl s c 1 = u.setBurst (burstKey c (testOffset u c)) (rawBurst (testData u c)
      (u.reg (Reg.DMC_TESTCHK c 3)) (some (u.reg (Reg.DMC_TESTCHK c 0), u.reg (Reg.DMC_TESTCHK c 1),
        u.reg (Reg.DMC_TESTCHK c 2)))) := by
  subst hu
  exact if_neg (testBarred_false hm hc)

theorem wrTestCtl_write_bc (hu : u = s.setF (Reg.DMC_TESTCTL c) 2 0 2) :
    wrTestCtl s c 2 = u.setBurst (burstKey c (testOffset u c)) (rawBurst (testData u c)
      (u.reg (Reg.DMC_TESTCHK c 3)) none) := by
  subst hu
  exact if_neg (testBarred_false hm hc)

theorem wrTestCtl_read_raw (hu : u = s.setF (Reg.DMC_TESTCTL c) 2 0 3) :
    wrTestCtl s c 3 = (((putTest u c (u.burst (burstKey c (testOffset u c))).raw
      (checkWords (u.burst (burstKey c (testOffset u c)))).2.2.2).setReg (Reg.DMC_TESTCHK c 0)
      (checkWords (u.burst (burstKey c (testOffset u c)))).1).setReg (Reg.DMC_TESTCHK c 1)
      (checkWords (u.burst (burstKey c (testOffset u c)))).2.1).setReg (Reg.DMC_TESTCHK c 2)
      (checkWords (u.burst (burstKey c (testOffset u c)))).2.2.1 := by
  subst hu
  exact if_neg (testBarred_false hm hc)

theorem wrTestCtl_read_decode (hu : u = s.setF (Reg.DMC_TESTCTL c) 2 0 4) :
    wrTestCtl s c 4 = testDecode u c (burstKey c (testOffset u c)) := by
  subst hu
  exact if_neg (testBarred_false hm hc)

end

end

/-- Settles O42: each write by its checks on the channel, each completion by what runs, and each test access by its OP. -/
theorem dramTrainingRepairAndTest : Obligations.DramTrainingRepairAndTest := by
  unfold Obligations.DramTrainingRepairAndTest
  refine ⟨?_, ?_, fun _ _ _ h => exec_of_allowed h (exec_dmcCeclr _ _), ?_, ?_, fun _ _ _ _ => trainingComplete_running,
    fun _ _ _ _ => trainingComplete_idle, ?_, fun _ _ _ => fchgStart_of_running, fun _ _ _ => fchgStart_outside_hold,
    fun _ _ _ => fchgStart_of_unready, ?_, ?_, ?_, ?_, ?_, ?_, ?_, ?_, ?_, ?_, ?_, ?_, ?_, ?_, ?_, ?_, ?_, ?_, ?_, ?_⟩
  · intro s p c h hi
    rw [exec_of_allowed h (exec_dmcCtlEnWrite _ _ _), wrDmcCtl_enabled hi]
  · intro s p c h hr
    rw [exec_of_allowed h (exec_dmcCtlEnWrite _ _ _), wrDmcCtl_disabled hr]
  · intro s p c k h _ _ _
    rw [exec_of_armed h (exec_trainingStart _ _ _), wrDmcTrain_start]
  · intro s p c k h hb
    rw [exec_of_armed h (exec_trainingStart _ _ _), wrDmcTrain_start, trainStart_of_barred (s := disarm s p) hb]
  · intro s p k m h
    rw [exec_of_armed h (exec_frequencyChange _ _ _), wrFchg_eq]
  · intro s f h
    rw [exec_frequencyChangeComplete, execFrequencyChangeComplete, h, done_eq]
  · intro s u f k m h hu
    subst hu
    rw [exec_frequencyChangeComplete, execFrequencyChangeComplete, h, done_eq]
  · intro s p c n h hr hb hf hs hp ho
    rw [exec_of_allowed h (exec_parityRebuildStart _ _), wrParreb_started hr hb hf hs hp ho]
  · intro s p c h hb
    rw [exec_of_allowed h (exec_parityRebuildStart _ _), wrParreb_barred hb]
  · intro s u c h hu
    subst hu
    rw [exec_parityRebuildComplete, execParityRebuildComplete, if_pos h, done_eq]
    rfl
  · intro s c h
    rw [exec_parityRebuildComplete, execParityRebuildComplete, if_neg (Bool.eq_false_iff.1 h), done_eq]
  · intro s u p c k b a r h hu hp
    rw [exec_of_armed h (exec_sppr _ _ _ _ _ _), wrPpr_of_running hu (Or.inl (pprWord_op k b a r (by decide))) hp]
  · intro s u p c k b a r h hu hp hr
    rw [exec_of_armed h (exec_sppr _ _ _ _ _ _), wrPpr_soft_started hu hp (pprWord_op k b a r (by decide)) hr]
  · intro s u p c k b a r h hu hp hr
    rw [exec_of_armed h (exec_sppr _ _ _ _ _ _), wrPpr_soft_refused hu hp (pprWord_op k b a r (by decide)) hr]
  · intro s u p c k b a r h hu hp
    rw [exec_of_armed h (exec_hppr _ _ _ _ _ _), wrPpr_of_running hu (Or.inr (pprWord_op k b a r (by decide))) hp]
  · intro s u p c k b a r h hu hp hr he ht
    rw [exec_of_armed h (exec_hppr _ _ _ _ _ _), wrPpr_hard_started hu hp (pprWord_op k b a r (by decide)) hr he ht]
  · intro s u p c k b a r h hu hp hr
    rw [exec_of_armed h (exec_hppr _ _ _ _ _ _), wrPpr_hard_refused hu hp (pprWord_op k b a r (by decide)) hr]
  · intro s u c v l h hu ho
    rw [exec_pprComplete, execPprComplete, done_eq]
    exact congrArg _ (congrArg _ (pprEnd_soft_done h hu ho))
  · intro s u c v r l h hu ho hr
    rw [exec_pprComplete, execPprComplete, pprEnd_hard_failed h hu ho hr, done_eq]
  · intro s c r l h
    rw [exec_pprComplete, execPprComplete, pprEnd, h, done_eq]
  · intro s u p c h hm hc hu
    rw [exec_of_armed h (exec_testWriteRaw _ _), wrTestCtl_write_raw (s := disarm s p) hm hc hu]
  · intro s u p c h hm hc hu
    rw [exec_of_armed h (exec_testWriteBc _ _), wrTestCtl_write_bc (s := disarm s p) hm hc hu]
  · intro s u p c h hm hc hu
    rw [exec_of_armed h (exec_testReadRaw _ _), wrTestCtl_read_raw (s := disarm s p) hm hc hu]
  · intro s u p c h hm hc hu
    rw [exec_of_armed h (exec_testReadDecode _ _), wrTestCtl_read_decode (s := disarm s p) hm hc hu]
  · intro s p c h hb
    rw [exec_of_armed h (exec_testWriteRaw _ _), exec_of_armed h (exec_testWriteBc _ _),
      exec_of_armed h (exec_testReadRaw _ _), exec_of_armed h (exec_testReadDecode _ _)]
    simp only [wrTestCtl_outside_test (s := disarm s p) hb, and_self]

end Sys2Proof.Proofs
end

section
/-! PROOF. Clearing, snapshots and samplers (spec/20 R666 to R676): SnapshotsAndSamplers. -/

namespace Sys2Proof.Proofs

open Sys2Proof Sys2Proof.Machine Sys2Proof.Laws

/-! ### TEL_SNAPCTL (R671, R673) -/

section
variable {cmd k : Nat} (hk : k < 64)
include hk

theorem snapWord_cmd (hc : cmd < 4) : fld (BitVec.ofNat 32 (cmd * 2 ^ 30 + k)) 31 30 = cmd := by
  simp only [fld, nfld, BitVec.toNat_ofNat]
  norm_num
  omega

theorem snapWord_period : fld (BitVec.ofNat 32 (cmd * 2 ^ 30 + k)) 5 0 = k := by
  simp only [fld, nfld, BitVec.toNat_ofNat]
  norm_num
  omega

end

/-- A field of six bits is below 64. -/
theorem fld_six_lt (s : State) (off : Nat) : s.fld off 5 0 < 64 := Nat.mod_lt _ (by decide)

section
variable {s u : State} {p : Path} {k : Nat} (hk : k < 64) (h : MayWrite s p Reg.TEL_SNAPCTL)
  (hu : u = s.setReg Reg.TEL_SNAPCTL (BitVec.ofNat 32 (snapPeriod k)))
include hk h hu

theorem snapCtl_local : snapCtl s p 1 k = snapLocal u := by
  subst hu
  unfold snapCtl
  rw [guardedWrite_of_allowed _ h, wrSnapCtl, snapWord_cmd hk (by decide), snapWord_period hk]
  rfl

theorem snapCtl_pool : snapCtl s p 2 k = snapPool u := by
  subst hu
  unfold snapCtl
  rw [guardedWrite_of_allowed _ h, wrSnapCtl, snapWord_cmd hk (by decide), snapWord_period hk]
  rfl

theorem snapCtl_cancel : snapCtl s p 3 k = setSched (snapRes u 0) none := by
  subst hu
  unfold snapCtl
  rw [guardedWrite_of_allowed _ h, wrSnapCtl, snapWord_cmd hk (by decide), snapWord_period hk]
  rfl

end

section
variable {s : State}

theorem snapLocal_under_pool (h : poolSched s = true) : snapLocal s = snapRes s 3 := if_pos h

theorem snapLocal_passed (h : poolSched s = false) (ht : snapAt s ≤ s.tide) : snapLocal s = snapRes s 1 := by
  unfold snapLocal
  rw [if_neg (Bool.eq_false_iff.1 h), if_pos ht]

theorem snapLocal_pending (h : poolSched s = false) (ht : s.tide < snapAt s) : snapLocal s =
    setSched (snapRes s 0) (some { tide := snapAt s, period := s.fld Reg.TEL_SNAPCTL 5 0, pool := false }) := by
  unfold snapLocal
  rw [if_neg (Bool.eq_false_iff.1 h), if_neg (Nat.not_le.2 ht)]

theorem snapPool_of_member (h : isMaster s = false) : snapPool s = snapRes s 2 := by
  unfold snapPool
  rw [h]
  rfl

section
variable (h : isMaster s = true)
include h

theorem snapPool_of_near (ht : snapAt s < s.tide + 12500) : snapPool s = snapRes s 1 := by
  unfold snapPool
  rw [h, if_neg (by decide), if_pos ht]

theorem snapPool_of_ahead (ht : s.tide + 12500 ≤ snapAt s) : snapPool s =
    snapSchedule (poolSendAll (snapRes s 0) 0x12 (natBytes 8 (snapAt s) ++ [s.fld Reg.TEL_SNAPCTL 5 0]) (members s))
      (snapAt s) (s.fld Reg.TEL_SNAPCTL 5 0) := by
  unfold snapPool
  rw [h, if_neg (by decide), if_neg (Nat.not_lt.2 ht)]

end

/-! ### Latch and copy (R670, R672) -/

section
variable {x : Sched} (h : s.tel.sched = some x)
include h

theorem snapshotLatch_due (ht : x.tide ≤ s.tide) :
    exec .snapshotLatch s = .next (settle (setSched (snapTake s x.tide) (schedNext s x))) := by
  rw [exec_snapshotLatch, execSnapshotLatch, snapLatch, h, done_eq]
  simp only [if_pos ht]

theorem snapshotLatch_early (ht : s.tide < x.tide) : exec .snapshotLatch s = .next (settle s) := by
  rw [exec_snapshotLatch, execSnapshotLatch, snapLatch, h, done_eq]
  simp only [if_neg (Nat.not_le.2 ht)]

end

theorem snapTake_of_free {t : Nat} (h : s.tel.copy = none) : snapTake s t =
    { s with tel := { s.tel with latches := s.tel.cnt, copy := some (t, s.clock) } }.setBit Reg.TEL_SNAPSTAT 30 true := by
  unfold snapTake
  rw [h]
  exact if_neg Bool.false_ne_true

theorem snapTake_of_copying {t : Nat} (h : s.tel.copy.isSome = true) :
    snapTake s t = raiseTel (s.hwBit Reg.TEL_SNAPSTAT 25) 1515 0 := if_pos h

/-! ### Samplers (R674 to R676) -/

section
variable {n : Nat}

theorem crossing_of_short (h : (liveCnt s (smpCnt s n) + 2 ^ 48 - smGet 0 s.tel.base n) % 2 ^ 48 < smpPer s n ∨
    smpEn s n = false) : crossing s n = s := by
  unfold crossing
  refine if_neg fun ⟨he, hp⟩ => ?_
  obtain h | h := h
  · exact absurd hp (Nat.not_le.2 h)
  · exact absurd (h.symm.trans he) Bool.false_ne_true

/-- A counter below block 104 is sampled at once; its base advances by the period, so that the excess carries over. -/
theorem crossing_of_counter {u : State} {m b : Nat} (he : smpEn s n = true) (hm : m = smpCnt s n)
    (hb : b = smGet 0 s.tel.base n) (hp : smpPer s n ≤ (liveCnt s m + 2 ^ 48 - b) % 2 ^ 48) (hl : m / 8 < 104)
    (hu : u = { s with tel := { s.tel with base := smSet 0 s.tel.base n ((b + smpPer s n) % 2 ^ 48) } }) :
    crossing s n = pushSample u n 0 0 0 0 := by
  subst hm hb hu
  unfold crossing
  rw [if_pos ⟨he, hp⟩]
  exact (if_neg (by omega)).trans (if_neg (by omega))

section
variable {n : Fin 8}

theorem sampleTimeout_due {e : Nat × Nat} (ha : ExpiryActs s 1 (some (e.2 + 4096)))
    (h : s.tel.waiting.find? (fun e => decide (e.1 = n.val ∧ e.2 + 4096 ≤ s.clock)) = some e) :
    exec (.sampleNoRequestTimeout n) s = .next (settle (pushSample
      { s with tel := { s.tel with waiting := s.tel.waiting.erase e } } n 3 0 0 0)) := by
  have hd : sampleDue s n = some e := h
  rw [exec_sampleNoRequestTimeout, execSampleNoRequestTimeout, hd, Option.map_some, atDue_acts ha, done_eq, sampleTimeout, hd]

theorem sampleTimeout_none
    (h : s.tel.waiting.find? (fun e => decide (e.1 = n.val ∧ e.2 + 4096 ≤ s.clock)) = none) :
    exec (.sampleNoRequestTimeout n) s = .next (settle s) := by
  have hd : sampleDue s n = none := h
  rw [exec_sampleNoRequestTimeout, execSampleNoRequestTimeout, hd, atDue_acts (by simp [ExpiryActs]), done_eq,
    sampleTimeout, hd]

end

theorem wrSmpPop_pop : wrSmpPop 1#32 s =
    { s with tel := { s.tel with fifo := s.tel.fifo.tail } }.setF Reg.TEL_SMPSTAT 7 0 s.tel.fifo.tail.length := by
  have h0 : bit 1#32 0 = true := by decide
  have h1 : bit 1#32 1 = false := by decide
  simp only [wrSmpPop, h0, h1, if_true, Bool.false_eq_true, if_false]

theorem wrSmpPop_clear : wrSmpPop 2#32 s =
    ({ s with tel := { s.tel with fifo := [] } }.setF Reg.TEL_SMPSTAT 31 16 0).setF Reg.TEL_SMPSTAT 7 0 0 := by
  have h0 : bit 2#32 0 = false := by decide
  have h1 : bit 2#32 1 = true := by decide
  simp only [wrSmpPop, h0, h1, if_true, Bool.false_eq_true, if_false]
  rfl

end

end

/-- Settles O43: each schedule by its checks in turn, the latch and copy by what stands, a sampler by its advance. -/
theorem snapshotsAndSamplers : Obligations.SnapshotsAndSamplers := by
  unfold Obligations.SnapshotsAndSamplers
  refine ⟨?_, fun _ h => if_pos h, ?_, ?_, ?_, ?_, ?_, ?_, ?_, fun _ _ => snapshotLatch_due,
    fun _ _ => snapshotLatch_early, fun _ _ => snapTake_of_free, fun _ _ => snapTake_of_copying, ?_, ?_, ?_, ?_,
    fun _ _ _ => sampleTimeout_due, fun _ _ => sampleTimeout_none, ?_, ?_, ?_⟩
  · intro s p h
    rw [exec_of_allowed h (exec_counterClear _), wrTelCtl, if_pos (by decide)]
  · intro s u p k h hu hp
    rw [exec_snapshotScheduleLocal, execSnapshotScheduleLocal, snapCtl_local k.isLt h hu, snapLocal_under_pool hp, done_eq]
  · intro s u p k h hu hp ht
    rw [exec_snapshotScheduleLocal, execSnapshotScheduleLocal, snapCtl_local k.isLt h hu, snapLocal_passed hp ht, done_eq]
  · intro s u p k h hu hp ht
    rw [exec_snapshotScheduleLocal, execSnapshotScheduleLocal, snapCtl_local k.isLt h hu, snapLocal_pending hp ht, done_eq]
  · intro s u p k h hu hm
    rw [exec_snapshotSchedulePool, execSnapshotSchedulePool, snapCtl_pool k.isLt h hu, snapPool_of_member hm, done_eq]
  · intro s u p k h hu hm ht
    rw [exec_snapshotSchedulePool, execSnapshotSchedulePool, snapCtl_pool k.isLt h hu, snapPool_of_near hm ht, done_eq]
  · intro s u p k h hu hm ht
    rw [exec_snapshotSchedulePool, execSnapshotSchedulePool, snapCtl_pool k.isLt h hu, snapPool_of_ahead hm ht, done_eq]
  · intro s u p k h hk hu
    subst hk
    rw [exec_snapshotCancel, execSnapshotCancel, snapCtl_cancel (fld_six_lt s _) h hu, done_eq]
  · intro s u t c h hu
    subst hu
    rw [exec_snapshotCopyComplete, execSnapshotCopyComplete, h]
    exact done_eq _
  · intro s h
    rw [exec_snapshotCopyComplete, execSnapshotCopyComplete, h, done_eq]
  · intro s n h
    rw [exec_samplerCrossing, execSamplerCrossing, crossing_of_short h, done_eq]
  · intro s n u m b he hm hb hp hl hu
    rw [exec_samplerCrossing, execSamplerCrossing, crossing_of_counter he hm hb hp hl hu, done_eq]
  · intro s p h
    rw [exec_of_allowed h (exec_samplePop _), wrSmpPop_pop]
  · intro s p h
    rw [exec_of_allowed h (exec_sampleClear _), wrSmpPop_clear]
  · exact fun s p n v h => exec_of_allowed h (exec_samplerConfigWrite _ _ _)

end Sys2Proof.Proofs
end

section
/-! PROOF. The rake and SRAM field repair (spec/15 R546 to R553): RakeAndFieldRepair. -/

namespace Sys2Proof.Proofs

open Sys2Proof Sys2Proof.Machine Sys2Proof.Laws

section
variable {s u : State} {v : Word}

/-! ### The rake starts, walks and ends (R546 to R549) -/

theorem wrRakeCtl_starting (hu : u = s.setF Reg.RAKE_CTL 3 1 (fld v 3 1)) (hb : bit v 0 = true)
    (hf : u.bit Reg.RAKE_STAT 31 = false) : wrRakeCtl s v =
      { (clearRegs (rakeRewrites u) rakeRegs).setBit Reg.RAKE_STAT 31 true with
        rake := { next := rakeFirst ((clearRegs (rakeRewrites u) rakeRegs).setBit Reg.RAKE_STAT 31 true),
                  last := rakeLast ((clearRegs (rakeRewrites u) rakeRegs).setBit Reg.RAKE_STAT 31 true) } } := by
  subst hu
  exact (if_pos hb).trans (if_neg (Bool.eq_false_iff.1 hf))

theorem wrRakeCtl_unstarted (hu : u = s.setF Reg.RAKE_CTL 3 1 (fld v 3 1))
    (h : bit v 0 = false ∨ u.bit Reg.RAKE_STAT 31 = true) : wrRakeCtl s v = u := by
  subst hu
  unfold wrRakeCtl
  obtain h | h := h
  · exact if_neg (Bool.eq_false_iff.1 h)
  · exact ite_eq_right_iff.2 fun _ => if_pos h

section
variable {e : List (List (Nat × Word))}

theorem rakePage_of_waiting (h : rakeRuns s = false ∨ s.rake.last < s.rake.next ∨ heldPage s s.rake.next = true ∨
    paused s = true ∨ rakeWaits s s.rake.next = true) : rakePage s e = s := by
  unfold rakePage
  refine if_pos ?_
  obtain h | h | h | h | h := h <;> simp [h]

/-- A page of the range that nothing makes wait, and whose run can be read, has its bursts read. -/
theorem rakePage_of_readable (hr : rakeRuns s = true) (hl : s.rake.next ≤ s.rake.last)
    (hh : heldPage s s.rake.next = false) (hp : paused s = false) (hw : rakeWaits s s.rake.next = false)
    (hu : u = (if mapServed { s with rake := { s.rake with next := s.rake.next + 1 } } s.rake.next then writeBlock
      { s with rake := { s.rake with next := s.rake.next + 1 } } s.rake.next else
      { s with rake := { s.rake with next := s.rake.next + 1 } }))
    (hs : pageServable u s.rake.next = true) (he : eState (storedEntry u s.rake.next) ≤ 2)
    (hm : malformed u (storedEntry u s.rake.next) = false) :
    rakePage s e = rakeBursts (charge u false 253 (runLocs (storedEntry u s.rake.next)).length .amber) s.rake.next
      (storedEntry u s.rake.next) 0 (runLocs (storedEntry u s.rake.next)) e := by
  unfold rakePage
  refine (if_neg ?_).trans ?_
  · simp [hr, hh, hp, hw, Nat.not_lt.2 hl]
  · subst hu
    exact if_pos (by simp [hs, he, hm])

end

/-- At the range's end BUSY clears and the source is raised; a Scan Media command that runs ends. -/
theorem rakeFinish_of_done (hr : rakeRuns s = true) (hl : s.rake.last < s.rake.next)
    (hu : u = raise (s.setBit Reg.RAKE_STAT 31 false) Src.rakeDone) : rakeFinish s =
      if u.port.bg.map (fun e => e.2) = some 0x4304 then { u with port := { u.port with bg := none } } else u := by
  subst hu
  exact if_pos (by simp [hr, hl])

theorem rakeFinish_of_running (h : rakeRuns s = false ∨ s.rake.next ≤ s.rake.last) : rakeFinish s = s := by
  unfold rakeFinish
  refine if_neg ?_
  obtain h | h := h
  · simp [h]
  · simp [Nat.not_lt.2 h]

/-! ### Field repair (R551 to R553) -/

theorem fuseRepair_of_pair {p : Path} (h : MayWriteGp s p (Reg.GEN_FUSEPROG 0)) :
    exec (.fuseRepair p v) s = .next (settle (wrFuse v s)) := by
  rw [exec_fuseRepair, execFuseRepair, gpWhole_eq _ _ h, done_eq]

section
variable (hu : u = s.setReg (Reg.GEN_FUSEPROG 0) v)
include hu

theorem wrFuse_barred (h : u.code ≠ Mode.hold ∨ u.changing = true ∨ u.mode.step.isSome = true) :
    wrFuse v s = fuseResult u 1 := by
  subst hu
  exact if_pos h

section
variable (hm : u.code = Mode.hold) (hc : u.changing = false) (hs : u.mode.step = none)
include hm hc hs

/-- In HOLD, with no transition and no step, the repair asks for a free spare and for a free record. -/
theorem wrFuse_in_hold : wrFuse v s =
    if u.sec.otp.fuses.any (fun r => decide (fld r 31 16 = fld v 31 16)) then fuseResult u 2
    else if 256 ≤ u.sec.otp.fuses.length then fuseResult u 3
    else { u.setBit Reg.GEN_FUSESTAT 31 true with
      repair := { u.repair with run := some v }, mode := { u.mode with step := some 1 } } := by
  subst hu
  exact if_neg (by rw [hm, hc, hs]; decide)

theorem wrFuse_spare_used (hf : u.sec.otp.fuses.any (fun r => decide (fld r 31 16 = fld v 31 16)) = true) :
    wrFuse v s = fuseResult u 2 := (wrFuse_in_hold hu hm hc hs).trans (if_pos hf)

section
variable (hf : u.sec.otp.fuses.any (fun r => decide (fld r 31 16 = fld v 31 16)) = false)
include hf

theorem wrFuse_full (hn : 256 ≤ u.sec.otp.fuses.length) : wrFuse v s = fuseResult u 3 :=
  ((wrFuse_in_hold hu hm hc hs).trans (if_neg (Bool.eq_false_iff.1 hf))).trans (if_pos hn)

theorem wrFuse_started (hn : u.sec.otp.fuses.length < 256) : wrFuse v s =
    { u.setBit Reg.GEN_FUSESTAT 31 true with
      repair := { u.repair with run := some v }, mode := { u.mode with step := some 1 } } :=
  ((wrFuse_in_hold hu hm hc hs).trans (if_neg (Bool.eq_false_iff.1 hf))).trans (if_neg (Nat.not_le.2 hn))

end

end

end

section
variable (hr : s.repair.run = some v)
  (hu : u = { s.setBit Reg.GEN_FUSESTAT 31 false with repair := { s.repair with run := none } })
include hr hu

theorem fuseEnds_verified : fuseEnds s true = stepEnds (fuseResult
    ({ u with sec := { u.sec with otp := { u.sec.otp with fuses := u.sec.otp.fuses ++ [v] } } }.setF
      Reg.GEN_FUSESTAT 8 0 (u.sec.otp.fuses.length + 1)) 0) := by
  subst hu
  simp only [fuseEnds, hr, if_true]

theorem fuseEnds_failed : fuseEnds s false = stepEnds (raise (fuseResult u 4) Src.fuseFailed) := by
  subst hu
  simp only [fuseEnds, hr, Bool.false_eq_true, if_false]

end

end

/-- Settles O45: the rake by its register and its page, the repair by its checks in turn and its end. -/
theorem rakeAndFieldRepair : Obligations.RakeAndFieldRepair := by
  unfold Obligations.RakeAndFieldRepair
  refine ⟨?_, ?_, ?_, ?_, ?_, ?_, ?_, ?_, ?_, ?_, ?_, ?_⟩
  · intro s p v u h hu hb hf
    rw [exec_of_allowed h (exec_rakeStart _ _), wrRakeCtl_starting hu hb hf]
  · intro s p v u h hu hb
    rw [exec_of_allowed h (exec_rakeStart _ _), wrRakeCtl_unstarted hu hb]
  · intro s e h
    rw [exec_rakePage, execRakePage, rakePage_of_waiting h, done_eq]
  · intro s u e hr hl hh hp hw hu hs he hm
    rw [exec_rakePage, execRakePage, rakePage_of_readable hr hl hh hp hw hu hs he hm, done_eq]
  · intro s u hr hl hu
    rw [exec_rakeDone, execRakeDone, rakeFinish_of_done hr hl hu, done_eq]
    exact ⟨fun h => by rw [if_pos h], fun h => by rw [if_neg h]⟩
  · intro s h
    rw [exec_rakeDone, execRakeDone, rakeFinish_of_running h, done_eq]
  · intro s p v u h hu hb
    rw [fuseRepair_of_pair h, wrFuse_barred hu hb]
  · intro s p v u h hu hm hc hs hf
    rw [fuseRepair_of_pair h, wrFuse_spare_used hu hm hc hs hf]
  · intro s p v u h hu hm hc hs hf hn
    rw [fuseRepair_of_pair h, wrFuse_full hu hm hc hs hf hn]
  · intro s p v u h hu hm hc hs hf hn
    rw [fuseRepair_of_pair h, wrFuse_started hu hm hc hs hf hn]
  · intro s u v h hu
    rw [exec_fuseRepairComplete, execFuseRepairComplete, exec_fuseRepairComplete, execFuseRepairComplete,
      fuseEnds_verified h hu, fuseEnds_failed h hu, done_eq, done_eq]
    exact ⟨rfl, rfl⟩
  · intro s b h
    rw [exec_fuseRepairComplete, execFuseRepairComplete, fuseEnds, h, done_eq]

end Sys2Proof.Proofs
end

section
/-! PROOF. Secure boot, tokens, the anti-rollback counters and firmware in service (spec/17 R596 to R615; spec/21 R686 to R690):
BootTokensAndFirmware. -/

namespace Sys2Proof.Proofs

open Sys2Proof Sys2Proof.Machine Sys2Proof.Laws

/-! ### Images at boot and the NOR in recovery (R598, R599) -/

section
variable {s u v : State} {i : Nat}

section
variable (h : bootChecking s = true) (hn : nextImage s = (u, i))
  (hv : v = setBootRes u i (imageCheck u true (norImage u i)))
include h hn hv

theorem bootImage_of_passing (hc : imageCheck u true (norImage u i) = 1) :
    bootImage s = bootRuns v i (norImage u i) := by
  subst hv
  simp only [bootImage, h, hn, hc, if_true]

theorem bootImage_of_failing (hc : imageCheck u true (norImage u i) ≠ 1) : bootImage s =
    if bootRes (raise v Src.bootRejected) 0 ≠ 0 ∧ bootRes (raise v Src.bootRejected) 1 ≠ 0
    then bootFails (raise v Src.bootRejected) else raise v Src.bootRejected := by
  subst hv
  simp only [bootImage, h, hn, hc, if_true, if_false]

end

section
variable {p : Path} {off : Nat} {eff : State → State} (hr : s.inReset = false)
include hr

theorem flashWrite_in_recovery (hc : recovering s = true) (hw : writeRefused s .sideband off = false) :
    flashWrite s .sideband off eff = eff s := by
  simp [flashWrite, hr, hc, hw]

theorem flashWrite_barred (h : recovering s = false ∨ p ≠ .sideband) : flashWrite s p off eff = refuse s p true off := by
  unfold flashWrite
  rw [if_neg (Bool.eq_false_iff.1 hr)]
  refine if_pos ?_
  obtain h | h := h <;> simp [h]

end

section
variable (a : BitVec 24)

theorem flashWord_word : fld (BitVec.ofNat 32 (2 ^ 31 + a.toNat)) 23 2 = a.toNat / 4 := by
  have h := a.isLt
  simp only [fld, nfld, BitVec.toNat_ofNat]
  norm_num at h ⊢
  omega

theorem flashWord_sector : fld (BitVec.ofNat 32 (2 ^ 31 + a.toNat)) 23 12 = a.toNat / 4096 := by
  have h := a.isLt
  simp only [fld, nfld, BitVec.toNat_ofNat]
  norm_num at h ⊢
  omega

theorem flashWord_erase : bit (BitVec.ofNat 32 (2 ^ 31 + a.toNat)) 31 = true := by
  have h := a.isLt
  simp only [bit, BitVec.toNat_ofNat, Nat.testBit_eq_decide_div_mod_eq]
  norm_num at h ⊢
  omega

theorem wrFlAddr_erase (hu : u = s.setF Reg.SEC_FLADDR 23 0 (a.toNat / 4 * 4)) :
    wrFlAddr s (BitVec.ofNat 32 (2 ^ 31 + a.toNat)) =
      if u.sec.flash.isNone then
        { u.setBit Reg.SEC_FLADDR 30 true with sec := { u.sec with flash := some (true, a.toNat / 4096 * 4096, 0) } }
      else u := by
  subst hu
  unfold wrFlAddr
  rw [flashWord_word, flashWord_sector, flashWord_erase]
  rfl

end

theorem wrFlData_of_free {w : Word} (hf : s.sec.flash = none)
    (hu : u = (s.setF Reg.SEC_FLADDR 23 0 (s.fld Reg.SEC_FLADDR 23 0 + 4)).setBit Reg.SEC_FLADDR 30 true) :
    wrFlData s w = { u with sec := { u.sec with flash := some (false, s.fld Reg.SEC_FLADDR 23 0, w) } } := by
  subst hu
  unfold wrFlData
  rw [hf]
  exact if_neg Bool.false_ne_true

theorem wrFlData_of_running {w : Word} (hf : s.sec.flash.isSome = true) : wrFlData s w = s := if_pos hf

theorem flashDone_of_running {e : Bool} {a : Nat} {w : Word} (hf : s.sec.flash = some (e, a, w))
    (hu : u = { s with sec := { s.sec with flash := none } }.setBit Reg.SEC_FLADDR 30 false) :
    flashDone s = putNor u a (if e then List.replicate 4096 0xFF else toBytes 4 w.toNat) := by
  subst hu
  simp only [flashDone, hf]

/-! ### Tokens (R609 to R615) -/

section
variable {w : Word} {op : Nat} (ho : fld w 31 30 = op) (hu : u = s.setF (Reg.SEC_TOKCMD 0) 31 30 op)
include ho hu

theorem wrTokCmd_in_boot (hb : u.code = Mode.boot) : wrTokCmd w s = u := by
  subst ho hu
  exact if_pos (Or.inr (Or.inr hb))

section
variable (h12 : op = 1 ∨ op = 2) (hb : u.code ≠ Mode.boot)
include h12 hb

theorem wrTokCmd_of_running (hr : u.bit Reg.SEC_TOKSTAT 31 = true) : wrTokCmd w s = u.setF Reg.SEC_TOKSTAT 30 27 12 := by
  subst ho hu
  exact (if_neg (by simp only [hb, or_false]; omega)).trans (if_pos hr)

theorem wrTokCmd_begun (hr : u.bit Reg.SEC_TOKSTAT 31 = false) :
    wrTokCmd w s = tokBegin u (if op = 1 then tokenCheck u else endAction u) := by
  subst ho hu
  exact (if_neg (by simp only [hb, or_false]; omega)).trans (if_neg (Bool.eq_false_iff.1 hr))

end

end

theorem tokenCommand_of_pair {p : Path} (h : MayWriteGp s p (Reg.SEC_TOKCMD 0)) :
    exec (.tokenCommand p) s = .next (settle (wrTokCmd 0x40000000#32 s)) := by
  rw [exec_tokenCommand, execTokenCommand, gpWhole_eq _ _ h, done_eq]

theorem endWithoutToken_of_pair {p : Path} (h : MayWriteGp s p (Reg.SEC_TOKCMD 0)) :
    exec (.endWithoutToken p) s = .next (settle (wrTokCmd 0x80000000#32 s)) := by
  rw [exec_endWithoutToken, execEndWithoutToken, gpWhole_eq _ _ h, done_eq]

theorem tokenWord_op : fld 0x40000000#32 31 30 = 1 := by decide

theorem endWord_op : fld 0x80000000#32 31 30 = 2 := by decide

theorem endAction_of_late (h : 1 < lcState s) : endAction s = tokFail 7 := if_pos ⟨by omega, by omega⟩

theorem endAction_of_free (h : lcState s ≤ 1) (hr : rowFree s 5 = true) : endAction s =
    { kind := 4, result := 0, row := some 5, prov := none, revoke := none, reset := true } := by
  unfold endAction
  rw [if_neg (by omega), hr]
  rfl

theorem tokComplete_of_none {b : Bool} (h : s.sec.tok = none) : tokComplete s b = s := by
  simp only [tokComplete, h]

section
variable {t : TokRun} (h : s.sec.tok = some t)
include h

theorem tokComplete_of_rejected {b : Bool} (hr : t.result ≠ 0) :
    tokComplete s b = raise (tokEnd s t.result) Src.tokenRejected := by
  simp only [tokComplete, h]
  exact if_pos hr

section
variable (hr : t.result = 0)
include hr

theorem tokComplete_of_otp_failed : tokComplete s false = raise (tokEnd s 11) Src.otpProgram := by
  simp only [tokComplete, h]
  rw [if_neg (not_not.2 hr), if_pos (by decide)]

theorem tokComplete_of_applied : tokComplete s true =
    if t.reset then deviceReset (tokEnd (tokApply s t) 0) false 4 else tokEnd (tokApply s t) 0 := by
  simp only [tokComplete, h]
  rw [if_neg (not_not.2 hr), if_neg (by decide)]

end

end

theorem tokenCommandComplete_eq (b : Bool) :
    exec (.tokenCommandComplete b) s = .next (settle (tokComplete s b)) := by
  rw [exec_tokenCommandComplete, execTokenCommandComplete, done_eq]

/-! ### Anti-rollback counters (R596, R597) -/

theorem arbWord_kind (k : Fin 4) (n : Fin 512) : fld (arbWord k n) 25 24 = k.val := by
  have hk := k.isLt
  have hn := n.isLt
  simp only [fld, nfld, arbWord, BitVec.toNat_ofNat]
  norm_num
  omega

theorem arbWord_value (k : Fin 4) (n : Fin 512) : fld (arbWord k n) 8 0 = n.val := by
  have hk := k.isLt
  have hn := n.isLt
  simp only [fld, nfld, arbWord, BitVec.toNat_ofNat]
  norm_num
  omega

theorem antiRollback_of_pair {p : Path} {k : Fin 4} {n : Fin 512} {b : Bool} (h : MayWriteGp s p (Reg.SEC_ARB 0)) :
    exec (.antiRollbackAdvance p k n b) s = .next (settle (wrArb b (arbWord k n) s)) := by
  rw [exec_antiRollbackAdvance, execAntiRollbackAdvance, gpWhole_eq _ _ h, done_eq]

section
variable {k : Fin 4} {n : Fin 512} {b : Bool}
  (hu : u = (s.setF (Reg.SEC_ARB 0) 25 24 k.val).setF (Reg.SEC_ARB 0) 8 0 n.val)
include hu

theorem wrArb_of_kind (h : k.val = 3 ∨ k.val ≠ 0 ∧ ownerNow u = none) : wrArb b (arbWord k n) s = arbResult u 4 := by
  subst hu
  unfold wrArb
  rw [arbWord_kind, arbWord_value]
  exact if_pos h

section
variable (h : k.val ≠ 3 ∧ (k.val = 0 ∨ ownerNow u ≠ none))
include h

/-- For a kind that has a counter the value is checked: above the counter, within it, and not above an active image's. -/
theorem wrArb_of_counter : wrArb b (arbWord k n) s =
    if n.val ≤ svnOf u.sec.otp k.val ((ownerNow u).getD 0) then arbResult u 1
    else if (if k.val = 0 then 256 else 64) < n.val then arbResult u 2
    else if (activeSvns u k.val).any (fun x => decide (x < n.val)) then arbResult u 3
    else if !b then raise (arbResult u 5) Src.otpProgram
    else raise (arbCount (arbResult { u with sec := { u.sec with otp := { u.sec.otp with
      svn := smSet 0 u.sec.otp.svn (svnKey k.val ((ownerNow u).getD 0)) n.val } } } 0)) Src.arbAdvanced := by
  subst hu
  unfold wrArb
  rw [arbWord_kind, arbWord_value]
  exact if_neg fun g => g.elim h.1 fun g => h.2.elim g.1 fun e => e g.2

theorem wrArb_of_passed (hl : n.val ≤ svnOf u.sec.otp k.val ((ownerNow u).getD 0)) :
    wrArb b (arbWord k n) s = arbResult u 1 := (wrArb_of_counter hu h).trans (if_pos hl)

section
variable (hl : svnOf u.sec.otp k.val ((ownerNow u).getD 0) < n.val)
include hl

theorem wrArb_of_beyond (hb : (if k.val = 0 then 256 else 64) < n.val) : wrArb b (arbWord k n) s = arbResult u 2 :=
  ((wrArb_of_counter hu h).trans (if_neg (Nat.not_le.2 hl))).trans (if_pos hb)

section
variable (hb : n.val ≤ (if k.val = 0 then 256 else 64))
include hb

theorem wrArb_of_active (ha : (activeSvns u k.val).any (fun x => decide (x < n.val)) = true) :
    wrArb b (arbWord k n) s = arbResult u 3 := by
  rw [wrArb_of_counter hu h, if_neg (Nat.not_le.2 hl), if_neg (Nat.not_lt.2 hb), if_pos ha]

section
variable (ha : (activeSvns u k.val).any (fun x => decide (x < n.val)) = false)
include ha

theorem wrArb_of_otp_failed : wrArb false (arbWord k n) s = raise (arbResult u 5) Src.otpProgram := by
  rw [wrArb_of_counter hu h, if_neg (Nat.not_le.2 hl), if_neg (Nat.not_lt.2 hb), if_neg (Bool.eq_false_iff.1 ha),
    if_pos (by decide)]

theorem wrArb_of_advanced : wrArb true (arbWord k n) s =
    raise (arbCount (arbResult { u with sec := { u.sec with otp := { u.sec.otp with
      svn := smSet 0 u.sec.otp.svn (svnKey k.val ((ownerNow u).getD 0)) n.val } } } 0)) Src.arbAdvanced := by
  rw [wrArb_of_counter hu h, if_neg (Nat.not_le.2 hl), if_neg (Nat.not_lt.2 hb), if_neg (Bool.eq_false_iff.1 ha),
    if_neg (by decide)]

end

end

end

end

end

/-! ### PAL_FWCTL (R687, R688, R690) -/

section
variable {c : Nat}

theorem firmwareWrite_of_armed {p : Path} (h : MayWriteGk s p Reg.PAL_FWCTL) :
    firmwareWrite p c s = wrFwCtl (disarm s p) c := by
  unfold firmwareWrite
  rw [guardedWrite_of_armed _ h]

variable (hu : u = s.setF Reg.PAL_FWCTL 1 0 c)
include hu

theorem wrFwCtl_without_firmware (hf : firmwareRuns u = false) : wrFwCtl s c = u := by
  subst hu
  simp only [wrFwCtl, hf, Bool.not_false, if_true]

theorem wrFwCtl_stage (h1 : c = 1) (hf : firmwareRuns u = true) : wrFwCtl s c = stageStart u 0 := by
  subst h1 hu
  simp only [wrFwCtl, hf, Bool.not_true, Bool.false_eq_true, if_false]

theorem wrFwCtl_swap (h2 : c = 2) (hf : firmwareRuns u = true) : wrFwCtl s c = swapStart u 0 := by
  subst h2 hu
  simp only [wrFwCtl, hf, Bool.not_true, Bool.false_eq_true, if_false]

theorem wrFwCtl_confirm (h3 : c = 3) (hf : firmwareRuns u = true) : wrFwCtl s c = fwConfirm u := by
  subst h3 hu
  simp only [wrFwCtl, hf, Bool.not_true, Bool.false_eq_true, if_false]

end

theorem stageStart_of_busy {how : Nat} (h : fwBusy s = true ∨ s.sets.staging.isSome = true) :
    stageStart s how = activateEnds (fwResult s 5) := by
  unfold stageStart
  refine if_pos ?_
  obtain h | h := h <;> simp [h]

section
variable {how : Nat}

theorem swapStart_outside_hold (h : s.code ≠ Mode.hold ∨ s.changing = true) :
    swapStart s how = activateEnds (fwResult s 2) := if_pos h

section
variable (hm : s.code = Mode.hold) (hc : s.changing = false)
include hm hc

/-- The swap's first check passes in HOLD with no transition. -/
theorem swapBarred_false : ¬ (s.code ≠ Mode.hold ∨ s.changing = true) := by simp [hm, hc]

theorem swapStart_unstaged (hs : s.sec.staged = none) : swapStart s how = activateEnds (fwResult s 3) := by
  unfold swapStart
  rw [if_neg (swapBarred_false hm hc), hs]

section
variable {b : List Byte} (hs : s.sec.staged = some b)
include hs

/-- With firmware staged, page moves and then other commands bar the swap. -/
theorem swapStart_staged : swapStart s how =
    if movesActive s then activateEnds (fwResult s 4)
    else if fwBusy s || s.mode.step.isSome then activateEnds (fwResult s 5)
    else { s.setBit Reg.PAL_FWSTAT 31 true with
      sec := { s.sec with fwCmd := some (2, b, how) }, mode := { s.mode with step := some 2 } } := by
  unfold swapStart
  rw [if_neg (swapBarred_false hm hc), hs]

theorem swapStart_while_moving (hv : movesActive s = true) : swapStart s how = activateEnds (fwResult s 4) :=
  (swapStart_staged hm hc hs).trans (if_pos hv)

theorem swapStart_while_busy (hv : movesActive s = false) (hb : fwBusy s = true ∨ s.mode.step.isSome = true) :
    swapStart s how = activateEnds (fwResult s 5) := by
  rw [swapStart_staged hm hc hs, if_neg (Bool.eq_false_iff.1 hv)]
  refine if_pos ?_
  obtain h | h := hb <;> simp [h]

theorem swapStart_begun (hv : movesActive s = false) (hb : fwBusy s = false) (hp : s.mode.step = none) :
    swapStart s how = { s.setBit Reg.PAL_FWSTAT 31 true with
      sec := { s.sec with fwCmd := some (2, b, how) }, mode := { s.mode with step := some 2 } } := by
  rw [swapStart_staged hm hc hs, if_neg (Bool.eq_false_iff.1 hv), if_neg (by simp [hb, hp])]

end

end

end

section
variable (hb : fwBusy s = false)
include hb

theorem fwConfirm_of_nor_failed (hn : Config.norFails s.fresh = true) : fwConfirm s = fwResult s.draw 6 := by
  unfold fwConfirm
  rw [if_neg (Bool.eq_false_iff.1 hb), if_pos hn]

theorem fwConfirm_of_nor_written (hn : Config.norFails s.fresh = false) : fwConfirm s =
    fwResult ((setBootHeader s.draw (bootHeader s.draw).1 0).setBit Reg.PAL_FWSTAT 24 false) 0 := by
  unfold fwConfirm
  rw [if_neg (Bool.eq_false_iff.1 hb), if_neg (Bool.eq_false_iff.1 hn)]

end

/-! ### Ends of the firmware commands (R687, R688) -/

section
variable {b : List Byte} {how : Nat}

section
variable (h : s.sec.fwCmd = some (1, b, how))
include h

theorem stageComplete_of_failing (hc : imageCheck s true b ≠ 1) (x : Bool) :
    stageComplete s x = activateEnds (fwEnd s 1) := by
  simp only [stageComplete, h]
  exact if_pos hc

theorem stageComplete_of_passing (hc : imageCheck s true b = 1) (x : Bool) :
    stageComplete s x = if x then stageDone s b how else activateEnds (fwEnd s 6) := by
  simp only [stageComplete, h]
  rw [if_neg (not_not.2 hc)]
  cases x <;> rfl

end

theorem stageDone_unswapped (hk : how ≠ 1) (hu : u = setBootHeader { fwEnd s 0 with
      sec := { (fwEnd s 0).sec with staged := some b } } (idleImage s) (if how = 2 then 0xA5 else 0x5A)) :
    stageDone s b how =
      activateEnds ((u.setBit Reg.PAL_FWSTAT 25 true).setBit Reg.PAL_FWSTAT 22 (decide (idleImage s = 1))) := by
  subst hu
  unfold stageDone
  exact if_neg hk

theorem swapComplete_unactivated (h : s.sec.fwCmd = some (2, b, how)) (hk : how ≠ 1) (hu : u = coresRestart s b)
    (hv : v = (((fwEnd u 0).setBit Reg.PAL_FWSTAT 24 true).setBit Reg.PAL_FWSTAT 25 false).setBit Reg.PAL_FWSTAT 23
      (u.bit Reg.PAL_FWSTAT 22)) :
    swapComplete s = stepEnds { v with sec := { v.sec with runHdr := imgHdr b, staged := none } } := by
  unfold swapComplete
  split
  case h_1 b how e =>
    cases h.symm.trans e
    rw [← hu]
    extract_lets w img x y
    have hy : y = v := hv.symm
    clear_value y
    subst hy
    rw [if_neg hk]
  case h_2 e => exact absurd h (e _ _)

end

theorem firmwareEnds_of_idle {b : Bool} (h : s.sec.fwCmd = none) : stageComplete s b = s ∧ swapComplete s = s := by
  simp only [stageComplete, swapComplete, h, and_self]

theorem firmwareStageComplete_eq (b : Bool) :
    exec (.firmwareStageComplete b) s = .next (settle (stageComplete s b)) := by
  rw [exec_firmwareStageComplete, execFirmwareStageComplete, done_eq]

theorem firmwareSwapComplete_eq : exec .firmwareSwapComplete s = .next (settle (swapComplete s)) := by
  rw [exec_firmwareSwapComplete, execFirmwareSwapComplete, done_eq]

section
variable {p : Path} (h : MayWriteGk s p Reg.PAL_FWCTL)
include h

theorem firmwareStage_of_armed : exec (.firmwareStage p) s = .next (settle (wrFwCtl (disarm s p) 1)) := by
  rw [exec_firmwareStage, execFirmwareStage, firmwareWrite_of_armed h, done_eq]

theorem firmwareSwap_of_armed : exec (.firmwareSwap p) s = .next (settle (wrFwCtl (disarm s p) 2)) := by
  rw [exec_firmwareSwap, execFirmwareSwap, firmwareWrite_of_armed h, done_eq]

theorem firmwareConfirm_of_armed : exec (.firmwareConfirm p) s = .next (settle (wrFwCtl (disarm s p) 3)) := by
  rw [exec_firmwareConfirm, execFirmwareConfirm, firmwareWrite_of_armed h, done_eq]

end

end

/-- Settles O47: each command by its register's effect, whose checks come in the spec's order, and each end by what runs. -/
theorem bootTokensAndFirmware : Obligations.BootTokensAndFirmware := by
  unfold Obligations.BootTokensAndFirmware
  refine ⟨?_, ?_, ?_, ?_, ?_, ?_, ?_, ?_, ?_, ?_, ?_, ?_, ?_, ?_, ?_, ?_, ?_, ?_, ?_, ?_, ?_, ?_, ?_, ?_, ?_, ?_, ?_, ?_,
    ?_, ?_, ?_, ?_, ?_, ?_, ?_, ?_, ?_, ?_, ?_, ?_, ?_, ?_⟩
  · intro s h
    rw [exec_bootImageCheck, execBootImageCheck, bootImage, if_neg (Bool.eq_false_iff.1 h), done_eq]
  · intro s u v i h hn hv
    rw [exec_bootImageCheck, execBootImageCheck, done_eq]
    refine ⟨fun hc => by rw [bootImage_of_passing h hn hv hc], fun hc => ?_⟩
    rw [bootImage_of_failing h hn hv hc]
    refine ⟨fun hb => by rw [if_pos hb], fun hb => ?_⟩
    rw [if_neg fun g => hb.elim g.1 g.2]
  · intro s u a hr hc hu hw
    rw [exec_flashErase, execFlashErase, flashWrite_in_recovery hr hc hw, wrFlAddr_erase a hu, done_eq]
    refine ⟨fun hf => by rw [hf]; rfl, fun hf => ?_⟩
    rw [if_neg (by rw [← Option.not_isSome, hf]; decide)]
  · intro s u v hr hc hw hf hu
    rw [exec_flashProgram, execFlashProgram, flashWrite_in_recovery hr hc hw, wrFlData_of_free hf hu, done_eq]
  · intro s v hr hc hw hf
    rw [exec_flashProgram, execFlashProgram, flashWrite_in_recovery hr hc hw, wrFlData_of_running hf, done_eq]
  · intro s p a v hr h
    rw [exec_flashErase, execFlashErase, exec_flashProgram, execFlashProgram, flashWrite_barred hr h,
      flashWrite_barred hr h, done_eq, done_eq]
    exact ⟨rfl, rfl⟩
  · intro s u e a v hf hu
    rw [exec_flashOperationComplete, execFlashOperationComplete, flashDone_of_running hf hu, done_eq]
  · intro s hf
    rw [exec_flashOperationComplete, execFlashOperationComplete, flashDone, hf, done_eq]
  · intro s p v w h hw
    subst hw
    exact exec_of_allowed h (exec_tokenBufferWrite _ _)
  · intro s u p h hu hb
    rw [tokenCommand_of_pair h, wrTokCmd_in_boot tokenWord_op hu hb]
  · intro s u p h hu hb hr
    rw [tokenCommand_of_pair h, wrTokCmd_of_running tokenWord_op hu (Or.inl rfl) hb hr]
  · intro s u p h hu hb hr
    rw [tokenCommand_of_pair h, wrTokCmd_begun tokenWord_op hu (Or.inl rfl) hb hr, if_pos rfl]
  · intro s u p h hu hb
    rw [endWithoutToken_of_pair h, wrTokCmd_in_boot endWord_op hu hb]
  · intro s u p h hu hb hr
    rw [endWithoutToken_of_pair h, wrTokCmd_of_running endWord_op hu (Or.inr rfl) hb hr]
  · intro s u p h hu hb hr hl
    rw [endWithoutToken_of_pair h, wrTokCmd_begun endWord_op hu (Or.inr rfl) hb hr, if_neg (by decide),
      endAction_of_late hl]
  · intro s u p h hu hb hr hl hf
    rw [endWithoutToken_of_pair h, wrTokCmd_begun endWord_op hu (Or.inr rfl) hb hr, if_neg (by decide),
      endAction_of_free hl hf]
  · intro s t
    exact ⟨fun h => if_neg (by simp [h]), fun h => if_pos (Option.isSome_iff_ne_none.2 h)⟩
  · intro s h
    rw [tokenCommandComplete_eq, tokenCommandComplete_eq, tokComplete_of_none h, tokComplete_of_none h]
    exact ⟨rfl, rfl⟩
  · intro s t b h hr
    rw [tokenCommandComplete_eq, tokComplete_of_rejected h hr]
  · intro s t h hr
    rw [tokenCommandComplete_eq, tokenCommandComplete_eq, tokComplete_of_otp_failed h hr, tokComplete_of_applied h hr]
    exact ⟨rfl, fun ht => by rw [if_pos ht], fun ht => by rw [if_neg (Bool.eq_false_iff.1 ht)]⟩
  · intro s u p k v b h hu hk
    rw [antiRollback_of_pair h, wrArb_of_kind hu hk]
  · intro s u p k v b h hu hk hl
    rw [antiRollback_of_pair h, wrArb_of_passed hu hk hl]
  · intro s u p k v b h hu hk hl hb
    rw [antiRollback_of_pair h, wrArb_of_beyond hu hk hl hb]
  · intro s u p k v b h hu hk hl hb ha
    rw [antiRollback_of_pair h, wrArb_of_active hu hk hl hb ha]
  · intro s u p k v h hu hk hl hb ha
    rw [antiRollback_of_pair h, wrArb_of_otp_failed hu hk hl hb ha]
  · intro s u p k v h hu hk hl hb ha
    rw [antiRollback_of_pair h, wrArb_of_advanced hu hk hl hb ha]
  · intro s u p h hu hf
    rw [firmwareStage_of_armed h, wrFwCtl_without_firmware hu hf]
  · intro s u p h hu hf
    rw [firmwareSwap_of_armed h, wrFwCtl_without_firmware hu hf]
  · intro s u p h hu hf
    rw [firmwareConfirm_of_armed h, wrFwCtl_without_firmware hu hf]
  · intro s u p h hu hf hb
    rw [firmwareStage_of_armed h, wrFwCtl_stage hu rfl hf, stageStart_of_busy hb]
  · intro s u p h hu hf hb hs
    rw [firmwareStage_of_armed h, wrFwCtl_stage hu rfl hf, stageStart_of_free hb hs]
  · intro s u p h hu hf hm
    rw [firmwareSwap_of_armed h, wrFwCtl_swap hu rfl hf, swapStart_outside_hold hm]
  · intro s u p h hu hf hm hc hs
    rw [firmwareSwap_of_armed h, wrFwCtl_swap hu rfl hf, swapStart_unstaged hm hc hs]
  · intro s u p b h hu hf hm hc hs hv
    rw [firmwareSwap_of_armed h, wrFwCtl_swap hu rfl hf, swapStart_while_moving hm hc hs hv]
  · intro s u p b h hu hf hm hc hs hv hb
    rw [firmwareSwap_of_armed h, wrFwCtl_swap hu rfl hf, swapStart_while_busy hm hc hs hv hb]
  · intro s u p b h hu hf hm hc hs hv hb hp
    rw [firmwareSwap_of_armed h, wrFwCtl_swap hu rfl hf, swapStart_begun hm hc hs hv hb hp]
  · intro s u p h hu hf hb
    rw [firmwareConfirm_of_armed h, wrFwCtl_confirm hu rfl hf, fwConfirm, if_pos hb]
  · intro s u p h hu hf hb
    rw [firmwareConfirm_of_armed h, wrFwCtl_confirm hu rfl hf]
    exact ⟨fun hn => by rw [fwConfirm_of_nor_failed hb hn], fun hn => by rw [fwConfirm_of_nor_written hb hn]⟩
  · intro s b k h
    refine ⟨fun hc x => ?_, fun hc => ?_⟩
    · rw [firmwareStageComplete_eq, stageComplete_of_failing h hc]
    · rw [firmwareStageComplete_eq, firmwareStageComplete_eq, stageComplete_of_passing h hc, stageComplete_of_passing h hc,
        if_neg Bool.false_ne_true, if_pos rfl]
      exact ⟨rfl, rfl⟩
  · exact fun s b how hk u hu => stageDone_unswapped hk hu
  · intro s b k h hk u v hu hv
    rw [firmwareSwapComplete_eq, swapComplete_unactivated h hk hu hv]
  · intro s b h
    obtain ⟨h1, h2⟩ := firmwareEnds_of_idle (b := b) h
    rw [firmwareStageComplete_eq, firmwareSwapComplete_eq, h1, h2]
    exact ⟨rfl, rfl⟩

end Sys2Proof.Proofs
end

section
/-! PROOF. The slot power controllers (spec/18): SlotPower. -/

namespace Sys2Proof.Proofs

open Sys2Proof Sys2Proof.Machine Sys2Proof.Laws

/-! ### A command of the power die (R701) -/

section
variable {s : State} {i : Instr} {f : State → State}

theorem slotLive_of_dead (h : s.slot.dead = true) : slotLive s = false := by rw [slotLive, h]; rfl

theorem slotLive_of_alive (h : s.slot.dead = false) : slotLive s = true := by rw [slotLive, h]; rfl

theorem exec_of_dead (e : ∀ s, exec i s = done (if slotLive s then f s else s)) (h : s.slot.dead = true) :
    exec i s = .next (settle s) := by
  rw [e, slotLive_of_dead h, if_neg Bool.false_ne_true, done_eq]

theorem exec_of_alive (e : ∀ s, exec i s = done (if slotLive s then f s else s)) (h : s.slot.dead = false) :
    exec i s = .next (settle (f s)) := by
  rw [e, slotLive_of_alive h, if_pos rfl, done_eq]

end

section
variable {s : State} {n : Fin 48}

theorem powerLimitTrip_of_dead (h : s.slot.dead = true) : exec (.powerLimitTrip n) s = .next (settle s) := by
  rw [exec_powerLimitTrip, execPowerLimitTrip, slotLive_of_dead h, if_neg (by simp), done_eq]

theorem powerLimitTrip_of_alive (h : s.slot.dead = false) : exec (.powerLimitTrip n) s =
    .next (settle (if (s.slotOf n).state ≠ 2 then slotFault s n 3 else s)) := by
  simp only [exec_powerLimitTrip, execPowerLimitTrip, slotLive_of_alive h, true_and, done_eq]

section
variable (ha : ExpiryActs s slotTick (some (s.clock / slotTick)))
include ha

theorem slotPowerGood_acts : exec (.slotPowerGood n) s =
    .next (settle (if slotLive s then slotPowerGood s n else s)) := by
  rw [exec_slotPowerGood, execSlotPowerGood, atDue_acts ha, done_eq]

end

theorem faultTimerExpiry_acts (ha : ExpiryActs s slotTick (timerDue s n)) : exec (.faultTimerExpiry n) s =
    .next (settle (if slotLive s then timerExpiry s n else s)) := by
  rw [exec_faultTimerExpiry, execFaultTimerExpiry, atDue_acts ha, done_eq]

end

/-! ### Enables (R640, R642) -/

section
variable {s : State} {n : Nat} {x : Slot} (hx : x = s.slotOf n)
include hx

section
variable (hs : x.state = 0)
include hs

theorem slotEnable_off_begun (hv : slotValid x = true) (hi : x.iso.any (sticky s) = false) :
    slotEnable s n = setSlot (unisolate s (uSlot n)) n (slotBegin { x with en := true, iso := [] } 4) := by
  subst hx
  unfold slotEnable
  refine (if_pos hs).trans ((if_neg ?_).trans (if_neg (Bool.eq_false_iff.1 hi)))
  exact fun g => absurd (g.symm.trans (congrArg (!·) hv)) (by decide)

theorem slotEnable_off_barred (hv : slotValid x = true) (hi : x.iso.any (sticky s) = true) :
    slotEnable s n = raise (setSlot s n { x with en := true, enres := 2 }) Src.slotRefused := by
  subst hx
  unfold slotEnable
  refine (if_pos hs).trans ((if_neg ?_).trans (if_pos hi))
  exact fun g => absurd (g.symm.trans (congrArg (!·) hv)) (by decide)

theorem slotEnable_off_invalid (hv : slotValid x = false) :
    slotEnable s n = raise (setSlot s n { x with en := true, enres := 1 }) Src.slotRefused := by
  subst hx
  unfold slotEnable
  exact (if_pos hs).trans (if_pos (congrArg (!·) hv))

end

section
variable (hs : x.state = 5)
include hs

theorem slotEnable_latched_invalid (hv : slotValid x = false) :
    slotEnable s n = raise (setSlot s n { x with en := true, enres := 1 }) Src.slotRefused := by
  subst hx
  unfold slotEnable
  exact (if_neg (by simp [hs])).trans ((if_pos hs).trans (if_pos (congrArg (!·) hv)))

theorem slotEnable_latched_barred (hv : slotValid x = true)
    (hi : (sticky s (Src.slot n 1) || x.iso.any (sticky s)) = true) :
    slotEnable s n = raise (setSlot s n { x with en := true, enres := 2 }) Src.slotRefused := by
  subst hx
  unfold slotEnable
  refine (if_neg (by simp [hs])).trans ((if_pos hs).trans ((if_neg ?_).trans (if_pos hi)))
  exact fun g => absurd (g.symm.trans (congrArg (!·) hv)) (by decide)

theorem slotEnable_latched_begun (hv : slotValid x = true)
    (hi : (sticky s (Src.slot n 1) || x.iso.any (sticky s)) = false) :
    slotEnable s n = setSlot (unisolate s (uSlot n)) n (slotBegin { x with en := true, retries := [], iso := [] } 4) := by
  subst hx
  unfold slotEnable
  refine (if_neg (by simp [hs])).trans ((if_pos hs).trans ((if_neg ?_).trans (if_neg (Bool.eq_false_iff.1 hi))))
  exact fun g => absurd (g.symm.trans (congrArg (!·) hv)) (by decide)

end

theorem slotEnable_standing (h0 : x.state ≠ 0) (h5 : x.state ≠ 5) :
    slotEnable s n = setSlot s n { x with en := true, enres := 0 } := by
  subst hx
  exact (if_neg h0).trans (if_neg h5)

end

section
variable {x : Slot}

theorem slotBegin_of_good {r : Nat} (h : x.input = true) : slotBegin x r = orDrive { x with state := 2, enres := 0 } := by
  rw [slotBegin, if_pos h]

theorem slotBegin_of_low {r : Nat} (h : x.input = false) : slotBegin x r = orDrive { x with state := 1, enres := r } := by
  rw [slotBegin, if_neg (Bool.eq_false_iff.1 h)]

theorem orDrive_off (h : x.state = 0 ∨ (x.state = 5 ∧ x.iso ≠ [])) : orDrive x = { x with onA := false, onB := false } := by
  have e : decide (x.state ≠ 0 ∧ (x.state = 5 → x.iso = [])) = false :=
    decide_eq_false fun g => h.elim g.1 fun k => k.2 (g.2 k.1)
  unfold orDrive
  rw [e]
  rfl

theorem orDrive_on (h : x.state ≠ 0 ∧ (x.state = 5 → x.iso = [])) :
    orDrive x = { x with onA := x.feedA, onB := x.feedB && !x.feedA } := by
  unfold orDrive
  rw [decide_eq_true h]
  rfl

end

/-! ### Disables (R640, R641) -/

section
variable {s : State} {n : Nat} {x : Slot} (hx : x = s.slotOf n)
include hx

theorem slotDisable_off (hs : x.state = 0) : slotDisable s n = setSlot s n { x with en := false, enres := 0 } := by
  subst hx
  exact if_pos hs

section
variable (hs : x.state = 2 ∨ x.state = 3)
include hs

theorem slotDisable_refused (hc : s.bit (Reg.DMC_CTL (n / 2)) 0 = true) :
    slotDisable s n = raise (setSlot s n { x with en := false, enres := 3 }) Src.slotRefused := by
  subst hx
  exact (if_neg (by omega)).trans (if_pos ⟨decide_eq_true hs, hc⟩)

theorem slotDisable_conducting (hc : s.bit (Reg.DMC_CTL (n / 2)) 0 = false) : slotDisable s n = setSlot s n (orDrive
    { gateOff x (if x.faultAt = some (s.clock / slotTick) then x.cause else 5) 0 with
      en := false, enres := 0, latch := false, offAt := some (s.clock / slotTick), offTimer := x.timer }) := by
  subst hx
  unfold slotDisable
  simp only [decide_eq_true hs, if_true]
  rw [if_neg (by omega)]
  exact if_neg fun g => absurd (hc.symm.trans g.2) Bool.false_ne_true

end

theorem slotDisable_waiting (h0 : x.state ≠ 0) (hs : x.state ≠ 2 ∧ x.state ≠ 3) : slotDisable s n = setSlot s n (orDrive
    { gateOff x (if x.faultAt = some (s.clock / slotTick) then x.cause else 5) 0 with
      en := false, enres := 0, latch := false, offAt := none, offTimer := none }) := by
  subst hx
  unfold slotDisable
  simp only [decide_eq_false (not_or.2 hs), Bool.false_eq_true, if_false, false_and]
  exact if_neg h0

/-! ### PG and the fault timer (R630 to R633) -/

theorem slotPowerGood_given (hs : x.state = 2) (ht : x.timer = none) :
    slotPowerGood s n = setSlot s n { x with state := 3, pg := true, powered := true } := by
  subst hx
  exact if_pos ⟨hs, ht⟩

theorem slotPowerGood_kept (h : x.state ≠ 2 ∨ x.timer.isSome = true) : slotPowerGood s n = s := by
  subst hx
  exact if_neg fun g => h.elim (fun k => k g.1) fun k => by rw [g.2] at k; exact Bool.false_ne_true k

theorem timerStart_begun (hs : x.state = 2 ∨ x.state = 3) (ht : x.timer = none) :
    timerStart s n = setSlot s n { x with timer := some s.clock } := by
  subst hx
  exact if_pos ⟨hs, ht⟩

theorem timerStart_kept (h : (x.state ≠ 2 ∧ x.state ≠ 3) ∨ x.timer.isSome = true) : timerStart s n = s := by
  subst hx
  exact if_neg fun g => h.elim (fun k => g.1.elim k.1 k.2) fun k => by rw [g.2] at k; exact Bool.false_ne_true k

theorem timerDue_running (h : x.offAt ≠ some (s.clock / slotTick)) :
    timerDue s n = x.timer.map (fun t => t / 25 + slotFTIME x * 100000) := by
  subst hx
  unfold timerDue
  simp only [h, if_false]
  rfl

theorem timerDue_stopped (h : x.offAt = some (s.clock / slotTick)) :
    timerDue s n = x.offTimer.map (fun t => t / 25 + slotFTIME x * 100000) := by
  subst hx
  unfold timerDue
  simp only [h, if_true]
  rfl

end

section
variable {s : State} {n : Nat}

theorem timerExpiry_of_running {t : Nat} (h : timerDue s n = some t) :
    timerExpiry s n = if t ≤ s.clock / slotTick then slotFault s n 1 else s := by
  simp only [timerExpiry, h]

theorem timerExpiry_of_none (h : timerDue s n = none) : timerExpiry s n = s := by
  simp only [timerExpiry, h]

/-! ### Faults (R634 to R641) -/

section
variable {c : Nat} {x : Slot} (hx : x = s.slotOf n)
include hx

theorem slotFault_ignored (hs : x.state ≠ 2 ∧ x.state ≠ 3) (h : x.state ≠ 0 ∨ x.offAt ≠ some (s.clock / slotTick)) :
    slotFault s n c = s := by
  subst hx
  exact (if_neg (not_or.2 hs)).trans (if_neg fun g => h.elim (fun k => k g.1) fun k => k g.2)

theorem slotFault_in_off (hs : x.state = 0) (h : x.offAt = some (s.clock / slotTick)) :
    slotFault s n c = raise (setSlot s n { x with cause := c, offAt := none }) (Src.slot n 0) := by
  subst hx
  exact (if_neg (by omega)).trans (if_pos ⟨hs, h⟩)

section
variable (hs : x.state = 2 ∨ x.state = 3)
include hs

theorem slotFault_retrying (hr : slotRETRY x = true) : slotFault s n c = raise (setSlot s n { gateOff x c 4 with
    faultAt := some (s.clock / slotTick), delay := some (s.clock + slotRDLY x * secClocks) }) (Src.slot n 0) := by
  subst hx
  unfold slotFault
  refine (if_pos hs).trans ?_
  exact congrArg (fun y => raise (setSlot s n y) (Src.slot n 0)) (if_pos hr)

theorem slotFault_latching (hr : slotRETRY x = false) : slotFault s n c = raise (setSlot s n { gateOff x c 5 with
    faultAt := some (s.clock / slotTick), latch := true }) (Src.slot n 0) := by
  subst hx
  unfold slotFault
  refine (if_pos hs).trans ?_
  exact congrArg (fun y => raise (setSlot s n y) (Src.slot n 0)) (if_neg (Bool.eq_false_iff.1 hr))

end

/-! ### Inputs, feeds and retries (R623 to R625, R639, R644) -/

theorem inputLow_standing (h : x.low = true) : inputLow s n = s := by
  subst hx
  exact if_pos h

theorem inputLow_falling (h : x.low = false) :
    inputLow s n = raise (setSlot s n { x with low := true, input := false }) (Src.slot n 2) := by
  subst hx
  exact if_neg (Bool.eq_false_iff.1 h)

theorem inputGood_standing (h : x.low = true) : inputGood s n 2 = s := by
  subst hx
  exact if_pos h

theorem inputGood_rising (h : x.low = false) :
    inputGood s n 2 = setSlot s n { x with input := true, state := if x.state = 1 then 2 else x.state } := by
  subst hx
  exact if_neg (Bool.eq_false_iff.1 h)

theorem retryEnd_of_none (h : x.delay = none) : retryEnd s n = s := by
  subst hx
  simp only [retryEnd, h]

section
variable {t : Nat} (h : x.delay = some t)
include h

theorem retryEnd_early (hs : x.state ≠ 4 ∨ s.clock / slotTick < t / slotTick) : retryEnd s n = s := by
  subst hx
  simp only [retryEnd, h]
  exact if_neg fun g => hs.elim (fun k => k g.1) fun k => absurd g.2 (Nat.not_le.2 k)

section
variable (hs : x.state = 4) (ht : t / slotTick ≤ s.clock / slotTick)
include hs ht

theorem retryEnd_ramping (hr : (slotRetries s x).length < 3) : retryEnd s n = setSlot s n
    { x with delay := none, retries := slotRetries s x ++ [s.clock], state := if x.input then 2 else 1 } := by
  subst hx
  simp only [retryEnd, h]
  rw [if_pos ⟨hs, ht⟩, if_pos hr]

theorem retryEnd_latching (hr : 3 ≤ (slotRetries s x).length) :
    retryEnd s n = raise (setSlot s n { x with delay := none, state := 5 }) (Src.slot n 1) := by
  subst hx
  simp only [retryEnd, h]
  rw [if_pos ⟨hs, ht⟩, if_neg (Nat.not_lt.2 hr)]

end

end

end

end

/-- Settles O48: each command by the state of its slot; with the power die dead none acts. -/
theorem slotPower : Obligations.SlotPower := by
  unfold Obligations.SlotPower
  refine ⟨?_, ?_, ?_, ?_, ?_, ?_, ?_, ?_, ?_, ?_, fun _ _ => ⟨slotBegin_of_good, slotBegin_of_low⟩,
    fun _ => ⟨orDrive_off, orDrive_on⟩, ?_, ?_, ?_, ?_, ?_, ?_, ?_, ?_, ?_, ?_,
    fun _ _ _ hx => ⟨timerDue_running hx, timerDue_stopped hx⟩, ?_, ?_,
    fun _ _ _ _ hx => ⟨slotFault_ignored hx, slotFault_in_off hx, slotFault_retrying hx, slotFault_latching hx⟩,
    fun _ h => if_pos h, ?_, fun _ _ _ hx => ⟨inputLow_standing hx, inputLow_falling hx⟩, ?_, ?_, ?_, ?_, ?_, ?_⟩
  · intro s n w b h
    exact ⟨exec_of_dead (exec_slotEnable _) h, exec_of_dead (exec_slotDisable _) h, exec_of_dead (exec_faultTimerStart _) h,
      exec_of_dead (exec_faultTimerStop _) h, exec_of_dead (exec_fastTrip _) h, powerLimitTrip_of_dead h,
      exec_of_dead (exec_inputCollapse _) h, exec_of_dead (exec_inputAboveUvth _) h, exec_of_dead (exec_retryDelayEnd _) h,
      exec_of_dead (exec_inputGood _ _) h, exec_of_dead (exec_feedLost _ _) h, exec_of_dead (exec_reverseCurrentTurnoff _ _) h⟩
  · intro s n h
    have hl := Bool.eq_false_iff.1 (slotLive_of_dead h)
    exact ⟨fun ha => by rw [slotPowerGood_acts ha, if_neg hl], fun ha => by rw [faultTimerExpiry_acts ha, if_neg hl]⟩
  · intro s n h
    refine ⟨?_, fun hd => ?_⟩
    · rw [exec_slotPowerGood, execSlotPowerGood, atDue_waits rfl h]
    · rw [exec_faultTimerExpiry, execFaultTimerExpiry, atDue_waits hd h]
  · intro s n x h hx hs hv hi
    rw [exec_of_alive (exec_slotEnable _) h, slotEnable_off_begun hx hs hv hi]
  · intro s n x h hx hs hv hi
    rw [exec_of_alive (exec_slotEnable _) h, slotEnable_off_barred hx hs hv hi]
  · intro s n x h hx hs hv
    rw [exec_of_alive (exec_slotEnable _) h, slotEnable_off_invalid hx hs hv]
  · intro s n x h hx hs hv
    rw [exec_of_alive (exec_slotEnable _) h, slotEnable_latched_invalid hx hs hv]
  · intro s n x h hx hs hv hi
    rw [exec_of_alive (exec_slotEnable _) h, slotEnable_latched_barred hx hs hv hi]
  · intro s n x h hx hs hv hi
    rw [exec_of_alive (exec_slotEnable _) h, slotEnable_latched_begun hx hs hv hi]
  · intro s n x h hx h0 h5
    rw [exec_of_alive (exec_slotEnable _) h, slotEnable_standing hx h0 h5]
  · intro s n x h hx hs
    rw [exec_of_alive (exec_slotDisable _) h, slotDisable_off hx hs]
  · intro s n x h hx hs hc
    rw [exec_of_alive (exec_slotDisable _) h, slotDisable_refused hx hs hc]
  · intro s n x h hx hs hc
    rw [exec_of_alive (exec_slotDisable _) h, slotDisable_conducting hx hs hc]
  · intro s n x h hx h0 hs
    rw [exec_of_alive (exec_slotDisable _) h, slotDisable_waiting hx h0 hs]
  · intro s n x ha h hx
    rw [slotPowerGood_acts ha, if_pos (slotLive_of_alive h)]
    exact ⟨fun hs ht => by rw [slotPowerGood_given hx hs ht], fun hk => by rw [slotPowerGood_kept hx hk]⟩
  · intro s n x h hx hs ht
    rw [exec_of_alive (exec_faultTimerStart _) h, timerStart_begun hx hs ht]
  · intro s n x h hx hk
    rw [exec_of_alive (exec_faultTimerStart _) h, timerStart_kept hx hk]
  · intro s n x h hx
    rw [exec_of_alive (exec_faultTimerStop _) h, timerStop, hx]
  · intro s n t ha h ht
    rw [faultTimerExpiry_acts ha, if_pos (slotLive_of_alive h), timerExpiry_of_running ht]
    exact ⟨fun hl => by rw [if_pos hl], fun hl => by rw [if_neg (Nat.not_le.2 hl)]⟩
  · intro s n ha h ht
    rw [faultTimerExpiry_acts ha, if_pos (slotLive_of_alive h), timerExpiry_of_none ht]
  · exact fun s n h => exec_of_alive (exec_fastTrip _) h
  · intro s n x h hx
    subst hx
    rw [powerLimitTrip_of_alive h]
    exact ⟨fun hs => by rw [if_pos hs], fun hs => by rw [if_neg (not_not.2 hs)]⟩
  · intro s n x h hx
    rw [exec_of_alive (exec_inputAboveUvth _) h, hx]
  · intro s n x u h hu hx
    subst hu hx
    rw [exec_of_alive (exec_inputCollapse _) h]
    exact ⟨fun hs => congrArg _ (congrArg _ (if_pos hs)), fun hs => congrArg _ (congrArg _ (if_neg (not_or.2 hs)))⟩
  · intro s n x h hx
    refine ⟨?_, ?_, fun hl => ?_, fun hl => ?_⟩
    · rw [exec_of_alive (exec_inputGood _ _) h, hx]
      rfl
    · rw [exec_of_alive (exec_inputGood _ _) h, hx]
      rfl
    · exact (exec_of_alive (exec_inputGood _ _) h).trans (congrArg _ (congrArg _ (inputGood_standing hx hl)))
    · exact (exec_of_alive (exec_inputGood _ _) h).trans (congrArg _ (congrArg _ (inputGood_rising hx hl)))
  · intro s n x a b h hx ha hb
    subst hx ha hb
    rw [exec_of_alive (exec_feedLost _ _) h, exec_of_alive (exec_feedLost _ _) h, exec_of_alive (exec_feedLost _ _) h]
    exact ⟨rfl, rfl, rfl⟩
  · intro s n x h hx
    subst hx
    rw [exec_of_alive (exec_reverseCurrentTurnoff _ _) h, exec_of_alive (exec_reverseCurrentTurnoff _ _) h]
    exact ⟨rfl, rfl⟩
  · intro s n x t h hx hd hs ht
    rw [exec_of_alive (exec_retryDelayEnd _) h]
    exact ⟨fun hr => by rw [retryEnd_ramping hx hd hs ht hr], fun hr => by rw [retryEnd_latching hx hd hs ht hr]⟩
  · intro s n x h hx
    rw [exec_of_alive (exec_retryDelayEnd _) h]
    exact ⟨fun hd => by rw [retryEnd_of_none hx hd], fun t hd hs => by rw [retryEnd_early hx hd hs]⟩

end Sys2Proof.Proofs
end

section
/-! PROOF. Frames, slots, replay and the registers of a conveyor link (spec/13 R450 to R465, R476): LinkService. -/

namespace Sys2Proof.Proofs

open Sys2Proof Sys2Proof.Machine Sys2Proof.Laws

/-! ### Receiving (R450 to R455, R465) -/

section
variable {s u v : State} {l : Nat} {f : Frame} {gen : Bool}

theorem frameReceive_of_down {bad : List Nat} {dis fal : Bool} {fix : Nat} (h : linkUp s l = false) :
    frameReceive s l f bad dis fal gen fix = s := if_neg (Bool.eq_false_iff.1 h)

section
variable {bad : List Nat} {fal : Bool} {fix : Nat} (h : linkUp s l = true)
  (hu : u = (if s.bit (Reg.CNV_STAT l) 26 then corrected s l fix else s))
include h hu

theorem frameReceive_of_bad {dis : Bool} (hb : bad ≠ [] ∨ dis = true) : frameReceive s l f bad dis fal gen fix =
    parityError (u.setLink (linkPair l) { u.link (linkPair l) with fallow := fal }) l bad := by
  subst hu
  exact (if_pos h).trans (if_pos hb)

theorem frameReceive_of_good : frameReceive s l f [] false fal gen fix =
    goodFrame (u.setLink (linkPair l) { u.link (linkPair l) with fallow := fal }) l f gen := by
  subst hu
  exact (if_pos h).trans (if_neg (by simp))

end

/-- What a parity-good frame does once its ACK has acted. -/
def actInOrder (s : State) (l : Nat) (f : Frame) : State :=
  if !linkUp s l ∨ f.ty = 0 ∨ f.seq ≠ expSeq s l then s
  else if 6 ≤ f.ty ∧ f.ty ≤ 14 then raiseLink (acceptNext s l) l 6 0xF f.seq
  else if f.ty = 15 then acceptNext s l
  else handle (acceptNext s l) l f

section
variable (hp : (s.link l).rxPend = none)
include hp

theorem goodFrame_eq : goodFrame s l f gen = actInOrder (useAck s l f.ack) l f := by
  unfold goodFrame actInOrder
  simp only [hp]

variable (hu : u = useAck s l f.ack)
include hu

theorem goodFrame_of_next (hl : linkUp u l = true) (hf : f.ty ≠ 0) (hq : f.seq = expSeq u l) (hv : v = acceptNext u l) :
    goodFrame s l f gen =
      (if 6 ≤ f.ty ∧ f.ty ≤ 14 then raiseLink v l 6 0xF f.seq else if f.ty = 15 then v else handle v l f) := by
  rw [goodFrame_eq hp, ← hu, actInOrder, ← hv]
  exact if_neg (by simp [hl, hf, hq])

theorem goodFrame_of_other (h : linkUp u l = false ∨ f.ty = 0 ∨ f.seq ≠ expSeq u l) : goodFrame s l f gen = u := by
  rw [goodFrame_eq hp, ← hu]
  refine if_pos ?_
  obtain h | h | h := h <;> simp [h]

end

/-! ### Sending (R454, R461, R480) -/

section
variable (hv : v = padArrive s l)
include hv

theorem slotTransmit_of_silent (h : linkUp v l = false ∨ slotNow v l = false) : slotTransmit s l = v := by
  subst hv
  refine if_pos ?_
  obtain h | h := h <;> simp [h]

section
variable (hl : linkUp v l = true) (hn : slotNow v l = true)
include hl hn

theorem slotTransmit_of_absent (ha : slotAbsent v l = true) : slotTransmit s l = slotEnd (slotSkip v l) l := by
  subst hv
  exact (if_neg (by simp [hl, hn])).trans (if_pos ha)

section
variable (ha : slotAbsent v l = false) (hr : (v.link l).arriving = none) (hf : slotFallow v l = false)
  (hu : u = (slotStart v l).setBit (Reg.CNV_STAT l) 23 false) (hb : v.bit (Reg.CNV_STAT l) 23 = false)
  (hc : u.bit (Reg.CNV_STAT l) 23 = false)
include ha hr hf hu hb hc

theorem slotTransmit_of_full (hq : 1024 ≤ (v.link l).rbuf.length) :
    slotTransmit s l = slotEnd (putSlot u l { ack := curAck u l } false) l := by
  subst hv hu
  have hs : (slotStart (padArrive s l) l).bit (Reg.CNV_STAT l) 23 = false := hb
  simp only [slotTransmit, hl, hn, ha, hr, hf, hs, hc, hq, Bool.not_true, Bool.or_self, Bool.false_eq_true, if_false,
    if_true, Option.isSome_none, Bool.false_and]

section
variable (hq : (v.link l).rbuf.length < 1024) (hm : (v.link l).lm = []) (hy : (v.link l).layby = [])
  (hh : (v.link l).hold = 0) (hd : (v.link l).seed = none)
include hq hm hy hh hd

/-- A slot that nothing else claims takes the launch that the pool layer picks. -/
theorem slotTransmit_of_launch {y : Launch} {c : Option (Nat × Nat)} (ho : pickLaunch u l (coursesAhead v l) = some (y, c)) :
    slotTransmit s l = slotEnd (sendNew (launchCount u l y c) l y.frame false) l := by
  subst hv hu
  have hs : (slotStart (padArrive s l) l).bit (Reg.CNV_STAT l) 23 = false := hb
  simp only [slotTransmit, hl, hn, ha, hr, hf, hs, hc, Nat.not_le.2 hq, hm, hy, hh, hd, ho, Bool.not_true, Bool.or_self,
    Bool.false_eq_true, if_false, Option.isSome_none, Bool.false_and, Nat.lt_irrefl, or_self]

theorem slotTransmit_of_idle (ho : pickLaunch u l (coursesAhead v l) = none) :
    slotTransmit s l = slotEnd (putSlot u l { ack := curAck u l } false) l := by
  subst hv hu
  have hs : (slotStart (padArrive s l) l).bit (Reg.CNV_STAT l) 23 = false := hb
  simp only [slotTransmit, hl, hn, ha, hr, hf, hs, hc, Nat.not_le.2 hq, hm, hy, hh, hd, ho, Bool.not_true, Bool.or_self,
    Bool.false_eq_true, if_false, Option.isSome_none, Bool.false_and, Nat.lt_irrefl, or_self]

end

end

end

end

/-! ### Replay (R457, R459) -/

section
variable {t : Nat} (ht : (s.link l).timer = some t) (hl : linkUp s l = true)
  (hd : t + s.fld (Reg.CNV_REPLAY l) 12 0 ≤ s.clock) (hu : u = replayStart s l)
include ht hl hd hu

theorem replayTimeout_due : replayTimeout s l =
    if u.fld (Reg.CNV_REPLAY l) 27 24 ≤ (s.link l).reps then replayLimit u l else u := by
  subst hu
  simp only [replayTimeout, ht]
  exact if_pos ⟨hl, hd⟩

end

theorem replayTimeout_untimed (h : (s.link l).timer = none) : replayTimeout s l = s := by
  simp only [replayTimeout, h]

theorem replayTimeout_of_down (h : linkUp s l = false) : replayTimeout s l = s := by
  unfold replayTimeout
  cases ht : (s.link l).timer with
  | none => simp only [ht]
  | some t =>
    simp only [ht]
    exact if_neg fun g => absurd (h.symm.trans g.1) Bool.false_ne_true

theorem replayTimeout_acts {l : Fin 32} (ha : ExpiryActs s 1 (replayDue s l)) :
    exec (.replayTimeout l) s = .next (settle (replayTimeout s l)) := by
  rw [exec_replayTimeout, execReplayTimeout, atDue_acts ha, done_eq]

/-- At the limit a link with a failed lane renegotiates; any other retrains. -/
theorem replayLimit_eq (hv : v = (raiseLink s l 2 0xF (((s.link l).rbuf.head?.map Frame.seq).getD 0)).setLink l
      { (raiseLink s l 2 0xF (((s.link l).rbuf.head?.map Frame.seq).getD 0)).link l with reps := 0 }) :
    replayLimit s l = if laneFailed v l then startReneg v l (ownReqw v l) else linkRetrain v l 3 := by
  subst hv
  rfl

/-! ### CNV_TRAIN and CNV_CTL (R467, R476, R567) -/

theorem renegWord_bits (w : Fin 4) : bit (BitVec.ofNat 32 (16 + 4 * w.val)) 0 = false ∧
    bit (BitVec.ofNat 32 (16 + 4 * w.val)) 4 = true ∧ fld (BitVec.ofNat 32 (16 + 4 * w.val)) 3 2 = w.val := by
  revert w
  decide

theorem retrainWord_bits (w : Fin 4) : bit (BitVec.ofNat 32 (1 + 4 * w.val)) 0 = true ∧
    fld (BitVec.ofNat 32 (1 + 4 * w.val)) 3 2 = w.val := by
  revert w
  decide

section
variable {w : Fin 4} (hu : u = s.setF (Reg.CNV_TRAIN l) 3 2 w.val)
include hu

theorem wrCnvTrain_reneg : wrCnvTrain s l (BitVec.ofNat 32 (16 + 4 * w.val)) = startReneg u l w.val := by
  obtain ⟨h0, h4, hw⟩ := renegWord_bits w
  subst hu
  simp only [wrCnvTrain, h0, h4, hw, if_true, Bool.false_eq_true, if_false]

theorem wrCnvTrain_retrain : wrCnvTrain s l (BitVec.ofNat 32 (1 + 4 * w.val)) = if linkUp u l then
    ((linkRetrain u l 0).setBit (Reg.CNV_TRAIN l) 0 true).setLink l { (linkRetrain u l 0).link l with ownReq := true }
    else u := by
  obtain ⟨h0, hw⟩ := retrainWord_bits w
  subst hu
  simp only [wrCnvTrain, h0, hw, if_true]

end

section
variable {w : Word} (hu : u = s.setReg (Reg.CNV_CTL l) (setBit (w &&& 0xF0001#32) 0
  (bit w 0 && !(isolated s (uLink l) && !canEnable s (uLink l)))))
include hu

section
variable (he : (bit w 0 && !(isolated s (uLink l) && !canEnable s (uLink l))) = true)
include he

/-- An enable that takes effect starts a link in OFF, and one that an ISOLATE reaction left in FAILED. -/
theorem wrCnvCtl_enabled : wrCnvCtl s l w = if linkState u l = LinkState.off then linkDetect u l
    else if linkState u l = LinkState.failed ∧ !s.bit (Reg.CNV_CTL l) 0 ∧ (s.link l).isolatedEn then linkDetect u l
    else u := by
  subst hu
  unfold wrCnvCtl
  exact if_pos he

theorem wrCnvCtl_detecting (h : linkState u l = LinkState.off ∨ (linkState u l = LinkState.failed ∧
    s.bit (Reg.CNV_CTL l) 0 = false ∧ (s.link l).isolatedEn = true)) : wrCnvCtl s l w = linkDetect u l := by
  rw [wrCnvCtl_enabled hu he]
  obtain h | ⟨hs, hb, hi⟩ := h
  · rw [if_pos h]
  · rw [if_neg (by rw [hs]; decide), if_pos ⟨hs, by rw [hb]; rfl, hi⟩]

theorem wrCnvCtl_standing (h0 : linkState u l ≠ LinkState.off) (h : linkState u l ≠ LinkState.failed ∨
    s.bit (Reg.CNV_CTL l) 0 = true ∨ (s.link l).isolatedEn = false) : wrCnvCtl s l w = u := by
  rw [wrCnvCtl_enabled hu he, if_neg h0]
  refine if_neg fun ⟨hs, hb, hi⟩ => ?_
  obtain h | h | h := h
  · exact h hs
  · rw [h] at hb
    exact Bool.false_ne_true hb
  · exact Bool.false_ne_true (h.symm.trans hi)

end

theorem wrCnvCtl_blocked (hb : bit w 0 = true) (hi : (isolated s (uLink l) && !canEnable s (uLink l)) = true) :
    wrCnvCtl s l w = u := by
  subst hu
  unfold wrCnvCtl
  exact (if_neg (by simp only [hb, hi]; decide)).trans (if_pos hb)

theorem wrCnvCtl_disabled (hb : bit w 0 = false) :
    wrCnvCtl s l w = if linkState u l = LinkState.off then u else linkLeave u l 6 LinkState.off := by
  subst hu
  unfold wrCnvCtl
  exact (if_neg (by rw [hb]; exact Bool.false_ne_true)).trans (if_neg (Bool.eq_false_iff.1 hb))

end

end

theorem slotTransmit_exec (s : State) (l : Fin 32) : exec (.slotTransmit l) s = .next (settle (slotTransmit s l)) := by
  rw [exec_slotTransmit, execSlotTransmit, done_eq]

/-- Settles O49: a frame by its link's state and its sequence, a slot by what may leave in it, a register by its effect. -/
theorem linkService : Obligations.LinkService := by
  unfold Obligations.LinkService
  refine ⟨?_, ?_, ?_, fun _ _ _ h => if_neg h, fun _ _ _ _ _ _ => goodFrame_of_next, fun _ _ _ _ _ => goodFrame_of_other,
    fun _ _ _ h => if_pos h, ?_, ?_, ?_, ?_, ?_, ?_, ?_, ?_, ?_, ?_, ?_, ?_, ?_, ?_, ?_, ?_, ?_, ?_, ?_, ?_⟩
  · intro s l f bad dis fal gen fix h
    rw [exec_frameReceive, execFrameReceive, frameReceive_of_down h, done_eq]
  · intro s u l f bad dis fal gen fix h hu hb
    rw [exec_frameReceive, execFrameReceive, frameReceive_of_bad h hu (hb.imp_left (mt List.map_eq_nil_iff.1)), done_eq]
  · intro s u l f fal gen fix h hu
    rw [exec_frameReceive, execFrameReceive, List.map_nil, frameReceive_of_good h hu, done_eq]
  · intro s v l hv h
    rw [slotTransmit_exec, slotTransmit_of_silent hv h]
  · intro s v l hv hl hn ha
    rw [slotTransmit_exec, slotTransmit_of_absent hv hl hn ha]
  · intro s u v l hv hl hn ha hq hr hf hu hb hc
    rw [slotTransmit_exec, slotTransmit_of_full hv hl hn ha hr hf hu hb hc hq]
  · intro s u v l hv hl hn ha hq hr hf hm hy hh hd hu hb hc ho
    rw [slotTransmit_exec, slotTransmit_of_idle hv hl hn ha hr hf hu hb hc hq hm hy hh hd ho]
  · intro s u v l y c hv hl hn ha hq hr hf hm hy hh hd hu hb hc ho
    rw [slotTransmit_exec, slotTransmit_of_launch hv hl hn ha hr hf hu hb hc hq hm hy hh hd ho]
  · intro s l f b x g hx hg
    subst hx hg
    rfl
  · intro s u l t ha ht hl hd hu hr
    rw [replayTimeout_acts ha, replayTimeout_due ht hl hd hu, if_neg (Nat.not_le.2 hr)]
  · intro s u l t ha ht hl hd hu hr
    rw [replayTimeout_acts ha, replayTimeout_due ht hl hd hu, if_pos hr]
  · intro s v l hv
    rw [replayLimit_eq hv]
    exact ⟨fun h => if_pos h, fun h => if_neg (Bool.eq_false_iff.1 h)⟩
  · intro s l ha h
    rw [replayTimeout_acts ha, h.elim replayTimeout_untimed replayTimeout_of_down]
  · intro s l hd hc
    rw [exec_replayTimeout, execReplayTimeout, atDue_one_waits hd hc]
  · intro s l h
    rw [exec_laneErrorWindowEnd, execLaneErrorWindowEnd, laneWindowEnd, if_neg (Nat.not_le.2 h), done_eq]
  · intro s u l h hu
    subst hu
    rw [exec_laneErrorWindowEnd, execLaneErrorWindowEnd, laneWindowEnd, if_pos h, done_eq]
  · intro s l p h
    rw [exec_of_allowed h (exec_linkCounterClear _ _), wrLayby, if_pos (by decide), linkClearCounts]
  · intro s u p l w h hu
    rw [exec_of_armed h (exec_renegotiate _ _ _), wrCnvTrain_reneg hu]
  · intro s u p l w h hw hu
    rw [exec_of_armed h (exec_retrain _ _), ← hw, wrCnvTrain_retrain hu]
    exact ⟨fun hl => by rw [if_pos hl], fun hl => by rw [if_neg (Bool.eq_false_iff.1 hl)]⟩
  · intro s u p l v h hu he hs
    rw [exec_of_armed h (exec_cnvCtlWrite _ _ _), wrCnvCtl_detecting hu he hs]
  · intro s u p l v h hu he h0 hs
    rw [exec_of_armed h (exec_cnvCtlWrite _ _ _), wrCnvCtl_standing hu he h0 hs]
  · intro s u p l v h hu hb hi
    rw [exec_of_armed h (exec_cnvCtlWrite _ _ _), wrCnvCtl_blocked hu hb hi]
  · intro s u p l v h hu hb
    rw [exec_of_armed h (exec_cnvCtlWrite _ _ _), wrCnvCtl_disabled hu hb]

end Sys2Proof.Proofs
end

section
/-! PROOF. Renegotiation and training of a conveyor link (spec/13 R466 to R476): LinkNegotiation. -/

namespace Sys2Proof.Proofs

open Sys2Proof Sys2Proof.Machine Sys2Proof.Laws

@[simp] theorem link_setLink_same (s : State) (l : Nat) (x : Link) : (s.setLink l x).link l = x := by
  simp [State.link, State.setLink]

/-! ### REQUEST, GRANT and the choice (R467, R468) -/

section
variable {s u : State} {l : Nat} {m : LmMsg}

theorem lmRequest_of_down (h : linkUp s l = false) : lmRequest s l m = s := if_neg (Bool.eq_false_iff.1 h)

section
variable (h : linkUp s l = true) (hu : u = s.setLink l { s.link l with peerOk := m.rxok, peerW := m.reqw })
include h hu

theorem lmRequest_unasked (hr : (s.link l).request = none) : lmRequest s l m = grant u l := by
  subst hu
  simp only [lmRequest, h, if_true, link_setLink_same, hr]

theorem lmRequest_asked {r : Nat} (hr : (s.link l).request = some r) :
    lmRequest s l m = if leads u l m.dev m.link then setLead u l true else grant u l := by
  subst hu
  simp only [lmRequest, h, if_true, link_setLink_same, hr]

end

theorem lmGrant_of_requester (hs : linkState s l = LinkState.reneg) (hr : (s.link l).request.isSome = true)
    (hu : u = setLead (s.setLink l { s.link l with peerOk := m.rxok, peerW := m.reqw }) l true) :
    lmGrant s l m = leadChoose u l := by
  subst hu
  exact if_pos ⟨hs, hr⟩

theorem lmGrant_of_other (h : linkState s l ≠ LinkState.reneg ∨ (s.link l).request = none) : lmGrant s l m = s := by
  refine if_neg fun g => h.elim (fun k => k g.1) fun k => ?_
  rw [k] at g
  exact Bool.false_ne_true g.2

theorem leadChoose_of_none (hc : chooseMap s l ((s.link l).request.getD (maxW s l)) (s.link l).peerW = none) :
    leadChoose s l = linkFail (sendNew s l { ty := 15, data := lmPayload s l 4 0 0 0 0 false } (slotFallow s l)) l 1 := by
  simp only [leadChoose, hc, abortNone]

section
variable {w : Nat} {tx rx : Word}
  (hc : chooseMap s l ((s.link l).request.getD (maxW s l)) (s.link l).peerW = some (w, tx, rx))
include hc

theorem leadChoose_of_ready (hn : newLanes s l tx rx = (0, 0)) : leadChoose s l = sendSwitch s l w tx rx := by
  simp only [leadChoose, hc, hn, and_self, if_true]

theorem leadChoose_of_idle_lanes (hn : newLanes s l tx rx ≠ (0, 0)) : leadChoose s l =
    (s.setLink l { s.link l with laneTrain := some (newLanes s l tx rx), answerBy := none }).emit
      (.link l 2 [(newLanes s l tx rx).1, (newLanes s l tx rx).2]) := by
  simp only [leadChoose, hc]
  exact if_neg fun g => hn (Prod.ext g.1 g.2)

end

/-! ### SWITCH, ABORT and the wait for an answer (R470, R472) -/

theorem lmSwitch_of_follower (hs : linkState s l = LinkState.reneg)
    (hu : u = s.setLink l { s.link l with rxPend := some (m.txmap, m.mapgen) }) :
    lmSwitch s l m = endReneg u l m.width m.rxmap m.mapgen := by
  subst hu
  exact if_pos hs

theorem lmAbort_of_renegotiating (hs : linkState s l = LinkState.reneg) : lmAbort s l =
    if (chooseMap s l ((s.link l).request.getD (maxW s l)) (s.link l).peerW).isNone then linkFail s l 1
    else reset4 s l := if_pos hs

section
variable {v : State} {t : Nat} (hs : linkState s l = LinkState.reneg) (ha : (s.link l).answerBy = some t)
  (ht : t ≤ s.clock) (hu : u = reset4 (lmSend s l 4 0 0 0 0 false) l)
  (hv : v = u.setLink l { u.link l with aborts := (s.link l).aborts + 1 })
include hs ha ht hu hv

theorem renegTimeout_due : renegTimeout s l =
    if 3 ≤ (s.link l).aborts + 1 then linkRetrain v l 5 else startReneg v l ((s.link l).request.getD (maxW s l)) := by
  subst hv hu
  simp only [renegTimeout, ha]
  exact if_pos ⟨hs, ht⟩

end

theorem renegTimeout_unasked (ha : (s.link l).answerBy = none) : renegTimeout s l = s := by
  simp only [renegTimeout, ha]

theorem renegTimeout_of_other (hs : linkState s l ≠ LinkState.reneg) : renegTimeout s l = s := by
  unfold renegTimeout
  cases ha : (s.link l).answerBy with
  | none => simp only [ha]
  | some t =>
    simp only [ha]
    exact if_neg fun g => hs g.1

theorem renegTimeout_acts {l : Fin 32} (ha : ExpiryActs s 1 (s.link l).answerBy) :
    exec (.renegTimeout l) s = .next (settle (renegTimeout s l)) := by
  rw [exec_renegTimeout, execRenegTimeout, atDue_acts ha, done_eq]

/-! ### Lane training (R469) -/

section
variable {p a b : Nat} (ht : (s.link l).laneTrain = some (a, b))
include ht

theorem laneTrained_of_failed_rx (hu : u = setHealth s l p 2) : laneTrained s l p true false = leadChoose u l := by
  subst hu
  simp only [laneTrained, ht, if_true, Bool.false_eq_true, if_false, Bool.not_false]

theorem laneTrained_of_failed_tx : laneTrained s l p false false = leadChoose (s.setLink l
    { s.link l with peerOk := (s.link l).peerOk - (if (s.link l).peerOk.testBit p then 2 ^ p else 0) }) l := by
  simp only [laneTrained, ht, if_true, Bool.false_eq_true, if_false, Bool.not_false]

section
variable (hb : b.testBit p = true) (hu : u = setHealth s l p 0)
include hb hu

theorem laneTrained_of_more (h : a ≠ 0 ∨ b ≠ 2 ^ p) : laneTrained s l p true true =
    u.setLink l { u.link l with laneTrain := some (a, b - 2 ^ p) } := by
  have hp : 2 ^ p ≤ b := Nat.ge_two_pow_of_testBit hb
  subst hu
  simp only [laneTrained, ht, hb, if_true, Bool.not_true, Bool.false_eq_true, if_false]
  exact if_neg fun g => h.elim (fun k => k g.1) fun k => k (by omega)

theorem laneTrained_of_last {w : Nat} {tx m : Word} (h0 : a = 0) (h : b = 2 ^ p)
    (hc : chooseMap u l ((u.link l).request.getD (maxW u l)) (u.link l).peerW = some (w, tx, m)) :
    laneTrained s l p true true = sendSwitch u l w tx m := by
  subst hu h0 h
  simp only [laneTrained, ht, hb, if_true, Bool.not_true, Bool.false_eq_true, if_false, Nat.sub_self, and_self, hc]

end

end

theorem laneTrained_of_none {p : Nat} {rx ok : Bool} (ht : (s.link l).laneTrain = none) :
    laneTrained s l p rx ok = s := by
  simp only [laneTrained, ht]

/-! ### Training blocks (R473 to R476) -/

theorem linkConfigured_of_other (h : linkState s l ≠ LinkState.config) : linkConfigured s l = s :=
  if_neg fun g => h g.1

section
variable {b : TrainBlock}

theorem tbDetect_of_detect (hs : linkState s l = LinkState.detect) (hu : u = setLinkState s l LinkState.lock) :
    tbDetect s l b = if b.mode = s.bit (Reg.CNV_STAT l) 26
      then sendTb (u.setLink l { u.link l with lockAt := u.clock }) l 2 0 0 else linkFail s l 4 := by
  subst hu
  exact if_pos hs

theorem tbLock_of_lock {k : Nat} {v w : State} (hs : linkState s l = LinkState.lock)
    (hu : u = (List.range 9).foldl (fun s p => setHealth s l p (if k.testBit p then 0 else 2)) s)
    (hv : v = learnPeer (u.setLink l { u.link l with locked := k }) l b)
    (hw : w = (setLinkState v l LinkState.config).setBit (Reg.CNV_TRAIN l) 0 false) :
    tbLock s l k b = if k % 512 ≠ 0 ∧ b.rxok % 512 ≠ 0 then
      sendTb (sendTb w l 3 0 0) l 5 (w.clock % 2 ^ 31) 0 else v := by
  subst hw hv hu
  exact if_pos hs

theorem tbConfig_of_config (hs : linkState s l = LinkState.config) :
    tbConfig s l b = linkConfigured (sendTb (setPeer (learnPeer s l b) l b) l 4 0 0) l := if_pos hs

theorem tbEchoReply_of_config {r : Nat} (hs : linkState s l = LinkState.config)
    (hr : r = ((s.clock + 2 ^ 31 - b.stamp % 2 ^ 31) % 2 ^ 31 - b.turn) % 2 ^ 16)
    (hu : u = (setPeer (learnPeer s l b) l b).setReg (Reg.CNV_DELAY l) (BitVec.ofNat 32 (r * 2 ^ 16 + r / 2))) :
    tbEchoReply s l b = linkConfigured (u.setLink l { u.link l with echoed := true }) l := by
  subst hu hr
  exact if_pos hs

end

theorem lockTimeout_acts {l : Fin 32} (ha : ExpiryActs s 1 (some ((s.link l).lockAt + 20 * msClocks))) :
    exec (.lockTimeout l) s = .next (settle (lockTimeout s l)) := by
  rw [exec_lockTimeout, execLockTimeout, atDue_acts ha, done_eq]

theorem laneTrainingComplete_eq {l : Fin 32} {p : Fin 9} {rx ok : Bool} :
    exec (.laneTrainingComplete l p rx ok) s = .next (settle (laneTrained s l p rx ok)) := by
  rw [exec_laneTrainingComplete, execLaneTrainingComplete, done_eq]

end

/-- Settles O50: each message, block and expiry by the state of its link. -/
theorem linkNegotiation : Obligations.LinkNegotiation := by
  unfold Obligations.LinkNegotiation
  refine ⟨?_, ?_, ?_, ?_, ?_, ?_, ?_, ?_, ?_, ?_, ?_, ?_, ?_, ?_, ?_, ?_, ?_, ?_, ?_, ?_, ?_, ?_, fun _ _ _ => rfl, ?_, ?_,
    ?_, ?_, ?_, ?_, fun _ _ _ => ⟨fun h => if_neg (Bool.eq_false_iff.1 h), fun h => if_pos h⟩⟩
  · intro s l m h
    rw [exec_lmRequest, execLmRequest, lmRequest_of_down h, done_eq]
  · intro s u l m h hu hr
    rw [exec_lmRequest, execLmRequest, done_eq]
    have hk : (u.link l.val).request = (s.link l.val).request := by rw [hu, link_setLink_same]
    cases hq : (s.link l.val).request with
    | none => rw [lmRequest_unasked h hu hq]
    | some r =>
      rw [lmRequest_asked h hu hq, if_neg]
      rw [hk, hq] at hr
      exact Bool.eq_false_iff.1 (hr.resolve_left (by simp))
  · intro s u l m h hu hr hl
    have hk : (u.link l.val).request = (s.link l.val).request := by rw [hu, link_setLink_same]
    obtain ⟨r, hq⟩ := Option.isSome_iff_exists.1 (hk ▸ hr)
    rw [exec_lmRequest, execLmRequest, lmRequest_asked h hu hq, if_pos hl, done_eq]
  · intro s u v l w hw hu hv
    subst hv hu hw
    rfl
  · intro s u l m hs hr hu
    rw [exec_lmGrant, execLmGrant, lmGrant_of_requester hs hr hu, done_eq]
  · intro s l m h
    rw [exec_lmGrant, execLmGrant, lmGrant_of_other h, done_eq]
  · intro s l c hc
    subst hc
    exact ⟨leadChoose_of_none, fun w tx rx => leadChoose_of_ready, fun w tx rx => leadChoose_of_idle_lanes⟩
  · intro s u l m hs hu
    rw [exec_lmSwitch, execLmSwitch, lmSwitch_of_follower hs hu, done_eq]
  · intro s l m hs
    rw [exec_lmSwitch, execLmSwitch, lmSwitch, if_neg hs, exec_lmAbort, execLmAbort, lmAbort, if_neg hs, done_eq]
    exact ⟨rfl, rfl⟩
  · intro s l hs
    rw [exec_lmAbort, execLmAbort, lmAbort_of_renegotiating hs, done_eq]
    refine ⟨fun hc => by rw [hc, Option.isNone_none, if_pos rfl], fun hc => ?_⟩
    rw [if_neg fun g => hc (Option.isNone_iff_eq_none.1 g)]
  · intro s u v l t ha hs hb ht hu hv
    rw [renegTimeout_acts ha, renegTimeout_due hs hb ht hu hv]
    exact ⟨fun h => by rw [if_pos (by omega)], fun h => by rw [if_neg (by omega)]⟩
  · intro s l ha h
    rw [renegTimeout_acts ha, h.elim renegTimeout_unasked renegTimeout_of_other]
  · intro s l ha hc
    rw [exec_renegTimeout, execRenegTimeout, atDue_one_waits ha hc]
  · intro s l p rx ok ht
    rw [laneTrainingComplete_eq, laneTrained_of_none ht]
  · intro s u l p a b ht hu
    rw [laneTrainingComplete_eq, laneTrained_of_failed_rx ht hu]
  · intro s l p a b ht
    rw [laneTrainingComplete_eq, laneTrained_of_failed_tx ht]
  · intro s u l p a b ht hb h hu
    rw [laneTrainingComplete_eq, laneTrained_of_more ht hb hu h]
  · intro s u l p w tx m ht hu hc
    rw [laneTrainingComplete_eq, laneTrained_of_last ht Nat.testBit_two_pow_self hu rfl rfl hc]
  · intro s l b k hd hl hc
    rw [exec_tbDetect, execTbDetect, tbDetect, if_neg hd, exec_tbLock, execTbLock, tbLock, if_neg hl, exec_tbConfig,
      execTbConfig, tbConfig, if_neg hc, exec_tbConfigAck, execTbConfigAck, tbConfigAck, if_neg hc, exec_tbEcho, execTbEcho,
      tbEcho, if_neg hc, exec_tbEchoReply, execTbEchoReply, tbEchoReply, if_neg hc, exec_tbGo, execTbGo,
      linkConfigured_of_other hc, done_eq]
    exact ⟨rfl, rfl, rfl, rfl, rfl, rfl, rfl⟩
  · intro s u l b hs hu
    rw [exec_tbDetect, execTbDetect, tbDetect_of_detect hs hu, done_eq]
    exact ⟨fun h => by rw [if_pos h], fun h => by rw [if_neg h]⟩
  · intro s u v l k b hs hu hv
    rw [exec_tbLock, execTbLock, tbLock_of_lock hs hu hv rfl, done_eq]
    refine ⟨fun h w hw => by rw [if_pos h, hw], fun h => ?_⟩
    rw [if_neg fun g => h.elim g.1 g.2]
  · intro s l b hs
    rw [exec_tbConfig, execTbConfig, tbConfig_of_config hs, done_eq]
  · intro s l b hs
    rw [exec_tbConfigAck, execTbConfigAck, tbConfigAck, if_pos hs, exec_tbEcho, execTbEcho, tbEcho, if_pos hs, exec_tbGo,
      execTbGo, done_eq, done_eq, done_eq]
    exact ⟨rfl, rfl, rfl⟩
  · intro s u l b r hs hr hu
    rw [exec_tbEchoReply, execTbEchoReply, tbEchoReply_of_config hs hr hu, done_eq]
  · intro s l ha hs
    rw [lockTimeout_acts ha, lockTimeout, if_neg fun g => hs g.1]
  · intro s l hd hc
    rw [exec_lockTimeout, execLockTimeout, atDue_one_waits (congrArg some hd) hc]
  · intro s l ha hs
    rw [lockTimeout_acts ha, lockTimeout]
    exact ⟨fun h => by rw [if_pos ⟨hs, h⟩], fun h => by rw [if_neg fun g => absurd g.2 (Nat.not_le.2 h)]⟩
  · intro s l
    rw [exec_laneLockLost, execLaneLockLost, done_eq]

end Sys2Proof.Proofs
end

section
/-! PROOF. Page moves between devices, and messages of cores (spec/07 R271, R272; spec/14 R504, R505, R530): MovesWithPeers. -/

namespace Sys2Proof.Proofs

open Sys2Proof Sys2Proof.Machine Sys2Proof.Laws

/-! ### A move's frame acts (R161, R189, R327) -/

section
variable {s : State} {f : Frame} {request : Bool} {act : State → Frame → State}

theorem moveFrame_of_holding (h : holding s = true) : moveFrame s f request act = .next (settle s) := by
  rw [moveFrame, if_pos (by rw [h]; rfl), done_eq]

theorem moveFrame_of_changing (h : moveKeyWaits s f = true) : moveFrame s f true act = .next (settle s) := by
  rw [moveFrame, if_pos (by rw [h]; simp), done_eq]

section
variable (hh : holding s = false) (hk : (request && moveKeyWaits s f) = false)
include hh hk

theorem moveFrame_of_active (ht : TakenNow s f) :
    moveFrame s f request act = .next (settle (flow (dropTaken (act s f) f))) := by
  rw [moveFrame, if_neg (by rw [hh, hk]; decide), underSet_of_active _ ht, flowDone_eq]

theorem moveFrame_of_old {o : OldSet} (ht : TakenUnder s f o) : moveFrame s f request act =
    .next (settle (flow (putSet (dropTaken (act (putSet s o) f) f) (activeSet s)))) := by
  rw [moveFrame, if_neg (by rw [hh, hk]; decide), underSet_of_old _ ht.1 ht.2, flowDone_eq]

end

end

/-! ### MVREQ (R271) -/

section
variable {s : State} {f : Frame}

theorem mvreq_in_safe (hm : s.code = Mode.safe) : mvreq s f = abortTo s f := if_pos hm

section
variable (hm : s.code ≠ Mode.safe)
include hm

theorem mvreq_of_unlendable
    (h : pageGood s (pageOf (f.line * 64)) = false ∨ eState (storedEntry s (pageOf (f.line * 64))) < 4) :
    mvreq s f = sendMove s f.src 3 f.txid f.tag (f.line * 64) (BitVec.ofNat 512 1) false := by
  unfold mvreq
  refine (if_neg hm).trans (if_pos ?_)
  obtain h | h := h <;> simp [h]

section
variable (hg : pageGood s (pageOf (f.line * 64)) = true) (he : 4 ≤ eState (storedEntry s (pageOf (f.line * 64))))
include hg he

omit hm in
/-- The page of an MVREQ can be lent. -/
theorem mvreq_lendable : ¬ (!pageGood s (pageOf (f.line * 64)) ||
    decide (eState (storedEntry s (pageOf (f.line * 64))) < 4)) = true := by
  simp [hg, Nat.not_lt.2 he]

theorem mvreq_of_busy (hb : pageBusy s (pageOf (f.line * 64)) = true) :
    mvreq s f = sendMove s f.src 3 f.txid f.tag (f.line * 64) (BitVec.ofNat 512 3) false := by
  unfold mvreq
  exact (if_neg hm).trans ((if_neg (mvreq_lendable hg he)).trans (if_pos hb))

section
variable (hb : pageBusy s (pageOf (f.line * 64)) = false)
include hb

theorem mvreq_of_unkeyed (hk : tagSlot s f.tag = none) :
    mvreq s f = abortTo (keyRefused s Src.noKeySelection 0 (pageOf (f.line * 64) * 4096) {}) f := by
  unfold mvreq
  simp only [hk]
  rw [if_neg hm, if_neg (mvreq_lendable hg he), if_neg (Bool.eq_false_iff.1 hb)]

section
variable {v : State} {k n : Nat} (hk : tagSlot s f.tag = some k) (hl : keyLoaded s k = true)
  (hv : v = writeBlock s (pageOf (f.line * 64)))
  (hn : n = allocSet v (storedEntry s (pageOf (f.line * 64))) false 4)
include hk hl hv hn

theorem mvreq_of_no_cells {w : State} (ha : allocate v false n 4 false (pageOf (f.line * 64)) = (w, none)) :
    mvreq s f = sendMove w f.src 3 f.txid f.tag (f.line * 64) (BitVec.ofNat 512 2) false := by
  subst hn hv
  unfold mvreq
  simp only [hk, hl, ha]
  rw [if_neg hm, if_neg (mvreq_lendable hg he), if_neg (Bool.eq_false_iff.1 hb), if_neg (by decide)]

theorem mvreq_of_cells {w : State} {r : Nat} {left : List Run} {x : PeerMove}
    (ha : allocate v false n 4 false (pageOf (f.line * 64)) = (w, some (r, left)))
    (hx : x = { dev := f.src, mid := f.txid, page := pageOf (f.line * 64), tag := f.tag, sending := false, run := r,
                rid := n, since := w.clock, key := k, cset := takenSet w f, release := left }) :
    mvreq s f = sendMove { w with tier := { w.tier with peerMoves := w.tier.peerMoves ++ [x] } }
      f.src 2 f.txid f.tag (pageOf (f.line * 64) * 4096) 0 false := by
  subst hx hn hv
  unfold mvreq
  simp only [hk, hl, ha]
  rw [if_neg hm, if_neg (mvreq_lendable hg he), if_neg (Bool.eq_false_iff.1 hb), if_neg (by decide)]

end

end

end

end

/-! ### MVGET, MVGO, MVREF, MVABT, MVCLR (R272, R505, R530) -/

theorem mvget_of_barred (h : s.code = Mode.safe ∨ pageServable s (pageOf (f.line * 64)) = false ∨
    mapUnread s (pageOf (f.line * 64)) = true ∨ eState (storedEntry s (pageOf (f.line * 64))) = Ent.tr ∨
    pageBusy s (pageOf (f.line * 64)) = true) : mvget s f = abortTo s f := by
  refine if_pos (h.imp_right (Or.imp_left fun g => ?_))
  rw [g]
  rfl

theorem mvget_of_ready {v : State} {k : Nat} {x : PeerMove} (hm : s.code ≠ Mode.safe)
    (hp : pageServable s (pageOf (f.line * 64)) = true) (hu : mapUnread s (pageOf (f.line * 64)) = false)
    (he : eState (storedEntry s (pageOf (f.line * 64))) ≠ Ent.tr) (hb : pageBusy s (pageOf (f.line * 64)) = false)
    (hk : tagSlot s f.tag = some k) (hl : keyLoaded s k = true)
    (hv : v = { (takeId s).1 with tier := { (takeId s).1.tier with peerMoves := (takeId s).1.tier.peerMoves ++ [x] } })
    (hx : x = { dev := f.src, mid := f.txid, page := pageOf (f.line * 64), tag := f.tag, sending := true,
                rid := (takeId s).2, since := (takeId s).1.clock, key := k, cset := takenSet (takeId s).1 f }) :
    mvget s f = submit (dropBuffer v (pageOf (f.line * 64)))
      { mkInternal v (takeId s).2 .move 2 v.devId (pageOf (f.line * 64) * 4096) with tag := f.tag, slot := some k } := by
  subst hx hv
  unfold mvget
  simp only [hk, hl]
  rw [if_neg (by simp [hm, hp, hu, he, hb]), if_neg (by decide)]

/-- The move whose lines an MVGO asks for. -/
abbrev goingMove (s : State) (f : Frame) : Option Move :=
  s.tier.moves.find? (fun m => decide (m.id % 65536 = f.txid ∧ m.phase = 4 ∧ m.dev = f.src))

theorem mvgo_of_move {v : State} {m : Move} {ls : List (Line × Bool)} (h : goingMove s f = some m)
    (hl : (if m.lines ≠ [] then (s, linesOfMap m.lines) else pageNow s m.page (m.key.getD 0) []) = (v, ls)) :
    mvgo s f = sendPage (putMove v { m with phase := 5, npois := poisonCount ls, since := v.clock, lines := [] })
      m.dev m.id m.tag (m.ppage * 4096) ls := by
  simp only [mvgo, h, hl]

theorem moveTurned_of_move {m : Move} {l : List Nat} (h : s.tier.moves.find? (fun m =>
    decide (m.id % 65536 = f.txid ∧ movePeer m = some f.src) && l.contains m.phase) = some m) :
    moveTurned s f l = moveFail s m 2 (newRuns m) := by
  simp only [moveTurned, h]

theorem mvabt_of_mover (h : peerMoveOf s f = none) : mvabt s f = moveTurned s f [3, 4, 5, 6, 7] := by
  simp only [mvabt, h]

section
variable {x : PeerMove} (h : peerMoveOf s f = some x)
include h

theorem mvabt_of_peer : mvabt s f = endPeerMove s x := by
  simp only [mvabt, h]

theorem mvclr_of_open (hd : x.done = false) : mvclr s f = peerDone (putPage s x.page (mkEnt Ent.tz
    (eOwn (storedEntry s x.page)) (eSet (storedEntry s x.page)) 0) 0) x (entryRuns (storedEntry s x.page)) := by
  simp only [mvclr, h, hd, Bool.false_eq_true, if_false]

theorem mvclr_of_done (hd : x.done = true) : mvclr s f = s := by
  simp only [mvclr, h, hd, if_true]

end

theorem peerDone_of_room {v : State} {x : PeerMove} {runs : List Run} (h : pushAll s runs = (v, [])) :
    peerDone s x runs = sendMove (dropPeerMove v x) x.dev 5 x.mid x.tag (x.page * 4096) 0 false := by
  simp only [peerDone, h]

section
variable (hm : s.tier.moves = [])
include hm

theorem mvgo_unmatched : mvgo s f = unmatchedMove s f := by
  simp only [mvgo, hm, List.find?_nil]

theorem moveTurned_unmatched {l : List Nat} : moveTurned s f l = unmatchedMove s f := by
  simp only [moveTurned, hm, List.find?_nil]

theorem mvdone_unmatched : mvdone s f = unmatchedMove s f := by
  simp only [mvdone, hm, List.find?_nil]

theorem mvdata_unmatched (hp : peerMoveOf s f = none) : mvdata s f = unmatchedMove s f := by
  simp only [mvdata, hp, hm, List.find?_nil]

end

theorem mvclr_unmatched (hp : peerMoveOf s f = none) : mvclr s f = unmatchedMove s f := by
  simp only [mvclr, hp]

/-! ### MVDATA and MVDONE (R272, R505) -/

/-- A line that comes to the peer of a move is gathered; the last one stores the page. -/
theorem mvdata_of_peer {v : State} {x y : PeerMove} (h : peerMoveOf s f = some x) (hs : x.sending = false)
    (hd : x.done = false)
    (hy : y = { x with lines := smInsert (smErase x.lines (f.line % 64)) (f.line % 64) (f.data, decide (128 ≤ f.opcode)),
                       since := s.clock })
    (hv : v = { s with tier := { s.tier with peerMoves := s.tier.peerMoves.map (fun z => if z = x then y else z) } }) :
    mvdata s f = if y.lines.length = 64 then peerStore v y else v := by
  subst hv hy
  simp only [mvdata, h, hs, hd, Bool.false_eq_true, or_self, if_false]

/-- The move of this device that a line comes for from its peer. -/
abbrev fetchingMove (s : State) (f : Frame) : Option Move :=
  s.tier.moves.find? (fun m => decide (m.id % 65536 = f.txid ∧ m.phase = 6 ∧ eDev m.old = f.src))

theorem mvdata_of_move {m n : Move} (h : peerMoveOf s f = none) (hm : fetchingMove s f = some m)
    (hn : n = { m with lines := smInsert (smErase m.lines (f.line % 64)) (f.line % 64) (f.data, decide (128 ≤ f.opcode)),
                       since := s.clock }) :
    mvdata s f = if n.lines.length < 64 then putMove s n
      else underSet s m.cset (fun s => moveLines s n (linesOfMap n.lines)) := by
  subst hn
  simp only [mvdata, h, hm]

section
variable {v : State} {m : Move} (h : s.tier.moves.find? (fun m => decide (m.id % 65536 = f.txid)) = some m)
include h

theorem mvdone_of_sent (hp : m.phase = 5) (hd : m.dev = f.src)
    (hv : v = putPage s m.page (BitVec.ofNat 64 (Ent.tr * 2 ^ 61 + eOwn m.old * 2 ^ 56 + eSet m.old * 2 ^ 51 +
      m.dev * 2 ^ 41 + m.ppage * 2 ^ 7)) 0) :
    mvdone s f = moveEnd v m (if m.npois = 0 then 0 else 3) (storedEntry v m.page) m.npois (entryRuns m.old) := by
  subst hv
  simp only [mvdone, h]
  exact if_pos ⟨hp, hd⟩

theorem mvdone_of_fetched (hp : m.phase = 7) (hd : eDev m.old = f.src)
    (hv : v = endLost (setEntry s m.page m.new) m.page) :
    mvdone s f = moveEnd v m (if m.npois = 0 then 0 else 3) (storedEntry v m.page) m.npois m.release := by
  subst hv
  simp only [mvdone, h]
  rw [if_neg fun g => by omega, if_pos ⟨hp, hd⟩]

end

/-! ### Messages (R504) -/

theorem msgFrame_of_room {u : State} {n : Nat} (hu : u = dropTaken s f) (hn : n = f.opcode % 16)
    (h : msgCount (s.core n) < 56) : exec (.msgFrame f) s = .next (settle (u.setCore n ((u.core n).enqueue (u.clock / CLK)
      { kind := 0, snd := 16, sdev := f.src, score := f.txid % 16, spl := f.opcode.testBit 4, data := f.data }))) := by
  subst hu hn
  rw [exec_msgFrame, execMsgFrame, if_pos h, done_eq]

theorem msgFrame_of_full (h : 56 ≤ msgCount (s.core (f.opcode % 16))) :
    exec (.msgFrame f) s = .next (settle s) := by
  rw [exec_msgFrame, execMsgFrame, if_neg (Nat.not_lt.2 h), done_eq]

/-! ### The eight frames, each as the work that it does -/

section
variable (hh : holding s = false) (ht : TakenNow s f)
include hh ht

theorem mvgo_acts : exec (.mvgo f) s = .next (settle (flow (dropTaken (mvgo s f) f))) :=
  (exec_mvgo _ _).trans (moveFrame_of_active hh rfl ht)

theorem mvref_acts : exec (.mvref f) s = .next (settle (flow (dropTaken (moveTurned s f [4]) f))) :=
  (exec_mvref _ _).trans (moveFrame_of_active hh rfl ht)

theorem mvdata_acts : exec (.mvdata f) s = .next (settle (flow (dropTaken (mvdata s f) f))) :=
  (exec_mvdata _ _).trans (moveFrame_of_active hh rfl ht)

theorem mvdone_acts : exec (.mvdone f) s = .next (settle (flow (dropTaken (mvdone s f) f))) :=
  (exec_mvdone _ _).trans (moveFrame_of_active hh rfl ht)

theorem mvclr_acts : exec (.mvclr f) s = .next (settle (flow (dropTaken (mvclr s f) f))) :=
  (exec_mvclr _ _).trans (moveFrame_of_active hh rfl ht)

theorem mvabt_acts : exec (.mvabt f) s = .next (settle (flow (dropTaken (mvabt s f) f))) :=
  (exec_mvabt _ _).trans (moveFrame_of_active hh rfl ht)

section
variable (hk : moveKeyWaits s f = false)
include hk

theorem mvreq_acts : exec (.mvreq f) s = .next (settle (flow (dropTaken (mvreq s f) f))) :=
  (exec_mvreq _ _).trans (moveFrame_of_active hh ((Bool.true_and _).trans hk) ht)

theorem mvget_acts : exec (.mvget f) s = .next (settle (flow (dropTaken (mvget s f) f))) :=
  (exec_mvget _ _).trans (moveFrame_of_active hh ((Bool.true_and _).trans hk) ht)

end

end

end

/-- Settles O51: each frame acts under the set of its taking, by the move that it names and what stands of its page. -/
theorem movesWithPeers : Obligations.MovesWithPeers := by
  unfold Obligations.MovesWithPeers
  refine ⟨?_, ?_, ?_, ?_, ?_, ?_, ?_, ?_, ?_, ?_, ?_, ?_, ?_, ?_, ?_, ?_, ?_, fun _ _ _ _ => peerDone_of_room, ?_, ?_, ?_, ?_,
    ?_, ?_, fun _ _ _ _ => msgFrame_of_room, fun _ _ => msgFrame_of_full⟩
  · intro s f h
    exact ⟨(exec_mvreq _ _).trans (moveFrame_of_holding h), (exec_mvgo _ _).trans (moveFrame_of_holding h),
      (exec_mvref _ _).trans (moveFrame_of_holding h), (exec_mvdata _ _).trans (moveFrame_of_holding h),
      (exec_mvdone _ _).trans (moveFrame_of_holding h), (exec_mvget _ _).trans (moveFrame_of_holding h),
      (exec_mvclr _ _).trans (moveFrame_of_holding h), (exec_mvabt _ _).trans (moveFrame_of_holding h)⟩
  · intro s f h
    exact ⟨(exec_mvreq _ _).trans (moveFrame_of_changing h), (exec_mvget _ _).trans (moveFrame_of_changing h)⟩
  · intro s f o ht hh
    exact ⟨(exec_mvgo _ _).trans (moveFrame_of_old hh rfl ht), (exec_mvdata _ _).trans (moveFrame_of_old hh rfl ht),
      (exec_mvdone _ _).trans (moveFrame_of_old hh rfl ht), (exec_mvclr _ _).trans (moveFrame_of_old hh rfl ht),
      (exec_mvabt _ _).trans (moveFrame_of_old hh rfl ht)⟩
  · intro s f hh ht hk hm
    rw [mvreq_acts hh ht hk, mvreq_in_safe hm]
  · intro s f hh ht hk hm h
    rw [mvreq_acts hh ht hk, mvreq_of_unlendable hm h]
  · intro s f hh ht hk hm hg he hb
    rw [mvreq_acts hh ht hk, mvreq_of_busy hm hg he hb]
  · intro s f hh ht hk hm hg he hb hn
    rw [mvreq_acts hh ht hk, mvreq_of_unkeyed hm hg he hb hn]
  · intro s v f k hh ht hk hm hg he hb hs hl hv w ha
    rw [mvreq_acts hh ht hk, mvreq_of_no_cells hm hg he hb hs hl hv rfl ha]
  · intro s v f k n hh ht hk hm hg he hb hs hl hv hn w r left x ha hx
    rw [mvreq_acts hh ht hk, mvreq_of_cells hm hg he hb hs hl hv hn ha hx]
  · intro s f hh ht hk h
    rw [mvget_acts hh ht hk, mvget_of_barred h]
  · intro s v f k x hh ht hk hm hp hu he hb hs hl hv hx
    rw [mvget_acts hh ht hk, mvget_of_ready hm hp hu he hb hs hl hv hx]
  · intro s v f m ls hh ht hm hl
    rw [mvgo_acts hh ht, mvgo_of_move hm hl]
  · intro s f m hh ht hm h7
    rw [mvref_acts hh ht, moveTurned_of_move hm, newRuns, if_neg h7]
  · intro s f m hh ht hp hm
    rw [mvabt_acts hh ht, mvabt_of_mover hp, moveTurned_of_move hm, newRuns]
  · intro s f x hh ht hx
    rw [mvabt_acts hh ht, mvabt_of_peer hx]
  · intro s f x hh ht hx hd
    rw [mvclr_acts hh ht, mvclr_of_open hx hd]
  · intro s f x hh ht hx hd
    rw [mvclr_acts hh ht, mvclr_of_done hx hd]
  · intro s f hh ht hp hm
    rw [mvgo_acts hh ht, mvref_acts hh ht, mvdata_acts hh ht, mvdone_acts hh ht, mvclr_acts hh ht, mvabt_acts hh ht,
      mvgo_unmatched hm, moveTurned_unmatched hm, mvdata_unmatched hm hp, mvdone_unmatched hm, mvclr_unmatched hp,
      mvabt_of_mover hp, moveTurned_unmatched hm]
    exact ⟨rfl, rfl, rfl, rfl, rfl, rfl⟩
  · intro s f v x y hh ht hx hs hd hy hv
    rw [mvdata_acts hh ht, mvdata_of_peer hx hs hd hy hv]
    exact ⟨fun hl => by rw [if_neg hl], fun hl => by rw [if_pos hl]⟩
  · intro s f m n hh ht hp hm hn hl
    rw [mvdata_acts hh ht, mvdata_of_move hp hm hn, if_pos hl]
  · intro s f m n hh ht hp hm hn hl hc
    rw [mvdata_acts hh ht, mvdata_of_move hp hm hn, if_neg (Nat.not_lt.2 hl), underSet_of_active _ hc]
  · intro s v f m hh ht hm hp hd hv
    rw [mvdone_acts hh ht, mvdone_of_sent hm hp hd hv]
  · intro s v f m hh ht hm hp hd hv
    rw [mvdone_acts hh ht, mvdone_of_fetched hm hp hd hv]

end Sys2Proof.Proofs
end

section
/-! PROOF. The tide and the heartbeats of a pool (spec/14 R506 to R520): TideAndHeartbeat. -/

namespace Sys2Proof.Proofs

open Sys2Proof Sys2Proof.Machine Sys2Proof.Laws

/-! ### TIDE frames (R506 to R511) -/

section
variable {u v : State} {l a k : Nat} {f : Frame}
  (hv : v = { u with tideU := { u.tideU with peerHops := smSet 0 u.tideU.peerHops l (pay f 19 1) } })
include hv

section
variable (hp : inPool v = true)
include hp

theorem tideFrame_at_master (hm : isMaster v = true) : tideFrame u l f a k = v := by
  subst hv
  exact (if_pos hp).trans (if_pos hm)

section
variable (hm : isMaster v = false)
include hm

theorem tideFrame_of_other (hl : u.tideU.parent ≠ some l) :
    tideFrame u l f a k = if genAt v (pay f 0 8) ≠ pay f 8 3 then swapMiss v else v := by
  subst hv
  unfold tideFrame
  refine (if_pos hp).trans ((if_neg (Bool.eq_false_iff.1 hm)).trans ?_)
  rw [if_neg hl]

theorem tideFrame_of_parent (hl : u.tideU.parent = some l) {w : State}
    (hw : w = followParent v f (tideError u l (pay f 0 8) a k)) :
    tideFrame u l f a k = if genAt w (pay f 0 8) ≠ pay f 8 3 then swapMiss w else w := by
  subst hw hv
  unfold tideFrame
  refine (if_pos hp).trans ((if_neg (Bool.eq_false_iff.1 hm)).trans ?_)
  rw [if_pos hl]

end

end

section
variable (hp : inPool v = false)
include hp

theorem tideFrame_forming (hf : (pay f 11 1).testBit 2 = true) : tideFrame u l f a k =
    if v.bit Reg.POOL_CFG 4 then hearCandidate v (pay f 16 2 % 1024, pay f 18 1 % 16) else v := by
  subst hv
  exact (if_neg (Bool.eq_false_iff.1 hp)).trans (if_pos hf)

section
variable (hf : (pay f 11 1).testBit 2 = false)
include hf

theorem tideFrame_joining
    (hb : ((pay f 11 1).testBit 0 && v.bit Reg.POOL_CFG 0 && v.bit Reg.POOL_CFG 1 && decide (role v = 0)) = true) :
    tideFrame u l f a k = beaconJoin v l f (tideError u l (pay f 0 8) a k) := by
  subst hv
  exact (if_neg (Bool.eq_false_iff.1 hp)).trans ((if_neg (Bool.eq_false_iff.1 hf)).trans (if_pos hb))

theorem tideFrame_ignored
    (hb : ((pay f 11 1).testBit 0 && v.bit Reg.POOL_CFG 0 && v.bit Reg.POOL_CFG 1 && decide (role v = 0)) = false) :
    tideFrame u l f a k = v := by
  subst hv
  exact (if_neg (Bool.eq_false_iff.1 hp)).trans
    ((if_neg (Bool.eq_false_iff.1 hf)).trans (if_neg (Bool.eq_false_iff.1 hb)))

end

end

end

theorem tideFrame_exec {s u : State} {l : Fin 32} {f : Frame} {a : Nat} {k : Fin 16}
    (hu : u = tick (dropTaken s f) bTide 0 1) : exec (.tideFrame l f a k) s = .next (settle (tideFrame u l f a k)) := by
  rw [exec_tideFrame, execTideFrame, hu, done_eq]

section
variable {s u : State} (h0 : s.tide % 2 ^ 20 = 0) (hs : s.tideU.sent ≠ some (s.tide / 2 ^ 20))
  (hu : u = { s with tideU := { s.tideU with sent := some (s.tide / 2 ^ 20) } })
include h0 hs hu

/-- In its tide a device sends to its children and in its beacons, or as one that forms a pool. -/
theorem tideFrameSend_due : exec .tideFrameSend s = .next (settle (
    if inPool u then sendTides (sendTides u false false ((childDirs u).filterMap (faceLink u))) true false (beaconLinks u)
    else if u.bit Reg.POOL_CFG 0 && u.bit Reg.POOL_CFG 4 then formingSend u else u)) := by
  subst hu
  rw [exec_tideFrameSend, execTideFrameSend, if_pos ⟨h0, hs⟩, ← done_eq, apply_ite done, apply_ite done]

end

/-! ### The tide's limits and its parent (R511, R513, R515) -/

section
variable {s : State}

theorem tideExpiryActs_of_none : TideExpiryActs s none := by simp [TideExpiryActs]

theorem tideErrorLimit_acts {d : Option Nat} (h : s.tideU.excess.map (fun t => t + 2 ^ 21) = d)
    (ha : TideExpiryActs s d) : exec .tideErrorLimit s = .next (settle (tideErrorLimit s)) := by
  rw [exec_tideErrorLimit, execTideErrorLimit, h, atTide_acts ha, done_eq]

theorem tideParentLost_held {l : Nat} (hp : s.tideU.parent = some l) (hl : readyLink s l = false) (hi : inPool s = true)
    {x : Option Nat} (hx : faceLink s (linkDir l) = x ∧ x ≠ none ∨ faceLink s (linkDir l) = none ∧
      x = (List.range 32).find? (fun k => readyLink s k && decide (smGet 0 s.tideU.peerHops k < s.tideU.hops))) :
    exec .tideParentLost s = .next (settle (raisePool
      ({ s with tideU := { s.tideU with parent := x, holdFrom := s.clock } }.setBit Reg.POOL_STAT 27 true) 9 s.devId)) := by
  rw [exec_tideParentLost]
  simp only [execTideParentLost, hp, hl, hi]
  rw [if_neg (by decide), done_eq]
  obtain ⟨hf, hn⟩ | ⟨hf, rfl⟩ := hx
  · obtain ⟨k, rfl⟩ := Option.ne_none_iff_exists'.1 hn
    simp only [hf]
    rfl
  · simp only [hf]
    rfl

theorem tideParentLost_none (h : s.tideU.parent = none) : exec .tideParentLost s = .next (settle s) := by
  rw [exec_tideParentLost]
  simp only [execTideParentLost, h, done_eq]

theorem tideParentLost_kept {l : Nat} (hp : s.tideU.parent = some l) (h : readyLink s l = true ∨ inPool s = false) :
    exec .tideParentLost s = .next (settle s) := by
  rw [exec_tideParentLost]
  simp only [execTideParentLost, hp]
  rw [if_pos (by obtain h | h := h <;> simp [h]), done_eq]

theorem holdoverEnd_of_parent {l : Nat} (hp : s.tideU.parent = some l) : exec .holdoverEnd s =
    .next (settle (if readyLink s l then s.setBit Reg.POOL_STAT 27 false else s)) := by
  rw [exec_holdoverEnd]
  simp only [execHoldoverEnd, hp, done_eq]

theorem holdoverEnd_of_none (hp : s.tideU.parent = none) : exec .holdoverEnd s = .next (settle s) := by
  rw [exec_holdoverEnd]
  simp only [execHoldoverEnd, hp, done_eq]

theorem tideAlarm_told (h : s.tide < tideAt s ∨ s.tideU.alarmed = some (tideAt s)) : tideAlarm s = s :=
  if_neg fun g => h.elim (fun k => absurd g.1 (Nat.not_le.2 k)) g.2

/-! ### The election (R516) -/

section
variable {t : Word} {i p n : Nat} (hc : s.pool.cand = some (i, p, n))
include hc

theorem masterElection_of_candidate : exec (.masterElection t) s = .next (settle (
    if i = s.devId ∧ 4 ≤ n ∧ role s = 0 ∧ s.bit Reg.POOL_CFG 0 ∧ s.bit Reg.POOL_CFG 4 ∧ masterCapable s then
      applyMemb (setRole (poolEpoch s t) 3) { tide := 0, gen := 1, add := [(poolEpoch s t).devId], remove := [] }
    else s)) := by
  rw [exec_masterElection]
  simp only [execMasterElection, hc]
  rw [← done_eq, apply_ite done]

end

theorem masterElection_of_none {t : Word} (hc : s.pool.cand = none) : exec (.masterElection t) s = .next (settle s) := by
  rw [exec_masterElection]
  simp only [execMasterElection, hc, done_eq]

theorem masterElection_barred {t : Word} (h : role s ≠ 0 ∨ s.bit Reg.POOL_CFG 4 = false) :
    exec (.masterElection t) s = .next (settle s) := by
  cases hc : s.pool.cand with
  | none => exact masterElection_of_none hc
  | some c =>
    rw [masterElection_of_candidate hc, if_neg]
    intro ⟨_, _, hr, _, h4, _⟩
    exact h.elim (fun g => g hr) fun g => Bool.false_ne_true (g.symm.trans h4)

end

/-! ### Heartbeats (R517 to R520) -/

section
variable {s u : State} {f : Frame} (hu : u = dropTaken s f)
include hu

theorem hbeat_of_member (hp : inPool u = true) : exec (.hbeat f) s = .next (settle (poolSend
    (if f.src = masterId u then { u with pool := { u.pool with hbAt := u.tide } } else u) f.src 0x06
    (natBytes 8 (pay f 0 8)))) := by
  subst hu
  rw [exec_hbeat, execHbeat, if_pos hp, done_eq]

theorem hbeat_of_outsider (hp : inPool u = false) : exec (.hbeat f) s = .next (settle u) := by
  subst hu
  rw [exec_hbeat, execHbeat, if_neg (Bool.eq_false_iff.1 hp), done_eq]

theorem hback_unprobing (h : u.pool.probing = none) : exec (.hback f) s = .next (settle
    (if isMaster u then { u with pool := { u.pool with misses := smSet 0 u.pool.misses f.src 0 } } else u)) := by
  subst hu
  rw [exec_hback]
  simp only [execHback, h, done_eq]

theorem hback_probing {t : Nat} {l : List Nat} (h : u.pool.probing = some (t, l)) : exec (.hback f) s = .next (settle
    (if l.contains f.src then u else { u with pool := { u.pool with probing := some (t, l ++ [f.src]) } })) := by
  subst hu
  rw [exec_hback]
  simp only [execHback, h, done_eq]

theorem takeover_of_member (hp : inPool u = true) : exec (.takeover f) s = .next (settle (setParent (memberRole (setMaster
    { u with pool := { u.pool with hbAt := u.tide } } f.src)))) := by
  subst hu
  rw [exec_takeover, execTakeover, if_pos hp, done_eq]

theorem takeover_of_outsider (hp : inPool u = false) : exec (.takeover f) s = .next (settle u) := by
  subst hu
  rw [exec_takeover, execTakeover, if_neg (Bool.eq_false_iff.1 hp), done_eq]

theorem snap_exec : exec (.snap f) s =
    .next (settle (if inPool u then snapSchedule u (pay f 0 8) (pay f 8 1) else u)) := by
  subst hu
  rw [exec_snap, execSnap, done_eq]

end

section
variable {s : State}

theorem heartbeatSend_due {u : State} {o : List Nat} (hm : isMaster s = true) (hp : inPool s = true)
    (hs : s.pool.hbSent ≠ some (s.tide / hbTides)) (ho : o = (members s).filter (fun d => decide (d ≠ s.devId)))
    (hu : u = poolSendAll s 0x05 (natBytes 8 s.tide) o) : exec .heartbeatSend s = .next (settle
      { u with pool := { u.pool with hbSent := some (s.tide / hbTides),
                                     misses := o.foldl (fun m d => smSet 0 m d (smGet 0 m d + 1)) u.pool.misses } }) := by
  subst hu ho
  rw [exec_heartbeatSend, execHeartbeatSend, if_pos (by simp [hm, hp, hs]), done_eq]

theorem heartbeatSend_barred (h : isMaster s = false ∨ inPool s = false ∨ s.pool.hbSent = some (s.tide / hbTides)) :
    exec .heartbeatSend s = .next (settle s) := by
  rw [exec_heartbeatSend, execHeartbeatSend, if_neg (by obtain h | h | h := h <;> simp [h]), done_eq]

theorem heartbeatMissLimit_acts (ha : TideExpiryActs s (some (s.tide / hbTides * hbTides))) :
    exec .heartbeatMissLimit s = .next (settle (heartbeatMissLimit s)) := by
  rw [exec_heartbeatMissLimit, execHeartbeatMissLimit, atTide_acts ha, done_eq]

theorem heartbeatMissLimit_of_lost (hm : isMaster s = true) (hl : lostMembers s ≠ []) :
    heartbeatMissLimit s = judgeQuorum (masterMemb s 0 [] (lostMembers s)) (members s).length :=
  if_pos (by simp [hm, hl])

theorem heartbeatMissLimit_of_none (h : isMaster s = false ∨ lostMembers s = []) : heartbeatMissLimit s = s := by
  refine if_neg ?_
  obtain h | h := h <;> simp [h]

theorem standbyProbeStart_acts (ha : TideExpiryActs s (some (s.pool.hbAt + 4 * hbTides))) :
    exec .standbyProbeStart s = .next (settle (standbyProbe s)) := by
  rw [exec_standbyProbeStart, execStandbyProbeStart, atTide_acts ha, done_eq]

theorem standbyProbe_due (hp : inPool s = true) (hr : role s = 2) (hn : s.pool.probing = none)
    (ht : s.pool.hbAt + 4 * hbTides ≤ s.tide) : standbyProbe s =
      poolSendAll { s with pool := { s.pool with probing := some (s.tide, []) } } 0x05 (natBytes 8 s.tide) (members s) :=
  if_pos (by simp [hp, hr, hn, ht])

theorem standbyProbe_barred (h : inPool s = false ∨ role s ≠ 2 ∨ s.pool.probing.isSome = true ∨
    s.tide < s.pool.hbAt + 4 * hbTides) : standbyProbe s = s := by
  refine if_neg fun g => ?_
  simp only [Bool.and_eq_true, decide_eq_true_eq] at g
  obtain ⟨⟨⟨hp, hr⟩, hn⟩, ht⟩ := g
  obtain h | h | h | h := h
  · exact Bool.false_ne_true (h.symm.trans hp)
  · exact h hr
  · rw [Option.isNone_iff_eq_none.1 hn] at h
    exact Bool.false_ne_true h
  · exact absurd ht (Nat.not_le.2 h)

theorem standbyProbeEnd_acts {d : Option Nat} (h : s.pool.probing.map (fun p => p.1 + 4 * hbTides) = d)
    (ha : TideExpiryActs s d) : exec .standbyProbeEnd s = .next (settle (standbyProbeEnd s)) := by
  rw [exec_standbyProbeEnd, execStandbyProbeEnd, h, atTide_acts ha, done_eq]

section
variable {t : Nat} {l : List Nat} (hp : s.pool.probing = some (t, l))
include hp

theorem standbyProbeEnd_due {u : State} {a : List Nat} (ht : t + 4 * hbTides ≤ s.tide)
    (ha : a = l.filter (fun d => isMember s d && decide (d ≠ s.devId)))
    (hu : u = { s with pool := { s.pool with probing := none } }) : standbyProbeEnd s =
      if (members s).length < 2 * (a.length + 1) then takeOver u a else safeReact u := by
  subst hu ha
  simp only [standbyProbeEnd, hp]
  exact if_pos ht

theorem standbyProbeEnd_early (ht : s.tide < t + 4 * hbTides) : standbyProbeEnd s = s := by
  simp only [standbyProbeEnd, hp]
  exact if_neg (Nat.not_le.2 ht)

end

theorem heartbeatLoss_acts (ha : TideExpiryActs s (some (s.pool.hbAt + 16 * hbTides))) :
    exec .heartbeatLoss s = .next (settle
      (if inPool s && !isMaster s && decide (s.pool.hbAt + 16 * hbTides ≤ s.tide) then noQuorum s else s)) := by
  rw [exec_heartbeatLoss, execHeartbeatLoss, atTide_acts ha, done_eq]

end

/-- Settles O52: a TIDE frame by what the device is to the pool, each timer by its tide, each heartbeat by its sender. -/
theorem tideAndHeartbeat : Obligations.TideAndHeartbeat := by
  unfold Obligations.TideAndHeartbeat
  refine ⟨?_, ?_, ?_, ?_, ?_, ?_, ?_, ?_, ?_, ?_, fun _ _ hp hl hi _ => tideParentLost_held hp hl hi, ?_, ?_,
    fun _ => holdoverEnd_of_none, ?_, ?_, ?_, ?_, ?_, ?_, ?_, fun _ _ _ => hbeat_of_outsider, ?_, ?_, ?_,
    fun _ _ _ => heartbeatSend_due, fun _ => heartbeatSend_barred, ?_, ?_, ?_, ?_, ?_, ?_, ?_, ?_, ?_,
    fun _ _ _ => takeover_of_member, fun _ _ _ => takeover_of_outsider, ?_, ?_⟩
  · intro s u v l f a k hu hv hp hm
    rw [tideFrame_exec hu, tideFrame_at_master hv hp hm]
  · intro s u v l f a k hu hv hp hm hl
    rw [tideFrame_exec hu, tideFrame_of_other hv hp hm hl]
  · intro s u v l f a k hu hv hp hm hl w hw
    rw [tideFrame_exec hu, tideFrame_of_parent hv hp hm hl hw]
  · intro s u v l f a k hu hv hp hf
    rw [tideFrame_exec hu, tideFrame_forming hv hp hf]
  · intro s u v l f a k hu hv hp hf hb
    rw [tideFrame_exec hu, tideFrame_joining hv hp hf hb]
  · intro s u v l f a k hu hv hp hf hb
    rw [tideFrame_exec hu, tideFrame_ignored hv hp hf hb]
  · intro s h
    rw [exec_tideFrameSend, execTideFrameSend, if_neg fun g => h.elim (fun k => k g.1) g.2, done_eq]
  · intro s u h0 hs hu
    rw [tideFrameSend_due h0 hs hu]
    refine ⟨fun hp => by rw [if_pos hp], fun hp h0 h4 => ?_, fun hp h => ?_⟩
    · rw [if_neg (Bool.eq_false_iff.1 hp), if_pos (by rw [h0, h4]; rfl)]
    · rw [if_neg (Bool.eq_false_iff.1 hp), if_neg (by obtain h | h := h <;> simp [h])]
  · intro s t ht ha
    rw [tideErrorLimit_acts (by rw [ht]; rfl) ha, tideErrorLimit, ht]
    exact ⟨fun h => congrArg _ (congrArg _ (if_pos h)), fun h => congrArg _ (congrArg _ (if_neg (Nat.not_le.2 h)))⟩
  · intro s ht
    rw [tideErrorLimit_acts (by rw [ht]; rfl) tideExpiryActs_of_none, tideErrorLimit, ht]
  · intro s h
    exact h.elim tideParentLost_none fun ⟨l, _, hp, hk⟩ => tideParentLost_kept hp hk
  · intro s l hp
    rw [holdoverEnd_of_parent hp]
    exact ⟨fun h => by rw [if_pos h], fun h => by rw [if_neg (Bool.eq_false_iff.1 h)]⟩
  · intro s ht ha
    rw [exec_tideAlarm, execTideAlarm, tideAlarm, if_pos ⟨ht, ha⟩, done_eq]
  · intro s h
    rw [exec_tideAlarm, execTideAlarm, tideAlarm_told h, done_eq]
  · intro s u t p n hc hn hr h0 h4 hm hu
    rw [masterElection_of_candidate hc, if_pos ⟨rfl, hn, hr, h0, h4, hm⟩, hu]
  · intro s u t hu v hv
    subst hv hu
    rfl
  · intro s t h
    exact h.elim masterElection_of_none masterElection_barred
  · intro s u f hu hp hm
    rw [hbeat_of_member hu hp, if_pos hm]
  · intro s u f hu hp hm
    rw [hbeat_of_member hu hp, if_neg hm]
  · intro s u f hu hn hm
    rw [hback_unprobing hu hn, if_pos hm]
  · intro s u f hu hn hm
    rw [hback_unprobing hu hn, if_neg (Bool.eq_false_iff.1 hm)]
  · intro s u f t l hu hp
    rw [hback_probing hu hp]
    exact ⟨fun h => by rw [if_pos h], fun h => by rw [if_neg (Bool.eq_false_iff.1 h)]⟩
  · intro s hm hl ha
    rw [heartbeatMissLimit_acts ha, heartbeatMissLimit_of_lost hm hl]
  · intro s h ha
    rw [heartbeatMissLimit_acts ha, heartbeatMissLimit_of_none h]
  · intro s hp hr hn ht ha
    rw [standbyProbeStart_acts ha, standbyProbe_due hp hr hn ht]
  · intro s h ha
    rw [standbyProbeStart_acts ha, standbyProbe_barred h]
  · intro s u t l a hp ha ht hl hu
    rw [standbyProbeEnd_acts (by rw [hp]; rfl) ha, standbyProbeEnd_due hp ht hl hu]
    exact ⟨fun h => by rw [if_pos h], fun h => by rw [if_neg (Nat.not_lt.2 h)]⟩
  · intro s hp
    rw [standbyProbeEnd_acts (by rw [hp]; rfl) tideExpiryActs_of_none, standbyProbeEnd, hp]
  · intro s t l hp ht
    rw [standbyProbeEnd_acts (by rw [hp]; rfl) (tideExpiryActs_of_early ht), standbyProbeEnd_early hp ht]
  · intro s hp hm ht ha
    rw [heartbeatLoss_acts ha, if_pos (by simp [hp, hm, ht])]
  · intro s h ha
    rw [heartbeatLoss_acts ha, if_neg (by obtain h | h | h := h <;> simp [h])]
  · intro s u f hu hp
    rw [snap_exec hu, if_pos hp]
  · intro s u f hu hp
    rw [snap_exec hu, if_neg (Bool.eq_false_iff.1 hp)]

end Sys2Proof.Proofs
end

section
/-! PROOF. The membership of a pool, its courses and the frames of its set swaps (spec/14 R485 to R526, spec/05 R186 to
R192): PoolMembership. -/

namespace Sys2Proof.Proofs

open Sys2Proof Sys2Proof.Machine Sys2Proof.Laws

/-! ### Joining and leaving (R522, R523) -/

section
variable {s u : State} {f : Frame} (hu : u = dropTaken s f)
include hu

theorem join_at_other (hm : isMaster u = false) : exec (.join f) s = .next (settle u) := by
  subst hu
  rw [exec_join, execJoin, if_pos (by rw [hm]; rfl), done_eq]

section
variable (hm : isMaster u = true)
include hm

theorem join_of_member (hi : isMember u f.src = true) :
    exec (.join f) s = .next (settle (poolSend u f.src 0x03 [1])) := by
  subst hu
  rw [exec_join, execJoin, if_neg (by simp [hm]), if_pos hi, done_eq]

section
variable (hi : isMember u f.src = false)
include hi

theorem join_at_wrong_position (hn : neighboursMatch u f.src = false) :
    exec (.join f) s = .next (settle (raisePool (poolSend u f.src 0x03 [2]) 14 f.src)) := by
  subst hu
  rw [exec_join, execJoin, if_neg (by simp [hm]), if_neg (Bool.eq_false_iff.1 hi), if_pos (by rw [hn]; rfl), done_eq]

section
variable (hn : neighboursMatch u f.src = true)
include hn

theorem join_of_full (hf : topoDX u * topoDY u ≤ (members u).length) :
    exec (.join f) s = .next (settle (poolSend u f.src 0x03 [3])) := by
  subst hu
  rw [exec_join, execJoin, if_neg (by simp [hm]), if_neg (Bool.eq_false_iff.1 hi), if_neg (by simp [hn]), if_pos hf,
    done_eq]

/-- A device that may join gets WELCOME and the membership, and is scheduled as a member, noted when it can be master. -/
theorem join_welcomed (hf : (members u).length < topoDX u * topoDY u) {v w : State} {t g : Nat} (ht : t = aheadTide u)
    (hg : g = (mgen u.draw + 1) % 65536)
    (hv : v = poolSend u.draw f.src 0x02 (natBytes 8 t ++ natBytes 3 (setGen u.draw) ++ natBytes 2 g))
    (hw : w = sendMembs v t g true [f.src] (membParts 41 (members v))) :
    exec (.join f) s = .next (settle (masterMemb (if (pay f 0 1).testBit 4 then
      { w with pool := { w.pool with capable := w.pool.capable ++ [(f.src, pay f 0 1 % 16)] } } else w) t [f.src]
      [])) := by
  subst hw hv hg ht hu
  rw [exec_join, execJoin, if_neg (by simp [hm]), if_neg (Bool.eq_false_iff.1 hi), if_neg (by simp [hn]),
    if_neg (Nat.not_le.2 hf), done_eq]

end

end

end

theorem welcome_of_other (hr : role u ≠ 4) : exec (.welcome f) s = .next (settle u) := by
  subst hu
  rw [exec_welcome, execWelcome, if_neg hr, done_eq]

theorem welcome_of_joining (hr : role u = 4) {v : State} (hv : v = u.setF Reg.PAL_SETSTAT 23 0 (pay f 8 3)) :
    exec (.welcome f) s = .next (settle (takeMemb
      { v with pool := { v.pool with welcome := some (pay f 0 8, pay f 8 3, pay f 11 2) } }
      { tide := pay f 0 8, gen := pay f 11 2, add := [v.devId], remove := [] })) := by
  subst hv hu
  rw [exec_welcome, execWelcome, if_pos hr, done_eq]
  rfl

theorem refuse_exec : exec (.refuse f) s = .next (settle (if role u = 4 then
    raisePool (setRole (ownReference { u with pool := { u.pool with joining := false } }) 0) 13 f.src else u)) := by
  subst hu
  rw [exec_refuse, execRefuse, ← done_eq, apply_ite done]

theorem leave_exec : exec (.leave f) s = .next (settle
    (if isMaster u && isMember u f.src then masterMemb u.draw (aheadTide u) [] [f.src] else u)) := by
  subst hu
  rw [exec_leave, execLeave, ← done_eq, apply_ite done]

end

section
variable {s : State}

theorem poolLeave_of_outsider (hp : inPool s = false) : poolLeave s = s := if_pos (by rw [hp]; rfl)

theorem poolLeave_at_master (hp : inPool s = true) (hm : isMaster s = true) :
    poolLeave s = masterMemb s.draw (aheadTide s) [] [s.devId] :=
  (if_neg (by simp [hp])).trans (if_pos hm)

theorem poolLeave_at_member (hp : inPool s = true) (hm : isMaster s = false) :
    poolLeave s = poolSend (setRole s 5) (masterId s) 0x04 [] :=
  (if_neg (by simp [hp])).trans (if_neg (Bool.eq_false_iff.1 hm))

/-- The write that POOL_LEAVE makes has LEAVE set, whatever the register held. -/
theorem bit_or_leave (w : Word) : bit (w ||| 4#32) 2 = true := by
  rw [bit, BitVec.toNat_or, Nat.testBit_or, Bool.or_eq_true]
  exact Or.inr (by decide)

end

/-! ### Changes of the membership (R521) -/

section
variable {s : State} {c : MembChg}

theorem takeMemb_at_once (h : c.tide = 0) : takeMemb s c = applyMemb s c := if_pos h

theorem takeMemb_scheduled (h : c.tide ≠ 0) :
    takeMemb s c = { s with pool := { s.pool with changes := s.pool.changes ++ [c] } } := if_neg h

theorem dueChange_of_none {t : Nat} (h : s.pool.changes = []) : dueChange s t = none := by
  rw [dueChange, h]
  rfl

section
variable {t : Nat} (h : s.pool.changes = [c])
include h

theorem dueChange_of_due (ht : c.tide ≤ t) : dueChange s t = some c := by
  simp [dueChange, h, ht]

theorem dueChange_of_ahead (ht : t < c.tide) : dueChange s t = none := by
  simp [dueChange, h, Nat.not_le.2 ht]

theorem applyUpTo_of_due (ht : c.tide ≤ t) :
    applyUpTo s t = applyMemb { s with pool := { s.pool with changes := [] } } c := by
  simp only [applyUpTo, h, List.length_singleton, applyDue, dueChange_of_due h ht, List.erase_cons_head]

theorem applyUpTo_of_ahead (ht : t < c.tide) : applyUpTo s t = s := by
  rw [applyUpTo, h, List.length_singleton, applyDue, dueChange_of_ahead h ht]

end

theorem applyUpTo_of_none {t : Nat} (h : s.pool.changes = []) : applyUpTo s t = s := by
  rw [applyUpTo, h]
  rfl

theorem membershipApply_exec : exec .membershipApply s = .next (settle (applyUpTo s s.tide)) := by
  rw [exec_membershipApply, execMembershipApply, done_eq]

end

/-! ### Courses (R496, R498, R503, R525) -/

section
variable {s u : State} {f : Frame} (hu : u = dropTaken s f)
include hu

theorem linkrep_exec : exec (.linkrep f) s = .next (settle (if isMaster u then
    takeReport u f.src (pay f 4 1 % 32) (nfld (pay f 0 4) 28 27)
      (decide (nfld (pay f 0 4) 31 29 = 4 ∨ nfld (pay f 0 4) 31 29 = 5)) else u)) := by
  subst hu
  rw [exec_linkrep, execLinkrep, ← done_eq, apply_ite done]

theorem probe_returned {e : Nat × Nat} (h : u.pool.probe.find? (fun e => decide (e.1 = f.tag)) = some e) :
    exec (.probe f) s = .next (settle { u with pool := { u.pool with
      probe := u.pool.probe.erase e, course := smSet 0 u.pool.course e.1 (u.tide - e.2) } }) := by
  subst hu
  rw [exec_probe]
  simp only [execProbe, h, done_eq]

theorem probe_unmatched (h : u.pool.probe.find? (fun e => decide (e.1 = f.tag)) = none) :
    exec (.probe f) s = .next (settle u) := by
  subst hu
  rw [exec_probe]
  simp only [execProbe, h, done_eq]

end

section
variable {s : State} {l : Fin 32}

theorem courseSeed_exec : exec (.courseSeed l) s = .next (settle (courseSeed s l)) := by
  rw [exec_courseSeed, execCourseSeed, done_eq]

theorem courseSeed_barred (h : isOrigin s l.val = false ∨ linkUp s l.val = false) : courseSeed s l = s :=
  if_neg (by obtain h | h := h <;> simp [h])

section
variable (ho : isOrigin s l.val = true) (hl : linkUp s l.val = true)
include ho hl

/-- With the course's length unknown the origin sends a PROBE. -/
theorem courseSeed_probes (hn : smGet 0 s.pool.course l.val = 0) {u : State}
    (hu : u = { s with pool := { s.pool with probe := s.pool.probe ++ [(l.val, s.tide)] } }) :
    courseSeed s l = launchOn u { ty := 5, dest := u.devId, opcode := 0x10, tag := l } 2 (some l.val) := by
  subst hu
  exact (if_pos (by simp [ho, hl])).trans (if_pos hn)

theorem courseSeed_seeds {n : Nat} (hn : n = smGet 0 s.pool.course l.val) (h0 : n ≠ 0) :
    courseSeed s l = s.setLink l { s.link l with seed := some (0, n, ceilDiv n 16), hold := n } := by
  subst hn
  exact (if_pos (by simp [ho, hl])).trans (if_neg h0)

end

theorem reservedCreditLapse_acts (ha : TideExpiryActs s
    (if s.pool.credits.any (fun c => decide (c.2 + 4096 = s.tide)) then some s.tide else none)) :
    exec .reservedCreditLapse s = .next (settle
      { s with pool := { s.pool with credits := s.pool.credits.filter (fun c => decide (s.tide < c.2 + 4096)) } }) := by
  rw [exec_reservedCreditLapse, execReservedCreditLapse, atTide_acts ha, done_eq]

end

/-! ### The frames of a swap across a pool (R186 to R192, R501) -/

section
variable {s u : State} {f : Frame} (hu : u = dropTaken s f)
include hu

theorem armed_exec : exec (.armed f) s = .next (settle
    (if isMaster u && isMember u f.src then recordArmed u f.src (pay f 8 3) else u)) := by
  subst hu
  rw [exec_armed, execArmed, ← done_eq, apply_ite done]

section
variable {t g : Nat} (ht : t = pay f 0 8) (hg : g = pay f 8 3)
include ht hg

theorem commit_missed (h : t < u.tide + 1250 ∨ setArmed u = false ∨ g ≠ shadowGen u) :
    exec (.commit f) s = .next (settle (swapMiss u)) := by
  subst hg ht hu
  rw [exec_commit, execCommit, if_pos (h.imp_right (Or.imp_left fun k => by rw [k]; rfl)), done_eq]

/-- A COMMIT in time for the armed set commits it, and is acknowledged to the master and to a standby of its own. -/
theorem commit_taken (hl : u.tide + 1250 ≤ t) (ha : setArmed u = true) (hs : g = shadowGen u) (hc : committed u = false)
    {v : State} (hv : v = poolSend (markCommitted u t) (masterId (markCommitted u t)) 0x0C (tideGen t g)) :
    exec (.commit f) s = .next (settle (if standbyId v = masterId v then v
      else if standbyId v = v.devId then { v with pool := { v.pool with cmack := v.pool.cmack ++ [v.devId] } }
      else poolSend v (standbyId v) 0x0C (tideGen t g))) := by
  have hn : ¬ (t < u.tide + 1250 ∨ (!setArmed u) = true ∨ g ≠ shadowGen u) := by
    rintro (h | h | h)
    · exact absurd hl (Nat.not_le.2 h)
    · simp [ha] at h
    · exact h hs
  subst hv hg ht hu
  rw [exec_commit, execCommit, if_neg hn, if_neg (Bool.eq_false_iff.1 hc), done_eq]

end

theorem cmack_exec : exec (.cmack f) s = .next (settle (if u.pool.cmack.contains f.src then u
    else { u with pool := { u.pool with cmack := u.pool.cmack ++ [f.src] } })) := by
  subst hu
  rw [exec_cmack, execCmack, ← done_eq, apply_ite done]

section
variable {t : Nat} (ht : t = pay f 0 8)
include ht

theorem final_of_named (hn : (finalNames f).contains u.devId = true) : exec (.final f) s = .next (settle
    (if u.tide < t then { u with sets := { u.sets with missed := true, commitTide := t } } else swapMiss u)) := by
  subst ht hu
  rw [exec_final, execFinal, if_pos hn, ← done_eq, apply_ite done]

theorem final_of_other (hn : (finalNames f).contains u.devId = false) : exec (.final f) s = .next (settle
    (if u.tide < t then
      { u with sets := { u.sets with excludeAt := u.sets.excludeAt ++ finalNames f, commitTide := t } }
    else excludeAll u (finalNames f))) := by
  subst ht hu
  rw [exec_final, execFinal, if_neg (Bool.eq_false_iff.1 hn), ← done_eq, apply_ite done]

end

theorem poolAbort_exec : exec (.poolAbort f) s = .next (settle (abortSet u).1) := by
  subst hu
  rw [exec_poolAbort, execPoolAbort, done_eq]

theorem calseg_exec : exec (.calseg f) s = .next (settle (if setArmed u || decide (calSegments ≤ pay f 0 2) then u
    else { u with sets := { u.sets with shadow := tabPut u.sets.shadow 0x20 (62 * pay f 0 2) (pay f 2 62) 62 } })) := by
  subst hu
  rw [exec_calseg, execCalseg, ← done_eq, apply_ite done]

end

/-- Settles O53: each frame by what the device is to the pool, and the writes of POOL_CFG by LEAVE. -/
theorem poolMembership : Obligations.PoolMembership := by
  unfold Obligations.PoolMembership
  refine ⟨fun _ _ _ => join_at_other, fun _ _ _ => join_of_member, fun _ _ _ => join_at_wrong_position,
    fun _ _ _ => join_of_full, fun _ _ _ hu hm hi hn hf _ _ _ _ => join_welcomed hu hm hi hn hf,
    fun _ _ _ => welcome_of_other, fun _ _ _ _ hu hr => welcome_of_joining hu hr, ?_, ?_, ?_, ?_, ?_,
    fun _ _ => ⟨takeMemb_at_once, takeMemb_scheduled⟩, ?_, ?_, ?_, ?_, ?_, fun _ _ _ _ hu => probe_returned hu,
    fun _ _ _ => probe_unmatched, ?_, ?_, fun _ => reservedCreditLapse_acts, ?_, ?_,
    fun _ _ _ _ _ hu ht hg => commit_missed hu ht hg, ?_, ?_, ?_, ?_, ?_, ?_, ?_, ?_, ?_, ?_,
    fun _ => ⟨poolLeave_of_outsider, poolLeave_at_master, poolLeave_at_member⟩⟩
  · intro s u f hu hr
    rw [refuse_exec hu, if_pos hr]
  · intro s u f hu hr
    rw [refuse_exec hu, if_neg hr]
  · intro s u f hu hm hi
    rw [leave_exec hu, if_pos (by simp [hm, hi])]
  · intro s u f hu h
    rw [leave_exec hu, if_neg (by obtain h | h := h <;> simp [h])]
  · intro s u f hu
    rw [exec_memb, execMemb, hu, done_eq]
  · intro s c h
    rw [membershipApply_exec]
    exact ⟨fun ht => by rw [applyUpTo_of_due h ht], fun ht => by rw [applyUpTo_of_ahead h ht]⟩
  · intro s h
    rw [membershipApply_exec, applyUpTo_of_none h]
  · intro s u f hu
    rw [exec_route, execRoute, hu, done_eq]
  · intro s u f hu hm
    rw [linkrep_exec hu, if_pos hm]
  · intro s u f hu hm
    rw [linkrep_exec hu, if_neg (Bool.eq_false_iff.1 hm)]
  · intro s l n ho hl hn
    rw [courseSeed_exec]
    exact ⟨fun h => by rw [courseSeed_probes ho hl (hn ▸ h) rfl], fun h => by rw [courseSeed_seeds ho hl hn h]⟩
  · intro s l h
    rw [courseSeed_exec, courseSeed_barred h]
  · intro s u f hu hm hi
    rw [armed_exec hu, if_pos (by simp [hm, hi])]
  · intro s u f hu h
    rw [armed_exec hu, if_neg (by obtain h | h := h <;> simp [h])]
  · intro s u f t g hu ht hg hl ha hs hc v hv
    rw [commit_taken hu ht hg hl ha hs hc hv]
    exact ⟨fun h => by rw [if_pos h], fun h hd => by rw [if_neg h, if_pos hd], fun h hd => by rw [if_neg h, if_neg hd]⟩
  · intro s u f hu h
    rw [cmack_exec hu, if_pos h]
  · intro s u f hu h
    rw [cmack_exec hu, if_neg (Bool.eq_false_iff.1 h)]
  · intro s u f t hu ht hn
    rw [final_of_named hu ht hn]
    exact ⟨fun h => by rw [if_pos h], fun h => by rw [if_neg (Nat.not_lt.2 h)]⟩
  · intro s u f t hu ht hn
    rw [final_of_other hu ht hn]
    exact ⟨fun h => by rw [if_pos h], fun h => by rw [if_neg (Nat.not_lt.2 h)]⟩
  · intro s u f hu
    rw [poolAbort_exec hu]
    refine ⟨fun h => ?_, fun hc ha => by rw [abortSet_of_armed hc ha]⟩
    cases hc : committed u with
    | true => rw [abortSet_of_committed hc]
    | false => rw [abortSet_of_unarmed hc (h.resolve_left (by simp [hc]))]
  · intro s u f hu h
    rw [calseg_exec hu, if_pos (by obtain h | h := h <;> simp [h])]
  · intro s u f hu ha hi
    rw [calseg_exec hu, if_neg (by simp [ha, hi])]
  · intro s u p v h hu
    rw [exec_of_armed h (exec_poolCfgWrite _ _), wrPoolCfg, ← hu]
    exact ⟨fun hb => by rw [if_neg (Bool.eq_false_iff.1 hb)], fun hb => by rw [if_pos hb]⟩
  · intro s u p h hu
    rw [exec_of_armed h (exec_poolLeave _), wrPoolCfg, ← hu, if_pos (bit_or_leave _)]

end Sys2Proof.Proofs
end
